-- ==== Sys2Proof/Word.lean ====
section
/-! DEFINITION. The word types of the NK-7240 and their plainest arithmetic (R6: registers are 32 bits wide). -/

namespace Sys2Proof

/-- A register word (R6). -/
abbrev Word := BitVec 32

/-- A byte of memory. -/
abbrev Byte := BitVec 8

/-- A count of 2⁻⁴⁰ ns, the unit in which both clocks hold their fractions (R43). -/
abbrev Tick := Nat

/-- Addition that stops at `top` (the counters that the spec calls saturating). -/
def satAdd (top a b : Nat) : Nat := min top (a + b)

end Sys2Proof
end

