-- ==== Sys2Proof/Syntax.lean ====
section
/-! DEFINITION. The commands that reach the NK-7240 from outside, one for each row of the opcode table: a write or
a read of a register by an initiator, a message of a link, a frame, a pin, or an event of the block's own engines at
the time at which it comes about. The spec gives the rows no encoding; the operands are the model's (log 2). -/

namespace Sys2Proof

/-- Initiator class of an access (R383, table Initiator classes): 0 Warden, 1 to 4 clusters 0 to 3, 5 ingest,
6 decode, 7 compose, 8 encode, 9 service. -/
abbrev Cls := Fin 10
/-- Head index. -/
abbrev Head := Fin 64
/-- Source index. -/
abbrev Src := Fin 384
/-- Crucible index. -/
abbrev Cru := Fin 4
/-- Decoder engine. -/
abbrev Eng := Fin 8
/-- Lane index, 4 × quad + lane (R315). -/
abbrev Lane := Fin 48

/-- A run of samples of one row of an ST 2110-20 packet, as its sample row data gives it: the row, the first pixel,
and the pixels' component codes in the source's depth. In 4:2:2 an even pixel carries Y, Cb and Cr, and an odd pixel
Y alone (R94, R97). -/
structure SampleRun where
  row : Nat
  x : Nat
  px : List (List Nat)
deriving DecidableEq, Repr

/-- A source packet as the MAC hands it to the Ladle (R93-R99). `seq` is the ST 2110-20 extended sequence number for
transport 2, and the RTP sequence number otherwise. `full`: the receive buffer of R96 is full at its arrival.
`layout` is what the packet shows of its sampling: a code of the table ST 2110-20 formats accepted, or 4 and above
for an interlaced, segmented-frame or other stream. -/
structure SrcPacket where
  path : Bool
  seq : BitVec 32
  ssrc : Word
  marker : Bool
  rtpts : Word
  payload : List Byte
  runs : List SampleRun
  layout : Fin 8
  full : Bool
deriving DecidableEq, Repr

/-- What the Ladle is handed: a media packet, or the sender report of an RTCP packet with its NTP time and its RTP
timestamp (R106), which also goes into the path's ring. -/
inductive LadleInput where
  | media (p : SrcPacket)
  | senderReport (path : Bool) (ntp : BitVec 64) (rtp : Word) (payload : List Byte)
deriving DecidableEq, Repr

/-- A message of the pair link (table Pair-link messages). -/
inductive PairMsg where
  | health (report : List Byte)
  | switchTo (active : Bool) (frame : BitVec 48)
  | heat (num : Word) (epoch : BitVec 48) (corrections : List (Head × Int))
  | bandSeal (h : Head) (frame : BitVec 48) (band : Fin 135) (check : Word)
  | vote (pos : Fin 4) (h : Head) (frame : BitVec 48) (band : Fin 135) (check : Word)
  | loss (s : Src) (rtpts : Word) (lost : List Nat) (tooMany : Bool)
  | ready (s : Src) (rtpts : Word) (ptp : Nat)
  | journal (addr : Nat) (v : Word) (group : Nat) (frame : BitVec 48)
  | dim (h : Head) (req : Fin 4) (frame : BitVec 48)
  | repairRequest (s : Src) (seq : BitVec 32)
  | repairAnswer (s : Src) (seq : BitVec 32) (packet : Option SrcPacket)
  | copy (images : List (Nat × Word))
  | copyEnd (frame : BitVec 48)
  | desk (baselines : List (Nat × Nat))
deriving DecidableEq, Repr

/-- What starts a coded video sequence or an entry (R130): `cra true` is a CRA that the stream makes a start. -/
inductive EntryKind where
  | idr
  | cra (starts : Bool)
  | bla
  | recovery (at_ : Int)
deriving DecidableEq, Repr

/-- What the slice headers of an access unit give the engine at its start (R130, R138, R140): whether it is a
reference picture, its entry kind, its POC, its frame_num (H.264) or POC (HEVC), whether the standard outputs it, and
whether it is a RASL picture. -/
structure AuHead where
  isRef : Bool
  entry : Option EntryKind
  poc : Int
  num : Int
  output : Bool
  rasl : Bool
deriving DecidableEq, Repr

/-- An active parameter set as the table Streams accepted tests it (R123, R127, R146). `compat1` and `compat2` are
HEVC's profile compatibility flags, or constraint_set1_flag in `compat1` for H.264. -/
structure StreamSet where
  hevc : Bool
  profile : Byte
  level : Byte
  tier : Bool
  compat1 : Bool
  compat2 : Bool
  interlaced : Bool
  chroma : Fin 4
  depthY : Fin 17
  depthC : Fin 17
  width : Nat
  height : Nat
  dpb : Nat
  reorder : Bool
  ctb : Fin 3
  scaling : Bool
deriving DecidableEq, Repr

/-- How a 4×4 luma block was predicted (R143): its column and row in blocks, the buffers it was inter-predicted from
with the vertical motion in whole lines rounded toward minus infinity, and the blocks whose samples it was
intra-predicted from. -/
structure BlockPred where
  x : Nat
  y : Nat
  refs : List (Fin 16 × Int)
  intra : List (Nat × Nat)
deriving DecidableEq, Repr

/-- A CTU row as the engine has decoded and filtered it: a parameter set activated in it, references found missing,
the component samples of its lines, the columns of the CTUs it conceals, the slices stopped by syntax errors (first
concealed CTU and how many), reference reads that failed (CTU column and address), and its blocks' predictions. -/
structure CtuRow where
  activate : Option StreamSet
  missing : List Int
  luma : List (List Nat)
  cb : List (List Nat)
  cr : List (List Nat)
  concealed : List Nat
  syntaxErrs : List (Nat × Nat)
  memErrs : List (Nat × BitVec 40)
  blocks : List BlockPred
deriving DecidableEq, Repr

/-- What ends an access unit (R137, R138, R141): the reference marks that the standard's marking leaves, the buffers
that its output process outputs in order, the expected and the computed picture hash if the stream carries one, and
the address of an uncorrectable error in the context's state, which loses the unit. -/
structure AuEnd where
  marks : List (Fin 16 × Fin 4)
  outputs : List (Fin 16)
  hash : Option (Word × Word)
  lost : Option Word
deriving DecidableEq, Repr

/-- What the coder measures of a 64×64 unit (table Statistics record of one unit): mean motion, 16 times the mean SAD
per luma sample, 8×8 blocks coded intra, and whether it holds CTUs skipped under R268. -/
structure EncUnit where
  mvx : Int
  mvy : Int
  cplx : Nat
  intra : Nat
  skipped : Bool
deriving DecidableEq, Repr

/-- A CTU row as the coder has coded it: its bits, and the measures of the row of 64×64 units that it completes. -/
structure EncRow where
  bits : Nat
  units : List EncUnit
deriving DecidableEq, Repr

/-- What a shop response carries beside its status (table Shop operations). -/
inductive ShopResult where
  | empty
  | opened (version : Nat) (nonce : BitVec 128) (session : Word)
  | versions (low high : Nat)
  | health (report : List Byte) (xspStat pairStat : Word)
  | values (l : List (Nat × Word))
  | statuses (l : List Nat)
  | ingots (l : List (List Word × Word))
  | bytes (l : List Byte)
deriving DecidableEq, Repr

/-- The content of a block read of the SMBus port (table SMBus commands). -/
inductive SmbusBlock where
  | identity (step unit pos : Nat) (serial : BitVec 64)
  | status (stage copy rej role score : Nat)
  | temperature (tj : BitVec 16)
  | lastFault (ingot : List Byte)
  | health (report : List Byte)
deriving DecidableEq, Repr

/-- What a sequenced Sprue frame carries (R340): a pair-link message, a vote seal of a shadow head, a time follow-up
(exchange count, t1 and t4 in PTP ns, the server's servo state), octets (a Fihus message or a peer slice), or what the
units' Fihus relay for the shop protocol (R500): a request with the role under which it is served, and its response. -/
inductive SprBody where
  | pair (m : PairMsg)
  | vote (pos : Fin 4) (h : Head) (frame : BitVec 48) (band : Fin 135) (check : Word)
  | followUp (count : Byte) (t1 t4 : Nat) (srv : Fin 4)
  | octets (l : List Byte)
  | shopRequest (type session role : Nat) (payload : List Byte)
  | shopResponse (type session status : Nat) (r : ShopResult)
deriving DecidableEq, Repr

/-- What a DRAM request asks (R353): a read names the enabled 64-byte bursts of a LARGE port's 2 KiB, a write the bytes
that it stores. -/
inductive DramOp where
  | read (en : Word)
  | write (bytes : List (Option Byte))
deriving DecidableEq, Repr

/-- The commands of the NK-7240: one constructor for each row of the opcode table. `dt` is the time since the
command before, in TCLK cycles (log 1). -/
inductive Instr where
  /-- REGISTER_WRITE (R14): A write to a register field that has no row of its own is stored and takes effect as its update class states. -/
  | registerWrite (dt : Nat) (cls : Cls) (addr : BitVec 40) (v : Word) (portB : Option (BitVec 4 × Word))
  /-- CLASS_L_TAKE_EFFECT (R14): Pending class L writes of a block with no governing head, or whose head starts no band, take effect within 16 cycles of the write. -/
  | classLTakeEffect (dt : Nat) (win : Fin 96)
  /-- BAD_WIDTH_ACCESS (R7): An access of the wrong width or alignment to a register window gets an error response and is logged by the Runner matrix. -/
  | badWidthAccess (dt : Nat) (cls : Cls) (addr : BitVec 40) (log2 : Fin 7) (write : Bool)
  /-- DECODE_MISS (R404): An access to an unmapped address or reserved window goes to the default target, gets an error response and is logged. -/
  | decodeMiss (dt : Nat) (cls : Cls) (addr : BitVec 40) (write : Bool)
  /-- SNAPSHOT_TAKE (R47): TIM_SNAP.TAKE copies the PTP and steady clocks of one TCLK cycle into the snapshot registers. -/
  | snapshotTake (dt : Nat) (cls : Cls)
  /-- PTP_SET (R48): A write of TIM_SET_SEC_HI sets the PTP clock, counts as a step and records it. -/
  | ptpSet (dt : Nat) (cls : Cls) (secHi : Word)
  /-- SERVO_UPDATE (R57): A write of TIM_SRV_OFS_HI submits an offset that the servo turns into a step or a new rate trim and state. -/
  | servoUpdate (dt : Nat) (cls : Cls) (ofsHi : Word)
  /-- HOLDOVER_TIMEOUT (R58): HOLD_MS of steady time without an update in ACQUIRE or LOCKED puts the servo into HOLDOVER. -/
  | holdoverTimeout (dt : Nat)
  /-- SERVO_ENABLE_WRITE (R60): A write of TIM_CTL.SRV_EN enables the servo or returns it to FREE. -/
  | servoEnableWrite (dt : Nat) (cls : Cls) (en : Bool)
  /-- SERVO_HOLD_WRITE (R60): A write of TIM_CTL.HOLD forces or releases HOLDOVER while the servo is enabled. -/
  | servoHoldWrite (dt : Nat) (cls : Cls) (hold : Bool)
  /-- MASTER_CHANGE (R59): TIM_MASTER.NEW in ACQUIRE or LOCKED restarts acquisition keeping rate and integral, and is otherwise ignored with WIGN. -/
  | masterChange (dt : Nat) (cls : Cls)
  /-- HEAD_ENABLE (R67): A write of 1 to TIM_HEAD_CTL.EN checks the format and starts the head idling toward its first alignment point. -/
  | headEnable (dt : Nat) (cls : Cls) (h : Head)
  /-- HEAD_DISABLE (R67): A write of 0 to TIM_HEAD_CTL.EN stops the head at the end of the current frame. -/
  | headDisable (dt : Nat) (cls : Cls) (h : Head)
  /-- HEAD_FIRST_FRAME (R67): At the chosen alignment instant the idle ends and the head starts ACT 0 of its first frame. -/
  | headFirstFrame (dt : Nat) (h : Head)
  /-- FRAME_START (R73): At ACT 0 of a head the frame count and alignment index advance and the phase error is measured. -/
  | frameStart (dt : Nat) (h : Head)
  /-- RELOCK_HOLD_END (R71): The re-lock hold ends at the new alignment point and the repeated frame starts. -/
  | relockHoldEnd (dt : Nat) (h : Head)
  /-- BAND_TICK (R73): At ACT 16b the band tick of band b is delivered to the head's Crucible, Fettler and packetizer. -/
  | bandTick (dt : Nat) (h : Head) (band : Fin 135)
  /-- POUR_MARK_UPDATE (R207): At VFP 0 the Fettler sets the pour-mark pattern of the next frame from its frame index. -/
  | pourMarkUpdate (dt : Nat) (h : Head)
  /-- CALENDAR_ENTRY_APPLY (R75): A write of TIM_CAL_ACT applies both words of a calendar entry and checks its position and target. -/
  | calendarEntryApply (dt : Nat) (cls : Cls) (e : Fin 256) (v : Word)
  /-- CALENDAR_FIRE (R74): An armed calendar entry fires at its line and delivers its EVENT to its target. -/
  | calendarFire (dt : Nat) (e : Fin 256)
  /-- LADLE_PACKET (R98): A source packet handed to the Ladle is merged by sequence number, stamped and placed in a pool or ring. -/
  | ladlePacket (dt : Nat) (src : Src) (input : LadleInput)
  /-- MERGE_SKEW_EXPIRY (R101): The SKEW wait for a missing number ends, requesting pair repair or declaring the packet lost. -/
  | mergeSkewExpiry (dt : Nat) (src : Src) (seq : BitVec 32)
  /-- REPAIR_WAIT_EXPIRY (R101): The REPAIR_WAIT for a repaired packet ends and a still missing number is lost. -/
  | repairWaitExpiry (dt : Nat) (src : Src) (seq : BitVec 32)
  /-- PATH_LOSS (R102): A path silent for PATH_LOSS ms clears its path bit and is recorded with 0x1803. -/
  | pathLoss (dt : Nat) (src : Src) (path : Bool)
  /-- FRAME_COMPLETE (R103): A frame whose last packet is accepted and whose numbers are resolved completes, with losses marked. -/
  | frameComplete (dt : Nat) (src : Src)
  /-- FRAME_READY (R114): A completed frame becomes READY in sequence order and the previous newest becomes HELD or FREE. -/
  | frameReady (dt : Nat) (src : Src)
  /-- SOURCE_LATE (R122): A running source with no frame READY for MAXAGE is recorded with code 0x1802. -/
  | sourceLate (dt : Nat) (src : Src)
  /-- SOURCE_ENABLE (R91): A write of 1 to LAD_SRC_CTL.EN checks the source, binds its pool and decoder context and starts it, or refuses it. -/
  | sourceEnable (dt : Nat) (cls : Cls) (src : Src)
  /-- SOURCE_DISABLE (R118): A write of 0 to LAD_SRC_CTL.EN stops the source, frees its filling buffer and unbinds its context. -/
  | sourceDisable (dt : Nat) (cls : Cls) (src : Src)
  /-- RING_TAIL_WRITE (R110): A write of LAD_RING_TAIL releases ring entries, or is ignored with WIGN for a decoder-owned ring. -/
  | ringTailWrite (dt : Nat) (cls : Cls) (ring : Fin 256) (v : Word)
  /-- ACCESS_UNIT_SELECT (R131): When an engine finishes or abandons an access unit it selects the eligible unit with the smallest deadline, switching context. -/
  | accessUnitSelect (dt : Nat) (eng : Eng) (head : AuHead)
  /-- CTU_ROW_DONE (R145): A CTU row is decoded and filtered, marks are set and the rows-ready watermark advances. -/
  | ctuRowDone (dt : Nat) (eng : Eng) (row : CtuRow)
  /-- ACCESS_UNIT_DONE (R138): Decoding of an access unit ends, marks update and the picture becomes READY per the output process. -/
  | accessUnitDone (dt : Nat) (eng : Eng) (fin : AuEnd)
  /-- DECODE_WATCHDOG (R141): An access unit not complete AU_US after decoding began has its remaining CTUs concealed and completes. -/
  | decodeWatchdog (dt : Nat) (eng : Eng) (fin : AuEnd)
  /-- DECODER_ENABLE (R150): A write of 1 to DEC_CTL.EN starts the engine. -/
  | decoderEnable (dt : Nat) (cls : Cls) (eng : Eng)
  /-- DECODER_STOP (R150): A write of 0 to DEC_CTL.EN stops the engine once the access unit in progress ends, resetting its contexts. -/
  | decoderStop (dt : Nat) (cls : Cls) (eng : Eng)
  /-- BAND_COMPOSE_START (R157): Composition of a band starts, sampling source states and checking early-handoff watermarks. -/
  | bandComposeStart (dt : Nat) (h : Head) (band : Fin 135) (errors : List (Fin 96 × Fin 64 × BitVec 40))
  /-- BAND_COMPOSE_DONE (R157): A composed band with its tile tags is handed to the Fettler and the writeback. -/
  | bandComposeDone (dt : Nat) (h : Head) (band : Fin 135)
  /-- COMMIT_INSTANT (R181): At VFP 0 of a lead head the group's pending F fields, buffers and anchored source fields take effect. -/
  | commitInstant (dt : Nat) (cru : Cru) (grp : Fin 16)
  /-- HEAD_SLOT_ENABLE (R155): A write of 1 to CRU_HEAD_MAP.EN checks the slot against the limits and budget and enables or refuses it. -/
  | headSlotEnable (dt : Nat) (cls : Cls) (cru : Cru) (slot : Fin 16)
  /-- WRITEBACK_ENABLE (R186): A write of 1 to CRU_WB_CTL.EN checks the canvas and pool and starts capture, or refuses it. -/
  | writebackEnable (dt : Nat) (cls : Cls) (cru : Cru)
  /-- WRITEBACK_FRAME_READY (R190): A captured frame becomes READY after its last tag is written. -/
  | writebackFrameReady (dt : Nat) (cru : Cru) (failed : Bool)
  /-- BAND_CHECK (R197): At a band's check line the Fettler fixes every tile's verdict from ages and deadlines then in effect. -/
  | bandCheck (dt : Nat) (h : Head) (band : Fin 135) (complete : List (Fin 64))
  /-- FETTLER_HEAD_ENABLE (R194): A write of 1 to FET_HEAD_CTL.EN checks slot, width, mark and ACT and enables or refuses the head. -/
  | fettlerHeadEnable (dt : Nat) (cls : Cls) (h : Head)
  /-- MARK_READBACK (R208): The packetized pour-mark band is compared with the expected cell values. -/
  | markReadback (dt : Nat) (h : Head) (read : Option (List (List Nat)))
  /-- REARM (R210): A write of 1 to FET_HEAD_CTL.REARM clears STOPPED so streams resume at the next frame. -/
  | rearm (dt : Nat) (cls : Cls) (h : Head)
  /-- DIM_REQUEST (R204): A write of FET_HEAD_DIM.REQ asks to light or dim a head at frame F + AHEAD. -/
  | dimRequest (dt : Nat) (cls : Cls) (h : Head) (req : Fin 4)
  /-- FREEZE_TICK (R213): At each whole ms of steady time the freeze and slow flags of tracked sources are evaluated. -/
  | freezeTick (dt : Nat)
  /-- REGION_SIGNATURE_COMPARE (R219): After a window's last line the signature is compared with EXP and SLAGGED is set or cleared. -/
  | regionSignatureCompare (dt : Nat) (win : Fin 512)
  /-- VIDEO_PACKET_SEND (R236): At its scheduled time a video packet is formed, numbered, sealed and sent on each path with its link up. -/
  | videoPacketSend (dt : Nat) (h : Head)
  /-- LIVENESS_PACKET_SEND (R239): At its scheduled time the liveness packet of a band is formed and sent. -/
  | livenessPacketSend (dt : Nat) (h : Head)
  /-- STREAM_ENABLE (R235): A write of 1 to FET_PKT_CTL.EN checks packet geometry and MAC load and arms the stream, or refuses it. -/
  | streamEnable (dt : Nat) (cls : Cls) (h : Head)
  /-- PATH_LINK_DOWN (R252): A path's MAC losing block lock, signal or module takes the path down; its packets are counted and discarded. -/
  | pathLinkDown (dt : Nat) (h : Head) (path : Bool)
  /-- PATH_LINK_RESUME (R252): After the link has been up for 10 ms sending on the path resumes at the next frame start. -/
  | pathLinkResume (dt : Nat) (h : Head) (path : Bool)
  /-- ENCODE_STREAM_ENABLE (R259): A write of 1 to ENC_S_CTL.EN checks the stream and starts it with an IDR, or refuses it. -/
  | encodeStreamEnable (dt : Nat) (cls : Cls) (enc : Fin 2) (stream : Fin 8)
  /-- IDR_REQ (R257): A write of 1 to ENC_S_CTL.IDR_REQ makes the next frame an IDR. -/
  | idrReq (dt : Nat) (cls : Cls) (enc : Fin 2) (stream : Fin 8)
  /-- ENCODER_STOP (R275): ENC_CTL.EN written 0 stops the engine after the frame in progress completes. -/
  | encoderStop (dt : Nat) (cls : Cls) (enc : Fin 2)
  /-- ENCODE_SELECT (R260): When an engine finishes a frame it selects the eligible capture with the earliest arrival, passing older ones over. -/
  | encodeSelect (dt : Nat) (enc : Fin 2)
  /-- ENCODE_FRAME_START (R266): At frame start the stream samples its fields, sets its budget and checks output space. -/
  | encodeFrameStart (dt : Nat) (enc : Fin 2) (headBits : Nat) (errors : List (Nat × BitVec 40))
  /-- ENCODE_ROW_DONE (R267): After a CTU row the ramp offset is updated and remaining rows may be skipped. -/
  | encodeRowDone (dt : Nat) (enc : Fin 2) (row : EncRow)
  /-- ENCODE_FRAME_DONE (R274): A coded access unit is written with its output entry and statistics, and the capture is released. -/
  | encodeFrameDone (dt : Nat) (enc : Fin 2) (lead : List Byte) (code : List Byte)
  /-- PAIR_LINK_CHANGE (R283): The pair link goes up or down as aligned lanes cross 2, recorded with 0x0506. -/
  | pairLinkChange (dt : Nat) (lanes : Fin 5)
  /-- JOIN_WAIT_EXPIRY (R280): JOIN_WAIT ms after first light without a pair link the unit seeks the token or enters STANDBY at LINK_LOST. -/
  | joinWaitExpiry (dt : Nat)
  /-- TOKEN_ACQUIRE (R307): After sampling TAP_OWN_N high for its wait the unit drives the token and becomes ACTIVE. -/
  | tokenAcquire (dt : Nat)
  /-- REFERENCE_TICK (R284): Every 16.667 ms while the reference head is not running a tick stands for its VFP 0 and ACT 0. -/
  | referenceTick (dt : Nat)
  /-- HEALTH_REPORT_SEND (R300): At VFP 0 of the reference head the score is evaluated, missed reports counted and a HEALTH report sent. -/
  | healthReportSend (dt : Nat)
  /-- PAIR_HEALTH (R300): A HEALTH report arrives from the partner and is checked and stored. -/
  | pairHealth (dt : Nat) (report : List Byte)
  /-- PAIR_SWITCH (R304): A SWITCH message names the frame at which both units change role. -/
  | pairSwitch (dt : Nat) (active : Bool) (frame : BitVec 48)
  /-- PAIR_HEAT (R287): A HEAT message is adopted at each head's next frame start with the partner's corrections. -/
  | pairHeat (dt : Nat) (num : Word) (epoch : BitVec 48) (corrections : List (Head × Int))
  /-- PAIR_SEAL (R295): A partner seal is compared with the own seal of the same head, frame and band. -/
  | pairSeal (dt : Nat) (h : Head) (frame : BitVec 48) (band : Fin 135) (check : Word)
  /-- SEAL_UNPAIRED (R295): A seal whose partner seal has not arrived within 2 frames is counted unpaired. -/
  | sealUnpaired (dt : Nat) (h : Head)
  /-- VOTE_FRAME (R298): A VOTE frame from a shadow head on the peer ring is used as voter seal and forwarded to the partner. -/
  | voteFrame (dt : Nat) (pos : Fin 4) (h : Head) (frame : BitVec 48) (band : Fin 135) (check : Word)
  /-- PAIR_VOTE (R298): A forwarded VOTE message is used as the voter seal for its head. -/
  | pairVote (dt : Nat) (pos : Fin 4) (h : Head) (frame : BitVec 48) (band : Fin 135) (check : Word)
  /-- VOTE_TIMEOUT (R297): A voter seal absent 2 frames after the band falls back to the Warden self-check. -/
  | voteTimeout (dt : Nat) (h : Head)
  /-- PAIR_LOSS (R289): A partner LOSS message makes a frame final, its union of losses counting on both units. -/
  | pairLoss (dt : Nat) (src : Src) (rtpts : Word) (lost : List Nat) (tooMany : Bool)
  /-- PAIR_READY (R290): A partner READY message gives the READY time used to agree which frame a commit takes. -/
  | pairReady (dt : Nat) (src : Src) (rtpts : Word) (ptp : Nat)
  /-- AGREE_WAIT_EXPIRY (R291): A partner message missing WAIT_MS after the local event lets the unit go on alone and records 0x0509. -/
  | agreeWaitExpiry (dt : Nat) (src : Src)
  /-- MIRRORED_WRITE (R292): A cluster write on the ACTIVE unit to a mirrored F field is held and sent in a JOURNAL message. -/
  | mirroredWrite (dt : Nat) (cls : Cls) (addr : BitVec 40) (v : Word)
  /-- PAIR_JOURNAL (R293): A JOURNAL message is queued for its target frame, or applied at once and recorded if late. -/
  | pairJournal (dt : Nat) (addr : BitVec 40) (v : Word) (group : Fin 64) (frame : BitVec 48)
  /-- PAIR_DIM (R204): A forwarded dimming request is applied at its target frame index. -/
  | pairDim (dt : Nat) (h : Head) (req : Fin 4) (frame : BitVec 48)
  /-- PAIR_REPAIR_REQUEST (R288): A REPAIR request is answered with the held packet or NONE. -/
  | pairRepairRequest (dt : Nat) (src : Src) (seq : BitVec 32)
  /-- PAIR_REPAIR_ANSWER (R288): A REPAIR answer supplies a missing packet, accepted as if arrived on its path. -/
  | pairRepairAnswer (dt : Nat) (src : Src) (seq : BitVec 32) (packet : Option SrcPacket)
  /-- PAIR_COPY (R311): A COPY message loads mirrored fields on the rejoining unit. -/
  | pairCopy (dt : Nat) (images : List (Nat × Word))
  /-- PAIR_COPY_END (R311): COPY_END names frame f_c; later journal entries apply and the stage becomes CAST. -/
  | pairCopyEnd (dt : Nat) (frame : BitVec 48)
  /-- REJOIN_LOCK_REACHED (R311): A rejoining unit whose servo reaches LOCKED advances to stage HEAT. -/
  | rejoinLockReached (dt : Nat)
  /-- PAIR_DESK (R447): A DESK message stores the active unit's baselines in DSK_MIR. -/
  | pairDesk (dt : Nat) (baselines : List (Nat × Nat))
  /-- SWITCH_TAKE (R304): PAIR_SWITCH.CMD 1 on a STANDBY unit takes the active role at frame F + 2, or is refused. -/
  | switchTake (dt : Nat) (cls : Cls)
  /-- SWITCH_YIELD (R304): PAIR_SWITCH.CMD 2 on the ACTIVE unit yields the role at frame F + 2, or is refused. -/
  | switchYield (dt : Nat) (cls : Cls)
  /-- WARDEN_WATCHDOG_KICK (R308): PAIR_WDOG.KICK on an ACTIVE unit restarts the Warden watchdog. -/
  | wardenWatchdogKick (dt : Nat) (cls : Cls)
  /-- WARDEN_WATCHDOG_EXPIRY (R308): MS ms without a kick makes the unit leave ACTIVE, release the token and record 0x0501. -/
  | wardenWatchdogExpiry (dt : Nat)
  /-- LANE_UP (R320): A lane whose loss detectors both clear comes up and is recorded with 0x4001. -/
  | laneUp (dt : Nat) (lane : Lane)
  /-- LANE_DOWN (R320): Loss of signal or lock takes a lane down and is recorded with 0x4002. -/
  | laneDown (dt : Nat) (lane : Lane) (cause : BitVec 6)
  /-- PLL_UNLOCKED (R317): A quad PLL losing lock holds its lanes down and records 0x4003. -/
  | pllUnlocked (dt : Nat) (quad : Fin 12) (refActive : Bool)
  /-- MAC_FRAME_RECEIVE (R325): A received Ethernet frame is checked, stamped and decided by the quad's filter entries or default action. -/
  | macFrameReceive (dt : Nat) (lane : Lane) (frame : List Byte) (fcsOk : Bool)
  /-- FILTER_ENTRY_APPLY (R327): A write of ETH_F_CFG checks and applies the filter entry, or refuses it. -/
  | filterEntryApply (dt : Nat) (cls : Cls) (quad : Fin 12) (entry : Fin 128) (v : Word)
  /-- MAC_TRANSMIT (R328): A MAC sends the next transmit-ring frame round-robin and writes back DONE and stamp. -/
  | macTransmit (dt : Nat) (lane : Lane)
  /-- SPRUE_LINK_ENABLE (R330): A write of 1 to SPR_K_CTL.EN checks the link and starts its bring-up, or refuses it. -/
  | sprueLinkEnable (dt : Nat) (cls : Cls) (link : Fin 3)
  /-- CAP (R332): A CAP frame from the partner is checked against the own configuration and read for negotiation. -/
  | cap (dt : Nat) (link : Fin 3) (lane : Fin 4) (cap : List Byte)
  /-- GO (R334): GO frames switch both ends to the negotiated rate. -/
  | go (dt : Nat) (link : Fin 3)
  /-- BLIND_TIMEOUT (R334): A blind attempt not aligned within BLIND_MS moves to negotiation or restarts. -/
  | blindTimeout (dt : Nat) (link : Fin 3)
  /-- NEGOTIATION_TIMEOUT (R334): Negotiation without CAP acknowledgement within NEG_MS restarts the bring-up loop. -/
  | negotiationTimeout (dt : Nat) (link : Fin 3)
  /-- RATE_STEP_FAILED (R334): No alignment within 10 ms after a rate switch excludes the rate and records 0x4C04. -/
  | rateStepFailed (dt : Nat) (link : Fin 3)
  /-- REFUSED_RETRY (R333): A refused link restarts its bring-up every 1 s. -/
  | refusedRetry (dt : Nat) (link : Fin 3)
  /-- LANE_ALIGN_CHANGE (R336): A lane gains alignment after 2 good ALIGN markers or loses it after 4 bad ones. -/
  | laneAlignChange (dt : Nat) (link : Fin 3) (lane : Fin 4) (aligned : Bool)
  /-- SPRUE_LINK_DOWN (R339): Lanes below minimum, exhausted replay or EN 0 take the link down and record 0x4C02. -/
  | sprueLinkDown (dt : Nat) (link : Fin 3)
  /-- SPRUE_FRAME_RECEIVE (R338): A sequenced Sprue frame is accepted in order or discarded, delivered to its channel or forwarded on the ring. -/
  | sprueFrameReceive (dt : Nat) (link : Fin 3) (crcOk : Bool) (chan : Byte) (seq : BitVec 16) (ack : BitVec 16) (dest : Fin 16) (body : SprBody)
  /-- NAK (R338): A NAK makes the sender resend all unacknowledged frames in order. -/
  | nak (dt : Nat) (link : Fin 3) (expected : BitVec 16)
  /-- ACK (R338): An ACK frame advances the cumulative acknowledgement and frees send space. -/
  | ack (dt : Nat) (link : Fin 3) (last : BitVec 16)
  /-- REPLAY_TIMEOUT (R338): No acknowledgement advance for 20 µs with frames outstanding resends them. -/
  | replayTimeout (dt : Nat) (link : Fin 3)
  /-- SPRUE_LANE_DOWN (R339): A LANE_DOWN frame at version 1.2 stops striping on the lane at the next ALIGN position. -/
  | sprueLaneDown (dt : Nat) (link : Fin 3) (lane : Fin 4)
  /-- SPRUE_LANE_UP (R339): A LANE_UP frame re-adds a realigned lane at the next ALIGN position. -/
  | sprueLaneUp (dt : Nat) (link : Fin 3) (lane : Fin 4)
  /-- SHARE_ENABLE (R342): A write of 1 to SPR_SH_CFG.EN checks the share and starts sending the source's frames. -/
  | shareEnable (dt : Nat) (cls : Cls) (share : Fin 64)
  /-- PEER_HEAD (R343): A HEAD slice frame starts a frame in the receiving transport-3 source, unless its layout differs. -/
  | peerHead (dt : Nat) (link : Fin 3) (pos : Fin 4) (src : Fin 512) (frame : Word) (header : List Byte) (sec : BitVec 48) (ns : Word) (age : Word)
  /-- PEER_DATA (R343): A DATA slice frame lands pixel rows and advances the receiving pool's watermark. -/
  | peerData (dt : Nat) (link : Fin 3) (pos : Fin 4) (src : Fin 512) (frame : Word) (off : Word) (rows : BitVec 16) (rowmark : BitVec 256) (octets : List Byte)
  /-- PEER_END (R343): An END slice frame carries the final header and completes the shared frame. -/
  | peerEnd (dt : Nat) (link : Fin 3) (pos : Fin 4) (src : Fin 512) (frame : Word) (header : List Byte)
  /-- PEER_ABANDON (R343): An ABANDON slice frame drops the shared frame and records 0x4C06. -/
  | peerAbandon (dt : Nat) (link : Fin 3) (pos : Fin 4) (src : Fin 512) (frame : Word)
  /-- TIME_EXCHANGE (R345): 64 times per steady second a time server sends a TIME block on the link. -/
  | timeExchange (dt : Nat) (link : Fin 3)
  /-- TIME_BLOCK (R345): A TIME block is stamped and answered by the client, or received by the server. -/
  | timeBlock (dt : Nat) (link : Fin 3) (count : Byte)
  /-- TIME_FOLLOW_UP (R345): A follow-up gives the client t1 and t4, from which it computes offset and delay. -/
  | timeFollowUp (dt : Nat) (link : Fin 3) (count : Byte) (t1 : Nat) (t4 : Nat) (srv : Fin 4)
  /-- CAGE_SCAN (R346): Every PERIOD µs the cage chain is loaded and shifted, debouncing inputs and driving transmit disables. -/
  | cageScan (dt : Nat) (inputs : BitVec 64)
  /-- DRAM_REQUEST (R354): A request reaching a DRAM port is Flask-checked, given its deadline and queued. -/
  | dramRequest (dt : Nat) (port : Fin 24) (part : Fin 32) (h : Head) (addr : BitVec 40) (op : DramOp)
  /-- URGENCY_EVAL (R355): Every 8 fabric cycles each pending request's urgency is re-evaluated. -/
  | urgencyEval (dt : Nat)
  /-- DRAM_REQUEST_COMPLETE (R357): A DRAM request completes, with ECC correction, retry or error response, and lateness counted. -/
  | dramRequestComplete (dt : Nat) (sub : Fin 16) (corrected : Fin 33) (bad : Option (Fin 32)) (sampled : Bool)
  /-- REFRESH (R360): Every TREFI_NS an all-bank refresh stalls all subchannels for tRFCab. -/
  | refresh (dt : Nat)
  /-- MR4_READ (R361): Every 16 ms MR4 is read and the refresh interval derated or restored. -/
  | mr4Read (dt : Nat) (readings : List (Fin 8 × Fin 3))
  /-- PAGE_IDLE_CLOSE (R359): An open row idle for IDLE_NS is closed. -/
  | pageIdleClose (dt : Nat) (sub : Fin 16) (bank : Fin 16)
  /-- RDG_WINDOW_END (R364): At the end of each 32 ms window all row-disturbance counts clear. -/
  | rdgWindowEnd (dt : Nat)
  /-- THROTTLE_END (R365): A throttle ends after THROTTLE_MS ms. -/
  | throttleEnd (dt : Nat) (port : Fin 24)
  /-- CHANNEL_SERVICE (R367): MEM_C_CTL.SVC puts a trained channel into service, and READY follows once all are. -/
  | channelService (dt : Nat) (cls : Cls) (channel : Fin 8)
  /-- TRAINED_SET (R367): MEM_C_CTL.TRAINED_SET declares the channel trained. -/
  | trainedSet (dt : Nat) (cls : Cls) (channel : Fin 8)
  /-- MEM_CONTROLLER_DISABLE (R367): MEM_CTL.EN written 0 drains and takes every channel out of service. -/
  | memControllerDisable (dt : Nat) (cls : Cls)
  /-- COMPARATOR_RUN (R369): MEM_C_TRN_CTL.GO writes, reads back and compares a pattern run. -/
  | comparatorRun (dt : Nat) (cls : Cls) (channel : Fin 8)
  /-- COMPARATOR_DONE (R369): A comparator run ends with DONE, per-lane FAIL and ERRS. -/
  | comparatorDone (dt : Nat) (channel : Fin 8) (fail : BitVec 16) (errs : Nat)
  /-- MODE_REGISTER_ACCESS (R369): MEM_C_MR.GO issues one mode-register read or write to a device channel. -/
  | modeRegisterAccess (dt : Nat) (cls : Cls) (channel : Fin 8) (read : Byte) (rfm : Bool)
  /-- DRAM_SCRUB_READ (R374): The DRAM scrubber reads the next 2 KiB block at its rate and counts errors. -/
  | dramScrubRead (dt : Nat) (corrected : Fin 33) (bad : Option (Fin 32))
  /-- SRAM_SCRUB (R376): The SRAM scrubber reads and corrects on-die words, completing a pass every SRAM_S s. -/
  | sramScrub (dt : Nat) (corrected : List Word) (bad : List (Byte × Word))
  /-- BIT_SET_ALIAS_WRITE (R379): A write to the bit-set alias ORs the value into the scratchpad word atomically. -/
  | bitSetAliasWrite (dt : Nat) (cls : Cls) (off : Fin 0x800000) (v : Word) (portB : Option (BitVec 4 × Word))
  /-- BIT_CLEAR_ALIAS_WRITE (R379): A write to the bit-clear alias clears the value's bits in the scratchpad word atomically. -/
  | bitClearAliasWrite (dt : Nat) (cls : Cls) (off : Fin 0x800000) (v : Word) (portB : Option (BitVec 4 × Word))
  /-- TAMPER (R380): TAMPER_N asserted starts or restarts the secure region wipe. -/
  | tamper (dt : Nat)
  /-- SECURE_WIPE_DONE (R380): The secure wipe completes, sets WIPED and records 0x0801. -/
  | secureWipeDone (dt : Nat)
  /-- CLUSTER_RUN_WRITE (R388): The Warden sets or clears WDN_CL_CTL.RUN to start a cluster at address 0 or hold it in reset. -/
  | clusterRunWrite (dt : Nat) (cls : Cls) (cluster : Fin 4) (run : Bool)
  /-- CLUSTER_WATCHDOG_KICK (R389): WDN_CL_WDOG.KICK restarts the cluster watchdog. -/
  | clusterWatchdogKick (dt : Nat) (cls : Cls) (cluster : Fin 4)
  /-- CLUSTER_WATCHDOG_EXPIRY (R389): An unkicked cluster is held in reset, its image verified, and it is restarted or left stopped. -/
  | clusterWatchdogExpiry (dt : Nat) (cluster : Fin 4)
  /-- LOCKSTEP_MISMATCH (R392): A Warden comparator mismatch halts both cores until reset and records 0x3801. -/
  | lockstepMismatch (dt : Nat) (group : Byte) (count : Word)
  /-- SELF_CHECK_PERIOD (R393): Every PERIOD s the Warden starts its self-check. -/
  | selfCheckPeriod (dt : Nat)
  /-- SELF_CHECK_GO (R393): WDN_SC_CTL.GO starts a Warden self-check at once. -/
  | selfCheckGo (dt : Nat) (cls : Cls)
  /-- SELF_CHECK_DONE (R393): A self-check completes, counting a pass or flagging failed steps with 0x3802. -/
  | selfCheckDone (dt : Nat) (mask : Fin 8)
  /-- MAILBOX_RING (R395): WDN_MB_DB.RING submits a mailbox request, or sets OVR while BUSY. -/
  | mailboxRing (dt : Nat) (cls : Cls) (cluster : Fin 4)
  /-- HELLO (R397): The HELLO opcode returns the Warden ABI version, ROM release and stepping. -/
  | mbHello (dt : Nat)
  /-- RELEASE (R487): The RELEASE opcode sets RELEASED and returns SLAGFRAME to image values, or answers status 5. -/
  | mbRelease (dt : Nat)
  /-- SWITCH (R397): The SWITCH opcode writes PAIR_SWITCH.CMD and returns the frame of the role change. -/
  | mbSwitch (dt : Nat)
  /-- FLASK (R398): The FLASK opcode checks a rule set, writes the shadow fields and commits them. -/
  | mbFlask (dt : Nat) (rules : Option (List (BitVec 16 × Word)))
  /-- LOG_CLEAR (R397): The LOG_CLEAR opcode writes the two clear keys to clear the black box. -/
  | mbLogClear (dt : Nat)
  /-- SELF_CHECK (R397): The SELF_CHECK opcode runs the Warden self-check and returns WDN_SC_STAT. -/
  | mbSelfCheck (dt : Nat)
  /-- REPOUR (R490): The REPOUR opcode requests a re-pour from a named copy, or is refused with status 5. -/
  | mbRepour (dt : Nat)
  /-- REMAP_SWAP (R401): A Warden write of SYS_REMAP.SWAP swaps boot ROM and working SRAM once no access is in flight. -/
  | remapSwap (dt : Nat) (cls : Cls) (swap : Bool)
  /-- PORT_GATE (R403): A matrix port idle for IDLE cycles is clock-gated. -/
  | portGate (dt : Nat) (port : Fin 6)
  /-- FLK_COMMIT (R417): A Warden write of FLK_COMMIT fixes the next commit instant, or is ignored if one is pending. -/
  | flkCommit (dt : Nat) (cls : Cls)
  /-- FLASK_COMMIT_INSTANT (R417): At the commit instant all pending rule writes take effect, overlaps are checked and the CRC recorded. -/
  | flaskCommitInstant (dt : Nat) (inflight : Bool)
  /-- FLASK_EPOCH_ADVANCE (R418): When every access allowed under earlier rules has completed, FLK_EPOCH takes the new commit. -/
  | flaskEpochAdvance (dt : Nat)
  /-- PANEL_ENABLE (R421): A write of 1 to DSK_P_CTL.EN checks the panel's pins and starts it, or refuses it. -/
  | panelEnable (dt : Nat) (cls : Cls) (panel : Fin 4)
  /-- DESK_SCAN (R425): A scan completes with counts for every node, driving keys, contacts, baselines and reports. -/
  | deskScan (dt : Nat) (panel : Fin 4) (counts : List (BitVec 16))
  /-- DESK_IDLE_STEP (R428): A panel idle for IDLE_k s moves to rate step k, arming the dim entry at DIM_STEP. -/
  | deskIdleStep (dt : Nat) (panel : Fin 4)
  /-- STUCK (R439): A contact or key down for HOLD_S s is reported STUCK, released and re-baselined. -/
  | stuck (dt : Nat) (panel : Fin 4)
  /-- OCCLUSION_TIMEOUT (R438): A node occluded for OCC_S s takes its count as baseline and rejoins. -/
  | occlusionTimeout (dt : Nat) (panel : Fin 4)
  /-- SNAPSHOT_DUE (R441): Every SAVE_H hours a baseline snapshot of each running panel becomes due. -/
  | snapshotDue (dt : Nat)
  /-- UNPLUG (R446): A debounced panel removal ends its contacts, releases its pins and records 0x1402. -/
  | unplug (dt : Nat) (panel : Fin 4)
  /-- PLUG (R446): 100 ms after a debounced connection the panel reports PLUG and starts at its next burst. -/
  | plug (dt : Nat) (panel : Fin 4)
  /-- INGOT_STAGE (R459): A recorded event is staged as an ingot and may start a flush. -/
  | ingotStage (dt : Nat)
  /-- BATCH_TIMEOUT (R459): The oldest pending ingot waiting BATCH_MS ms starts a flush. -/
  | batchTimeout (dt : Nat)
  /-- INGOT_WRITE (R457): A pending ingot is written to a chosen MRAM slot, or dropped if none qualifies. -/
  | ingotWrite (dt : Nat) (ok : Bool)
  /-- STORE_REBUILD (R456): At start the recorder reads every slot, rebuilds its index and records 0x0601. -/
  | storeRebuild (dt : Nat) (ident : BitVec 16)
  /-- OPTIME_TICK (R453): Every 878,906,250 ns of steady time OPTIME advances. -/
  | optimeTick (dt : Nat)
  /-- POWER_FAIL_FLUSH (R460): A 2 µs falling PFAIL_N writes every pending ingot and a 0x0603 ingot. -/
  | powerFailFlush (dt : Nat) (good : Option Nat)
  /-- PFAIL_RISE (R461): A rising PFAIL_N after a power-fail flush has no effect until reset. -/
  | pfailRise (dt : Nat)
  /-- CURSOR_OLDEST (R463): LOG_CURSOR.CMD 1 places the cursor on the oldest ingot. -/
  | cursorOldest (dt : Nat) (cls : Cls)
  /-- CURSOR_NEWEST (R463): LOG_CURSOR.CMD 2 places the cursor on the newest ingot. -/
  | cursorNewest (dt : Nat) (cls : Cls)
  /-- CURSOR_FIRST_OF_PCYC (R463): LOG_CURSOR.CMD 3 places the cursor on the oldest ingot of the given power cycle. -/
  | cursorFirstOfPcyc (dt : Nat) (cls : Cls) (pcyc : BitVec 24)
  /-- STEP_NEWER (R464): LOG_STEP.DIR 1 moves the cursor to the next larger key, or sets END. -/
  | stepNewer (dt : Nat) (cls : Cls)
  /-- STEP_OLDER (R464): LOG_STEP.DIR 2 moves the cursor to the next smaller key, or sets END. -/
  | stepOlder (dt : Nat) (cls : Cls)
  /-- CURSOR_MOVE_DONE (R463): A cursor move completes and the window holds the ingot's bytes. -/
  | cursorMoveDone (dt : Nat)
  /-- CLEAR_KEY_WRITE (R465): A Warden write of LOG_CLR_KEY advances or breaks the two-word clear sequence. -/
  | clearKeyWrite (dt : Nat) (cls : Cls) (v : Word)
  /-- BLACK_BOX_CLEAR (R466): A valid key sequence empties the old slots, records 0x0604 and zeroes the drop count. -/
  | blackBoxClear (dt : Nat)
  /-- LOG_SUBMIT (R467): LOG_SUB_GO stages a firmware ingot from the submit block, or refuses it with WIGN. -/
  | logSubmit (dt : Nat) (cls : Cls) (k : Fin 5)
  /-- ASSAY_SCAN (R470): ASY_U_CTL.GO scans LEN bytes from ADDR, starting or continuing the check value. -/
  | assayScan (dt : Nat) (cls : Cls) (unit : Fin 4) (cont : Bool)
  /-- ASSAY_SCAN_DONE (R470): An Assay scan completes and ASY_U_RES holds the result. -/
  | assayScanDone (dt : Nat) (unit : Fin 4) (bad : Option Word)
  /-- RESET_ASSERT (R507): RESET_N low puts the part in reset with pins in their reset states. -/
  | resetAssert (dt : Nat)
  /-- RESET_RELEASE (R507): The rising edge of RESET_N samples straps and starts the boot ROM at stage ROM. -/
  | resetRelease (dt : Nat) (unit : Bool) (pos : Fin 4) (powerOn : Bool)
  /-- COPY_VERIFY (R479): The Warden verifies a pattern-image copy and accepts it or rejects it with a reason. -/
  | copyVerify (dt : Nat) (size : Fin 3) (octal : Bool) (err : Option (Fin 12))
  /-- RUN (R477): A RUN record writes its values to consecutive addresses. -/
  | imageRun (dt : Nat) (sect : Fin 12)
  /-- POLL (R477): A POLL record waits until the masked register value matches. -/
  | imagePoll (dt : Nat) (sect : Fin 12)
  /-- POLL_TIMEOUT (R477): A POLL not satisfied within N µs is recorded with 0x1607 and application continues. -/
  | pollTimeout (dt : Nat) (sect : Fin 12)
  /-- DELAY (R477): A DELAY record starts a wait of N µs. -/
  | imageDelay (dt : Nat) (sect : Fin 12)
  /-- DELAY_END (R477): The DELAY wait ends and the next record applies. -/
  | delayEnd (dt : Nat) (sect : Fin 12)
  /-- KEYS (R477): A KEYS record loads shop keys with their roles. -/
  | imageKeys (dt : Nat) (sect : Fin 12)
  /-- END (R477): An END record ends the section. -/
  | sectionEnd (dt : Nat) (sect : Fin 12)
  /-- FIRST_LIGHT (R484): With early sections applied every head sends slag frames and lanes and links start. -/
  | firstLight (dt : Nat)
  /-- DRAM_STAGE (R486): After DRAM is trained and ready, Fihus is loaded and the clusters run. -/
  | dramStage (dt : Nat) (rejected : List (Fin 8 × Fin 4)) (failed : List (Fin 8 × Fin 16 × Word))
  /-- SEAL (R488): XSP_SEAL.GO seals class O fields and STAGE becomes FULL. -/
  | sealStart (dt : Nat) (cls : Cls)
  /-- REPOUR_BEGIN (R491): At the next reference VFP 0 after verification the fabric and switched domains reset and the part restarts at ROM. -/
  | repourBegin (dt : Nat)
  /-- TRIAL_END (R493): After TRIAL_S s at FULL the tried copy becomes PREFER, recorded with 0x1605. -/
  | trialEnd (dt : Nat)
  /-- XSP_READ (R475): XSP_OP READ with GO reads flash bytes into the scratchpad. -/
  | xspRead (dt : Nat) (cls : Cls)
  /-- XSP_PROGRAM (R475): XSP_OP PROGRAM with GO programs a flash page, or is refused under the regions. -/
  | xspProgram (dt : Nat) (cls : Cls)
  /-- XSP_ERASE_4K (R475): XSP_OP ERASE 4 KiB with GO erases a sector, or is refused. -/
  | xspErase4k (dt : Nat) (cls : Cls)
  /-- XSP_ERASE_64K (R475): XSP_OP ERASE 64 KiB with GO erases a block, or is refused. -/
  | xspErase64k (dt : Nat) (cls : Cls)
  /-- FLASH_OP_DONE (R475): A flash operation ends with DONE or ERR and sets OP_DONE. -/
  | flashOpDone (dt : Nat) (err : Bool)
  /-- MGT_FRAME_RECEIVE (R495): A management frame is answered in hardware for ARP or ICMP, passed to the shop ring, or dropped. -/
  | mgtFrameReceive (dt : Nat) (bytes : List Byte) (slot : Byte)
  /-- OPEN (R497): An OPEN message negotiates a version and opens a session with a derived key. -/
  | shopOpen (dt : Nat) (req : Option (BitVec 16 × BitVec 16 × BitVec 128)) (nonce : BitVec 128) (session : Word)
  /-- CLOSE (R498): A CLOSE message ends the session. -/
  | shopClose (dt : Nat)
  /-- HEALTH (R499): A HEALTH shop message returns the health report, XSP_STAT and PAIR_STAT. -/
  | shopHealth (dt : Nat)
  /-- REG_READ (R499): A REG_READ shop message returns register values with per-word status. -/
  | shopRegRead (dt : Nat) (req : Option (List (BitVec 40)))
  /-- REG_WRITE (R499): A REG_WRITE shop message writes register values with per-word status. -/
  | shopRegWrite (dt : Nat) (req : Option (List (BitVec 40 × Word)))
  /-- COMMIT (R499): A COMMIT shop message applies the records of a stored scene. -/
  | shopCommit (dt : Nat) (scene : Option Byte)
  /-- LOG_READ (R499): A LOG_READ shop message moves the cursor and returns up to 32 ingots. -/
  | shopLogRead (dt : Nat) (req : Option (Bool × Word × Byte))
  /-- SHOP_LOG_CLEAR (R499): A LOG_CLEAR shop message passes the keys to cluster 0 for the mailbox clear. -/
  | shopLogClear (dt : Nat) (keys : Option (Word × Word))
  /-- FLASH_ERASE (R499): A FLASH_ERASE shop message erases flash in a copy under the region rules. -/
  | shopFlashErase (dt : Nat) (req : Option (Fin 2 × BitVec 26 × Bool))
  /-- FLASH_WRITE (R499): A FLASH_WRITE shop message programs up to 1024 bytes in a copy. -/
  | shopFlashWrite (dt : Nat) (req : Option (Fin 2 × BitVec 26 × List Byte))
  /-- FLASH_READ (R499): A FLASH_READ shop message returns up to 1024 flash bytes. -/
  | shopFlashRead (dt : Nat) (req : Option (Fin 2 × BitVec 26 × BitVec 11))
  /-- SHOP_REPOUR (R499): A REPOUR shop message requests a re-pour and returns its status. -/
  | shopRepour (dt : Nat) (req : Option (Bool × Bool))
  /-- SESSION_IDLE_TIMEOUT (R498): A session without a valid message for IDLE_S s ends. -/
  | sessionIdleTimeout (dt : Nat)
  /-- SMBUS_IDENTITY (R501): SMBus command 0x01 returns part code, stepping, unit, position and serial. -/
  | smbusIdentity (dt : Nat)
  /-- SMBUS_STATUS (R501): SMBus command 0x02 returns stage, copy, rejections, role and score. -/
  | smbusStatus (dt : Nat)
  /-- SMBUS_TEMPERATURE (R501): SMBus command 0x03 returns the junction temperature. -/
  | smbusTemperature (dt : Nat)
  /-- SMBUS_LAST_FAULT (R501): SMBus command 0x04 returns the newest ingot of severity 4 or more. -/
  | smbusLastFault (dt : Nat)
  /-- SMBUS_HEALTH_REPORT (R501): SMBus command 0x05 returns the last health report sent. -/
  | smbusHealthReport (dt : Nat)
  /-- SMBUS_WRITE (R501): The data byte of any SMBus write is answered NACK. -/
  | smbusWrite (dt : Nat)
  /-- UART_INPUT (R502): UART input reaches the console only while the life-cycle state is not FIELD. -/
  | uartInput (dt : Nat) (bytes : List Byte)
  /-- BYPASS (R503): The JTAG BYPASS instruction selects the bypass register. -/
  | jtagBypass (dt : Nat)
  /-- IDCODE (R503): The JTAG IDCODE instruction returns the part's identification code. -/
  | jtagIdcode (dt : Nat)
  /-- SAMPLE_PRELOAD (R503): The JTAG SAMPLE/PRELOAD instruction captures or loads the boundary register. -/
  | jtagSamplePreload (dt : Nat) (pins load : List Bool)
  /-- EXTEST (R503): The JTAG EXTEST instruction drives every output from the boundary register. -/
  | jtagExtest (dt : Nat)
  /-- BROWNOUT (R509): VDD_CORE or VDD_SRAM below 95 % of minimum for 1 µs starts a power-fail flush and holds the fabric in reset. -/
  | brownout (dt : Nat) (good : Option Nat)
  /-- DOMAIN_REQUEST (R512): A write of PWR_DOM_REQ requests domain changes, refusing forbidden ones. -/
  | domainRequest (dt : Nat) (cls : Cls) (v : Word)
  /-- DOMAIN_SWITCH_OFF (R513): The sequencer stops a domain's blocks, isolates them and removes power, recording 0x0101. -/
  | domainSwitchOff (dt : Nat) (domain : Fin 32) (took : Byte)
  /-- DOMAIN_SWITCH_ON (R513): The sequencer applies power, holds the blocks in reset until stable and releases isolation. -/
  | domainSwitchOn (dt : Nat) (domain : Fin 32) (took : Byte)
  /-- TEMPERATURE_SAMPLE (R522): Every 1 ms SYS_TEMP is updated and compared with the warning and shutdown limits. -/
  | temperatureSample (dt : Nat) (tj : BitVec 16)
  /-- THERMAL_RESTART (R522): Once 20 °C cooler the fabric and domains are reset as in a re-pour. -/
  | thermalRestart (dt : Nat)
  /-- LIFE_CYCLE_ADVANCE (R380): A Warden write of SYS_LC.ADVANCE advances the life-cycle state, wipes the secure region and records 0x0002. -/
  | lifeCycleAdvance (dt : Nat) (cls : Cls)
  /-- REGISTER_READ (R524): A read of a register word returns its value; a read of a _LO word loads the shared latch of its _HI word, and a refused or unmapped read gets an error response. -/
  | registerRead (dt : Nat) (cls : Cls) (addr : BitVec 40) (ecc : Fin 3)
  /-- TOKEN_LINE_CHANGE (R280): The TAP_OWN_N line changes level because the partner drives or releases it, updating TOKEN_LINE and restarting or breaking a unit's token wait. -/
  | tokenLineChange (dt : Nat) (low : Bool)
  /-- PLL_LOCKED (R317): A quad PLL gains lock and releases its lanes from being held down. -/
  | pllLocked (dt : Nat) (quad : Fin 12)
  /-- MGT_LINK_CHANGE (R495): The external PHY's in-band status reports link up or down or a new speed, updating MGT_STAT.LINK and SPEED and setting MGT_EVT.LINK. -/
  | mgtLinkChange (dt : Nat) (up : Bool) (speed : Fin 3)
deriving DecidableEq, Repr

end Sys2Proof
end

