-- ==== Sys2Proof/Config.lean ====
section
/-! DEFINITION. What an implementation of the part fixes, and the free values: constants with no body, so that no
proof can see what they are. -/

namespace Sys2Proof.Config

/-- A free value: the `n`th value that the spec leaves open, `n` counted by `Block.free` (log 3). -/
opaque freeValue : Nat → Word

/-- The boot ROM, 256 KiB, fixed for each stepping (R401). -/
opaque bootRom : Nat → Byte

/-- The payload octets of a Sprue frame whose layout the spec does not give (R340, log 17). -/
opaque bodyBytes : SprBody → List Byte

/-- The payload octets of a relayed shop message and of a shop response, which the spec does not lay out (R499, R500,
log 31). -/
opaque relayOctets : SprBody → List Byte
opaque shopOctets : ShopResult → List Byte

/-- Byte `i` of an SMBus block whose bytes the spec does not place (R501, log 33). -/
opaque smbusByte : SmbusBlock → Nat → Byte

/-- The UDP port of the shop protocol in recovery (R497). -/
opaque recoveryPort : BitVec 16

/-- The part is an NK-7240-AF, with a shutdown temperature of 115 °C; an NK-7240-CF shuts down at 105 °C (R522). -/
opaque gradeA : Bool

/-- The fused key slots: the SHA-256 of the public key that a slot holds, none for a slot that is not fused or is revoked
(R479). -/
opaque fusedKey : Nat → Option (List Byte)

/-- The fused minimum security version (R479), the fused serial number (R497, R501), and Helvoud Nidekor's manufacturer
identity (R503). -/
opaque minSvn : Nat
opaque serial : BitVec 64
opaque jedecId : BitVec 11

end Sys2Proof.Config
end

