-- ==== Sys2Proof/Machine/State.lean ====
section
/-! DEFINITION. The state of the NK-7240 as plain data, the reasons a step can stop, and the state after reset. -/

namespace Sys2Proof.Machine

open Sys2Proof

/-! ## The shape of the register map (R6-R21) -/

/-- A field: the register address of instance 0 in the peripheral space (offset from 0x00_4000_0000), the strides of
its instance indices, its lowest bit and its width. -/
structure Fld where
  addr : Nat
  si : Nat
  sj : Nat
  sk : Nat
  lsb : Nat
  width : Nat
deriving DecidableEq, Repr

/-- Whether a register is a lower word of a multi-word field, or the highest word, with the number of lower words
and the field's bits in this word (R20). -/
inductive Multi where
  | none
  | low
  | high (lower mask : Nat)
deriving DecidableEq, Repr

/-- Whose running state guards a register's class S fields (R14, R18). -/
inductive RunOf where
  | none | servo | head | source | ring | pool | ctx | slot | group | writeback | coef | mould | fetHead | window
  | stream | encStream | lane | mac | link | share | channel | panel | desk | assay | mgt
deriving DecidableEq, Repr

/-- What a write of a register does beside storing its fields: one tag for each register that holds a field with a
row of its own in the opcode table, or whose chapter gives its write an effect. -/
inductive Act where
  | plain | timCtl | timSnap | timSet | timOfs | timMaster | headCtl | calAct | srcCtl | ringTail | ringCfg | decCtl
  | cruCtl | cruMap | wbCtl | fetCtl | fetHeadCtl | fetDim | pktCtl | encCtl | encSCtl | pairSwitch | pairWdog | ethF
  | laneCtl | macCtl | sprK | sprSh | memCtl | memCCtl | memTrn | memMr | clRun | clWdog | scGo | mbDb | remap
  | lcAdvance | flkCommit | dskCtl | panelCtl | logCursor | logStep | clrKey | logSub | asyCtl | xspSeal | xspOp | domReq
  | mgtCtl
deriving DecidableEq, Repr

/-- A register of the map: its name, its address in the peripheral space, the counts and strides of its instances,
its access codes and update classes as bit masks (R11, R14), and its value at reset release (R13). -/
structure RegRow where
  name : String
  addr : Nat
  dims : List (Nat × Nat) := []
  rw : Nat := 0
  ro : Nat := 0
  w1c : Nat := 0
  wo : Nat := 0
  l : Nat := 0
  f : Nat := 0
  s : Nat := 0
  o : Nat := 0
  reset : Nat := 0
  multi : Multi := .none
  /-- Reading this word latches the next word (R524). -/
  latch : Bool := false
  /-- Only the Warden may write it (R32, R391). -/
  warden : Bool := false
  of : RunOf := .none
  act : Act := .plain
deriving DecidableEq, Repr

/-! ## Registers and accesses -/

/-- A write that waits to take effect (R14): the word, the bits it changes and their values; for class L, the
governing head at whose next band it takes effect, if it has one; for class F, the steady time at which it completed
(R17), none for a write that the pair has agreed for its frame (R292). -/
structure Pend where
  addr : Nat
  mask : Word
  val : Word
  head : Option Nat := none
  since : Option Tick := none
deriving DecidableEq, Repr

/-- An event on its way to the recorder: code, severity, origin and parameters (R450). -/
structure Event where
  code : Nat
  sev : Nat
  origin : Nat
  p0 : Word := 0
  p1 : Word := 0
  p2 : Word := 0
  p3 : Word := 0
deriving DecidableEq, Repr

/-- The response to the last access (R7, R404, R413): nothing yet, a write's completion, read data, or an error. -/
inductive Resp where
  | none
  | done
  | data (v : Word)
  | error
deriving DecidableEq, Repr

/-- A store that the command under way has made, to the memory of the address map or to the flash: `erase` bytes from
`addr` go back to what an unlisted byte reads as, then the bytes are written. -/
structure Store where
  flash : Bool := false
  addr : Nat
  erase : Nat := 0
  bytes : List Byte
deriving DecidableEq, Repr

/-! ## Clocks (R42-R45, R61) -/

/-- The PTP clock as seconds, nanoseconds and fraction, and the steady clock, whose fraction is kept in the same
count. Fractions and the steady clock are in units of 2⁻⁴⁰ ns (R43). -/
structure Clk where
  sec : Nat := 0
  ns : Nat := 0
  frac : Nat := 0
  steady : Tick := 0
deriving DecidableEq, Repr

/-- What is held in reset (R507, R509): nothing, the fabric region and the switched domains, or the whole part. -/
inductive Hold where
  | none | fabric | all
deriving DecidableEq, Repr

/-- The memory of the part: the bytes of the address map outside the peripheral windows, and the flash. -/
structure Mem where
  cells : List Host.Cell := []
  flash : List Host.Cell := []
deriving DecidableEq, Repr

/-- Where a head raster stands (R67, R71): stopped, in the idle before the first frame, running, or in a re-lock
hold. -/
inductive RPhase where
  | stopped | idle | running | hold
deriving DecidableEq, Repr

/-- The hidden state of a head raster (R63-R71). -/
structure Raster where
  phase : RPhase := .stopped
  /-- Steady time of the last ACT 0, and of the one before it. -/
  act0 : Tick := 0
  prev : Tick := 0
  /-- Steady time at which the head's enable took effect (R157). -/
  since : Tick := 0
  /-- Slew of the frame under way, 1/256 ln, positive when it is lengthened (R70). -/
  slew : Int := 0
  /-- A re-lock has been decided for the end of this frame (R71). -/
  relock : Bool := false
  /-- The frame under way is a repeated frame (R71). -/
  repeated : Bool := false
  /-- EN was written 0: the head stops at the end of the current frame (R67). -/
  stopping : Bool := false
  /-- Phase error at which the pending re-lock was decided. -/
  eLock : Int := 0
  /-- Steady time at which the frame before the hold ended. -/
  holdFrom : Tick := 0
  /-- The alignment index the idle or the hold waits for. -/
  target : Nat := 0
  /-- The band ticks delivered in the frame under way (R73). -/
  ticks : Nat := 0
  /-- The commit groups, by 16 × Crucible + group, whose instant of the frame under way has been (R73, R181). -/
  commits : List Nat := []
  /-- The pour-mark update of the frame under way has been (R73). -/
  poured : Bool := false
deriving DecidableEq, Repr

/-- The hidden state of a calendar entry: when it was last applied, none for never (R76, R77), and one more than the
frame count in which it last fired, 0 for never. -/
structure CalEntry where
  applied : Option Tick := none
  fired : Nat := 0
deriving DecidableEq, Repr

/-- The hidden state of the TIM block: the servo's count of good updates, the steady time of the later of its last
update and its last entry into ACQUIRE, and the last |o| in ns (R57, R58). -/
structure Tim where
  good : Nat := 0
  since : Tick := 0
  lastAbs : Nat := 0
  rasters : List (Nat × Raster) := []
  cal : List (Nat × CalEntry) := []
deriving DecidableEq, Repr

/-! ## What leaves the part -/

/-- A sequenced frame of a Sprue link (R337-R341): channel, destination mask on the peer ring, whether it is in transit,
content, and its sequence number once it is sent. -/
structure SprFrame where
  chan : Nat
  dest : Nat := 0
  transit : Bool := false
  body : SprBody
  seq : Nat := 0
deriving DecidableEq, Repr

/-- What leaves the part at a command, as far as the spec gives its content. -/
inductive Output where
  /-- An Ethernet frame of a lane's MAC, from its destination address to the octet before the FCS. -/
  | frame (mac : Nat) (bytes : List Byte)
  /-- A sequenced frame on a Sprue link: whether it is a retransmission, its cumulative acknowledgement, and the octets of
  its data blocks (R337). -/
  | sprue (link : Nat) (f : SprFrame) (resent : Bool) (ack : Nat) (octets : List Byte)
  /-- A CAP frame on a lane of a Sprue link (R332). -/
  | cap (link lane : Nat) (bytes : List Byte)
  /-- A management frame on channel 15 (R334-R340): type 2 GO, 3 NAK, 4 ACK, 5 LANE_DOWN, 6 LANE_UP, and what it names
  (the lane of a GO frame, a sequence number, a lane). -/
  | manage (link type arg : Nat)
  /-- A TIME control block on a lane of a Sprue link, with its exchange count (R345). -/
  | timeBlock (link lane count : Nat)
  /-- The management port's answer to an ARP request (R495): to which Ethernet and IPv4 address. -/
  | arp (mac ip : Nat)
  /-- Its answer to an ICMP echo request: to which IPv4 address, and the message behind the checksum (R495). -/
  | echo (ip : Nat) (body : List Byte)
  /-- A shop message (R496): the client's IPv4 address and UDP port, the message's octets, and what its payload spells. -/
  | shop (ip port : Nat) (bytes : List Byte) (r : ShopResult)
  /-- A block read of the SMBus port (R501): command, what its content spells, its bytes, and its PEC. -/
  | smbus (block : SmbusBlock) (bytes : List Byte) (pec : Byte)
  /-- The SMBus port answers NACK to a data byte (R501). -/
  | nack
  /-- What the JTAG port shifts out (R503): the identification code, or the bits that the boundary register captured. -/
  | idcode (v : Word)
  | capture (l : List Bool)
  /-- Every output is driven from the boundary register (R503). -/
  | pins (l : List Bool)
deriving DecidableEq, Repr

/-! ## Sources, pools and rings (R84-R122) -/

/-- A gap of the merge: `n` missing numbers from `lo`, since when the wait under way runs, and whether it is the wait
for pair repair (R101), which the partner has answered NONE (R288). -/
structure Gap where
  lo : Nat
  n : Nat
  since : Tick
  repair : Bool
  answered : Bool := false
deriving DecidableEq, Repr

/-- A packet that the merge has accepted and the Ladle still holds: for its frame's pixels, for its ring entry, or
for the partner's repair requests (R101, R288), with its two stamps (R52) and the step generation. -/
structure HeldPacket where
  pkt : SrcPacket
  ext : Nat
  stamp : Word
  steady : Tick
  gen : Nat
  repaired : Bool
  /-- The ring entry has been written, or none is due; and its loss flag (R111). -/
  ringed : Bool
  loss : Bool := false
  /-- The ring that took it and the index of its entry. -/
  ring : Option (Nat × Nat)
  /-- Steady time from which it is held 10 ms more: that of its frame's READY. -/
  readyAt : Option Tick
deriving DecidableEq, Repr

/-- A frame on its way through the Ladle (R103-R105). -/
structure OpenFrame where
  number : Nat
  rtpts : Word
  /-- The first number after the frame before. -/
  first : Nat
  /-- The last number, once it is known (R93). -/
  last : Option Nat
  /-- The number and the path of its first accepted packet (R111). -/
  seq : Nat
  path : Bool
  ageBase : Int
  arrival : Nat
  stamp : Word
  gen : Nat
  known : Bool
  /-- The pool buffer that it fills (transport 2). -/
  buf : Option Nat
  /-- It is dropped whole, or abandoned (R116, R117). -/
  dropped : Bool
  /-- The numbers lost at completion, or counted as lost since (R101, R289). -/
  lost : List Nat
  /-- Complete under R103, since when; and whether the partner's LOSS message is still awaited (R289, R291). -/
  complete : Option Tick
  awaits : Bool
  /-- A packet of it came through pair repair (R288). -/
  repaired : Bool
deriving DecidableEq, Repr

/-- The hidden state of a source. -/
structure SrcSt where
  highest : Option Nat := none
  /-- The lowest number accepted, and when the first of all was (R101). -/
  lowest : Option (Nat × Tick) := none
  gaps : List Gap := []
  /-- Numbers declared lost whose frame is not complete, rising; and those whose last wait ended at a steady time (R101). -/
  lostNums : List Nat := []
  lostAt : Tick × List Nat := (0, [])
  held : List HeldPacket := []
  frames : List OpenFrame := []
  /-- The next number whose ring entry is due (transports 0 and 1). -/
  nextRing : Option Nat := none
  /-- The first number after the last completed frame. -/
  nextFirst : Option Nat := none
  frameNo : Nat := 0
  /-- When each path last delivered a packet, and whether its loss is recorded (R102). -/
  lastA : Tick := 0
  lastB : Tick := 0
  goneA : Bool := false
  goneB : Bool := false
  /-- The last sender report: NTP time and RTP timestamp (R106). -/
  report : Option (Nat × Nat) := none
  /-- A number whose entry is not in the ring lies before the next entry (R111, FLAGS[6]). -/
  lossNext : Bool := false
  /-- The RTP timestamps of the frames under way whose overrun was recorded (R96). -/
  overran : List Word := []
  /-- The format was refused: nothing more until the source is enabled again (R94). -/
  refused : Bool := false
  lastReady : Tick := 0
  /-- The lateness under way has been recorded. -/
  lateSeen : Bool := false
  lastFrame : Nat := 0
  /-- The partial frame of a peer share while it is arriving (R119-R121): its buffer, frame number and link. -/
  peer : Option (Nat × Nat × Nat) := none
deriving DecidableEq, Repr

/-- States of a pool buffer (table Buffer states). -/
inductive BufState where
  | free | filling | ready | held
deriving DecidableEq, Repr

/-- A pool buffer: its state, and its header's fields (table Buffer header), which the part also writes to DRAM. -/
structure PoolBuf where
  state : BufState := .free
  src : Nat := 0
  ageBase : Int := 0
  arrival : Nat := 0
  rtpts : Nat := 0
  frame : Nat := 0
  cls : Nat := 2
  flags : Nat := 0
  rows : Nat := 0
  fprint : Word := 0
  rowmark : Nat := 0
  /-- Steady and PTP time at which it became READY, and the partner's READY time where it is awaited or known. -/
  readyAt : Tick := 0
  readyPtp : Tick := 0
  peerPtp : Option Tick := none
  awaits : Bool := false
  /-- Rows ready for early handoff while it is FILLING (R121, R145). -/
  rowsReady : Nat := 0
  /-- Its picture was abandoned and layers still use it (R149). -/
  abandoned : Bool := false
deriving DecidableEq, Repr

/-- The buffer of a pool that was the newest READY one until a frame completed: when that was, and its header (R115). -/
structure Shed where
  idx : Nat
  at_ : Tick
  buf : PoolBuf
deriving DecidableEq, Repr

/-- The hidden state of the Ladles. -/
structure Lad where
  srcs : List (Nat × SrcSt) := []
  /-- Pool buffers, by 16 × pool + buffer. -/
  bufs : List (Nat × PoolBuf) := []
  /-- How many moulds, reference marks and captures use a pool buffer. -/
  users : List (Nat × Nat) := []
  /-- The last newest buffer of each pool. -/
  shed : List (Nat × Shed) := []
deriving DecidableEq, Repr

/-! ## Decode engines (R123-R152) -/

/-- The hidden state of a stream context: its source, whether RUN has been reached since binding, the parameter set in
effect, the POC of each buffer it marks, the frame_num or POC of the recovery point, whether RASL pictures are
skipped, the buffers whose pictures wait for output, and the access units that coded those. -/
structure DecCtx where
  src : Nat := 0
  ran : Bool := false
  set : Option StreamSet := none
  pocs : List (Nat × Int) := []
  recoverAt : Option Int := none
  noRasl : Bool := false
  waiting : List Nat := []
  units : List (Nat × OpenFrame) := []
deriving DecidableEq, Repr

/-- The access unit in decode: its context, source, frame number, buffer, head, start of decoding, CTU rows decoded,
degraded 4×4 blocks, CTUs concealed, and whether the whole picture is marked. -/
structure DecPic where
  ctx : Nat
  src : Nat
  frame : Nat
  buf : Nat
  head : AuHead
  start : Tick
  rows : Nat := 0
  bad : List (Nat × Nat) := []
  concealed : Nat := 0
  whole : Bool := false
deriving DecidableEq, Repr

/-- A decode engine: the access unit in decode, the context decoded last, and the busy times of the last second. -/
structure DecEng where
  pic : Option DecPic := none
  last : Option Nat := none
  busy : List (Tick × Tick) := []
deriving DecidableEq, Repr

/-! ## Crucibles (R153-R192) -/

/-- The hidden state of a mould: the source and the buffer it holds, whether that is a picture in decode, its
fallback buffer, and one more than the head frame in which it fell back, 0 for none (R115, R147, R148). -/
structure MouldSt where
  src : Nat := 0
  buf : Option Nat := none
  eh : Bool := false
  fb : Option Nat := none
  fell : Nat := 0
deriving DecidableEq, Repr

/-- A tile tag (table Tile tag). -/
structure Tag where
  oldest : Int := 0
  dl : Nat := 65535
  age : Nat := 0
  worst : Nat := 511
  cls : Nat := 0
  dslag : Bool := false
  eh : Bool := false
  fallback : Bool := false
  static : Bool := false
  missed : Bool := false
  n : Nat := 0
deriving DecidableEq, Repr

/-- What a layer reads for a band: its mould, its source (none: a plate), and the buffer it reads. -/
structure LayerRead where
  mould : Nat
  src : Option Nat
  key : Option Nat
  eh : Bool
  fell : Bool
deriving DecidableEq, Repr

/-- A band in composition: where it is composed, its frame count and alignment index, when its composition started,
what its layers read, its tags and contributor lists, and the tiles a layer's fetch failed in, each with the first of
the free values that stand for the pixels it did not read. -/
structure CompBand where
  cru : Nat
  slot : Nat
  head : Nat
  width : Nat
  bg : Nat × Nat × Nat
  band : Nat
  frame : Nat
  aidx : Nat
  start : Tick
  layers : List LayerRead
  tags : List Tag
  lists : List (List Nat)
  failed : List (Nat × Nat × Nat)
deriving DecidableEq, Repr

/-- A band as the Fettler receives it: tags, contributor lists and lines of 12-bit R'G'B' pixels (R196). -/
structure BandIn where
  head : Nat
  band : Nat
  frame : Nat
  tags : List Tag
  lists : List (List Nat)
  pixels : List (List (Nat × Nat × Nat))
deriving DecidableEq, Repr

/-- A frame in capture: the lead head's alignment index and frame count, its buffer, the bands written, and what its header
gathers (R188). -/
structure WbFrame where
  aidx : Nat
  frame : Nat := 0
  buf : Nat
  bands : List (Nat × Nat) := []
  oldest : Option Int := none
  notLive : Bool := false
  rowmark : Nat := 0
deriving DecidableEq, Repr

/-- The hidden state of a writeback: the lead head's count of the first frame it captures, and the frames in capture. -/
structure WbSt where
  first : Nat := 0
  frames : List WbFrame := []
  /-- Frames dropped whole, so that their later bands start no new capture. -/
  dropped : List Nat := []
deriving DecidableEq, Repr

/-! ## Freeze tracking (R213) -/

/-- The hidden state of a source's freeze tracking: the change time t_chg in steady ns, the READY frames since the
last change, and the steady ns at which FROZEN was set. -/
structure Frz where
  tchg : Int := 0
  /-- Steady ns of the last evaluation. -/
  seen : Nat := 0
  readies : Nat := 0
  frozenAt : Nat := 0
deriving DecidableEq, Repr

/-! ## The Fettler and the packetizers (R193-R253) -/

/-- A band that the Fettler has checked: its frame count, the verdict and the paint of each tile (0 none, 1 flaw
corner, 2 slag hatch), for each tile with a sourced contributor its age and WORST, whether a tile read a picture in
decode or fallback rows, its composed pixels, whether it belongs to a slag frame, and its seal once it is formed. -/
structure CheckedBand where
  band : Nat
  frame : Nat
  verdicts : List Nat
  paints : List Nat
  ages : List (Option (Nat × Nat))
  eh : Bool
  fell : Bool
  pixels : List (List (Nat × Nat × Nat))
  slag : Bool
  sealWord : Option Word := none
deriving DecidableEq, Repr

/-- A request to light or dim a head, with its target frame index, and whether it came late (R204). -/
structure DimReq where
  lit : Bool
  target : Nat
  late : Bool
deriving DecidableEq, Repr

/-- The hidden state of a head in the Fettler and its packetizer. -/
structure FetHead where
  bands : List CheckedBand := []
  /-- The width that the head's last slot had when the slot was disabled (R198). -/
  width : Nat := 0
  /-- The head is hatching, and the hatched tiles of the last frame that had any (R228). -/
  hatching : Bool := false
  lastHatched : Nat := 0
  dims : List DimReq := []
  /-- The Gray count set for the next frame (R207), and the windows hatched in this frame (R219). -/
  nextG : Option Nat := none
  shown : List Nat := []
  /-- The heat under which the frame index was set (R242). -/
  heat : Option Word := none
  /-- The seal under way, the next video packet and the next liveness packet of the frame. -/
  crc : Word := 0xFFFFFFFF
  nextPkt : Nat := 0
  nextAnc : Nat := 0
  /-- The first row of the frame that the Fettler has processed: not 0 in a frame whose processing began within it. -/
  firstRow : Nat := 0
  sentAny : Bool := false
  /-- The release of outputs (R487): 0 not released, 1 waits for band 0's check line, 2 waits for ACT 0, 3 done; and
  the image's SLAGFRAME. -/
  rel : Nat := 0
  imgSlag : Bool := false
  /-- MUTE_PAIR as the PAIR block holds it (R249). -/
  mutePair : Bool := false
  /-- The cycle in which EN, MUTE or MUTE_PAIR last changed, and what they were before it (R250). -/
  ctlWas : Option (Tick × Bool × Bool) := none
  pairWas : Option (Tick × Bool) := none
  /-- A path's link has been up for 10 ms: sending resumes at the next frame start (R252); and the count of dropped
  packets when it went down. -/
  resume : List Bool := [false, false]
  dropAt : List Nat := [0, 0]
  /-- The line of the frame before which the last liveness packet before a stop may leave (R209, R223). -/
  lastLive : Option Nat := none
  /-- One more than the frame count of the last readback. -/
  readFrame : Nat := 0
deriving DecidableEq, Repr

/-- A window's signature under way: the frame, the lines taken, the running CRC, and the frames slagged (R218). -/
structure RswSt where
  frame : Nat := 0
  lines : Nat := 0
  crc : Word := 0xFFFFFFFF
  bad : Nat := 0
deriving DecidableEq, Repr

/-! ## Desk sensing (R421-R449) -/

/-- A finger contact: its identity, centroid, peak column and row, delta, the start of the scan that found it, and
whether it went down in the wake strip (R433, R434, R443). -/
structure Contact where
  id : Nat
  x : Nat
  y : Nat
  col : Nat
  row : Nat
  delta : Int
  since : Tick
  strip : Bool
deriving DecidableEq, Repr

/-- A key: its node, whether it is down, consecutive scans that speak for a change, since when it is down, when its
next repeat is due, its last delta, and whether it went down in the wake strip (R430, R431, R443). -/
structure KeySt where
  node : Nat
  down : Bool := false
  run : Nat := 0
  since : Tick := 0
  next : Tick := 0
  delta : Int := 0
  strip : Bool := false
deriving DecidableEq, Repr

/-- The hidden state of a panel: since when it is idle, a panel start that its next scan makes (0 power-up or enable,
1 plug-in, 2 takeover), the scans due and done of the burst under way, bursts that do not scan before the next that
does, contacts, keys, nodes below −TOUCH_TH with how long, occluded nodes with since when, nodes barred from starting a
contact or key (R439), a snapshot that is due, the last tap's end, the pairs down in the strip together (two identities, the
scan that first found both, recognised), the panel is enabled by R421, the frame whose scan was mirrored, the head of the
calendar entry that started the burst, when that was, and whether the next burst returns to step 0 (R428). -/
structure PanelSt where
  enabled : Bool := false
  idle : Option Tick := none
  start : Option Nat := none
  due : Nat := 0
  scans : Nat := 0
  skip : Nat := 0
  contacts : List Contact := []
  keys : List KeySt := []
  neg : List (Nat × Nat) := []
  occ : List (Nat × Tick) := []
  barred : List Nat := []
  snap : Bool := false
  tap : Option Tick := none
  hold : List (Nat × Nat × Tick × Bool) := []
  mirrored : Nat := 0
  calHead : Nat := 0
  burst : Tick := 0
  zero : Bool := false
deriving DecidableEq, Repr

/-! ## Encoders (R254-R276) -/

/-- A capture that became READY for a stream: its frame count, its buffer, its ARRIVAL, and its header's AGE_BASE and
RTPTS (R188, R260). -/
structure EncCapture where
  frame : Nat
  key : Nat
  arrival : Nat
  ageBase : Int
  rtpts : Nat
deriving DecidableEq, Repr

/-- What a coded stream signals (R258): the level idc, the HEVC tier (false Main), video_full_range_flag, and the codes of its
colour primaries, transfer characteristics and matrix coefficients. -/
structure EncSignal where
  level : Nat
  high : Bool
  fullRange : Bool
  colour : Nat × Nat × Nat
deriving DecidableEq, Repr

/-- The hidden state of an encoder stream: captures not yet selected, oldest first; the coded bits of the frames of its
window, newest first; whether the next frame is an IDR and how many were coded since; the first row forced intra;
whether its first IDR is written; the write offset of its bitstream buffer, its access units not yet freed by ring
index, offset and length; and how many frames it coded. -/
structure EncSt where
  waiting : List EncCapture := []
  bits : List Nat := []
  idr : Bool := true
  since : Nat := 0
  forced : Option Nat := none
  started : Bool := false
  wr : Nat := 0
  outs : List (Nat × Nat × Nat) := []
  coded : Nat := 0
  /-- The captures coded since the last IDR, by FRAME, newest first (R257), and what its bitstream signals (R258). -/
  past : List Nat := []
  signal : Option EncSignal := none
deriving DecidableEq, Repr

/-- The frame in an encode engine: its stream and capture, since when the engine is busy with it, whether coding has
begun, t_e, whether it is an IDR, the captures it predicts from and its slices as first row and rows (R257), the verdicts of
its crop's tiles in raster order, its largest age, the sampled QP fields, FCAP and ROI offsets, the budget, the ramp offset,
the rows and bits coded and the QPs of their CTUs, the first skipped row, where its access unit goes, the samples the next row
is coded from, and its statistics records. -/
structure EncPic where
  stream : Nat
  cap : EncCapture
  since : Tick
  begun : Bool := false
  te : Nat := 0
  idr : Bool := false
  refs : List Nat := []
  slices : List (Nat × Nat) := []
  verdicts : List Nat := []
  age : Nat := 0
  qpb : Int := 0
  qpMin : Nat := 0
  qpMax : Nat := 0
  fcap : Nat := 0
  roi : List (List Int) := []
  budget : Nat := 0
  d : Nat := 0
  row : Nat := 0
  bits : Nat := 0
  qps : List (List Int) := []
  skip : Option Nat := none
  off : Nat := 0
  input : List (List (List Nat)) := []
  stats : List (List Nat) := []
deriving DecidableEq, Repr

/-- An encode engine: the frame under way and the busy times of the last second. -/
structure EncEng where
  pic : Option EncPic := none
  busy : List (Tick × Tick) := []
deriving DecidableEq, Repr

/-! ## The pair (R277-R314) -/

/-- A seal that waits for its partner (R295): head, frame index, band, the seals so far, and since when. -/
structure SealWait where
  head : Nat
  frame : Nat
  band : Nat
  own : Option Word
  peer : Option Word
  since : Tick
deriving DecidableEq, Repr

/-- A divergence that waits for its vote (R297). -/
structure VoteWait where
  head : Nat
  frame : Nat
  band : Nat
  own : Word
  peer : Word
  since : Tick
deriving DecidableEq, Repr

/-- A mirrored write on its way to its frame (R292): address, the bits it changes, value, group, lead head and target
frame index. -/
structure JournalEntry where
  addr : Nat
  mask : Word
  v : Word
  group : Nat
  head : Nat
  target : Nat
deriving DecidableEq, Repr

/-- What the PAIR block counts of a head: by frame index, bands that matched; frames with a band that did not; consecutive
matching frames; and the head's frame index at COPY_END. -/
structure HeadPair where
  good : List (Nat × Nat) := []
  bad : List Nat := []
  clean : Nat := 0
  copyEnd : Nat := 0
deriving DecidableEq, Repr

/-- The hidden state of the PAIR block: a valid report came since the last VFP 0; the heartbeat (0 heard, 1 lost and
waiting for ACT 0, 2 lost and seeking the token); the unit seeks the token after JOIN_WAIT; it awaits the line, and does so
after an agreed handover; the partner drives TAP_OWN_N; since when the line is high; the last kick or entry to ACTIVE; when first
light was; PREF disagreement recorded; ACT 0s of the reference head so far; the frame whose VFP 0 was served, plus 1;
the last reference tick; a role change that is due (count, to ACTIVE, cause of the switch-over or 4 for R281);
consecutive frames of a low active score; when a divergence was last found unresolved; heats formed; a COPY to the
partner is under way, with the journal entries since; heads held for a casting match; heads whose divergence muted
them; journal entries that wait; the target of the last one applied; the partner's join stage. -/
structure PairSt where
  got : Bool := false
  hb : Nat := 0
  joinSeek : Bool := false
  wantToken : Bool := false
  agreed : Bool := false
  partnerLow : Bool := false
  highSince : Option Tick := some 0
  kick : Tick := 0
  lit : Option Tick := none
  prefSeen : Bool := false
  count : Nat := 0
  vfp : Nat := 0
  tick : Tick := 0
  due : Option (Nat × Bool × Nat) := none
  low : Nat := 0
  unres : Option Tick := none
  heats : Nat := 0
  copying : Bool := false
  copied : Nat := 0
  held : List Nat := []
  divMuted : List Nat := []
  journal : List JournalEntry := []
  lastJournal : Nat := 0
  peerStage : Nat := 0
  seals : List SealWait := []
  votes : List VoteWait := []
  selfVotes : List VoteWait := []
  voters : List (Nat × Nat × Nat × Word) := []
  heads : List (Nat × HeadPair) := []
deriving DecidableEq, Repr

/-! ## Lanes and Sprue links (R315-R348) -/

/-- The hidden state of a Sprue link: since when it is in its state (R334); the lanes it uses; the lanes that are
aligned; the lanes on which a CAP that passed R333 was received, and on which the partner reports one received; the
partner's highest version, its rates offered and excluded, and whether it is a time client; the rates excluded here; the
sequence numbers to send next and expected next; a NAK was sent for the gap under way; frames sent and not acknowledged,
oldest first, how often they were resent, and since when the acknowledgement stands; frames that wait to be sent; the
board-time unavailability of this bring-up is recorded; the lanes for which a LANE_UP has come, and has been sent, since they
were last removed;
when this server last began an exchange; the exchange count, t1 of the server's last TIME block, t2 and t3
of the client's, and when exchanges completed. -/
structure SprLink where
  since : Tick := 0
  lanes : Nat := 0
  aligned : Nat := 0
  seen : Nat := 0
  acked : Nat := 0
  peerVer : Nat := 0
  peerRates : Nat := 0
  peerExcl : Nat := 0
  peerClient : Bool := false
  excl : Nat := 0
  nextTx : Nat := 0
  nextRx : Nat := 0
  nak : Bool := false
  unacked : List SprFrame := []
  resends : Nat := 0
  ackAt : Tick := 0
  waiting : List SprFrame := []
  noTime : Bool := false
  crossed : Nat := 0
  told : Nat := 0
  timeAt : Option Tick := none
  count : Nat := 0
  t1 : Nat := 0
  t2 : Nat := 0
  t3 : Nat := 0
  done : List Tick := []
deriving DecidableEq, Repr

/-- The hidden state of a share entry: the frame that is being sent (its number, its buffer's key, and the stored rows
sent so far). -/
structure ShareSt where
  cur : Option (Nat × Nat × Nat) := none
deriving DecidableEq, Repr

/-- The hidden state of the lanes: the slot of each MAC's transmit rings whose turn it is, the input bits of the last two
scans of the cage chain, newest first, and when the last scan began (R328, R346, R347). -/
structure LaneSt where
  turn : List (Nat × Nat) := []
  scans : List Nat := []
  scanAt : Option Tick := none
deriving DecidableEq, Repr

/-! ## DRAM and on-chip memory (R349-R382) -/

/-- A request at a DRAM port (R353-R357): port, address, the bytes of a write (none: not enabled) or none for a read, its
deadline and its port's target in ticks, its urgency, whether it waits in its port at urgency 3, whether it is served and
waits for earlier ones of its port, the bursts that it transfers, and the response that it returns to a core. -/
structure DramReq where
  port : Nat
  addr : Nat
  len : Nat
  wr : Option (List (Option Byte))
  deadline : Tick
  target : Nat
  urg : Nat := 0
  waits : Bool := false
  served : Bool := false
  bursts : List Nat := []
  resp : Resp := .none
deriving DecidableEq, Repr

/-- A DRAM bank: the row left open, the 2-bit prediction counter, and the last access (R359). The rule gives the counter no
reset value: 2 (log 54), since a bank whose counter is below 2 leaves no row open that could be hit. -/
structure DramBank where
  row : Option Nat := none
  ctr : Nat := 2
  last : Tick := 0
deriving DecidableEq, Repr

/-- A row of the disturbance guard's table of a bank: row, count, port of its last sampled activation (R364). -/
structure GuardRow where
  row : Nat
  count : Nat
  port : Nat
deriving DecidableEq, Repr

/-- A port throttled on a subchannel: until when, and its last activation (R365). -/
structure Throttle where
  port : Nat
  sub : Nat
  until_ : Tick
  last : Tick
deriving DecidableEq, Repr

/-- A wipe of the secure region under way: since when, and the parameters of its record (R380). -/
structure Wipe where
  since : Tick
  cause : Nat
  old : Nat
  new : Nat
deriving DecidableEq, Repr

/-- The hidden state of the memory blocks: requests in order of arrival; banks and guard tables by 16 × subchannel + bank,
subchannels counted 2 × channel + subchannel; throttles; consecutive MR4 readings of 1×; bytes moved by each port with
when; the DRAM scrubber's next offset; corrections of each scrubber with when; SRAM words corrected with when; channels
whose comparator runs; the secure wipe under way; when the last refresh began; the 16 ms period of the last MR4 reading and
the 32 ms window of the guard's counts, by number; when each scrubber last read; the devices' mode registers as last written
or read, by 256 × subchannel + register. -/
structure MemSt where
  reqs : List DramReq := []
  banks : List (Nat × DramBank) := []
  guard : List (Nat × List GuardRow) := []
  throttles : List Throttle := []
  clean : Nat := 0
  moved : List (Nat × Nat × Tick) := []
  scrub : Nat := 0
  dramCorr : List (Nat × Tick) := []
  sramCorr : List (Nat × Tick) := []
  words : List (Nat × Tick) := []
  runs : List Nat := []
  wipe : Option Wipe := none
  refreshAt : Tick := 0
  mr4 : Nat := 0
  window : Nat := 0
  scrubAt : Tick := 0
  sramAt : Tick := 0
  mrs : List (Nat × Byte) := []
deriving DecidableEq, Repr

/-! ## The Warden and the clusters (R383-R401) -/

/-- The Fihus image that the Warden loaded: its offset in working SRAM, its length, its CRC-32C (R389, R486). -/
structure Fihus where
  load : Nat
  len : Nat
  crc : Word
deriving DecidableEq, Repr

/-- The hidden state of the control side: when each running cluster last restarted its watchdog, and the expiries of each
with when (R389); the Fihus image; the cluster whose FLASK request waits for its commit, the cluster whose LOG_CLEAR waits
for the clear, and those whose SELF_CHECK waits for its end (R397); when the last self-check began, and the frame counts of
the heads it saw (R393); when FLK_COMMIT was written and, with the reference head running, the frame whose VFP 0 is the
commit instant (R417); when each port of the Runner matrix last carried an access (R403). -/
structure CtlSt where
  kicks : List (Nat × Tick) := []
  expiries : List (Nat × Tick) := []
  fihus : Option Fihus := none
  flaskFor : Option Nat := none
  clearFor : Option Nat := none
  checkFor : List Nat := []
  checkAt : Tick := 0
  seen : List (Nat × Nat) := []
  goAt : Tick := 0
  goFrame : Option Nat := none
  carried : List (Nat × Tick) := []
deriving DecidableEq, Repr

/-! ## The recorder (R450-R468) -/

/-- The content of an ingot before its CRC (R450); `sev` is its byte 2. -/
structure Ingot where
  code : Nat
  sev : Nat
  origin : Nat
  optime : Nat
  pcyc : Nat
  seq : Nat
  p0 : Word
  p1 : Word
  p2 : Word
  p3 : Word
deriving DecidableEq, Repr

/-- An ingot of the staging buffer: since when it is there, and whether it is still to be written (R459). -/
structure Staged where
  ing : Ingot
  since : Int
  pending : Bool := true
deriving DecidableEq, Repr

/-- A move of the cursor (R463). -/
inductive LogMove where
  | oldest | newest | newer | older
  | firstOf (pcyc : Nat)
deriving DecidableEq, Repr

/-- The hidden state of the recorder: the staging buffer, oldest first; the 65,536 MRAM slots of 32 bytes, an unlisted one
empty; the SEQ of the next ingot, how many ticks OPTIME leads powered time, and the steady time of the next tick (R453);
whether a flush is wanted; whether a power-fail flush has ended all writing (R461); when the first clear key came (R465);
the key of the ingot in the window, and the move under way. -/
structure RecSt where
  buf : List Staged := []
  store : List (Nat × List Byte) := []
  seqNext : Nat := 0
  lead : Nat := 0
  opNext : Tick := 878906250 * 2 ^ 40
  flush : Bool := false
  stopped : Bool := false
  key : Option Tick := none
  cur : Option Nat := none
  move : Option LogMove := none
deriving DecidableEq, Repr

/-! ## Start and the shop protocol (R474-R504) -/

/-- What a section under application waits for: a POLL record, until its deadline; a DELAY record (R477). -/
inductive RecordWait where
  | none
  | poll (until_ : Tick)
  | delay (until_ : Tick)
deriving DecidableEq, Repr

/-- A section, or a scene of it, under application (R477, R484, R486): its TYPE, the class that applies it, the flash
offset from which word offsets count, the flash offset of the next record, and what the application waits for. -/
structure Applying where
  sect : Nat
  cls : Nat
  base : Nat
  next : Nat
  wait : RecordWait := .none
deriving DecidableEq, Repr

/-- A re-pour that is pending (R490, R491): its copy, FORCE, whether the copy has been verified, when that was, and the frame
of the reference head whose VFP 0 it waits for. -/
structure Repour where
  copy : Nat
  force : Bool
  verified : Bool := false
  since : Tick := 0
  frame : Option Nat := none
deriving DecidableEq, Repr

/-- A flash operation under way (table XSP fields). -/
structure FlashOp where
  op : Nat
  addr : Nat
  len : Nat
  buf : Nat
  cls : Nat
deriving DecidableEq, Repr

/-- The hidden state of the start: the copies that this start rejected, with reason; the copy that a re-pour names; the
copy whose early sections were accepted; the early sections still to apply; whether the later sections are verified; DRAM's
section is applied; sections under application; the pending re-pour; no copy is usable; when FULL was reached; the flash
operation under way. -/
structure StartSt where
  rejected : List (Nat × Nat) := []
  named : Option Nat := none
  chosen : Option Nat := none
  early : List Nat := []
  later : Bool := false
  dramDone : Bool := false
  apps : List Applying := []
  repour : Option Repour := none
  stay : Bool := false
  fullAt : Tick := 0
  op : Option FlashOp := none
deriving DecidableEq, Repr

/-- A shop key with its role: 1 READ, 2 OPERATE, 3 MAINTAIN (R477, R499). -/
structure ShopKey where
  role : Nat
  key : List Byte
deriving DecidableEq, Repr

/-- A shop session (R497, R498): identifier, key slot, role, minor version, key, the client's IPv4 address and UDP port, the
last SEQ accepted, the next SEQ to send, when the last valid message came, and how many came. -/
structure Session where
  id : Nat
  slot : Nat
  role : Nat
  minor : Nat
  key : List Byte
  ip : Nat
  port : Nat
  lastIn : Nat := 0
  nextOut : Nat := 1
  lastAt : Tick := 0
  count : Nat := 0
deriving DecidableEq, Repr

/-- A shop message that was accepted and waits to be served (R496): TYPE, session, whether it is for the partner, and
payload; for one that the partner's active unit relayed, the role under which it is served (R500); for OPEN, the key slot
that it names and where it came from. -/
structure ShopMsg where
  type : Nat
  session : Nat
  partner : Bool := false
  relayed : Option Nat := none
  payload : List Byte := []
  slot : Nat := 0
  ip : Nat := 0
  port : Nat := 0
deriving DecidableEq, Repr

/-- The hidden state of the shop protocol: keys, open sessions, messages that wait, the COMMIT whose scene is being applied,
and what reached the console (R502). -/
structure ShopSt where
  keys : List ShopKey := []
  sessions : List Session := []
  msgs : List ShopMsg := []
  commit : Option ShopMsg := none
  console : List Byte := []
deriving DecidableEq, Repr

/-- The JTAG instruction in effect (R503). -/
inductive JtagInstr where
  | bypass | idcode | sample | extest
deriving DecidableEq, Repr

/-- The JTAG port: its instruction, and the boundary register. -/
structure Jtag where
  instr : JtagInstr := .idcode
  boundary : List Bool := []
deriving DecidableEq, Repr

/-! ## The machine -/

/-- Everything the spec gives the part besides its clocks and its memory. -/
structure Block where
  /-- Register values in effect; an unlisted register holds its reset value (R13). -/
  regs : List (Nat × Word) := []
  /-- Lower words of multi-word fields held in staging (R21). -/
  stage : List (Nat × Word) := []
  /-- Class L writes that have not yet taken effect, oldest first (R14, R525). -/
  pendL : List Pend := []
  /-- Class F writes that wait for their commit, oldest first (R14, R17). -/
  pendF : List Pend := []
  /-- Latched _HI words, by the address of the _HI word (R524). -/
  latch : List (Nat × Word) := []
  /-- Events recorded and not yet staged by the recorder, oldest first. -/
  evq : List Event := []
  /-- Steady time of the last record under each rate limit, by the limit's key. -/
  limits : List (Nat × Tick) := []
  /-- The response to the last access. -/
  resp : Resp := .none
  /-- What has left the part, oldest first. -/
  out : List Output := []
  /-- The stores that the command under way has made; empty between commands. -/
  stores : List Store := []
  /-- The PTP time that the command under way has set; none between commands. -/
  newPtp : Option Tick := none
  /-- The command under way has returned both clocks to 0; false between commands. -/
  clkReset : Bool := false
  /-- How many free values have been taken (the model's own field, log 3). -/
  free : Nat := 0
  /-- What is held in reset. -/
  hold : Hold := .none
  tim : Tim := {}
  /-- The clusters at which a Flask refusal is pending (bit k: cluster k), R415. -/
  flkPend : Nat := 0
  lad : Lad := {}
  /-- Decode contexts, by 64 × engine + context, and decode engines. -/
  ctxs : List (Nat × DecCtx) := []
  engs : List (Nat × DecEng) := []
  /-- Moulds, by 96 × Crucible + mould; bands in composition; bands handed to the Fettler; writebacks. -/
  moulds : List (Nat × MouldSt) := []
  comps : List CompBand := []
  handed : List BandIn := []
  wbs : List (Nat × WbSt) := []
  /-- Steady times at which a slot, by 16 × Crucible + slot, was enabled, and at which a Crucible was (R157). -/
  slotSince : List (Nat × Tick) := []
  cruSince : List (Nat × Tick) := []
  frz : List (Nat × Frz) := []
  /-- Heads of the Fettler, signature windows, and the steady time since which each MAC's link is up. -/
  fets : List (Nat × FetHead) := []
  rsws : List (Nat × RswSt) := []
  macSince : List (Nat × Tick) := []
  /-- Desk panels, and the serial number of the next baseline snapshot. -/
  panels : List (Nat × PanelSt) := []
  snapSerial : Nat := 0
  /-- When the last baseline snapshots fell due (R441). -/
  snapAt : Tick := 0
  /-- Encode engines, and encoder streams by 8 × engine + stream. -/
  encs : List (Nat × EncEng) := []
  encSs : List (Nat × EncSt) := []
  pair : PairSt := {}
  /-- How many heats have been formed or adopted, and the corrections of the heat in effect, by head (R286, R287). -/
  heatGen : Nat := 0
  heatCorr : List (Nat × Int) := []
  /-- READY and LOSS messages of the partner that came before the frame did here (R289, R290): source, RTP
  timestamp and the message's content. -/
  peerReadys : List (Nat × Word × Nat) := []
  peerLosses : List (Nat × Word × List Nat × Bool) := []
  /-- Events that the health report counts over the last second: kind (0 band missed, 1 uncorrectable ECC error,
  2 scrub correction, 3 diverging band), how many and when; and uncorrectable errors since reset (R300). -/
  recent : List (Nat × Nat × Tick) := []
  uncorrectable : Nat := 0
  /-- A Warden self-check is under way, since when, and the steps it will fail (R393). -/
  selfCheck : Option Tick := none
  sprs : List (Nat × SprLink) := []
  shares : List (Nat × ShareSt) := []
  lanes : LaneSt := {}
  /-- Frames that became READY under the command under way: source, pool and buffer; empty between commands. -/
  readied : List (Nat × Nat × Nat) := []
  /-- Steady time of the last command. -/
  now : Tick := 0
  /-- Event flags set at that time: register and bits (R12). -/
  raised : List (Nat × Word) := []
  dram : MemSt := {}
  ctl : CtlSt := {}
  log : RecSt := {}
  start : StartSt := {}
  shop : ShopSt := {}
  jtag : Jtag := {}
  /-- A thermal shutdown holds the switched domains off (R522). -/
  hot : Bool := false
deriving DecidableEq, Repr

/-- The state of the part: its clocks, its memory, its blocks and the commands that wait, first in first out. -/
structure State where
  clk : Clk := {}
  mem : Mem := {}
  blk : Block := {}
  pending : List Instr := []
deriving DecidableEq, Repr

/-- Why a step can fault. No command of this part ends in a fault: the spec gives every one of them an effect. -/
inductive Fault where
deriving DecidableEq, Repr

/-- Why a step can be refused. -/
inductive Refusal where
  /-- Raised by the dispatcher for a command that has no meaning yet; safe, since the machine stops. -/
  | notModelled (mnemonic : String)
deriving DecidableEq, Repr

/-- The machine right after reset release with its straps at 0 (R13, R37, R45, R61, R523): clocks at 0, every register at
the value of its Reset column, every engine stopped, memory with nothing listed, the reset's event on its way to the
recorder, no command waiting. -/
def State.reset : State := { blk := { evq := [{ code := 0x0001, sev := 2, origin := 0 }] } }

end Sys2Proof.Machine
end

