-- ==== Sys2Proof/Machine/RegMap.lean ====
section
/-! DEFINITION. The register map: one row for each register of the peripheral windows (R8-R14, R31), with its
access codes and update classes as bit masks, written from the register tables of the chapters. -/

namespace Sys2Proof.Machine.Rg

def TIM_CTL : RegRow :=
  { name := "TIM_CTL", addr := 0x40000, rw := 0x3, l := 0x3, act := .timCtl }
def TIM_STAT : RegRow :=
  { name := "TIM_STAT", addr := 0x40004, ro := 0x1F }
def TIM_EVT : RegRow :=
  { name := "TIM_EVT", addr := 0x40008, w1c := 0x1FF }
def TIM_EVT_EN : RegRow :=
  { name := "TIM_EVT_EN", addr := 0x4000C, rw := 0x1FF, l := 0x1FF }
def TIM_SNAP : RegRow :=
  { name := "TIM_SNAP", addr := 0x40010, wo := 0x1, l := 0x1, act := .timSnap }
def TIM_SNAP_NS : RegRow :=
  { name := "TIM_SNAP_NS", addr := 0x40014, ro := 0x3FFFFFFF }
def TIM_SNAP_SEC_LO : RegRow :=
  { name := "TIM_SNAP_SEC_LO", addr := 0x40018, ro := 0xFFFFFFFF }
def TIM_SNAP_SEC_HI : RegRow :=
  { name := "TIM_SNAP_SEC_HI", addr := 0x4001C, ro := 0xFFFFFFFF }
def TIM_SNAP_STEADY_LO : RegRow :=
  { name := "TIM_SNAP_STEADY_LO", addr := 0x40020, ro := 0xFFFFFFFF }
def TIM_SNAP_STEADY_HI : RegRow :=
  { name := "TIM_SNAP_STEADY_HI", addr := 0x40024, ro := 0xFFFFFFFF }
def TIM_SET_NS : RegRow :=
  { name := "TIM_SET_NS", addr := 0x40030, rw := 0x3FFFFFFF, l := 0x3FFFFFFF, multi := .low }
def TIM_SET_SEC_LO : RegRow :=
  { name := "TIM_SET_SEC_LO", addr := 0x40034, rw := 0xFFFFFFFF, l := 0xFFFFFFFF, multi := .low }
def TIM_SET_SEC_HI : RegRow :=
  { name := "TIM_SET_SEC_HI", addr := 0x40038, rw := 0xFFFF, l := 0xFFFF, multi := .high 2 0xFFFF, act := .timSet }
def TIM_SRV_OFS_LO : RegRow :=
  { name := "TIM_SRV_OFS_LO", addr := 0x40040, wo := 0xFFFFFFFF, l := 0xFFFFFFFF, multi := .low }
def TIM_SRV_OFS_HI : RegRow :=
  { name := "TIM_SRV_OFS_HI", addr := 0x40044, wo := 0xFFFFFFFF, l := 0xFFFFFFFF, multi := .high 1 0xFFFFFFFF,
    act := .timOfs }
def TIM_SRV_GAIN : RegRow :=
  { name := "TIM_SRV_GAIN", addr := 0x40048, rw := 0xFFFFFFFF, l := 0xFFFFFFFF, reset := 0x1801800 }
def TIM_SRV_GAIN_ACQ : RegRow :=
  { name := "TIM_SRV_GAIN_ACQ", addr := 0x4004C, rw := 0xFFFFFFFF, l := 0xFFFFFFFF, reset := 0x3003000 }
def TIM_SRV_STEP : RegRow :=
  { name := "TIM_SRV_STEP", addr := 0x40050, rw := 0x7FFFFFFF, l := 0x7FFFFFFF, reset := 0xF4240 }
def TIM_SRV_LOCK : RegRow :=
  { name := "TIM_SRV_LOCK", addr := 0x40054, rw := 0xF0FFFFFF, l := 0xF0FFFFFF, reset := 0x800003E8 }
def TIM_SRV_HOLD : RegRow :=
  { name := "TIM_SRV_HOLD", addr := 0x40058, rw := 0xFFFF, l := 0xFFFF, reset := 0xBB8 }
def TIM_SRV_RLIM : RegRow :=
  { name := "TIM_SRV_RLIM", addr := 0x4005C, rw := 0x7FFFFFFF, l := 0x7FFFFFFF, reset := 0x1A36E2EB }
def TIM_RATE : RegRow :=
  { name := "TIM_RATE", addr := 0x40060, rw := 0xFFFFFFFF, s := 0xFFFFFFFF, of := .servo }
def TIM_SRV_INTEG : RegRow :=
  { name := "TIM_SRV_INTEG", addr := 0x40064, rw := 0xFFFFFFFF, s := 0xFFFFFFFF, of := .servo }
def TIM_MASTER : RegRow :=
  { name := "TIM_MASTER", addr := 0x40068, wo := 0x1, l := 0x1, act := .timMaster }
def TIM_STEP_CNT : RegRow :=
  { name := "TIM_STEP_CNT", addr := 0x40070, ro := 0xFFFFFFFF }
def TIM_LAST_STEP_LO : RegRow :=
  { name := "TIM_LAST_STEP_LO", addr := 0x40074, ro := 0xFFFFFFFF, latch := true }
def TIM_LAST_STEP_HI : RegRow :=
  { name := "TIM_LAST_STEP_HI", addr := 0x40078, ro := 0xFFFFFFFF }
def TIM_HEAD_CTL : RegRow :=
  { name := "TIM_HEAD_CTL", addr := 0x41000, dims := [(64, 0x40)], rw := 0x1, l := 0x1, of := .head, act := .headCtl }
def TIM_HEAD_RATE : RegRow :=
  { name := "TIM_HEAD_RATE", addr := 0x41004, dims := [(64, 0x40)], rw := 0xFFFFFFF, s := 0xFFFFFFF, of := .head }
def TIM_HEAD_VLINES : RegRow :=
  { name := "TIM_HEAD_VLINES", addr := 0x41008, dims := [(64, 0x40)], rw := 0xFFF0FFF, s := 0xFFF0FFF, of := .head }
def TIM_HEAD_VBLANK : RegRow :=
  { name := "TIM_HEAD_VBLANK", addr := 0x4100C, dims := [(64, 0x40)], rw := 0xFFFF, s := 0xFFFF, of := .head }
def TIM_HEAD_ALIGN : RegRow :=
  { name := "TIM_HEAD_ALIGN", addr := 0x41010, dims := [(64, 0x40)], rw := 0x1FFF, s := 0x1FFF, of := .head }
def TIM_HEAD_STAT : RegRow :=
  { name := "TIM_HEAD_STAT", addr := 0x41014, dims := [(64, 0x40)], ro := 0xFFF003F, of := .head }
def TIM_HEAD_PHASE : RegRow :=
  { name := "TIM_HEAD_PHASE", addr := 0x41018, dims := [(64, 0x40)], ro := 0xFFFFFFFF, of := .head }
def TIM_HEAD_FRAME_LO : RegRow :=
  { name := "TIM_HEAD_FRAME_LO", addr := 0x4101C, dims := [(64, 0x40)], ro := 0xFFFFFFFF, latch := true, of := .head }
def TIM_HEAD_FRAME_HI : RegRow :=
  { name := "TIM_HEAD_FRAME_HI", addr := 0x41020, dims := [(64, 0x40)], ro := 0xFFFF, of := .head }
def TIM_HEAD_AIDX_LO : RegRow :=
  { name := "TIM_HEAD_AIDX_LO", addr := 0x41024, dims := [(64, 0x40)], ro := 0xFFFFFFFF, latch := true, of := .head }
def TIM_HEAD_AIDX_HI : RegRow :=
  { name := "TIM_HEAD_AIDX_HI", addr := 0x41028, dims := [(64, 0x40)], ro := 0xFFFF, of := .head }
def TIM_CAL_POS : RegRow :=
  { name := "TIM_CAL_POS", addr := 0x42000, dims := [(256, 0x8)], rw := 0xFFF033F, l := 0xFFF033F, multi := .low }
def TIM_CAL_ACT : RegRow :=
  { name := "TIM_CAL_ACT", addr := 0x42004, dims := [(256, 0x8)], rw := 0x3FFFF, l := 0x3FFFF, multi := .high 1 0x3FFFF,
    act := .calAct }
def LAD_STAT : RegRow :=
  { name := "LAD_STAT", addr := 0x180000, ro := 0x1FFF01FF }
def LAD_EVT : RegRow :=
  { name := "LAD_EVT", addr := 0x180004, w1c := 0x1FF }
def LAD_EVT_EN : RegRow :=
  { name := "LAD_EVT_EN", addr := 0x180008, rw := 0x1FF, l := 0x1FF }
def LAD_UTC : RegRow :=
  { name := "LAD_UTC", addr := 0x18000C, rw := 0xFF, l := 0xFF }
def LAD_MERGE : RegRow :=
  { name := "LAD_MERGE", addr := 0x180010, rw := 0xFFFFFFFF, l := 0xFFFFFFFF }
def LAD_MERGE2 : RegRow :=
  { name := "LAD_MERGE2", addr := 0x180014, rw := 0xFFFF, l := 0xFFFF }
def LAD_SRC_CTL : RegRow :=
  { name := "LAD_SRC_CTL", addr := 0x184000, dims := [(384, 0x40)], rw := 0x3FFFFF, l := 0x1, s := 0x3FFFFE,
    of := .source, act := .srcCtl }
def LAD_SRC_DEC : RegRow :=
  { name := "LAD_SRC_DEC", addr := 0x184004, dims := [(384, 0x40)], rw := 0x3FF, s := 0x3FF, of := .source }
def LAD_SRC_RING : RegRow :=
  { name := "LAD_SRC_RING", addr := 0x184008, dims := [(384, 0x40)], rw := 0xFFFF, s := 0xFFFF, of := .source }
def LAD_SRC_PORT : RegRow :=
  { name := "LAD_SRC_PORT", addr := 0x18400C, dims := [(384, 0x40)], rw := 0xFFFFFFFF, s := 0xFFFFFFFF, of := .source }
def LAD_SRC_SSRC : RegRow :=
  { name := "LAD_SRC_SSRC", addr := 0x184010, dims := [(384, 0x40)], rw := 0xFFFFFFFF, s := 0xFFFFFFFF, of := .source }
def LAD_SRC_FMT : RegRow :=
  { name := "LAD_SRC_FMT", addr := 0x184014, dims := [(384, 0x40)], rw := 0xFFF1FFF, s := 0xFFF1FFF, of := .source }
def LAD_SRC_FMT2 : RegRow :=
  { name := "LAD_SRC_FMT2", addr := 0x184018, dims := [(384, 0x40)], rw := 0xFFFFFFFF, s := 0xFFFFFFFF, of := .source }
def LAD_SRC_MAXAGE : RegRow :=
  { name := "LAD_SRC_MAXAGE", addr := 0x18401C, dims := [(384, 0x40)], rw := 0xFFFF, f := 0xFFFF, of := .source }
def LAD_SRC_CHANGE : RegRow :=
  { name := "LAD_SRC_CHANGE", addr := 0x184020, dims := [(384, 0x40)], rw := 0xFFFFFFFF, f := 0xFFFFFFFF, of := .source }
def LAD_SRC_MCW0 : RegRow :=
  { name := "LAD_SRC_MCW0", addr := 0x184024, dims := [(384, 0x40)], rw := 0x1FFF1FFF, f := 0x1FFF1FFF, multi := .low,
    of := .source }
def LAD_SRC_MCW1 : RegRow :=
  { name := "LAD_SRC_MCW1", addr := 0x184028, dims := [(384, 0x40)], rw := 0x1FFF1FFF, f := 0x1FFF1FFF,
    multi := .high 1 0x1FFF1FFF, of := .source }
def LAD_SRC_POLICY : RegRow :=
  { name := "LAD_SRC_POLICY", addr := 0x18402C, dims := [(384, 0x40)], rw := 0xFFFFF3, f := 0xFFFFF3, of := .source }
def LAD_SRC_STAT : RegRow :=
  { name := "LAD_SRC_STAT", addr := 0x184030, dims := [(384, 0x40)], ro := 0x3F1F, reset := 0x2000, of := .source }
def LAD_SRC_AB_LO : RegRow :=
  { name := "LAD_SRC_AB_LO", addr := 0x184034, dims := [(384, 0x40)], ro := 0xFFFFFFFF, latch := true, of := .source }
def LAD_SRC_AB_HI : RegRow :=
  { name := "LAD_SRC_AB_HI", addr := 0x184038, dims := [(384, 0x40)], ro := 0xFFFFFFFF, of := .source }
def LAD_SRC_LOSS : RegRow :=
  { name := "LAD_SRC_LOSS", addr := 0x18403C, dims := [(384, 0x40)], ro := 0xFFFFFFFF, of := .source }
def LAD_RING_BASE_LO : RegRow :=
  { name := "LAD_RING_BASE_LO", addr := 0x18A000, dims := [(256, 0x20)], rw := 0xFFFFFF00, s := 0xFFFFFF00,
    multi := .low, of := .ring }
def LAD_RING_BASE_HI : RegRow :=
  { name := "LAD_RING_BASE_HI", addr := 0x18A004, dims := [(256, 0x20)], rw := 0xFF, s := 0xFF, multi := .high 1 0xFF,
    of := .ring }
def LAD_RING_CFG : RegRow :=
  { name := "LAD_RING_CFG", addr := 0x18A008, dims := [(256, 0x20)], rw := 0x1131F, l := 0x10000, s := 0x131F,
    of := .ring, act := .ringCfg }
def LAD_RING_PART : RegRow :=
  { name := "LAD_RING_PART", addr := 0x18A00C, dims := [(256, 0x20)], rw := 0x1F, s := 0x1F, of := .ring }
def LAD_RING_HEAD : RegRow :=
  { name := "LAD_RING_HEAD", addr := 0x18A010, dims := [(256, 0x20)], ro := 0xFFFF, of := .ring }
def LAD_RING_TAIL : RegRow :=
  { name := "LAD_RING_TAIL", addr := 0x18A014, dims := [(256, 0x20)], rw := 0xFFFF, l := 0xFFFF, of := .ring,
    act := .ringTail }
def LAD_RING_OVF : RegRow :=
  { name := "LAD_RING_OVF", addr := 0x18A018, dims := [(256, 0x20)], ro := 0xFFFF, of := .ring }
def LAD_POOL_BASE_LO : RegRow :=
  { name := "LAD_POOL_BASE_LO", addr := 0x18C000, dims := [(128, 0x10)], rw := 0xFFFFF000, s := 0xFFFFF000,
    multi := .low, of := .pool }
def LAD_POOL_BASE_HI : RegRow :=
  { name := "LAD_POOL_BASE_HI", addr := 0x18C004, dims := [(128, 0x10)], rw := 0xFF, s := 0xFF, multi := .high 1 0xFF,
    of := .pool }
def LAD_POOL_GEOM : RegRow :=
  { name := "LAD_POOL_GEOM", addr := 0x18C008, dims := [(128, 0x10)], rw := 0x1F0FFFFF, s := 0x1F0FFFFF, of := .pool }
def LAD_POOL_CFG : RegRow :=
  { name := "LAD_POOL_CFG", addr := 0x18C00C, dims := [(128, 0x10)], rw := 0x1FFFFF, s := 0x1FFFFF, of := .pool }
def DEC_CTL : RegRow :=
  { name := "DEC_CTL", addr := 0x280000, dims := [(8, 0x10000)], rw := 0x1, l := 0x1, act := .decCtl }
def DEC_STAT : RegRow :=
  { name := "DEC_STAT", addr := 0x280004, dims := [(8, 0x10000)], ro := 0x7FFF }
def DEC_EVT : RegRow :=
  { name := "DEC_EVT", addr := 0x280008, dims := [(8, 0x10000)], w1c := 0x1FF }
def DEC_EVT_EN : RegRow :=
  { name := "DEC_EVT_EN", addr := 0x28000C, dims := [(8, 0x10000)], rw := 0x1FF, l := 0x1FF }
def DEC_WDOG : RegRow :=
  { name := "DEC_WDOG", addr := 0x280010, dims := [(8, 0x10000)], rw := 0xFFFFF, l := 0xFFFFF }
def DEC_LOAD : RegRow :=
  { name := "DEC_LOAD", addr := 0x280014, dims := [(8, 0x10000)], ro := 0x3FF03FF }
def DEC_SWITCH : RegRow :=
  { name := "DEC_SWITCH", addr := 0x280018, dims := [(8, 0x10000)], ro := 0xFFFFFFFF }
def DEC_CTX_CFG : RegRow :=
  { name := "DEC_CTX_CFG", addr := 0x281000, dims := [(8, 0x10000), (64, 0x40)], rw := 0x1FF, s := 0x1FF, of := .ctx }
def DEC_CTX_STAT : RegRow :=
  { name := "DEC_CTX_STAT", addr := 0x281004, dims := [(8, 0x10000), (64, 0x40)], ro := 0x1FF1FFFF, of := .ctx }
def DEC_CTX_PROF : RegRow :=
  { name := "DEC_CTX_PROF", addr := 0x281008, dims := [(8, 0x10000), (64, 0x40)], ro := 0x1FFFF, of := .ctx }
def DEC_CTX_WM : RegRow :=
  { name := "DEC_CTX_WM", addr := 0x28100C, dims := [(8, 0x10000), (64, 0x40)], ro := 0x1FFF, of := .ctx }
def DEC_CTX_FRAME : RegRow :=
  { name := "DEC_CTX_FRAME", addr := 0x281010, dims := [(8, 0x10000), (64, 0x40)], ro := 0xFFFFFFFF, of := .ctx }
def DEC_CTX_REF : RegRow :=
  { name := "DEC_CTX_REF", addr := 0x281014, dims := [(8, 0x10000), (64, 0x40)], ro := 0xFFFFFFFF, of := .ctx }
def DEC_CTX_ERR : RegRow :=
  { name := "DEC_CTX_ERR", addr := 0x281018, dims := [(8, 0x10000), (64, 0x40)], ro := 0xFFFFFFFF, of := .ctx }
def DEC_CTX_TIME : RegRow :=
  { name := "DEC_CTX_TIME", addr := 0x28101C, dims := [(8, 0x10000), (64, 0x40)], ro := 0xFFFFF, of := .ctx }
def CRU_CTL : RegRow :=
  { name := "CRU_CTL", addr := 0x200000, dims := [(4, 0x10000)], rw := 0x1, l := 0x1, act := .cruCtl }
def CRU_STAT : RegRow :=
  { name := "CRU_STAT", addr := 0x200004, dims := [(4, 0x10000)], ro := 0xFFF003F }
def CRU_EVT : RegRow :=
  { name := "CRU_EVT", addr := 0x200008, dims := [(4, 0x10000)], w1c := 0xFF }
def CRU_EVT_EN : RegRow :=
  { name := "CRU_EVT_EN", addr := 0x20000C, dims := [(4, 0x10000)], rw := 0xFF, l := 0xFF }
def CRU_BUDGET : RegRow :=
  { name := "CRU_BUDGET", addr := 0x200010, dims := [(4, 0x10000)], ro := 0xFFFFF }
def CRU_HEAD_MAP : RegRow :=
  { name := "CRU_HEAD_MAP", addr := 0x200100, dims := [(4, 0x10000), (16, 0x10)], rw := 0x13F, ro := 0x1F010000,
    l := 0x100, s := 0x3F, of := .slot, act := .cruMap }
def CRU_HEAD_CFG : RegRow :=
  { name := "CRU_HEAD_CFG", addr := 0x200104, dims := [(4, 0x10000), (16, 0x10)], rw := 0x71FFF, s := 0x71FFF, of := .slot }
def CRU_HEAD_BG : RegRow :=
  { name := "CRU_HEAD_BG", addr := 0x200108, dims := [(4, 0x10000), (16, 0x10)], rw := 0xFFFFFF, l := 0xFFFFFF,
    of := .slot }
def CRU_HEAD_WB : RegRow :=
  { name := "CRU_HEAD_WB", addr := 0x20010C, dims := [(4, 0x10000), (16, 0x10)], rw := 0x8FFF1FFF, s := 0x8FFF1FFF,
    of := .slot }
def CRU_GRP_CFG : RegRow :=
  { name := "CRU_GRP_CFG", addr := 0x200400, dims := [(4, 0x10000), (16, 0x10)], rw := 0xF3F, l := 0xF30, s := 0xF,
    of := .group }
def CRU_GRP_STAT : RegRow :=
  { name := "CRU_GRP_STAT", addr := 0x200404, dims := [(4, 0x10000), (16, 0x10)], ro := 0x3F7F07FF, of := .group }
def CRU_GRP_FRAME : RegRow :=
  { name := "CRU_GRP_FRAME", addr := 0x200408, dims := [(4, 0x10000), (16, 0x10)], ro := 0xFFFFFFFF, of := .group }
def CRU_WB_CTL : RegRow :=
  { name := "CRU_WB_CTL", addr := 0x200600, dims := [(4, 0x10000)], rw := 0x7FFFF1, l := 0x1, s := 0x7FFFF0,
    of := .writeback, act := .wbCtl }
def CRU_WB_SIZE : RegRow :=
  { name := "CRU_WB_SIZE", addr := 0x200604, dims := [(4, 0x10000)], rw := 0x1FFF3FFF, s := 0x1FFF3FFF, of := .writeback }
def CRU_WB_STAT : RegRow :=
  { name := "CRU_WB_STAT", addr := 0x200608, dims := [(4, 0x10000)], ro := 0xFFFF001F, of := .writeback }
def CRU_COEF_H : RegRow :=
  { name := "CRU_COEF_H", addr := 0x202000, dims := [(4, 0x10000), (4, 0x800), (256, 0x4)], rw := 0x3FF03FF,
    s := 0x3FF03FF, of := .coef }
def CRU_COEF_V0 : RegRow :=
  { name := "CRU_COEF_V0", addr := 0x202400, dims := [(4, 0x10000), (4, 0x800), (64, 0x10)], rw := 0x3FF03FF,
    s := 0x3FF03FF, of := .coef }
def CRU_COEF_V1 : RegRow :=
  { name := "CRU_COEF_V1", addr := 0x202404, dims := [(4, 0x10000), (4, 0x800), (64, 0x10)], rw := 0x3FF03FF,
    s := 0x3FF03FF, of := .coef }
def CRU_COEF_V2 : RegRow :=
  { name := "CRU_COEF_V2", addr := 0x202408, dims := [(4, 0x10000), (4, 0x800), (64, 0x10)], rw := 0x3FF03FF,
    s := 0x3FF03FF, of := .coef }
def CRU_M_CTL : RegRow :=
  { name := "CRU_M_CTL", addr := 0x208000, dims := [(4, 0x10000), (96, 0x40)], rw := 0xFF7FFF, ro := 0x80000000,
    f := 0xFF7FE1, s := 0x1E, of := .mould }
def CRU_M_SRC : RegRow :=
  { name := "CRU_M_SRC", addr := 0x208004, dims := [(4, 0x10000), (96, 0x40)], rw := 0x1FF, f := 0x1FF, of := .mould }
def CRU_M_PLATE_LO : RegRow :=
  { name := "CRU_M_PLATE_LO", addr := 0x208008, dims := [(4, 0x10000), (96, 0x40)], rw := 0xFFFFF000, f := 0xFFFFF000,
    multi := .low, of := .mould }
def CRU_M_PLATE_HI : RegRow :=
  { name := "CRU_M_PLATE_HI", addr := 0x20800C, dims := [(4, 0x10000), (96, 0x40)], rw := 0xFF, f := 0xFF,
    multi := .high 1 0xFF, of := .mould }
def CRU_M_PLATE_FMT : RegRow :=
  { name := "CRU_M_PLATE_FMT", addr := 0x208010, dims := [(4, 0x10000), (96, 0x40)], rw := 0x1F1FFFF, f := 0x1F1FFFF,
    of := .mould }
def CRU_M_CROP_XY : RegRow :=
  { name := "CRU_M_CROP_XY", addr := 0x208014, dims := [(4, 0x10000), (96, 0x40)], rw := 0xFFF1FFF, f := 0xFFF1FFF,
    of := .mould }
def CRU_M_CROP_WH : RegRow :=
  { name := "CRU_M_CROP_WH", addr := 0x208018, dims := [(4, 0x10000), (96, 0x40)], rw := 0xFFF1FFF, f := 0xFFF1FFF,
    of := .mould }
def CRU_M_DST_XY : RegRow :=
  { name := "CRU_M_DST_XY", addr := 0x20801C, dims := [(4, 0x10000), (96, 0x40)], rw := 0x3FFF3FFF, f := 0x3FFF3FFF,
    of := .mould }
def CRU_M_DST_WH : RegRow :=
  { name := "CRU_M_DST_WH", addr := 0x208020, dims := [(4, 0x10000), (96, 0x40)], rw := 0x3FFF3FFF, f := 0x3FFF3FFF,
    of := .mould }
def CRU_M_ALPHA : RegRow :=
  { name := "CRU_M_ALPHA", addr := 0x208024, dims := [(4, 0x10000), (96, 0x40)], rw := 0xFF, f := 0xFF, of := .mould }
def CRU_M_STAT : RegRow :=
  { name := "CRU_M_STAT", addr := 0x208028, dims := [(4, 0x10000), (96, 0x40)], ro := 0x1FFF, of := .mould }
def CRU_M_HSTEP : RegRow :=
  { name := "CRU_M_HSTEP", addr := 0x20802C, dims := [(4, 0x10000), (96, 0x40)], ro := 0x3FFFF, of := .mould }
def CRU_M_VSTEP : RegRow :=
  { name := "CRU_M_VSTEP", addr := 0x208030, dims := [(4, 0x10000), (96, 0x40)], ro := 0x3FFFF, of := .mould }
def FET_CTL : RegRow :=
  { name := "FET_CTL", addr := 0x240000, rw := 0x1, l := 0x1, act := .fetCtl }
def FET_STAT : RegRow :=
  { name := "FET_STAT", addr := 0x240004, ro := 0xFFFF00FF }
def FET_EVT : RegRow :=
  { name := "FET_EVT", addr := 0x240008, w1c := 0x7F }
def FET_EVT_EN : RegRow :=
  { name := "FET_EVT_EN", addr := 0x24000C, rw := 0x7F, l := 0x7F }
def FET_SLAG_C0 : RegRow :=
  { name := "FET_SLAG_C0", addr := 0x240010, rw := 0xFFFFFF, o := 0xFFFFFF, reset := 0xFFC000 }
def FET_SLAG_C1 : RegRow :=
  { name := "FET_SLAG_C1", addr := 0x240014, rw := 0xFFFFFF, o := 0xFFFFFF }
def FET_FLAW_FILL : RegRow :=
  { name := "FET_FLAW_FILL", addr := 0x240018, rw := 0xFFFFFF, o := 0xFFFFFF, reset := 0xE000E0 }
def FET_FLAW_EDGE : RegRow :=
  { name := "FET_FLAW_EDGE", addr := 0x24001C, rw := 0xFFFFFF, o := 0xFFFFFF, reset := 0xFFFFFF }
def FET_MARK_C0 : RegRow :=
  { name := "FET_MARK_C0", addr := 0x240020, rw := 0xFFFFFF, o := 0xFFFFFF }
def FET_MARK_C1 : RegRow :=
  { name := "FET_MARK_C1", addr := 0x240024, rw := 0xFFFFFF, o := 0xFFFFFF, reset := 0xFFFFFF }
def FET_ANC_ID : RegRow :=
  { name := "FET_ANC_ID", addr := 0x240028, rw := 0xFFFF, o := 0xFFFF, reset := 0x4C52 }
def FET_DIM_CFG : RegRow :=
  { name := "FET_DIM_CFG", addr := 0x24002C, rw := 0xF, l := 0xF, reset := 0x2 }
def FET_COLOUR_STAT : RegRow :=
  { name := "FET_COLOUR_STAT", addr := 0x240030, ro := 0x7 }
def FET_HEAD_CTL : RegRow :=
  { name := "FET_HEAD_CTL", addr := 0x241000, dims := [(64, 0x20)], rw := 0xF, wo := 0x100, l := 0x103, s := 0xC,
    of := .fetHead, act := .fetHeadCtl }
def FET_HEAD_MARK : RegRow :=
  { name := "FET_HEAD_MARK", addr := 0x241004, dims := [(64, 0x20)], rw := 0x707FF, s := 0x707FF, of := .fetHead }
def FET_HEAD_DIM : RegRow :=
  { name := "FET_HEAD_DIM", addr := 0x241008, dims := [(64, 0x20)], rw := 0x71FF, wo := 0x30000, l := 0x301FF,
    s := 0x7000, reset := 0x100, of := .fetHead, act := .fetDim }
def FET_HEAD_STAT : RegRow :=
  { name := "FET_HEAD_STAT", addr := 0x24100C, dims := [(64, 0x20)], ro := 0x3FFFFFF, reset := 0x1000000, of := .fetHead }
def FET_HEAD_CNT : RegRow :=
  { name := "FET_HEAD_CNT", addr := 0x241010, dims := [(64, 0x20)], ro := 0xFFFFFFFF, of := .fetHead }
def FET_HEAD_SEAL : RegRow :=
  { name := "FET_HEAD_SEAL", addr := 0x241014, dims := [(64, 0x20)], ro := 0xFFFFFFFF, of := .fetHead }
def FET_HEAD_SEALID : RegRow :=
  { name := "FET_HEAD_SEALID", addr := 0x241018, dims := [(64, 0x20)], ro := 0xFFFFFFFF, of := .fetHead }
def FET_HEAD_RB : RegRow :=
  { name := "FET_HEAD_RB", addr := 0x24101C, dims := [(64, 0x20)], ro := 0xFF03FF, of := .fetHead }
def FET_FRZ_STAT : RegRow :=
  { name := "FET_FRZ_STAT", addr := 0x242000, dims := [(384, 0x8)], ro := 0xFFFF0007 }
def FET_FRZ_FP : RegRow :=
  { name := "FET_FRZ_FP", addr := 0x242004, dims := [(384, 0x8)], ro := 0xFFFFFFFF }
def FET_RSW_CFG : RegRow :=
  { name := "FET_RSW_CFG", addr := 0x244000, dims := [(512, 0x20)], rw := 0xF33F01, f := 0x3F01, s := 0xF30000,
    of := .window }
def FET_RSW_XY : RegRow :=
  { name := "FET_RSW_XY", addr := 0x244004, dims := [(512, 0x20)], rw := 0xFFF1FFF, f := 0xFFF1FFF, of := .window }
def FET_RSW_WH : RegRow :=
  { name := "FET_RSW_WH", addr := 0x244008, dims := [(512, 0x20)], rw := 0xFFF1FFF, f := 0xFFF1FFF, of := .window }
def FET_RSW_EXP : RegRow :=
  { name := "FET_RSW_EXP", addr := 0x24400C, dims := [(512, 0x20)], rw := 0xFFFFFFFF, f := 0xFFFFFFFF, of := .window }
def FET_RSW_STAT : RegRow :=
  { name := "FET_RSW_STAT", addr := 0x244010, dims := [(512, 0x20)], ro := 0xFFFFFF07, of := .window }
def FET_RSW_LAST : RegRow :=
  { name := "FET_RSW_LAST", addr := 0x244014, dims := [(512, 0x20)], ro := 0xFFFFFFFF, of := .window }
def FET_PKT_GSTAT : RegRow :=
  { name := "FET_PKT_GSTAT", addr := 0x248000, ro := 0x3, of := .stream }
def FET_PKT_HEAT : RegRow :=
  { name := "FET_PKT_HEAT", addr := 0x248004, ro := 0xFFFFFFFF, of := .stream }
def FET_PKT_EPOCH_LO : RegRow :=
  { name := "FET_PKT_EPOCH_LO", addr := 0x248008, ro := 0xFFFFFFFF, latch := true, of := .stream }
def FET_PKT_EPOCH_HI : RegRow :=
  { name := "FET_PKT_EPOCH_HI", addr := 0x24800C, ro := 0xFFFF, of := .stream }
def FET_PKT_EVT : RegRow :=
  { name := "FET_PKT_EVT", addr := 0x248010, w1c := 0x3F, of := .stream }
def FET_PKT_EVT_EN : RegRow :=
  { name := "FET_PKT_EVT_EN", addr := 0x248014, rw := 0x3F, l := 0x3F, of := .stream }
def FET_PKT_CTL : RegRow :=
  { name := "FET_PKT_CTL", addr := 0x249000, dims := [(64, 0x80)], rw := 0x37, l := 0x3, s := 0x34, of := .stream,
    act := .pktCtl }
def FET_PKT_FMT : RegRow :=
  { name := "FET_PKT_FMT", addr := 0x249004, dims := [(64, 0x80)], rw := 0x7FF0007, s := 0x7FF0007, of := .stream }
def FET_PKT_RTP : RegRow :=
  { name := "FET_PKT_RTP", addr := 0x249008, dims := [(64, 0x80)], rw := 0x7F7F, s := 0x7F7F, of := .stream }
def FET_PKT_SSRC_V : RegRow :=
  { name := "FET_PKT_SSRC_V", addr := 0x24900C, dims := [(64, 0x80)], rw := 0xFFFFFFFF, s := 0xFFFFFFFF, of := .stream }
def FET_PKT_SSRC_A : RegRow :=
  { name := "FET_PKT_SSRC_A", addr := 0x249010, dims := [(64, 0x80)], rw := 0xFFFFFFFF, s := 0xFFFFFFFF, of := .stream }
def FET_PKT_STAT : RegRow :=
  { name := "FET_PKT_STAT", addr := 0x249014, dims := [(64, 0x80)], ro := 0x377, of := .stream }
def FET_PKT_PPF : RegRow :=
  { name := "FET_PKT_PPF", addr := 0x249018, dims := [(64, 0x80)], ro := 0xFFFFFF, of := .stream }
def FET_PKT_REASON : RegRow :=
  { name := "FET_PKT_REASON", addr := 0x24901C, dims := [(64, 0x80)], ro := 0xFF, of := .stream }
def FET_PKT_FIDX_LO : RegRow :=
  { name := "FET_PKT_FIDX_LO", addr := 0x249020, dims := [(64, 0x80)], ro := 0xFFFFFFFF, latch := true, of := .stream }
def FET_PKT_FIDX_HI : RegRow :=
  { name := "FET_PKT_FIDX_HI", addr := 0x249024, dims := [(64, 0x80)], ro := 0xFFFF, of := .stream }
def FET_PKT_TS : RegRow :=
  { name := "FET_PKT_TS", addr := 0x249028, dims := [(64, 0x80)], ro := 0xFFFFFFFF, of := .stream }
def FET_PKT_SEQ0 : RegRow :=
  { name := "FET_PKT_SEQ0", addr := 0x24902C, dims := [(64, 0x80)], ro := 0xFFFFFFFF, of := .stream }
def FET_PKT_SENT : RegRow :=
  { name := "FET_PKT_SENT", addr := 0x249030, dims := [(64, 0x80)], ro := 0xFFFFFFFF, of := .stream }
def FET_PKT_DROP : RegRow :=
  { name := "FET_PKT_DROP", addr := 0x249034, dims := [(64, 0x80)], ro := 0xFFFFFFFF, of := .stream }
def FET_PKT_P_DIP : RegRow :=
  { name := "FET_PKT_P_DIP", addr := 0x249040, dims := [(64, 0x80), (2, 0x20)], rw := 0xFFFFFFFF, s := 0xFFFFFFFF,
    of := .stream }
def FET_PKT_P_DMAC_LO : RegRow :=
  { name := "FET_PKT_P_DMAC_LO", addr := 0x249044, dims := [(64, 0x80), (2, 0x20)], rw := 0xFFFFFFFF, s := 0xFFFFFFFF,
    multi := .low, of := .stream }
def FET_PKT_P_DMAC_HI : RegRow :=
  { name := "FET_PKT_P_DMAC_HI", addr := 0x249048, dims := [(64, 0x80), (2, 0x20)], rw := 0x1FFFF, s := 0x1FFFF,
    multi := .high 1 0xFFFF, of := .stream }
def FET_PKT_P_PORT : RegRow :=
  { name := "FET_PKT_P_PORT", addr := 0x24904C, dims := [(64, 0x80), (2, 0x20)], rw := 0xFFFFFFFF, s := 0xFFFFFFFF,
    of := .stream }
def FET_PKT_P_APORT : RegRow :=
  { name := "FET_PKT_P_APORT", addr := 0x249050, dims := [(64, 0x80), (2, 0x20)], rw := 0xFFFFFFFF, s := 0xFFFFFFFF,
    of := .stream }
def FET_PKT_P_QOS : RegRow :=
  { name := "FET_PKT_P_QOS", addr := 0x249054, dims := [(64, 0x80), (2, 0x20)], rw := 0xFFFFFF3F, s := 0xFFFFFF3F,
    of := .stream }
def FET_PKT_P_MAC : RegRow :=
  { name := "FET_PKT_P_MAC", addr := 0x249058, dims := [(64, 0x80), (2, 0x20)], rw := 0x3F, s := 0x3F, of := .stream }
def ENC_CTL : RegRow :=
  { name := "ENC_CTL", addr := 0x300000, dims := [(2, 0x10000)], rw := 0x1, l := 0x1, act := .encCtl }
def ENC_STAT : RegRow :=
  { name := "ENC_STAT", addr := 0x300004, dims := [(2, 0x10000)], ro := 0x1F, of := .encStream }
def ENC_EVT : RegRow :=
  { name := "ENC_EVT", addr := 0x300008, dims := [(2, 0x10000)], w1c := 0x7F }
def ENC_EVT_EN : RegRow :=
  { name := "ENC_EVT_EN", addr := 0x30000C, dims := [(2, 0x10000)], rw := 0x7F, l := 0x7F }
def ENC_UUID : RegRow :=
  { name := "ENC_UUID", addr := 0x300010, dims := [(2, 0x10000), (4, 0x4)], rw := 0xFFFFFFFF, o := 0xFFFFFFFF }
def ENC_LOAD : RegRow :=
  { name := "ENC_LOAD", addr := 0x300020, dims := [(2, 0x10000)], ro := 0x3FF03FF }
def ENC_S_CTL : RegRow :=
  { name := "ENC_S_CTL", addr := 0x301000, dims := [(2, 0x10000), (8, 0x100)], rw := 0xFF1D, wo := 0x2, l := 0x3,
    s := 0xFF1C, of := .encStream, act := .encSCtl }
def ENC_S_SRC : RegRow :=
  { name := "ENC_S_SRC", addr := 0x301004, dims := [(2, 0x10000), (8, 0x100)], rw := 0x3, s := 0x3, of := .encStream }
def ENC_S_CROP_XY : RegRow :=
  { name := "ENC_S_CROP_XY", addr := 0x301008, dims := [(2, 0x10000), (8, 0x100)], rw := 0x1FFF3FFF, s := 0x1FFF3FFF,
    of := .encStream }
def ENC_S_CROP_WH : RegRow :=
  { name := "ENC_S_CROP_WH", addr := 0x30100C, dims := [(2, 0x10000), (8, 0x100)], rw := 0x1FFF3FFF, s := 0x1FFF3FFF,
    of := .encStream }
def ENC_S_GOP : RegRow :=
  { name := "ENC_S_GOP", addr := 0x301010, dims := [(2, 0x10000), (8, 0x100)], rw := 0x303FF, l := 0x3FF, s := 0x30000,
    of := .encStream }
def ENC_S_QP : RegRow :=
  { name := "ENC_S_QP", addr := 0x301014, dims := [(2, 0x10000), (8, 0x100)], rw := 0x73F3F3F, l := 0x73F3F3F,
    of := .encStream }
def ENC_S_FCAP : RegRow :=
  { name := "ENC_S_FCAP", addr := 0x301018, dims := [(2, 0x10000), (8, 0x100)], rw := 0xFFFFF, l := 0xFFFFF,
    of := .encStream }
def ENC_S_SCAP : RegRow :=
  { name := "ENC_S_SCAP", addr := 0x30101C, dims := [(2, 0x10000), (8, 0x100)], rw := 0xFFFFF, l := 0xFFFFF,
    of := .encStream }
def ENC_S_RING : RegRow :=
  { name := "ENC_S_RING", addr := 0x301020, dims := [(2, 0x10000), (8, 0x100)], rw := 0xFF, s := 0xFF, of := .encStream }
def ENC_S_BS_LO : RegRow :=
  { name := "ENC_S_BS_LO", addr := 0x301024, dims := [(2, 0x10000), (8, 0x100)], rw := 0xFFFFF000, s := 0xFFFFF000,
    multi := .low, of := .encStream }
def ENC_S_BS_HI : RegRow :=
  { name := "ENC_S_BS_HI", addr := 0x301028, dims := [(2, 0x10000), (8, 0x100)], rw := 0xFF, s := 0xFF,
    multi := .high 1 0xFF, of := .encStream }
def ENC_S_BS_CFG : RegRow :=
  { name := "ENC_S_BS_CFG", addr := 0x30102C, dims := [(2, 0x10000), (8, 0x100)], rw := 0x1F0FFFFF, s := 0x1F0FFFFF,
    of := .encStream }
def ENC_S_ST_LO : RegRow :=
  { name := "ENC_S_ST_LO", addr := 0x301030, dims := [(2, 0x10000), (8, 0x100)], rw := 0xFFFFF000, s := 0xFFFFF000,
    multi := .low, of := .encStream }
def ENC_S_ST_HI : RegRow :=
  { name := "ENC_S_ST_HI", addr := 0x301034, dims := [(2, 0x10000), (8, 0x100)], rw := 0xFF, s := 0xFF,
    multi := .high 1 0xFF, of := .encStream }
def ENC_S_ST_CFG : RegRow :=
  { name := "ENC_S_ST_CFG", addr := 0x301038, dims := [(2, 0x10000), (8, 0x100)], rw := 0xFFFF1F1F, s := 0xFFFF1F1F,
    of := .encStream }
def ENC_S_STAT : RegRow :=
  { name := "ENC_S_STAT", addr := 0x30103C, dims := [(2, 0x10000), (8, 0x100)], ro := 0xFF07, of := .encStream }
def ENC_S_LAST : RegRow :=
  { name := "ENC_S_LAST", addr := 0x301040, dims := [(2, 0x10000), (8, 0x100)], ro := 0xFFFFFFFF, of := .encStream }
def ENC_S_CNT : RegRow :=
  { name := "ENC_S_CNT", addr := 0x301044, dims := [(2, 0x10000), (8, 0x100)], ro := 0xFFFFFFFF, of := .encStream }
def ENC_S_WIN : RegRow :=
  { name := "ENC_S_WIN", addr := 0x301048, dims := [(2, 0x10000), (8, 0x100)], ro := 0xFFFFF, of := .encStream }
def ENC_S_ROWS : RegRow :=
  { name := "ENC_S_ROWS", addr := 0x30104C, dims := [(2, 0x10000), (8, 0x100)], ro := 0x1FF01FF, reset := 0x1FF,
    of := .encStream }
def ENC_S_ROI_XY : RegRow :=
  { name := "ENC_S_ROI_XY", addr := 0x301080, dims := [(2, 0x10000), (8, 0x100), (8, 0x8)], rw := 0xFF00FF,
    l := 0xFF00FF, of := .encStream }
def ENC_S_ROI_WH : RegRow :=
  { name := "ENC_S_ROI_WH", addr := 0x301084, dims := [(2, 0x10000), (8, 0x100), (8, 0x8)], rw := 0x801FFFFF,
    l := 0x801FFFFF, of := .encStream }
def PAIR_STAT : RegRow :=
  { name := "PAIR_STAT", addr := 0x50000, ro := 0x1FFFFF }
def PAIR_EVT : RegRow :=
  { name := "PAIR_EVT", addr := 0x50004, w1c := 0x3FF }
def PAIR_EVT_EN : RegRow :=
  { name := "PAIR_EVT_EN", addr := 0x50008, rw := 0x3FF, l := 0x3FF }
def PAIR_CFG : RegRow :=
  { name := "PAIR_CFG", addr := 0x5000C, rw := 0x3F1F, o := 0x3F1F, reset := 0x18 }
def PAIR_TIME : RegRow :=
  { name := "PAIR_TIME", addr := 0x50010, rw := 0xFFFFFFFF, o := 0xFFFFFFFF, reset := 0x3E82333 }
def PAIR_SCORE : RegRow :=
  { name := "PAIR_SCORE", addr := 0x50014, rw := 0xFFFF, ro := 0xFFFF0000, o := 0xFFFF, reset := 0xFF2080 }
def PAIR_TOKEN : RegRow :=
  { name := "PAIR_TOKEN", addr := 0x50018, rw := 0xFFFF, o := 0xFFFF, reset := 0xA02 }
def PAIR_AGREE : RegRow :=
  { name := "PAIR_AGREE", addr := 0x5001C, rw := 0xFFFFFF, o := 0xFFFFFF, reset := 0x1400C8 }
def PAIR_HEAT : RegRow :=
  { name := "PAIR_HEAT", addr := 0x50020, ro := 0xFFFFFFFF }
def PAIR_EPOCH_LO : RegRow :=
  { name := "PAIR_EPOCH_LO", addr := 0x50024, ro := 0xFFFFFFFF, latch := true }
def PAIR_EPOCH_HI : RegRow :=
  { name := "PAIR_EPOCH_HI", addr := 0x50028, ro := 0xFFFF }
def PAIR_SWITCH : RegRow :=
  { name := "PAIR_SWITCH", addr := 0x5002C, wo := 0x3, l := 0x3, warden := true, act := .pairSwitch }
def PAIR_WDOG : RegRow :=
  { name := "PAIR_WDOG", addr := 0x50030, rw := 0xFF00, wo := 0x1, l := 0x1, o := 0xFF00, reset := 0x1400,
    warden := true, act := .pairWdog }
def PAIR_ST : RegRow :=
  { name := "PAIR_ST", addr := 0x50034, rw := 0xFFFFFF, ro := 0x1000000, o := 0xFFFFFF, reset := 0x400A }
def PAIR_CNT : RegRow :=
  { name := "PAIR_CNT", addr := 0x50038, ro := 0xFFFFFFFF }
def PAIR_REPAIR : RegRow :=
  { name := "PAIR_REPAIR", addr := 0x5003C, ro := 0xFFFFFFFF }
def PAIR_HEAD_STAT : RegRow :=
  { name := "PAIR_HEAD_STAT", addr := 0x50100, dims := [(64, 0x8)], ro := 0xFFFF07FF }
def PAIR_HEAD_VOTE : RegRow :=
  { name := "PAIR_HEAD_VOTE", addr := 0x50104, dims := [(64, 0x8)], rw := 0x3F310F, o := 0x3F310F }
def PAIR_HR_OWN : RegRow :=
  { name := "PAIR_HR_OWN", addr := 0x50800, dims := [(16, 0x4)], ro := 0xFFFFFFFF }
def PAIR_HR_PEER : RegRow :=
  { name := "PAIR_HR_PEER", addr := 0x50840, dims := [(16, 0x4)], ro := 0xFFFFFFFF }
def LNK_Q_STAT : RegRow :=
  { name := "LNK_Q_STAT", addr := 0x400000, dims := [(12, 0x10000)], ro := 0x3 }
def LNK_EVT : RegRow :=
  { name := "LNK_EVT", addr := 0x400004, dims := [(12, 0x10000)], w1c := 0x3F }
def LNK_EVT_EN : RegRow :=
  { name := "LNK_EVT_EN", addr := 0x400008, dims := [(12, 0x10000)], rw := 0x3F, l := 0x3F }
def LNK_L_CTL : RegRow :=
  { name := "LNK_L_CTL", addr := 0x400100, dims := [(12, 0x10000), (4, 0x20)], rw := 0x3F, l := 0x1, s := 0x3E,
    of := .lane, act := .laneCtl }
def LNK_L_TX : RegRow :=
  { name := "LNK_L_TX", addr := 0x400104, dims := [(12, 0x10000), (4, 0x20)], rw := 0xF0F3F, s := 0xF0F3F, of := .lane }
def LNK_L_LOS : RegRow :=
  { name := "LNK_L_LOS", addr := 0x400108, dims := [(12, 0x10000), (4, 0x20)], rw := 0xFFFF, s := 0xFFFF, of := .lane }
def LNK_L_STAT : RegRow :=
  { name := "LNK_L_STAT", addr := 0x40010C, dims := [(12, 0x10000), (4, 0x20)], ro := 0x777F, of := .lane }
def LNK_L_CNT : RegRow :=
  { name := "LNK_L_CNT", addr := 0x400110, dims := [(12, 0x10000), (4, 0x20)], ro := 0xFFFFFFFF, of := .lane }
def LNK_CAGE_CTL : RegRow :=
  { name := "LNK_CAGE_CTL", addr := 0x400800, rw := 0xFFFF7F01, o := 0xFFFF7F01,
    reset := 0x640000 }
def LNK_CAGE_IN_LO : RegRow :=
  { name := "LNK_CAGE_IN_LO", addr := 0x400804, ro := 0xFFFFFFFF, latch := true }
def LNK_CAGE_IN_HI : RegRow :=
  { name := "LNK_CAGE_IN_HI", addr := 0x400808, ro := 0xFFFFFFFF }
def LNK_CAGE_OUT_LO : RegRow :=
  { name := "LNK_CAGE_OUT_LO", addr := 0x40080C, ro := 0xFFFFFFFF }
def LNK_CAGE_OUT_HI : RegRow :=
  { name := "LNK_CAGE_OUT_HI", addr := 0x400810, ro := 0xFFFFFFFF }
def LNK_CAGE_MAP : RegRow :=
  { name := "LNK_CAGE_MAP", addr := 0x400900, dims := [(48, 0x4)], rw := 0xFFFFFF, o := 0xFFFFFF,
    reset := 0x7F7F7F }
def ETH_EVT : RegRow :=
  { name := "ETH_EVT", addr := 0x500000, dims := [(12, 0x10000)], w1c := 0x7 }
def ETH_EVT_EN : RegRow :=
  { name := "ETH_EVT_EN", addr := 0x500004, dims := [(12, 0x10000)], rw := 0x7, l := 0x7 }
def ETH_DEF : RegRow :=
  { name := "ETH_DEF", addr := 0x500008, dims := [(12, 0x10000)], rw := 0xFF03, l := 0xFF03 }
def ETH_M_CTL : RegRow :=
  { name := "ETH_M_CTL", addr := 0x500100, dims := [(12, 0x10000), (4, 0x40)], rw := 0x1, l := 0x1, of := .mac,
    act := .macCtl }
def ETH_M_ADDR_LO : RegRow :=
  { name := "ETH_M_ADDR_LO", addr := 0x500104, dims := [(12, 0x10000), (4, 0x40)], rw := 0xFFFFFFFF, s := 0xFFFFFFFF,
    multi := .low, of := .mac }
def ETH_M_ADDR_HI : RegRow :=
  { name := "ETH_M_ADDR_HI", addr := 0x500108, dims := [(12, 0x10000), (4, 0x40)], rw := 0xFFFF, s := 0xFFFF,
    multi := .high 1 0xFFFF, of := .mac }
def ETH_M_IP : RegRow :=
  { name := "ETH_M_IP", addr := 0x50010C, dims := [(12, 0x10000), (4, 0x40)], rw := 0xFFFFFFFF, s := 0xFFFFFFFF,
    of := .mac }
def ETH_M_TXR : RegRow :=
  { name := "ETH_M_TXR", addr := 0x500110, dims := [(12, 0x10000), (4, 0x40), (4, 0x4)], rw := 0x3FF03FF, l := 0x3FF03FF,
    of := .mac }
def ETH_M_STAT : RegRow :=
  { name := "ETH_M_STAT", addr := 0x500120, dims := [(12, 0x10000), (4, 0x40)], ro := 0x7FFF0003, of := .mac }
def ETH_M_RXCNT : RegRow :=
  { name := "ETH_M_RXCNT", addr := 0x500124, dims := [(12, 0x10000), (4, 0x40)], ro := 0xFFFFFFFF, of := .mac }
def ETH_M_RXERR : RegRow :=
  { name := "ETH_M_RXERR", addr := 0x500128, dims := [(12, 0x10000), (4, 0x40)], ro := 0xFFFFFFFF, of := .mac }
def ETH_M_TXCNT : RegRow :=
  { name := "ETH_M_TXCNT", addr := 0x50012C, dims := [(12, 0x10000), (4, 0x40)], ro := 0xFFFFFFFF, of := .mac }
def ETH_M_TXDROP : RegRow :=
  { name := "ETH_M_TXDROP", addr := 0x500130, dims := [(12, 0x10000), (4, 0x40)], ro := 0xFFFF, of := .mac }
def ETH_F_DIP : RegRow :=
  { name := "ETH_F_DIP", addr := 0x501000, dims := [(12, 0x10000), (128, 0x10)], rw := 0xFFFFFFFF, l := 0xFFFFFFFF,
    multi := .low }
def ETH_F_SIP : RegRow :=
  { name := "ETH_F_SIP", addr := 0x501004, dims := [(12, 0x10000), (128, 0x10)], rw := 0xFFFFFFFF, l := 0xFFFFFFFF,
    multi := .low }
def ETH_F_PORT : RegRow :=
  { name := "ETH_F_PORT", addr := 0x501008, dims := [(12, 0x10000), (128, 0x10)], rw := 0xFFFF, l := 0xFFFF, multi := .low }
def ETH_F_CFG : RegRow :=
  { name := "ETH_F_CFG", addr := 0x50100C, dims := [(12, 0x10000), (128, 0x10)], rw := 0x1FF00FF, l := 0x1FF00FF,
    multi := .high 3 0x1FF00FF, act := .ethF }
def SPR_EVT : RegRow :=
  { name := "SPR_EVT", addr := 0x4C0000, w1c := 0x1F01FF }
def SPR_EVT_EN : RegRow :=
  { name := "SPR_EVT_EN", addr := 0x4C0004, rw := 0x1F01FF, l := 0x1F01FF }
def SPR_CFG : RegRow :=
  { name := "SPR_CFG", addr := 0x4C0008, rw := 0x7, o := 0x7 }
def SPR_TIME_CFG : RegRow :=
  { name := "SPR_TIME_CFG", addr := 0x4C0010, rw := 0xFFFF0003, o := 0xFFFF0003 }
def SPR_TIME_STAT : RegRow :=
  { name := "SPR_TIME_STAT", addr := 0x4C0014, ro := 0xFFFF7F07 }
def SPR_TIME_OFS_LO : RegRow :=
  { name := "SPR_TIME_OFS_LO", addr := 0x4C0018, ro := 0xFFFFFFFF, latch := true }
def SPR_TIME_OFS_HI : RegRow :=
  { name := "SPR_TIME_OFS_HI", addr := 0x4C001C, ro := 0xFFFFFFFF }
def SPR_TIME_DLY : RegRow :=
  { name := "SPR_TIME_DLY", addr := 0x4C0020, ro := 0xFFFFFFFF }
def SPR_K_CTL : RegRow :=
  { name := "SPR_K_CTL", addr := 0x4C0100, dims := [(3, 0x40)], rw := 0xFF037773, l := 0x1, s := 0xFF037772, of := .link,
    act := .sprK }
def SPR_K_LANES : RegRow :=
  { name := "SPR_K_LANES", addr := 0x4C0104, dims := [(3, 0x40)], rw := 0x3F3F3F3F, s := 0x3F3F3F3F, of := .link }
def SPR_K_NEG : RegRow :=
  { name := "SPR_K_NEG", addr := 0x4C0108, dims := [(3, 0x40)], rw := 0xFFFF, s := 0xFFFF, reset := 0x64, of := .link }
def SPR_K_RING : RegRow :=
  { name := "SPR_K_RING", addr := 0x4C010C, dims := [(3, 0x40)], rw := 0xFFFF, s := 0xFFFF, of := .link }
def SPR_K_STAT : RegRow :=
  { name := "SPR_K_STAT", addr := 0x4C0110, dims := [(3, 0x40)], ro := 0xFF0F7377, of := .link }
def SPR_K_PEER : RegRow :=
  { name := "SPR_K_PEER", addr := 0x4C0114, dims := [(3, 0x40)], ro := 0xFFFFFF, of := .link }
def SPR_K_CNT : RegRow :=
  { name := "SPR_K_CNT", addr := 0x4C0118, dims := [(3, 0x40)], ro := 0xFFFFFFFF, of := .link }
def SPR_K_CNT2 : RegRow :=
  { name := "SPR_K_CNT2", addr := 0x4C011C, dims := [(3, 0x40)], ro := 0xFFFFFFFF, of := .link }
def SPR_SH_CFG : RegRow :=
  { name := "SPR_SH_CFG", addr := 0x4C0400, dims := [(64, 0x8)], rw := 0x1FF00F3, l := 0x1, s := 0x1FF00F2, of := .share,
    act := .sprSh }
def SPR_SH_STAT : RegRow :=
  { name := "SPR_SH_STAT", addr := 0x4C0404, dims := [(64, 0x8)], ro := 0xFFFFFFFF, of := .share }
def MEM_CTL : RegRow :=
  { name := "MEM_CTL", addr := 0x90000, rw := 0x1, l := 0x1, act := .memCtl }
def MEM_STAT : RegRow :=
  { name := "MEM_STAT", addr := 0x90004, ro := 0xFFFF01 }
def MEM_EVT : RegRow :=
  { name := "MEM_EVT", addr := 0x90008, w1c := 0x3FF }
def MEM_EVT_EN : RegRow :=
  { name := "MEM_EVT_EN", addr := 0x9000C, rw := 0x3FF, l := 0x3FF }
def MEM_CFG : RegRow :=
  { name := "MEM_CFG", addr := 0x90010, rw := 0xFFFF0007, o := 0xFFFF0007, reset := 0x4 }
def MEM_REF : RegRow :=
  { name := "MEM_REF", addr := 0x90014, rw := 0xFFF, ro := 0x1FF3000, o := 0xFFF, reset := 0xF40 }
def MEM_URG : RegRow :=
  { name := "MEM_URG", addr := 0x90018, rw := 0xFFFF, o := 0xFFFF, reset := 0x7D0 }
def MEM_PAGE : RegRow :=
  { name := "MEM_PAGE", addr := 0x9001C, rw := 0xFFFF, l := 0xFFFF, reset := 0xC8 }
def MEM_RDG : RegRow :=
  { name := "MEM_RDG", addr := 0x90020, rw := 0xFFFFFF, o := 0xFFFFFF, reset := 0x401000 }
def MEM_RDG2 : RegRow :=
  { name := "MEM_RDG2", addr := 0x90024, rw := 0xFFFFFFFF, o := 0xFFFFFFFF, reset := 0x4003E8 }
def MEM_SCRUB : RegRow :=
  { name := "MEM_SCRUB", addr := 0x90028, rw := 0xFFFFFF, l := 0xFFFFFF, reset := 0x40040 }
def MEM_SCRUB_STAT : RegRow :=
  { name := "MEM_SCRUB_STAT", addr := 0x9002C, ro := 0xFFFFFFFF }
def MEM_ERR_ADDR_LO : RegRow :=
  { name := "MEM_ERR_ADDR_LO", addr := 0x90030, ro := 0xFFFFFFFF, latch := true }
def MEM_ERR_ADDR_HI : RegRow :=
  { name := "MEM_ERR_ADDR_HI", addr := 0x90034, ro := 0xFF }
def MEM_SRAM_HOT : RegRow :=
  { name := "MEM_SRAM_HOT", addr := 0x90038, ro := 0xFFFFFFFF }
def MEM_FUSE : RegRow :=
  { name := "MEM_FUSE", addr := 0x9003C, ro := 0xFFF }
def MEM_P_CFG : RegRow :=
  { name := "MEM_P_CFG", addr := 0x90100, dims := [(24, 0x10)], rw := 0x3FFFFF, ro := 0xC00000, l := 0x3FFFFF }
def MEM_P_STAT : RegRow :=
  { name := "MEM_P_STAT", addr := 0x90104, dims := [(24, 0x10)], ro := 0xFF07 }
def MEM_P_CNT : RegRow :=
  { name := "MEM_P_CNT", addr := 0x90108, dims := [(24, 0x10)], ro := 0xFFFFFFFF }
def MEM_P_BW : RegRow :=
  { name := "MEM_P_BW", addr := 0x9010C, dims := [(24, 0x10)], ro := 0xFFFFFFFF }
def MEM_C_CTL : RegRow :=
  { name := "MEM_C_CTL", addr := 0xA0000, dims := [(8, 0x10000)], wo := 0x3, l := 0x1, s := 0x2, of := .channel,
    act := .memCCtl }
def MEM_C_STAT : RegRow :=
  { name := "MEM_C_STAT", addr := 0xA0004, dims := [(8, 0x10000)], ro := 0x3F, of := .channel }
def MEM_C_TRN_CTL : RegRow :=
  { name := "MEM_C_TRN_CTL", addr := 0xA0008, dims := [(8, 0x10000)], rw := 0xFFFF000E, wo := 0x1, s := 0xFFFF000F,
    of := .channel, act := .memTrn }
def MEM_C_TRN_STAT : RegRow :=
  { name := "MEM_C_TRN_STAT", addr := 0xA000C, dims := [(8, 0x10000)], ro := 0xFFFF0001, of := .channel }
def MEM_C_TRN_ADDR : RegRow :=
  { name := "MEM_C_TRN_ADDR", addr := 0xA0010, dims := [(8, 0x10000)], rw := 0xFFFFFFC0, s := 0xFFFFFFC0, of := .channel }
def MEM_C_TRN_SEED_LO : RegRow :=
  { name := "MEM_C_TRN_SEED_LO", addr := 0xA0014, dims := [(8, 0x10000)], rw := 0xFFFFFFFF, s := 0xFFFFFFFF,
    multi := .low, of := .channel }
def MEM_C_TRN_SEED_HI : RegRow :=
  { name := "MEM_C_TRN_SEED_HI", addr := 0xA0018, dims := [(8, 0x10000)], rw := 0xFFFFFFFF, s := 0xFFFFFFFF,
    multi := .high 1 0xFFFFFFFF, of := .channel }
def MEM_C_MR : RegRow :=
  { name := "MEM_C_MR", addr := 0xA001C, dims := [(8, 0x10000)], rw := 0x3FFFF, wo := 0x40000, s := 0x7FFFF,
    of := .channel, act := .memMr }
def MEM_C_DLY_CA : RegRow :=
  { name := "MEM_C_DLY_CA", addr := 0xA0020, dims := [(8, 0x10000)], rw := 0x7F007F, s := 0x7F007F, of := .channel }
def MEM_C_DLY_WCK : RegRow :=
  { name := "MEM_C_DLY_WCK", addr := 0xA0024, dims := [(8, 0x10000)], rw := 0x1FF01FF, s := 0x1FF01FF, of := .channel }
def MEM_C_DLY_RG : RegRow :=
  { name := "MEM_C_DLY_RG", addr := 0xA0028, dims := [(8, 0x10000)], rw := 0x1FF01FF, s := 0x1FF01FF, of := .channel }
def MEM_C_TRN_ERR : RegRow :=
  { name := "MEM_C_TRN_ERR", addr := 0xA002C, dims := [(8, 0x10000)], ro := 0xFFFF, of := .channel }
def MEM_C_VREF : RegRow :=
  { name := "MEM_C_VREF", addr := 0xA0050, dims := [(8, 0x10000)], rw := 0x7F7F7F, s := 0x7F7F7F, of := .channel }
def MEM_C_ERR : RegRow :=
  { name := "MEM_C_ERR", addr := 0xA0054, dims := [(8, 0x10000)], ro := 0xFFFFFFFF, of := .channel }
def MEM_C_RDG : RegRow :=
  { name := "MEM_C_RDG", addr := 0xA0058, dims := [(8, 0x10000)], ro := 0xFFFFFFFF, of := .channel }
def MEM_C_DLY_RD : RegRow :=
  { name := "MEM_C_DLY_RD", addr := 0xA0060, dims := [(8, 0x10000), (4, 0x8), (2, 0x4)], rw := 0xFFFFFFF, s := 0xFFFFFFF,
    of := .channel }
def MEM_C_DLY_WR : RegRow :=
  { name := "MEM_C_DLY_WR", addr := 0xA0080, dims := [(8, 0x10000), (4, 0x8), (2, 0x4)], rw := 0xFFFFFFF, s := 0xFFFFFFF,
    of := .channel }
def SPD_STAT : RegRow :=
  { name := "SPD_STAT", addr := 0x80000, ro := 0x3 }
def SPD_EVT : RegRow :=
  { name := "SPD_EVT", addr := 0x80004, w1c := 0xF }
def SPD_EVT_EN : RegRow :=
  { name := "SPD_EVT_EN", addr := 0x80008, rw := 0xF, l := 0xF }
def SPD_COLL : RegRow :=
  { name := "SPD_COLL", addr := 0x8000C, ro := 0xFFFFFFFF }
def SPD_ERR : RegRow :=
  { name := "SPD_ERR", addr := 0x80010, ro := 0xFFFFFFFF }
def SPD_ERR_ADDR : RegRow :=
  { name := "SPD_ERR_ADDR", addr := 0x80014, ro := 0xFFFFFFFF }
def SYS_ID : RegRow :=
  { name := "SYS_ID", addr := 0x0, ro := 0xFFFF0007, reset := 0x72400001 }
def SYS_STRAP : RegRow :=
  { name := "SYS_STRAP", addr := 0x4, ro := 0x7 }
def SYS_LC : RegRow :=
  { name := "SYS_LC", addr := 0x8, ro := 0x3, wo := 0x100, l := 0x100, warden := true, act := .lcAdvance }
def SYS_RST : RegRow :=
  { name := "SYS_RST", addr := 0xC, ro := 0x7 }
def SYS_TEMP : RegRow :=
  { name := "SYS_TEMP", addr := 0x10, ro := 0xFFFF }
def SYS_TEMP_LIM : RegRow :=
  { name := "SYS_TEMP_LIM", addr := 0x14, rw := 0xFFFF, l := 0xFFFF }
def SYS_EVT : RegRow :=
  { name := "SYS_EVT", addr := 0x18, w1c := 0x3 }
def SYS_EVT_EN : RegRow :=
  { name := "SYS_EVT_EN", addr := 0x1C, rw := 0x3, l := 0x3 }
def SYS_REMAP : RegRow :=
  { name := "SYS_REMAP", addr := 0x40, rw := 0x1, l := 0x1, warden := true, act := .remap }
def PWR_DOM_REQ : RegRow :=
  { name := "PWR_DOM_REQ", addr := 0x10000, rw := 0xFFFFFFFF, l := 0xFFFFFFFF, act := .domReq }
def PWR_DOM_STAT : RegRow :=
  { name := "PWR_DOM_STAT", addr := 0x10004, ro := 0xFFFFFFFF }
def PWR_EVT : RegRow :=
  { name := "PWR_EVT", addr := 0x10008, w1c := 0x7 }
def PWR_EVT_EN : RegRow :=
  { name := "PWR_EVT_EN", addr := 0x1000C, rw := 0x7, l := 0x7 }
def PWR_STAT : RegRow :=
  { name := "PWR_STAT", addr := 0x10010, ro := 0x13F }
def MTX_STAT : RegRow :=
  { name := "MTX_STAT", addr := 0x20000, ro := 0x3F }
def MTX_EVT : RegRow :=
  { name := "MTX_EVT", addr := 0x20004, w1c := 0x7 }
def MTX_EVT_EN : RegRow :=
  { name := "MTX_EVT_EN", addr := 0x20008, rw := 0x7, l := 0x7 }
def MTX_GATE : RegRow :=
  { name := "MTX_GATE", addr := 0x2000C, rw := 0xFF, o := 0xFF, reset := 0x20 }
def MTX_MISS_LO : RegRow :=
  { name := "MTX_MISS_LO", addr := 0x20010, ro := 0xFFFFFFFF, latch := true }
def MTX_MISS_HI : RegRow :=
  { name := "MTX_MISS_HI", addr := 0x20014, ro := 0x1FFF }
def MTX_BAD_LO : RegRow :=
  { name := "MTX_BAD_LO", addr := 0x20018, ro := 0xFFFFFFFF, latch := true }
def MTX_BAD_HI : RegRow :=
  { name := "MTX_BAD_HI", addr := 0x2001C, ro := 0x71FFF }
def MTX_CNT : RegRow :=
  { name := "MTX_CNT", addr := 0x20020, ro := 0xFFFFFFFF }
def FLK_STAT : RegRow :=
  { name := "FLK_STAT", addr := 0x30000, ro := 0x7FFFF }
def FLK_EPOCH : RegRow :=
  { name := "FLK_EPOCH", addr := 0x30004, ro := 0xFFFF }
def FLK_EVT : RegRow :=
  { name := "FLK_EVT", addr := 0x30008, w1c := 0x1F }
def FLK_EVT_EN : RegRow :=
  { name := "FLK_EVT_EN", addr := 0x3000C, rw := 0x1F, l := 0x1F }
def FLK_COMMIT : RegRow :=
  { name := "FLK_COMMIT", addr := 0x30010, wo := 0x1, l := 0x1, warden := true, act := .flkCommit }
def FLK_RULE_CRC : RegRow :=
  { name := "FLK_RULE_CRC", addr := 0x30014, ro := 0xFFFFFFFF, reset := 0x6C6D6D48 }
def FLK_OD_WS : RegRow :=
  { name := "FLK_OD_WS", addr := 0x30018, rw := 0x3FF000F, f := 0x3FF000F, reset := 0x10004, warden := true }
def FLK_OD_SP : RegRow :=
  { name := "FLK_OD_SP", addr := 0x3001C, rw := 0x3FF03FF, f := 0x3FF03FF, reset := 0x10001, warden := true }
def FLK_VIOL_ADDR_LO : RegRow :=
  { name := "FLK_VIOL_ADDR_LO", addr := 0x30020, ro := 0xFFFFFFFF, latch := true }
def FLK_VIOL_ADDR_HI : RegRow :=
  { name := "FLK_VIOL_ADDR_HI", addr := 0x30024, ro := 0xFF }
def FLK_VIOL_INFO : RegRow :=
  { name := "FLK_VIOL_INFO", addr := 0x30028, ro := 0x7F0F1F, w1c := 0x80000000 }
def FLK_VIOL_CNT : RegRow :=
  { name := "FLK_VIOL_CNT", addr := 0x3002C, ro := 0xFFFF }
def FLK_P_PERM : RegRow :=
  { name := "FLK_P_PERM", addr := 0x30100, dims := [(96, 0x8)], rw := 0xFFFFF, f := 0xFFFFF, reset := 0x3, warden := true }
def FLK_P_ATTR : RegRow :=
  { name := "FLK_P_ATTR", addr := 0x30104, dims := [(96, 0x8)], rw := 0xF, f := 0xF, reset := 0x8, warden := true }
def FLK_D_BASE : RegRow :=
  { name := "FLK_D_BASE", addr := 0x30400, dims := [(32, 0x10)], rw := 0xFFFFF, f := 0xFFFFF, warden := true }
def FLK_D_LIMIT : RegRow :=
  { name := "FLK_D_LIMIT", addr := 0x30404, dims := [(32, 0x10)], rw := 0xFFFFF, f := 0xFFFFF, warden := true }
def FLK_D_PERM : RegRow :=
  { name := "FLK_D_PERM", addr := 0x30408, dims := [(32, 0x10)], rw := 0xFFFFF, f := 0xFFFFF, warden := true }
def FLK_D_CFG : RegRow :=
  { name := "FLK_D_CFG", addr := 0x3040C, dims := [(32, 0x10)], rw := 0x37, f := 0x37, reset := 0x20, warden := true }
def FLK_D_STAT : RegRow :=
  { name := "FLK_D_STAT", addr := 0x30600, dims := [(32, 0x4)], ro := 0x1F07 }
def WDN_STAT : RegRow :=
  { name := "WDN_STAT", addr := 0x380000, ro := 0xFF7 }
def WDN_EVT : RegRow :=
  { name := "WDN_EVT", addr := 0x380004, w1c := 0xF }
def WDN_EVT_EN : RegRow :=
  { name := "WDN_EVT_EN", addr := 0x380008, rw := 0xF, l := 0xF }
def WDN_ABI : RegRow :=
  { name := "WDN_ABI", addr := 0x38000C, ro := 0xFFFFFFFF, reset := 0x100 }
def WDN_SC_CTL : RegRow :=
  { name := "WDN_SC_CTL", addr := 0x380010, wo := 0x1, l := 0x1, warden := true, act := .scGo }
def WDN_SC_STAT : RegRow :=
  { name := "WDN_SC_STAT", addr := 0x380014, ro := 0xFFFFFF3F }
def WDN_ROM_CRC : RegRow :=
  { name := "WDN_ROM_CRC", addr := 0x380018, ro := 0xFFFFFFFF }
def WDN_CAUSE : RegRow :=
  { name := "WDN_CAUSE", addr := 0x38001C, ro := 0xFF, w1c := 0x300 }
def WDN_PEND : RegRow :=
  { name := "WDN_PEND", addr := 0x380020, dims := [(3, 0x4)], ro := 0xFFFFFFFF }
def WDN_CL_CTL : RegRow :=
  { name := "WDN_CL_CTL", addr := 0x380100, dims := [(4, 0x100)], rw := 0x1, l := 0x1, warden := true, act := .clRun }
def WDN_CL_STAT : RegRow :=
  { name := "WDN_CL_STAT", addr := 0x380104, dims := [(4, 0x100)], ro := 0xFF01, w1c := 0x2 }
def WDN_CL_WDOG : RegRow :=
  { name := "WDN_CL_WDOG", addr := 0x380108, dims := [(4, 0x100)], rw := 0xFF00, wo := 0x1, l := 0x1, o := 0xFF00,
    reset := 0x3200, act := .clWdog }
def WDN_CL_CAUSE : RegRow :=
  { name := "WDN_CL_CAUSE", addr := 0x38010C, dims := [(4, 0x100)], ro := 0xFF, w1c := 0x300 }
def WDN_CL_PEND : RegRow :=
  { name := "WDN_CL_PEND", addr := 0x380110, dims := [(4, 0x100), (3, 0x4)], ro := 0xFFFFFFFF }
def WDN_MB_DB : RegRow :=
  { name := "WDN_MB_DB", addr := 0x380120, dims := [(4, 0x100)], wo := 0x1, l := 0x1, act := .mbDb }
def WDN_MB_STAT : RegRow :=
  { name := "WDN_MB_STAT", addr := 0x380124, dims := [(4, 0x100)], ro := 0x1, w1c := 0x6 }
def WDN_MB_REQ : RegRow :=
  { name := "WDN_MB_REQ", addr := 0x380140, dims := [(4, 0x100), (16, 0x4)], rw := 0xFFFFFFFF, l := 0xFFFFFFFF }
def WDN_MB_RSP : RegRow :=
  { name := "WDN_MB_RSP", addr := 0x380180, dims := [(4, 0x100), (16, 0x4)], rw := 0xFFFFFFFF, l := 0xFFFFFFFF,
    warden := true }
def DSK_CTL : RegRow :=
  { name := "DSK_CTL", addr := 0x140000, rw := 0x1, l := 0x1, of := .desk, act := .dskCtl }
def DSK_STAT : RegRow :=
  { name := "DSK_STAT", addr := 0x140004, ro := 0x1F, of := .desk }
def DSK_EVT : RegRow :=
  { name := "DSK_EVT", addr := 0x140008, w1c := 0x1FF, of := .desk }
def DSK_EVT_EN : RegRow :=
  { name := "DSK_EVT_EN", addr := 0x14000C, rw := 0x1FF, l := 0x1FF, of := .desk }
def DSK_SCAN : RegRow :=
  { name := "DSK_SCAN", addr := 0x140010, rw := 0xF03FF, s := 0xF03FF, reset := 0x201F4, of := .desk }
def DSK_BLCFG : RegRow :=
  { name := "DSK_BLCFG", addr := 0x140014, rw := 0xFF, l := 0xFF, reset := 0x18, of := .desk }
def DSK_RPT_BASE : RegRow :=
  { name := "DSK_RPT_BASE", addr := 0x140018, rw := 0x3FFF0, s := 0x3FFF0, of := .desk }
def DSK_RPT_CFG : RegRow :=
  { name := "DSK_RPT_CFG", addr := 0x14001C, rw := 0xF, s := 0xF, of := .desk }
def DSK_RPT_HEAD : RegRow :=
  { name := "DSK_RPT_HEAD", addr := 0x140020, ro := 0xFFF, of := .desk }
def DSK_RPT_TAIL : RegRow :=
  { name := "DSK_RPT_TAIL", addr := 0x140024, rw := 0xFFF, l := 0xFFF, of := .desk }
def DSK_RPT_LOST : RegRow :=
  { name := "DSK_RPT_LOST", addr := 0x140028, ro := 0xFFFF, of := .desk }
def DSK_P_CTL : RegRow :=
  { name := "DSK_P_CTL", addr := 0x140100, dims := [(4, 0x40)], rw := 0x7, l := 0x1, s := 0x6, of := .panel,
    act := .panelCtl }
def DSK_P_DRV : RegRow :=
  { name := "DSK_P_DRV", addr := 0x140104, dims := [(4, 0x40)], rw := 0xFFFFFF, s := 0xFFFFFF, of := .panel }
def DSK_P_SNS_LO : RegRow :=
  { name := "DSK_P_SNS_LO", addr := 0x140108, dims := [(4, 0x40)], rw := 0xFFFFFFFF, s := 0xFFFFFFFF, multi := .low,
    of := .panel }
def DSK_P_SNS_HI : RegRow :=
  { name := "DSK_P_SNS_HI", addr := 0x14010C, dims := [(4, 0x40)], rw := 0xFF, s := 0xFF, multi := .high 1 0xFF,
    of := .panel }
def DSK_P_TH : RegRow :=
  { name := "DSK_P_TH", addr := 0x140110, dims := [(4, 0x40)], rw := 0xFFFFFFFF, l := 0xFFFFFFFF, of := .panel }
def DSK_P_IDLE_A : RegRow :=
  { name := "DSK_P_IDLE_A", addr := 0x140114, dims := [(4, 0x40)], rw := 0xFFFFFFFF, l := 0xFFFFFFFF, reset := 0x1E0005,
    of := .panel }
def DSK_P_IDLE_B : RegRow :=
  { name := "DSK_P_IDLE_B", addr := 0x140118, dims := [(4, 0x40)], rw := 0xFFFFFFFF, l := 0xFFFFFFFF, reset := 0x2580078,
    of := .panel }
def DSK_P_HOLD : RegRow :=
  { name := "DSK_P_HOLD", addr := 0x14011C, dims := [(4, 0x40)], rw := 0xFFFFFFFF, l := 0xFFFFFFFF, reset := 0x1E0258,
    of := .panel }
def DSK_P_KEY : RegRow :=
  { name := "DSK_P_KEY", addr := 0x140120, dims := [(4, 0x40)], rw := 0xFFFFFFF, l := 0xFFFFFFF, reset := 0x641F42,
    of := .panel }
def DSK_P_SURF : RegRow :=
  { name := "DSK_P_SURF", addr := 0x140124, dims := [(4, 0x40)], rw := 0xF0FFF, l := 0xF0FFF, reset := 0xA0060,
    of := .panel }
def DSK_P_STRIP : RegRow :=
  { name := "DSK_P_STRIP", addr := 0x140128, dims := [(4, 0x40)], rw := 0xFF3F3F3F, l := 0xFF3F3F3F, of := .panel }
def DSK_P_CAL : RegRow :=
  { name := "DSK_P_CAL", addr := 0x14012C, dims := [(4, 0x40)], rw := 0x37FFFF, l := 0x370000, s := 0xFFFF,
    reset := 0x40000, of := .panel }
def DSK_P_BLCFG : RegRow :=
  { name := "DSK_P_BLCFG", addr := 0x140130, dims := [(4, 0x40)], rw := 0xFFFF0F0F, l := 0xFFFF0F0F, reset := 0x3C0806,
    of := .panel }
def DSK_P_STAT : RegRow :=
  { name := "DSK_P_STAT", addr := 0x140134, dims := [(4, 0x40)], ro := 0x3FFFFFF, reset := 0x40000, of := .panel }
def DSK_P_CNT : RegRow :=
  { name := "DSK_P_CNT", addr := 0x140138, dims := [(4, 0x40)], ro := 0xFFFFFFFF, of := .panel }
def DSK_KMAP : RegRow :=
  { name := "DSK_KMAP", addr := 0x141000, dims := [(120, 0x4)], rw := 0xFFFFFFFF, s := 0xFFFFFFFF, of := .desk }
def DSK_BL : RegRow :=
  { name := "DSK_BL", addr := 0x142000, dims := [(480, 0x4)], rw := 0xFFFFFFFF, s := 0xFFFFFFFF, of := .desk }
def DSK_MIR : RegRow :=
  { name := "DSK_MIR", addr := 0x143000, dims := [(480, 0x4)], ro := 0xFFFFFFFF, of := .desk }
def DSK_DIFF : RegRow :=
  { name := "DSK_DIFF", addr := 0x144000, dims := [(480, 0x4)], rw := 0xFFFFFFFF, o := 0xFFFFFFFF, of := .desk }
def DSK_CNT : RegRow :=
  { name := "DSK_CNT", addr := 0x145000, dims := [(480, 0x4)], ro := 0xFFFFFFFF, of := .desk }
def DSK_OCC : RegRow :=
  { name := "DSK_OCC", addr := 0x146000, dims := [(30, 0x4)], ro := 0xFFFFFFFF, of := .desk }
def LOG_STAT : RegRow :=
  { name := "LOG_STAT", addr := 0x60000, ro := 0xF }
def LOG_EVT : RegRow :=
  { name := "LOG_EVT", addr := 0x60004, w1c := 0xF }
def LOG_EVT_EN : RegRow :=
  { name := "LOG_EVT_EN", addr := 0x60008, rw := 0xF, l := 0xF }
def LOG_CFG : RegRow :=
  { name := "LOG_CFG", addr := 0x6000C, rw := 0xFFFF07FF, l := 0xFFFF07FF, reset := 0x3E80100 }
def LOG_OPTIME : RegRow :=
  { name := "LOG_OPTIME", addr := 0x60010, ro := 0xFFFFFFFF }
def LOG_PCYC : RegRow :=
  { name := "LOG_PCYC", addr := 0x60014, ro := 0xFFFFFF }
def LOG_DROP : RegRow :=
  { name := "LOG_DROP", addr := 0x60018, ro := 0xFFFFFFFF }
def LOG_CNT : RegRow :=
  { name := "LOG_CNT", addr := 0x6001C, ro := 0xFFFF07FF }
def LOG_CURSOR : RegRow :=
  { name := "LOG_CURSOR", addr := 0x60020, rw := 0xFFFFFF00, wo := 0x3, l := 0xFFFFFF03, act := .logCursor }
def LOG_STEP : RegRow :=
  { name := "LOG_STEP", addr := 0x60024, wo := 0x3, l := 0x3, act := .logStep }
def LOG_CUR_STAT : RegRow :=
  { name := "LOG_CUR_STAT", addr := 0x60028, ro := 0xFFFF001F }
def LOG_CLR_KEY : RegRow :=
  { name := "LOG_CLR_KEY", addr := 0x6002C, wo := 0xFFFFFFFF, l := 0xFFFFFFFF, warden := true, act := .clrKey }
def LOG_WIN : RegRow :=
  { name := "LOG_WIN", addr := 0x60040, dims := [(8, 0x4)], ro := 0xFFFFFFFF }
def LOG_SUB_HDR : RegRow :=
  { name := "LOG_SUB_HDR", addr := 0x60100, dims := [(5, 0x20)], rw := 0x7FFFF, l := 0x7FFFF }
def LOG_SUB_P : RegRow :=
  { name := "LOG_SUB_P", addr := 0x60104, dims := [(5, 0x20), (4, 0x4)], rw := 0xFFFFFFFF, l := 0xFFFFFFFF }
def LOG_SUB_GO : RegRow :=
  { name := "LOG_SUB_GO", addr := 0x60114, dims := [(5, 0x20)], wo := 0x1, l := 0x1, act := .logSub }
def MRS_CLK : RegRow :=
  { name := "MRS_CLK", addr := 0x170000, rw := 0xFF03, o := 0xFF03, reset := 0x2800 }
def MRS_ID : RegRow :=
  { name := "MRS_ID", addr := 0x170004, rw := 0xFFFF, ro := 0xFFFF0000, o := 0xFFFF }
def MRS_STAT : RegRow :=
  { name := "MRS_STAT", addr := 0x170008, ro := 0xFF01 }
def ASY_EVT : RegRow :=
  { name := "ASY_EVT", addr := 0x70000, w1c := 0x1FF }
def ASY_EVT_EN : RegRow :=
  { name := "ASY_EVT_EN", addr := 0x70004, rw := 0x1FF, l := 0x1FF }
def ASY_U_POLY_LO : RegRow :=
  { name := "ASY_U_POLY_LO", addr := 0x70100, dims := [(4, 0x40)], rw := 0xFFFFFFFF, s := 0xFFFFFFFF, multi := .low,
    of := .assay }
def ASY_U_POLY_HI : RegRow :=
  { name := "ASY_U_POLY_HI", addr := 0x70104, dims := [(4, 0x40)], rw := 0xFFFFFFFF, s := 0xFFFFFFFF,
    multi := .high 1 0xFFFFFFFF, of := .assay }
def ASY_U_INIT_LO : RegRow :=
  { name := "ASY_U_INIT_LO", addr := 0x70108, dims := [(4, 0x40)], rw := 0xFFFFFFFF, s := 0xFFFFFFFF, multi := .low,
    of := .assay }
def ASY_U_INIT_HI : RegRow :=
  { name := "ASY_U_INIT_HI", addr := 0x7010C, dims := [(4, 0x40)], rw := 0xFFFFFFFF, s := 0xFFFFFFFF,
    multi := .high 1 0xFFFFFFFF, of := .assay }
def ASY_U_CFG : RegRow :=
  { name := "ASY_U_CFG", addr := 0x70110, dims := [(4, 0x40)], rw := 0x77F, s := 0x77F, reset := 0x20, of := .assay }
def ASY_U_ADDR_LO : RegRow :=
  { name := "ASY_U_ADDR_LO", addr := 0x70114, dims := [(4, 0x40)], rw := 0xFFFFFFFF, s := 0xFFFFFFFF, multi := .low,
    of := .assay }
def ASY_U_ADDR_HI : RegRow :=
  { name := "ASY_U_ADDR_HI", addr := 0x70118, dims := [(4, 0x40)], rw := 0xFF, s := 0xFF, multi := .high 1 0xFF,
    of := .assay }
def ASY_U_LEN : RegRow :=
  { name := "ASY_U_LEN", addr := 0x7011C, dims := [(4, 0x40)], rw := 0xFFFFFFFF, s := 0xFFFFFFFF, of := .assay }
def ASY_U_CTL : RegRow :=
  { name := "ASY_U_CTL", addr := 0x70120, dims := [(4, 0x40)], rw := 0x2, wo := 0x1, l := 0x1, s := 0x2, of := .assay,
    act := .asyCtl }
def ASY_U_VAL_LO : RegRow :=
  { name := "ASY_U_VAL_LO", addr := 0x70124, dims := [(4, 0x40)], rw := 0xFFFFFFFF, s := 0xFFFFFFFF, multi := .low,
    of := .assay }
def ASY_U_VAL_HI : RegRow :=
  { name := "ASY_U_VAL_HI", addr := 0x70128, dims := [(4, 0x40)], rw := 0xFFFFFFFF, s := 0xFFFFFFFF,
    multi := .high 1 0xFFFFFFFF, of := .assay }
def ASY_U_RES_LO : RegRow :=
  { name := "ASY_U_RES_LO", addr := 0x7012C, dims := [(4, 0x40)], ro := 0xFFFFFFFF, of := .assay }
def ASY_U_RES_HI : RegRow :=
  { name := "ASY_U_RES_HI", addr := 0x70130, dims := [(4, 0x40)], ro := 0xFFFFFFFF, of := .assay }
def ASY_U_STAT : RegRow :=
  { name := "ASY_U_STAT", addr := 0x70134, dims := [(4, 0x40)], ro := 0x7, of := .assay }
def ASY_U_DONE : RegRow :=
  { name := "ASY_U_DONE", addr := 0x70138, dims := [(4, 0x40)], ro := 0xFFFFFFFF, of := .assay }
def XSP_STAT : RegRow :=
  { name := "XSP_STAT", addr := 0x160000, ro := 0x1F03FF }
def XSP_EVT : RegRow :=
  { name := "XSP_EVT", addr := 0x160004, w1c := 0xF }
def XSP_EVT_EN : RegRow :=
  { name := "XSP_EVT_EN", addr := 0x160008, rw := 0xF, l := 0xF }
def XSP_REJ : RegRow :=
  { name := "XSP_REJ", addr := 0x16000C, ro := 0xFFFFFFFF }
def XSP_IMG : RegRow :=
  { name := "XSP_IMG", addr := 0x160010, ro := 0xFFFFFFFF }
def XSP_TIME : RegRow :=
  { name := "XSP_TIME", addr := 0x160014, ro := 0xFFFFFFFF }
def XSP_TRIAL : RegRow :=
  { name := "XSP_TRIAL", addr := 0x160018, rw := 0xFFFF, ro := 0xFFFF0000, o := 0xFFFF, reset := 0x12C }
def XSP_SEAL : RegRow :=
  { name := "XSP_SEAL", addr := 0x16001C, wo := 0x1, l := 0x1, warden := true, act := .xspSeal }
def XSP_CFG : RegRow :=
  { name := "XSP_CFG", addr := 0x160020, rw := 0x3, o := 0x3 }
def XSP_OP : RegRow :=
  { name := "XSP_OP", addr := 0x160030, rw := 0x7, wo := 0x100, l := 0x107, act := .xspOp }
def XSP_ADDR : RegRow :=
  { name := "XSP_ADDR", addr := 0x160034, rw := 0x3FFFFFF, l := 0x3FFFFFF }
def XSP_LEN : RegRow :=
  { name := "XSP_LEN", addr := 0x160038, rw := 0x1FFFF, l := 0x1FFFF }
def XSP_BUF : RegRow :=
  { name := "XSP_BUF", addr := 0x16003C, rw := 0x3FFFC, l := 0x3FFFC }
def XSP_OP_STAT : RegRow :=
  { name := "XSP_OP_STAT", addr := 0x160040, ro := 0xF }
def MGT_CTL : RegRow :=
  { name := "MGT_CTL", addr := 0x150000, rw := 0x1, l := 0x1, of := .mgt, act := .mgtCtl }
def MGT_STAT : RegRow :=
  { name := "MGT_STAT", addr := 0x150004, ro := 0xF7, of := .mgt }
def MGT_EVT : RegRow :=
  { name := "MGT_EVT", addr := 0x150008, w1c := 0x7, of := .mgt }
def MGT_EVT_EN : RegRow :=
  { name := "MGT_EVT_EN", addr := 0x15000C, rw := 0x7, l := 0x7, of := .mgt }
def MGT_MAC_LO : RegRow :=
  { name := "MGT_MAC_LO", addr := 0x150010, rw := 0xFFFFFFFF, s := 0xFFFFFFFF, multi := .low, of := .mgt }
def MGT_MAC_HI : RegRow :=
  { name := "MGT_MAC_HI", addr := 0x150014, rw := 0xFFFF, s := 0xFFFF, multi := .high 1 0xFFFF, of := .mgt }
def MGT_IP : RegRow :=
  { name := "MGT_IP", addr := 0x150018, rw := 0xFFFFFFFF, s := 0xFFFFFFFF, of := .mgt }
def MGT_GW : RegRow :=
  { name := "MGT_GW", addr := 0x15001C, rw := 0xFFFFFFFF, s := 0xFFFFFFFF, of := .mgt }
def MGT_PORT : RegRow :=
  { name := "MGT_PORT", addr := 0x150020, rw := 0x3FFFFF, s := 0x3FFFFF, of := .mgt }
def MGT_RING : RegRow :=
  { name := "MGT_RING", addr := 0x150024, rw := 0xFFFF, s := 0xFFFF, of := .mgt }
def MGT_CNT : RegRow :=
  { name := "MGT_CNT", addr := 0x150028, ro := 0xFFFFFFFF, of := .mgt }
def MGT_IDLE : RegRow :=
  { name := "MGT_IDLE", addr := 0x15002C, rw := 0xFF, o := 0xFF, reset := 0x3C, of := .mgt }

/-- The registers of the TIM window. -/
def rows_TIM : List RegRow :=
  [TIM_CTL, TIM_STAT, TIM_EVT, TIM_EVT_EN, TIM_SNAP, TIM_SNAP_NS, TIM_SNAP_SEC_LO, TIM_SNAP_SEC_HI,
    TIM_SNAP_STEADY_LO, TIM_SNAP_STEADY_HI, TIM_SET_NS, TIM_SET_SEC_LO, TIM_SET_SEC_HI, TIM_SRV_OFS_LO,
    TIM_SRV_OFS_HI, TIM_SRV_GAIN, TIM_SRV_GAIN_ACQ, TIM_SRV_STEP, TIM_SRV_LOCK, TIM_SRV_HOLD] ++
  [TIM_SRV_RLIM, TIM_RATE, TIM_SRV_INTEG, TIM_MASTER, TIM_STEP_CNT, TIM_LAST_STEP_LO, TIM_LAST_STEP_HI,
    TIM_HEAD_CTL, TIM_HEAD_RATE, TIM_HEAD_VLINES, TIM_HEAD_VBLANK, TIM_HEAD_ALIGN, TIM_HEAD_STAT, TIM_HEAD_PHASE,
    TIM_HEAD_FRAME_LO, TIM_HEAD_FRAME_HI, TIM_HEAD_AIDX_LO, TIM_HEAD_AIDX_HI, TIM_CAL_POS, TIM_CAL_ACT]

/-- The registers of the LAD window. -/
def rows_LAD : List RegRow :=
  [LAD_STAT, LAD_EVT, LAD_EVT_EN, LAD_UTC, LAD_MERGE, LAD_MERGE2, LAD_SRC_CTL, LAD_SRC_DEC, LAD_SRC_RING,
    LAD_SRC_PORT, LAD_SRC_SSRC, LAD_SRC_FMT, LAD_SRC_FMT2, LAD_SRC_MAXAGE, LAD_SRC_CHANGE, LAD_SRC_MCW0,
    LAD_SRC_MCW1, LAD_SRC_POLICY, LAD_SRC_STAT, LAD_SRC_AB_LO] ++
  [LAD_SRC_AB_HI, LAD_SRC_LOSS, LAD_RING_BASE_LO, LAD_RING_BASE_HI, LAD_RING_CFG, LAD_RING_PART, LAD_RING_HEAD,
    LAD_RING_TAIL, LAD_RING_OVF, LAD_POOL_BASE_LO, LAD_POOL_BASE_HI, LAD_POOL_GEOM, LAD_POOL_CFG]

/-- The registers of the DEC windows. -/
def rows_DEC : List RegRow :=
  [DEC_CTL, DEC_STAT, DEC_EVT, DEC_EVT_EN, DEC_WDOG, DEC_LOAD, DEC_SWITCH, DEC_CTX_CFG, DEC_CTX_STAT,
    DEC_CTX_PROF, DEC_CTX_WM, DEC_CTX_FRAME, DEC_CTX_REF, DEC_CTX_ERR, DEC_CTX_TIME]

/-- The registers of the CRU windows. -/
def rows_CRU : List RegRow :=
  [CRU_CTL, CRU_STAT, CRU_EVT, CRU_EVT_EN, CRU_BUDGET, CRU_HEAD_MAP, CRU_HEAD_CFG, CRU_HEAD_BG, CRU_HEAD_WB,
    CRU_GRP_CFG, CRU_GRP_STAT, CRU_GRP_FRAME, CRU_WB_CTL, CRU_WB_SIZE, CRU_WB_STAT, CRU_COEF_H, CRU_COEF_V0,
    CRU_COEF_V1, CRU_COEF_V2, CRU_M_CTL] ++
  [CRU_M_SRC, CRU_M_PLATE_LO, CRU_M_PLATE_HI, CRU_M_PLATE_FMT, CRU_M_CROP_XY, CRU_M_CROP_WH, CRU_M_DST_XY,
    CRU_M_DST_WH, CRU_M_ALPHA, CRU_M_STAT, CRU_M_HSTEP, CRU_M_VSTEP]

/-- The registers of the FET window. -/
def rows_FET : List RegRow :=
  [FET_CTL, FET_STAT, FET_EVT, FET_EVT_EN, FET_SLAG_C0, FET_SLAG_C1, FET_FLAW_FILL, FET_FLAW_EDGE, FET_MARK_C0,
    FET_MARK_C1, FET_ANC_ID, FET_DIM_CFG, FET_COLOUR_STAT, FET_HEAD_CTL, FET_HEAD_MARK, FET_HEAD_DIM,
    FET_HEAD_STAT, FET_HEAD_CNT, FET_HEAD_SEAL, FET_HEAD_SEALID] ++
  [FET_HEAD_RB, FET_FRZ_STAT, FET_FRZ_FP, FET_RSW_CFG, FET_RSW_XY, FET_RSW_WH, FET_RSW_EXP, FET_RSW_STAT,
    FET_RSW_LAST, FET_PKT_GSTAT, FET_PKT_HEAT, FET_PKT_EPOCH_LO, FET_PKT_EPOCH_HI, FET_PKT_EVT, FET_PKT_EVT_EN,
    FET_PKT_CTL, FET_PKT_FMT, FET_PKT_RTP, FET_PKT_SSRC_V, FET_PKT_SSRC_A] ++
  [FET_PKT_STAT, FET_PKT_PPF, FET_PKT_REASON, FET_PKT_FIDX_LO, FET_PKT_FIDX_HI, FET_PKT_TS, FET_PKT_SEQ0,
    FET_PKT_SENT, FET_PKT_DROP, FET_PKT_P_DIP, FET_PKT_P_DMAC_LO, FET_PKT_P_DMAC_HI, FET_PKT_P_PORT,
    FET_PKT_P_APORT, FET_PKT_P_QOS, FET_PKT_P_MAC]

/-- The registers of the ENC windows. -/
def rows_ENC : List RegRow :=
  [ENC_CTL, ENC_STAT, ENC_EVT, ENC_EVT_EN, ENC_UUID, ENC_LOAD, ENC_S_CTL, ENC_S_SRC, ENC_S_CROP_XY,
    ENC_S_CROP_WH, ENC_S_GOP, ENC_S_QP, ENC_S_FCAP, ENC_S_SCAP, ENC_S_RING, ENC_S_BS_LO, ENC_S_BS_HI,
    ENC_S_BS_CFG, ENC_S_ST_LO, ENC_S_ST_HI] ++
  [ENC_S_ST_CFG, ENC_S_STAT, ENC_S_LAST, ENC_S_CNT, ENC_S_WIN, ENC_S_ROWS, ENC_S_ROI_XY, ENC_S_ROI_WH]

/-- The registers of the PAIR window. -/
def rows_PAIR : List RegRow :=
  [PAIR_STAT, PAIR_EVT, PAIR_EVT_EN, PAIR_CFG, PAIR_TIME, PAIR_SCORE, PAIR_TOKEN, PAIR_AGREE, PAIR_HEAT,
    PAIR_EPOCH_LO, PAIR_EPOCH_HI, PAIR_SWITCH, PAIR_WDOG, PAIR_ST, PAIR_CNT, PAIR_REPAIR, PAIR_HEAD_STAT,
    PAIR_HEAD_VOTE, PAIR_HR_OWN, PAIR_HR_PEER]

/-- The registers of the LNK windows. -/
def rows_LNK : List RegRow :=
  [LNK_Q_STAT, LNK_EVT, LNK_EVT_EN, LNK_L_CTL, LNK_L_TX, LNK_L_LOS, LNK_L_STAT, LNK_L_CNT, LNK_CAGE_CTL,
    LNK_CAGE_IN_LO, LNK_CAGE_IN_HI, LNK_CAGE_OUT_LO, LNK_CAGE_OUT_HI, LNK_CAGE_MAP]

/-- The registers of the ETH windows. -/
def rows_ETH : List RegRow :=
  [ETH_EVT, ETH_EVT_EN, ETH_DEF, ETH_M_CTL, ETH_M_ADDR_LO, ETH_M_ADDR_HI, ETH_M_IP, ETH_M_TXR, ETH_M_STAT,
    ETH_M_RXCNT, ETH_M_RXERR, ETH_M_TXCNT, ETH_M_TXDROP, ETH_F_DIP, ETH_F_SIP, ETH_F_PORT, ETH_F_CFG]

/-- The registers of the SPR window. -/
def rows_SPR : List RegRow :=
  [SPR_EVT, SPR_EVT_EN, SPR_CFG, SPR_TIME_CFG, SPR_TIME_STAT, SPR_TIME_OFS_LO, SPR_TIME_OFS_HI, SPR_TIME_DLY,
    SPR_K_CTL, SPR_K_LANES, SPR_K_NEG, SPR_K_RING, SPR_K_STAT, SPR_K_PEER, SPR_K_CNT, SPR_K_CNT2, SPR_SH_CFG,
    SPR_SH_STAT]

/-- The registers of the MEM window. -/
def rows_MEM : List RegRow :=
  [MEM_CTL, MEM_STAT, MEM_EVT, MEM_EVT_EN, MEM_CFG, MEM_REF, MEM_URG, MEM_PAGE, MEM_RDG, MEM_RDG2, MEM_SCRUB,
    MEM_SCRUB_STAT, MEM_ERR_ADDR_LO, MEM_ERR_ADDR_HI, MEM_SRAM_HOT, MEM_FUSE, MEM_P_CFG, MEM_P_STAT, MEM_P_CNT,
    MEM_P_BW]

/-- The registers of the MEM channel windows. -/
def rows_MEM_C : List RegRow :=
  [MEM_C_CTL, MEM_C_STAT, MEM_C_TRN_CTL, MEM_C_TRN_STAT, MEM_C_TRN_ADDR, MEM_C_TRN_SEED_LO, MEM_C_TRN_SEED_HI,
    MEM_C_MR, MEM_C_DLY_CA, MEM_C_DLY_WCK, MEM_C_DLY_RG, MEM_C_TRN_ERR, MEM_C_VREF, MEM_C_ERR, MEM_C_RDG,
    MEM_C_DLY_RD, MEM_C_DLY_WR]

/-- The registers of the SPD window. -/
def rows_SPD : List RegRow :=
  [SPD_STAT, SPD_EVT, SPD_EVT_EN, SPD_COLL, SPD_ERR, SPD_ERR_ADDR]

/-- The registers of the SYS window. -/
def rows_SYS : List RegRow :=
  [SYS_ID, SYS_STRAP, SYS_LC, SYS_RST, SYS_TEMP, SYS_TEMP_LIM, SYS_EVT, SYS_EVT_EN, SYS_REMAP]

/-- The registers of the PWR window. -/
def rows_PWR : List RegRow :=
  [PWR_DOM_REQ, PWR_DOM_STAT, PWR_EVT, PWR_EVT_EN, PWR_STAT]

/-- The registers of the MTX window. -/
def rows_MTX : List RegRow :=
  [MTX_STAT, MTX_EVT, MTX_EVT_EN, MTX_GATE, MTX_MISS_LO, MTX_MISS_HI, MTX_BAD_LO, MTX_BAD_HI, MTX_CNT]

/-- The registers of the FLK window. -/
def rows_FLK : List RegRow :=
  [FLK_STAT, FLK_EPOCH, FLK_EVT, FLK_EVT_EN, FLK_COMMIT, FLK_RULE_CRC, FLK_OD_WS, FLK_OD_SP, FLK_VIOL_ADDR_LO,
    FLK_VIOL_ADDR_HI, FLK_VIOL_INFO, FLK_VIOL_CNT, FLK_P_PERM, FLK_P_ATTR, FLK_D_BASE, FLK_D_LIMIT, FLK_D_PERM,
    FLK_D_CFG, FLK_D_STAT]

/-- The registers of the WDN window. -/
def rows_WDN : List RegRow :=
  [WDN_STAT, WDN_EVT, WDN_EVT_EN, WDN_ABI, WDN_SC_CTL, WDN_SC_STAT, WDN_ROM_CRC, WDN_CAUSE, WDN_PEND,
    WDN_CL_CTL, WDN_CL_STAT, WDN_CL_WDOG, WDN_CL_CAUSE, WDN_CL_PEND, WDN_MB_DB, WDN_MB_STAT, WDN_MB_REQ,
    WDN_MB_RSP]

/-- The registers of the DSK window. -/
def rows_DSK : List RegRow :=
  [DSK_CTL, DSK_STAT, DSK_EVT, DSK_EVT_EN, DSK_SCAN, DSK_BLCFG, DSK_RPT_BASE, DSK_RPT_CFG, DSK_RPT_HEAD,
    DSK_RPT_TAIL, DSK_RPT_LOST, DSK_P_CTL, DSK_P_DRV, DSK_P_SNS_LO, DSK_P_SNS_HI, DSK_P_TH, DSK_P_IDLE_A,
    DSK_P_IDLE_B, DSK_P_HOLD, DSK_P_KEY] ++
  [DSK_P_SURF, DSK_P_STRIP, DSK_P_CAL, DSK_P_BLCFG, DSK_P_STAT, DSK_P_CNT, DSK_KMAP, DSK_BL, DSK_MIR, DSK_DIFF,
    DSK_CNT, DSK_OCC]

/-- The registers of the LOG window. -/
def rows_LOG : List RegRow :=
  [LOG_STAT, LOG_EVT, LOG_EVT_EN, LOG_CFG, LOG_OPTIME, LOG_PCYC, LOG_DROP, LOG_CNT, LOG_CURSOR, LOG_STEP,
    LOG_CUR_STAT, LOG_CLR_KEY, LOG_WIN, LOG_SUB_HDR, LOG_SUB_P, LOG_SUB_GO]

/-- The registers of the MRS window. -/
def rows_MRS : List RegRow :=
  [MRS_CLK, MRS_ID, MRS_STAT]

/-- The registers of the ASY window. -/
def rows_ASY : List RegRow :=
  [ASY_EVT, ASY_EVT_EN, ASY_U_POLY_LO, ASY_U_POLY_HI, ASY_U_INIT_LO, ASY_U_INIT_HI, ASY_U_CFG, ASY_U_ADDR_LO,
    ASY_U_ADDR_HI, ASY_U_LEN, ASY_U_CTL, ASY_U_VAL_LO, ASY_U_VAL_HI, ASY_U_RES_LO, ASY_U_RES_HI, ASY_U_STAT,
    ASY_U_DONE]

/-- The registers of the XSP window. -/
def rows_XSP : List RegRow :=
  [XSP_STAT, XSP_EVT, XSP_EVT_EN, XSP_REJ, XSP_IMG, XSP_TIME, XSP_TRIAL, XSP_SEAL, XSP_CFG, XSP_OP, XSP_ADDR,
    XSP_LEN, XSP_BUF, XSP_OP_STAT]

/-- The registers of the MGT window. -/
def rows_MGT : List RegRow :=
  [MGT_CTL, MGT_STAT, MGT_EVT, MGT_EVT_EN, MGT_MAC_LO, MGT_MAC_HI, MGT_IP, MGT_GW, MGT_PORT, MGT_RING, MGT_CNT,
    MGT_IDLE]

/-- The registers of peripheral window `w` (R31, table Blocks); a reserved window has none. -/
def rowsOf (w : Nat) : List RegRow :=
  if w == 0 then rows_SYS
  else if w == 1 then rows_PWR
  else if w == 2 then rows_MTX
  else if w == 3 then rows_FLK
  else if w == 4 then rows_TIM
  else if w == 5 then rows_PAIR
  else if w == 6 then rows_LOG
  else if w == 7 then rows_ASY
  else if w == 8 then rows_SPD
  else if w == 9 then rows_MEM
  else if 10 ≤ w && w < 18 then rows_MEM_C
  else if w == 20 then rows_DSK
  else if w == 21 then rows_MGT
  else if w == 22 then rows_XSP
  else if w == 23 then rows_MRS
  else if w == 24 then rows_LAD
  else if 32 ≤ w && w < 36 then rows_CRU
  else if w == 36 then rows_FET
  else if 40 ≤ w && w < 48 then rows_DEC
  else if 48 ≤ w && w < 50 then rows_ENC
  else if w == 56 then rows_WDN
  else if 64 ≤ w && w < 76 then rows_LNK
  else if w == 76 then rows_SPR
  else if 80 ≤ w && w < 92 then rows_ETH
  else []

end Sys2Proof.Machine.Rg

namespace Sys2Proof.Machine.F

/-! The fields, by the manual's names: register address of instance 0, the strides of its indices, the lowest
bit and the width. -/

def TIM_CTL_SRV_EN : Fld := ⟨0x40000, 0x0, 0x0, 0x0, 0, 1⟩
def TIM_CTL_HOLD : Fld := ⟨0x40000, 0x0, 0x0, 0x0, 1, 1⟩
def TIM_STAT_SRV : Fld := ⟨0x40004, 0x0, 0x0, 0x0, 0, 2⟩
def TIM_STAT_STEP_GEN : Fld := ⟨0x40004, 0x0, 0x0, 0x0, 2, 2⟩
def TIM_STAT_RATE_SAT : Fld := ⟨0x40004, 0x0, 0x0, 0x0, 4, 1⟩
def TIM_EVT_STEP : Fld := ⟨0x40008, 0x0, 0x0, 0x0, 0, 1⟩
def TIM_EVT_HOLD_IN : Fld := ⟨0x40008, 0x0, 0x0, 0x0, 1, 1⟩
def TIM_EVT_HOLD_OUT : Fld := ⟨0x40008, 0x0, 0x0, 0x0, 2, 1⟩
def TIM_EVT_LOCK : Fld := ⟨0x40008, 0x0, 0x0, 0x0, 3, 1⟩
def TIM_EVT_UNLOCK : Fld := ⟨0x40008, 0x0, 0x0, 0x0, 4, 1⟩
def TIM_EVT_RELOCK : Fld := ⟨0x40008, 0x0, 0x0, 0x0, 5, 1⟩
def TIM_EVT_CAL_ERR : Fld := ⟨0x40008, 0x0, 0x0, 0x0, 6, 1⟩
def TIM_EVT_FMT_ERR : Fld := ⟨0x40008, 0x0, 0x0, 0x0, 7, 1⟩
def TIM_EVT_WIGN : Fld := ⟨0x40008, 0x0, 0x0, 0x0, 8, 1⟩
def TIM_EVT_EN_STEP : Fld := ⟨0x4000C, 0x0, 0x0, 0x0, 0, 1⟩
def TIM_EVT_EN_HOLD_IN : Fld := ⟨0x4000C, 0x0, 0x0, 0x0, 1, 1⟩
def TIM_EVT_EN_HOLD_OUT : Fld := ⟨0x4000C, 0x0, 0x0, 0x0, 2, 1⟩
def TIM_EVT_EN_LOCK : Fld := ⟨0x4000C, 0x0, 0x0, 0x0, 3, 1⟩
def TIM_EVT_EN_UNLOCK : Fld := ⟨0x4000C, 0x0, 0x0, 0x0, 4, 1⟩
def TIM_EVT_EN_RELOCK : Fld := ⟨0x4000C, 0x0, 0x0, 0x0, 5, 1⟩
def TIM_EVT_EN_CAL_ERR : Fld := ⟨0x4000C, 0x0, 0x0, 0x0, 6, 1⟩
def TIM_EVT_EN_FMT_ERR : Fld := ⟨0x4000C, 0x0, 0x0, 0x0, 7, 1⟩
def TIM_EVT_EN_WIGN : Fld := ⟨0x4000C, 0x0, 0x0, 0x0, 8, 1⟩
def TIM_SNAP_TAKE : Fld := ⟨0x40010, 0x0, 0x0, 0x0, 0, 1⟩
def TIM_SNAP_NS_NS : Fld := ⟨0x40014, 0x0, 0x0, 0x0, 0, 30⟩
def TIM_SNAP_SEC_LO_SEC_LO : Fld := ⟨0x40018, 0x0, 0x0, 0x0, 0, 32⟩
def TIM_SNAP_SEC_HI_SEC_HI : Fld := ⟨0x4001C, 0x0, 0x0, 0x0, 0, 16⟩
def TIM_SNAP_SEC_HI_FRAC : Fld := ⟨0x4001C, 0x0, 0x0, 0x0, 16, 16⟩
def TIM_SNAP_STEADY_LO_STEADY_LO : Fld := ⟨0x40020, 0x0, 0x0, 0x0, 0, 32⟩
def TIM_SNAP_STEADY_HI_STEADY_HI : Fld := ⟨0x40024, 0x0, 0x0, 0x0, 0, 32⟩
def TIM_SET_NS_NS : Fld := ⟨0x40030, 0x0, 0x0, 0x0, 0, 30⟩
def TIM_SET_SEC_LO_SEC_LO : Fld := ⟨0x40034, 0x0, 0x0, 0x0, 0, 32⟩
def TIM_SET_SEC_HI_SEC_HI : Fld := ⟨0x40038, 0x0, 0x0, 0x0, 0, 16⟩
def TIM_SRV_OFS_LO_OFS_LO : Fld := ⟨0x40040, 0x0, 0x0, 0x0, 0, 32⟩
def TIM_SRV_OFS_HI_OFS_HI : Fld := ⟨0x40044, 0x0, 0x0, 0x0, 0, 32⟩
def TIM_SRV_GAIN_KP : Fld := ⟨0x40048, 0x0, 0x0, 0x0, 0, 16⟩
def TIM_SRV_GAIN_KI : Fld := ⟨0x40048, 0x0, 0x0, 0x0, 16, 16⟩
def TIM_SRV_GAIN_ACQ_KP : Fld := ⟨0x4004C, 0x0, 0x0, 0x0, 0, 16⟩
def TIM_SRV_GAIN_ACQ_KI : Fld := ⟨0x4004C, 0x0, 0x0, 0x0, 16, 16⟩
def TIM_SRV_STEP_THRESH : Fld := ⟨0x40050, 0x0, 0x0, 0x0, 0, 31⟩
def TIM_SRV_LOCK_LOCK_NS : Fld := ⟨0x40054, 0x0, 0x0, 0x0, 0, 24⟩
def TIM_SRV_LOCK_LOCK_CNT : Fld := ⟨0x40054, 0x0, 0x0, 0x0, 28, 4⟩
def TIM_SRV_HOLD_HOLD_MS : Fld := ⟨0x40058, 0x0, 0x0, 0x0, 0, 16⟩
def TIM_SRV_RLIM_RLIM : Fld := ⟨0x4005C, 0x0, 0x0, 0x0, 0, 31⟩
def TIM_RATE_RATE : Fld := ⟨0x40060, 0x0, 0x0, 0x0, 0, 32⟩
def TIM_SRV_INTEG_INTEG : Fld := ⟨0x40064, 0x0, 0x0, 0x0, 0, 32⟩
def TIM_MASTER_NEW : Fld := ⟨0x40068, 0x0, 0x0, 0x0, 0, 1⟩
def TIM_STEP_CNT_CNT : Fld := ⟨0x40070, 0x0, 0x0, 0x0, 0, 32⟩
def TIM_LAST_STEP_LO_STEP_LO : Fld := ⟨0x40074, 0x0, 0x0, 0x0, 0, 32⟩
def TIM_LAST_STEP_HI_STEP_HI : Fld := ⟨0x40078, 0x0, 0x0, 0x0, 0, 32⟩
def TIM_HEAD_CTL_EN : Fld := ⟨0x41000, 0x40, 0x0, 0x0, 0, 1⟩
def TIM_HEAD_RATE_NUM : Fld := ⟨0x41004, 0x40, 0x0, 0x0, 0, 16⟩
def TIM_HEAD_RATE_DEN : Fld := ⟨0x41004, 0x40, 0x0, 0x0, 16, 12⟩
def TIM_HEAD_VLINES_TOTAL : Fld := ⟨0x41008, 0x40, 0x0, 0x0, 0, 12⟩
def TIM_HEAD_VLINES_ACT : Fld := ⟨0x41008, 0x40, 0x0, 0x0, 16, 12⟩
def TIM_HEAD_VBLANK_VFP : Fld := ⟨0x4100C, 0x40, 0x0, 0x0, 0, 8⟩
def TIM_HEAD_VBLANK_VSY : Fld := ⟨0x4100C, 0x40, 0x0, 0x0, 8, 8⟩
def TIM_HEAD_ALIGN_OFS : Fld := ⟨0x41010, 0x40, 0x0, 0x0, 0, 13⟩
def TIM_HEAD_STAT_RUN : Fld := ⟨0x41014, 0x40, 0x0, 0x0, 0, 1⟩
def TIM_HEAD_STAT_SLEW : Fld := ⟨0x41014, 0x40, 0x0, 0x0, 1, 1⟩
def TIM_HEAD_STAT_RELOCK : Fld := ⟨0x41014, 0x40, 0x0, 0x0, 2, 1⟩
def TIM_HEAD_STAT_WAIT : Fld := ⟨0x41014, 0x40, 0x0, 0x0, 3, 1⟩
def TIM_HEAD_STAT_REGION : Fld := ⟨0x41014, 0x40, 0x0, 0x0, 4, 2⟩
def TIM_HEAD_STAT_LINE : Fld := ⟨0x41014, 0x40, 0x0, 0x0, 16, 12⟩
def TIM_HEAD_PHASE_E : Fld := ⟨0x41018, 0x40, 0x0, 0x0, 0, 32⟩
def TIM_HEAD_FRAME_LO_FRAME_LO : Fld := ⟨0x4101C, 0x40, 0x0, 0x0, 0, 32⟩
def TIM_HEAD_FRAME_HI_FRAME_HI : Fld := ⟨0x41020, 0x40, 0x0, 0x0, 0, 16⟩
def TIM_HEAD_AIDX_LO_AIDX_LO : Fld := ⟨0x41024, 0x40, 0x0, 0x0, 0, 32⟩
def TIM_HEAD_AIDX_HI_AIDX_HI : Fld := ⟨0x41028, 0x40, 0x0, 0x0, 0, 16⟩
def TIM_CAL_POS_HEAD : Fld := ⟨0x42000, 0x8, 0x0, 0x0, 0, 6⟩
def TIM_CAL_POS_REGION : Fld := ⟨0x42000, 0x8, 0x0, 0x0, 8, 2⟩
def TIM_CAL_POS_LINE : Fld := ⟨0x42000, 0x8, 0x0, 0x0, 16, 12⟩
def TIM_CAL_ACT_TARGET : Fld := ⟨0x42004, 0x8, 0x0, 0x0, 0, 8⟩
def TIM_CAL_ACT_EVENT : Fld := ⟨0x42004, 0x8, 0x0, 0x0, 8, 8⟩
def TIM_CAL_ACT_EN : Fld := ⟨0x42004, 0x8, 0x0, 0x0, 16, 1⟩
def TIM_CAL_ACT_ONCE : Fld := ⟨0x42004, 0x8, 0x0, 0x0, 17, 1⟩
def LAD_STAT_RUNNING : Fld := ⟨0x180000, 0x0, 0x0, 0x0, 0, 9⟩
def LAD_STAT_UNC_LOAD : Fld := ⟨0x180000, 0x0, 0x0, 0x0, 16, 13⟩
def LAD_EVT_CFG_ERR : Fld := ⟨0x180004, 0x0, 0x0, 0x0, 0, 1⟩
def LAD_EVT_FMT_ERR : Fld := ⟨0x180004, 0x0, 0x0, 0x0, 1, 1⟩
def LAD_EVT_OVERRUN : Fld := ⟨0x180004, 0x0, 0x0, 0x0, 2, 1⟩
def LAD_EVT_RING_OVF : Fld := ⟨0x180004, 0x0, 0x0, 0x0, 3, 1⟩
def LAD_EVT_STARVE : Fld := ⟨0x180004, 0x0, 0x0, 0x0, 4, 1⟩
def LAD_EVT_FLASK : Fld := ⟨0x180004, 0x0, 0x0, 0x0, 5, 1⟩
def LAD_EVT_LOSS : Fld := ⟨0x180004, 0x0, 0x0, 0x0, 6, 1⟩
def LAD_EVT_LATE : Fld := ⟨0x180004, 0x0, 0x0, 0x0, 7, 1⟩
def LAD_EVT_WIGN : Fld := ⟨0x180004, 0x0, 0x0, 0x0, 8, 1⟩
def LAD_EVT_EN_CFG_ERR : Fld := ⟨0x180008, 0x0, 0x0, 0x0, 0, 1⟩
def LAD_EVT_EN_FMT_ERR : Fld := ⟨0x180008, 0x0, 0x0, 0x0, 1, 1⟩
def LAD_EVT_EN_OVERRUN : Fld := ⟨0x180008, 0x0, 0x0, 0x0, 2, 1⟩
def LAD_EVT_EN_RING_OVF : Fld := ⟨0x180008, 0x0, 0x0, 0x0, 3, 1⟩
def LAD_EVT_EN_STARVE : Fld := ⟨0x180008, 0x0, 0x0, 0x0, 4, 1⟩
def LAD_EVT_EN_FLASK : Fld := ⟨0x180008, 0x0, 0x0, 0x0, 5, 1⟩
def LAD_EVT_EN_LOSS : Fld := ⟨0x180008, 0x0, 0x0, 0x0, 6, 1⟩
def LAD_EVT_EN_LATE : Fld := ⟨0x180008, 0x0, 0x0, 0x0, 7, 1⟩
def LAD_EVT_EN_WIGN : Fld := ⟨0x180008, 0x0, 0x0, 0x0, 8, 1⟩
def LAD_UTC_TAI_UTC : Fld := ⟨0x18000C, 0x0, 0x0, 0x0, 0, 8⟩
def LAD_MERGE_SKEW : Fld := ⟨0x180010, 0x0, 0x0, 0x0, 0, 16⟩
def LAD_MERGE_REPAIR_WAIT : Fld := ⟨0x180010, 0x0, 0x0, 0x0, 16, 16⟩
def LAD_MERGE2_PATH_LOSS : Fld := ⟨0x180014, 0x0, 0x0, 0x0, 0, 16⟩
def LAD_SRC_CTL_EN : Fld := ⟨0x184000, 0x40, 0x0, 0x0, 0, 1⟩
def LAD_SRC_CTL_TRANSPORT : Fld := ⟨0x184000, 0x40, 0x0, 0x0, 1, 3⟩
def LAD_SRC_CTL_PATHS : Fld := ⟨0x184000, 0x40, 0x0, 0x0, 4, 2⟩
def LAD_SRC_CTL_RCV_WIDE : Fld := ⟨0x184000, 0x40, 0x0, 0x0, 6, 1⟩
def LAD_SRC_CTL_SSRC_EN : Fld := ⟨0x184000, 0x40, 0x0, 0x0, 7, 1⟩
def LAD_SRC_CTL_POOL : Fld := ⟨0x184000, 0x40, 0x0, 0x0, 8, 7⟩
def LAD_SRC_CTL_RTCP_MUX : Fld := ⟨0x184000, 0x40, 0x0, 0x0, 15, 1⟩
def LAD_SRC_CTL_ANCHOR_CRU : Fld := ⟨0x184000, 0x40, 0x0, 0x0, 16, 2⟩
def LAD_SRC_CTL_ANCHOR_GRP : Fld := ⟨0x184000, 0x40, 0x0, 0x0, 18, 4⟩
def LAD_SRC_DEC_ENGINE : Fld := ⟨0x184004, 0x40, 0x0, 0x0, 0, 3⟩
def LAD_SRC_DEC_CTX : Fld := ⟨0x184004, 0x40, 0x0, 0x0, 3, 6⟩
def LAD_SRC_DEC_LAYOUT : Fld := ⟨0x184004, 0x40, 0x0, 0x0, 9, 1⟩
def LAD_SRC_RING_RING_A : Fld := ⟨0x184008, 0x40, 0x0, 0x0, 0, 8⟩
def LAD_SRC_RING_RING_B : Fld := ⟨0x184008, 0x40, 0x0, 0x0, 8, 8⟩
def LAD_SRC_PORT_PORT_A : Fld := ⟨0x18400C, 0x40, 0x0, 0x0, 0, 16⟩
def LAD_SRC_PORT_PORT_B : Fld := ⟨0x18400C, 0x40, 0x0, 0x0, 16, 16⟩
def LAD_SRC_SSRC_SSRC : Fld := ⟨0x184010, 0x40, 0x0, 0x0, 0, 32⟩
def LAD_SRC_FMT_WIDTH : Fld := ⟨0x184014, 0x40, 0x0, 0x0, 0, 13⟩
def LAD_SRC_FMT_HEIGHT : Fld := ⟨0x184014, 0x40, 0x0, 0x0, 16, 12⟩
def LAD_SRC_FMT2_SAMPLING : Fld := ⟨0x184018, 0x40, 0x0, 0x0, 0, 2⟩
def LAD_SRC_FMT2_COLOUR : Fld := ⟨0x184018, 0x40, 0x0, 0x0, 2, 2⟩
def LAD_SRC_FMT2_RATE_NUM : Fld := ⟨0x184018, 0x40, 0x0, 0x0, 4, 16⟩
def LAD_SRC_FMT2_RATE_DEN : Fld := ⟨0x184018, 0x40, 0x0, 0x0, 20, 12⟩
def LAD_SRC_MAXAGE_MAXAGE : Fld := ⟨0x18401C, 0x40, 0x0, 0x0, 0, 16⟩
def LAD_SRC_CHANGE_CHG_INT : Fld := ⟨0x184020, 0x40, 0x0, 0x0, 0, 16⟩
def LAD_SRC_CHANGE_FREEZE : Fld := ⟨0x184020, 0x40, 0x0, 0x0, 16, 16⟩
def LAD_SRC_MCW0_X : Fld := ⟨0x184024, 0x40, 0x0, 0x0, 0, 13⟩
def LAD_SRC_MCW0_Y : Fld := ⟨0x184024, 0x40, 0x0, 0x0, 16, 13⟩
def LAD_SRC_MCW1_W : Fld := ⟨0x184028, 0x40, 0x0, 0x0, 0, 13⟩
def LAD_SRC_MCW1_H : Fld := ⟨0x184028, 0x40, 0x0, 0x0, 16, 13⟩
def LAD_SRC_POLICY_DEG_POL : Fld := ⟨0x18402C, 0x40, 0x0, 0x0, 0, 2⟩
def LAD_SRC_POLICY_TRANSIT : Fld := ⟨0x18402C, 0x40, 0x0, 0x0, 4, 20⟩
def LAD_SRC_STAT_RUN : Fld := ⟨0x184030, 0x40, 0x0, 0x0, 0, 1⟩
def LAD_SRC_STAT_ACQ : Fld := ⟨0x184030, 0x40, 0x0, 0x0, 1, 1⟩
def LAD_SRC_STAT_PATH_A : Fld := ⟨0x184030, 0x40, 0x0, 0x0, 2, 1⟩
def LAD_SRC_STAT_PATH_B : Fld := ⟨0x184030, 0x40, 0x0, 0x0, 3, 1⟩
def LAD_SRC_STAT_CAPT : Fld := ⟨0x184030, 0x40, 0x0, 0x0, 4, 1⟩
def LAD_SRC_STAT_NEWEST : Fld := ⟨0x184030, 0x40, 0x0, 0x0, 8, 4⟩
def LAD_SRC_STAT_CLASS : Fld := ⟨0x184030, 0x40, 0x0, 0x0, 12, 2⟩
def LAD_SRC_AB_LO_AB_LO : Fld := ⟨0x184034, 0x40, 0x0, 0x0, 0, 32⟩
def LAD_SRC_AB_HI_AB_HI : Fld := ⟨0x184038, 0x40, 0x0, 0x0, 0, 32⟩
def LAD_SRC_LOSS_LOST : Fld := ⟨0x18403C, 0x40, 0x0, 0x0, 0, 12⟩
def LAD_SRC_LOSS_LATE : Fld := ⟨0x18403C, 0x40, 0x0, 0x0, 12, 8⟩
def LAD_SRC_LOSS_DROPPED : Fld := ⟨0x18403C, 0x40, 0x0, 0x0, 20, 12⟩
def LAD_RING_BASE_LO_BASE_LO : Fld := ⟨0x18A000, 0x20, 0x0, 0x0, 8, 24⟩
def LAD_RING_BASE_HI_BASE_HI : Fld := ⟨0x18A004, 0x20, 0x0, 0x0, 0, 8⟩
def LAD_RING_CFG_SIZE_LOG2 : Fld := ⟨0x18A008, 0x20, 0x0, 0x0, 0, 5⟩
def LAD_RING_CFG_SLOT : Fld := ⟨0x18A008, 0x20, 0x0, 0x0, 8, 2⟩
def LAD_RING_CFG_DIR : Fld := ⟨0x18A008, 0x20, 0x0, 0x0, 12, 1⟩
def LAD_RING_CFG_EN : Fld := ⟨0x18A008, 0x20, 0x0, 0x0, 16, 1⟩
def LAD_RING_PART_PART : Fld := ⟨0x18A00C, 0x20, 0x0, 0x0, 0, 5⟩
def LAD_RING_HEAD_HEAD : Fld := ⟨0x18A010, 0x20, 0x0, 0x0, 0, 16⟩
def LAD_RING_TAIL_TAIL : Fld := ⟨0x18A014, 0x20, 0x0, 0x0, 0, 16⟩
def LAD_RING_OVF_OVF : Fld := ⟨0x18A018, 0x20, 0x0, 0x0, 0, 16⟩
def LAD_POOL_BASE_LO_BASE_LO : Fld := ⟨0x18C000, 0x10, 0x0, 0x0, 12, 20⟩
def LAD_POOL_BASE_HI_BASE_HI : Fld := ⟨0x18C004, 0x10, 0x0, 0x0, 0, 8⟩
def LAD_POOL_GEOM_BUF_SIZE : Fld := ⟨0x18C008, 0x10, 0x0, 0x0, 0, 20⟩
def LAD_POOL_GEOM_COUNT : Fld := ⟨0x18C008, 0x10, 0x0, 0x0, 24, 5⟩
def LAD_POOL_CFG_PITCH : Fld := ⟨0x18C00C, 0x10, 0x0, 0x0, 0, 16⟩
def LAD_POOL_CFG_PART : Fld := ⟨0x18C00C, 0x10, 0x0, 0x0, 16, 5⟩
def DEC_CTL_EN : Fld := ⟨0x280000, 0x10000, 0x0, 0x0, 0, 1⟩
def DEC_STAT_RUN : Fld := ⟨0x280004, 0x10000, 0x0, 0x0, 0, 1⟩
def DEC_STAT_BUSY : Fld := ⟨0x280004, 0x10000, 0x0, 0x0, 1, 1⟩
def DEC_STAT_CUR_CTX : Fld := ⟨0x280004, 0x10000, 0x0, 0x0, 2, 6⟩
def DEC_STAT_BOUND : Fld := ⟨0x280004, 0x10000, 0x0, 0x0, 8, 7⟩
def DEC_EVT_REFUSED : Fld := ⟨0x280008, 0x10000, 0x0, 0x0, 0, 1⟩
def DEC_EVT_ENTRY : Fld := ⟨0x280008, 0x10000, 0x0, 0x0, 1, 1⟩
def DEC_EVT_CONCEAL : Fld := ⟨0x280008, 0x10000, 0x0, 0x0, 2, 1⟩
def DEC_EVT_ABSENT : Fld := ⟨0x280008, 0x10000, 0x0, 0x0, 3, 1⟩
def DEC_EVT_WDOG : Fld := ⟨0x280008, 0x10000, 0x0, 0x0, 4, 1⟩
def DEC_EVT_STARVE : Fld := ⟨0x280008, 0x10000, 0x0, 0x0, 5, 1⟩
def DEC_EVT_MEMERR : Fld := ⟨0x280008, 0x10000, 0x0, 0x0, 6, 1⟩
def DEC_EVT_HASH : Fld := ⟨0x280008, 0x10000, 0x0, 0x0, 7, 1⟩
def DEC_EVT_WIGN : Fld := ⟨0x280008, 0x10000, 0x0, 0x0, 8, 1⟩
def DEC_EVT_EN_REFUSED : Fld := ⟨0x28000C, 0x10000, 0x0, 0x0, 0, 1⟩
def DEC_EVT_EN_ENTRY : Fld := ⟨0x28000C, 0x10000, 0x0, 0x0, 1, 1⟩
def DEC_EVT_EN_CONCEAL : Fld := ⟨0x28000C, 0x10000, 0x0, 0x0, 2, 1⟩
def DEC_EVT_EN_ABSENT : Fld := ⟨0x28000C, 0x10000, 0x0, 0x0, 3, 1⟩
def DEC_EVT_EN_WDOG : Fld := ⟨0x28000C, 0x10000, 0x0, 0x0, 4, 1⟩
def DEC_EVT_EN_STARVE : Fld := ⟨0x28000C, 0x10000, 0x0, 0x0, 5, 1⟩
def DEC_EVT_EN_MEMERR : Fld := ⟨0x28000C, 0x10000, 0x0, 0x0, 6, 1⟩
def DEC_EVT_EN_HASH : Fld := ⟨0x28000C, 0x10000, 0x0, 0x0, 7, 1⟩
def DEC_EVT_EN_WIGN : Fld := ⟨0x28000C, 0x10000, 0x0, 0x0, 8, 1⟩
def DEC_WDOG_AU_US : Fld := ⟨0x280010, 0x10000, 0x0, 0x0, 0, 20⟩
def DEC_LOAD_ADMIT : Fld := ⟨0x280014, 0x10000, 0x0, 0x0, 0, 10⟩
def DEC_LOAD_MEAS : Fld := ⟨0x280014, 0x10000, 0x0, 0x0, 16, 10⟩
def DEC_SWITCH_LAST : Fld := ⟨0x280018, 0x10000, 0x0, 0x0, 0, 16⟩
def DEC_SWITCH_MAX : Fld := ⟨0x280018, 0x10000, 0x0, 0x0, 16, 16⟩
def DEC_CTX_CFG_ENTRY : Fld := ⟨0x281000, 0x10000, 0x40, 0x0, 0, 2⟩
def DEC_CTX_CFG_EARLY : Fld := ⟨0x281000, 0x10000, 0x40, 0x0, 2, 1⟩
def DEC_CTX_CFG_STREAM : Fld := ⟨0x281000, 0x10000, 0x40, 0x0, 3, 1⟩
def DEC_CTX_CFG_EH_MARGIN : Fld := ⟨0x281000, 0x10000, 0x40, 0x0, 4, 4⟩
def DEC_CTX_CFG_HASH_CHK : Fld := ⟨0x281000, 0x10000, 0x40, 0x0, 8, 1⟩
def DEC_CTX_STAT_STATE : Fld := ⟨0x281004, 0x10000, 0x40, 0x0, 0, 3⟩
def DEC_CTX_STAT_CODEC : Fld := ⟨0x281004, 0x10000, 0x40, 0x0, 3, 1⟩
def DEC_CTX_STAT_DEPTH : Fld := ⟨0x281004, 0x10000, 0x40, 0x0, 4, 1⟩
def DEC_CTX_STAT_CTB : Fld := ⟨0x281004, 0x10000, 0x40, 0x0, 5, 2⟩
def DEC_CTX_STAT_REORDER : Fld := ⟨0x281004, 0x10000, 0x40, 0x0, 7, 1⟩
def DEC_CTX_STAT_SRC : Fld := ⟨0x281004, 0x10000, 0x40, 0x0, 8, 9⟩
def DEC_CTX_STAT_REASON : Fld := ⟨0x281004, 0x10000, 0x40, 0x0, 20, 4⟩
def DEC_CTX_STAT_DPB : Fld := ⟨0x281004, 0x10000, 0x40, 0x0, 24, 5⟩
def DEC_CTX_PROF_PROFILE : Fld := ⟨0x281008, 0x10000, 0x40, 0x0, 0, 8⟩
def DEC_CTX_PROF_LEVEL : Fld := ⟨0x281008, 0x10000, 0x40, 0x0, 8, 8⟩
def DEC_CTX_PROF_TIER : Fld := ⟨0x281008, 0x10000, 0x40, 0x0, 16, 1⟩
def DEC_CTX_WM_ROWS : Fld := ⟨0x28100C, 0x10000, 0x40, 0x0, 0, 8⟩
def DEC_CTX_WM_BUF : Fld := ⟨0x28100C, 0x10000, 0x40, 0x0, 8, 4⟩
def DEC_CTX_WM_VALID : Fld := ⟨0x28100C, 0x10000, 0x40, 0x0, 12, 1⟩
def DEC_CTX_FRAME_FRAME : Fld := ⟨0x281010, 0x10000, 0x40, 0x0, 0, 32⟩
def DEC_CTX_REF_MARK0 : Fld := ⟨0x281014, 0x10000, 0x40, 0x0, 0, 2⟩
def DEC_CTX_REF_MARK1 : Fld := ⟨0x281014, 0x10000, 0x40, 0x0, 2, 2⟩
def DEC_CTX_REF_MARK2 : Fld := ⟨0x281014, 0x10000, 0x40, 0x0, 4, 2⟩
def DEC_CTX_REF_MARK3 : Fld := ⟨0x281014, 0x10000, 0x40, 0x0, 6, 2⟩
def DEC_CTX_REF_MARK4 : Fld := ⟨0x281014, 0x10000, 0x40, 0x0, 8, 2⟩
def DEC_CTX_REF_MARK5 : Fld := ⟨0x281014, 0x10000, 0x40, 0x0, 10, 2⟩
def DEC_CTX_REF_MARK6 : Fld := ⟨0x281014, 0x10000, 0x40, 0x0, 12, 2⟩
def DEC_CTX_REF_MARK7 : Fld := ⟨0x281014, 0x10000, 0x40, 0x0, 14, 2⟩
def DEC_CTX_REF_MARK8 : Fld := ⟨0x281014, 0x10000, 0x40, 0x0, 16, 2⟩
def DEC_CTX_REF_MARK9 : Fld := ⟨0x281014, 0x10000, 0x40, 0x0, 18, 2⟩
def DEC_CTX_REF_MARK10 : Fld := ⟨0x281014, 0x10000, 0x40, 0x0, 20, 2⟩
def DEC_CTX_REF_MARK11 : Fld := ⟨0x281014, 0x10000, 0x40, 0x0, 22, 2⟩
def DEC_CTX_REF_MARK12 : Fld := ⟨0x281014, 0x10000, 0x40, 0x0, 24, 2⟩
def DEC_CTX_REF_MARK13 : Fld := ⟨0x281014, 0x10000, 0x40, 0x0, 26, 2⟩
def DEC_CTX_REF_MARK14 : Fld := ⟨0x281014, 0x10000, 0x40, 0x0, 28, 2⟩
def DEC_CTX_REF_MARK15 : Fld := ⟨0x281014, 0x10000, 0x40, 0x0, 30, 2⟩
def DEC_CTX_ERR_CONCEAL : Fld := ⟨0x281018, 0x10000, 0x40, 0x0, 0, 16⟩
def DEC_CTX_ERR_SYNTAX : Fld := ⟨0x281018, 0x10000, 0x40, 0x0, 16, 8⟩
def DEC_CTX_ERR_ABSENT : Fld := ⟨0x281018, 0x10000, 0x40, 0x0, 24, 8⟩
def DEC_CTX_TIME_AU_US : Fld := ⟨0x28101C, 0x10000, 0x40, 0x0, 0, 20⟩
def CRU_CTL_EN : Fld := ⟨0x200000, 0x10000, 0x0, 0x0, 0, 1⟩
def CRU_STAT_RUN : Fld := ⟨0x200004, 0x10000, 0x0, 0x0, 0, 1⟩
def CRU_STAT_HEADS : Fld := ⟨0x200004, 0x10000, 0x0, 0x0, 1, 5⟩
def CRU_STAT_LOAD : Fld := ⟨0x200004, 0x10000, 0x0, 0x0, 16, 12⟩
def CRU_EVT_REJECT : Fld := ⟨0x200008, 0x10000, 0x0, 0x0, 0, 1⟩
def CRU_EVT_LATE : Fld := ⟨0x200008, 0x10000, 0x0, 0x0, 1, 1⟩
def CRU_EVT_FALLBACK : Fld := ⟨0x200008, 0x10000, 0x0, 0x0, 2, 1⟩
def CRU_EVT_MISSED : Fld := ⟨0x200008, 0x10000, 0x0, 0x0, 3, 1⟩
def CRU_EVT_FETCH : Fld := ⟨0x200008, 0x10000, 0x0, 0x0, 4, 1⟩
def CRU_EVT_WB_DROP : Fld := ⟨0x200008, 0x10000, 0x0, 0x0, 5, 1⟩
def CRU_EVT_CFG_ERR : Fld := ⟨0x200008, 0x10000, 0x0, 0x0, 6, 1⟩
def CRU_EVT_WIGN : Fld := ⟨0x200008, 0x10000, 0x0, 0x0, 7, 1⟩
def CRU_EVT_EN_REJECT : Fld := ⟨0x20000C, 0x10000, 0x0, 0x0, 0, 1⟩
def CRU_EVT_EN_LATE : Fld := ⟨0x20000C, 0x10000, 0x0, 0x0, 1, 1⟩
def CRU_EVT_EN_FALLBACK : Fld := ⟨0x20000C, 0x10000, 0x0, 0x0, 2, 1⟩
def CRU_EVT_EN_MISSED : Fld := ⟨0x20000C, 0x10000, 0x0, 0x0, 3, 1⟩
def CRU_EVT_EN_FETCH : Fld := ⟨0x20000C, 0x10000, 0x0, 0x0, 4, 1⟩
def CRU_EVT_EN_WB_DROP : Fld := ⟨0x20000C, 0x10000, 0x0, 0x0, 5, 1⟩
def CRU_EVT_EN_CFG_ERR : Fld := ⟨0x20000C, 0x10000, 0x0, 0x0, 6, 1⟩
def CRU_EVT_EN_WIGN : Fld := ⟨0x20000C, 0x10000, 0x0, 0x0, 7, 1⟩
def CRU_BUDGET_SLACK : Fld := ⟨0x200010, 0x10000, 0x0, 0x0, 0, 20⟩
def CRU_HEAD_MAP_HEAD : Fld := ⟨0x200100, 0x10000, 0x10, 0x0, 0, 6⟩
def CRU_HEAD_MAP_EN : Fld := ⟨0x200100, 0x10000, 0x10, 0x0, 8, 1⟩
def CRU_HEAD_MAP_RUN : Fld := ⟨0x200100, 0x10000, 0x10, 0x0, 16, 1⟩
def CRU_HEAD_MAP_REASON : Fld := ⟨0x200100, 0x10000, 0x10, 0x0, 24, 5⟩
def CRU_HEAD_CFG_WIDTH : Fld := ⟨0x200104, 0x10000, 0x10, 0x0, 0, 13⟩
def CRU_HEAD_CFG_LEAD : Fld := ⟨0x200104, 0x10000, 0x10, 0x0, 16, 3⟩
def CRU_HEAD_BG_BG : Fld := ⟨0x200108, 0x10000, 0x10, 0x0, 0, 24⟩
def CRU_HEAD_WB_X : Fld := ⟨0x20010C, 0x10000, 0x10, 0x0, 0, 13⟩
def CRU_HEAD_WB_Y : Fld := ⟨0x20010C, 0x10000, 0x10, 0x0, 16, 12⟩
def CRU_HEAD_WB_IN : Fld := ⟨0x20010C, 0x10000, 0x10, 0x0, 31, 1⟩
def CRU_GRP_CFG_LEAD : Fld := ⟨0x200400, 0x10000, 0x10, 0x0, 0, 4⟩
def CRU_GRP_CFG_POLICY : Fld := ⟨0x200400, 0x10000, 0x10, 0x0, 4, 1⟩
def CRU_GRP_CFG_MODE : Fld := ⟨0x200400, 0x10000, 0x10, 0x0, 5, 1⟩
def CRU_GRP_CFG_HOLD_N : Fld := ⟨0x200400, 0x10000, 0x10, 0x0, 8, 4⟩
def CRU_GRP_STAT_HELD : Fld := ⟨0x200404, 0x10000, 0x10, 0x0, 0, 4⟩
def CRU_GRP_STAT_LATE : Fld := ⟨0x200404, 0x10000, 0x10, 0x0, 4, 7⟩
def CRU_GRP_STAT_FIRST_LATE : Fld := ⟨0x200404, 0x10000, 0x10, 0x0, 16, 7⟩
def CRU_GRP_STAT_REJ : Fld := ⟨0x200404, 0x10000, 0x10, 0x0, 24, 1⟩
def CRU_GRP_STAT_REASON : Fld := ⟨0x200404, 0x10000, 0x10, 0x0, 25, 5⟩
def CRU_GRP_FRAME_FRAME : Fld := ⟨0x200408, 0x10000, 0x10, 0x0, 0, 32⟩
def CRU_WB_CTL_EN : Fld := ⟨0x200600, 0x10000, 0x0, 0x0, 0, 1⟩
def CRU_WB_CTL_LEAD : Fld := ⟨0x200600, 0x10000, 0x0, 0x0, 4, 4⟩
def CRU_WB_CTL_DIV : Fld := ⟨0x200600, 0x10000, 0x0, 0x0, 8, 8⟩
def CRU_WB_CTL_POOL : Fld := ⟨0x200600, 0x10000, 0x0, 0x0, 16, 7⟩
def CRU_WB_SIZE_W : Fld := ⟨0x200604, 0x10000, 0x0, 0x0, 0, 14⟩
def CRU_WB_SIZE_H : Fld := ⟨0x200604, 0x10000, 0x0, 0x0, 16, 13⟩
def CRU_WB_STAT_RUN : Fld := ⟨0x200608, 0x10000, 0x0, 0x0, 0, 1⟩
def CRU_WB_STAT_BUF : Fld := ⟨0x200608, 0x10000, 0x0, 0x0, 1, 4⟩
def CRU_WB_STAT_DROPPED : Fld := ⟨0x200608, 0x10000, 0x0, 0x0, 16, 16⟩
def CRU_COEF_H_EVEN : Fld := ⟨0x202000, 0x10000, 0x800, 0x4, 0, 10⟩
def CRU_COEF_H_ODD : Fld := ⟨0x202000, 0x10000, 0x800, 0x4, 16, 10⟩
def CRU_COEF_V0_EVEN : Fld := ⟨0x202400, 0x10000, 0x800, 0x10, 0, 10⟩
def CRU_COEF_V0_ODD : Fld := ⟨0x202400, 0x10000, 0x800, 0x10, 16, 10⟩
def CRU_COEF_V1_EVEN : Fld := ⟨0x202404, 0x10000, 0x800, 0x10, 0, 10⟩
def CRU_COEF_V1_ODD : Fld := ⟨0x202404, 0x10000, 0x800, 0x10, 16, 10⟩
def CRU_COEF_V2_EVEN : Fld := ⟨0x202408, 0x10000, 0x800, 0x10, 0, 10⟩
def CRU_COEF_V2_ODD : Fld := ⟨0x202408, 0x10000, 0x800, 0x10, 16, 10⟩
def CRU_M_CTL_EN : Fld := ⟨0x208000, 0x10000, 0x40, 0x0, 0, 1⟩
def CRU_M_CTL_GROUP : Fld := ⟨0x208000, 0x10000, 0x40, 0x0, 1, 4⟩
def CRU_M_CTL_SLOT : Fld := ⟨0x208000, 0x10000, 0x40, 0x0, 5, 4⟩
def CRU_M_CTL_MATRIX : Fld := ⟨0x208000, 0x10000, 0x40, 0x0, 9, 2⟩
def CRU_M_CTL_INPUT : Fld := ⟨0x208000, 0x10000, 0x40, 0x0, 11, 1⟩
def CRU_M_CTL_BANK : Fld := ⟨0x208000, 0x10000, 0x40, 0x0, 12, 2⟩
def CRU_M_CTL_PPA : Fld := ⟨0x208000, 0x10000, 0x40, 0x0, 14, 1⟩
def CRU_M_CTL_Z : Fld := ⟨0x208000, 0x10000, 0x40, 0x0, 16, 8⟩
def CRU_M_CTL_KIND : Fld := ⟨0x208000, 0x10000, 0x40, 0x0, 31, 1⟩
def CRU_M_SRC_SRC : Fld := ⟨0x208004, 0x10000, 0x40, 0x0, 0, 9⟩
def CRU_M_PLATE_LO_ADDR_LO : Fld := ⟨0x208008, 0x10000, 0x40, 0x0, 12, 20⟩
def CRU_M_PLATE_HI_ADDR_HI : Fld := ⟨0x20800C, 0x10000, 0x40, 0x0, 0, 8⟩
def CRU_M_PLATE_FMT_PITCH : Fld := ⟨0x208010, 0x10000, 0x40, 0x0, 0, 16⟩
def CRU_M_PLATE_FMT_FMT : Fld := ⟨0x208010, 0x10000, 0x40, 0x0, 16, 1⟩
def CRU_M_PLATE_FMT_PART : Fld := ⟨0x208010, 0x10000, 0x40, 0x0, 20, 5⟩
def CRU_M_CROP_XY_X : Fld := ⟨0x208014, 0x10000, 0x40, 0x0, 0, 13⟩
def CRU_M_CROP_XY_Y : Fld := ⟨0x208014, 0x10000, 0x40, 0x0, 16, 12⟩
def CRU_M_CROP_WH_W : Fld := ⟨0x208018, 0x10000, 0x40, 0x0, 0, 13⟩
def CRU_M_CROP_WH_H : Fld := ⟨0x208018, 0x10000, 0x40, 0x0, 16, 12⟩
def CRU_M_DST_XY_X : Fld := ⟨0x20801C, 0x10000, 0x40, 0x0, 0, 14⟩
def CRU_M_DST_XY_Y : Fld := ⟨0x20801C, 0x10000, 0x40, 0x0, 16, 14⟩
def CRU_M_DST_WH_W : Fld := ⟨0x208020, 0x10000, 0x40, 0x0, 0, 14⟩
def CRU_M_DST_WH_H : Fld := ⟨0x208020, 0x10000, 0x40, 0x0, 16, 14⟩
def CRU_M_ALPHA_PLANE : Fld := ⟨0x208024, 0x10000, 0x40, 0x0, 0, 8⟩
def CRU_M_STAT_BUF : Fld := ⟨0x208028, 0x10000, 0x40, 0x0, 0, 4⟩
def CRU_M_STAT_EH : Fld := ⟨0x208028, 0x10000, 0x40, 0x0, 4, 1⟩
def CRU_M_STAT_LATE : Fld := ⟨0x208028, 0x10000, 0x40, 0x0, 5, 1⟩
def CRU_M_STAT_FALLBACK : Fld := ⟨0x208028, 0x10000, 0x40, 0x0, 6, 1⟩
def CRU_M_STAT_NOBUF : Fld := ⟨0x208028, 0x10000, 0x40, 0x0, 7, 1⟩
def CRU_M_STAT_NDEC : Fld := ⟨0x208028, 0x10000, 0x40, 0x0, 8, 2⟩
def CRU_M_STAT_MDEC : Fld := ⟨0x208028, 0x10000, 0x40, 0x0, 10, 2⟩
def CRU_M_STAT_EXCUSED : Fld := ⟨0x208028, 0x10000, 0x40, 0x0, 12, 1⟩
def CRU_M_HSTEP_STEP : Fld := ⟨0x20802C, 0x10000, 0x40, 0x0, 0, 18⟩
def CRU_M_VSTEP_STEP : Fld := ⟨0x208030, 0x10000, 0x40, 0x0, 0, 18⟩
def FET_CTL_EN : Fld := ⟨0x240000, 0x0, 0x0, 0x0, 0, 1⟩
def FET_STAT_RUN : Fld := ⟨0x240004, 0x0, 0x0, 0x0, 0, 1⟩
def FET_STAT_HEADS : Fld := ⟨0x240004, 0x0, 0x0, 0x0, 1, 7⟩
def FET_STAT_SLAGGED : Fld := ⟨0x240004, 0x0, 0x0, 0x0, 16, 10⟩
def FET_STAT_STOPPED : Fld := ⟨0x240004, 0x0, 0x0, 0x0, 26, 6⟩
def FET_EVT_HATCH : Fld := ⟨0x240008, 0x0, 0x0, 0x0, 0, 1⟩
def FET_EVT_FROZEN : Fld := ⟨0x240008, 0x0, 0x0, 0x0, 1, 1⟩
def FET_EVT_RSW : Fld := ⟨0x240008, 0x0, 0x0, 0x0, 2, 1⟩
def FET_EVT_READBACK : Fld := ⟨0x240008, 0x0, 0x0, 0x0, 3, 1⟩
def FET_EVT_CFG_ERR : Fld := ⟨0x240008, 0x0, 0x0, 0x0, 4, 1⟩
def FET_EVT_DIM : Fld := ⟨0x240008, 0x0, 0x0, 0x0, 5, 1⟩
def FET_EVT_WIGN : Fld := ⟨0x240008, 0x0, 0x0, 0x0, 6, 1⟩
def FET_EVT_EN_HATCH : Fld := ⟨0x24000C, 0x0, 0x0, 0x0, 0, 1⟩
def FET_EVT_EN_FROZEN : Fld := ⟨0x24000C, 0x0, 0x0, 0x0, 1, 1⟩
def FET_EVT_EN_RSW : Fld := ⟨0x24000C, 0x0, 0x0, 0x0, 2, 1⟩
def FET_EVT_EN_READBACK : Fld := ⟨0x24000C, 0x0, 0x0, 0x0, 3, 1⟩
def FET_EVT_EN_CFG_ERR : Fld := ⟨0x24000C, 0x0, 0x0, 0x0, 4, 1⟩
def FET_EVT_EN_DIM : Fld := ⟨0x24000C, 0x0, 0x0, 0x0, 5, 1⟩
def FET_EVT_EN_WIGN : Fld := ⟨0x24000C, 0x0, 0x0, 0x0, 6, 1⟩
def FET_SLAG_C0_C : Fld := ⟨0x240010, 0x0, 0x0, 0x0, 0, 24⟩
def FET_SLAG_C1_C : Fld := ⟨0x240014, 0x0, 0x0, 0x0, 0, 24⟩
def FET_FLAW_FILL_C : Fld := ⟨0x240018, 0x0, 0x0, 0x0, 0, 24⟩
def FET_FLAW_EDGE_C : Fld := ⟨0x24001C, 0x0, 0x0, 0x0, 0, 24⟩
def FET_MARK_C0_C : Fld := ⟨0x240020, 0x0, 0x0, 0x0, 0, 24⟩
def FET_MARK_C1_C : Fld := ⟨0x240024, 0x0, 0x0, 0x0, 0, 24⟩
def FET_ANC_ID_DID : Fld := ⟨0x240028, 0x0, 0x0, 0x0, 0, 8⟩
def FET_ANC_ID_SDID : Fld := ⟨0x240028, 0x0, 0x0, 0x0, 8, 8⟩
def FET_DIM_CFG_AHEAD : Fld := ⟨0x24002C, 0x0, 0x0, 0x0, 0, 4⟩
def FET_COLOUR_STAT_SLAG_DEF : Fld := ⟨0x240030, 0x0, 0x0, 0x0, 0, 1⟩
def FET_COLOUR_STAT_FLAW_DEF : Fld := ⟨0x240030, 0x0, 0x0, 0x0, 1, 1⟩
def FET_COLOUR_STAT_MARK_DEF : Fld := ⟨0x240030, 0x0, 0x0, 0x0, 2, 1⟩
def FET_HEAD_CTL_EN : Fld := ⟨0x241000, 0x20, 0x0, 0x0, 0, 1⟩
def FET_HEAD_CTL_SLAGFRAME : Fld := ⟨0x241000, 0x20, 0x0, 0x0, 1, 1⟩
def FET_HEAD_CTL_CORNER : Fld := ⟨0x241000, 0x20, 0x0, 0x0, 2, 2⟩
def FET_HEAD_CTL_REARM : Fld := ⟨0x241000, 0x20, 0x0, 0x0, 8, 1⟩
def FET_HEAD_MARK_INSET_X : Fld := ⟨0x241004, 0x20, 0x0, 0x0, 0, 11⟩
def FET_HEAD_MARK_INSET_B : Fld := ⟨0x241004, 0x20, 0x0, 0x0, 16, 3⟩
def FET_HEAD_DIM_LEVEL : Fld := ⟨0x241008, 0x20, 0x0, 0x0, 0, 9⟩
def FET_HEAD_DIM_DESK : Fld := ⟨0x241008, 0x20, 0x0, 0x0, 12, 2⟩
def FET_HEAD_DIM_DESK_EN : Fld := ⟨0x241008, 0x20, 0x0, 0x0, 14, 1⟩
def FET_HEAD_DIM_REQ : Fld := ⟨0x241008, 0x20, 0x0, 0x0, 16, 2⟩
def FET_HEAD_STAT_RUN : Fld := ⟨0x24100C, 0x20, 0x0, 0x0, 0, 1⟩
def FET_HEAD_STAT_STOPPED : Fld := ⟨0x24100C, 0x20, 0x0, 0x0, 1, 1⟩
def FET_HEAD_STAT_DIMMED : Fld := ⟨0x24100C, 0x20, 0x0, 0x0, 2, 1⟩
def FET_HEAD_STAT_REPEAT : Fld := ⟨0x24100C, 0x20, 0x0, 0x0, 3, 1⟩
def FET_HEAD_STAT_GRAY : Fld := ⟨0x24100C, 0x20, 0x0, 0x0, 4, 4⟩
def FET_HEAD_STAT_BAND : Fld := ⟨0x24100C, 0x20, 0x0, 0x0, 8, 8⟩
def FET_HEAD_STAT_LEVEL : Fld := ⟨0x24100C, 0x20, 0x0, 0x0, 16, 9⟩
def FET_HEAD_STAT_NODELIV : Fld := ⟨0x24100C, 0x20, 0x0, 0x0, 25, 1⟩
def FET_HEAD_CNT_HATCH : Fld := ⟨0x241010, 0x20, 0x0, 0x0, 0, 16⟩
def FET_HEAD_CNT_FLAW : Fld := ⟨0x241010, 0x20, 0x0, 0x0, 16, 16⟩
def FET_HEAD_SEAL_SEAL : Fld := ⟨0x241014, 0x20, 0x0, 0x0, 0, 32⟩
def FET_HEAD_SEALID_BAND : Fld := ⟨0x241018, 0x20, 0x0, 0x0, 0, 8⟩
def FET_HEAD_SEALID_FRAME : Fld := ⟨0x241018, 0x20, 0x0, 0x0, 8, 24⟩
def FET_HEAD_RB_EXP_G : Fld := ⟨0x24101C, 0x20, 0x0, 0x0, 0, 4⟩
def FET_HEAD_RB_READ_G : Fld := ⟨0x24101C, 0x20, 0x0, 0x0, 4, 4⟩
def FET_HEAD_RB_VALID : Fld := ⟨0x24101C, 0x20, 0x0, 0x0, 8, 1⟩
def FET_HEAD_RB_MATCH : Fld := ⟨0x24101C, 0x20, 0x0, 0x0, 9, 1⟩
def FET_HEAD_RB_MISMATCH : Fld := ⟨0x24101C, 0x20, 0x0, 0x0, 16, 8⟩
def FET_FRZ_STAT_FROZEN : Fld := ⟨0x242000, 0x8, 0x0, 0x0, 0, 1⟩
def FET_FRZ_STAT_SLOW : Fld := ⟨0x242000, 0x8, 0x0, 0x0, 1, 1⟩
def FET_FRZ_STAT_TRACK : Fld := ⟨0x242000, 0x8, 0x0, 0x0, 2, 1⟩
def FET_FRZ_STAT_SINCE : Fld := ⟨0x242000, 0x8, 0x0, 0x0, 16, 16⟩
def FET_FRZ_FP_FP : Fld := ⟨0x242004, 0x8, 0x0, 0x0, 0, 32⟩
def FET_RSW_CFG_EN : Fld := ⟨0x244000, 0x20, 0x0, 0x0, 0, 1⟩
def FET_RSW_CFG_HEAD : Fld := ⟨0x244000, 0x20, 0x0, 0x0, 8, 6⟩
def FET_RSW_CFG_CRU : Fld := ⟨0x244000, 0x20, 0x0, 0x0, 16, 2⟩
def FET_RSW_CFG_GRP : Fld := ⟨0x244000, 0x20, 0x0, 0x0, 20, 4⟩
def FET_RSW_XY_X : Fld := ⟨0x244004, 0x20, 0x0, 0x0, 0, 13⟩
def FET_RSW_XY_Y : Fld := ⟨0x244004, 0x20, 0x0, 0x0, 16, 12⟩
def FET_RSW_WH_W : Fld := ⟨0x244008, 0x20, 0x0, 0x0, 0, 13⟩
def FET_RSW_WH_H : Fld := ⟨0x244008, 0x20, 0x0, 0x0, 16, 12⟩
def FET_RSW_EXP_EXP : Fld := ⟨0x24400C, 0x20, 0x0, 0x0, 0, 32⟩
def FET_RSW_STAT_MATCH : Fld := ⟨0x244010, 0x20, 0x0, 0x0, 0, 1⟩
def FET_RSW_STAT_SLAGGED : Fld := ⟨0x244010, 0x20, 0x0, 0x0, 1, 1⟩
def FET_RSW_STAT_PEND : Fld := ⟨0x244010, 0x20, 0x0, 0x0, 2, 1⟩
def FET_RSW_STAT_REASON : Fld := ⟨0x244010, 0x20, 0x0, 0x0, 8, 8⟩
def FET_RSW_STAT_MISS : Fld := ⟨0x244010, 0x20, 0x0, 0x0, 16, 16⟩
def FET_RSW_LAST_LAST : Fld := ⟨0x244014, 0x20, 0x0, 0x0, 0, 32⟩
def FET_PKT_GSTAT_RELEASED : Fld := ⟨0x248000, 0x0, 0x0, 0x0, 0, 1⟩
def FET_PKT_GSTAT_HEAT_VALID : Fld := ⟨0x248000, 0x0, 0x0, 0x0, 1, 1⟩
def FET_PKT_HEAT_HEAT : Fld := ⟨0x248004, 0x0, 0x0, 0x0, 0, 32⟩
def FET_PKT_EPOCH_LO_E_LO : Fld := ⟨0x248008, 0x0, 0x0, 0x0, 0, 32⟩
def FET_PKT_EPOCH_HI_E_HI : Fld := ⟨0x24800C, 0x0, 0x0, 0x0, 0, 16⟩
def FET_PKT_EVT_START : Fld := ⟨0x248010, 0x0, 0x0, 0x0, 0, 1⟩
def FET_PKT_EVT_MUTE : Fld := ⟨0x248010, 0x0, 0x0, 0x0, 1, 1⟩
def FET_PKT_EVT_LINK : Fld := ⟨0x248010, 0x0, 0x0, 0x0, 2, 1⟩
def FET_PKT_EVT_HEAT : Fld := ⟨0x248010, 0x0, 0x0, 0x0, 3, 1⟩
def FET_PKT_EVT_CFG_ERR : Fld := ⟨0x248010, 0x0, 0x0, 0x0, 4, 1⟩
def FET_PKT_EVT_WIGN : Fld := ⟨0x248010, 0x0, 0x0, 0x0, 5, 1⟩
def FET_PKT_EVT_EN_START : Fld := ⟨0x248014, 0x0, 0x0, 0x0, 0, 1⟩
def FET_PKT_EVT_EN_MUTE : Fld := ⟨0x248014, 0x0, 0x0, 0x0, 1, 1⟩
def FET_PKT_EVT_EN_LINK : Fld := ⟨0x248014, 0x0, 0x0, 0x0, 2, 1⟩
def FET_PKT_EVT_EN_HEAT : Fld := ⟨0x248014, 0x0, 0x0, 0x0, 3, 1⟩
def FET_PKT_EVT_EN_CFG_ERR : Fld := ⟨0x248014, 0x0, 0x0, 0x0, 4, 1⟩
def FET_PKT_EVT_EN_WIGN : Fld := ⟨0x248014, 0x0, 0x0, 0x0, 5, 1⟩
def FET_PKT_CTL_EN : Fld := ⟨0x249000, 0x80, 0x0, 0x0, 0, 1⟩
def FET_PKT_CTL_MUTE : Fld := ⟨0x249000, 0x80, 0x0, 0x0, 1, 1⟩
def FET_PKT_CTL_ANC_EN : Fld := ⟨0x249000, 0x80, 0x0, 0x0, 2, 1⟩
def FET_PKT_CTL_PATHS : Fld := ⟨0x249000, 0x80, 0x0, 0x0, 4, 2⟩
def FET_PKT_FMT_FMT : Fld := ⟨0x249004, 0x80, 0x0, 0x0, 0, 2⟩
def FET_PKT_FMT_COLOUR : Fld := ⟨0x249004, 0x80, 0x0, 0x0, 2, 1⟩
def FET_PKT_FMT_PGRP : Fld := ⟨0x249004, 0x80, 0x0, 0x0, 16, 11⟩
def FET_PKT_RTP_PT_V : Fld := ⟨0x249008, 0x80, 0x0, 0x0, 0, 7⟩
def FET_PKT_RTP_PT_A : Fld := ⟨0x249008, 0x80, 0x0, 0x0, 8, 7⟩
def FET_PKT_SSRC_V_SSRC : Fld := ⟨0x24900C, 0x80, 0x0, 0x0, 0, 32⟩
def FET_PKT_SSRC_A_SSRC : Fld := ⟨0x249010, 0x80, 0x0, 0x0, 0, 32⟩
def FET_PKT_STAT_STATE : Fld := ⟨0x249014, 0x80, 0x0, 0x0, 0, 3⟩
def FET_PKT_STAT_MUTE_FW : Fld := ⟨0x249014, 0x80, 0x0, 0x0, 4, 1⟩
def FET_PKT_STAT_MUTE_PAIR : Fld := ⟨0x249014, 0x80, 0x0, 0x0, 5, 1⟩
def FET_PKT_STAT_MUTE_REL : Fld := ⟨0x249014, 0x80, 0x0, 0x0, 6, 1⟩
def FET_PKT_STAT_LINK_A : Fld := ⟨0x249014, 0x80, 0x0, 0x0, 8, 1⟩
def FET_PKT_STAT_LINK_B : Fld := ⟨0x249014, 0x80, 0x0, 0x0, 9, 1⟩
def FET_PKT_PPF_P_V : Fld := ⟨0x249018, 0x80, 0x0, 0x0, 0, 16⟩
def FET_PKT_PPF_P_A : Fld := ⟨0x249018, 0x80, 0x0, 0x0, 16, 8⟩
def FET_PKT_REASON_REASON : Fld := ⟨0x24901C, 0x80, 0x0, 0x0, 0, 8⟩
def FET_PKT_FIDX_LO_F_LO : Fld := ⟨0x249020, 0x80, 0x0, 0x0, 0, 32⟩
def FET_PKT_FIDX_HI_F_HI : Fld := ⟨0x249024, 0x80, 0x0, 0x0, 0, 16⟩
def FET_PKT_TS_TS : Fld := ⟨0x249028, 0x80, 0x0, 0x0, 0, 32⟩
def FET_PKT_SEQ0_SEQ : Fld := ⟨0x24902C, 0x80, 0x0, 0x0, 0, 32⟩
def FET_PKT_SENT_SENT : Fld := ⟨0x249030, 0x80, 0x0, 0x0, 0, 32⟩
def FET_PKT_DROP_DROP_A : Fld := ⟨0x249034, 0x80, 0x0, 0x0, 0, 16⟩
def FET_PKT_DROP_DROP_B : Fld := ⟨0x249034, 0x80, 0x0, 0x0, 16, 16⟩
def FET_PKT_P_DIP_DIP : Fld := ⟨0x249040, 0x80, 0x20, 0x0, 0, 32⟩
def FET_PKT_P_DMAC_LO_DMAC_LO : Fld := ⟨0x249044, 0x80, 0x20, 0x0, 0, 32⟩
def FET_PKT_P_DMAC_HI_DMAC_HI : Fld := ⟨0x249048, 0x80, 0x20, 0x0, 0, 16⟩
def FET_PKT_P_DMAC_HI_AUTO : Fld := ⟨0x249048, 0x80, 0x20, 0x0, 16, 1⟩
def FET_PKT_P_PORT_DPORT_V : Fld := ⟨0x24904C, 0x80, 0x20, 0x0, 0, 16⟩
def FET_PKT_P_PORT_SPORT_V : Fld := ⟨0x24904C, 0x80, 0x20, 0x0, 16, 16⟩
def FET_PKT_P_APORT_DPORT_A : Fld := ⟨0x249050, 0x80, 0x20, 0x0, 0, 16⟩
def FET_PKT_P_APORT_SPORT_A : Fld := ⟨0x249050, 0x80, 0x20, 0x0, 16, 16⟩
def FET_PKT_P_QOS_DSCP : Fld := ⟨0x249054, 0x80, 0x20, 0x0, 0, 6⟩
def FET_PKT_P_QOS_TTL : Fld := ⟨0x249054, 0x80, 0x20, 0x0, 8, 8⟩
def FET_PKT_P_QOS_VID : Fld := ⟨0x249054, 0x80, 0x20, 0x0, 16, 12⟩
def FET_PKT_P_QOS_PCP : Fld := ⟨0x249054, 0x80, 0x20, 0x0, 28, 3⟩
def FET_PKT_P_QOS_VLAN_EN : Fld := ⟨0x249054, 0x80, 0x20, 0x0, 31, 1⟩
def FET_PKT_P_MAC_SEL : Fld := ⟨0x249058, 0x80, 0x20, 0x0, 0, 6⟩
def ENC_CTL_EN : Fld := ⟨0x300000, 0x10000, 0x0, 0x0, 0, 1⟩
def ENC_STAT_RUN : Fld := ⟨0x300004, 0x10000, 0x0, 0x0, 0, 1⟩
def ENC_STAT_BUSY : Fld := ⟨0x300004, 0x10000, 0x0, 0x0, 1, 1⟩
def ENC_STAT_CUR : Fld := ⟨0x300004, 0x10000, 0x0, 0x0, 2, 3⟩
def ENC_EVT_START : Fld := ⟨0x300008, 0x10000, 0x0, 0x0, 0, 1⟩
def ENC_EVT_CAPPED : Fld := ⟨0x300008, 0x10000, 0x0, 0x0, 1, 1⟩
def ENC_EVT_PASSED : Fld := ⟨0x300008, 0x10000, 0x0, 0x0, 2, 1⟩
def ENC_EVT_OUT_DROP : Fld := ⟨0x300008, 0x10000, 0x0, 0x0, 3, 1⟩
def ENC_EVT_FETCH : Fld := ⟨0x300008, 0x10000, 0x0, 0x0, 4, 1⟩
def ENC_EVT_CFG_ERR : Fld := ⟨0x300008, 0x10000, 0x0, 0x0, 5, 1⟩
def ENC_EVT_WIGN : Fld := ⟨0x300008, 0x10000, 0x0, 0x0, 6, 1⟩
def ENC_EVT_EN_START : Fld := ⟨0x30000C, 0x10000, 0x0, 0x0, 0, 1⟩
def ENC_EVT_EN_CAPPED : Fld := ⟨0x30000C, 0x10000, 0x0, 0x0, 1, 1⟩
def ENC_EVT_EN_PASSED : Fld := ⟨0x30000C, 0x10000, 0x0, 0x0, 2, 1⟩
def ENC_EVT_EN_OUT_DROP : Fld := ⟨0x30000C, 0x10000, 0x0, 0x0, 3, 1⟩
def ENC_EVT_EN_FETCH : Fld := ⟨0x30000C, 0x10000, 0x0, 0x0, 4, 1⟩
def ENC_EVT_EN_CFG_ERR : Fld := ⟨0x30000C, 0x10000, 0x0, 0x0, 5, 1⟩
def ENC_EVT_EN_WIGN : Fld := ⟨0x30000C, 0x10000, 0x0, 0x0, 6, 1⟩
def ENC_UUID_UUID : Fld := ⟨0x300010, 0x10000, 0x4, 0x0, 0, 32⟩
def ENC_LOAD_ADMIT : Fld := ⟨0x300020, 0x10000, 0x0, 0x0, 0, 10⟩
def ENC_LOAD_MEAS : Fld := ⟨0x300020, 0x10000, 0x0, 0x0, 16, 10⟩
def ENC_S_CTL_EN : Fld := ⟨0x301000, 0x10000, 0x100, 0x0, 0, 1⟩
def ENC_S_CTL_IDR_REQ : Fld := ⟨0x301000, 0x10000, 0x100, 0x0, 1, 1⟩
def ENC_S_CTL_CODEC : Fld := ⟨0x301000, 0x10000, 0x100, 0x0, 2, 2⟩
def ENC_S_CTL_COLOUR : Fld := ⟨0x301000, 0x10000, 0x100, 0x0, 4, 1⟩
def ENC_S_CTL_SLICE_ROWS : Fld := ⟨0x301000, 0x10000, 0x100, 0x0, 8, 8⟩
def ENC_S_SRC_CRU : Fld := ⟨0x301004, 0x10000, 0x100, 0x0, 0, 2⟩
def ENC_S_CROP_XY_X : Fld := ⟨0x301008, 0x10000, 0x100, 0x0, 0, 14⟩
def ENC_S_CROP_XY_Y : Fld := ⟨0x301008, 0x10000, 0x100, 0x0, 16, 13⟩
def ENC_S_CROP_WH_W : Fld := ⟨0x30100C, 0x10000, 0x100, 0x0, 0, 14⟩
def ENC_S_CROP_WH_H : Fld := ⟨0x30100C, 0x10000, 0x100, 0x0, 16, 13⟩
def ENC_S_GOP_GOP_LEN : Fld := ⟨0x301010, 0x10000, 0x100, 0x0, 0, 10⟩
def ENC_S_GOP_REFS : Fld := ⟨0x301010, 0x10000, 0x100, 0x0, 16, 2⟩
def ENC_S_QP_QI : Fld := ⟨0x301014, 0x10000, 0x100, 0x0, 0, 6⟩
def ENC_S_QP_QP_MIN : Fld := ⟨0x301014, 0x10000, 0x100, 0x0, 8, 6⟩
def ENC_S_QP_QP_MAX : Fld := ⟨0x301014, 0x10000, 0x100, 0x0, 16, 6⟩
def ENC_S_QP_I_OFS : Fld := ⟨0x301014, 0x10000, 0x100, 0x0, 24, 3⟩
def ENC_S_FCAP_FCAP : Fld := ⟨0x301018, 0x10000, 0x100, 0x0, 0, 20⟩
def ENC_S_SCAP_SCAP : Fld := ⟨0x30101C, 0x10000, 0x100, 0x0, 0, 20⟩
def ENC_S_RING_RING : Fld := ⟨0x301020, 0x10000, 0x100, 0x0, 0, 8⟩
def ENC_S_BS_LO_ADDR_LO : Fld := ⟨0x301024, 0x10000, 0x100, 0x0, 12, 20⟩
def ENC_S_BS_HI_ADDR_HI : Fld := ⟨0x301028, 0x10000, 0x100, 0x0, 0, 8⟩
def ENC_S_BS_CFG_SIZE : Fld := ⟨0x30102C, 0x10000, 0x100, 0x0, 0, 20⟩
def ENC_S_BS_CFG_PART : Fld := ⟨0x30102C, 0x10000, 0x100, 0x0, 24, 5⟩
def ENC_S_ST_LO_ADDR_LO : Fld := ⟨0x301030, 0x10000, 0x100, 0x0, 12, 20⟩
def ENC_S_ST_HI_ADDR_HI : Fld := ⟨0x301034, 0x10000, 0x100, 0x0, 0, 8⟩
def ENC_S_ST_CFG_STATS_N : Fld := ⟨0x301038, 0x10000, 0x100, 0x0, 0, 5⟩
def ENC_S_ST_CFG_PART : Fld := ⟨0x301038, 0x10000, 0x100, 0x0, 8, 5⟩
def ENC_S_ST_CFG_PAGES : Fld := ⟨0x301038, 0x10000, 0x100, 0x0, 16, 16⟩
def ENC_S_STAT_RUN : Fld := ⟨0x30103C, 0x10000, 0x100, 0x0, 0, 1⟩
def ENC_S_STAT_WIDE : Fld := ⟨0x30103C, 0x10000, 0x100, 0x0, 1, 1⟩
def ENC_S_STAT_CAPPED : Fld := ⟨0x30103C, 0x10000, 0x100, 0x0, 2, 1⟩
def ENC_S_STAT_LEVEL : Fld := ⟨0x30103C, 0x10000, 0x100, 0x0, 8, 8⟩
def ENC_S_LAST_BITS : Fld := ⟨0x301040, 0x10000, 0x100, 0x0, 0, 20⟩
def ENC_S_LAST_QP_B : Fld := ⟨0x301040, 0x10000, 0x100, 0x0, 20, 6⟩
def ENC_S_LAST_D : Fld := ⟨0x301040, 0x10000, 0x100, 0x0, 26, 6⟩
def ENC_S_CNT_CAPPED : Fld := ⟨0x301044, 0x10000, 0x100, 0x0, 0, 12⟩
def ENC_S_CNT_PASSED : Fld := ⟨0x301044, 0x10000, 0x100, 0x0, 12, 10⟩
def ENC_S_CNT_DROPPED : Fld := ⟨0x301044, 0x10000, 0x100, 0x0, 22, 10⟩
def ENC_S_WIN_SUM : Fld := ⟨0x301048, 0x10000, 0x100, 0x0, 0, 20⟩
def ENC_S_ROWS_FIRST_SKIP : Fld := ⟨0x30104C, 0x10000, 0x100, 0x0, 0, 9⟩
def ENC_S_ROWS_FORCED : Fld := ⟨0x30104C, 0x10000, 0x100, 0x0, 16, 9⟩
def ENC_S_ROI_XY_X : Fld := ⟨0x301080, 0x10000, 0x100, 0x8, 0, 8⟩
def ENC_S_ROI_XY_Y : Fld := ⟨0x301080, 0x10000, 0x100, 0x8, 16, 8⟩
def ENC_S_ROI_WH_W : Fld := ⟨0x301084, 0x10000, 0x100, 0x8, 0, 8⟩
def ENC_S_ROI_WH_H : Fld := ⟨0x301084, 0x10000, 0x100, 0x8, 8, 8⟩
def ENC_S_ROI_WH_OFS : Fld := ⟨0x301084, 0x10000, 0x100, 0x8, 16, 5⟩
def ENC_S_ROI_WH_EN : Fld := ⟨0x301084, 0x10000, 0x100, 0x8, 31, 1⟩
def PAIR_STAT_ROLE : Fld := ⟨0x50000, 0x0, 0x0, 0x0, 0, 2⟩
def PAIR_STAT_STAGE : Fld := ⟨0x50000, 0x0, 0x0, 0x0, 2, 3⟩
def PAIR_STAT_LINK : Fld := ⟨0x50000, 0x0, 0x0, 0x0, 5, 1⟩
def PAIR_STAT_LANES : Fld := ⟨0x50000, 0x0, 0x0, 0x0, 6, 3⟩
def PAIR_STAT_TOKEN_DRV : Fld := ⟨0x50000, 0x0, 0x0, 0x0, 9, 1⟩
def PAIR_STAT_TOKEN_LINE : Fld := ⟨0x50000, 0x0, 0x0, 0x0, 10, 1⟩
def PAIR_STAT_PEER_ROLE : Fld := ⟨0x50000, 0x0, 0x0, 0x0, 11, 2⟩
def PAIR_STAT_PEER_VALID : Fld := ⟨0x50000, 0x0, 0x0, 0x0, 13, 1⟩
def PAIR_STAT_MISS : Fld := ⟨0x50000, 0x0, 0x0, 0x0, 14, 4⟩
def PAIR_STAT_DIVERGENT : Fld := ⟨0x50000, 0x0, 0x0, 0x0, 18, 1⟩
def PAIR_STAT_UNRES : Fld := ⟨0x50000, 0x0, 0x0, 0x0, 19, 1⟩
def PAIR_STAT_HEAT_VALID : Fld := ⟨0x50000, 0x0, 0x0, 0x0, 20, 1⟩
def PAIR_EVT_ROLE : Fld := ⟨0x50004, 0x0, 0x0, 0x0, 0, 1⟩
def PAIR_EVT_HB : Fld := ⟨0x50004, 0x0, 0x0, 0x0, 1, 1⟩
def PAIR_EVT_SWITCH : Fld := ⟨0x50004, 0x0, 0x0, 0x0, 2, 1⟩
def PAIR_EVT_DIV : Fld := ⟨0x50004, 0x0, 0x0, 0x0, 3, 1⟩
def PAIR_EVT_LINK : Fld := ⟨0x50004, 0x0, 0x0, 0x0, 4, 1⟩
def PAIR_EVT_HEAT : Fld := ⟨0x50004, 0x0, 0x0, 0x0, 5, 1⟩
def PAIR_EVT_CAST : Fld := ⟨0x50004, 0x0, 0x0, 0x0, 6, 1⟩
def PAIR_EVT_AGREE : Fld := ⟨0x50004, 0x0, 0x0, 0x0, 7, 1⟩
def PAIR_EVT_TOKEN : Fld := ⟨0x50004, 0x0, 0x0, 0x0, 8, 1⟩
def PAIR_EVT_WIGN : Fld := ⟨0x50004, 0x0, 0x0, 0x0, 9, 1⟩
def PAIR_EVT_EN_ROLE : Fld := ⟨0x50008, 0x0, 0x0, 0x0, 0, 1⟩
def PAIR_EVT_EN_HB : Fld := ⟨0x50008, 0x0, 0x0, 0x0, 1, 1⟩
def PAIR_EVT_EN_SWITCH : Fld := ⟨0x50008, 0x0, 0x0, 0x0, 2, 1⟩
def PAIR_EVT_EN_DIV : Fld := ⟨0x50008, 0x0, 0x0, 0x0, 3, 1⟩
def PAIR_EVT_EN_LINK : Fld := ⟨0x50008, 0x0, 0x0, 0x0, 4, 1⟩
def PAIR_EVT_EN_HEAT : Fld := ⟨0x50008, 0x0, 0x0, 0x0, 5, 1⟩
def PAIR_EVT_EN_CAST : Fld := ⟨0x50008, 0x0, 0x0, 0x0, 6, 1⟩
def PAIR_EVT_EN_AGREE : Fld := ⟨0x50008, 0x0, 0x0, 0x0, 7, 1⟩
def PAIR_EVT_EN_TOKEN : Fld := ⟨0x50008, 0x0, 0x0, 0x0, 8, 1⟩
def PAIR_EVT_EN_WIGN : Fld := ⟨0x50008, 0x0, 0x0, 0x0, 9, 1⟩
def PAIR_CFG_MODE : Fld := ⟨0x5000C, 0x0, 0x0, 0x0, 0, 1⟩
def PAIR_CFG_PREF : Fld := ⟨0x5000C, 0x0, 0x0, 0x0, 1, 1⟩
def PAIR_CFG_AUTO : Fld := ⟨0x5000C, 0x0, 0x0, 0x0, 2, 1⟩
def PAIR_CFG_LOST_MUTE : Fld := ⟨0x5000C, 0x0, 0x0, 0x0, 3, 1⟩
def PAIR_CFG_DIV_MUTE : Fld := ⟨0x5000C, 0x0, 0x0, 0x0, 4, 1⟩
def PAIR_CFG_REF_HEAD : Fld := ⟨0x5000C, 0x0, 0x0, 0x0, 8, 6⟩
def PAIR_TIME_HB_N : Fld := ⟨0x50010, 0x0, 0x0, 0x0, 0, 4⟩
def PAIR_TIME_DIV_N : Fld := ⟨0x50010, 0x0, 0x0, 0x0, 4, 4⟩
def PAIR_TIME_SCORE_N : Fld := ⟨0x50010, 0x0, 0x0, 0x0, 8, 4⟩
def PAIR_TIME_AHEAD : Fld := ⟨0x50010, 0x0, 0x0, 0x0, 12, 4⟩
def PAIR_TIME_JOIN_WAIT : Fld := ⟨0x50010, 0x0, 0x0, 0x0, 16, 16⟩
def PAIR_SCORE_THRESH : Fld := ⟨0x50014, 0x0, 0x0, 0x0, 0, 8⟩
def PAIR_SCORE_HYST : Fld := ⟨0x50014, 0x0, 0x0, 0x0, 8, 8⟩
def PAIR_SCORE_OWN : Fld := ⟨0x50014, 0x0, 0x0, 0x0, 16, 8⟩
def PAIR_SCORE_PEER : Fld := ⟨0x50014, 0x0, 0x0, 0x0, 24, 8⟩
def PAIR_TOKEN_WAIT_PREF : Fld := ⟨0x50018, 0x0, 0x0, 0x0, 0, 8⟩
def PAIR_TOKEN_WAIT_OTHER : Fld := ⟨0x50018, 0x0, 0x0, 0x0, 8, 8⟩
def PAIR_AGREE_AGREE_US : Fld := ⟨0x5001C, 0x0, 0x0, 0x0, 0, 16⟩
def PAIR_AGREE_WAIT_MS : Fld := ⟨0x5001C, 0x0, 0x0, 0x0, 16, 8⟩
def PAIR_HEAT_HEAT : Fld := ⟨0x50020, 0x0, 0x0, 0x0, 0, 32⟩
def PAIR_EPOCH_LO_E_LO : Fld := ⟨0x50024, 0x0, 0x0, 0x0, 0, 32⟩
def PAIR_EPOCH_HI_E_HI : Fld := ⟨0x50028, 0x0, 0x0, 0x0, 0, 16⟩
def PAIR_SWITCH_CMD : Fld := ⟨0x5002C, 0x0, 0x0, 0x0, 0, 2⟩
def PAIR_WDOG_KICK : Fld := ⟨0x50030, 0x0, 0x0, 0x0, 0, 1⟩
def PAIR_WDOG_MS : Fld := ⟨0x50030, 0x0, 0x0, 0x0, 8, 8⟩
def PAIR_ST_PERIOD : Fld := ⟨0x50034, 0x0, 0x0, 0x0, 0, 8⟩
def PAIR_ST_SCRUB_LIM : Fld := ⟨0x50034, 0x0, 0x0, 0x0, 8, 16⟩
def PAIR_ST_FAILED : Fld := ⟨0x50034, 0x0, 0x0, 0x0, 24, 1⟩
def PAIR_CNT_SWITCH : Fld := ⟨0x50038, 0x0, 0x0, 0x0, 0, 8⟩
def PAIR_CNT_DIV : Fld := ⟨0x50038, 0x0, 0x0, 0x0, 8, 8⟩
def PAIR_CNT_UNRES : Fld := ⟨0x50038, 0x0, 0x0, 0x0, 16, 8⟩
def PAIR_CNT_JOINS : Fld := ⟨0x50038, 0x0, 0x0, 0x0, 24, 8⟩
def PAIR_REPAIR_REQ : Fld := ⟨0x5003C, 0x0, 0x0, 0x0, 0, 16⟩
def PAIR_REPAIR_NONE : Fld := ⟨0x5003C, 0x0, 0x0, 0x0, 16, 16⟩
def PAIR_HEAD_STAT_CAST : Fld := ⟨0x50100, 0x8, 0x0, 0x0, 0, 4⟩
def PAIR_HEAD_STAT_RUN : Fld := ⟨0x50100, 0x8, 0x0, 0x0, 4, 4⟩
def PAIR_HEAD_STAT_MUTED : Fld := ⟨0x50100, 0x8, 0x0, 0x0, 8, 1⟩
def PAIR_HEAD_STAT_ACQ : Fld := ⟨0x50100, 0x8, 0x0, 0x0, 9, 1⟩
def PAIR_HEAD_STAT_DIV : Fld := ⟨0x50100, 0x8, 0x0, 0x0, 10, 1⟩
def PAIR_HEAD_STAT_UNPAIRED : Fld := ⟨0x50100, 0x8, 0x0, 0x0, 16, 16⟩
def PAIR_HEAD_VOTE_POS : Fld := ⟨0x50104, 0x8, 0x0, 0x0, 0, 2⟩
def PAIR_HEAD_VOTE_BOARD : Fld := ⟨0x50104, 0x8, 0x0, 0x0, 2, 1⟩
def PAIR_HEAD_VOTE_EN : Fld := ⟨0x50104, 0x8, 0x0, 0x0, 3, 1⟩
def PAIR_HEAD_VOTE_SHADOW : Fld := ⟨0x50104, 0x8, 0x0, 0x0, 8, 1⟩
def PAIR_HEAD_VOTE_TPOS : Fld := ⟨0x50104, 0x8, 0x0, 0x0, 12, 2⟩
def PAIR_HEAD_VOTE_THEAD : Fld := ⟨0x50104, 0x8, 0x0, 0x0, 16, 6⟩
def PAIR_HR_OWN_HR : Fld := ⟨0x50800, 0x4, 0x0, 0x0, 0, 32⟩
def PAIR_HR_PEER_HR : Fld := ⟨0x50840, 0x4, 0x0, 0x0, 0, 32⟩
def LNK_Q_STAT_PLL_LOCK : Fld := ⟨0x400000, 0x10000, 0x0, 0x0, 0, 1⟩
def LNK_Q_STAT_REF_ACT : Fld := ⟨0x400000, 0x10000, 0x0, 0x0, 1, 1⟩
def LNK_EVT_LANE_UP : Fld := ⟨0x400004, 0x10000, 0x0, 0x0, 0, 1⟩
def LNK_EVT_LANE_DOWN : Fld := ⟨0x400004, 0x10000, 0x0, 0x0, 1, 1⟩
def LNK_EVT_PLL : Fld := ⟨0x400004, 0x10000, 0x0, 0x0, 2, 1⟩
def LNK_EVT_CAGE : Fld := ⟨0x400004, 0x10000, 0x0, 0x0, 3, 1⟩
def LNK_EVT_CFG_ERR : Fld := ⟨0x400004, 0x10000, 0x0, 0x0, 4, 1⟩
def LNK_EVT_WIGN : Fld := ⟨0x400004, 0x10000, 0x0, 0x0, 5, 1⟩
def LNK_EVT_EN_LANE_UP : Fld := ⟨0x400008, 0x10000, 0x0, 0x0, 0, 1⟩
def LNK_EVT_EN_LANE_DOWN : Fld := ⟨0x400008, 0x10000, 0x0, 0x0, 1, 1⟩
def LNK_EVT_EN_PLL : Fld := ⟨0x400008, 0x10000, 0x0, 0x0, 2, 1⟩
def LNK_EVT_EN_CAGE : Fld := ⟨0x400008, 0x10000, 0x0, 0x0, 3, 1⟩
def LNK_EVT_EN_CFG_ERR : Fld := ⟨0x400008, 0x10000, 0x0, 0x0, 4, 1⟩
def LNK_EVT_EN_WIGN : Fld := ⟨0x400008, 0x10000, 0x0, 0x0, 5, 1⟩
def LNK_L_CTL_EN : Fld := ⟨0x400100, 0x10000, 0x20, 0x0, 0, 1⟩
def LNK_L_CTL_MODE : Fld := ⟨0x400100, 0x10000, 0x20, 0x0, 1, 3⟩
def LNK_L_CTL_TX_INV : Fld := ⟨0x400100, 0x10000, 0x20, 0x0, 4, 1⟩
def LNK_L_CTL_RX_INV : Fld := ⟨0x400100, 0x10000, 0x20, 0x0, 5, 1⟩
def LNK_L_TX_AMP : Fld := ⟨0x400104, 0x10000, 0x20, 0x0, 0, 6⟩
def LNK_L_TX_PRE : Fld := ⟨0x400104, 0x10000, 0x20, 0x0, 8, 4⟩
def LNK_L_TX_POST : Fld := ⟨0x400104, 0x10000, 0x20, 0x0, 16, 4⟩
def LNK_L_LOS_THRESH : Fld := ⟨0x400108, 0x10000, 0x20, 0x0, 0, 8⟩
def LNK_L_LOS_LOS_US : Fld := ⟨0x400108, 0x10000, 0x20, 0x0, 8, 8⟩
def LNK_L_STAT_UP : Fld := ⟨0x40010C, 0x10000, 0x20, 0x0, 0, 1⟩
def LNK_L_STAT_CAUSE : Fld := ⟨0x40010C, 0x10000, 0x20, 0x0, 1, 5⟩
def LNK_L_STAT_PRESENT : Fld := ⟨0x40010C, 0x10000, 0x20, 0x0, 6, 1⟩
def LNK_L_STAT_RATE : Fld := ⟨0x40010C, 0x10000, 0x20, 0x0, 8, 3⟩
def LNK_L_STAT_MODE : Fld := ⟨0x40010C, 0x10000, 0x20, 0x0, 12, 3⟩
def LNK_L_CNT_DOWNS : Fld := ⟨0x400110, 0x10000, 0x20, 0x0, 0, 16⟩
def LNK_L_CNT_LOSS : Fld := ⟨0x400110, 0x10000, 0x20, 0x0, 16, 16⟩
def LNK_CAGE_CTL_EN : Fld := ⟨0x400800, 0x0, 0x0, 0x0, 0, 1⟩
def LNK_CAGE_CTL_LEN : Fld := ⟨0x400800, 0x0, 0x0, 0x0, 8, 7⟩
def LNK_CAGE_CTL_PERIOD : Fld := ⟨0x400800, 0x0, 0x0, 0x0, 16, 16⟩
def LNK_CAGE_IN_LO_IN : Fld := ⟨0x400804, 0x0, 0x0, 0x0, 0, 32⟩
def LNK_CAGE_IN_HI_IN : Fld := ⟨0x400808, 0x0, 0x0, 0x0, 0, 32⟩
def LNK_CAGE_OUT_LO_OUT : Fld := ⟨0x40080C, 0x0, 0x0, 0x0, 0, 32⟩
def LNK_CAGE_OUT_HI_OUT : Fld := ⟨0x400810, 0x0, 0x0, 0x0, 0, 32⟩
def LNK_CAGE_MAP_PRES : Fld := ⟨0x400900, 0x4, 0x0, 0x0, 0, 7⟩
def LNK_CAGE_MAP_PRES_POL : Fld := ⟨0x400900, 0x4, 0x0, 0x0, 7, 1⟩
def LNK_CAGE_MAP_MLOS : Fld := ⟨0x400900, 0x4, 0x0, 0x0, 8, 7⟩
def LNK_CAGE_MAP_MLOS_POL : Fld := ⟨0x400900, 0x4, 0x0, 0x0, 15, 1⟩
def LNK_CAGE_MAP_TXD : Fld := ⟨0x400900, 0x4, 0x0, 0x0, 16, 7⟩
def LNK_CAGE_MAP_TXD_POL : Fld := ⟨0x400900, 0x4, 0x0, 0x0, 23, 1⟩
def ETH_EVT_DROPS : Fld := ⟨0x500000, 0x10000, 0x0, 0x0, 0, 1⟩
def ETH_EVT_CFG_ERR : Fld := ⟨0x500000, 0x10000, 0x0, 0x0, 1, 1⟩
def ETH_EVT_WIGN : Fld := ⟨0x500000, 0x10000, 0x0, 0x0, 2, 1⟩
def ETH_EVT_EN_DROPS : Fld := ⟨0x500004, 0x10000, 0x0, 0x0, 0, 1⟩
def ETH_EVT_EN_CFG_ERR : Fld := ⟨0x500004, 0x10000, 0x0, 0x0, 1, 1⟩
def ETH_EVT_EN_WIGN : Fld := ⟨0x500004, 0x10000, 0x0, 0x0, 2, 1⟩
def ETH_DEF_ACTION : Fld := ⟨0x500008, 0x10000, 0x0, 0x0, 0, 2⟩
def ETH_DEF_RING : Fld := ⟨0x500008, 0x10000, 0x0, 0x0, 8, 8⟩
def ETH_M_CTL_EN : Fld := ⟨0x500100, 0x10000, 0x40, 0x0, 0, 1⟩
def ETH_M_ADDR_LO_ADDR_LO : Fld := ⟨0x500104, 0x10000, 0x40, 0x0, 0, 32⟩
def ETH_M_ADDR_HI_ADDR_HI : Fld := ⟨0x500108, 0x10000, 0x40, 0x0, 0, 16⟩
def ETH_M_IP_IP : Fld := ⟨0x50010C, 0x10000, 0x40, 0x0, 0, 32⟩
def ETH_M_TXR_RING_A : Fld := ⟨0x500110, 0x10000, 0x40, 0x4, 0, 8⟩
def ETH_M_TXR_EN_A : Fld := ⟨0x500110, 0x10000, 0x40, 0x4, 8, 1⟩
def ETH_M_TXR_PATH_A : Fld := ⟨0x500110, 0x10000, 0x40, 0x4, 9, 1⟩
def ETH_M_TXR_RING_B : Fld := ⟨0x500110, 0x10000, 0x40, 0x4, 16, 8⟩
def ETH_M_TXR_EN_B : Fld := ⟨0x500110, 0x10000, 0x40, 0x4, 24, 1⟩
def ETH_M_TXR_PATH_B : Fld := ⟨0x500110, 0x10000, 0x40, 0x4, 25, 1⟩
def ETH_M_STAT_LINK : Fld := ⟨0x500120, 0x10000, 0x40, 0x0, 0, 1⟩
def ETH_M_STAT_FEC : Fld := ⟨0x500120, 0x10000, 0x40, 0x0, 1, 1⟩
def ETH_M_STAT_LOAD : Fld := ⟨0x500120, 0x10000, 0x40, 0x0, 16, 15⟩
def ETH_M_RXCNT_RX : Fld := ⟨0x500124, 0x10000, 0x40, 0x0, 0, 32⟩
def ETH_M_RXERR_FCS : Fld := ⟨0x500128, 0x10000, 0x40, 0x0, 0, 8⟩
def ETH_M_RXERR_SIZE : Fld := ⟨0x500128, 0x10000, 0x40, 0x0, 8, 8⟩
def ETH_M_RXERR_PAUSE : Fld := ⟨0x500128, 0x10000, 0x40, 0x0, 16, 8⟩
def ETH_M_RXERR_FILT : Fld := ⟨0x500128, 0x10000, 0x40, 0x0, 24, 8⟩
def ETH_M_TXCNT_TX : Fld := ⟨0x50012C, 0x10000, 0x40, 0x0, 0, 32⟩
def ETH_M_TXDROP_TXDROP : Fld := ⟨0x500130, 0x10000, 0x40, 0x0, 0, 16⟩
def ETH_F_DIP_DIP : Fld := ⟨0x501000, 0x10000, 0x10, 0x0, 0, 32⟩
def ETH_F_SIP_SIP : Fld := ⟨0x501004, 0x10000, 0x10, 0x0, 0, 32⟩
def ETH_F_PORT_DPORT : Fld := ⟨0x501008, 0x10000, 0x10, 0x0, 0, 16⟩
def ETH_F_CFG_EN : Fld := ⟨0x50100C, 0x10000, 0x10, 0x0, 0, 1⟩
def ETH_F_CFG_ACTION : Fld := ⟨0x50100C, 0x10000, 0x10, 0x0, 1, 2⟩
def ETH_F_CFG_PATH : Fld := ⟨0x50100C, 0x10000, 0x10, 0x0, 3, 1⟩
def ETH_F_CFG_LANES : Fld := ⟨0x50100C, 0x10000, 0x10, 0x0, 4, 4⟩
def ETH_F_CFG_TARGET : Fld := ⟨0x50100C, 0x10000, 0x10, 0x0, 16, 9⟩
def SPR_EVT_UP : Fld := ⟨0x4C0000, 0x0, 0x0, 0x0, 0, 1⟩
def SPR_EVT_DOWN : Fld := ⟨0x4C0000, 0x0, 0x0, 0x0, 1, 1⟩
def SPR_EVT_REFUSED : Fld := ⟨0x4C0000, 0x0, 0x0, 0x0, 2, 1⟩
def SPR_EVT_FALLBACK : Fld := ⟨0x4C0000, 0x0, 0x0, 0x0, 3, 1⟩
def SPR_EVT_LANE : Fld := ⟨0x4C0000, 0x0, 0x0, 0x0, 4, 1⟩
def SPR_EVT_DROP : Fld := ⟨0x4C0000, 0x0, 0x0, 0x0, 5, 1⟩
def SPR_EVT_TIME : Fld := ⟨0x4C0000, 0x0, 0x0, 0x0, 6, 1⟩
def SPR_EVT_CFG_ERR : Fld := ⟨0x4C0000, 0x0, 0x0, 0x0, 7, 1⟩
def SPR_EVT_WIGN : Fld := ⟨0x4C0000, 0x0, 0x0, 0x0, 8, 1⟩
def SPR_EVT_P_UP : Fld := ⟨0x4C0000, 0x0, 0x0, 0x0, 16, 1⟩
def SPR_EVT_P_DOWN : Fld := ⟨0x4C0000, 0x0, 0x0, 0x0, 17, 1⟩
def SPR_EVT_P_REFUSED : Fld := ⟨0x4C0000, 0x0, 0x0, 0x0, 18, 1⟩
def SPR_EVT_P_FALLBACK : Fld := ⟨0x4C0000, 0x0, 0x0, 0x0, 19, 1⟩
def SPR_EVT_P_LANE : Fld := ⟨0x4C0000, 0x0, 0x0, 0x0, 20, 1⟩
def SPR_EVT_EN_UP : Fld := ⟨0x4C0004, 0x0, 0x0, 0x0, 0, 1⟩
def SPR_EVT_EN_DOWN : Fld := ⟨0x4C0004, 0x0, 0x0, 0x0, 1, 1⟩
def SPR_EVT_EN_REFUSED : Fld := ⟨0x4C0004, 0x0, 0x0, 0x0, 2, 1⟩
def SPR_EVT_EN_FALLBACK : Fld := ⟨0x4C0004, 0x0, 0x0, 0x0, 3, 1⟩
def SPR_EVT_EN_LANE : Fld := ⟨0x4C0004, 0x0, 0x0, 0x0, 4, 1⟩
def SPR_EVT_EN_DROP : Fld := ⟨0x4C0004, 0x0, 0x0, 0x0, 5, 1⟩
def SPR_EVT_EN_TIME : Fld := ⟨0x4C0004, 0x0, 0x0, 0x0, 6, 1⟩
def SPR_EVT_EN_CFG_ERR : Fld := ⟨0x4C0004, 0x0, 0x0, 0x0, 7, 1⟩
def SPR_EVT_EN_WIGN : Fld := ⟨0x4C0004, 0x0, 0x0, 0x0, 8, 1⟩
def SPR_EVT_EN_P_UP : Fld := ⟨0x4C0004, 0x0, 0x0, 0x0, 16, 1⟩
def SPR_EVT_EN_P_DOWN : Fld := ⟨0x4C0004, 0x0, 0x0, 0x0, 17, 1⟩
def SPR_EVT_EN_P_REFUSED : Fld := ⟨0x4C0004, 0x0, 0x0, 0x0, 18, 1⟩
def SPR_EVT_EN_P_FALLBACK : Fld := ⟨0x4C0004, 0x0, 0x0, 0x0, 19, 1⟩
def SPR_EVT_EN_P_LANE : Fld := ⟨0x4C0004, 0x0, 0x0, 0x0, 20, 1⟩
def SPR_CFG_RING_N : Fld := ⟨0x4C0008, 0x0, 0x0, 0x0, 0, 3⟩
def SPR_TIME_CFG_DIR : Fld := ⟨0x4C0010, 0x0, 0x0, 0x0, 0, 2⟩
def SPR_TIME_CFG_ASYM : Fld := ⟨0x4C0010, 0x0, 0x0, 0x0, 16, 16⟩
def SPR_TIME_STAT_OK : Fld := ⟨0x4C0014, 0x0, 0x0, 0x0, 0, 1⟩
def SPR_TIME_STAT_SRV : Fld := ⟨0x4C0014, 0x0, 0x0, 0x0, 1, 2⟩
def SPR_TIME_STAT_COUNT : Fld := ⟨0x4C0014, 0x0, 0x0, 0x0, 8, 7⟩
def SPR_TIME_STAT_SINCE : Fld := ⟨0x4C0014, 0x0, 0x0, 0x0, 16, 16⟩
def SPR_TIME_OFS_LO_OFS_LO : Fld := ⟨0x4C0018, 0x0, 0x0, 0x0, 0, 32⟩
def SPR_TIME_OFS_HI_OFS_HI : Fld := ⟨0x4C001C, 0x0, 0x0, 0x0, 0, 32⟩
def SPR_TIME_DLY_DLY : Fld := ⟨0x4C0020, 0x0, 0x0, 0x0, 0, 32⟩
def SPR_K_CTL_EN : Fld := ⟨0x4C0100, 0x40, 0x0, 0x0, 0, 1⟩
def SPR_K_CTL_BRING : Fld := ⟨0x4C0100, 0x40, 0x0, 0x0, 1, 1⟩
def SPR_K_CTL_NLANES : Fld := ⟨0x4C0100, 0x40, 0x0, 0x0, 4, 3⟩
def SPR_K_CTL_RATE_MAX : Fld := ⟨0x4C0100, 0x40, 0x0, 0x0, 8, 3⟩
def SPR_K_CTL_RATE_ST : Fld := ⟨0x4C0100, 0x40, 0x0, 0x0, 12, 3⟩
def SPR_K_CTL_VER_ST : Fld := ⟨0x4C0100, 0x40, 0x0, 0x0, 16, 2⟩
def SPR_K_CTL_BLIND_MS : Fld := ⟨0x4C0100, 0x40, 0x0, 0x0, 24, 8⟩
def SPR_K_LANES_LANE0 : Fld := ⟨0x4C0104, 0x40, 0x0, 0x0, 0, 6⟩
def SPR_K_LANES_LANE1 : Fld := ⟨0x4C0104, 0x40, 0x0, 0x0, 8, 6⟩
def SPR_K_LANES_LANE2 : Fld := ⟨0x4C0104, 0x40, 0x0, 0x0, 16, 6⟩
def SPR_K_LANES_LANE3 : Fld := ⟨0x4C0104, 0x40, 0x0, 0x0, 24, 6⟩
def SPR_K_NEG_NEG_MS : Fld := ⟨0x4C0108, 0x40, 0x0, 0x0, 0, 16⟩
def SPR_K_RING_RXR : Fld := ⟨0x4C010C, 0x40, 0x0, 0x0, 0, 8⟩
def SPR_K_RING_TXR : Fld := ⟨0x4C010C, 0x40, 0x0, 0x0, 8, 8⟩
def SPR_K_STAT_STATE : Fld := ⟨0x4C0110, 0x40, 0x0, 0x0, 0, 3⟩
def SPR_K_STAT_RATE : Fld := ⟨0x4C0110, 0x40, 0x0, 0x0, 4, 3⟩
def SPR_K_STAT_VER : Fld := ⟨0x4C0110, 0x40, 0x0, 0x0, 8, 2⟩
def SPR_K_STAT_ACTIVE : Fld := ⟨0x4C0110, 0x40, 0x0, 0x0, 12, 3⟩
def SPR_K_STAT_MASK : Fld := ⟨0x4C0110, 0x40, 0x0, 0x0, 16, 4⟩
def SPR_K_STAT_REASON : Fld := ⟨0x4C0110, 0x40, 0x0, 0x0, 24, 8⟩
def SPR_K_PEER_VERMAX : Fld := ⟨0x4C0114, 0x40, 0x0, 0x0, 0, 8⟩
def SPR_K_PEER_ID : Fld := ⟨0x4C0114, 0x40, 0x0, 0x0, 8, 8⟩
def SPR_K_PEER_RING : Fld := ⟨0x4C0114, 0x40, 0x0, 0x0, 16, 8⟩
def SPR_K_CNT_CRC : Fld := ⟨0x4C0118, 0x40, 0x0, 0x0, 0, 16⟩
def SPR_K_CNT_RESENT : Fld := ⟨0x4C0118, 0x40, 0x0, 0x0, 16, 16⟩
def SPR_K_CNT2_DOWNS : Fld := ⟨0x4C011C, 0x40, 0x0, 0x0, 0, 8⟩
def SPR_K_CNT2_FALLBACKS : Fld := ⟨0x4C011C, 0x40, 0x0, 0x0, 8, 8⟩
def SPR_K_CNT2_LANES_OUT : Fld := ⟨0x4C011C, 0x40, 0x0, 0x0, 16, 8⟩
def SPR_K_CNT2_UNKNOWN : Fld := ⟨0x4C011C, 0x40, 0x0, 0x0, 24, 8⟩
def SPR_SH_CFG_EN : Fld := ⟨0x4C0400, 0x8, 0x0, 0x0, 0, 1⟩
def SPR_SH_CFG_MODE : Fld := ⟨0x4C0400, 0x8, 0x0, 0x0, 1, 1⟩
def SPR_SH_CFG_DEST : Fld := ⟨0x4C0400, 0x8, 0x0, 0x0, 4, 4⟩
def SPR_SH_CFG_SRC : Fld := ⟨0x4C0400, 0x8, 0x0, 0x0, 16, 9⟩
def SPR_SH_STAT_SENT : Fld := ⟨0x4C0404, 0x8, 0x0, 0x0, 0, 16⟩
def SPR_SH_STAT_ABANDONED : Fld := ⟨0x4C0404, 0x8, 0x0, 0x0, 16, 16⟩
def MEM_CTL_EN : Fld := ⟨0x90000, 0x0, 0x0, 0x0, 0, 1⟩
def MEM_STAT_READY : Fld := ⟨0x90004, 0x0, 0x0, 0x0, 0, 1⟩
def MEM_STAT_TRAINED : Fld := ⟨0x90004, 0x0, 0x0, 0x0, 8, 8⟩
def MEM_STAT_SVC : Fld := ⟨0x90004, 0x0, 0x0, 0x0, 16, 8⟩
def MEM_EVT_TRN_DONE : Fld := ⟨0x90008, 0x0, 0x0, 0x0, 0, 1⟩
def MEM_EVT_TRN_FAIL : Fld := ⟨0x90008, 0x0, 0x0, 0x0, 1, 1⟩
def MEM_EVT_DERATE : Fld := ⟨0x90008, 0x0, 0x0, 0x0, 2, 1⟩
def MEM_EVT_RDG : Fld := ⟨0x90008, 0x0, 0x0, 0x0, 3, 1⟩
def MEM_EVT_UNCORR : Fld := ⟨0x90008, 0x0, 0x0, 0x0, 4, 1⟩
def MEM_EVT_SRAM_UE : Fld := ⟨0x90008, 0x0, 0x0, 0x0, 5, 1⟩
def MEM_EVT_RANGE : Fld := ⟨0x90008, 0x0, 0x0, 0x0, 6, 1⟩
def MEM_EVT_U3_FULL : Fld := ⟨0x90008, 0x0, 0x0, 0x0, 7, 1⟩
def MEM_EVT_HOT : Fld := ⟨0x90008, 0x0, 0x0, 0x0, 8, 1⟩
def MEM_EVT_WIGN : Fld := ⟨0x90008, 0x0, 0x0, 0x0, 9, 1⟩
def MEM_EVT_EN_TRN_DONE : Fld := ⟨0x9000C, 0x0, 0x0, 0x0, 0, 1⟩
def MEM_EVT_EN_TRN_FAIL : Fld := ⟨0x9000C, 0x0, 0x0, 0x0, 1, 1⟩
def MEM_EVT_EN_DERATE : Fld := ⟨0x9000C, 0x0, 0x0, 0x0, 2, 1⟩
def MEM_EVT_EN_RDG : Fld := ⟨0x9000C, 0x0, 0x0, 0x0, 3, 1⟩
def MEM_EVT_EN_UNCORR : Fld := ⟨0x9000C, 0x0, 0x0, 0x0, 4, 1⟩
def MEM_EVT_EN_SRAM_UE : Fld := ⟨0x9000C, 0x0, 0x0, 0x0, 5, 1⟩
def MEM_EVT_EN_RANGE : Fld := ⟨0x9000C, 0x0, 0x0, 0x0, 6, 1⟩
def MEM_EVT_EN_U3_FULL : Fld := ⟨0x9000C, 0x0, 0x0, 0x0, 7, 1⟩
def MEM_EVT_EN_HOT : Fld := ⟨0x9000C, 0x0, 0x0, 0x0, 8, 1⟩
def MEM_EVT_EN_WIGN : Fld := ⟨0x9000C, 0x0, 0x0, 0x0, 9, 1⟩
def MEM_CFG_DENSITY : Fld := ⟨0x90010, 0x0, 0x0, 0x0, 0, 2⟩
def MEM_CFG_LINK_ECC : Fld := ⟨0x90010, 0x0, 0x0, 0x0, 2, 1⟩
def MEM_CFG_RATE : Fld := ⟨0x90010, 0x0, 0x0, 0x0, 16, 16⟩
def MEM_REF_TREFI_NS : Fld := ⟨0x90014, 0x0, 0x0, 0x0, 0, 12⟩
def MEM_REF_DERATE : Fld := ⟨0x90014, 0x0, 0x0, 0x0, 12, 2⟩
def MEM_REF_TRFC_NS : Fld := ⟨0x90014, 0x0, 0x0, 0x0, 16, 9⟩
def MEM_URG_U3_NS : Fld := ⟨0x90018, 0x0, 0x0, 0x0, 0, 16⟩
def MEM_PAGE_IDLE_NS : Fld := ⟨0x9001C, 0x0, 0x0, 0x0, 0, 16⟩
def MEM_RDG_THRESH : Fld := ⟨0x90020, 0x0, 0x0, 0x0, 0, 16⟩
def MEM_RDG_SAMPLE : Fld := ⟨0x90020, 0x0, 0x0, 0x0, 16, 8⟩
def MEM_RDG2_GAP_NS : Fld := ⟨0x90024, 0x0, 0x0, 0x0, 0, 16⟩
def MEM_RDG2_THROTTLE_MS : Fld := ⟨0x90024, 0x0, 0x0, 0x0, 16, 16⟩
def MEM_SCRUB_DRAM_MBS : Fld := ⟨0x90028, 0x0, 0x0, 0x0, 0, 16⟩
def MEM_SCRUB_SRAM_S : Fld := ⟨0x90028, 0x0, 0x0, 0x0, 16, 8⟩
def MEM_SCRUB_STAT_SRAM_CORR : Fld := ⟨0x9002C, 0x0, 0x0, 0x0, 0, 16⟩
def MEM_SCRUB_STAT_DRAM_CORR : Fld := ⟨0x9002C, 0x0, 0x0, 0x0, 16, 16⟩
def MEM_ERR_ADDR_LO_ADDR_LO : Fld := ⟨0x90030, 0x0, 0x0, 0x0, 0, 32⟩
def MEM_ERR_ADDR_HI_ADDR_HI : Fld := ⟨0x90034, 0x0, 0x0, 0x0, 0, 8⟩
def MEM_SRAM_HOT_ADDR : Fld := ⟨0x90038, 0x0, 0x0, 0x0, 0, 32⟩
def MEM_FUSE_REPAIRED : Fld := ⟨0x9003C, 0x0, 0x0, 0x0, 0, 12⟩
def MEM_P_CFG_TARGET : Fld := ⟨0x90100, 0x10, 0x0, 0x0, 0, 22⟩
def MEM_P_CFG_UNIT : Fld := ⟨0x90100, 0x10, 0x0, 0x0, 22, 1⟩
def MEM_P_CFG_KIND : Fld := ⟨0x90100, 0x10, 0x0, 0x0, 23, 1⟩
def MEM_P_STAT_URG : Fld := ⟨0x90104, 0x10, 0x0, 0x0, 0, 2⟩
def MEM_P_STAT_THROT : Fld := ⟨0x90104, 0x10, 0x0, 0x0, 2, 1⟩
def MEM_P_STAT_PEND : Fld := ⟨0x90104, 0x10, 0x0, 0x0, 8, 8⟩
def MEM_P_CNT_LATE : Fld := ⟨0x90108, 0x10, 0x0, 0x0, 0, 16⟩
def MEM_P_CNT_U3 : Fld := ⟨0x90108, 0x10, 0x0, 0x0, 16, 16⟩
def MEM_P_BW_BYTES : Fld := ⟨0x9010C, 0x10, 0x0, 0x0, 0, 32⟩
def MEM_C_CTL_SVC : Fld := ⟨0xA0000, 0x10000, 0x0, 0x0, 0, 1⟩
def MEM_C_CTL_TRAINED_SET : Fld := ⟨0xA0000, 0x10000, 0x0, 0x0, 1, 1⟩
def MEM_C_STAT_IN_SERVICE : Fld := ⟨0xA0004, 0x10000, 0x0, 0x0, 0, 1⟩
def MEM_C_STAT_TRAINED : Fld := ⟨0xA0004, 0x10000, 0x0, 0x0, 1, 1⟩
def MEM_C_STAT_RFM_REQ : Fld := ⟨0xA0004, 0x10000, 0x0, 0x0, 2, 1⟩
def MEM_C_STAT_MR4 : Fld := ⟨0xA0004, 0x10000, 0x0, 0x0, 3, 3⟩
def MEM_C_TRN_CTL_GO : Fld := ⟨0xA0008, 0x10000, 0x0, 0x0, 0, 1⟩
def MEM_C_TRN_CTL_PAT : Fld := ⟨0xA0008, 0x10000, 0x0, 0x0, 1, 2⟩
def MEM_C_TRN_CTL_SUB : Fld := ⟨0xA0008, 0x10000, 0x0, 0x0, 3, 1⟩
def MEM_C_TRN_CTL_RUN_LEN : Fld := ⟨0xA0008, 0x10000, 0x0, 0x0, 16, 16⟩
def MEM_C_TRN_STAT_DONE : Fld := ⟨0xA000C, 0x10000, 0x0, 0x0, 0, 1⟩
def MEM_C_TRN_STAT_FAIL : Fld := ⟨0xA000C, 0x10000, 0x0, 0x0, 16, 16⟩
def MEM_C_TRN_ADDR_ADDR : Fld := ⟨0xA0010, 0x10000, 0x0, 0x0, 6, 26⟩
def MEM_C_TRN_SEED_LO_SEED : Fld := ⟨0xA0014, 0x10000, 0x0, 0x0, 0, 32⟩
def MEM_C_TRN_SEED_HI_SEED : Fld := ⟨0xA0018, 0x10000, 0x0, 0x0, 0, 32⟩
def MEM_C_MR_DATA : Fld := ⟨0xA001C, 0x10000, 0x0, 0x0, 0, 8⟩
def MEM_C_MR_MR : Fld := ⟨0xA001C, 0x10000, 0x0, 0x0, 8, 8⟩
def MEM_C_MR_SUB : Fld := ⟨0xA001C, 0x10000, 0x0, 0x0, 16, 1⟩
def MEM_C_MR_WR : Fld := ⟨0xA001C, 0x10000, 0x0, 0x0, 17, 1⟩
def MEM_C_MR_GO : Fld := ⟨0xA001C, 0x10000, 0x0, 0x0, 18, 1⟩
def MEM_C_DLY_CA_CA0 : Fld := ⟨0xA0020, 0x10000, 0x0, 0x0, 0, 7⟩
def MEM_C_DLY_CA_CA1 : Fld := ⟨0xA0020, 0x10000, 0x0, 0x0, 16, 7⟩
def MEM_C_DLY_WCK_WCK0 : Fld := ⟨0xA0024, 0x10000, 0x0, 0x0, 0, 9⟩
def MEM_C_DLY_WCK_WCK1 : Fld := ⟨0xA0024, 0x10000, 0x0, 0x0, 16, 9⟩
def MEM_C_DLY_RG_RG0 : Fld := ⟨0xA0028, 0x10000, 0x0, 0x0, 0, 9⟩
def MEM_C_DLY_RG_RG1 : Fld := ⟨0xA0028, 0x10000, 0x0, 0x0, 16, 9⟩
def MEM_C_TRN_ERR_ERRS : Fld := ⟨0xA002C, 0x10000, 0x0, 0x0, 0, 16⟩
def MEM_C_VREF_CA : Fld := ⟨0xA0050, 0x10000, 0x0, 0x0, 0, 7⟩
def MEM_C_VREF_DQ_WR : Fld := ⟨0xA0050, 0x10000, 0x0, 0x0, 8, 7⟩
def MEM_C_VREF_DQ_RD : Fld := ⟨0xA0050, 0x10000, 0x0, 0x0, 16, 7⟩
def MEM_C_ERR_CORR : Fld := ⟨0xA0054, 0x10000, 0x0, 0x0, 0, 16⟩
def MEM_C_ERR_UNCORR : Fld := ⟨0xA0054, 0x10000, 0x0, 0x0, 16, 16⟩
def MEM_C_RDG_THROTTLES : Fld := ⟨0xA0058, 0x10000, 0x0, 0x0, 0, 16⟩
def MEM_C_RDG_ROW : Fld := ⟨0xA0058, 0x10000, 0x0, 0x0, 16, 16⟩
def MEM_C_DLY_RD_D0 : Fld := ⟨0xA0060, 0x10000, 0x8, 0x4, 0, 7⟩
def MEM_C_DLY_RD_D1 : Fld := ⟨0xA0060, 0x10000, 0x8, 0x4, 7, 7⟩
def MEM_C_DLY_RD_D2 : Fld := ⟨0xA0060, 0x10000, 0x8, 0x4, 14, 7⟩
def MEM_C_DLY_RD_D3 : Fld := ⟨0xA0060, 0x10000, 0x8, 0x4, 21, 7⟩
def MEM_C_DLY_WR_D0 : Fld := ⟨0xA0080, 0x10000, 0x8, 0x4, 0, 7⟩
def MEM_C_DLY_WR_D1 : Fld := ⟨0xA0080, 0x10000, 0x8, 0x4, 7, 7⟩
def MEM_C_DLY_WR_D2 : Fld := ⟨0xA0080, 0x10000, 0x8, 0x4, 14, 7⟩
def MEM_C_DLY_WR_D3 : Fld := ⟨0xA0080, 0x10000, 0x8, 0x4, 21, 7⟩
def SPD_STAT_WIPING : Fld := ⟨0x80000, 0x0, 0x0, 0x0, 0, 1⟩
def SPD_STAT_WIPED : Fld := ⟨0x80000, 0x0, 0x0, 0x0, 1, 1⟩
def SPD_EVT_WIPE : Fld := ⟨0x80004, 0x0, 0x0, 0x0, 0, 1⟩
def SPD_EVT_COLLIDE : Fld := ⟨0x80004, 0x0, 0x0, 0x0, 1, 1⟩
def SPD_EVT_UNCORR : Fld := ⟨0x80004, 0x0, 0x0, 0x0, 2, 1⟩
def SPD_EVT_WIGN : Fld := ⟨0x80004, 0x0, 0x0, 0x0, 3, 1⟩
def SPD_EVT_EN_WIPE : Fld := ⟨0x80008, 0x0, 0x0, 0x0, 0, 1⟩
def SPD_EVT_EN_COLLIDE : Fld := ⟨0x80008, 0x0, 0x0, 0x0, 1, 1⟩
def SPD_EVT_EN_UNCORR : Fld := ⟨0x80008, 0x0, 0x0, 0x0, 2, 1⟩
def SPD_EVT_EN_WIGN : Fld := ⟨0x80008, 0x0, 0x0, 0x0, 3, 1⟩
def SPD_COLL_COUNT : Fld := ⟨0x8000C, 0x0, 0x0, 0x0, 0, 16⟩
def SPD_COLL_WORD : Fld := ⟨0x8000C, 0x0, 0x0, 0x0, 16, 16⟩
def SPD_ERR_CORR : Fld := ⟨0x80010, 0x0, 0x0, 0x0, 0, 16⟩
def SPD_ERR_UNCORR : Fld := ⟨0x80010, 0x0, 0x0, 0x0, 16, 16⟩
def SPD_ERR_ADDR_ADDR : Fld := ⟨0x80014, 0x0, 0x0, 0x0, 0, 32⟩
def SYS_ID_STEP : Fld := ⟨0x0, 0x0, 0x0, 0x0, 0, 3⟩
def SYS_ID_PART : Fld := ⟨0x0, 0x0, 0x0, 0x0, 16, 16⟩
def SYS_STRAP_UNIT : Fld := ⟨0x4, 0x0, 0x0, 0x0, 0, 1⟩
def SYS_STRAP_POS : Fld := ⟨0x4, 0x0, 0x0, 0x0, 1, 2⟩
def SYS_LC_STATE : Fld := ⟨0x8, 0x0, 0x0, 0x0, 0, 2⟩
def SYS_LC_ADVANCE : Fld := ⟨0x8, 0x0, 0x0, 0x0, 8, 1⟩
def SYS_RST_CAUSE : Fld := ⟨0xC, 0x0, 0x0, 0x0, 0, 3⟩
def SYS_TEMP_TJ : Fld := ⟨0x10, 0x0, 0x0, 0x0, 0, 16⟩
def SYS_TEMP_LIM_WARN : Fld := ⟨0x14, 0x0, 0x0, 0x0, 0, 16⟩
def SYS_EVT_WARN : Fld := ⟨0x18, 0x0, 0x0, 0x0, 0, 1⟩
def SYS_EVT_WIGN : Fld := ⟨0x18, 0x0, 0x0, 0x0, 1, 1⟩
def SYS_EVT_EN_WARN : Fld := ⟨0x1C, 0x0, 0x0, 0x0, 0, 1⟩
def SYS_EVT_EN_WIGN : Fld := ⟨0x1C, 0x0, 0x0, 0x0, 1, 1⟩
def SYS_REMAP_SWAP : Fld := ⟨0x40, 0x0, 0x0, 0x0, 0, 1⟩
def PWR_DOM_REQ_REQ : Fld := ⟨0x10000, 0x0, 0x0, 0x0, 0, 32⟩
def PWR_DOM_STAT_ON : Fld := ⟨0x10004, 0x0, 0x0, 0x0, 0, 32⟩
def PWR_EVT_DONE : Fld := ⟨0x10008, 0x0, 0x0, 0x0, 0, 1⟩
def PWR_EVT_REFUSED : Fld := ⟨0x10008, 0x0, 0x0, 0x0, 1, 1⟩
def PWR_EVT_WIGN : Fld := ⟨0x10008, 0x0, 0x0, 0x0, 2, 1⟩
def PWR_EVT_EN_DONE : Fld := ⟨0x1000C, 0x0, 0x0, 0x0, 0, 1⟩
def PWR_EVT_EN_REFUSED : Fld := ⟨0x1000C, 0x0, 0x0, 0x0, 1, 1⟩
def PWR_EVT_EN_WIGN : Fld := ⟨0x1000C, 0x0, 0x0, 0x0, 2, 1⟩
def PWR_STAT_BUSY : Fld := ⟨0x10010, 0x0, 0x0, 0x0, 0, 1⟩
def PWR_STAT_CUR : Fld := ⟨0x10010, 0x0, 0x0, 0x0, 1, 5⟩
def PWR_STAT_PFAIL : Fld := ⟨0x10010, 0x0, 0x0, 0x0, 8, 1⟩
def MTX_STAT_GATED : Fld := ⟨0x20000, 0x0, 0x0, 0x0, 0, 6⟩
def MTX_EVT_MISS : Fld := ⟨0x20004, 0x0, 0x0, 0x0, 0, 1⟩
def MTX_EVT_BAD : Fld := ⟨0x20004, 0x0, 0x0, 0x0, 1, 1⟩
def MTX_EVT_WIGN : Fld := ⟨0x20004, 0x0, 0x0, 0x0, 2, 1⟩
def MTX_EVT_EN_MISS : Fld := ⟨0x20008, 0x0, 0x0, 0x0, 0, 1⟩
def MTX_EVT_EN_BAD : Fld := ⟨0x20008, 0x0, 0x0, 0x0, 1, 1⟩
def MTX_EVT_EN_WIGN : Fld := ⟨0x20008, 0x0, 0x0, 0x0, 2, 1⟩
def MTX_GATE_IDLE : Fld := ⟨0x2000C, 0x0, 0x0, 0x0, 0, 8⟩
def MTX_MISS_LO_ADDR_LO : Fld := ⟨0x20010, 0x0, 0x0, 0x0, 0, 32⟩
def MTX_MISS_HI_ADDR_HI : Fld := ⟨0x20014, 0x0, 0x0, 0x0, 0, 8⟩
def MTX_MISS_HI_CLASS : Fld := ⟨0x20014, 0x0, 0x0, 0x0, 8, 4⟩
def MTX_MISS_HI_WRITE : Fld := ⟨0x20014, 0x0, 0x0, 0x0, 12, 1⟩
def MTX_BAD_LO_ADDR_LO : Fld := ⟨0x20018, 0x0, 0x0, 0x0, 0, 32⟩
def MTX_BAD_HI_ADDR_HI : Fld := ⟨0x2001C, 0x0, 0x0, 0x0, 0, 8⟩
def MTX_BAD_HI_CLASS : Fld := ⟨0x2001C, 0x0, 0x0, 0x0, 8, 4⟩
def MTX_BAD_HI_WRITE : Fld := ⟨0x2001C, 0x0, 0x0, 0x0, 12, 1⟩
def MTX_BAD_HI_WIDTH : Fld := ⟨0x2001C, 0x0, 0x0, 0x0, 16, 3⟩
def MTX_CNT_MISS : Fld := ⟨0x20020, 0x0, 0x0, 0x0, 0, 16⟩
def MTX_CNT_BAD : Fld := ⟨0x20020, 0x0, 0x0, 0x0, 16, 16⟩
def FLK_STAT_COMMITS : Fld := ⟨0x30000, 0x0, 0x0, 0x0, 0, 16⟩
def FLK_STAT_DRAIN : Fld := ⟨0x30000, 0x0, 0x0, 0x0, 16, 1⟩
def FLK_STAT_FAULT : Fld := ⟨0x30000, 0x0, 0x0, 0x0, 17, 1⟩
def FLK_STAT_PENDING : Fld := ⟨0x30000, 0x0, 0x0, 0x0, 18, 1⟩
def FLK_EPOCH_EPOCH : Fld := ⟨0x30004, 0x0, 0x0, 0x0, 0, 16⟩
def FLK_EVT_VIOL : Fld := ⟨0x30008, 0x0, 0x0, 0x0, 0, 1⟩
def FLK_EVT_FAULT : Fld := ⟨0x30008, 0x0, 0x0, 0x0, 1, 1⟩
def FLK_EVT_COMMIT : Fld := ⟨0x30008, 0x0, 0x0, 0x0, 2, 1⟩
def FLK_EVT_EPOCH : Fld := ⟨0x30008, 0x0, 0x0, 0x0, 3, 1⟩
def FLK_EVT_WIGN : Fld := ⟨0x30008, 0x0, 0x0, 0x0, 4, 1⟩
def FLK_EVT_EN_VIOL : Fld := ⟨0x3000C, 0x0, 0x0, 0x0, 0, 1⟩
def FLK_EVT_EN_FAULT : Fld := ⟨0x3000C, 0x0, 0x0, 0x0, 1, 1⟩
def FLK_EVT_EN_COMMIT : Fld := ⟨0x3000C, 0x0, 0x0, 0x0, 2, 1⟩
def FLK_EVT_EN_EPOCH : Fld := ⟨0x3000C, 0x0, 0x0, 0x0, 3, 1⟩
def FLK_EVT_EN_WIGN : Fld := ⟨0x3000C, 0x0, 0x0, 0x0, 4, 1⟩
def FLK_COMMIT_GO : Fld := ⟨0x30010, 0x0, 0x0, 0x0, 0, 1⟩
def FLK_RULE_CRC_CRC : Fld := ⟨0x30014, 0x0, 0x0, 0x0, 0, 32⟩
def FLK_OD_WS_WDN_64K : Fld := ⟨0x30018, 0x0, 0x0, 0x0, 0, 4⟩
def FLK_OD_WS_MASK : Fld := ⟨0x30018, 0x0, 0x0, 0x0, 16, 10⟩
def FLK_OD_SP_MASK : Fld := ⟨0x3001C, 0x0, 0x0, 0x0, 0, 10⟩
def FLK_OD_SP_SEC : Fld := ⟨0x3001C, 0x0, 0x0, 0x0, 16, 10⟩
def FLK_VIOL_ADDR_LO_ADDR_LO : Fld := ⟨0x30020, 0x0, 0x0, 0x0, 0, 32⟩
def FLK_VIOL_ADDR_HI_ADDR_HI : Fld := ⟨0x30024, 0x0, 0x0, 0x0, 0, 8⟩
def FLK_VIOL_INFO_REASON : Fld := ⟨0x30028, 0x0, 0x0, 0x0, 0, 3⟩
def FLK_VIOL_INFO_WRITE : Fld := ⟨0x30028, 0x0, 0x0, 0x0, 3, 1⟩
def FLK_VIOL_INFO_IMPRECISE : Fld := ⟨0x30028, 0x0, 0x0, 0x0, 4, 1⟩
def FLK_VIOL_INFO_CLASS : Fld := ⟨0x30028, 0x0, 0x0, 0x0, 8, 4⟩
def FLK_VIOL_INFO_SLOT : Fld := ⟨0x30028, 0x0, 0x0, 0x0, 16, 7⟩
def FLK_VIOL_INFO_VALID : Fld := ⟨0x30028, 0x0, 0x0, 0x0, 31, 1⟩
def FLK_VIOL_CNT_CNT : Fld := ⟨0x3002C, 0x0, 0x0, 0x0, 0, 16⟩
def FLK_P_PERM_PERM : Fld := ⟨0x30100, 0x8, 0x0, 0x0, 0, 20⟩
def FLK_P_ATTR_CACHE : Fld := ⟨0x30104, 0x8, 0x0, 0x0, 0, 2⟩
def FLK_P_ATTR_ORDER : Fld := ⟨0x30104, 0x8, 0x0, 0x0, 2, 2⟩
def FLK_D_BASE_BASE : Fld := ⟨0x30400, 0x10, 0x0, 0x0, 0, 20⟩
def FLK_D_LIMIT_LIMIT : Fld := ⟨0x30404, 0x10, 0x0, 0x0, 0, 20⟩
def FLK_D_PERM_PERM : Fld := ⟨0x30408, 0x10, 0x0, 0x0, 0, 20⟩
def FLK_D_CFG_EN : Fld := ⟨0x3040C, 0x10, 0x0, 0x0, 0, 1⟩
def FLK_D_CFG_CACHE : Fld := ⟨0x3040C, 0x10, 0x0, 0x0, 1, 2⟩
def FLK_D_CFG_ORDER : Fld := ⟨0x3040C, 0x10, 0x0, 0x0, 4, 2⟩
def FLK_D_STAT_ACTIVE : Fld := ⟨0x30600, 0x4, 0x0, 0x0, 0, 1⟩
def FLK_D_STAT_FAULT : Fld := ⟨0x30600, 0x4, 0x0, 0x0, 1, 1⟩
def FLK_D_STAT_INVALID : Fld := ⟨0x30600, 0x4, 0x0, 0x0, 2, 1⟩
def FLK_D_STAT_WITH : Fld := ⟨0x30600, 0x4, 0x0, 0x0, 8, 5⟩
def WDN_STAT_LOCKSTEP : Fld := ⟨0x380000, 0x0, 0x0, 0x0, 0, 1⟩
def WDN_STAT_SC_RUN : Fld := ⟨0x380000, 0x0, 0x0, 0x0, 1, 1⟩
def WDN_STAT_SC_FAIL : Fld := ⟨0x380000, 0x0, 0x0, 0x0, 2, 1⟩
def WDN_STAT_CL_RUN : Fld := ⟨0x380000, 0x0, 0x0, 0x0, 4, 4⟩
def WDN_STAT_CL_STOPPED : Fld := ⟨0x380000, 0x0, 0x0, 0x0, 8, 4⟩
def WDN_EVT_EXPIRE : Fld := ⟨0x380004, 0x0, 0x0, 0x0, 0, 1⟩
def WDN_EVT_SC_FAIL : Fld := ⟨0x380004, 0x0, 0x0, 0x0, 1, 1⟩
def WDN_EVT_MB : Fld := ⟨0x380004, 0x0, 0x0, 0x0, 2, 1⟩
def WDN_EVT_WIGN : Fld := ⟨0x380004, 0x0, 0x0, 0x0, 3, 1⟩
def WDN_EVT_EN_EXPIRE : Fld := ⟨0x380008, 0x0, 0x0, 0x0, 0, 1⟩
def WDN_EVT_EN_SC_FAIL : Fld := ⟨0x380008, 0x0, 0x0, 0x0, 1, 1⟩
def WDN_EVT_EN_MB : Fld := ⟨0x380008, 0x0, 0x0, 0x0, 2, 1⟩
def WDN_EVT_EN_WIGN : Fld := ⟨0x380008, 0x0, 0x0, 0x0, 3, 1⟩
def WDN_ABI_MINOR : Fld := ⟨0x38000C, 0x0, 0x0, 0x0, 0, 8⟩
def WDN_ABI_MAJOR : Fld := ⟨0x38000C, 0x0, 0x0, 0x0, 8, 8⟩
def WDN_ABI_ROM : Fld := ⟨0x38000C, 0x0, 0x0, 0x0, 16, 16⟩
def WDN_SC_CTL_GO : Fld := ⟨0x380010, 0x0, 0x0, 0x0, 0, 1⟩
def WDN_SC_STAT_FAIL : Fld := ⟨0x380014, 0x0, 0x0, 0x0, 0, 6⟩
def WDN_SC_STAT_MS : Fld := ⟨0x380014, 0x0, 0x0, 0x0, 8, 8⟩
def WDN_SC_STAT_PASSED : Fld := ⟨0x380014, 0x0, 0x0, 0x0, 16, 16⟩
def WDN_ROM_CRC_CRC : Fld := ⟨0x380018, 0x0, 0x0, 0x0, 0, 32⟩
def WDN_CAUSE_EVENT : Fld := ⟨0x38001C, 0x0, 0x0, 0x0, 0, 8⟩
def WDN_CAUSE_PEND : Fld := ⟨0x38001C, 0x0, 0x0, 0x0, 8, 1⟩
def WDN_CAUSE_LOST : Fld := ⟨0x38001C, 0x0, 0x0, 0x0, 9, 1⟩
def WDN_PEND_PEND : Fld := ⟨0x380020, 0x4, 0x0, 0x0, 0, 32⟩
def WDN_CL_CTL_RUN : Fld := ⟨0x380100, 0x100, 0x0, 0x0, 0, 1⟩
def WDN_CL_STAT_RUN : Fld := ⟨0x380104, 0x100, 0x0, 0x0, 0, 1⟩
def WDN_CL_STAT_EXPIRED : Fld := ⟨0x380104, 0x100, 0x0, 0x0, 1, 1⟩
def WDN_CL_STAT_RESTARTS : Fld := ⟨0x380104, 0x100, 0x0, 0x0, 8, 8⟩
def WDN_CL_WDOG_KICK : Fld := ⟨0x380108, 0x100, 0x0, 0x0, 0, 1⟩
def WDN_CL_WDOG_MS : Fld := ⟨0x380108, 0x100, 0x0, 0x0, 8, 8⟩
def WDN_CL_CAUSE_EVENT : Fld := ⟨0x38010C, 0x100, 0x0, 0x0, 0, 8⟩
def WDN_CL_CAUSE_PEND : Fld := ⟨0x38010C, 0x100, 0x0, 0x0, 8, 1⟩
def WDN_CL_CAUSE_LOST : Fld := ⟨0x38010C, 0x100, 0x0, 0x0, 9, 1⟩
def WDN_CL_PEND_PEND : Fld := ⟨0x380110, 0x100, 0x4, 0x0, 0, 32⟩
def WDN_MB_DB_RING : Fld := ⟨0x380120, 0x100, 0x0, 0x0, 0, 1⟩
def WDN_MB_STAT_BUSY : Fld := ⟨0x380124, 0x100, 0x0, 0x0, 0, 1⟩
def WDN_MB_STAT_DONE : Fld := ⟨0x380124, 0x100, 0x0, 0x0, 1, 1⟩
def WDN_MB_STAT_OVR : Fld := ⟨0x380124, 0x100, 0x0, 0x0, 2, 1⟩
def WDN_MB_REQ_REQ : Fld := ⟨0x380140, 0x100, 0x4, 0x0, 0, 32⟩
def WDN_MB_RSP_RSP : Fld := ⟨0x380180, 0x100, 0x4, 0x0, 0, 32⟩
def DSK_CTL_EN : Fld := ⟨0x140000, 0x0, 0x0, 0x0, 0, 1⟩
def DSK_STAT_PRESENT : Fld := ⟨0x140004, 0x0, 0x0, 0x0, 0, 4⟩
def DSK_STAT_DRIVING : Fld := ⟨0x140004, 0x0, 0x0, 0x0, 4, 1⟩
def DSK_EVT_PLUG : Fld := ⟨0x140008, 0x0, 0x0, 0x0, 0, 1⟩
def DSK_EVT_OCC : Fld := ⟨0x140008, 0x0, 0x0, 0x0, 1, 1⟩
def DSK_EVT_STUCK : Fld := ⟨0x140008, 0x0, 0x0, 0x0, 2, 1⟩
def DSK_EVT_WAKE : Fld := ⟨0x140008, 0x0, 0x0, 0x0, 3, 1⟩
def DSK_EVT_OVF : Fld := ⟨0x140008, 0x0, 0x0, 0x0, 4, 1⟩
def DSK_EVT_SHORT : Fld := ⟨0x140008, 0x0, 0x0, 0x0, 5, 1⟩
def DSK_EVT_CFG_ERR : Fld := ⟨0x140008, 0x0, 0x0, 0x0, 6, 1⟩
def DSK_EVT_RPT : Fld := ⟨0x140008, 0x0, 0x0, 0x0, 7, 1⟩
def DSK_EVT_WIGN : Fld := ⟨0x140008, 0x0, 0x0, 0x0, 8, 1⟩
def DSK_EVT_EN_PLUG : Fld := ⟨0x14000C, 0x0, 0x0, 0x0, 0, 1⟩
def DSK_EVT_EN_OCC : Fld := ⟨0x14000C, 0x0, 0x0, 0x0, 1, 1⟩
def DSK_EVT_EN_STUCK : Fld := ⟨0x14000C, 0x0, 0x0, 0x0, 2, 1⟩
def DSK_EVT_EN_WAKE : Fld := ⟨0x14000C, 0x0, 0x0, 0x0, 3, 1⟩
def DSK_EVT_EN_OVF : Fld := ⟨0x14000C, 0x0, 0x0, 0x0, 4, 1⟩
def DSK_EVT_EN_SHORT : Fld := ⟨0x14000C, 0x0, 0x0, 0x0, 5, 1⟩
def DSK_EVT_EN_CFG_ERR : Fld := ⟨0x14000C, 0x0, 0x0, 0x0, 6, 1⟩
def DSK_EVT_EN_RPT : Fld := ⟨0x14000C, 0x0, 0x0, 0x0, 7, 1⟩
def DSK_EVT_EN_WIGN : Fld := ⟨0x14000C, 0x0, 0x0, 0x0, 8, 1⟩
def DSK_SCAN_FREQ : Fld := ⟨0x140010, 0x0, 0x0, 0x0, 0, 10⟩
def DSK_SCAN_CHIP : Fld := ⟨0x140010, 0x0, 0x0, 0x0, 16, 4⟩
def DSK_BLCFG_SAVE_H : Fld := ⟨0x140014, 0x0, 0x0, 0x0, 0, 8⟩
def DSK_RPT_BASE_BASE : Fld := ⟨0x140018, 0x0, 0x0, 0x0, 4, 14⟩
def DSK_RPT_CFG_SIZE_LOG2 : Fld := ⟨0x14001C, 0x0, 0x0, 0x0, 0, 4⟩
def DSK_RPT_HEAD_HEAD : Fld := ⟨0x140020, 0x0, 0x0, 0x0, 0, 12⟩
def DSK_RPT_TAIL_TAIL : Fld := ⟨0x140024, 0x0, 0x0, 0x0, 0, 12⟩
def DSK_RPT_LOST_LOST : Fld := ⟨0x140028, 0x0, 0x0, 0x0, 0, 16⟩
def DSK_P_CTL_EN : Fld := ⟨0x140100, 0x40, 0x0, 0x0, 0, 1⟩
def DSK_P_CTL_KIND : Fld := ⟨0x140100, 0x40, 0x0, 0x0, 1, 2⟩
def DSK_P_DRV_MASK : Fld := ⟨0x140104, 0x40, 0x0, 0x0, 0, 24⟩
def DSK_P_SNS_LO_MASK_LO : Fld := ⟨0x140108, 0x40, 0x0, 0x0, 0, 32⟩
def DSK_P_SNS_HI_MASK_HI : Fld := ⟨0x14010C, 0x40, 0x0, 0x0, 0, 8⟩
def DSK_P_TH_TOUCH_TH : Fld := ⟨0x140110, 0x40, 0x0, 0x0, 0, 16⟩
def DSK_P_TH_REL_TH : Fld := ⟨0x140110, 0x40, 0x0, 0x0, 16, 16⟩
def DSK_P_IDLE_A_IDLE1 : Fld := ⟨0x140114, 0x40, 0x0, 0x0, 0, 16⟩
def DSK_P_IDLE_A_IDLE2 : Fld := ⟨0x140114, 0x40, 0x0, 0x0, 16, 16⟩
def DSK_P_IDLE_B_IDLE3 : Fld := ⟨0x140118, 0x40, 0x0, 0x0, 0, 16⟩
def DSK_P_IDLE_B_IDLE4 : Fld := ⟨0x140118, 0x40, 0x0, 0x0, 16, 16⟩
def DSK_P_HOLD_HOLD_S : Fld := ⟨0x14011C, 0x40, 0x0, 0x0, 0, 16⟩
def DSK_P_HOLD_KEY_HOLD : Fld := ⟨0x14011C, 0x40, 0x0, 0x0, 16, 16⟩
def DSK_P_KEY_DEB : Fld := ⟨0x140120, 0x40, 0x0, 0x0, 0, 4⟩
def DSK_P_KEY_REP_DELAY : Fld := ⟨0x140120, 0x40, 0x0, 0x0, 4, 12⟩
def DSK_P_KEY_REP_MS : Fld := ⟨0x140120, 0x40, 0x0, 0x0, 16, 12⟩
def DSK_P_SURF_GATE : Fld := ⟨0x140124, 0x40, 0x0, 0x0, 0, 12⟩
def DSK_P_SURF_NMAX : Fld := ⟨0x140124, 0x40, 0x0, 0x0, 16, 4⟩
def DSK_P_STRIP_X0 : Fld := ⟨0x140128, 0x40, 0x0, 0x0, 0, 6⟩
def DSK_P_STRIP_X1 : Fld := ⟨0x140128, 0x40, 0x0, 0x0, 8, 6⟩
def DSK_P_STRIP_Y0 : Fld := ⟨0x140128, 0x40, 0x0, 0x0, 16, 6⟩
def DSK_P_STRIP_Y1 : Fld := ⟨0x140128, 0x40, 0x0, 0x0, 24, 6⟩
def DSK_P_STRIP_DBL : Fld := ⟨0x140128, 0x40, 0x0, 0x0, 30, 1⟩
def DSK_P_STRIP_HOLD2 : Fld := ⟨0x140128, 0x40, 0x0, 0x0, 31, 1⟩
def DSK_P_CAL_WAKE_E : Fld := ⟨0x14012C, 0x40, 0x0, 0x0, 0, 8⟩
def DSK_P_CAL_DIM_E : Fld := ⟨0x14012C, 0x40, 0x0, 0x0, 8, 8⟩
def DSK_P_CAL_DIM_STEP : Fld := ⟨0x14012C, 0x40, 0x0, 0x0, 16, 3⟩
def DSK_P_CAL_WAKE_EN : Fld := ⟨0x14012C, 0x40, 0x0, 0x0, 20, 1⟩
def DSK_P_CAL_DIM_EN : Fld := ⟨0x14012C, 0x40, 0x0, 0x0, 21, 1⟩
def DSK_P_BLCFG_TRACK_SHIFT : Fld := ⟨0x140130, 0x40, 0x0, 0x0, 0, 4⟩
def DSK_P_BLCFG_NEG_N : Fld := ⟨0x140130, 0x40, 0x0, 0x0, 8, 4⟩
def DSK_P_BLCFG_OCC_S : Fld := ⟨0x140130, 0x40, 0x0, 0x0, 16, 16⟩
def DSK_P_STAT_RUN : Fld := ⟨0x140134, 0x40, 0x0, 0x0, 0, 1⟩
def DSK_P_STAT_STEP : Fld := ⟨0x140134, 0x40, 0x0, 0x0, 1, 3⟩
def DSK_P_STAT_CONTACTS : Fld := ⟨0x140134, 0x40, 0x0, 0x0, 4, 4⟩
def DSK_P_STAT_OCCLUDED : Fld := ⟨0x140134, 0x40, 0x0, 0x0, 8, 10⟩
def DSK_P_STAT_NEXT_ID : Fld := ⟨0x140134, 0x40, 0x0, 0x0, 18, 8⟩
def DSK_P_CNT_SHORT : Fld := ⟨0x140138, 0x40, 0x0, 0x0, 0, 16⟩
def DSK_P_CNT_EXCESS : Fld := ⟨0x140138, 0x40, 0x0, 0x0, 16, 8⟩
def DSK_P_CNT_STUCK : Fld := ⟨0x140138, 0x40, 0x0, 0x0, 24, 8⟩
def DSK_KMAP_GROUP0 : Fld := ⟨0x141000, 0x4, 0x0, 0x0, 0, 4⟩
def DSK_KMAP_GROUP1 : Fld := ⟨0x141000, 0x4, 0x0, 0x0, 4, 4⟩
def DSK_KMAP_GROUP2 : Fld := ⟨0x141000, 0x4, 0x0, 0x0, 8, 4⟩
def DSK_KMAP_GROUP3 : Fld := ⟨0x141000, 0x4, 0x0, 0x0, 12, 4⟩
def DSK_KMAP_GROUP4 : Fld := ⟨0x141000, 0x4, 0x0, 0x0, 16, 4⟩
def DSK_KMAP_GROUP5 : Fld := ⟨0x141000, 0x4, 0x0, 0x0, 20, 4⟩
def DSK_KMAP_GROUP6 : Fld := ⟨0x141000, 0x4, 0x0, 0x0, 24, 4⟩
def DSK_KMAP_GROUP7 : Fld := ⟨0x141000, 0x4, 0x0, 0x0, 28, 4⟩
def DSK_BL_BL0 : Fld := ⟨0x142000, 0x4, 0x0, 0x0, 0, 16⟩
def DSK_BL_BL1 : Fld := ⟨0x142000, 0x4, 0x0, 0x0, 16, 16⟩
def DSK_MIR_MIR0 : Fld := ⟨0x143000, 0x4, 0x0, 0x0, 0, 16⟩
def DSK_MIR_MIR1 : Fld := ⟨0x143000, 0x4, 0x0, 0x0, 16, 16⟩
def DSK_DIFF_DIFF0 : Fld := ⟨0x144000, 0x4, 0x0, 0x0, 0, 16⟩
def DSK_DIFF_DIFF1 : Fld := ⟨0x144000, 0x4, 0x0, 0x0, 16, 16⟩
def DSK_CNT_CNT0 : Fld := ⟨0x145000, 0x4, 0x0, 0x0, 0, 16⟩
def DSK_CNT_CNT1 : Fld := ⟨0x145000, 0x4, 0x0, 0x0, 16, 16⟩
def DSK_OCC_OCC0 : Fld := ⟨0x146000, 0x4, 0x0, 0x0, 0, 1⟩
def DSK_OCC_OCC1 : Fld := ⟨0x146000, 0x4, 0x0, 0x0, 1, 1⟩
def DSK_OCC_OCC2 : Fld := ⟨0x146000, 0x4, 0x0, 0x0, 2, 1⟩
def DSK_OCC_OCC3 : Fld := ⟨0x146000, 0x4, 0x0, 0x0, 3, 1⟩
def DSK_OCC_OCC4 : Fld := ⟨0x146000, 0x4, 0x0, 0x0, 4, 1⟩
def DSK_OCC_OCC5 : Fld := ⟨0x146000, 0x4, 0x0, 0x0, 5, 1⟩
def DSK_OCC_OCC6 : Fld := ⟨0x146000, 0x4, 0x0, 0x0, 6, 1⟩
def DSK_OCC_OCC7 : Fld := ⟨0x146000, 0x4, 0x0, 0x0, 7, 1⟩
def DSK_OCC_OCC8 : Fld := ⟨0x146000, 0x4, 0x0, 0x0, 8, 1⟩
def DSK_OCC_OCC9 : Fld := ⟨0x146000, 0x4, 0x0, 0x0, 9, 1⟩
def DSK_OCC_OCC10 : Fld := ⟨0x146000, 0x4, 0x0, 0x0, 10, 1⟩
def DSK_OCC_OCC11 : Fld := ⟨0x146000, 0x4, 0x0, 0x0, 11, 1⟩
def DSK_OCC_OCC12 : Fld := ⟨0x146000, 0x4, 0x0, 0x0, 12, 1⟩
def DSK_OCC_OCC13 : Fld := ⟨0x146000, 0x4, 0x0, 0x0, 13, 1⟩
def DSK_OCC_OCC14 : Fld := ⟨0x146000, 0x4, 0x0, 0x0, 14, 1⟩
def DSK_OCC_OCC15 : Fld := ⟨0x146000, 0x4, 0x0, 0x0, 15, 1⟩
def DSK_OCC_OCC16 : Fld := ⟨0x146000, 0x4, 0x0, 0x0, 16, 1⟩
def DSK_OCC_OCC17 : Fld := ⟨0x146000, 0x4, 0x0, 0x0, 17, 1⟩
def DSK_OCC_OCC18 : Fld := ⟨0x146000, 0x4, 0x0, 0x0, 18, 1⟩
def DSK_OCC_OCC19 : Fld := ⟨0x146000, 0x4, 0x0, 0x0, 19, 1⟩
def DSK_OCC_OCC20 : Fld := ⟨0x146000, 0x4, 0x0, 0x0, 20, 1⟩
def DSK_OCC_OCC21 : Fld := ⟨0x146000, 0x4, 0x0, 0x0, 21, 1⟩
def DSK_OCC_OCC22 : Fld := ⟨0x146000, 0x4, 0x0, 0x0, 22, 1⟩
def DSK_OCC_OCC23 : Fld := ⟨0x146000, 0x4, 0x0, 0x0, 23, 1⟩
def DSK_OCC_OCC24 : Fld := ⟨0x146000, 0x4, 0x0, 0x0, 24, 1⟩
def DSK_OCC_OCC25 : Fld := ⟨0x146000, 0x4, 0x0, 0x0, 25, 1⟩
def DSK_OCC_OCC26 : Fld := ⟨0x146000, 0x4, 0x0, 0x0, 26, 1⟩
def DSK_OCC_OCC27 : Fld := ⟨0x146000, 0x4, 0x0, 0x0, 27, 1⟩
def DSK_OCC_OCC28 : Fld := ⟨0x146000, 0x4, 0x0, 0x0, 28, 1⟩
def DSK_OCC_OCC29 : Fld := ⟨0x146000, 0x4, 0x0, 0x0, 29, 1⟩
def DSK_OCC_OCC30 : Fld := ⟨0x146000, 0x4, 0x0, 0x0, 30, 1⟩
def DSK_OCC_OCC31 : Fld := ⟨0x146000, 0x4, 0x0, 0x0, 31, 1⟩
def LOG_STAT_READY : Fld := ⟨0x60000, 0x0, 0x0, 0x0, 0, 1⟩
def LOG_STAT_NOSTORE : Fld := ⟨0x60000, 0x0, 0x0, 0x0, 1, 1⟩
def LOG_STAT_CLEARING : Fld := ⟨0x60000, 0x0, 0x0, 0x0, 2, 1⟩
def LOG_STAT_FLUSHING : Fld := ⟨0x60000, 0x0, 0x0, 0x0, 3, 1⟩
def LOG_EVT_SEV5 : Fld := ⟨0x60004, 0x0, 0x0, 0x0, 0, 1⟩
def LOG_EVT_DROP : Fld := ⟨0x60004, 0x0, 0x0, 0x0, 1, 1⟩
def LOG_EVT_CLEARED : Fld := ⟨0x60004, 0x0, 0x0, 0x0, 2, 1⟩
def LOG_EVT_WIGN : Fld := ⟨0x60004, 0x0, 0x0, 0x0, 3, 1⟩
def LOG_EVT_EN_SEV5 : Fld := ⟨0x60008, 0x0, 0x0, 0x0, 0, 1⟩
def LOG_EVT_EN_DROP : Fld := ⟨0x60008, 0x0, 0x0, 0x0, 1, 1⟩
def LOG_EVT_EN_CLEARED : Fld := ⟨0x60008, 0x0, 0x0, 0x0, 2, 1⟩
def LOG_EVT_EN_WIGN : Fld := ⟨0x60008, 0x0, 0x0, 0x0, 3, 1⟩
def LOG_CFG_BATCH_N : Fld := ⟨0x6000C, 0x0, 0x0, 0x0, 0, 11⟩
def LOG_CFG_BATCH_MS : Fld := ⟨0x6000C, 0x0, 0x0, 0x0, 16, 16⟩
def LOG_OPTIME_OPTIME : Fld := ⟨0x60010, 0x0, 0x0, 0x0, 0, 32⟩
def LOG_PCYC_PCYC : Fld := ⟨0x60014, 0x0, 0x0, 0x0, 0, 24⟩
def LOG_DROP_COUNT : Fld := ⟨0x60018, 0x0, 0x0, 0x0, 0, 32⟩
def LOG_CNT_PENDING : Fld := ⟨0x6001C, 0x0, 0x0, 0x0, 0, 11⟩
def LOG_CNT_STAGE_DROP : Fld := ⟨0x6001C, 0x0, 0x0, 0x0, 16, 16⟩
def LOG_CURSOR_CMD : Fld := ⟨0x60020, 0x0, 0x0, 0x0, 0, 2⟩
def LOG_CURSOR_PCYC : Fld := ⟨0x60020, 0x0, 0x0, 0x0, 8, 24⟩
def LOG_STEP_DIR : Fld := ⟨0x60024, 0x0, 0x0, 0x0, 0, 2⟩
def LOG_CUR_STAT_BUSY : Fld := ⟨0x60028, 0x0, 0x0, 0x0, 0, 1⟩
def LOG_CUR_STAT_VALID : Fld := ⟨0x60028, 0x0, 0x0, 0x0, 1, 1⟩
def LOG_CUR_STAT_END : Fld := ⟨0x60028, 0x0, 0x0, 0x0, 2, 1⟩
def LOG_CUR_STAT_DAMAGED : Fld := ⟨0x60028, 0x0, 0x0, 0x0, 3, 1⟩
def LOG_CUR_STAT_PENDING : Fld := ⟨0x60028, 0x0, 0x0, 0x0, 4, 1⟩
def LOG_CUR_STAT_SLOT : Fld := ⟨0x60028, 0x0, 0x0, 0x0, 16, 16⟩
def LOG_CLR_KEY_KEY : Fld := ⟨0x6002C, 0x0, 0x0, 0x0, 0, 32⟩
def LOG_WIN_WIN : Fld := ⟨0x60040, 0x4, 0x0, 0x0, 0, 32⟩
def LOG_SUB_HDR_CODE : Fld := ⟨0x60100, 0x20, 0x0, 0x0, 0, 16⟩
def LOG_SUB_HDR_SEV : Fld := ⟨0x60100, 0x20, 0x0, 0x0, 16, 3⟩
def LOG_SUB_P_P : Fld := ⟨0x60104, 0x20, 0x4, 0x0, 0, 32⟩
def LOG_SUB_GO_GO : Fld := ⟨0x60114, 0x20, 0x0, 0x0, 0, 1⟩
def MRS_CLK_DIV : Fld := ⟨0x170000, 0x0, 0x0, 0x0, 0, 2⟩
def MRS_CLK_CSH_NS : Fld := ⟨0x170000, 0x0, 0x0, 0x0, 8, 8⟩
def MRS_ID_EXPECT : Fld := ⟨0x170004, 0x0, 0x0, 0x0, 0, 16⟩
def MRS_ID_READ : Fld := ⟨0x170004, 0x0, 0x0, 0x0, 16, 16⟩
def MRS_STAT_BUSY : Fld := ⟨0x170008, 0x0, 0x0, 0x0, 0, 1⟩
def MRS_STAT_WFAIL : Fld := ⟨0x170008, 0x0, 0x0, 0x0, 8, 8⟩
def ASY_EVT_DONE0 : Fld := ⟨0x70000, 0x0, 0x0, 0x0, 0, 1⟩
def ASY_EVT_DONE1 : Fld := ⟨0x70000, 0x0, 0x0, 0x0, 1, 1⟩
def ASY_EVT_DONE2 : Fld := ⟨0x70000, 0x0, 0x0, 0x0, 2, 1⟩
def ASY_EVT_DONE3 : Fld := ⟨0x70000, 0x0, 0x0, 0x0, 3, 1⟩
def ASY_EVT_ERR0 : Fld := ⟨0x70000, 0x0, 0x0, 0x0, 4, 1⟩
def ASY_EVT_ERR1 : Fld := ⟨0x70000, 0x0, 0x0, 0x0, 5, 1⟩
def ASY_EVT_ERR2 : Fld := ⟨0x70000, 0x0, 0x0, 0x0, 6, 1⟩
def ASY_EVT_ERR3 : Fld := ⟨0x70000, 0x0, 0x0, 0x0, 7, 1⟩
def ASY_EVT_WIGN : Fld := ⟨0x70000, 0x0, 0x0, 0x0, 8, 1⟩
def ASY_EVT_EN_DONE0 : Fld := ⟨0x70004, 0x0, 0x0, 0x0, 0, 1⟩
def ASY_EVT_EN_DONE1 : Fld := ⟨0x70004, 0x0, 0x0, 0x0, 1, 1⟩
def ASY_EVT_EN_DONE2 : Fld := ⟨0x70004, 0x0, 0x0, 0x0, 2, 1⟩
def ASY_EVT_EN_DONE3 : Fld := ⟨0x70004, 0x0, 0x0, 0x0, 3, 1⟩
def ASY_EVT_EN_ERR0 : Fld := ⟨0x70004, 0x0, 0x0, 0x0, 4, 1⟩
def ASY_EVT_EN_ERR1 : Fld := ⟨0x70004, 0x0, 0x0, 0x0, 5, 1⟩
def ASY_EVT_EN_ERR2 : Fld := ⟨0x70004, 0x0, 0x0, 0x0, 6, 1⟩
def ASY_EVT_EN_ERR3 : Fld := ⟨0x70004, 0x0, 0x0, 0x0, 7, 1⟩
def ASY_EVT_EN_WIGN : Fld := ⟨0x70004, 0x0, 0x0, 0x0, 8, 1⟩
def ASY_U_POLY_LO_POLY : Fld := ⟨0x70100, 0x40, 0x0, 0x0, 0, 32⟩
def ASY_U_POLY_HI_POLY : Fld := ⟨0x70104, 0x40, 0x0, 0x0, 0, 32⟩
def ASY_U_INIT_LO_INIT : Fld := ⟨0x70108, 0x40, 0x0, 0x0, 0, 32⟩
def ASY_U_INIT_HI_INIT : Fld := ⟨0x7010C, 0x40, 0x0, 0x0, 0, 32⟩
def ASY_U_CFG_WIDTH : Fld := ⟨0x70110, 0x40, 0x0, 0x0, 0, 7⟩
def ASY_U_CFG_REFIN : Fld := ⟨0x70110, 0x40, 0x0, 0x0, 8, 1⟩
def ASY_U_CFG_REFOUT : Fld := ⟨0x70110, 0x40, 0x0, 0x0, 9, 1⟩
def ASY_U_CFG_INV : Fld := ⟨0x70110, 0x40, 0x0, 0x0, 10, 1⟩
def ASY_U_ADDR_LO_ADDR : Fld := ⟨0x70114, 0x40, 0x0, 0x0, 0, 32⟩
def ASY_U_ADDR_HI_ADDR : Fld := ⟨0x70118, 0x40, 0x0, 0x0, 0, 8⟩
def ASY_U_LEN_LEN : Fld := ⟨0x7011C, 0x40, 0x0, 0x0, 0, 32⟩
def ASY_U_CTL_GO : Fld := ⟨0x70120, 0x40, 0x0, 0x0, 0, 1⟩
def ASY_U_CTL_MODE : Fld := ⟨0x70120, 0x40, 0x0, 0x0, 1, 1⟩
def ASY_U_VAL_LO_VAL : Fld := ⟨0x70124, 0x40, 0x0, 0x0, 0, 32⟩
def ASY_U_VAL_HI_VAL : Fld := ⟨0x70128, 0x40, 0x0, 0x0, 0, 32⟩
def ASY_U_RES_LO_RES : Fld := ⟨0x7012C, 0x40, 0x0, 0x0, 0, 32⟩
def ASY_U_RES_HI_RES : Fld := ⟨0x70130, 0x40, 0x0, 0x0, 0, 32⟩
def ASY_U_STAT_BUSY : Fld := ⟨0x70134, 0x40, 0x0, 0x0, 0, 1⟩
def ASY_U_STAT_DONE : Fld := ⟨0x70134, 0x40, 0x0, 0x0, 1, 1⟩
def ASY_U_STAT_ERR : Fld := ⟨0x70134, 0x40, 0x0, 0x0, 2, 1⟩
def ASY_U_DONE_DONE : Fld := ⟨0x70138, 0x40, 0x0, 0x0, 0, 32⟩
def XSP_STAT_STAGE : Fld := ⟨0x160000, 0x0, 0x0, 0x0, 0, 3⟩
def XSP_STAT_COPY : Fld := ⟨0x160000, 0x0, 0x0, 0x0, 3, 1⟩
def XSP_STAT_TRIAL : Fld := ⟨0x160000, 0x0, 0x0, 0x0, 4, 1⟩
def XSP_STAT_SEALED : Fld := ⟨0x160000, 0x0, 0x0, 0x0, 5, 1⟩
def XSP_STAT_REPOUR : Fld := ⟨0x160000, 0x0, 0x0, 0x0, 6, 1⟩
def XSP_STAT_REPOUR_FAIL : Fld := ⟨0x160000, 0x0, 0x0, 0x0, 7, 1⟩
def XSP_STAT_MODE : Fld := ⟨0x160000, 0x0, 0x0, 0x0, 8, 1⟩
def XSP_STAT_RECOVERY : Fld := ⟨0x160000, 0x0, 0x0, 0x0, 9, 1⟩
def XSP_STAT_SIZE_LOG2 : Fld := ⟨0x160000, 0x0, 0x0, 0x0, 16, 5⟩
def XSP_EVT_STAGE : Fld := ⟨0x160004, 0x0, 0x0, 0x0, 0, 1⟩
def XSP_EVT_REJECT : Fld := ⟨0x160004, 0x0, 0x0, 0x0, 1, 1⟩
def XSP_EVT_OP_DONE : Fld := ⟨0x160004, 0x0, 0x0, 0x0, 2, 1⟩
def XSP_EVT_WIGN : Fld := ⟨0x160004, 0x0, 0x0, 0x0, 3, 1⟩
def XSP_EVT_EN_STAGE : Fld := ⟨0x160008, 0x0, 0x0, 0x0, 0, 1⟩
def XSP_EVT_EN_REJECT : Fld := ⟨0x160008, 0x0, 0x0, 0x0, 1, 1⟩
def XSP_EVT_EN_OP_DONE : Fld := ⟨0x160008, 0x0, 0x0, 0x0, 2, 1⟩
def XSP_EVT_EN_WIGN : Fld := ⟨0x160008, 0x0, 0x0, 0x0, 3, 1⟩
def XSP_REJ_REJ_A : Fld := ⟨0x16000C, 0x0, 0x0, 0x0, 0, 8⟩
def XSP_REJ_SECT_A : Fld := ⟨0x16000C, 0x0, 0x0, 0x0, 8, 8⟩
def XSP_REJ_REJ_B : Fld := ⟨0x16000C, 0x0, 0x0, 0x0, 16, 8⟩
def XSP_REJ_SECT_B : Fld := ⟨0x16000C, 0x0, 0x0, 0x0, 24, 8⟩
def XSP_IMG_SEQ : Fld := ⟨0x160010, 0x0, 0x0, 0x0, 0, 32⟩
def XSP_TIME_T_FL : Fld := ⟨0x160014, 0x0, 0x0, 0x0, 0, 16⟩
def XSP_TIME_T_FULL : Fld := ⟨0x160014, 0x0, 0x0, 0x0, 16, 16⟩
def XSP_TRIAL_TRIAL_S : Fld := ⟨0x160018, 0x0, 0x0, 0x0, 0, 16⟩
def XSP_TRIAL_HELD : Fld := ⟨0x160018, 0x0, 0x0, 0x0, 16, 16⟩
def XSP_SEAL_GO : Fld := ⟨0x16001C, 0x0, 0x0, 0x0, 0, 1⟩
def XSP_CFG_MAXCLK : Fld := ⟨0x160020, 0x0, 0x0, 0x0, 0, 2⟩
def XSP_OP_OP : Fld := ⟨0x160030, 0x0, 0x0, 0x0, 0, 3⟩
def XSP_OP_GO : Fld := ⟨0x160030, 0x0, 0x0, 0x0, 8, 1⟩
def XSP_ADDR_ADDR : Fld := ⟨0x160034, 0x0, 0x0, 0x0, 0, 26⟩
def XSP_LEN_LEN : Fld := ⟨0x160038, 0x0, 0x0, 0x0, 0, 17⟩
def XSP_BUF_BUF : Fld := ⟨0x16003C, 0x0, 0x0, 0x0, 2, 16⟩
def XSP_OP_STAT_BUSY : Fld := ⟨0x160040, 0x0, 0x0, 0x0, 0, 1⟩
def XSP_OP_STAT_DONE : Fld := ⟨0x160040, 0x0, 0x0, 0x0, 1, 1⟩
def XSP_OP_STAT_ERR : Fld := ⟨0x160040, 0x0, 0x0, 0x0, 2, 1⟩
def XSP_OP_STAT_REFUSED : Fld := ⟨0x160040, 0x0, 0x0, 0x0, 3, 1⟩
def MGT_CTL_EN : Fld := ⟨0x150000, 0x0, 0x0, 0x0, 0, 1⟩
def MGT_STAT_LINK : Fld := ⟨0x150004, 0x0, 0x0, 0x0, 0, 1⟩
def MGT_STAT_SPEED : Fld := ⟨0x150004, 0x0, 0x0, 0x0, 1, 2⟩
def MGT_STAT_SESSIONS : Fld := ⟨0x150004, 0x0, 0x0, 0x0, 4, 3⟩
def MGT_STAT_RECOVERY : Fld := ⟨0x150004, 0x0, 0x0, 0x0, 7, 1⟩
def MGT_EVT_LINK : Fld := ⟨0x150008, 0x0, 0x0, 0x0, 0, 1⟩
def MGT_EVT_AUTH : Fld := ⟨0x150008, 0x0, 0x0, 0x0, 1, 1⟩
def MGT_EVT_WIGN : Fld := ⟨0x150008, 0x0, 0x0, 0x0, 2, 1⟩
def MGT_EVT_EN_LINK : Fld := ⟨0x15000C, 0x0, 0x0, 0x0, 0, 1⟩
def MGT_EVT_EN_AUTH : Fld := ⟨0x15000C, 0x0, 0x0, 0x0, 1, 1⟩
def MGT_EVT_EN_WIGN : Fld := ⟨0x15000C, 0x0, 0x0, 0x0, 2, 1⟩
def MGT_MAC_LO_MAC_LO : Fld := ⟨0x150010, 0x0, 0x0, 0x0, 0, 32⟩
def MGT_MAC_HI_MAC_HI : Fld := ⟨0x150014, 0x0, 0x0, 0x0, 0, 16⟩
def MGT_IP_IP : Fld := ⟨0x150018, 0x0, 0x0, 0x0, 0, 32⟩
def MGT_GW_GW : Fld := ⟨0x15001C, 0x0, 0x0, 0x0, 0, 32⟩
def MGT_PORT_PORT : Fld := ⟨0x150020, 0x0, 0x0, 0x0, 0, 16⟩
def MGT_PORT_PREFIX : Fld := ⟨0x150020, 0x0, 0x0, 0x0, 16, 6⟩
def MGT_RING_RXR : Fld := ⟨0x150024, 0x0, 0x0, 0x0, 0, 8⟩
def MGT_RING_TXR : Fld := ⟨0x150024, 0x0, 0x0, 0x0, 8, 8⟩
def MGT_CNT_AUTH : Fld := ⟨0x150028, 0x0, 0x0, 0x0, 0, 16⟩
def MGT_CNT_DROP : Fld := ⟨0x150028, 0x0, 0x0, 0x0, 16, 16⟩
def MGT_IDLE_IDLE_S : Fld := ⟨0x15002C, 0x0, 0x0, 0x0, 0, 8⟩

end Sys2Proof.Machine.F
end

