-- ==== Sys2Proof/Machine/Ops.lean ====
section
/-! DEFINITION. The named operations over memory, registers, records and outputs, on which every meaning is built. -/

namespace Sys2Proof.Machine

open Sys2Proof

/-! ## Sparse data by key -/

/-- The value at `k`, `d k` where no entry is listed. -/
def sparseGet {α : Type} (d : Nat → α) : List (Nat × α) → Nat → α
  | [], k => d k
  | (j, v) :: t, k => if j = k then v else sparseGet d t k

/-- List `v` at `k`, keeping the keys rising. -/
def sparseInsert {α : Type} (k : Nat) (v : α) : List (Nat × α) → List (Nat × α)
  | [] => [(k, v)]
  | (j, w) :: t => if k < j then (k, v) :: (j, w) :: t else if k = j then (k, v) :: t
      else (j, w) :: sparseInsert k v t

/-- Unlist `k`. -/
def sparseErase {α : Type} (k : Nat) : List (Nat × α) → List (Nat × α)
  | [] => []
  | (j, w) :: t => if j = k then sparseErase k t else (j, w) :: sparseErase k t

/-- Write `v` at `k`: a value equal to the default is not listed. -/
def sparsePut {α : Type} [DecidableEq α] (d : Nat → α) (m : List (Nat × α)) (k : Nat) (v : α) : List (Nat × α) :=
  if v = d k then sparseErase k m else sparseInsert k v m

/-- The canonical form: keys strictly rising, no entry equal to the default. -/
def sparseWf {α : Type} [DecidableEq α] (d : Nat → α) : List (Nat × α) → Bool
  | [] => true
  | [(j, v)] => v ≠ d j
  | (j, v) :: (k, w) :: t => v ≠ d j && j < k && sparseWf d ((k, w) :: t)

/-- A table of per-instance records whose unlisted entries hold `d`. -/
def tget {α : Type} (d : α) (m : List (Nat × α)) (k : Nat) : α := sparseGet (fun _ => d) m k

/-- Set the record of an instance. -/
def tput {α : Type} [DecidableEq α] (d : α) (m : List (Nat × α)) (k : Nat) (v : α) : List (Nat × α) :=
  sparsePut (fun _ => d) m k v

/-! ## Memory -/

/-- What a byte of the address map that nothing has written reads as (log 4). -/
def cellDefault (_ : Nat) : Byte := 0

/-- What an erased byte of the flash reads as (R474). -/
def flashDefault (_ : Nat) : Byte := 0xFF

/-- One byte of the address map. -/
def Mem.byte (m : Mem) (a : Nat) : Byte := sparseGet cellDefault m.cells a

/-- One byte of the flash. -/
def Mem.flashByte (m : Mem) (a : Nat) : Byte := sparseGet flashDefault m.flash a

/-- `n` bytes from `a`, in ascending order of address. -/
def Mem.bytes (m : Mem) (a n : Nat) : List Byte := (List.range n).map fun i => m.byte (a + i)

/-- `n` bytes of the flash from `a`. -/
def Mem.flashBytes (m : Mem) (a n : Nat) : List Byte := (List.range n).map fun i => m.flashByte (a + i)

/-- Write bytes in ascending order of address. -/
def putBytes (d : Nat → Byte) : List Host.Cell → Nat → List Byte → List Host.Cell
  | m, _, [] => m
  | m, a, b :: t => putBytes d (sparsePut d m a b) (a + 1) t

/-- Unlist `n` addresses from `a`. -/
def unlist (m : List Host.Cell) (a n : Nat) : List Host.Cell := m.filter fun q => !(a ≤ q.1 && q.1 < a + n)

/-- Carry out one store. -/
def Mem.put (m : Mem) (st : Store) : Mem :=
  if st.flash then { m with flash := putBytes flashDefault (unlist m.flash st.addr st.erase) st.addr st.bytes }
  else { m with cells := putBytes cellDefault (unlist m.cells st.addr st.erase) st.addr st.bytes }

/-- Carry out a list of stores, oldest first. -/
def Mem.puts (m : Mem) (l : List Store) : Mem := l.foldl Mem.put m

/-- The canonical form of both memories: addresses rising, no entry equal to what an unlisted address reads as. -/
def Memory.wf (m : Mem) : Bool := sparseWf cellDefault m.cells && sparseWf flashDefault m.flash

/-! ## Byte order: the part is little-endian within a word (R6) -/

/-- `n` bytes of `v`, least significant first. -/
def leBytes : Nat → Nat → List Byte
  | 0, _ => []
  | n + 1, v => BitVec.ofNat 8 v :: leBytes n (v / 256)

/-- The number that bytes spell, least significant first. -/
def ofLe : List Byte → Nat
  | [] => 0
  | b :: t => b.toNat + 256 * ofLe t

/-- `n` bytes of `v`, most significant first. -/
def beBytes (n v : Nat) : List Byte := (leBytes n v).reverse

/-- The number that bytes spell, most significant first. -/
def ofBe (l : List Byte) : Nat := ofLe l.reverse

/-- Bits `lsb` and up of `v`, `w` of them. -/
def bits (v lsb w : Nat) : Nat := v / 2 ^ lsb % 2 ^ w

/-- Bit `i` of `v`. -/
def bit (v i : Nat) : Bool := bits v i 1 == 1

/-- `v` as a two's complement number of `w` bits. -/
def toSigned (w v : Nat) : Int := if 2 ^ (w - 1) ≤ v then (v : Int) - 2 ^ w else v

/-- The two's complement code of `v` in `w` bits. -/
def ofSigned (w : Nat) (v : Int) : Nat := (v % (2 ^ w : Int)).toNat

/-- 1 for true. -/
def b2n (b : Bool) : Nat := if b then 1 else 0

/-! ## Registers in effect -/

/-- The reset values of MEM_P_CFG (table DRAM ports): target, unit and kind. -/
def portReset (p : Nat) : Nat :=
  let t := if p < 4 then 2 else if p < 8 then 8 else if p < 14 then 4000000 else if p < 17 then 20000
    else if p = 17 then 1000000 else if p < 22 then 10000 else if p = 22 then 5000 else 100000
  let small := p = 15 || 18 ≤ p
  t + (if p < 8 then 2 ^ 22 else 0) + (if small then 2 ^ 23 else 0)

/-- The instance indices of an address among the instances of a register, if it is one of them. -/
def dimIndex : List (Nat × Nat) → Nat → Option (List Nat)
  | [], d => if d = 0 then some [] else none
  | (n, st) :: t, d =>
    let i := d / st
    if i < n then (dimIndex t (d - i * st)).map (i :: ·) else none

/-- The row and the indices of the register at an address of the peripheral space. -/
def findRow : List RegRow → Nat → Option (RegRow × List Nat)
  | [], _ => none
  | r :: t, a =>
    if a < r.addr then findRow t a
    else match dimIndex r.dims (a - r.addr) with
      | some ix => some (r, ix)
      | none => findRow t a

/-- The register at an address of the peripheral space (none: a reserved word). -/
def regAt (a : Nat) : Option (RegRow × List Nat) := findRow (Rg.rowsOf (a / 0x10000)) a

/-- The reset value of a register (R13): its Reset column, the table DRAM ports for MEM_P_CFG, and KIND of a graphic
mould. -/
def resetAt (a : Nat) : Word :=
  match regAt a with
  | some (r, ix) =>
    if r.addr = 0x90100 then BitVec.ofNat 32 (portReset (ix.getD 0 0))
    else if r.addr = 0x208000 && 32 ≤ ix.getD 1 0 then 0x80000000
    else BitVec.ofNat 32 r.reset
  | none => 0

/-- The register's value in effect. -/
def Block.reg (b : Block) (a : Nat) : Word := sparseGet resetAt b.regs a

/-- Replace the first entry that `p` selects. -/
def replaceFirst {α : Type} (p : α → Bool) (f : α → List α) : List α → List α
  | [] => []
  | x :: t => if p x then f x ++ t else x :: replaceFirst p f t

/-- Put a register's value into effect. -/
def Block.setReg (b : Block) (a : Nat) (v : Word) : Block := { b with regs := sparsePut resetAt b.regs a v }

/-- The address of an instance of a field's register. -/
def Fld.at (f : Fld) (i j k : Nat := 0) : Nat := f.addr + i * f.si + j * f.sj + k * f.sk

/-- The address of an instance of a register. -/
def RegRow.at (r : RegRow) (ix : List Nat) : Nat :=
  r.addr + ((r.dims.zip ix).map fun p => p.1.2 * p.2).sum

/-- The value of a field within a register's value. -/
def Fld.of (f : Fld) (v : Word) : Nat := bits v.toNat f.lsb f.width

/-- A register's value with a field replaced. -/
def Fld.into (f : Fld) (v : Word) (x : Nat) : Word :=
  BitVec.ofNat 32 (v.toNat - f.of v * 2 ^ f.lsb + x % 2 ^ f.width * 2 ^ f.lsb)

/-- A field's value in effect. -/
def Block.get (b : Block) (f : Fld) (i j k : Nat := 0) : Nat := f.of (b.reg (f.at i j k))

/-- A signed field's value in effect. -/
def Block.geti (b : Block) (f : Fld) (i j k : Nat := 0) : Int := toSigned f.width (b.get f i j k)

/-- A one-bit field in effect. -/
def Block.on (b : Block) (f : Fld) (i j k : Nat := 0) : Bool := b.get f i j k == 1

/-- Put a field's value into effect. -/
def Block.put (b : Block) (f : Fld) (x : Nat) (i j k : Nat := 0) : Block :=
  b.setReg (f.at i j k) (f.into (b.reg (f.at i j k)) x)

/-- Put a one-bit field's value into effect. -/
def Block.flag (b : Block) (f : Fld) (x : Bool) (i j k : Nat := 0) : Block := b.put f (b2n x) i j k

/-- Advance a counter that saturates at its field's width. -/
def Block.inc (b : Block) (f : Fld) (i j k : Nat := 0) (n : Nat := 1) : Block :=
  b.put f (min (2 ^ f.width - 1) (b.get f i j k + n)) i j k

/-- Advance a counter that wraps at its field's width. -/
def Block.wrap (b : Block) (f : Fld) (i j k : Nat := 0) (n : Nat := 1) : Block :=
  b.put f (b.get f i j k + n) i j k

/-- A two-word value: its _LO and _HI fields. -/
def Block.get2 (b : Block) (lo hi : Fld) (i j : Nat := 0) : Nat := b.get lo i j + 2 ^ lo.width * b.get hi i j

/-- Put a two-word value into effect. -/
def Block.put2 (b : Block) (lo hi : Fld) (x : Nat) (i j : Nat := 0) : Block :=
  (b.put lo x i j).put hi (x / 2 ^ lo.width) i j

/-- Note that the flags `v` of the register at `a` are set now: a clear in the same cycle does not reach them (R12). -/
def Block.raise (b : Block) (a : Nat) (v : Word) : Block := { b with raised := (a, v) :: b.raised }

/-- The flags of a register that were set in this cycle (R12). -/
def Block.raisedAt (b : Block) (a : Nat) : Word := b.raised.foldl (fun v q => if q.1 = a then v ||| q.2 else v) 0

/-- Set an event flag (R12). -/
def Block.evt (b : Block) (f : Fld) (i j : Nat := 0) : Block := (b.put f 1 i j).raise (f.at i j) (BitVec.ofNat 32 (2 ^ f.lsb))

/-- A switched domain is on (R33, R510). -/
def Block.domOn (b : Block) (d : Nat) : Bool := bit (b.get F.PWR_DOM_STAT_ON) d

/-- The sequencer is switching a domain off and waits for its blocks to stop (R513). -/
def Block.domStopping (b : Block) (d : Nat) : Bool := b.on F.PWR_STAT_BUSY && b.get F.PWR_STAT_CUR = d

/-! ## Writes that wait -/

/-- `v` with the bits of `mask` taken from `x`. -/
def merge (v mask x : Word) : Word := (v &&& ~~~mask) ||| (x &&& mask)

/-- The last value written to a register: the value in effect under every write that still waits (R15). -/
def Block.written (b : Block) (a : Nat) : Word :=
  (b.pendL ++ b.pendF).foldl (fun v p => if p.addr = a then merge v p.mask p.val else v) (b.reg a)

/-- A class F write completed before the cycle of the commit instant that is now (R17). -/
def Block.ripe (b : Block) (p : Pend) : Bool := p.since ≠ some b.now

/-- Put waiting writes into effect in the order in which they completed (R16, R525). -/
def Block.applyPends (b : Block) (l : List Pend) : Block :=
  l.foldl (fun b p => b.setReg p.addr (merge (b.reg p.addr) p.mask p.val)) b

/-- Put into effect the class L writes that `sel` selects. -/
def Block.takeL (b : Block) (sel : Pend → Bool) : Block :=
  Block.applyPends { b with pendL := b.pendL.filter fun p => !sel p } (b.pendL.filter sel)

/-- Put into effect the class F writes that `sel` selects, of those that completed before this cycle (R17). -/
def Block.takeF (b : Block) (sel : Pend → Bool) : Block :=
  Block.applyPends { b with pendF := b.pendF.filter fun p => !(sel p && b.ripe p) } (b.pendF.filter fun p => sel p && b.ripe p)

/-! ## Records, outputs, stores, free values -/

/-- Record an event: hand it to the recorder (R450, R459). ORIGIN is the window index that the code holds, plus the
instance within the kind (R451). -/
def Block.record (b : Block) (code sev : Nat) (p0 p1 p2 p3 : Nat := 0) (inst : Nat := 0) : Block :=
  { b with evq := b.evq ++ [{ code, sev, origin := code / 256 + inst, p0 := BitVec.ofNat 32 p0, p1 := BitVec.ofNat 32 p1,
                              p2 := BitVec.ofNat 32 p2, p3 := BitVec.ofNat 32 p3 }] }

/-- The unit of the clocks' counts: 1 ns is 2⁴⁰ ticks (R43). -/
def nsTick : Nat := 2 ^ 40

/-- 1 µs, 1 ms and 1 s in ticks. -/
def usTick : Nat := 1000 * nsTick
def msTick : Nat := 1000000 * nsTick
def sTick : Nat := 1000000000 * nsTick

/-- Steady time in whole ns. -/
def Clk.ns64 (c : Clk) : Nat := c.steady / nsTick

/-- PTP time in ticks. -/
def Clk.ptp (c : Clk) : Nat := (c.sec * 1000000000 + c.ns) * nsTick + c.frac

/-- Whether the rate limit `key` lets a record through now: none was made in the last `period` ticks. -/
def Block.limitOk (b : Block) (c : Clk) (key period : Nat) : Bool :=
  match b.limits.lookup key with
  | none => true
  | some t => t + period ≤ c.steady

/-- Record an event under a rate limit: at most one record of `key` in each `period`. -/
def Block.recordLim (b : Block) (c : Clk) (key period code sev : Nat) (p0 p1 p2 p3 : Nat := 0)
    (inst : Nat := 0) : Block :=
  if b.limitOk c key period then
    Block.record { b with limits := sparseInsert key c.steady b.limits } code sev p0 p1 p2 p3 inst
  else b

/-- Note events that the health report counts over the last second (R300). -/
def Block.noteEvent (b : Block) (c : Clk) (kind n : Nat) : Block :=
  { b with recent := (b.recent.filter fun e => c.steady < e.2.2 + sTick) ++ [(kind, n, c.steady)] }

/-- Something leaves the part. Under EXTEST every output is driven from the boundary register instead (R503). -/
def Block.emit (b : Block) (o : Output) : Block :=
  if b.jtag.instr = .extest then b else { b with out := b.out ++ [o] }

/-- Store bytes into the memory of the address map. -/
def Block.store (b : Block) (a : Nat) (l : List Byte) : Block :=
  { b with stores := b.stores ++ [{ addr := a, bytes := l }] }

/-- Return `n` bytes of the address map to what an unlisted byte reads as. -/
def Block.unstore (b : Block) (a n : Nat) : Block :=
  { b with stores := b.stores ++ [{ addr := a, erase := n, bytes := [] }] }

/-- Erase `n` bytes of the flash. -/
def Block.eraseFlash (b : Block) (a n : Nat) : Block :=
  { b with stores := b.stores ++ [{ flash := true, addr := a, erase := n, bytes := [] }] }

/-- Store bytes into the flash. -/
def Block.storeFlash (b : Block) (a : Nat) (l : List Byte) : Block :=
  { b with stores := b.stores ++ [{ flash := true, addr := a, bytes := l }] }

/-- Take a free value: the value, and the block with the count advanced. -/
def Block.fresh (b : Block) : Word × Block := (Config.freeValue b.free, { b with free := b.free + 1 })

/-- Take `n` free bytes. -/
def Block.freshBytes (n : Nat) (b : Block) : List Byte × Block :=
  ((List.range n).map fun i => BitVec.ofNat 8 (Config.freeValue (b.free + i)).toNat, { b with free := b.free + n })

/-! ## A command's effect on the machine -/

/-- Split a count of ticks into the fields of the PTP clock (R44); the seconds wrap at 48 bits. -/
def Clk.ofPtp (c : Clk) (p : Nat) : Clk :=
  { c with sec := p / sTick % 2 ^ 48, ns := p / nsTick % 1000000000, frac := p % nsTick }

/-- The addend of one TCLK cycle: 4 ns plus the signed rate trim (R42). -/
def addend (rate : Int) : Nat := (4 * (nsTick : Int) + rate).toNat

/-- `n` TCLK cycles at one addend (R42, R44, R61). -/
def Clk.advance (c : Clk) (rate : Int) (n : Nat) : Clk :=
  { c.ofPtp (c.ptp + n * addend rate) with steady := (c.steady + n * addend rate) % (2 ^ 64 * nsTick) }

/-- Time passes: `n` TCLK cycles since the command before. -/
def State.pass (s : State) (n : Nat) : State :=
  { s with clk := s.clk.advance (s.blk.geti F.TIM_RATE_RATE) n }

/-- The blocks as a command at steady time `t` finds them: flags raised in an earlier cycle are no longer fresh (R12). -/
def Block.begun (b : Block) (t : Tick) : Block := { b with now := t, raised := if b.now = t then b.raised else [] }

/-- Carry out an effect on the blocks, then the stores it made and the clock setting it asked for. -/
def State.act (s : State) (f : Clk → Mem → Block → Block) : State :=
  let b := f s.clk s.mem (s.blk.begun s.clk.steady)
  { s with
    clk := if b.clkReset then {} else match b.newPtp with
      | some p => s.clk.ofPtp p
      | none => s.clk
    mem := s.mem.puts b.stores
    blk := { b with stores := [], newPtp := none, clkReset := false, readied := [] } }

/-- A command whose whole effect is `f`, `dt` TCLK cycles after the command before; in reset it has none (R507, R509). -/
def State.run (s : State) (dt : Nat) (f : Clk → Mem → Block → Block) : Host.Outcome State Fault Refusal :=
  .next (if s.blk.hold = .none then (s.pass dt).act f else s)

/-- A command of the always-on domain, which a hold of the fabric region does not stop (R509). -/
def State.runAon (s : State) (dt : Nat) (f : Clk → Mem → Block → Block) : Host.Outcome State Fault Refusal :=
  .next (if s.blk.hold = .all then s else (s.pass dt).act f)

end Sys2Proof.Machine
end

