-- ==== Sys2Proof/Machine/Crc.lean ====
section
/-! DEFINITION. CRC-32C (R211) and the bit-order helpers of the check values. -/

namespace Sys2Proof.Machine

open Sys2Proof

/-- One bit of the reflected CRC-32C register: polynomial 0x1EDC6F41, reflected 0x82F63B78. -/
def crcBit (r : Word) : Word := if r.getLsbD 0 then (r >>> 1) ^^^ 0x82F63B78 else r >>> 1

/-- One byte of the reflected CRC-32C register. -/
def crcByte (r : Word) (x : Byte) : Word :=
  let r := r ^^^ x.zeroExtend 32
  crcBit (crcBit (crcBit (crcBit (crcBit (crcBit (crcBit (crcBit r)))))))

/-- Bytes taken into the register. -/
def crcBytes (r : Word) (l : List Byte) : Word := l.foldl crcByte r

/-- CRC-32C of bytes (R211). -/
def crc32c (l : List Byte) : Word := ~~~ crcBytes 0xFFFFFFFF l

end Sys2Proof.Machine
end

