-- ==== Sys2Proof/Machine/Operands.lean ====
section
/-! DEFINITION. The operands of an access: the address map (R399, R400) and the scratchpad regions. -/

namespace Sys2Proof.Machine

open Sys2Proof

/-- What an address names (table Address map); offsets are from the base of what it names. -/
inductive Region where
  | bootRom (off : Nat)
  | working (off : Nat)
  | scratch (off : Nat)
  | bitSet (off : Nat)
  | bitClear (off : Nat)
  | periph (a : Nat)
  | dram (a : Nat)
  | miss
deriving DecidableEq, Repr

/-- A window that is assigned to a block (table Peripheral windows). -/
def windowAssigned (w : Nat) : Bool :=
  w ≤ 17 || (20 ≤ w && w ≤ 24) || (32 ≤ w && w ≤ 36) || (40 ≤ w && w ≤ 49) || w == 56 || (64 ≤ w && w ≤ 76) ||
    (80 ≤ w && w ≤ 91)

/-- The boot ROM, 256 KiB; the rest of its 4 MiB range is a decode miss. -/
def romOr (off : Nat) : Region := if off < 0x40000 then .bootRom off else .miss

/-- Decode an address under the map in effect (R399-R401). -/
def decodeAddr (swap : Bool) (a : Nat) : Region :=
  if a < 0x400000 then (if swap then .working a else romOr a)
  else if 0x10000000 ≤ a && a < 0x10400000 then
    (if swap then romOr (a - 0x10000000) else .working (a - 0x10000000))
  else if 0x20000000 ≤ a && a < 0x20800000 then .scratch (a - 0x20000000)
  else if 0x24000000 ≤ a && a < 0x24800000 then .bitSet (a - 0x24000000)
  else if 0x28000000 ≤ a && a < 0x28800000 then .bitClear (a - 0x28000000)
  else if 0x40000000 ≤ a && a < 0x40600000 then
    (if windowAssigned ((a - 0x40000000) / 0x10000) then .periph (a - 0x40000000) else .miss)
  else if 0x100000000 ≤ a && a < 0x1100000000 then .dram a
  else .miss

/-- Where the memory keeps a byte of working SRAM, and of the scratchpad: under its address with SWAP at 0. -/
def workingBase : Nat := 0x10000000
def scratchBase : Nat := 0x20000000

/-- The regions of the scratchpad (table Scratchpad regions). -/
def dualPort (off : Nat) : Bool := off < 0x40000
def secure (off : Nat) : Bool := 0x780000 ≤ off

end Sys2Proof.Machine
end

