-- ==== Sys2Proof/Machine/Flags.lean ====
section
/-! DEFINITION. Event flags and interrupts: the WIGN flag of each block, the supervisor of each window (R31), and the
pending-interrupt words of the clusters and the Warden (R387, R415). -/

namespace Sys2Proof.Machine

open Sys2Proof

/-- Set the WIGN flag of the block of a window (R19); in the FET window the packetizer has its own. -/
def Block.wign (b : Block) (a : Nat) : Block :=
  let w := a / 0x10000
  if w == 0 then b.evt F.SYS_EVT_WIGN
  else if w == 1 then b.evt F.PWR_EVT_WIGN
  else if w == 2 then b.evt F.MTX_EVT_WIGN
  else if w == 3 then b.evt F.FLK_EVT_WIGN
  else if w == 4 then b.evt F.TIM_EVT_WIGN
  else if w == 5 then b.evt F.PAIR_EVT_WIGN
  else if w == 6 then b.evt F.LOG_EVT_WIGN
  else if w == 7 then b.evt F.ASY_EVT_WIGN
  else if w == 8 then b.evt F.SPD_EVT_WIGN
  else if 9 ≤ w && w ≤ 17 then b.evt F.MEM_EVT_WIGN
  else if w == 20 then b.evt F.DSK_EVT_WIGN
  else if w == 21 then b.evt F.MGT_EVT_WIGN
  else if w == 22 then b.evt F.XSP_EVT_WIGN
  else if w == 23 then b.evt F.LOG_EVT_WIGN
  else if w == 24 then b.evt F.LAD_EVT_WIGN
  else if 32 ≤ w && w ≤ 35 then b.evt F.CRU_EVT_WIGN (w - 32)
  else if w == 36 then (if 0x8000 ≤ a % 0x10000 then b.evt F.FET_PKT_EVT_WIGN else b.evt F.FET_EVT_WIGN)
  else if 40 ≤ w && w ≤ 47 then b.evt F.DEC_EVT_WIGN (w - 40)
  else if w == 48 || w == 49 then b.evt F.ENC_EVT_WIGN (w - 48)
  else if w == 56 then b.evt F.WDN_EVT_WIGN
  else if 64 ≤ w && w ≤ 75 then b.evt F.LNK_EVT_WIGN (w - 64)
  else if w == 76 then b.evt F.SPR_EVT_WIGN
  else if 80 ≤ w && w ≤ 91 then b.evt F.ETH_EVT_WIGN (w - 80)
  else b

/-- The addresses of the event and enable words of a window. -/
def evtWords (w : Nat) : List (Nat × Nat) :=
  let p (a e : Nat) := (w * 0x10000 + a, w * 0x10000 + e)
  if w == 0 then [p 0x18 0x1C]
  else if w == 1 || w == 3 || w == 4 || w == 9 || w == 20 || w == 21 then [p 8 0xC]
  else if w == 2 || w == 5 || w == 6 || w == 8 || w == 22 || w == 24 || w == 56 then [p 4 8]
  else if w == 7 || w == 76 || (80 ≤ w && w ≤ 91) then [p 0 4]
  else if 32 ≤ w && w ≤ 35 || (40 ≤ w && w ≤ 49) then [p 8 0xC]
  else if w == 36 then [p 8 0xC, p 0x8010 0x8014]
  else if 64 ≤ w && w ≤ 75 then [p 4 8]
  else []

/-- The enabled flags pending in a window. -/
def windowPending (b : Block) (w : Nat) : Word :=
  (evtWords w).foldl (fun v p => v ||| (b.reg p.1 &&& b.reg p.2)) 0

/-- The bits of a window's pending flags that interrupt cluster `k` (table Blocks in the pour and the shop): the
flags of Sprue link 0 go to cluster 0; MGT and XSP go to the Warden until the start has ended. -/
def clusterMask (b : Block) (k w : Nat) : Word :=
  let toward (c : Nat) : Word := if k == c then 0xFFFFFFFF else 0
  if w == 76 then (if k == 1 then 0xFFFF else if k == 0 then 0x1F0000 else 0)
  else if (64 ≤ w && w ≤ 75) || (80 ≤ w && w ≤ 91) || w == 24 || (40 ≤ w && w ≤ 47) then toward 1
  else if w == 4 || w == 5 || w == 6 || w == 23 || (8 ≤ w && w ≤ 17) then toward 0
  else if w == 7 || (32 ≤ w && w ≤ 36) then toward 2
  else if w == 48 || w == 49 || w == 20 || w == 0 || w == 1 then toward 3
  else if w == 21 || w == 22 then (if b.on F.XSP_STAT_SEALED then toward 3 else 0)
  else 0

/-- The bits of a window's pending flags that interrupt the Warden. -/
def wardenMask (b : Block) (w : Nat) : Word :=
  if w == 0 || w == 1 || w == 2 || w == 3 || w == 56 then 0xFFFFFFFF
  else if (w == 21 || w == 22) && !b.on F.XSP_STAT_SEALED then 0xFFFFFFFF
  else 0

/-- Word `i` of WDN_CL_PEND of cluster `k` (R387, R415). -/
def clusterPend (b : Block) (k i : Nat) : Word :=
  let v := (List.range 32).foldl (fun (v : Nat) n =>
    if windowPending b (32 * i + n) &&& clusterMask b k (32 * i + n) = 0 then v else v + 2 ^ n) 0
  BitVec.ofNat 32 v ||| (if i == 0 && bit b.flkPend k then 8 else 0)

/-- Word `i` of WDN_PEND. -/
def wardenPend (b : Block) (i : Nat) : Word :=
  BitVec.ofNat 32 ((List.range 32).foldl (fun (v : Nat) n =>
    if windowPending b (32 * i + n) &&& wardenMask b (32 * i + n) = 0 then v else v + 2 ^ n) 0)

end Sys2Proof.Machine
end

