-- ==== Sys2Proof/Machine/Flask.lean ====
section
/-! DEFINITION. The Flask: slots, on-die rules, refusals and commits (R406-R419), and the logs of the Runner matrix
(R404). -/

namespace Sys2Proof.Machine

open Sys2Proof

/-- The slot number that refusals hold when no slot applies (R414). -/
def noSlot : Nat := 127

/-- PERM grants read or write to class `c` (R406). -/
def permits (perm c : Nat) (wr : Bool) : Bool := bit perm (2 * c + b2n wr)

/-- The Flask's peripheral slot of a window grants the access (R406). -/
def periphOk (b : Block) (c w : Nat) (wr : Bool) : Bool := permits (b.get F.FLK_P_PERM_PERM w) c wr

/-- The ORDER of a peripheral slot: code 3 is treated as STRICT (R409). -/
def periphPosted (b : Block) (w : Nat) : Bool := b.get F.FLK_P_ATTR_ORDER w < 2

/-- BASE and LIMIT of a DRAM slot name no legal range (R407). -/
def slotInvalid (b : Block) (d : Nat) : Bool :=
  let lo := b.get F.FLK_D_BASE_BASE d
  let hi := b.get F.FLK_D_LIMIT_LIMIT d
  hi < lo || lo < 0x1000 || 0x10FFF < hi

/-- A DRAM slot is enabled and covers an address (R407). -/
def slotCovers (b : Block) (d a : Nat) : Bool :=
  b.on F.FLK_D_CFG_EN d && !slotInvalid b d && b.get F.FLK_D_BASE_BASE d ≤ a / 0x100000 &&
    a / 0x100000 ≤ b.get F.FLK_D_LIMIT_LIMIT d

/-- The enabled slot that covers an address, lowest first. -/
def coveringSlot (b : Block) (a : Nat) : Option Nat := (List.range 32).find? fun d => slotCovers b d a

/-- Why a refusal: the reason of the table Flask refusal reasons and the slot (R414). -/
structure Refused where
  reason : Nat
  slot : Nat
deriving DecidableEq, Repr

/-- Check one byte of a DRAM access: classes 5 to 8 against the slot `part` alone, the others against the slot that
covers it (R406, R408, R412). -/
def dramByte (b : Block) (c part a : Nat) (wr : Bool) : Option Refused :=
  let blk := 5 ≤ c && c ≤ 8
  let slot := if blk then (if slotCovers b part a then some part else none) else coveringSlot b a
  match slot with
  | none => some { reason := 4, slot := if blk then 96 + part else noSlot }
  | some d =>
    if b.on F.FLK_D_STAT_FAULT d then some { reason := 3, slot := 96 + d }
    else if permits (b.get F.FLK_D_PERM_PERM d) c wr then none
    else some { reason := 1, slot := 96 + d }

/-- Check a DRAM access at its first and its last byte (R411). -/
def dramCheck (b : Block) (c part a len : Nat) (wr : Bool) : Option Refused :=
  match dramByte b c part a wr with
  | some r => some r
  | none =>
    match dramByte b c part (a + len - 1) wr with
    | none => none
    | some r => some { reason := 2, slot := if 5 ≤ c && c ≤ 8 then 96 + part else r.slot }

/-- Check an access to the working SRAM, the scratchpad or the boot ROM (R410). -/
def onDieOk (b : Block) (c : Nat) (r : Region) (wr : Bool) : Bool :=
  match r with
  | .bootRom _ => !wr && c ≤ 4
  | .working off =>
    if off < b.get F.FLK_OD_WS_WDN_64K * 0x10000 then c == 0 else bit (b.get F.FLK_OD_WS_MASK) c
  | .scratch off | .bitSet off | .bitClear off =>
    if secure off then bit (b.get F.FLK_OD_SP_SEC) c else bit (b.get F.FLK_OD_SP_MASK) c
  | _ => true

/-- Record and report a refusal (R414-R416). `sup` is the cluster that supervises the refused initiator, 4 for
none. -/
def flaskRefuse (c : Clk) (cls a : Nat) (wr imprecise : Bool) (r : Refused) (sup : Nat) (b : Block) : Block :=
  let b :=
    if b.on F.FLK_VIOL_INFO_VALID then b.inc F.FLK_VIOL_CNT_CNT
    else
      let b := b.put2 F.FLK_VIOL_ADDR_LO_ADDR_LO F.FLK_VIOL_ADDR_HI_ADDR_HI a
      let b := (b.put F.FLK_VIOL_INFO_REASON r.reason).flag F.FLK_VIOL_INFO_WRITE wr
      let b := (b.flag F.FLK_VIOL_INFO_IMPRECISE imprecise).put F.FLK_VIOL_INFO_CLASS cls
      (b.put F.FLK_VIOL_INFO_SLOT r.slot).evt F.FLK_VIOL_INFO_VALID
  let b := b.evt F.FLK_EVT_VIOL
  let b := if sup < 4 && !bit b.flkPend sup then { b with flkPend := b.flkPend + 2 ^ sup } else b
  b.recordLim c (0x030100 + cls) sTick 0x0301 4 a
    (a / 2 ^ 32 + r.reason * 256 + b2n wr * 2048 + b2n imprecise * 4096) cls r.slot

/-- The cluster that supervises an initiator of classes 0 to 4 and 9 (R415). -/
def classSupervisor (cls : Nat) : Nat := if cls == 0 then 4 else if cls ≤ 4 then cls - 1 else 3

/-- The base of DRAM in the address map, and the installed capacity (R350, R351). -/
def dramBase : Nat := 0x100000000
def dramCapacity (b : Block) : Nat := 2 ^ (34 + b.get F.MEM_CFG_DENSITY)

/-- Why DRAM cannot serve an access, if it cannot (R352): 0 out of range, 1 not ready. -/
def dramRange (b : Block) (a len : Nat) : Option Nat :=
  if !b.on F.MEM_STAT_READY then some 1
  else if dramBase + dramCapacity b < a + len then some 0
  else none

/-- DRAM answers an access with an error (R352, code 0x0908). -/
def dramOut (c : Clk) (port a kind : Nat) (b : Block) : Block :=
  (b.evt F.MEM_EVT_RANGE).recordLim c (0x09080000 + port) sTick 0x0908 3 a (a / 2 ^ 32 % 16) port kind

/-- An access is refused by the Flask or answered with an error. -/
def dramFails (b : Block) (cls part a len : Nat) (wr : Bool) : Bool :=
  (dramCheck b cls part a len wr).isSome || (dramRange b a len).isSome

/-- The cluster that supervises the initiator of a DRAM port (R31, R415), cluster 3 for class 9: 4 for the Warden. -/
def portSupervisor (port : Nat) : Nat :=
  if port ≤ 7 then 2 else if port ≤ 11 then 1 else if port ≤ 13 then 3 else if port ≤ 16 then 1
  else if port = 17 then 3 else if port ≤ 21 then port - 18 else if port = 22 then 4 else 3

/-- Check a DRAM access of the initiator of a port and report what stops it (R352, R408, R413-R415). -/
def dramAccess (c : Clk) (cls part a len : Nat) (wr : Bool) (port : Nat) (b : Block) : Bool × Block :=
  match dramCheck b cls part a len wr with
  | some r => (false, flaskRefuse c cls a wr false r (portSupervisor port) b)
  | none =>
    match dramRange b a len with
    | some k => (false, dramOut c port a k b)
    | none => (true, b)

/-! ## Logs of the default target (R404) -/

/-- A decode miss (R404). -/
def missLog (c : Clk) (cls a : Nat) (wr : Bool) (b : Block) : Block :=
  let b :=
    if b.on F.MTX_EVT_MISS then b
    else
      let b := b.put2 F.MTX_MISS_LO_ADDR_LO F.MTX_MISS_HI_ADDR_HI a
      (b.put F.MTX_MISS_HI_CLASS cls).flag F.MTX_MISS_HI_WRITE wr
  let b := (b.evt F.MTX_EVT_MISS).inc F.MTX_CNT_MISS
  { b.recordLim c (0x020100 + cls) sTick 0x0201 3 a (a / 2 ^ 32) cls with resp := .error }

/-- An access of the wrong width or alignment (R7, R404). -/
def badLog (c : Clk) (cls a width : Nat) (wr : Bool) (b : Block) : Block :=
  let b :=
    if b.on F.MTX_EVT_BAD then b
    else
      let b := b.put2 F.MTX_BAD_LO_ADDR_LO F.MTX_BAD_HI_ADDR_HI a
      ((b.put F.MTX_BAD_HI_CLASS cls).flag F.MTX_BAD_HI_WRITE wr).put F.MTX_BAD_HI_WIDTH (width - 1)
  let b := (b.evt F.MTX_EVT_BAD).inc F.MTX_CNT_BAD
  { b.recordLim c (0x020200 + cls) sTick 0x0202 3 a (a / 2 ^ 32) cls width with resp := .error }

/-! ## Commits (R412, R417-R419) -/

/-- The rule registers in ascending order of address (R419). -/
def ruleRegs : List Nat :=
  [0x30018, 0x3001C] ++ (List.range 96).flatMap (fun n => [0x30100 + 8 * n, 0x30104 + 8 * n]) ++
    (List.range 32).flatMap (fun d => [0x30400 + 16 * d, 0x30404 + 16 * d, 0x30408 + 16 * d, 0x3040C + 16 * d])

/-- A rule register (R417). -/
def isRule (a : Nat) : Bool :=
  a == 0x30018 || a == 0x3001C || (0x30100 ≤ a && a < 0x30400) || (0x30400 ≤ a && a < 0x30600)

/-- CRC-32C of the rules in effect (R419). -/
def ruleCrc (b : Block) : Word :=
  ~~~ ruleRegs.foldl (fun r a => crcBytes r (leBytes 4 (b.reg a).toNat)) 0xFFFFFFFF

/-- Two enabled slots share an address (R412). -/
def slotsOverlap (b : Block) (d e : Nat) : Bool :=
  d != e && b.on F.FLK_D_CFG_EN d && b.on F.FLK_D_CFG_EN e && !slotInvalid b d && !slotInvalid b e &&
    b.get F.FLK_D_BASE_BASE d ≤ b.get F.FLK_D_LIMIT_LIMIT e && b.get F.FLK_D_BASE_BASE e ≤ b.get F.FLK_D_LIMIT_LIMIT d

/-- The status of one DRAM slot under the rules in effect. -/
def slotStatus (b : Block) (d : Nat) : Block :=
  let w := (List.range 32).find? fun e => slotsOverlap b d e
  let inv := slotInvalid b d
  let b := b.flag F.FLK_D_STAT_FAULT w.isSome d
  let b := b.flag F.FLK_D_STAT_INVALID inv d
  let b := b.put F.FLK_D_STAT_WITH (w.getD 0) d
  b.flag F.FLK_D_STAT_ACTIVE (b.on F.FLK_D_CFG_EN d && !inv && w.isNone) d

/-- The pairs of slots in overlap fault. -/
def overlapPairs (b : Block) : List (Nat × Nat) :=
  (List.range 32).flatMap fun d => ((List.range 32).filter fun e => d < e && slotsOverlap b d e).map fun e => (d, e)

/-- The commit instant (R412, R417-R419): every pending rule write takes effect at once. `inflight` says whether an
access allowed under the earlier rules is still in flight. -/
def flaskCommit (inflight : Bool) (b : Block) : Block :=
  let before := overlapPairs b
  let b := b.takeF fun p => isRule p.addr
  let pairs := overlapPairs b
  let b := (List.range 32).foldl slotStatus b
  let b := ((b.wrap F.FLK_STAT_COMMITS).flag F.FLK_STAT_PENDING false).flag F.FLK_STAT_FAULT (!pairs.isEmpty)
  let b := b.put F.FLK_RULE_CRC_CRC (ruleCrc b).toNat
  let b := (pairs.filter fun p => !before.contains p).foldl (fun b p =>
    (b.evt F.FLK_EVT_FAULT).record 0x0302 4 p.1 p.2 (b.get F.FLK_STAT_COMMITS)) b
  let n := ((List.range 32).filter fun d => b.on F.FLK_D_CFG_EN d).length
  let m := ((List.range 32).filter fun d => b.on F.FLK_D_STAT_FAULT d).length
  let b := (b.evt F.FLK_EVT_COMMIT).record 0x0304 2 (b.get F.FLK_STAT_COMMITS) (b.get F.FLK_RULE_CRC_CRC) n m
  if inflight then b.flag F.FLK_STAT_DRAIN true
  else ((b.flag F.FLK_STAT_DRAIN false).put F.FLK_EPOCH_EPOCH (b.get F.FLK_STAT_COMMITS)).evt F.FLK_EVT_EPOCH

/-- The last access allowed under an earlier commit has completed (R418). -/
def flaskEpoch (b : Block) : Block :=
  if b.get F.FLK_EPOCH_EPOCH = b.get F.FLK_STAT_COMMITS then b
  else
    let b := (b.wrap F.FLK_EPOCH_EPOCH).evt F.FLK_EVT_EPOCH
    b.flag F.FLK_STAT_DRAIN (b.get F.FLK_EPOCH_EPOCH ≠ b.get F.FLK_STAT_COMMITS)

end Sys2Proof.Machine
end

