-- ==== Sys2Proof/Machine/Assay.lean ====
section
/-! DEFINITION. The Assay units: check values over memory (R469-R473), and the reading of memory by the SERVICE class. -/

namespace Sys2Proof.Machine

open Sys2Proof

/-- The low `w` bits of `v` in the reverse order. -/
def reflect : Nat → Nat → Nat
  | 0, _ => 0
  | w + 1, v => v % 2 * 2 ^ w + reflect w (v / 2)

/-- The parameters of a unit's check value (R469). -/
structure AsyCfg where
  w : Nat
  poly : Nat
  init : Nat
  refin : Bool
  refout : Bool
  inv : Bool
deriving DecidableEq, Repr

/-- One shift of the register. -/
def asyShift (g : AsyCfg) (r : Nat) : Nat :=
  let s := 2 * r % 2 ^ g.w
  if bit r (g.w - 1) then s ^^^ (g.poly % 2 ^ g.w) else s

/-- The register after `n` shifts. -/
def asyShifts (g : AsyCfg) : Nat → Nat → Nat
  | 0, r => r
  | n + 1, r => asyShifts g n (asyShift g r)

/-- One byte taken into the register (R469). -/
def asyByte (g : AsyCfg) (r : Nat) (x : Byte) : Nat :=
  let v := if g.refin then reflect 8 x.toNat else x.toNat
  asyShifts g 8 (r ^^^ (v * 2 ^ (g.w - 8) % 2 ^ g.w))

/-- The check value of a register (R469). -/
def asyResult (g : AsyCfg) (r : Nat) : Nat :=
  let v := if g.refout then reflect g.w r else r
  if g.inv then v ^^^ (2 ^ g.w - 1) else v

/-- The parameters of unit `u`. -/
def asyCfg (b : Block) (u : Nat) : AsyCfg :=
  { w := b.get F.ASY_U_CFG_WIDTH u
    poly := b.get2 F.ASY_U_POLY_LO_POLY F.ASY_U_POLY_HI_POLY u
    init := b.get2 F.ASY_U_INIT_LO_INIT F.ASY_U_INIT_HI_INIT u
    refin := b.on F.ASY_U_CFG_REFIN u
    refout := b.on F.ASY_U_CFG_REFOUT u
    inv := b.on F.ASY_U_CFG_INV u }

/-- Where the memory keeps a byte that an access of class `cls` through the Runner matrix may read, if it lies in an
on-die memory and the access is allowed (R399, R410, R379, R380). -/
def onDieByte (b : Block) (cls a : Nat) : Option Nat :=
  let r := decodeAddr (b.on F.SYS_REMAP_SWAP) a
  let spd (off : Nat) : Option Nat :=
    if onDieOk b cls r false && !(secure off && b.on F.SPD_STAT_WIPING) then some (scratchBase + off) else none
  match r with
  | .working off => if onDieOk b cls r false then some (workingBase + off) else none
  | .scratch off | .bitSet off | .bitClear off => spd off
  | _ => none

/-- A byte that class SERVICE reads, if the read succeeds: DRAM through port 17, or on-die memory. -/
def serviceByte (m : Mem) (b : Block) (a : Nat) : Option Byte :=
  if dramBase ≤ a then (if dramFails b 9 0 a 1 false then none else some (m.byte a))
  else (onDieByte b 9 a).map m.byte

/-- Take up to `n` bytes into the register, stopping at the first that cannot be read; how many were taken. -/
def asyScan (m : Mem) (b : Block) (g : AsyCfg) : Nat → Nat → Nat → Nat → Nat × Nat
  | 0, _, r, k => (r, k)
  | n + 1, a, r, k =>
    match serviceByte m b a with
    | some x => asyScan m b g n (a + 1) (asyByte g r x) (k + 1)
    | none => (r, k)

/-- Report the access that ended a scan: a Flask refusal, an error of DRAM, a decode miss. -/
def serviceReport (c : Clk) (a : Nat) (b : Block) : Block :=
  let r := decodeAddr (b.on F.SYS_REMAP_SWAP) a
  match r with
  | .dram _ => (dramAccess c 9 0 a 1 false 17 b).2
  | .miss => { missLog c 9 a false b with resp := b.resp }
  | .periph _ => b
  | r => if onDieOk b 9 r false then b else flaskRefuse c 9 a false false { reason := 5, slot := noSlot } (classSupervisor 9) b

/-- A scan completes (R470). -/
def asyComplete (u : Nat) (b : Block) : Block :=
  let r := asyResult (asyCfg b u) (b.get2 F.ASY_U_VAL_LO_VAL F.ASY_U_VAL_HI_VAL u)
  let b := (b.put2 F.ASY_U_RES_LO_RES F.ASY_U_RES_HI_RES r u).flag F.ASY_U_STAT_BUSY false u
  let b := b.flag F.ASY_U_STAT_DONE true u
  b.evt { F.ASY_EVT_WIGN with lsb := u }

/-- ASY_U_CTL.GO of unit `u`, which is stopped (R470). -/
def asyGo (u : Nat) (b : Block) : Block :=
  if b.on F.ASY_U_STAT_BUSY u then b.evt F.ASY_EVT_WIGN
  else
    let g := asyCfg b u
    let r := if b.on F.ASY_U_CTL_MODE u then b.get2 F.ASY_U_VAL_LO_VAL F.ASY_U_VAL_HI_VAL u else g.init
    let b := b.put2 F.ASY_U_VAL_LO_VAL F.ASY_U_VAL_HI_VAL (r % 2 ^ g.w) u
    let b := ((b.flag F.ASY_U_STAT_DONE false u).flag F.ASY_U_STAT_ERR false u).put F.ASY_U_DONE_DONE 0 u
    if b.get F.ASY_U_LEN_LEN u = 0 then asyComplete u b else b.flag F.ASY_U_STAT_BUSY true u

/-- The scan under way ends (R470, R472): `bad` is the place in the scan of the first byte that returns an uncorrectable
error. The spec gives the record of code 0x0701 neither a severity nor parameters: free values. -/
def asyDone (c : Clk) (m : Mem) (u : Nat) (bad : Option Nat) (b : Block) : Block :=
  if !b.on F.ASY_U_STAT_BUSY u then b
  else
    let g := asyCfg b u
    let a := b.get2 F.ASY_U_ADDR_LO_ADDR F.ASY_U_ADDR_HI_ADDR u
    let len := b.get F.ASY_U_LEN_LEN u
    let n := match bad with
      | some k => min k len
      | none => len
    let (r, k) := asyScan m b g n a (b.get2 F.ASY_U_VAL_LO_VAL F.ASY_U_VAL_HI_VAL u) 0
    let b := (b.put2 F.ASY_U_VAL_LO_VAL F.ASY_U_VAL_HI_VAL r u).put F.ASY_U_DONE_DONE k u
    if k = len then asyComplete u b
    else
      let b := if k < n then serviceReport c (a + k) b else b
      let b := (b.flag F.ASY_U_STAT_BUSY false u).flag F.ASY_U_STAT_ERR true u
      let b := b.evt { F.ASY_EVT_WIGN with lsb := 4 + u }
      let (sv, b) := b.fresh
      let (p0, b) := b.fresh
      let (p1, b) := b.fresh
      let (p2, b) := b.fresh
      let (p3, b) := b.fresh
      b.record 0x0701 (sv.toNat % 8) p0.toNat p1.toNat p2.toNat p3.toNat

/-- ASSAY_SCAN_DONE (R469-R472). -/
def execAssayScanDone (dt : Nat) (unit : Fin 4) (bad : Option Word) (s : State) : Host.Outcome State Fault Refusal :=
  s.run dt fun c m b => asyDone c m unit.val (bad.map (·.toNat)) b

end Sys2Proof.Machine
end

