-- ==== Sys2Proof/Machine/Time.lean ====
section
/-! DEFINITION. The clocks and the servo (R42-R62). -/

namespace Sys2Proof.Machine

open Sys2Proof

/-- Servo states (table Servo states). -/
def srvFree : Nat := 0
def srvAcquire : Nat := 1
def srvLocked : Nat := 2
def srvHoldover : Nat := 3

/-- Copy both clocks into the snapshot registers (R47). -/
def snapshot (c : Clk) (b : Block) : Block :=
  let b := b.put F.TIM_SNAP_NS_NS c.ns
  let b := b.put2 F.TIM_SNAP_SEC_LO_SEC_LO F.TIM_SNAP_SEC_HI_SEC_HI c.sec
  let b := b.put F.TIM_SNAP_SEC_HI_FRAC (c.frac / 2 ^ 24)
  b.put2 F.TIM_SNAP_STEADY_LO_STEADY_LO F.TIM_SNAP_STEADY_HI_STEADY_HI (c.ns64 % 2 ^ 64)

/-- Step the PTP clock to `p` ticks, at 0 if below it (R44): counted, recorded and kept as the last step (R48, R81). Where
the step does not fit 64 signed bits the spec is silent: DESIGN CHOICE, TIM_LAST_STEP keeps its low 64 bits (log 75). -/
def ptpStep (c : Clk) (p : Int) (b : Block) : Block :=
  let p := p.toNat
  let n := c.ofPtp p
  let d := ((n.sec * 1000000000 + n.ns : Nat) : Int) - ((c.sec * 1000000000 + c.ns : Nat) : Int)
  let b := b.wrap F.TIM_STEP_CNT_CNT
  let b := b.put F.TIM_STAT_STEP_GEN (b.get F.TIM_STEP_CNT_CNT % 4)
  let b := b.put2 F.TIM_LAST_STEP_LO_STEP_LO F.TIM_LAST_STEP_HI_STEP_HI (ofSigned 64 d)
  let b := (b.evt F.TIM_EVT_STEP).record 0x0401 4 c.sec c.ns n.sec n.ns
  { b with newPtp := some p }

/-- Leave HOLDOVER, if in it: flag and record (R58, code 0x0403), `o` being the first offset. -/
def leaveHoldover (o : Nat) (b : Block) : Block :=
  if b.get F.TIM_STAT_SRV = srvHoldover then
    (b.evt F.TIM_EVT_HOLD_OUT).record 0x0403 3 (b.get F.TIM_RATE_RATE) (b.get F.TIM_SRV_INTEG_INTEG) o
  else b

/-- Leave LOCKED, if in it: flag (R58). -/
def leaveLocked (b : Block) : Block :=
  if b.get F.TIM_STAT_SRV = srvLocked then b.evt F.TIM_EVT_UNLOCK else b

/-- Enter ACQUIRE and clear the count of good updates (R57, R58). -/
def enterAcquire (c : Clk) (o : Nat) (b : Block) : Block :=
  let b := leaveLocked (leaveHoldover o b)
  { b.put F.TIM_STAT_SRV srvAcquire with tim := { b.tim with good := 0, since := c.steady } }

/-- Enter LOCKED (R58, code 0x0405). -/
def enterLocked (b : Block) : Block :=
  ((b.put F.TIM_STAT_SRV srvLocked).evt F.TIM_EVT_LOCK).record 0x0405 2 (b.get F.TIM_RATE_RATE)
    (b.get F.TIM_SRV_INTEG_INTEG) (b.get F.TIM_SRV_LOCK_LOCK_NS) (b.get F.TIM_SRV_LOCK_LOCK_CNT)

/-- Enter HOLDOVER unless in it (R58, code 0x0402): rate trim and integral kept. -/
def enterHoldover (b : Block) : Block :=
  if b.get F.TIM_STAT_SRV = srvHoldover then b
  else
    let b := leaveLocked b
    ((b.put F.TIM_STAT_SRV srvHoldover).evt F.TIM_EVT_HOLD_IN).record 0x0402 4 (b.get F.TIM_RATE_RATE)
      (b.get F.TIM_SRV_INTEG_INTEG) b.tim.lastAbs

/-- Enter FREE: rate trim and integral held (R58, R60). A holdover left here has no first offset: its record holds a
free value there (log 3). -/
def enterFree (b : Block) : Block :=
  let (o, b) := if b.get F.TIM_STAT_SRV = srvHoldover then b.fresh else (0, b)
  (leaveLocked (leaveHoldover o.toNat b)).put F.TIM_STAT_SRV srvFree

/-- `x` held within ±`m`. -/
def clampTo (m : Nat) (x : Int) : Int := max (-(m : Int)) (min (m : Int) x)

/-- One servo update that is not a step (R57): the new integral and rate trim. -/
def servoPi (kp ki rlim : Nat) (integ o : Int) : Int × Int :=
  let oc := clampTo (2 ^ 31 - 1) o
  let i := clampTo rlim (integ + (oc * ki) / 256)
  (i, clampTo rlim (-((oc * kp) / 256 + i)))

/-- A servo update with offset `o` (R56, R57). An update while SRV_EN is 0 or HOLD is 1 is ignored with WIGN (R60). -/
def servoUpdate (c : Clk) (o : Int) (b : Block) : Block :=
  if !b.on F.TIM_CTL_SRV_EN || b.on F.TIM_CTL_HOLD then b.evt F.TIM_EVT_WIGN
  else
    let a := o.natAbs
    let thr := b.get F.TIM_SRV_STEP_THRESH
    let b := { b with tim := { b.tim with lastAbs := a, since := c.steady } }
    if thr < a ∧ thr ≠ 0x7FFFFFFF then
      enterAcquire c (ofSigned 32 o) (ptpStep c ((c.ptp : Int) - o * nsTick) b)
    else
      let st := b.get F.TIM_STAT_SRV
      let acq := st = srvAcquire
      let kp := if acq then b.get F.TIM_SRV_GAIN_ACQ_KP else b.get F.TIM_SRV_GAIN_KP
      let ki := if acq then b.get F.TIM_SRV_GAIN_ACQ_KI else b.get F.TIM_SRV_GAIN_KI
      let (i, r) := servoPi kp ki (b.get F.TIM_SRV_RLIM_RLIM) (b.geti F.TIM_SRV_INTEG_INTEG) o
      let b := (b.put F.TIM_SRV_INTEG_INTEG (ofSigned 32 i)).put F.TIM_RATE_RATE (ofSigned 32 r)
      let lock := b.get F.TIM_SRV_LOCK_LOCK_NS
      let good := if a ≤ lock then b.tim.good + 1 else 0
      let b := { b with tim := { b.tim with good := good } }
      let b := if acq ∧ b.get F.TIM_SRV_LOCK_LOCK_CNT ≤ good then enterLocked b else b
      let b := if b.get F.TIM_STAT_SRV = srvLocked ∧ 4 * lock < a then enterAcquire c (ofSigned 32 o) b else b
      if st = srvFree ∨ st = srvHoldover then
        let g := b.tim.good
        let b := enterAcquire c (ofSigned 32 o) b
        { b with tim := { b.tim with good := g } }
      else b

/-- A set of the PTP clock (R48): ignored with WIGN for more than 999,999,999 ns; in ACQUIRE and LOCKED it enters
ACQUIRE. -/
def ptpSet (c : Clk) (b : Block) : Block :=
  let ns := b.get F.TIM_SET_NS_NS
  if 999999999 < ns then b.evt F.TIM_EVT_WIGN
  else
    let sec := b.get2 F.TIM_SET_SEC_LO_SEC_LO F.TIM_SET_SEC_HI_SEC_HI
    let b := ptpStep c (((sec * 1000000000 + ns) * nsTick : Nat) : Int) b
    let st := b.get F.TIM_STAT_SRV
    if st = srvAcquire ∨ st = srvLocked then enterAcquire c 0 b else b

/-- A write of TIM_CTL (R58, R60). -/
def servoCtl (b : Block) : Block :=
  if !b.on F.TIM_CTL_SRV_EN then enterFree b
  else if b.on F.TIM_CTL_HOLD then enterHoldover b
  else b

/-- TIM_MASTER.NEW (R59): a new acquisition in ACQUIRE and LOCKED, otherwise WIGN. -/
def masterChange (c : Clk) (b : Block) : Block :=
  let st := b.get F.TIM_STAT_SRV
  if st = srvAcquire ∨ st = srvLocked then
    (enterAcquire c 0 b).record 0x0404 3 (b.get F.TIM_RATE_RATE) (b.get F.TIM_SRV_INTEG_INTEG)
  else b.evt F.TIM_EVT_WIGN

/-- HOLD_MS of steady time without an update in ACQUIRE or LOCKED (R58). -/
def holdoverTimeout (c : Clk) (b : Block) : Block :=
  let st := b.get F.TIM_STAT_SRV
  if (st = srvAcquire ∨ st = srvLocked) ∧ b.tim.since + b.get F.TIM_SRV_HOLD_HOLD_MS * msTick ≤ c.steady then
    enterHoldover b
  else b

/-- HOLDOVER_TIMEOUT (R58). -/
def execHoldoverTimeout (dt : Nat) (s : State) : Host.Outcome State Fault Refusal :=
  s.run dt fun c _ b => holdoverTimeout c b

end Sys2Proof.Machine
end

