-- ==== Sys2Proof/Machine/Raster.lean ====
section
/-! DEFINITION. Head rasters: their format, their timing on the clocks, start, stop, slew and re-lock (R63-R71). -/

namespace Sys2Proof.Machine

open Sys2Proof

def Block.ras (b : Block) (h : Nat) : Raster := tget {} b.tim.rasters h
def Block.setRas (b : Block) (h : Nat) (r : Raster) : Block :=
  { b with tim := { b.tim with rasters := tput {} b.tim.rasters h r } }

/-- The format of a head (R64). -/
structure HeadFmt where
  num : Nat
  den : Nat
  total : Nat
  act : Nat
  vfp : Nat
  vsy : Nat
  ofs : Int

/-- The format written for a head. -/
def Block.fmt (b : Block) (h : Nat) : HeadFmt where
  num := b.get F.TIM_HEAD_RATE_NUM h
  den := b.get F.TIM_HEAD_RATE_DEN h
  total := b.get F.TIM_HEAD_VLINES_TOTAL h
  act := b.get F.TIM_HEAD_VLINES_ACT h
  vfp := b.get F.TIM_HEAD_VBLANK_VFP h
  vsy := b.get F.TIM_HEAD_VBLANK_VSY h
  ofs := b.geti F.TIM_HEAD_ALIGN_OFS h

/-- The format keeps R64. -/
def HeadFmt.ok (f : HeadFmt) : Bool :=
  1 ≤ f.num && 1 ≤ f.den && f.num ≤ 60 * f.den && 1 ≤ f.vfp && 1 ≤ f.vsy && f.act + f.vfp + f.vsy + 1 ≤ f.total &&
    f.act ≤ 2160

/-- The length of a region: 0 ACT, 1 VFP, 2 VSY, 3 VBP (R63, R64). -/
def HeadFmt.region (f : HeadFmt) (r : Nat) : Nat :=
  if r = 0 then f.act else if r = 1 then f.vfp else if r = 2 then f.vsy else f.total - f.act - f.vfp - f.vsy

/-- The line of the frame at which a region starts, counted from ACT 0. -/
def HeadFmt.regionStart (f : HeadFmt) (r : Nat) : Nat :=
  if r = 0 then 0 else if r = 1 then f.act else if r = 2 then f.act + f.vfp else f.act + f.vfp + f.vsy

/-- The region and the index in it of a line of the frame. -/
def HeadFmt.position (f : HeadFmt) (n : Nat) : Nat × Nat :=
  if n < f.act then (0, n) else if n < f.act + f.vfp then (1, n - f.act)
  else if n < f.act + f.vfp + f.vsy then (2, n - f.act - f.vfp) else (3, n - f.act - f.vfp - f.vsy)

/-- The bands of a head: ceil(ACT / 16) (R73). -/
def HeadFmt.bands (f : HeadFmt) : Nat := (f.act + 15) / 16

/-- The nominal line period in ns, rounded down. -/
def HeadFmt.lineNs (f : HeadFmt) : Nat := f.den * 1000000000 / (f.num * f.total)

/-- A(n) + OFS line periods, times NUM × TOTAL, in ticks of the PTP clock (R66): the exact instant without a
fraction. -/
def HeadFmt.targetScaled (f : HeadFmt) (n : Nat) : Int := f.den * ((n * f.total : Nat) + f.ofs) * (sTick : Int)

/-- The PTP clock has reached A(n) + OFS line periods. -/
def HeadFmt.reached (f : HeadFmt) (c : Clk) (n : Nat) : Bool :=
  f.targetScaled n ≤ ((c.ptp * (f.num * f.total) : Nat) : Int)

/-- The smallest index n of 0 or more with A(n) + OFS line periods at or after PTP time `p` (R66, R67, R71). -/
def HeadFmt.nextIndex (f : HeadFmt) (p : Nat) : Nat :=
  let x : Int := ((p * (f.num * f.total) : Nat) : Int) - f.den * f.ofs * (sTick : Int)
  let d : Int := ((f.total * f.den * sTick : Nat) : Int)
  (-((-x) / d)).toNat

/-- The phase error e in 1/256 ln, rounded toward minus infinity (R69). -/
def HeadFmt.phase (f : HeadFmt) (c : Clk) (n : Nat) : Int :=
  (((c.ptp * (f.num * f.total) : Nat) : Int) - f.targetScaled n) * 256 / ((f.den * sTick : Nat) : Int)

/-- The frame under way has lasted `k` of its `total` lines or more at steady time `t`: its length is TOTAL line
periods and the slew (R70). -/
def lineReached (f : HeadFmt) (r : Raster) (t : Tick) (k : Nat) : Bool :=
  ((k : Int) * f.den * sTick * (256 * f.total + r.slew)) ≤
    (((t - r.act0) * f.num * f.total * 256 * f.total : Nat) : Int)

/-- The line of the frame at steady time `t`, counted from ACT 0. -/
def lineAt (f : HeadFmt) (r : Raster) (t : Tick) : Nat :=
  min (f.total - 1)
    ((((t - r.act0) * f.num * f.total * 256 * f.total : Nat) : Int) /
      ((f.den * sTick : Nat) * (256 * f.total + r.slew) : Int)).toNat

/-- A head whose raster runs lines. -/
def Block.headRuns (b : Block) (h : Nat) : Bool := (b.ras h).phase == .running

/-- A calendar entry's position and target are legal (R75, R83). -/
def calTargetOk (t : Nat) : Bool :=
  t == 0x05 || t == 0x06 || t == 0x14 || (0x20 ≤ t && t ≤ 0x24) || t == 0x30 || t == 0x31 ||
    (0xF0 ≤ t && t ≤ 0xF3) || t == 0xF8

def calPosOk (b : Block) (e : Nat) : Bool :=
  b.get F.TIM_CAL_POS_LINE e < (b.fmt (b.get F.TIM_CAL_POS_HEAD e)).region (b.get F.TIM_CAL_POS_REGION e)

/-- Check an entry (R75, R77): one that fails is disabled, flagged and recorded. R75 does not say whether the record's
TIM_CAL_ACT shows EN as applied or as cleared: DESIGN CHOICE, as applied (log 75). -/
def calCheck (e : Nat) (b : Block) : Block :=
  if calPosOk b e && calTargetOk (b.get F.TIM_CAL_ACT_TARGET e) then b
  else
    ((b.flag F.TIM_CAL_ACT_EN false e).evt F.TIM_EVT_CAL_ERR).record 0x0407 2 e
      (b.reg (F.TIM_CAL_POS_HEAD.at e)).toNat (b.reg (F.TIM_CAL_ACT_EN.at e)).toNat

/-- Apply a calendar entry (R74-R76). -/
def calApply (c : Clk) (e : Nat) (b : Block) : Block :=
  calCheck e { b with tim := { b.tim with cal := tput {} b.tim.cal e { applied := some c.steady } } }

/-- The applied calendar entries of a head are checked again when it starts (R77). -/
def calCheckHead (h : Nat) (b : Block) : Block :=
  (List.range 256).foldl (fun b e =>
    if (tget {} b.tim.cal e).applied.isSome && b.get F.TIM_CAL_POS_HEAD e == h then calCheck e b else b) b

/-- TIM_HEAD_CTL.EN written 1 (R64, R65, R67). -/
def headEnable (c : Clk) (h : Nat) (b : Block) : Block :=
  let r := b.ras h
  if r.phase ≠ .stopped then b.setRas h { r with stopping := false }
  else
    let f := b.fmt h
    if !f.ok then
      ((b.flag F.TIM_HEAD_CTL_EN false h).evt F.TIM_EVT_FMT_ERR).record 0x0408 3 h
        (b.reg (F.TIM_HEAD_VLINES_ACT.at h)).toNat (b.reg (F.TIM_HEAD_VBLANK_VFP.at h)).toNat
        (b.reg (F.TIM_HEAD_RATE_NUM.at h)).toNat
    else
      let n0 := f.nextIndex (c.ptp + 200 * usTick)
      let b := b.setRas h { phase := .idle, target := n0, since := c.steady }
      (b.flag F.TIM_HEAD_STAT_RUN true h).flag F.TIM_HEAD_STAT_WAIT true h

/-- The head has stopped: its status reports it (R18, R67). -/
def headStopped (h : Nat) (b : Block) : Block :=
  let b := b.setRas h {}
  (((b.flag F.TIM_HEAD_STAT_RUN false h).flag F.TIM_HEAD_STAT_WAIT false h).flag F.TIM_HEAD_STAT_RELOCK false h).flag
    F.TIM_HEAD_STAT_SLEW false h

/-- TIM_HEAD_CTL.EN written 0: the head stops at the end of the current frame; one that is in no frame, at once. -/
def headDisable (h : Nat) (b : Block) : Block :=
  let r := b.ras h
  match r.phase with
  | .stopped => b
  | .running => b.setRas h { r with stopping := true }
  | .idle => headStopped h b
  | .hold => headStopped h b

/-- ACT 0 of a frame (R68-R71): the counts as given, the phase error measured, the slew or the re-lock decided. Where e
does not fit TIM_HEAD_PHASE's 32 signed bits the spec is silent: DESIGN CHOICE, the low 32 bits (log 75). -/
def rasterAct0 (c : Clk) (h frame aidx : Nat) (repeated : Bool) (b : Block) : Block :=
  let f := b.fmt h
  let e := f.phase c aidx
  let re := (256 * f.total : Nat) < e.natAbs
  let slew : Int := if re then 0 else if 0 < e then -(min e 32) else min (-e) 32
  let b := b.put2 F.TIM_HEAD_FRAME_LO_FRAME_LO F.TIM_HEAD_FRAME_HI_FRAME_HI frame h
  let b := b.put2 F.TIM_HEAD_AIDX_LO_AIDX_LO F.TIM_HEAD_AIDX_HI_AIDX_HI aidx h
  let b := b.put F.TIM_HEAD_PHASE_E (ofSigned 32 e) h
  let b := b.flag F.TIM_HEAD_STAT_SLEW (e ≠ 0) h
  let b := b.flag F.TIM_HEAD_STAT_WAIT false h
  let b := b.flag F.TIM_HEAD_STAT_RELOCK (re || repeated) h
  b.setRas h { b.ras h with
    phase := .running, act0 := c.steady, prev := (b.ras h).act0, slew := slew, relock := re, repeated := repeated, eLock := e, ticks := 0, commits := [],
    poured := false }

/-- The frame count and the alignment index of a head. -/
def Block.frameOf (b : Block) (h : Nat) : Nat := b.get2 F.TIM_HEAD_FRAME_LO_FRAME_LO F.TIM_HEAD_FRAME_HI_FRAME_HI h
def Block.aidxOf (b : Block) (h : Nat) : Nat := b.get2 F.TIM_HEAD_AIDX_LO_AIDX_LO F.TIM_HEAD_AIDX_HI_AIDX_HI h

/-- The end of the completing frame of a re-lock: the head takes its new index and holds (R71 steps 2 and 3). -/
def relockHold (c : Clk) (h : Nat) (b : Block) : Block :=
  let n := (b.fmt h).nextIndex c.ptp
  (b.setRas h { b.ras h with phase := .hold, target := n, holdFrom := c.steady }).flag F.TIM_HEAD_STAT_WAIT true h

/-- The end of a re-lock hold (R71 steps 4 and 5, code 0x0406). -/
def relockEnd (c : Clk) (h : Nat) (b : Block) : Block :=
  let r := b.ras h
  let fr := b.frameOf h + 1
  let b := (b.evt F.TIM_EVT_RELOCK).record 0x0406 5 h (ofSigned 32 r.eLock) fr ((c.steady - r.holdFrom) / nsTick)
  rasterAct0 c h fr r.target true b

/-- TIM_HEAD_STAT's REGION and LINE at a read: 3 and 0xFFF while WAIT is 1. -/
def headPosition (c : Clk) (b : Block) (h : Nat) : Nat × Nat :=
  let r := b.ras h
  match r.phase with
  | .stopped => (0, 0)
  | .running => (b.fmt h).position (lineAt (b.fmt h) r c.steady)
  | .idle => (3, 0xFFF)
  | .hold => (3, 0xFFF)

end Sys2Proof.Machine
end

