-- ==== Sys2Proof/Machine/Freeze.lean ====
section
/-! DEFINITION. Freeze detection: fingerprints, change times and the FROZEN and SLOW flags (R211-R214). -/

namespace Sys2Proof.Machine

open Sys2Proof

def Block.frzOf (b : Block) (s : Nat) : Frz := tget {} b.frz s
def Block.setFrz (b : Block) (s : Nat) (f : Frz) : Block := { b with frz := tput {} b.frz s f }

/-- t − t_chg exceeds `ms`, at steady time `t` in ns. -/
def pastMs (t : Nat) (tchg : Int) (ms : Nat) : Bool := tchg + (ms * 1000000 : Nat) < t

/-- Set FROZEN and SLOW as the times stand at steady time `t` in ns (R213, R214, code 0x2401). -/
def freezeEval (t s : Nat) (b : Block) : Block :=
  let b := b.setFrz s { b.frzOf s with seen := t }
  let f := b.frzOf s
  let lim := b.get F.LAD_SRC_CHANGE_FREEZE s
  let chg := b.get F.LAD_SRC_CHANGE_CHG_INT s
  let b := b.flag F.FET_FRZ_STAT_SLOW (chg ≠ 0 && pastMs t f.tchg chg) s
  if pastMs t f.tchg lim && !b.on F.FET_FRZ_STAT_FROZEN s then
    let b := b.setFrz s { f with frozenAt := t }
    ((b.flag F.FET_FRZ_STAT_FROZEN true s).evt F.FET_EVT_FROZEN).record 0x2401 4 s lim (b.get F.FET_FRZ_FP_FP s)
      f.readies
  else b

/-- FROZEN falls, if it is set (code 0x2402), `fp` being the new fingerprint. -/
def freezeClear (c : Clk) (s : Nat) (fp : Word) (b : Block) : Block :=
  if b.on F.FET_FRZ_STAT_FROZEN s then
    (b.flag F.FET_FRZ_STAT_FROZEN false s).record 0x2402 2 s ((c.ns64 - (b.frzOf s).frozenAt) / 1000000) fp.toNat
  else b

/-- End a source's tracking: its source is disabled or its FREEZE is written 0 (R213). -/
def freezeStop (c : Clk) (s : Nat) (b : Block) : Block :=
  let b := freezeClear c s (BitVec.ofNat 32 (b.get F.FET_FRZ_FP_FP s)) b
  ((b.flag F.FET_FRZ_STAT_TRACK false s).flag F.FET_FRZ_STAT_SLOW false s).setFrz s {}

/-- A READY frame of a source (R213). -/
def freezeReady (c : Clk) (s : Nat) (fp : Word) (ageBase : Int) (b : Block) : Block :=
  if b.get F.LAD_SRC_CHANGE_FREEZE s = 0 then b
  else
    let b :=
      if !b.on F.FET_FRZ_STAT_TRACK s then
        ((b.flag F.FET_FRZ_STAT_TRACK true s).put F.FET_FRZ_FP_FP fp.toNat s).setFrz s { tchg := ageBase }
      else if b.get F.FET_FRZ_FP_FP s ≠ fp.toNat then
        ((freezeClear c s fp b).put F.FET_FRZ_FP_FP fp.toNat s).setFrz s { tchg := ageBase }
      else b.setFrz s { b.frzOf s with readies := (b.frzOf s).readies + 1 }
    freezeEval c.ns64 s b

/-- A whole ms of steady time: every tracked source is evaluated at the last whole ms, but for one whose READY frame has been
evaluated since (R213, R214). -/
def freezeTick (c : Clk) (b : Block) : Block :=
  let t := c.ns64 / 1000000 * 1000000
  (List.range 384).foldl (fun b s =>
    if b.on F.LAD_SRC_STAT_RUN s && b.on F.FET_FRZ_STAT_TRACK s then
      (if b.get F.LAD_SRC_CHANGE_FREEZE s = 0 then freezeStop c s b
       else if (b.frzOf s).seen ≤ t then freezeEval t s b else b)
    else b) b

/-- SINCE of FET_FRZ_STAT at a read: t − t_chg in ms, saturating. -/
def freezeSince (c : Clk) (b : Block) (s : Nat) : Nat :=
  if b.on F.FET_FRZ_STAT_TRACK s then min 65535 ((c.ns64 - (b.frzOf s).tchg) / 1000000).toNat else 0

/-- FREEZE_TICK (R213). -/
def execFreezeTick (dt : Nat) (s : State) : Host.Outcome State Fault Refusal :=
  s.run dt fun c _ b => freezeTick c b

end Sys2Proof.Machine
end

