-- ==== Sys2Proof/Machine/Link.lean ====
section
/-! DEFINITION. Sending on a Sprue link: sequence numbers, replay and its space, priorities, routes on the peer ring
(R329, R330, R337-R341). -/

namespace Sys2Proof.Machine

open Sys2Proof

def Block.spr (b : Block) (k : Nat) : SprLink := tget {} b.sprs k
def Block.setSpr (b : Block) (k : Nat) (x : SprLink) : Block := { b with sprs := tput {} b.sprs k x }

/-- States of a link (SPR_K_STAT.STATE). -/
def sprDown : Nat := 0
def sprBlind : Nat := 1
def sprNeg : Nat := 2
def sprStep : Nat := 3
def sprUpState : Nat := 4
def sprRefused : Nat := 5

def Block.sprState (b : Block) (k : Nat) : Nat := b.get F.SPR_K_STAT_STATE k
def Block.sprUp (b : Block) (k : Nat) : Bool := b.sprState k = sprUpState

/-- A link runs at a rate that takes time-stamps (R51, table Lane rates). -/
def linkStamps (b : Block) (k : Nat) : Bool :=
  let r := b.get F.SPR_K_STAT_RATE k
  r = 2 || r = 4 || r = 5

/-- The place of a channel in the order of sending (table Sprue channels): the lower goes first. -/
def chanPriority (chan : Nat) : Nat :=
  if chan ≤ 5 then chan else if chan = 8 then 0 else if chan = 10 || chan = 11 then 1 else 2

/-- `f` goes before `g`: its channel has the higher priority, or it is in transit on the same channel (R340). -/
def SprFrame.before (f g : SprFrame) : Bool :=
  chanPriority f.chan < chanPriority g.chan || (f.chan = g.chan && f.transit && !g.transit)

/-- Queue a frame behind those that go before it or came before it. -/
def queueFrame (f : SprFrame) : List SprFrame → List SprFrame
  | [] => [f]
  | g :: t => if f.before g then f :: g :: t else g :: queueFrame f t

/-- The payload octets of a frame: at most 9216 (R337). -/
def bodyBytes : SprBody → List Byte
  | .octets l => l
  | x => (Config.bodyBytes x).take 9216

def bodySize (x : SprBody) : Nat := (bodyBytes x).length

/-- The octets of a frame's data blocks (R337): header, payload, CRC-32C over both, and zeros up to whole blocks of 8. The
multi-byte fields stand lowest byte first (log 84). -/
def frameOctets (f : SprFrame) (resent : Bool) (ack : Nat) : List Byte :=
  let l := bodyBytes f.body
  let l := [BitVec.ofNat 8 f.chan, BitVec.ofNat 8 (b2n resent)] ++ leBytes 2 l.length ++ leBytes 2 f.seq ++ leBytes 2 ack ++ l
  let l := l ++ leBytes 4 (crc32c l).toNat
  l ++ List.replicate ((l.length + 7) / 8 * 8 - l.length) 0

/-- A sequenced frame leaves the part (R337). -/
def Block.sendFrame (b : Block) (k : Nat) (f : SprFrame) (resent : Bool) (ack : Nat) : Block :=
  b.emit (.sprue k f resent ack (frameOctets f resent ack))

/-- The unacknowledged octets that a sender holds: 256 KiB (R338). -/
def replaySpace : Nat := 262144

def heldOctets (l : List SprFrame) : Nat := (l.map fun f => bodySize f.body).sum

/-- The cumulative acknowledgement: the last number received in order (R337). -/
def SprLink.ack (x : SprLink) : Nat := (x.nextRx + 65535) % 65536

/-- The replay space has room for `n` more octets; an empty one has room for any frame. -/
def roomFor (l : List SprFrame) (n : Nat) : Bool := l.isEmpty || heldOctets l + n ≤ replaySpace

/-- Send the frames that wait while the replay space has room (R338). -/
def sprPump (k : Nat) : Nat → Block → Block
  | 0, b => b
  | n + 1, b =>
    let x := b.spr k
    match x.waiting with
    | [] => b
    | f :: t =>
      if !roomFor x.unacked (bodySize f.body) then b
      else
        let f := { f with seq := x.nextTx }
        let at_ := if x.unacked.isEmpty then b.now else x.ackAt
        let b := b.setSpr k { x with
          waiting := t, unacked := x.unacked ++ [f], nextTx := (x.nextTx + 1) % 65536, ackAt := at_ }
        sprPump k n (b.sendFrame k f false x.ack)

/-- Send a frame on a link that is up; on a link that is not, nothing leaves. -/
def sprSend (k : Nat) (f : SprFrame) (b : Block) : Block :=
  if !b.sprUp k then b
  else
    let x := b.spr k
    sprPump k (x.waiting.length + 1) (b.setSpr k { x with waiting := queueFrame f x.waiting })

/-- The class of a pair-link message (table Pair-link messages), which is its channel (R282). -/
def msgClass : PairMsg → Nat
  | .health _ | .switchTo _ _ | .heat _ _ _ => 0
  | .bandSeal _ _ _ _ | .vote _ _ _ _ _ | .loss _ _ _ _ | .ready _ _ _ => 1
  | .journal _ _ _ _ | .dim _ _ _ => 2
  | .repairRequest _ _ | .repairAnswer _ _ _ => 3
  | .copy _ | .copyEnd _ | .desk _ => 4

/-- Send a message to the partner (R282, R340). -/
def Block.tell (b : Block) (m : PairMsg) : Block := sprSend 0 { chan := msgClass m, body := .pair m } b

/-! ## The peer ring (R329, R330, R341) -/

def Block.ringN (b : Block) : Nat := b.get F.SPR_CFG_RING_N
def Block.pos (b : Block) : Nat := b.get F.SYS_STRAP_POS

/-- A link is used at this position of a ring of n parts (R330); the pair link always is. -/
def linkUsed (b : Block) (k : Nat) : Bool :=
  let n := b.ringN
  k = 0 || (2 < n && n ≤ 4) || (n = 2 && ((b.pos = 0 && k = 1) || (b.pos = 1 && k = 2)))

/-- The link toward position `d` (R341). -/
def routeTo (b : Block) (d : Nat) : Nat :=
  let n := b.ringN
  if n = 2 then (if b.pos = 0 then 1 else 2)
  else if (d + n - b.pos) % n ≤ n / 2 then 1 else 2

/-- The destinations of a mask that a link takes. -/
def destsOn (b : Block) (k mask : Nat) : Nat :=
  ((List.range 4).filter fun d => bit mask d && d < b.ringN && d ≠ b.pos && routeTo b d = k).foldl (fun m d => m + 2 ^ d) 0

/-- The content of a frame with its destination mask: a peer slice carries it in byte 1, bits [7:4] (R342). -/
def withDest (chan mask : Nat) : SprBody → SprBody
  | .octets l => if chan = 9 then .octets (l.set 1 (BitVec.ofNat 8 ((l.getD 1 0).toNat % 16 + 16 * mask))) else .octets l
  | x => x

/-- Send a frame of the part's own to the positions of a mask: one copy on each link that some destination needs
(R341). -/
def ringSend (chan mask : Nat) (body : SprBody) (b : Block) : Block :=
  [1, 2].foldl (fun b k =>
    let m := destsOn b k mask
    if m = 0 then b else sprSend k { chan := chan, dest := m, body := withDest chan m body } b) b

end Sys2Proof.Machine
end

