-- ==== Sys2Proof/Machine/Pool.lean ====
section
/-! DEFINITION. Frame-store pools and rings: buffers and their states (R113-R116), buffer headers, ring entries
(R108-R111), and a frame becoming READY (R107, R114). -/

namespace Sys2Proof.Machine

open Sys2Proof

def Block.src (b : Block) (s : Nat) : SrcSt := tget {} b.lad.srcs s
def Block.setSrc (b : Block) (s : Nat) (x : SrcSt) : Block :=
  { b with lad := { b.lad with srcs := tput {} b.lad.srcs s x } }

/-- The key of a pool's buffer. -/
def bufKey (p i : Nat) : Nat := 16 * p + i

def Block.buf (b : Block) (k : Nat) : PoolBuf := tget {} b.lad.bufs k
def Block.setBuf (b : Block) (k : Nat) (x : PoolBuf) : Block :=
  { b with lad := { b.lad with bufs := tput {} b.lad.bufs k x } }

def Block.bufUsers (b : Block) (k : Nat) : Nat := tget 0 b.lad.users k

/-- One more user of a buffer. -/
def holdBuf (k : Nat) (b : Block) : Block :=
  { b with lad := { b.lad with users := tput 0 b.lad.users k (b.bufUsers k + 1) } }

/-- One user fewer: a HELD buffer without users is FREE (table Buffer states). -/
def releaseBuf (k : Nat) (b : Block) : Block :=
  let n := b.bufUsers k - 1
  let b := { b with lad := { b.lad with users := tput 0 b.lad.users k n } }
  if n = 0 && (b.buf k).state == .held then b.setBuf k {} else b

/-- A buffer that is no longer the newest: HELD while it has a user, FREE otherwise (R114). -/
def retireBuf (k : Nat) (b : Block) : Block :=
  if b.bufUsers k = 0 then b.setBuf k {} else b.setBuf k { b.buf k with state := .held }

/-- The pool of a source and its geometry (R113). -/
def Block.poolOf (b : Block) (s : Nat) : Nat := b.get F.LAD_SRC_CTL_POOL s
def Block.poolCount (b : Block) (p : Nat) : Nat := b.get F.LAD_POOL_GEOM_COUNT p
def Block.poolPitch (b : Block) (p : Nat) : Nat := b.get F.LAD_POOL_CFG_PITCH p
def Block.poolPart (b : Block) (p : Nat) : Nat := b.get F.LAD_POOL_CFG_PART p
def Block.poolBase (b : Block) (p : Nat) : Nat :=
  b.get F.LAD_POOL_BASE_LO_BASE_LO p * 4096 + b.get F.LAD_POOL_BASE_HI_BASE_HI p * 2 ^ 32

/-- The address of a buffer, and of a stored row of it (R113). -/
def Block.bufAddr (b : Block) (p i : Nat) : Nat := b.poolBase p + i * (b.get F.LAD_POOL_GEOM_BUF_SIZE p * 4096)
def Block.rowAddr (b : Block) (p i y : Nat) : Nat := b.bufAddr p i + 4096 + y * b.poolPitch p

def Block.srcWidth (b : Block) (s : Nat) : Nat := b.get F.LAD_SRC_FMT_WIDTH s
def Block.srcHeight (b : Block) (s : Nat) : Nat := b.get F.LAD_SRC_FMT_HEIGHT s

/-- The buffers of the pool that are FREE. -/
def Block.freeBufs (b : Block) (p : Nat) : List Nat :=
  (List.range (b.poolCount p)).filter fun i => (b.buf (bufKey p i)).state == .free

/-- The domain of the Ladles is on (R33). -/
def ladOn (b : Block) : Bool := b.domOn 31

/-- The FREE buffer that a frame takes. The spec does not say which where several are: a free value (log 3), which
`Block.tookFree` counts. -/
def Block.freeBuf (b : Block) (p : Nat) : Option Nat :=
  match b.freeBufs p with
  | [] => none
  | [i] => some i
  | l => l[(Config.freeValue b.free).toNat % l.length]?

/-- The choice of a FREE buffer has been made. -/
def Block.tookFree (b : Block) : Block := b.fresh.2

/-- How many buffers of the pool are FREE. -/
def Block.freeCount (b : Block) (p : Nat) : Nat := (b.freeBufs p).length

/-- The READY buffer of a pool. -/
def Block.readyBuf (b : Block) (p : Nat) : Option Nat :=
  (List.range 16).find? fun i => (b.buf (bufKey p i)).state == .ready

/-- The header of a buffer as stored in DRAM (table Buffer header). -/
def PoolBuf.header (x : PoolBuf) : List Byte :=
  leBytes 8 (ofSigned 64 x.ageBase) ++ leBytes 8 x.arrival ++ leBytes 4 x.rtpts ++ leBytes 4 x.frame ++ leBytes 1 x.cls ++
    leBytes 1 x.flags ++ leBytes 2 x.rows ++ leBytes 4 x.fprint.toNat ++ List.replicate 32 0 ++ leBytes 32 x.rowmark ++
    List.replicate 4000 0

/-- The age of a frame at steady time `t` in ns: whole ms, rounded up, saturating (R87). -/
def ageMs (t : Nat) (ageBase : Int) : Nat := min 65535 (((t : Int) - ageBase + 999999) / 1000000).toNat

/-- The pair link is up and the unit is one of a pair (R283, R278). -/
def Block.paired (b : Block) : Bool := b.on F.PAIR_CFG_MODE && b.on F.PAIR_STAT_LINK

/-- The newest buffer of a pool gives way to a newer one: a commit of the same cycle may still take it (R115). -/
def shedBuf (c : Clk) (p j : Nat) (b : Block) : Block :=
  let x := b.buf (bufKey p j)
  if x.readyAt = c.steady then b
  else { b with lad := { b.lad with shed := sparseInsert p { idx := j, at_ := c.steady, buf := x } b.lad.shed } }

/-- A frame in buffer `i` of pool `p` becomes READY for source `s` (R107, R114): it is the newest, the one before is
HELD or FREE, the source is acquired if the frame is young enough, its freeze tracking takes the fingerprint, and the
partner is told when (R290). `awaits` says whether the partner's READY message counts for it. -/
def makeReady (c : Clk) (s p i : Nat) (x : PoolBuf) (awaits : Bool) (b : Block) : Block :=
  let b := match b.readyBuf p with
    | some j => if j = i then b else retireBuf (bufKey p j) (shedBuf c p j b)
    | none => b
  let told := (b.peerReadys.find? fun q => q.1 = s && q.2.1 = BitVec.ofNat 32 x.rtpts).map (·.2.2)
  let x := { x with
    state := .ready, src := s, readyAt := c.steady, readyPtp := c.ptp, awaits := awaits && told.isNone
    peerPtp := if awaits then told else none }
  let b := { b with peerReadys := b.peerReadys.filter fun q => !(q.1 = s && q.2.1 = BitVec.ofNat 32 x.rtpts) }
  let b := (b.setBuf (bufKey p i) x).store (b.bufAddr p i) x.header
  let b := (b.put F.LAD_SRC_STAT_NEWEST i s).put F.LAD_SRC_STAT_CLASS x.cls s
  let b := b.put2 F.LAD_SRC_AB_LO_AB_LO F.LAD_SRC_AB_HI_AB_HI (ofSigned 64 x.ageBase) s
  let b := b.flag F.LAD_SRC_STAT_CAPT (bit x.flags 0) s
  let age := ageMs c.ns64 x.ageBase
  let b :=
    if !b.on F.LAD_SRC_STAT_ACQ s && age ≤ b.get F.LAD_SRC_MAXAGE_MAXAGE s then
      (b.flag F.LAD_SRC_STAT_ACQ true s).record 0x1801 2 s age x.frame
    else b
  let b := freezeReady c s x.fprint x.ageBase b
  let b := { b with readied := b.readied ++ [(s, p, i)] }
  let b := b.setSrc s { b.src s with lastReady := c.steady, lateSeen := false, lastFrame := x.frame }
  if awaits then
    b.tell (.ready (Fin.ofNat 384 s) (BitVec.ofNat 32 x.rtpts) c.ptp)
  else b

/-! ## Fingerprints (R212) -/

/-- The must-change window of a source, or its whole frame: X, Y, width, height (R89). -/
def Block.mcWindow (b : Block) (s : Nat) : Nat × Nat × Nat × Nat :=
  let w := b.get F.LAD_SRC_MCW1_W s
  if w = 0 then (0, 0, b.srcWidth s, b.srcHeight s)
  else (b.get F.LAD_SRC_MCW0_X s, b.get F.LAD_SRC_MCW0_Y s, w, b.get F.LAD_SRC_MCW1_H s)

/-- The fingerprint of a 4:4:4 frame given as rows of stored bytes. -/
def fingerprint444 (b : Block) (s : Nat) (row : Nat → List Byte) : Word :=
  let (x, y, w, h) := b.mcWindow s
  ~~~ (List.range h).foldl (fun r i => crcBytes r (((row (y + i)).drop (6 * x)).take (6 * w))) 0xFFFFFFFF

/-- The fingerprint of a decoded frame given as rows of stored bytes (R126, R212). -/
def fingerprintDec (b : Block) (s : Nat) (row : Nat → List Byte) : Word :=
  let (x, y, w, h) := b.mcWindow s
  let width := b.srcWidth s
  ~~~ (List.range h).foldl (fun r i =>
    let l := row (y + i)
    let luma := (l.drop (2 * x)).take (2 * w)
    let chroma := (l.drop (2 * width + 2 * (x / 2))).take (2 * ((x + w - 1) / 2 - x / 2 + 1))
    crcBytes (crcBytes r luma) chroma) 0xFFFFFFFF

/-! ## Rings (R108-R112) -/

def Block.ringSize (b : Block) (n : Nat) : Nat := 2 ^ b.get F.LAD_RING_CFG_SIZE_LOG2 n
def Block.ringBase (b : Block) (n : Nat) : Nat :=
  b.get F.LAD_RING_BASE_LO_BASE_LO n * 256 + b.get F.LAD_RING_BASE_HI_BASE_HI n * 2 ^ 32

/-- The bytes of a payload slot: 2, 4 or 9 KiB. -/
def Block.slotBytes (b : Block) (n : Nat) : Nat :=
  let k := b.get F.LAD_RING_CFG_SLOT n
  if k = 0 then 2048 else if k = 1 then 4096 else 9216

/-- The payload slots follow the entries, rounded up to 4 KiB. -/
def Block.slotAddr (b : Block) (n i : Nat) : Nat :=
  (b.ringBase n + 32 * b.ringSize n + 4095) / 4096 * 4096 + i * b.slotBytes n

/-- The fields of a receive entry (table Receive entry). -/
structure RxEntry where
  stamp : Word
  steady : Nat
  gen : Nat
  path : Bool
  marker : Bool
  kind : Nat
  loss : Bool
  seq : Nat
  src : Nat
  buf : Nat
  rtpts : Nat
  frame : Nat

/-- A receive entry with `len` payload bytes, DONE set. -/
def RxEntry.bytes (e : RxEntry) (len : Nat) : List Byte :=
  leBytes 4 e.stamp.toNat ++ leBytes 8 e.steady ++ leBytes 2 len ++
    leBytes 1 (e.gen % 4 + 4 * b2n e.path + 8 * b2n e.marker + 16 * (e.kind % 4) + 64 * b2n e.loss + 128) ++ [0] ++
    leBytes 4 e.seq ++ leBytes 2 (e.src % 512) ++ leBytes 2 e.buf ++ leBytes 4 e.rtpts ++ leBytes 4 e.frame

/-- A packet arrives at a full ring: it is dropped (R109, code 0x1808). R109 does not say where each second of steady time
begins: DESIGN CHOICE, at the ring's last record (log 76). -/
def ringOverflow (c : Clk) (n : Nat) (b : Block) : Block :=
  let b := (b.evt F.LAD_EVT_RING_OVF).inc F.LAD_RING_OVF_OVF n
  b.recordLim c (0x1808 * 256 + n) sTick 0x1808 3 n (b.get F.LAD_RING_HEAD_HEAD n) (b.get F.LAD_RING_TAIL_TAIL n)
    (b.get F.LAD_RING_OVF_OVF n)

/-- Write an entry and its payload at HEAD and advance HEAD (R109). The payload that a slot cannot hold is cut. The
Flask checks both writes as class 5 (R408). Whether it was written, and the index it took. -/
def ringPut (c : Clk) (n : Nat) (e : RxEntry) (payload : List Byte) (b : Block) : Option Nat × Block :=
  if !ladOn b || !b.on F.LAD_RING_CFG_EN n || b.on F.LAD_RING_CFG_DIR n then (none, b)
  else
    let size := b.ringSize n
    let head := b.get F.LAD_RING_HEAD_HEAD n
    if (head + 1) % size = b.get F.LAD_RING_TAIL_TAIL n then (none, ringOverflow c n b)
    else
      let part := b.get F.LAD_RING_PART_PART n
      let data := payload.take (b.slotBytes n)
      let (ok, b) := dramAccess c 5 part (b.ringBase n + 32 * head) 32 true 15 b
      let (ok', b) := if ok && !data.isEmpty then dramAccess c 5 part (b.slotAddr n head) data.length true 14 b else (ok, b)
      if ok && ok' then
        let b := (b.store (b.slotAddr n head) data).store (b.ringBase n + 32 * head) (e.bytes data.length)
        (some head, b.put F.LAD_RING_HEAD_HEAD ((head + 1) % size) n)
      else (none, b)

end Sys2Proof.Machine
end

