-- ==== Sys2Proof/Machine/Ladle.lean ====
section
/-! DEFINITION. The Ladles: the merge of two paths, age bases, placement in pools and rings, completion of frames
(R93-R106, R116-R118, R122, R288, R289). -/

namespace Sys2Proof.Machine

open Sys2Proof

/-! ## The merge (R98-R101) -/

/-- The extended number nearest `hi` whose low `w` bits are `seq` (R99). -/
def extendNear (w hi seq : Nat) : Nat := ((hi : Int) + toSigned w ((seq + 2 ^ w - hi % 2 ^ w) % 2 ^ w)).toNat

/-- The extended number of a source's first packet: far enough above 0 that no number falls below it. -/
def extendFirst (seq : Nat) : Nat := 2 ^ 48 + seq

def Gap.has (g : Gap) (n : Nat) : Bool := g.lo ≤ n && n < g.lo + g.n

/-- The gaps without one number. -/
def gapsWithout (l : List Gap) (n : Nat) : List Gap :=
  l.flatMap fun g =>
    if g.has n then
      ([{ g with n := n - g.lo }, { g with lo := n + 1, n := g.lo + g.n - n - 1 }] : List Gap).filter fun x => 0 < x.n
    else [g]

/-- A source's transport. -/
def Block.transport (b : Block) (s : Nat) : Nat := b.get F.LAD_SRC_CTL_TRANSPORT s
def Block.srcRuns (b : Block) (s : Nat) : Bool := b.on F.LAD_SRC_STAT_RUN s

/-- The type of an RTP payload is one that the Ladle accepts (R93). -/
def payloadOk (tr : Nat) (p : List Byte) : Bool :=
  match p with
  | [] => false
  | x :: _ =>
    if tr = 0 then
      let t := x.toNat % 32
      (1 ≤ t && t ≤ 23) || t == 24 || t == 28
    else x.toNat / 2 % 64 ≤ 49

/-- Insert a number into a rising list. -/
def insertNum (n : Nat) : List Nat → List Nat
  | [] => [n]
  | k :: t => if n < k then n :: k :: t else k :: insertNum n t

/-- A number is lost (R101): counted, and kept for its frame. -/
def loseNumber (s n : Nat) (b : Block) : Block :=
  let x := b.src s
  (b.inc F.LAD_SRC_LOSS_LOST s).setSrc s { x with gaps := gapsWithout x.gaps n, lostNums := insertNum n x.lostNums }

/-- A number whose last wait ended in this cycle is missing again: a packet of the same cycle is accepted (R101). -/
def loseBack (c : Clk) (s n : Nat) (b : Block) : Block :=
  let x := b.src s
  if x.lostAt.1 = c.steady && x.lostAt.2.contains n && x.lostNums.contains n then
    (b.put F.LAD_SRC_LOSS_LOST (b.get F.LAD_SRC_LOSS_LOST s - 1) s).setSrc s { x with
      gaps := { lo := n, n := 1, since := c.steady, repair := true } :: x.gaps
      lostNums := x.lostNums.filter (· ≠ n), lostAt := (c.steady, x.lostAt.2.filter (· ≠ n)) }
  else b

/-! ## Age bases (R105, R106) -/

/-- The PTP time of a count of ticks, in ns. -/
def Clk.ptpNs (c : Clk) : Nat := c.sec * 1000000000 + c.ns

/-- The capture time of a packet in PTP ns: for transport 2 from its RTP timestamp, for transports 0 and 1 through
the last sender report (R106). For the report R106 states no rounding: DESIGN CHOICE, the fraction of its NTP time and the
scaled timestamp difference are each rounded down to whole ns (log 76). -/
def captureNs (c : Clk) (b : Block) (s : Nat) (rtpts : Word) : Option Int :=
  if b.transport s = 2 then
    let count := extendNear 32 (c.ptpNs * 90000 / 1000000000 + 2 ^ 40) (rtpts.toNat)
    some (((count : Int) - 2 ^ 40) * 1000000000 / 90000)
  else
    match (b.src s).report with
    | none => none
    | some (ntp, rtp) =>
      let utc : Int := ((ntp / 2 ^ 32 : Nat) : Int) - 2208988800 + b.get F.LAD_UTC_TAI_UTC
      let base : Int := utc * 1000000000 + ((ntp % 2 ^ 32 * 1000000000 / 2 ^ 32 : Nat) : Int)
      some (base + toSigned 32 ((rtpts.toNat + 2 ^ 32 - rtp) % 2 ^ 32) * 1000000000 / 90000)

/-- The transit credit: between 0 and the allowance; the whole allowance while the servo is not LOCKED or the capture
time is unknown (R105, R62). -/
def transitCredit (allowance : Nat) (locked : Bool) (transit : Option Int) : Nat :=
  match transit with
  | none => allowance
  | some t => if !locked then allowance else (max 0 (min (allowance : Int) t)).toNat

/-- The transit allowance of a source in ns. -/
def Block.allowance (b : Block) (s : Nat) : Nat := b.get F.LAD_SRC_POLICY_TRANSIT s * 1000

/-- The servo is LOCKED. -/
def Block.locked (b : Block) : Bool := b.get F.TIM_STAT_SRV == srvLocked

/-- The age base of a frame whose first accepted packet arrives now (R105), and whether its capture time is known. -/
def ageBaseOf (c : Clk) (b : Block) (s : Nat) (rtpts : Word) : Int × Bool :=
  let cap := captureNs c b s rtpts
  let credit := transitCredit (b.allowance s) b.locked (cap.map fun t => (c.ptpNs : Int) - t)
  ((c.ns64 : Int) - credit, cap.isSome)

/-- The descriptor stamp of this instant (R53): a command's instant is the stamp point at the ball (R49, R50, log 77). -/
def Clk.stamp (c : Clk) : Word := BitVec.ofNat 32 (c.sec % 4 * 2 ^ 30 + c.ns)

/-! ## Frames -/

/-- A frame is dropped: recorded, and for want of a buffer counted (R116, R117, code 0x1805). R117 does not say that a
Flask refusal advances DROPPED: DESIGN CHOICE, it does not (log 76). -/
def frameDropped (s number cause : Nat) (b : Block) : Block :=
  let b := if cause = 0 then (b.evt F.LAD_EVT_STARVE).inc F.LAD_SRC_LOSS_DROPPED s else b.evt F.LAD_EVT_FLASK
  b.record 0x1805 4 s number (b.freeCount (b.poolOf s)) cause

/-- Replace the frame with a number. -/
def setFrame (l : List OpenFrame) (f : OpenFrame) : List OpenFrame :=
  l.map fun g => if g.number = f.number then f else g

/-- Insert a frame by its first number. -/
def insertFrame (f : OpenFrame) : List OpenFrame → List OpenFrame
  | [] => [f]
  | g :: t => if f.first < g.first then f :: g :: t else g :: insertFrame f t

/-- Start a frame at its first accepted packet (R103, R105, R116): its buffer is FILLING, or it is dropped whole. -/
def startFrame (c : Clk) (s ext : Nat) (p : SrcPacket) (b : Block) : Block :=
  let x := b.src s
  let (age, known) := ageBaseOf c b s p.rtpts
  let pool := b.poolOf s
  let buf := if b.transport s = 2 then b.freeBuf pool else none
  let starved := b.transport s = 2 && buf.isNone
  let first := match x.nextFirst with
    | some n => if n ≤ ext && x.frames.all (fun g => g.complete.isSome || ext < g.first) then n else ext
    | none => ext
  let f : OpenFrame := {
    number := x.frameNo, rtpts := p.rtpts, first := first, last := none, seq := ext, path := p.path, ageBase := age, arrival := c.ns64,
    stamp := c.stamp, gen := b.get F.TIM_STAT_STEP_GEN, known := known, buf := buf, dropped := starved,
    lost := [], complete := none, awaits := false, repaired := false }
  let ended := x.frames.map fun g => if g.last.isNone && g.first < ext then { g with last := some (ext - 1) } else g
  let b := b.setSrc s { x with frames := insertFrame f ended, frameNo := (x.frameNo + 1) % 2 ^ 32 }
  let b := b.flag F.LAD_SRC_STAT_CAPT known s
  match buf with
  | some i => b.tookFree.setBuf (bufKey pool i) { state := .filling, src := s, frame := f.number }
  | none => if starved then frameDropped s f.number 0 b else b

/-- A number with an RTP timestamp belongs to a frame: it does not lie behind the frame's end (R93). -/
def OpenFrame.has (g : OpenFrame) (rtpts : Word) (ext : Nat) : Bool := g.rtpts = rtpts && g.last.all (ext ≤ ·)

/-- The frame of a packet: an incomplete one with its RTP timestamp that has not ended before it. -/
def frameOfPacket (l : List OpenFrame) (p : SrcPacket) (ext : Nat) : Option OpenFrame :=
  l.find? fun g => g.has p.rtpts ext && g.complete.isNone

/-- The Flask refuses a pool write: the frame is abandoned and its buffer FREE again (R117). -/
def abandonFrame (s : Nat) (f : OpenFrame) (b : Block) : Block :=
  let b := match f.buf with
    | some i => b.setBuf (bufKey (b.poolOf s) i) {}
    | none => b
  let x := b.src s
  let b := b.setSrc s { x with frames := setFrame x.frames { f with buf := none, dropped := true } }
  frameDropped s f.number 1 b

/-- The Flask's answer to the pool writes of one packet (R117). -/
def poolWrites (c : Clk) (s : Nat) (f : OpenFrame) (runs : List SampleRun) (b : Block) : Bool × Block :=
  match f.buf with
  | none => (true, b)
  | some i =>
    runs.foldl (fun (ok, b) r =>
      if !ok || r.px.isEmpty then (ok, b)
      else dramAccess c 5 (b.poolPart (b.poolOf s)) (b.rowAddr (b.poolOf s) i r.row + 6 * r.x) (6 * r.px.length) true 14 b)
      (true, b)

/-! ## Ring entries of compressed sources (R109, R111) -/

/-- The ring entry of a packet that is held. -/
def ringPacket (c : Clk) (s : Nat) (h : HeldPacket) (b : Block) : Block :=
  let x := b.src s
  let ring := if h.pkt.path then b.get F.LAD_SRC_RING_RING_B s else b.get F.LAD_SRC_RING_RING_A s
  let fr := (x.frames.find? fun g => g.has h.pkt.rtpts h.ext).map (·.number)
  let e : RxEntry := {
    stamp := h.stamp, steady := h.steady / nsTick, gen := h.gen, path := h.pkt.path, marker := h.pkt.marker,
    kind := 0, loss := x.lossNext, seq := h.ext, src := s, buf := 0, rtpts := h.pkt.rtpts.toNat,
    frame := fr.getD 0 }
  let (at_, b) := ringPut c ring e h.pkt.payload b
  let x := b.src s
  let held := x.held.map fun g =>
    if g.ext = h.ext then { g with ringed := true, loss := e.loss, ring := at_.map fun i => (ring, i) } else g
  b.setSrc s { x with held := held, lossNext := at_.isNone }

/-- Write the ring entries that are due, in order of number: a lost number only marks the next entry. -/
def drainRing (c : Clk) (s : Nat) : Nat → Block → Block
  | 0, b => b
  | fuel + 1, b =>
    let x := b.src s
    match x.nextRing with
    | none => b
    | some k =>
      if x.gaps.any (·.has k) then b
      else match x.held.find? (·.ext = k) with
        | some h =>
          let b := if h.ringed then b else ringPacket c s h b
          drainRing c s fuel (b.setSrc s { b.src s with nextRing := some (k + 1) })
        | none =>
          if x.lostNums.contains k then
            drainRing c s fuel (b.setSrc s { x with nextRing := some (k + 1), lossNext := true })
          else b

/-- How many numbers may be due: those up to the highest accepted. -/
def ringFuel (x : SrcSt) : Nat :=
  match x.nextRing, x.highest with
  | some k, some h => h + 1 - k
  | _, _ => 0

/-! ## A packet (R93-R102) -/

/-- The path delivers a packet; one that is neither late nor overrun sets its bit (R102). -/
def pathSeen (c : Clk) (s : Nat) (path taken : Bool) (b : Block) : Block :=
  let x := b.src s
  let b := if taken then b.flag (if path then F.LAD_SRC_STAT_PATH_B else F.LAD_SRC_STAT_PATH_A) true s else b
  b.setSrc s (if path then { x with lastB := c.steady, goneB := false } else { x with lastA := c.steady, goneA := false })

/-- Accept a number at the merge (R98, R101): the numbers it passes over are missing from now on. A number below the first
one accepted is no copy while no frame is complete; the numbers between are missing since the first packet above them
arrived. None for a copy of a number that was accepted or lost before. -/
def mergeAccept (c : Clk) (x : SrcSt) (ext : Nat) : Option SrcSt :=
  match x.highest with
  | none => some { x with
      highest := some ext, lowest := some (ext, c.steady), nextRing := some ext, nextFirst := some ext }
  | some h =>
    if h < ext then
      let g : List Gap := if h + 1 < ext then [{ lo := h + 1, n := ext - h - 1, since := c.steady, repair := false }] else []
      some { x with highest := some ext, gaps := x.gaps ++ g }
    else if x.gaps.any (·.has ext) then some { x with gaps := gapsWithout x.gaps ext }
    else match x.lowest with
      | some (l, t) =>
        if ext < l && x.nextFirst = some l then
          let g : List Gap := if ext + 1 < l then [{ lo := ext + 1, n := l - ext - 1, since := t, repair := false }] else []
          some { x with lowest := some (ext, t), nextFirst := some ext, gaps := g ++ x.gaps }
        else none
      | none => none

/-- The runs of an ST 2110-20 packet lie within the source's picture (R95). -/
def runsOk (b : Block) (s : Nat) (p : SrcPacket) : Bool :=
  p.runs.length ≤ 4 && p.runs.all fun r => r.row < b.srcHeight s && r.x + r.px.length ≤ b.srcWidth s

/-- Place an accepted packet (R93, R95, R117): its frame opens or goes on; a payload that cannot be placed counts as
lost. -/
def placePacket (c : Clk) (s ext : Nat) (p : SrcPacket) (repaired : Bool) (b : Block) : Block :=
  let b := if (frameOfPacket (b.src s).frames p ext).isNone then startFrame c s ext p b else b
  let x := b.src s
  match frameOfPacket x.frames p ext with
  | none => b
  | some f =>
    let last := if p.marker then some (match f.last with | some n => min n ext | none => ext) else f.last
    let f := { f with last := last, first := min f.first ext, repaired := f.repaired || repaired }
    let h : HeldPacket := {
      pkt := p, ext := ext, stamp := c.stamp, steady := c.steady, gen := b.get F.TIM_STAT_STEP_GEN,
      repaired := repaired, ringed := b.transport s = 2, ring := none, readyAt := none }
    let b := b.setSrc s { x with frames := setFrame x.frames f, held := x.held ++ [h] }
    if b.transport s = 2 then
      let (ok, b) := poolWrites c s f p.runs b
      if ok then b else abandonFrame s f b
    else if (b.src s).nextRing.any (ext < ·) then ringPacket c s h b
    else drainRing c s (ringFuel (b.src s)) b

/-- Path A's copy of a number arrives in the cycle in which path B's was accepted: A's is kept (R100). An entry that B's
copy has in a ring, with none behind it, is taken back and A's written. -/
def preferA (c : Clk) (s ext : Nat) (p : SrcPacket) (b : Block) : Block :=
  let x := b.src s
  match x.held.find? fun h => h.ext = ext && h.pkt.path && h.steady = c.steady && !h.repaired with
  | none => b
  | some h =>
    let swap (ringed : Bool) : Block := b.setSrc s { x with
      frames := x.frames.map fun f => if f.seq = ext && f.rtpts = p.rtpts then { f with path := false } else f
      held := x.held.map fun g => if g.ext = ext then { g with pkt := p, ringed := ringed } else g }
    match h.ring with
    | none => swap h.ringed
    | some (r, i) =>
      if b.get F.LAD_RING_HEAD_HEAD r ≠ (i + 1) % b.ringSize r then swap h.ringed
      else
        let b := (swap false).put F.LAD_RING_HEAD_HEAD i r
        ringPacket c s { h with pkt := p } (b.setSrc s { b.src s with lossNext := h.loss })

/-- The media packet of a running source (R93-R105). -/
def ladleMedia (c : Clk) (s : Nat) (p : SrcPacket) (repaired : Bool) (b : Block) : Block :=
  let x := b.src s
  let tr := b.transport s
  let used := bit (b.get F.LAD_SRC_CTL_PATHS s) (b2n p.path)
  if !b.srcRuns s || x.refused || !used || 2 < tr then b
  else if b.on F.LAD_SRC_CTL_SSRC_EN s && b.get F.LAD_SRC_SSRC_SSRC s ≠ p.ssrc.toNat then b
  else if tr = 2 && 4 ≤ p.layout.val then
    ((b.setSrc s { x with refused := true }).evt F.LAD_EVT_FMT_ERR).record 0x1806 3 s tr (ofBe (p.payload.take 4))
  else if tr = 2 && p.full then
    let b := pathSeen c s p.path false (b.evt F.LAD_EVT_OVERRUN)
    let x := b.src s
    if x.overran.contains p.rtpts then b
    else
      let n := match x.frames.find? fun g => g.rtpts = p.rtpts && g.complete.isNone with
        | some f => f.number
        | none => x.frameNo
      (b.setSrc s { x with overran := x.overran ++ [p.rtpts] }).record 0x1809 3 s n p.seq.toNat
  else
    let ext := match x.highest with
      | none => extendFirst p.seq.toNat
      | some h => if tr = 2 then extendNear 32 h p.seq.toNat else extendNear 16 h (p.seq.toNat % 65536)
    let late := match x.highest with | some h => decide (ext + 4096 ≤ h) | none => false
    if late then pathSeen c s p.path false (b.inc F.LAD_SRC_LOSS_LATE s)
    else
      let b := loseBack c s ext (pathSeen c s p.path true b)
      match mergeAccept c (b.src s) ext with
      | none => if p.path then b else preferA c s ext p b
      | some y =>
        let b := b.setSrc s y
        let ok := if tr = 2 then runsOk b s p else payloadOk tr p.payload
        if ok then placePacket c s ext p repaired b
        else
          let b := loseNumber s ext b
          if tr = 2 then b else drainRing c s (ringFuel (b.src s)) b

/-- The TAIL of a ring of a running decoder passes every entry that is no longer needed: it stops at the first whose
payload waits for the decoder, and skips RTCP entries (R110, R135). -/
def ringAdvance (r : Nat) (b : Block) : Block :=
  let size := b.ringSize r
  let tail := b.get F.LAD_RING_TAIL_TAIL r
  let dist (i : Nat) : Nat := (i + size - tail) % size
  let needed := (b.lad.srcs.flatMap (·.2.held)).filterMap fun h => match h.ring with
    | some (q, i) => if q = r then some (dist i) else none
    | none => none
  let n := needed.foldl min (dist (b.get F.LAD_RING_HEAD_HEAD r))
  b.put F.LAD_RING_TAIL_TAIL ((tail + n) % size) r

/-- Advance the rings of a compressed source whose engine runs. -/
def ringsAdvance (s : Nat) (b : Block) : Block :=
  if 1 < b.transport s || !b.on F.DEC_STAT_RUN (b.get F.LAD_SRC_DEC_ENGINE s) then b
  else
    let b := if bit (b.get F.LAD_SRC_CTL_PATHS s) 0 then ringAdvance (b.get F.LAD_SRC_RING_RING_A s) b else b
    if bit (b.get F.LAD_SRC_CTL_PATHS s) 1 then ringAdvance (b.get F.LAD_SRC_RING_RING_B s) b else b

/-- A sender report of the source (R106): its capture times are known from now on; the packet goes into the ring of
its path with kind RTCP. -/
def ladleReport (c : Clk) (s : Nat) (path : Bool) (ntp rtp : Nat) (payload : List Byte) (b : Block) : Block :=
  if !b.srcRuns s || 1 < b.transport s then b
  else
    let b := b.setSrc s { b.src s with report := some (ntp, rtp) }
    let ring := if path then b.get F.LAD_SRC_RING_RING_B s else b.get F.LAD_SRC_RING_RING_A s
    ringsAdvance s (ringPut c ring {
      stamp := c.stamp, steady := c.ns64, gen := b.get F.TIM_STAT_STEP_GEN, path := path, marker := false, kind := 2,
      loss := false, seq := 0, src := s, buf := 0, rtpts := rtp, frame := 0 } payload b).2

/-- A packet handed to the Ladle (R98). -/
def ladlePacket (c : Clk) (s : Nat) (i : LadleInput) (b : Block) : Block :=
  match i with
  | .media p => ladleMedia c s p false b
  | .senderReport path ntp rtp l => ladleReport c s path ntp.toNat rtp.toNat l b

/-! ## Waits (R101, R102, R122) -/

/-- The extended number of a missing 32-bit sequence number. -/
def missingExt (x : SrcSt) (seq : Nat) : Nat :=
  match x.highest with | some h => extendNear 32 h seq | none => 0

/-- A number is lost at the end of its last wait. -/
def waitLost (c : Clk) (s n : Nat) (b : Block) : Block :=
  let b := loseNumber s n b
  let x := b.src s
  let b := b.setSrc s { x with lostAt := (c.steady, (if x.lostAt.1 = c.steady then x.lostAt.2 else []) ++ [n]) }
  if b.transport s ≤ 1 then drainRing c s (ringFuel (b.src s)) b else b

/-- The end of the SKEW wait for a missing number (R101): with a pair link the partner is asked for it. -/
def skewExpiry (c : Clk) (s seq : Nat) (b : Block) : Block :=
  let x := b.src s
  let n := missingExt x seq
  match x.gaps.find? (·.has n) with
  | none => b
  | some g =>
    if g.repair || c.steady < g.since + b.get F.LAD_MERGE_SKEW * usTick then b
    else if b.paired then
      let b := b.setSrc s { x with gaps := gapsWithout x.gaps n ++ [{ lo := n, n := 1, since := c.steady, repair := true }] }
      (b.inc F.PAIR_REPAIR_REQ).tell (.repairRequest (Fin.ofNat 384 s) (BitVec.ofNat 32 n))
    else waitLost c s n b

/-- The end of the REPAIR_WAIT (R101): a number still missing is lost. -/
def repairExpiry (c : Clk) (s seq : Nat) (b : Block) : Block :=
  let x := b.src s
  let n := missingExt x seq
  match x.gaps.find? (·.has n) with
  | none => b
  | some g =>
    if !g.repair || c.steady < g.since + b.get F.LAD_MERGE_REPAIR_WAIT * usTick then b
    else
      let b := waitLost c s n b
      if g.answered then b else b.inc F.PAIR_REPAIR_NONE

/-- A path that the source uses has been silent for PATH_LOSS ms (R102, code 0x1803). Whose last number the record names the
spec does not say: DESIGN CHOICE, the highest accepted of the source (log 76). -/
def pathLoss (c : Clk) (s : Nat) (path : Bool) (b : Block) : Block :=
  let x := b.src s
  let f := if path then F.LAD_SRC_STAT_PATH_B else F.LAD_SRC_STAT_PATH_A
  let last := if path then x.lastB else x.lastA
  let ms := b.get F.LAD_MERGE2_PATH_LOSS
  let used := b.transport s ≤ 2 && bit (b.get F.LAD_SRC_CTL_PATHS s) (b2n path)
  if b.srcRuns s && used && !(if path then x.goneB else x.goneA) && last + ms * msTick ≤ c.steady then
    let b := (b.flag f false s).record 0x1803 3 s (b2n path) ms (x.highest.getD 0)
    b.setSrc s (if path then { x with goneB := true } else { x with goneA := true })
  else b

/-- A running source has had no READY frame for MAXAGE (R122, code 0x1802). -/
def sourceLate (c : Clk) (s : Nat) (b : Block) : Block :=
  let x := b.src s
  let ms := b.get F.LAD_SRC_MAXAGE_MAXAGE s
  if b.srcRuns s && !x.lateSeen && x.lastReady + ms * msTick ≤ c.steady then
    ((b.setSrc s { x with lateSeen := true }).evt F.LAD_EVT_LATE).record 0x1802 4 s ms x.lastFrame
  else b

/-! ## Completion (R103, R104, R289) -/

/-- The oldest frame that is not complete. -/
def nextIncomplete (x : SrcSt) : Option OpenFrame := x.frames.find? fun f => f.complete.isNone

/-- A context with STREAM = 1 decodes the source: the agreement of the pair does not apply to it (R291). -/
def Block.srcStreams (b : Block) (s : Nat) : Bool :=
  b.transport s ≤ 1 && b.on F.DEC_CTX_CFG_STREAM (b.get F.LAD_SRC_DEC_ENGINE s) (b.get F.LAD_SRC_DEC_CTX s)

/-- The frames and pictures of the source are agreed with the partner (R289-R291). -/
def Block.agrees (b : Block) (s : Nat) : Bool := b.paired && !b.srcStreams s

/-- The partner is told of a complete frame's losses (R289): 255 of them at most, and whether there were more. -/
def sendLoss (s : Nat) (f : OpenFrame) (b : Block) : Block :=
  if b.agrees s then
    b.tell (.loss (Fin.ofNat 384 s) f.rtpts ((f.lost.take 255).map (· % 2 ^ 32)) (255 < f.lost.length))
  else b

/-- A frame whose last packet is accepted and whose numbers are resolved completes (R103): its losses are counted and
recorded, and the partner is told of them (R289). -/
def frameComplete (c : Clk) (s : Nat) (b : Block) : Block :=
  let x := b.src s
  match nextIncomplete x with
  | none => b
  | some f =>
    match f.last, x.highest with
    | some l, some h =>
      if h < l || x.gaps.any (fun g => g.lo ≤ l) then b
      else
        let lost := x.lostNums.filter (· ≤ l)
        let f := { f with lost := lost, complete := some c.steady, awaits := b.agrees s }
        let frames := setFrame x.frames f
        let b := b.setSrc s { x with
          frames := frames, lostNums := x.lostNums.filter (l < ·), nextFirst := some (l + 1)
          overran := x.overran.filter fun t => frames.any fun g => g.rtpts = t && g.complete.isNone }
        let b :=
          if lost.isEmpty then b
          else (b.evt F.LAD_EVT_LOSS).record 0x1804 3 s f.number lost.length (lost.headD 0)
        sendLoss s f b
    | _, _ => b

/-- The component code of a lost sample in the source's depth: mid-grey (R104). -/
def midCode (sampling : Nat) : Nat := if sampling % 2 = 0 then 512 else 128

/-- A component code left-justified in its 16-bit container (R97). -/
def justify (sampling v : Nat) : Nat := if sampling % 2 = 0 then v % 1024 * 64 else v % 256 * 256

/-- The samples of a pixel among the packets of a frame. -/
def sampleAt (ps : List HeldPacket) (y x : Nat) : Option (List Nat) :=
  (ps.flatMap (·.pkt.runs)).findSome? fun r =>
    if r.row = y && r.x ≤ x && x < r.x + r.px.length then r.px[x - r.x]? else none

/-- The three stored components of a pixel, before justification (R97): in 4:2:2 an odd pixel takes the mean of its
even neighbours' chroma, the last of a line its left neighbour's. None for a lost pixel. -/
def storedPixel (sampling width : Nat) (ps : List HeldPacket) (y x : Nat) : Option (Nat × Nat × Nat) :=
  let mid := midCode sampling
  match sampleAt ps y x with
  | none => none
  | some px =>
    if 2 ≤ sampling || x % 2 = 0 then some (px.getD 0 mid, px.getD 1 mid, px.getD 2 mid)
    else
      let l := (sampleAt ps y (x - 1)).getD [mid, mid, mid]
      let r := if x + 1 < width then (sampleAt ps y (x + 1)).getD [mid, mid, mid] else l
      let mean (i : Nat) : Nat :=
        if x + 1 < width then (l.getD i mid + r.getD i mid + 1) / 2 else l.getD i mid
      some (px.getD 0 mid, mean 1, mean 2)

/-- The stored bytes of a row of a 4:4:4 frame: three 16-bit containers a pixel; a lost pixel is mid-grey (R104). -/
def storedRow (sampling width : Nat) (ps : List HeldPacket) (y : Nat) : List Byte :=
  (List.range width).flatMap fun x =>
    match storedPixel sampling width ps y x with
    | none => [0, 0x80, 0, 0x80, 0, 0x80]
    | some (a, b, c) => leBytes 2 (justify sampling a) ++ leBytes 2 (justify sampling b) ++ leBytes 2 (justify sampling c)

/-- The 16-line rows that hold a lost pixel (R104), as a bit map. A pixel that no packet of a frame without lost numbers
carried is no lost pixel; the spec gives it no value: DESIGN CHOICE, mid-grey without a mark (log 76). -/
def lostRows (sampling width height : Nat) (ps : List HeldPacket) : Nat :=
  ((List.range ((height + 15) / 16)).filter fun r =>
    (List.range 16).any fun k => 16 * r + k < height &&
      (List.range width).any fun x => (storedPixel sampling width ps (16 * r + k) x).isNone).foldl (fun m r => m + 2 ^ r) 0

/-- The packets of a frame that count: those of its numbers that are not lost on either unit. -/
def framePackets (x : SrcSt) (f : OpenFrame) : List HeldPacket :=
  x.held.filter fun h => f.first ≤ h.ext && f.has h.pkt.rtpts h.ext && !f.lost.contains h.ext

/-- Packets are held for the partner until 10 ms after their frame is READY (R288). -/
def dropHeld (c : Clk) (l : List HeldPacket) : List HeldPacket :=
  l.filter fun h => match h.readyAt with | some t => c.steady < t + 10 * msTick | none => true

/-- Mark the packets of a frame as held from now on for 10 ms. -/
def markReady (c : Clk) (f : OpenFrame) (l : List HeldPacket) : List HeldPacket :=
  l.map fun h => if f.has h.pkt.rtpts h.ext && h.readyAt.isNone then { h with readyAt := some c.steady } else h

/-- The oldest frame of an ST 2110-20 source, complete and final, becomes READY (R97, R103, R104, R110, R111, R114);
a dropped frame only leaves. -/
def frameReady (c : Clk) (s : Nat) (b : Block) : Block :=
  let x := b.src s
  match x.frames with
  | [] => b
  | f :: t =>
    if b.transport s ≠ 2 || f.complete.isNone || f.awaits then b
    else
      let b := b.setSrc s { x with frames := t, held := dropHeld c (markReady c f x.held) }
      match f.buf with
      | none => b
      | some i =>
        let p := b.poolOf s
        let (ok, b) := dramAccess c 5 (b.poolPart p) (b.bufAddr p i) (4096 + b.poolPitch p * b.srcHeight s) true 14 b
        if !ok then frameDropped s f.number 1 (b.setBuf (bufKey p i) {})
        else
        let w := b.srcWidth s
        let h := b.srcHeight s
        let smp := b.get F.LAD_SRC_FMT2_SAMPLING s
        let ps := framePackets x f
        let row := storedRow smp w ps
        let marks := if f.lost.isEmpty then 0 else lostRows smp w h ps
        let b := (List.range h).foldl (fun b y => b.store (b.rowAddr p i y) (row y)) b
        let buf : PoolBuf := {
          ageBase := f.ageBase, arrival := f.arrival, rtpts := f.rtpts.toNat, frame := f.number,
          cls := if marks = 0 then 0 else 1, flags := b2n f.known + 2 * b2n f.repaired, rows := (h + 15) / 16,
          fprint := fingerprint444 b s row, rowmark := marks }
        let b := makeReady c s p i buf (b.agrees s) b
        (ringPut c (b.get F.LAD_SRC_RING_RING_A s) {
          stamp := f.stamp, steady := f.arrival, gen := f.gen, path := f.path, marker := false, kind := 1, loss := false,
          seq := f.seq, src := s, buf := i, rtpts := f.rtpts.toNat, frame := f.number } [] b).2

/-! ## Pair messages about packets and frames (R288, R289) -/

/-- The partner answers a repair request (R288): the packet is accepted as if it had arrived on its own path. -/
def repairAnswer (c : Clk) (s : Nat) (seq : BitVec 32) (p : Option SrcPacket) (b : Block) : Block :=
  let x := b.src s
  let n := missingExt x seq.toNat
  if !x.gaps.any (fun g => g.repair && g.has n) then b
  else match p with
    | some p => ladleMedia c s { p with seq := seq } true b
    | none => (b.inc F.PAIR_REPAIR_NONE).setSrc s { x with
        gaps := gapsWithout x.gaps n ++ (x.gaps.filter (·.has n)).map fun g => { g with lo := n, n := 1, answered := true } }

/-- The partner asks for a packet (R288): the packet if it is still held, otherwise NONE. -/
def repairRequest (c : Clk) (s : Nat) (seq : BitVec 32) (b : Block) : Block :=
  let held := dropHeld c (b.src s).held
  let b := b.setSrc s { b.src s with held := held }
  let h := held.find? fun h => h.ext % 2 ^ 32 = seq.toNat
  b.tell (.repairAnswer (Fin.ofNat 384 s) seq (h.map (·.pkt)))

/-- The ring entry of a packet that the partner lost: LEN 0, and the loss flag of the next entry set (R289): of the one that
follows in the ring, or of the one that the source writes next. -/
def blankEntry (b : Block) (m : Mem) (s ring i : Nat) : Block :=
  let next := (i + 1) % b.ringSize ring
  let b := b.store (b.ringBase ring + 32 * i + 12) [0, 0]
  if next = b.get F.LAD_RING_HEAD_HEAD ring then b.setSrc s { b.src s with lossNext := true }
  else
    let n := b.ringBase ring + 32 * next
    let flags := ((m.puts b.stores).byte (n + 14)).toNat
    b.store (n + 14) [BitVec.ofNat 8 (if bit flags 6 then flags else flags + 64)]

/-- The partner's LOSS message makes a frame final (R289): a number lost on either unit is lost on both; with OVER
the frame is discarded. -/
def pairLoss (m : Mem) (s : Nat) (rtpts : Word) (lost : List Nat) (tooMany : Bool) (b : Block) : Block :=
  let x := b.src s
  match x.frames.find? fun f => f.rtpts = rtpts && f.awaits with
  | none => b
  | some f =>
    if tooMany || 255 < f.lost.length then
      let b := match f.buf with
        | some i => b.setBuf (bufKey (b.poolOf s) i) {}
        | none => b
      b.setSrc s { x with frames := x.frames.filter (·.number ≠ f.number) }
    else
      let hit := x.held.filter fun h => h.pkt.rtpts = rtpts && lost.contains (h.ext % 2 ^ 32) && !f.lost.contains h.ext
      let b := hit.foldl (fun b h => match h.ring with
        | some (r, i) => blankEntry b m s r i
        | none => b) b
      b.setSrc s { b.src s with frames := setFrame x.frames { f with awaits := false, lost := f.lost ++ hit.map (·.ext) } }

/-- The frames of a transport-3 source that are complete and final become READY in their order (R103, R289). -/
def peerFinal (c : Clk) (s : Nat) (b : Block) : Block :=
  if b.transport s ≠ 3 then b
  else
    let x := b.src s
    let l := x.frames.takeWhile fun f => !f.awaits
    let p := b.poolOf s
    l.foldl (fun b f => match f.buf with
      | some i => makeReady c s p i (b.buf (bufKey p i)) (b.agrees s) b
      | none => b) (b.setSrc s { x with frames := x.frames.drop l.length })

/-- A LOSS message kept for a frame is used when the frame completes. -/
def keptLoss (m : Mem) (s : Nat) (b : Block) : Block :=
  match b.peerLosses.find? fun q => q.1 = s && (b.src s).frames.any fun f => f.rtpts = q.2.1 && f.awaits with
  | none => b
  | some q => pairLoss m s q.2.1 q.2.2.1 q.2.2.2 { b with peerLosses := b.peerLosses.filter (· ≠ q) }

/-- The pair link has gone down: no frame or picture waits for the partner any more (R291). -/
def releaseAgreement (c : Clk) (b : Block) : Block :=
  let b := { b with peerLosses := [], peerReadys := [] }
  let b := b.lad.srcs.foldl (fun b q =>
    b.setSrc q.1 { b.src q.1 with frames := (b.src q.1).frames.map fun f => { f with awaits := false } }) b
  let b := b.lad.bufs.foldl (fun b q => b.setBuf q.1 { b.buf q.1 with awaits := false, peerPtp := none }) b
  b.lad.srcs.foldl (fun b q => peerFinal c q.1 b) b

end Sys2Proof.Machine
end

