-- ==== Sys2Proof/Machine/Dec.lean ====
section
/-! DEFINITION. The decode engines: contexts, scheduling, the reference pool, concealment, degraded marks, early
handoff and engine control (R123-R152). What the standards' parsing and prediction give is an operand (log 12). -/

namespace Sys2Proof.Machine

open Sys2Proof

def Block.eng (b : Block) (e : Nat) : DecEng := tget {} b.engs e
def Block.setEng (b : Block) (e : Nat) (x : DecEng) : Block := { b with engs := tput {} b.engs e x }
def Block.ctx (b : Block) (e c : Nat) : DecCtx := tget {} b.ctxs (64 * e + c)
def Block.setCtx (b : Block) (e c : Nat) (x : DecCtx) : Block := { b with ctxs := tput {} b.ctxs (64 * e + c) x }

/-- Context states (table Context states). -/
def ctxUnbound : Nat := 0
def ctxWait : Nat := 1
def ctxRecover : Nat := 2
def ctxRun : Nat := 3
def ctxRefused : Nat := 4

def Block.ctxState (b : Block) (e c : Nat) : Nat := b.get F.DEC_CTX_STAT_STATE e c
def setCtxState (e c st : Nat) (b : Block) : Block := b.put F.DEC_CTX_STAT_STATE st e c

/-- The pool that a context's pictures go to. -/
def Block.ctxPool (b : Block) (e c : Nat) : Nat := b.poolOf (b.ctx e c).src

/-! ## Reference marks (R137) -/

/-- The reference mark of a buffer: 0 UNUSED, 1 SHORT, 2 LONG, 3 ABSENT. -/
def Block.mark (b : Block) (e c i : Nat) : Nat := bits (b.reg (F.DEC_CTX_REF_MARK0.at e c)).toNat (2 * i) 2

/-- Set a buffer's mark: a mark other than UNUSED is a use of the buffer. -/
def setMark (e c i v : Nat) (b : Block) : Block :=
  let old := b.mark e c i
  let k := bufKey (b.ctxPool e c) i
  let b := b.put { F.DEC_CTX_REF_MARK0 with lsb := 2 * i } v e c
  if old = 0 && v ≠ 0 then holdBuf k b else if old ≠ 0 && v = 0 then releaseBuf k b else b

/-- Every mark becomes UNUSED. -/
def clearMarks (e c : Nat) (b : Block) : Block := (List.range 16).foldl (fun b i => setMark e c i 0 b) b

/-- The buffer's picture will not become READY: HELD while it is used, FREE otherwise. -/
def settleBuf (k : Nat) (b : Block) : Block := if (b.buf k).state == .filling then retireBuf k b else b

/-! ## Rings and units (R131, R135) -/

/-- The entries of an access unit, and every entry before its end, are no longer needed (R135). -/
def consumeRings (s : Nat) (f : OpenFrame) (b : Block) : Block :=
  let x := b.src s
  let used (h : HeldPacket) : Bool := match f.last with
    | some n => h.ext ≤ n
    | none => f.has h.pkt.rtpts h.ext
  ringsAdvance s (b.setSrc s { x with held := x.held.map fun h => if used h then { h with ring := none } else h })

/-- An access unit of a source leaves the Ladle: its entries are consumed (R135). Its packets are held for the partner 10 ms
more, from now on or, where its picture `waits` for output, from its READY on (R288). -/
def leaveUnit (c : Clk) (s frame : Nat) (waits : Bool) (b : Block) : Block :=
  match (b.src s).frames.find? (·.number = frame) with
  | none => b
  | some f =>
    let b := consumeRings s f b
    let x := b.src s
    b.setSrc s { x with
      frames := x.frames.filter (·.number ≠ frame), held := dropHeld c (if waits then x.held else markReady c f x.held) }

/-- An access unit leaves the Ladle and no picture of it waits. -/
def consumeUnit (c : Clk) (s frame : Nat) (b : Block) : Block := leaveUnit c s frame false b

/-- The packets of pictures that waited for output are held 10 ms more. -/
def markUnits (c : Clk) (s : Nat) (l : List (Nat × OpenFrame)) (b : Block) : Block :=
  l.foldl (fun b q => b.setSrc s { b.src s with held := dropHeld c (markReady c q.2 (b.src s).held) }) b

/-- The access unit of a context that is eligible for decode (R131): complete and final, or, with STREAM, with its
first entry in the ring. -/
def eligibleUnit (b : Block) (e c : Nat) : Option OpenFrame :=
  if b.ctxState e c = ctxUnbound then none
  else
    let x := b.src (b.ctx e c).src
    match x.frames with
    | [] => none
    | f :: _ =>
      if b.on F.DEC_CTX_CFG_STREAM e c then
        (if x.held.any fun h => f.has h.pkt.rtpts h.ext && h.ring.isSome then some f else none)
      else if f.complete.isSome && !f.awaits then some f else none

/-- The steady stamp of a unit's first entry in ns: that of its lowest number in a ring (R131). -/
def firstSteady (x : SrcSt) (f : OpenFrame) : Nat :=
  ((x.held.filter fun h => h.ring.isSome && f.has h.pkt.rtpts h.ext).foldl (fun (best : Option HeldPacket) h =>
    match best with
    | some g => if h.ext < g.ext then some h else best
    | none => some h) none).elim f.arrival fun h => h.steady / nsTick

/-- The deadline of a unit: the steady stamp of its first entry and its source's deadline, in ns (R131). -/
def unitDeadline (b : Block) (s : Nat) (f : OpenFrame) : Nat :=
  firstSteady (b.src s) f + b.get F.LAD_SRC_MAXAGE_MAXAGE s * 1000000

/-- The context whose eligible unit has the smallest deadline; ties go to the lower index. -/
def selectUnit (b : Block) (e : Nat) : Option (Nat × OpenFrame) :=
  (List.range 64).foldl (fun best c => match eligibleUnit b e c with
    | none => best
    | some f => match best with
      | none => some (c, f)
      | some (c', f') =>
        if unitDeadline b (b.ctx e c).src f < unitDeadline b (b.ctx e c').src f' then some (c, f) else best) none

/-! ## Ending a unit -/

/-- The engine has no access unit in decode any more: its busy time is kept for DEC_LOAD.MEAS. -/
def engineIdle (c : Clk) (e : Nat) (b : Block) : Block :=
  let x := b.eng e
  match x.pic with
  | none => b
  | some p =>
    let recent := x.busy.filter fun iv => c.steady < iv.2 + sTick
    let b := b.setEng e { x with pic := none, busy := recent ++ [(p.start, c.steady)] }
    let b := b.put F.DEC_CTX_TIME_AU_US (min 0xFFFFF ((c.steady - p.start) / usTick)) e p.ctx
    b.flag F.DEC_STAT_BUSY false e

/-- Abandon the picture in decode (R149): its buffer is FREE once no layer uses it; ROWS stays. -/
def abandonPicture (c : Clk) (e : Nat) (b : Block) : Block :=
  match (b.eng e).pic with
  | none => b
  | some p =>
    let k := bufKey (b.ctxPool e p.ctx) p.buf
    let b := setMark e p.ctx p.buf 0 b
    let b := if b.bufUsers k = 0 then b.setBuf k {} else b.setBuf k { b.buf k with state := .held, abandoned := true }
    engineIdle c e (consumeUnit c p.src p.frame b)

/-- A context goes back to WAIT_ENTRY with every mark UNUSED: pictures that wait for output are abandoned too. -/
def contextWait (clk : Clk) (e c : Nat) (b : Block) : Block :=
  let x := b.ctx e c
  let b := markUnits clk x.src x.units b
  let b := setCtxState e c ctxWait (clearMarks e c b)
  let b := x.waiting.foldl (fun b i => settleBuf (bufKey (b.ctxPool e c) i) b) b
  b.setCtx e c { b.ctx e c with pocs := [], recoverAt := none, waiting := [], units := [] }

/-- The engine stops (R150): every context that is bound returns to WAIT_ENTRY. -/
def engineStop (c : Clk) (e : Nat) (b : Block) : Block :=
  let b := abandonPicture c e b
  let b := (List.range 64).foldl (fun b k => if b.ctxState e k = ctxUnbound then b else contextWait c e k b) b
  b.flag F.DEC_STAT_RUN false e

/-- DEC_CTL.EN written 1 (R150). -/
def decoderEnable (e : Nat) (b : Block) : Block :=
  if b.domOn (10 + e / 2) && !b.domStopping (10 + e / 2) then b.flag F.DEC_STAT_RUN true e else b

/-- DEC_CTL.EN written 0 (R150): the engine stops when the access unit in progress ends. -/
def decoderStop (c : Clk) (e : Nat) (b : Block) : Block := if b.on F.DEC_STAT_BUSY e then b else engineStop c e b

/-- The engine goes on after an access unit: it stops if EN is 0, or if its domain is being switched off (R151). -/
def afterUnit (c : Clk) (e : Nat) (b : Block) : Block :=
  if b.on F.DEC_CTL_EN e && !b.domStopping (10 + e / 2) then b else engineStop c e b

/-! ## Binding (R128) -/

/-- The engine's count of bound contexts. -/
def countBound (e : Nat) (b : Block) : Block :=
  b.put F.DEC_STAT_BOUND ((List.range 64).filter fun c => b.ctxState e c ≠ ctxUnbound).length e

/-- Bind a context to a source (R128): WAIT_ENTRY with every mark UNUSED; its error counts return to 0. -/
def bindContext (e c s : Nat) (b : Block) : Block :=
  let b := b.setReg (F.DEC_CTX_REF_MARK0.at e c) 0
  let b := b.setReg (F.DEC_CTX_ERR_CONCEAL.at e c) 0
  let b := (setCtxState e c ctxWait b).put F.DEC_CTX_STAT_SRC s e c
  countBound e (b.setCtx e c { src := s })

/-- Unbind a context (R128): its unit is abandoned, its marks are released, its rings are emptied. -/
def unbindContext (clk : Clk) (e c s : Nat) (b : Block) : Block :=
  let busy := (b.eng e).pic.any fun p => p.ctx = c
  let b := if busy then abandonPicture clk e b else b
  let b := setCtxState e c ctxUnbound (contextWait clk e c b)
  let empty (r : Nat) (b : Block) : Block := b.put F.LAD_RING_TAIL_TAIL (b.get F.LAD_RING_HEAD_HEAD r) r
  let b := if bit (b.get F.LAD_SRC_CTL_PATHS s) 0 then empty (b.get F.LAD_SRC_RING_RING_A s) b else b
  let b := if bit (b.get F.LAD_SRC_CTL_PATHS s) 1 then empty (b.get F.LAD_SRC_RING_RING_B s) b else b
  let b := countBound e (b.setCtx e c {})
  if busy then afterUnit clk e b else b

/-! ## Selecting a unit (R131-R133, R140) -/

/-- The largest time of a switch in ns (R133). -/
def switchBound (b : Block) (e c : Nat) : Nat :=
  let p := ((List.range 16).filter fun i => b.mark e c i ≠ 0).length
  let l := match (b.ctx e c).set with | some x => b2n x.scaling | none => 0
  min 20000 (3000 + 1000 * p + 1000 * l)

/-- Switch to a context: the time it takes is a free value within its bound (R133); none is paid for the context
decoded last. -/
def switchTo (e c : Nat) (b : Block) : Nat × Block :=
  if (b.eng e).last = some c then (0, b)
  else
    let n := switchBound b e c
    let (v, b) := b.fresh
    let t := v.toNat % (n + 1)
    let b := b.put F.DEC_SWITCH_LAST t e
    let b := b.put F.DEC_SWITCH_MAX (max t (b.get F.DEC_SWITCH_MAX e)) e
    (t, b.setEng e { b.eng e with last := some c })

/-- An access unit is dropped for want of a buffer (R140, code 0x2807). -/
def dropUnit (c : Clk) (e k s frame : Nat) (isRef : Bool) (b : Block) : Block :=
  let b := (b.evt F.DEC_EVT_STARVE e).record (inst := e) 0x2807 4 s frame (b.poolCount (b.poolOf s)) (b2n isRef)
  consumeUnit c s frame (if isRef then contextWait c e k b else b)

/-- The head starts a coded video sequence, which empties the reference pool (R137). -/
def startsSequence (h : AuHead) (waiting : Bool) : Bool :=
  match h.entry with
  | some .idr => true
  | some .bla => true
  | some (.cra s) => s || waiting
  | _ => false

/-- The head is an entry point under the context's ENTRY (R130). -/
def isEntry (b : Block) (e c : Nat) (h : AuHead) : Bool :=
  match h.entry with
  | none => false
  | some (.recovery _) => b.get F.DEC_CTX_CFG_ENTRY e c = 1
  | some _ => true

/-- The engine selects the eligible unit with the smallest deadline (R131) and begins it, consumes it where its context
waits for an entry, or drops it where no buffer is FREE. -/
def accessUnitSelect (c : Clk) (e : Nat) (h : AuHead) (b : Block) : Block :=
  if !b.on F.DEC_STAT_RUN e || b.on F.DEC_STAT_BUSY e || b.domStopping (10 + e / 2) then b
  else match selectUnit b e with
    | none => b
    | some (k, f) =>
      let s := (b.ctx e k).src
      let (t, b) := switchTo e k b
      let st := b.ctxState e k
      let waiting := st = ctxWait || st = ctxRefused
      let b := b.put F.DEC_STAT_CUR_CTX k e
      if waiting && !isEntry b e k h then consumeUnit c s f.number b
      else if h.rasl && (b.ctx e k).noRasl then consumeUnit c s f.number b
      else
        let starts := startsSequence h waiting
        let b := if starts || waiting then clearMarks e k b else b
        let b := b.setCtx e k { b.ctx e k with
          pocs := if starts || waiting then [] else (b.ctx e k).pocs,
          noRasl := if h.entry.isSome then (match h.entry with
            | some (.cra _) => starts
            | some .bla => true
            | _ => false) else (b.ctx e k).noRasl }
        let p := b.poolOf s
        match b.freeBuf p with
        | none => dropUnit c e k s f.number h.isRef b
        | some i =>
          let buf : PoolBuf := {
            state := .filling, src := s, ageBase := f.ageBase, arrival := f.arrival, rtpts := f.rtpts.toNat,
            frame := f.number, cls := 0, flags := b2n f.known + 2 * b2n f.repaired + 8,
            rows := (b.srcHeight s + 15) / 16 }
          let b := b.tookFree.setBuf (bufKey p i) buf
          let b := (b.put F.DEC_CTX_WM_ROWS 0 e k).put F.DEC_CTX_WM_BUF i e k
          let b := b.put F.DEC_CTX_FRAME_FRAME f.number e k
          (b.setEng e { b.eng e with
            pic := some { ctx := k, src := s, frame := f.number, buf := i, head := h, start := c.steady + t * nsTick } }).flag
            F.DEC_STAT_BUSY true e

/-! ## Parameter sets (R123, R124, R127) -/

/-- Why a stream is refused, or 0 (table Refusal reasons). Of several reasons the lowest code is reported, but 8 before 7, so
that an odd size that also differs from LAD_SRC_FMT is seen: DESIGN CHOICE, the spec names no order (log 45). -/
def refusalReason (b : Block) (s : Nat) (x : StreamSet) : Nat :=
  let prof := x.profile.toNat
  let high := !x.hevc && prof == 100
  let profOk :=
    if x.hevc then prof == 1 || prof == 2 || x.compat1 || x.compat2
    else (prof == 66 && x.compat1) || prof == 77 || high
  let depthOk :=
    if x.hevc then 8 ≤ x.depthY.val && x.depthY.val ≤ 10 && 8 ≤ x.depthC.val && x.depthC.val ≤ 10
    else x.depthY.val == 8 && (x.chroma.val == 0 || x.depthC.val == 8)
  if x.interlaced then 1
  else if !profOk then 2
  else if (if x.hevc then 153 else 51) < x.level.toNat then 3
  else if !(x.chroma.val == 1 || (x.chroma.val == 0 && high)) then 4
  else if !depthOk then 5
  else if b.poolCount (b.poolOf s) < x.dpb + 3 then 6
  else if x.width % 2 = 1 || x.height % 2 = 1 then 8
  else if x.width ≠ b.srcWidth s || x.height ≠ b.srcHeight s then 7
  else 0

/-- A parameter set is activated: the context reports its properties. -/
def reportSet (e c : Nat) (x : StreamSet) (b : Block) : Block :=
  let b := (b.flag F.DEC_CTX_STAT_CODEC x.hevc e c).flag F.DEC_CTX_STAT_DEPTH (8 < x.depthY.val || 8 < x.depthC.val) e c
  let b := (b.put F.DEC_CTX_STAT_CTB (if x.hevc then x.ctb.val else 0) e c).flag F.DEC_CTX_STAT_REORDER x.reorder e c
  let b := (b.put F.DEC_CTX_STAT_DPB x.dpb e c).put F.DEC_CTX_PROF_PROFILE x.profile.toNat e c
  (b.put F.DEC_CTX_PROF_LEVEL x.level.toNat e c).flag F.DEC_CTX_PROF_TIER (x.hevc && x.tier) e c

/-- A stream is refused (R124, code 0x2801): its unit ends and its context decodes nothing. -/
def refuseStream (c : Clk) (e : Nat) (p : DecPic) (x : StreamSet) (reason : Nat) (b : Block) : Block :=
  let b := (b.evt F.DEC_EVT_REFUSED e).put F.DEC_CTX_STAT_REASON reason e p.ctx
  let b := b.record (inst := e) 0x2801 3 p.src p.ctx reason (x.profile.toNat + 256 * x.level.toNat)
  setCtxState e p.ctx ctxRefused (contextWait c e p.ctx (abandonPicture c e b))

/-! ## Substitutes, concealment, marks (R139-R144) -/

/-- An ABSENT substitute for a missing reference (R139, code 0x2804); none if no buffer is FREE. -/
def absentBuffer (c : Clk) (e : Nat) (p : DecPic) (missing : Int) (b : Block) : Option Block :=
  let pool := b.ctxPool e p.ctx
  match b.freeBuf pool with
  | none => none
  | some i =>
    let x : PoolBuf := {
      state := .held, src := p.src, cls := 2, rows := (b.srcHeight p.src + 15) / 16, rowmark := 2 ^ 256 - 1, flags := 8 }
    let b := (b.tookFree.setBuf (bufKey pool i) x).store (b.bufAddr pool i) x.header
    let b := ((setMark e p.ctx i 3 b).evt F.DEC_EVT_ABSENT e).inc F.DEC_CTX_ERR_ABSENT e p.ctx
    some (b.recordLim (inst := e) c (0x28040000 + 64 * e + p.ctx) sTick 0x2804 3 p.src p.frame (ofSigned 32 missing) i)

/-- The lines of a CTU row: 16 for H.264, 16, 32 or 64 for HEVC. -/
def Block.ctuLines (b : Block) (e c : Nat) : Nat := 16 * 2 ^ b.get F.DEC_CTX_STAT_CTB e c

/-- The buffer that concealed CTUs copy from (R142): marked SHORT or LONG with the nearest POC, the lower on a tie. -/
def concealSource (b : Block) (e c : Nat) (poc : Int) : Option Nat :=
  ((b.ctx e c).pocs.filter fun q => b.mark e c q.1 = 1 || b.mark e c q.1 = 2).foldl (fun best q => match best with
    | none => some q
    | some r =>
      let dq := (q.2 - poc).natAbs
      let dr := (r.2 - poc).natAbs
      if dq < dr || (dq == dr && q.2 < r.2) then some q else best) none |>.map (·.1)

/-- The bytes of stored line `y` of the picture that conceals (mid-grey without one). -/
def concealLine (m : Mem) (b : Block) (e c s : Nat) (poc : Int) (y : Nat) : List Byte :=
  match concealSource b e c poc with
  | some i => m.bytes (b.rowAddr (b.ctxPool e c) i y) (3 * b.srcWidth s)
  | none => (List.replicate (3 * b.srcWidth s / 2) [(0x00 : Byte), 0x80]).flatten

/-- `l` with `n` bytes from `i` taken from `x`. -/
def splice (l x : List Byte) (i n : Nat) : List Byte := l.take i ++ (x.drop i).take n ++ l.drop (i + n)

/-- A decoded line left-justified in 16-bit containers (R126). -/
def decodedLine (set : StreamSet) (row : CtuRow) (y l : Nat) : List Byte :=
  let luma := (row.luma.getD l []).flatMap fun v => leBytes 2 (v * 2 ^ (16 - set.depthY.val))
  let plane := if y % 2 = 0 then row.cb else row.cr
  let chroma :=
    if set.chroma.val = 0 then (List.replicate (luma.length / 4) [(0x00 : Byte), 0x80]).flatten
    else (plane.getD (l / 2) []).flatMap fun v => leBytes 2 (v * 2 ^ (16 - set.depthC.val))
  luma ++ chroma

/-- Overwrite the concealed CTUs of a line with their co-located samples (R142). -/
def concealCols (cl width : Nat) (cols : List Nat) (src line : List Byte) : List Byte :=
  cols.foldl (fun l k =>
    let x := k * cl
    let n := min cl (width - x)
    splice (splice l src (2 * x) (2 * n)) src (2 * width + x) n) line

/-- The 16-line rows with a line within 8 lines of block row `y` (R144). -/
def markRows (rows y : Nat) : List Nat := (List.range rows).filter fun r => 4 * y ≤ 16 * r + 15 + 8 && 16 * r ≤ 4 * y + 3 + 8

/-- The ROWMARK of a set of degraded blocks. -/
def rowmarkOf (rows : Nat) (bad : List (Nat × Nat)) : Nat :=
  ((List.range rows).filter fun r => bad.any fun q => (markRows rows q.2).contains r).foldl (fun m r => m + 2 ^ r) 0

/-- A block is degraded (R143): conditions 2, 3 and 4. -/
def blockBad (b : Block) (e c height : Nat) (bad : List (Nat × Nat)) (q : BlockPred) : Bool :=
  let pool := b.ctxPool e c
  q.intra.any (fun r => bad.contains r) ||
    q.refs.any (fun r =>
      b.mark e c r.1.val = 3 ||
        (let lo : Int := max 0 ((4 * q.y : Nat) + r.2 - 8)
         let hi : Int := min ((height : Int) - 1) ((4 * q.y + 3 : Nat) + r.2 + 8)
         let rm := (b.buf (bufKey pool r.1.val)).rowmark
         (List.range ((height + 15) / 16)).any fun k => bit rm k && lo ≤ (16 * k + 15 : Nat) && ((16 * k : Nat) : Int) ≤ hi))

/-- The 4×4 blocks of the concealed CTUs of CTU row `k`. -/
def concealedBlocks (cl width height k : Nat) (cols : List Nat) : List (Nat × Nat) :=
  cols.flatMap fun col => (List.range (cl / 4)).flatMap fun i => (List.range (cl / 4)).filterMap fun j =>
    let x := col * (cl / 4) + i
    let y := k * (cl / 4) + j
    if 4 * x < width && 4 * y < height then some (x, y) else none

/-- Count concealed CTUs and flag them. -/
def countConcealed (e c n : Nat) (b : Block) : Block :=
  if n = 0 then b else (b.evt F.DEC_EVT_CONCEAL e).inc F.DEC_CTX_ERR_CONCEAL e c 0 n

/-- The watermark after CTU row `k` (R145). -/
def rowsAfter (cl k : Nat) : Nat := ((k + 1) * cl - 8) / 16

/-- Store a CTU row: its lines, with concealed CTUs replaced. -/
def storeCtuRow (c : Clk) (m : Mem) (e : Nat) (p : DecPic) (set : StreamSet) (row : CtuRow) (cols : List Nat) (b : Block) :
    Block :=
  let cl := b.ctuLines e p.ctx
  let w := b.srcWidth p.src
  let pool := b.ctxPool e p.ctx
  (List.range (min cl (b.srcHeight p.src - p.rows * cl))).foldl (fun b l =>
    let y := p.rows * cl + l
    let line := concealCols cl w cols (concealLine m b e p.ctx p.src p.head.poc y) (decodedLine set row y l)
    let a := b.rowAddr pool p.buf y
    let (ok, b) := dramAccess c 6 (b.poolPart pool) a line.length true (8 + e / 2) b
    if ok then b.store a line else b) b

/-- Conceal every CTU row from the picture's next one to its end (R141). -/
def concealRest (c : Clk) (m : Mem) (e : Nat) (p : DecPic) (b : Block) : DecPic × Block :=
  let cl := b.ctuLines e p.ctx
  let w := b.srcWidth p.src
  let h := b.srcHeight p.src
  let pool := b.ctxPool e p.ctx
  let total := (h + cl - 1) / cl
  let cols := List.range ((w + cl - 1) / cl)
  let b := (List.range (h - p.rows * cl)).foldl (fun b l =>
    let y := p.rows * cl + l
    let a := b.rowAddr pool p.buf y
    let (ok, b) := dramAccess c 6 (b.poolPart pool) a (3 * w) true (8 + e / 2) b
    if ok then b.store a (concealLine m b e p.ctx p.src p.head.poc y) else b) b
  let n := (total - p.rows) * cols.length
  let bad := (List.range (total - p.rows)).flatMap fun k => concealedBlocks cl w h (p.rows + k) cols
  ({ p with rows := max p.rows total, bad := p.bad ++ bad, concealed := p.concealed + n }, countConcealed e p.ctx n b)

/-- One CTU row is decoded and filtered (R124, R139, R141-R145). -/
def ctuRowDone (c : Clk) (m : Mem) (e : Nat) (row : CtuRow) (b : Block) : Block :=
  match (b.eng e).pic with
  | none => b
  | some p =>
    let x := b.ctx e p.ctx
    let set := match row.activate with | some s => some s | none => x.set
    let judged := row.activate.isSome || b.ctxState e p.ctx = ctxRefused
    let reason := match set with | some s => if judged then refusalReason b p.src s else 0 | none => 0
    let b := match row.activate with
      | some s => reportSet e p.ctx s (b.setCtx e p.ctx { x with set := some s })
      | none => b
    match set with
    | none => b
    | some s =>
      if reason ≠ 0 then afterUnit c e (refuseStream c e p s reason b)
      else
        let subs := row.missing.foldl (fun (q : Bool × Block) n =>
          if q.1 then (match absentBuffer c e p n q.2 with | some b => (true, b) | none => (false, q.2)) else q) (true, b)
        let b := subs.2
        if !subs.1 then
          let b := (b.evt F.DEC_EVT_STARVE e).record (inst := e) 0x2807 4 p.src p.frame (b.poolCount (b.poolOf p.src)) (b2n p.head.isRef)
          let b := abandonPicture c e b
          afterUnit c e (if p.head.isRef then contextWait c e p.ctx b else b)
        else
          let cl := b.ctuLines e p.ctx
          let h := b.srcHeight p.src
          if h ≤ p.rows * cl then b
          else
            let cols := (row.concealed ++ row.memErrs.map (·.1)).eraseDups
            let b := storeCtuRow c m e p s row cols b
            let b := row.syntaxErrs.foldl (fun b q =>
              ((b.evt F.DEC_EVT_CONCEAL e).inc F.DEC_CTX_ERR_SYNTAX e p.ctx).recordLim (inst := e) c (0x28030000 + 64 * e + p.ctx) sTick
                0x2803 3 p.src p.frame q.1 q.2) b
            let b := row.memErrs.foldl (fun b q =>
              (b.evt F.DEC_EVT_MEMERR e).record (inst := e) 0x2806 5 p.src p.frame q.2.toNat 0) b
            let b := countConcealed e p.ctx cols.length b
            let bad0 := p.bad ++ concealedBlocks cl (b.srcWidth p.src) h p.rows cols
            let bad := row.blocks.foldl (fun l q => if blockBad b e p.ctx h l q then l ++ [(q.x, q.y)] else l) bad0
            let nrows := (h + 15) / 16
            let p' := { p with rows := p.rows + 1, bad := bad, concealed := p.concealed + cols.length }
            let wm := if h ≤ p'.rows * cl then nrows else min nrows (rowsAfter cl p.rows)
            let k := bufKey (b.ctxPool e p.ctx) p.buf
            let b := b.setBuf k { b.buf k with rowmark := rowmarkOf nrows bad, rowsReady := wm }
            (b.put F.DEC_CTX_WM_ROWS wm e p.ctx).setEng e { b.eng e with pic := some p' }

/-! ## The end of a unit (R130, R136-R138, R144) -/

/-- The motion field behind the last pixel row (R127): the engine keeps it in a form of its own, so its bytes are free. -/
def storeMotion (c : Clk) (e : Nat) (p : DecPic) (b : Block) : Block :=
  let pool := b.ctxPool e p.ctx
  let n := 16 * ((b.srcWidth p.src + 15) / 16) * ((b.srcHeight p.src + 15) / 16)
  let a := b.rowAddr pool p.buf (b.srcHeight p.src)
  let (ok, b) := dramAccess c 6 (b.poolPart pool) a n true (8 + e / 2) b
  let (l, b) := b.freshBytes n
  if ok then b.store a l else b

/-- The header of the picture is final: its class, marks and fingerprint (R136, R144, R212). -/
def finishPicture (c : Clk) (m : Mem) (e : Nat) (p : DecPic) (b : Block) : Block :=
  let pool := b.ctxPool e p.ctx
  let k := bufKey pool p.buf
  let nrows := (b.srcHeight p.src + 15) / 16
  let marks := if p.whole then 2 ^ nrows - 1 else rowmarkOf nrows p.bad
  let row (y : Nat) := (m.puts b.stores).bytes (b.rowAddr pool p.buf y) (3 * b.srcWidth p.src)
  let fixed := (b.src p.src).frames.any fun f => f.number = p.frame && f.repaired
  let b := storeMotion c e p b
  let x := { b.buf k with
    flags := (b.buf k).flags ||| (if fixed then 2 else 0), rowmark := marks, cls := if marks = 0 then 0 else 1, rowsReady := nrows, fprint := fingerprintDec b p.src row }
  ((b.setBuf k x).store (b.bufAddr pool p.buf) x.header).put F.DEC_CTX_WM_ROWS nrows e p.ctx

/-- The context's state after a decoded picture (R129, R130): an entry point whose parameter set is accepted leads to RUN or
RECOVER; the recovery point to RUN. The first RUN since binding is recorded with code 0x2802. What an IDR or IRAP picture
does in RECOVER the spec does not say: DEDUCED from the table Context states, the context stays in RECOVER until the recovery
point (log 79). -/
def enterAfter (e : Nat) (p : DecPic) (b : Block) : Block :=
  let x := b.ctx e p.ctx
  let st := b.ctxState e p.ctx
  let (st', kind, rec) :=
    if (st = ctxWait || st = ctxRefused) && !(x.set.any fun s => refusalReason b p.src s = 0) then (st, 0, none)
    else if st = ctxWait || st = ctxRefused then
      (match p.head.entry with
        | some .idr => (ctxRun, 0, none)
        | some (.cra _) => (ctxRun, 1, none)
        | some .bla => (ctxRun, 2, none)
        | some (.recovery n) => (if n ≤ p.head.num then ctxRun else ctxRecover, 3, some n)
        | none => (st, 0, none))
    else if st = ctxRecover then
      (match x.recoverAt with
        | some n => (if n ≤ p.head.num then ctxRun else ctxRecover, 3, some n)
        | none => (st, 3, none))
    else (st, 0, x.recoverAt)
  let b := setCtxState e p.ctx st' (b.setCtx e p.ctx { x with recoverAt := rec, ran := x.ran || st' = ctxRun })
  if st' = ctxRun && !x.ran then (b.evt F.DEC_EVT_ENTRY e).record (inst := e) 0x2802 2 p.src p.ctx p.frame kind
  else if st' = ctxRun && st ≠ ctxRun then b.evt F.DEC_EVT_ENTRY e
  else b

/-- A decoded picture becomes READY (R138); the agreement of the pair does not apply to STREAM contexts (R291). -/
def outputPicture (c : Clk) (e ctx i : Nat) (b : Block) : Block :=
  let pool := b.ctxPool e ctx
  let x := b.buf (bufKey pool i)
  let k := b.ctx e ctx
  let b := markUnits c k.src (k.units.filter (·.1 = i)) (b.setCtx e ctx { k with units := k.units.filter (·.1 ≠ i) })
  if x.state == .filling then makeReady c x.src pool i x (b.agrees x.src) b else b

/-- Decoding of an access unit ends (R138): concealment of what is missing, the hash check, the marks, the output. -/
def accessUnitEnd (c : Clk) (m : Mem) (e : Nat) (fin : AuEnd) (b : Block) : Block :=
  match (b.eng e).pic with
  | none => b
  | some p =>
    match fin.lost with
    | some a =>
      let b := b.record (inst := e) 0x2806 5 p.src p.frame a.toNat 1
      afterUnit c e (contextWait c e p.ctx (abandonPicture c e b))
    | none =>
      let (p, b) := concealRest c m e p b
      let bad := match fin.hash with
        | some (x, y) => b.on F.DEC_CTX_CFG_HASH_CHK e p.ctx && x ≠ y
        | none => false
      let b := match fin.hash with
        | some (x, y) => if bad then (b.evt F.DEC_EVT_HASH e).record (inst := e) 0x2808 4 p.src p.frame x.toNat y.toNat else b
        | none => b
      let p := { p with whole := p.whole || bad }
      let b := finishPicture c m e p b
      let b := enterAfter e p b
      let b := fin.marks.foldl (fun b q => if q.2.val = 3 then b else setMark e p.ctx q.1.val q.2.val b) b
      let x := b.ctx e p.ctx
      let shown := b.ctxState e p.ctx = ctxRun && p.head.output
      let reorder := b.on F.DEC_CTX_STAT_REORDER e p.ctx
      let waiting := if shown && reorder then x.waiting ++ [p.buf] else x.waiting
      let outs := if reorder then (fin.outputs.map (·.val)).filter waiting.contains else if shown then [p.buf] else []
      let b := b.setCtx e p.ctx { x with
        pocs := (x.pocs.filter fun q => q.1 ≠ p.buf) ++ [(p.buf, p.head.poc)],
        waiting := waiting.filter fun i => !outs.contains i
        units := if shown && reorder then
            x.units ++ ((b.src p.src).frames.filter (·.number = p.frame)).map fun f => (p.buf, f)
          else x.units }
      let b := outs.foldl (fun b i => outputPicture c e p.ctx i b) b
      let b := if shown then b else settleBuf (bufKey (b.ctxPool e p.ctx) p.buf) b
      let waits := (b.ctx e p.ctx).waiting.contains p.buf
      afterUnit c e (engineIdle c e (leaveUnit c p.src p.frame waits b))

/-- An access unit not complete AU_US after decoding began (R141, code 0x2805): the rest is concealed and the picture
completes. -/
def decodeWatchdog (c : Clk) (m : Mem) (e : Nat) (fin : AuEnd) (b : Block) : Block :=
  match (b.eng e).pic with
  | none => b
  | some p =>
    let us := b.get F.DEC_WDOG_AU_US e
    if c.steady < p.start + us * usTick then b
    else
      let (p, b) := concealRest c m e p b
      let b := (b.evt F.DEC_EVT_WDOG e).record (inst := e) 0x2805 4 p.src p.frame p.concealed us
      accessUnitEnd c m e fin (b.setEng e { b.eng e with pic := some p })

/-- Thousandths of the last second of steady time for which the engine was busy (DEC_LOAD.MEAS). -/
def busyLoad (c : Clk) (b : Block) (e : Nat) : Nat :=
  let x := b.eng e
  let open_ := match x.pic with | some p => [(p.start, c.steady)] | none => []
  let from_ := c.steady - sTick
  let n := ((x.busy ++ open_).map fun iv => iv.2 - max iv.1 from_).sum
  min 1000 (n * 1000 / sTick)

/-- A picture is in decode, or was abandoned and is still in use (DEC_CTX_WM.VALID). -/
def wmValid (b : Block) (e c : Nat) : Bool :=
  (match (b.eng e).pic with | some p => p.ctx == c | none => false) ||
    (b.ctxState e c ≠ ctxUnbound && (b.buf (bufKey (b.ctxPool e c) (b.get F.DEC_CTX_WM_BUF e c))).abandoned)

end Sys2Proof.Machine
end

