-- ==== Sys2Proof/Machine/Source.lean ====
section
/-! DEFINITION. Source control: enable and its checks, disable, the F fields, ring tails (R85-R91, R108, R110, R113,
R118, R127, R128, R132, R134). -/

namespace Sys2Proof.Machine

open Sys2Proof

/-! ## Loads -/

/-- The exact sum of fractions, as a numerator and a denominator; one with denominator 0 counts nothing. -/
def fracSum (l : List (Nat × Nat)) : Nat × Nat :=
  l.foldl (fun s q => if q.2 = 0 then s else (s.1 * q.2 + q.1 * s.2, s.2 * q.2)) (0, 1)

/-- The sources that run. -/
def runningSources (b : Block) : List Nat := (List.range 384).filter fun s => b.srcRuns s

/-- Width × height × rate of a source. -/
def pixelRate (b : Block) (extra s : Nat) : Nat × Nat :=
  ((b.srcWidth s * b.srcHeight s + extra) * b.get F.LAD_SRC_FMT2_RATE_NUM s, b.get F.LAD_SRC_FMT2_RATE_DEN s)

/-- The sum of width × height × rate over ST 2110-20 sources. -/
def uncompressedLoad (b : Block) (l : List Nat) : Nat × Nat :=
  fracSum ((l.filter fun s => b.transport s = 2).map (pixelRate b 0))

/-- The sources of an engine. -/
def engineSources (b : Block) (e : Nat) (l : List Nat) : List Nat :=
  l.filter fun s => b.transport s < 2 && b.get F.LAD_SRC_DEC_ENGINE s = e

/-- The admitted load of an engine times 550,000,000 (R134): 20 µs a frame is 11,000 pixels. -/
def admittedLoad (b : Block) (e : Nat) (l : List Nat) : Nat × Nat := fracSum ((engineSources b e l).map (pixelRate b 11000))

/-- The status fields that follow from the running sources. -/
def countSources (b : Block) : Block :=
  let l := runningSources b
  let u := uncompressedLoad b l
  let b := (b.put F.LAD_STAT_RUNNING l.length).put F.LAD_STAT_UNC_LOAD ((u.1 + u.2 * 1000000 - 1) / (u.2 * 1000000))
  (List.range 8).foldl (fun b e =>
    let a := admittedLoad b e l
    b.put F.DEC_LOAD_ADMIT ((1000 * a.1 + a.2 * 550000000 - 1) / (a.2 * 550000000)) e) b

/-! ## Enable (R91) -/

/-- The stored row size of the source's layout (R113). -/
def storedRowSize (b : Block) (s : Nat) : Nat :=
  let tr := b.transport s
  if tr = 2 || (tr = 3 && !b.on F.LAD_SRC_DEC_LAYOUT s) then 6 * b.srcWidth s else 3 * b.srcWidth s

/-- The pool of a source is too small (R113, R127). -/
def poolTooSmall (b : Block) (s : Nat) : Bool :=
  let p := b.poolOf s
  let w := b.srcWidth s
  let h := b.srcHeight s
  let motion := if b.transport s < 2 then 16 * ((w + 15) / 16) * ((h + 15) / 16) else 0
  let n := b.poolCount p
  n < 3 || 16 < n || b.poolPitch p % 256 ≠ 0 || b.poolPitch p < storedRowSize b s ||
    b.get F.LAD_POOL_GEOM_BUF_SIZE p * 4096 < 4096 + b.poolPitch p * h + motion

/-- A ring lies in the group that R108 requires of a source's path: groups 1 to 12 for ingest, 15 for a peer share
(log 13). -/
def ringGroupOk (tr ring : Nat) : Bool := if tr = 3 then ring / 16 = 15 else 1 ≤ ring / 16 && ring / 16 ≤ 12

/-- Why an enable is refused, or 0 (R91, R132, R134, table Source refusal reasons). -/
def srcRefusal (b : Block) (s : Nat) : Nat :=
  let tr := b.transport s
  let paths := b.get F.LAD_SRC_CTL_PATHS s
  let num := b.get F.LAD_SRC_FMT2_RATE_NUM s
  let den := b.get F.LAD_SRC_FMT2_RATE_DEN s
  let l := runningSources b
  let e := b.get F.LAD_SRC_DEC_ENGINE s
  let u := uncompressedLoad b (l ++ [s])
  let a := admittedLoad b e (l ++ [s])
  let cx := b.get F.LAD_SRC_DEC_CTX s
  if 3 < tr then 0x05
  else if paths = 0 then 0x0B
  else if den = 0 || 60 * den < num then 0x0C
  else if (bit paths 0 && !ringGroupOk tr (b.get F.LAD_SRC_RING_RING_A s)) ||
      (bit paths 1 && !ringGroupOk tr (b.get F.LAD_SRC_RING_RING_B s)) then 0x06
  else if l.any (fun t => b.poolOf t = b.poolOf s) then 0x07
  else if poolTooSmall b s then 0x08
  else if tr = 2 && 4976640000 * u.2 < u.1 then 0x09
  else if tr < 2 && (engineSources b e l).any (fun t => b.get F.LAD_SRC_DEC_CTX t = cx) then 0x0A
  else if tr < 2 && 550000000 * a.2 < a.1 then 0x10
  else if tr < 2 && !(engineSources b e l).isEmpty && (b.on F.DEC_CTX_CFG_STREAM e cx ||
      (engineSources b e l).any fun t => b.on F.DEC_CTX_CFG_STREAM e (b.get F.LAD_SRC_DEC_CTX t)) then 0x11
  else 0

/-- The offset of a source's register in the LAD window. -/
def srcOffset (s off : Nat) : Nat := 0x4000 + 0x40 * s + off

/-- A configuration is refused (R122, code 0x1807). -/
def srcConfigRefused (s off value reason : Nat) (b : Block) : Block :=
  (b.evt F.LAD_EVT_CFG_ERR).record 0x1807 3 s (srcOffset s off) value reason

/-- LAD_SRC_CTL.EN written 1 (R91, R128): the source starts, or the enable is refused and EN stays 0. -/
def srcEnable (c : Clk) (s : Nat) (b : Block) : Block :=
  if b.srcRuns s then b
  else
    let v := (b.reg (F.LAD_SRC_CTL_EN.at s)).toNat
    let r := srcRefusal b s
    if r ≠ 0 then srcConfigRefused s 0 v r (b.flag F.LAD_SRC_CTL_EN false s)
    else
      let b := (b.flag F.LAD_SRC_STAT_RUN true s).setReg (F.LAD_SRC_LOSS_LOST.at s) 0
      let b := (b.setSrc s { lastReady := c.steady, lastA := c.steady, lastB := c.steady }).flag F.LAD_SRC_STAT_CAPT false s
      let b := if b.transport s < 2 then bindContext (b.get F.LAD_SRC_DEC_ENGINE s) (b.get F.LAD_SRC_DEC_CTX s) s b else b
      countSources b

/-- LAD_SRC_CTL.EN written 0 (R85, R107, R118, R128, R213): the source stops. -/
def srcDisable (c : Clk) (s : Nat) (b : Block) : Block :=
  if !b.srcRuns s then b
  else
    let b := if b.transport s < 2 then
      unbindContext c (b.get F.LAD_SRC_DEC_ENGINE s) (b.get F.LAD_SRC_DEC_CTX s) s b else b
    let p := b.poolOf s
    let b := (List.range 16).foldl (fun b i =>
      let k := bufKey p i
      match (b.buf k).state with
      | .filling => b.setBuf k {}
      | .ready => retireBuf k b
      | _ => b) b
    let b := freezeStop c s b
    let b := (b.flag F.LAD_SRC_STAT_RUN false s).flag F.LAD_SRC_STAT_ACQ false s
    let b := ((b.flag F.LAD_SRC_STAT_PATH_A false s).flag F.LAD_SRC_STAT_PATH_B false s).flag F.LAD_SRC_STAT_CAPT false s
    countSources ((b.put F.LAD_SRC_STAT_CLASS 2 s).setSrc s {})

/-! ## F fields (R86-R90) -/

/-- An address of a source's F fields. -/
def isSrcField (s a : Nat) : Bool := F.LAD_SRC_MAXAGE_MAXAGE.at s ≤ a && a ≤ F.LAD_SRC_POLICY_DEG_POL.at s

/-- The source whose F fields hold an address. -/
def srcOfField (a : Nat) : Option Nat :=
  if 0x184000 ≤ a && a < 0x18A000 && isSrcField ((a - 0x184000) / 0x40) a then some ((a - 0x184000) / 0x40) else none

/-- The register and the reason that break the limits of a source's F fields, if any (R87-R90). -/
def srcFieldsBad (b : Block) (s : Nat) : Option (Nat × Nat) :=
  let age := b.get F.LAD_SRC_MAXAGE_MAXAGE s
  let fr := b.get F.LAD_SRC_CHANGE_FREEZE s
  let w := b.get F.LAD_SRC_MCW1_W s
  if age = 0 || 60000 < age then some (0x1C, 0x01)
  else if fr ≠ 0 && fr < b.get F.LAD_SRC_CHANGE_CHG_INT s then some (0x20, 0x02)
  else if w ≠ 0 && (b.srcWidth s < b.get F.LAD_SRC_MCW0_X s + w ||
      b.srcHeight s < b.get F.LAD_SRC_MCW0_Y s + b.get F.LAD_SRC_MCW1_H s) then some (0x28, 0x03)
  else if 2 ≤ b.get F.LAD_SRC_POLICY_DEG_POL s then some (0x2C, 0x04)
  else if 1000000 < b.get F.LAD_SRC_POLICY_TRANSIT s then some (0x2C, 0x0D)
  else none

/-- A set of F-field writes of a source takes effect together, or not at all (R86, R90). -/
def srcFieldsApply (c : Clk) (s : Nat) (l : List Pend) (b : Block) : Block :=
  if l.isEmpty then b
  else
    let b' := b.applyPends l
    match srcFieldsBad b' s with
    | some (off, reason) => srcConfigRefused s off (b'.reg (0x184000 + 0x40 * s + off)).toNat reason b
    | none => if b'.get F.LAD_SRC_CHANGE_FREEZE s = 0 then freezeStop c s b' else b'

/-- The waiting F-field writes of a source take effect (R86). -/
def srcFieldsTake (c : Clk) (s : Nat) (b : Block) : Block :=
  let l := b.pendF.filter fun p => isSrcField s p.addr && b.ripe p
  if l.isEmpty then b
  else srcFieldsApply c s l { b with pendF := b.pendF.filter fun p => !(isSrcField s p.addr && b.ripe p) }

/-- F-field writes that the time before the seal lets take effect as class L (R86): one set for each source. -/
def srcFieldsTakeL (c : Clk) (b : Block) : Block :=
  let l := b.pendL.filter fun p => (srcOfField p.addr).isSome
  let b := { b with pendL := b.pendL.filter fun p => (srcOfField p.addr).isNone }
  (l.filterMap fun p => srcOfField p.addr).eraseDups.foldl (fun b s =>
    srcFieldsApply c s (l.filter fun p => isSrcField s p.addr) b) b

/-! ## Rings (R110) -/

/-- A ring is bound to a running compressed source (R110). -/
def ringDecoded (b : Block) (n : Nat) : Bool :=
  (runningSources b).any fun s =>
    b.transport s < 2 &&
      ((bit (b.get F.LAD_SRC_CTL_PATHS s) 0 && b.get F.LAD_SRC_RING_RING_A s = n) ||
        (bit (b.get F.LAD_SRC_CTL_PATHS s) 1 && b.get F.LAD_SRC_RING_RING_B s = n))

end Sys2Proof.Machine
end

