-- ==== Sys2Proof/Machine/Compose.lean ====
section
/-! DEFINITION. The Crucibles' arithmetic: slots, placement, footprints, fetch, colour, scaling, blending and tile tags
(R153-R179). -/

namespace Sys2Proof.Machine

open Sys2Proof

def Block.mould (b : Block) (cru m : Nat) : MouldSt := tget {} b.moulds (96 * cru + m)
def Block.setMould (b : Block) (cru m : Nat) (x : MouldSt) : Block :=
  { b with moulds := tput {} b.moulds (96 * cru + m) x }

/-! ## Slots (R154) -/

/-- The enabled slot that drives a head: Crucible and slot. -/
def Block.slotOf (b : Block) (h : Nat) : Option (Nat × Nat) :=
  ((List.range 4).flatMap fun cru => (List.range 16).map fun k => (cru, k)).find? fun q =>
    b.on F.CRU_HEAD_MAP_EN q.1 q.2 && b.get F.CRU_HEAD_MAP_HEAD q.1 q.2 = h

def Block.slotHead (b : Block) (cru k : Nat) : Nat := b.get F.CRU_HEAD_MAP_HEAD cru k
def Block.slotWidth (b : Block) (cru k : Nat) : Nat := b.get F.CRU_HEAD_CFG_WIDTH cru k
def Block.slotLead (b : Block) (cru k : Nat) : Nat := b.get F.CRU_HEAD_CFG_LEAD cru k

def Block.fet (b : Block) (h : Nat) : FetHead := tget {} b.fets h
def Block.setFet (b : Block) (h : Nat) (x : FetHead) : Block := { b with fets := tput {} b.fets h x }

/-- The active width of a head: that of its enabled slot (R154, R194). A head that has lost its slot keeps the width that the
slot had: DEDUCED, since its stream goes on hatched from edge to edge (R198, log 81). -/
def Block.headWidth (b : Block) (h : Nat) : Nat :=
  match b.slotOf h with | some (cru, k) => b.slotWidth cru k | none => (b.fet h).width

/-- A slot produces bands (CRU_HEAD_MAP.RUN): it is enabled, its raster runs and its Crucible is enabled. -/
def Block.slotRuns (b : Block) (cru k : Nat) : Bool :=
  b.domOn (5 + cru) && b.on F.CRU_HEAD_MAP_EN cru k && b.on F.CRU_CTL_EN cru && b.on F.TIM_HEAD_STAT_RUN (b.slotHead cru k)

/-- The tile columns of a width. -/
def tileCols (w : Nat) : Nat := (w + 63) / 64

/-- The lines of a band of a head. -/
def bandLines (act band : Nat) : Nat := min 16 (act - 16 * band)

/-! ## Placement and scaling geometry (R162, R165, R169, R171) -/

/-- The geometry of a mould: crop, placement, decimation factors. -/
structure Geo where
  cx : Nat
  cy : Nat
  cw : Nat
  ch : Nat
  dx : Int
  dy : Int
  dw : Nat
  dh : Nat
  n : Nat
  m : Nat

/-- The decimation factor of a ratio crop / placement (R169). -/
def decFactor (c d : Nat) : Nat := if c ≤ 2 * d then 1 else if c ≤ 4 * d then 2 else 4

/-- A video mould (R160). -/
def isVideo (m : Nat) : Bool := m < 32

/-- The geometry in effect of a mould. -/
def Block.geo (b : Block) (cru m : Nat) : Geo :=
  let cw := b.get F.CRU_M_CROP_WH_W cru m
  let ch := b.get F.CRU_M_CROP_WH_H cru m
  let dw := b.get F.CRU_M_DST_WH_W cru m
  let dh := b.get F.CRU_M_DST_WH_H cru m
  { cx := b.get F.CRU_M_CROP_XY_X cru m, cy := b.get F.CRU_M_CROP_XY_Y cru m, cw := cw, ch := ch,
    dx := b.geti F.CRU_M_DST_XY_X cru m, dy := b.geti F.CRU_M_DST_XY_Y cru m, dw := dw, dh := dh,
    n := if isVideo m then decFactor cw dw else 1, m := if isVideo m then decFactor ch dh else 1 }

/-- The decimated crop size on each axis. -/
def Geo.sw (g : Geo) : Nat := g.cw / g.n
def Geo.sh (g : Geo) : Nat := g.ch / g.m

/-- The step of an axis (R171). -/
def axisStep (s d : Nat) : Nat := if d = 0 then 0 else s * 65536 / d

/-- The position of output index `i` on an axis, 16.16 (R171). -/
def axisPos (s d i : Nat) : Int := (((axisStep s d : Nat) : Int) - 65536) / 2 + ((i * axisStep s d : Nat) : Int)

/-- The first and last samples before decimation that outputs `i0` to `i1` read, with taps from `lo` to `hi`. -/
def axisSpan (crop dec s d i0 i1 : Nat) (lo hi : Int) : Nat × Nat :=
  if s = d then (crop + dec * i0, crop + dec * i1 + dec - 1)
  else
    let cl (x : Int) : Nat := (max 0 (min ((s : Int) - 1) x)).toNat
    let a := cl (axisPos s d i0 / 65536 + lo)
    let z := cl (axisPos s d i1 / 65536 + hi)
    (crop + dec * a, crop + dec * z + dec - 1)

/-- The placement indices that a range of head coordinates covers on an axis. -/
def axisCover (dst : Int) (size lo hi : Nat) : Option (Nat × Nat) :=
  let a : Int := max 0 ((lo : Int) - dst)
  let z : Int := min ((size : Int) - 1) ((hi : Int) - dst)
  if a ≤ z then some (a.toNat, z.toNat) else none

/-- The source lines that a layer reads for head lines `y0` to `y1` (R176). -/
def Geo.lines (g : Geo) (y0 y1 : Nat) : Option (Nat × Nat) :=
  (axisCover g.dy g.dh y0 y1).map fun q => axisSpan g.cy g.m g.sh g.dh q.1 q.2 (-2) 3

/-- The source columns that a layer reads for head columns `x0` to `x1`. -/
def Geo.cols (g : Geo) (x0 x1 : Nat) : Option (Nat × Nat) :=
  (axisCover g.dx g.dw x0 x1).map fun q => axisSpan g.cx g.n g.sw g.dw q.1 q.2 (-3) 4

/-! ## Contribution (R161, R174, R175) -/

/-- A mould reads a source's pool (R162). -/
def Block.sourced (b : Block) (cru m : Nat) : Bool := isVideo m || b.on F.CRU_M_CTL_INPUT cru m

/-- Insert before the first entry with no smaller key. -/
def insertBy (key : Nat → Nat) (a : Nat) : List Nat → List Nat
  | [] => [a]
  | x :: t => if key a ≤ key x then a :: x :: t else x :: insertBy key a t

/-- The moulds that draw on a slot, in blend order: ascending Z, ties in ascending index (R161). -/
def Block.drawing (b : Block) (cru k : Nat) : List Nat :=
  let l := (List.range 96).filter fun m => b.on F.CRU_M_CTL_EN cru m && b.get F.CRU_M_CTL_SLOT cru m = k
  l.foldr (insertBy fun m => b.get F.CRU_M_CTL_Z cru m) []

/-- A mould's clipped placement covers a pixel of a rectangle of its head, and its plane alpha is not 0 (R174). -/
def Block.contributes (b : Block) (cru m x0 x1 y0 y1 : Nat) : Bool :=
  let g := b.geo cru m
  b.get F.CRU_M_ALPHA_PLANE cru m ≠ 0 && (axisCover g.dx g.dw x0 x1).isSome && (axisCover g.dy g.dh y0 y1).isSome

/-- The head columns of a tile. -/
def tileX (w col : Nat) : Nat × Nat := (64 * col, min (64 * col + 63) (w - 1))

/-! ## Fetch (R163, R166, R167) -/

/-- The pool and the index of a buffer key. -/
def keyPool (k : Nat) : Nat := k / 16
def keyIdx (k : Nat) : Nat := k % 16

/-- The frames of a source are in the decoded layout (R126, R166). -/
def Block.decodedLayout (b : Block) (s : Nat) : Bool := b.transport s < 2 || (b.transport s = 3 && b.on F.LAD_SRC_DEC_LAYOUT s)

/-- A 16-bit container of a stored row, reduced to 12 bits. -/
def sample12 (m : Mem) (a : Nat) : Nat := ofLe (m.bytes a 2) / 16

/-- Component `c` of source pixel (x, y) of a buffer (R166). -/
def srcComp (m : Mem) (b : Block) (s k x y c : Nat) : Nat :=
  let row (r : Nat) : Nat := b.rowAddr (keyPool k) (keyIdx k) r
  if !b.decodedLayout s then sample12 m (row y + 6 * x + 2 * c)
  else if c = 0 then sample12 m (row y + 2 * x)
  else
    let w := b.srcWidth s
    let base := row (2 * (y / 2) + (c - 1)) + 2 * w
    let at_ (i : Nat) : Nat := sample12 m (base + 2 * i)
    if x % 2 = 0 then at_ (x / 2)
    else if x + 1 < w then (at_ ((x - 1) / 2) + at_ ((x + 1) / 2) + 1) / 2
    else at_ ((x - 1) / 2)

/-- 8-bit and 10-bit plate samples in 12 bits (R167). -/
def expand8 (v : Nat) : Nat := v * 16 + v / 16
def expand10 (v : Nat) : Nat := v * 4 + v / 256

/-- The address of a plate (R163). -/
def Block.plateAddr (b : Block) (cru m : Nat) : Nat :=
  b.get F.CRU_M_PLATE_LO_ADDR_LO cru m * 4096 + b.get F.CRU_M_PLATE_HI_ADDR_HI cru m * 2 ^ 32

/-- A plate pixel: R, G, B in 12 bits and its alpha from 0 to 256 (R163, R167, R173). -/
def platePixel (m : Mem) (b : Block) (cru mo x y : Nat) : Nat × Nat × Nat × Nat :=
  let v := ofLe (m.bytes (b.plateAddr cru mo + y * b.get F.CRU_M_PLATE_FMT_PITCH cru mo + 4 * x) 4)
  if b.on F.CRU_M_PLATE_FMT_FMT cru mo then
    (expand10 (bits v 20 10), expand10 (bits v 10 10), expand10 (bits v 0 10),
      [0, 85, 171, 256].getD (bits v 30 2) 0)
  else
    let a := bits v 24 8
    (expand8 (bits v 16 8), expand8 (bits v 8 8), expand8 (bits v 0 8), a + a / 128)

/-! ## Colour (R168) -/

def clamp12 (x : Int) : Nat := (max 0 (min 4095 x)).toNat

/-- The coefficients ky, krv, kgu, kgv, kbu of the table Input matrices. -/
def matrixCoefs (i : Nat) : Int × Int × Int × Int × Int :=
  if i = 1 then (4787, 6901, 770, 2674, 8805) else (4787, 7370, 877, 2191, 8684)

/-- Convert a fetched sample to full-range R'G'B' (R168). -/
def toRgb (i : Nat) (y u v : Nat) : Nat × Nat × Nat :=
  if i = 2 then (y, u, v)
  else if i = 3 then
    let f (x : Nat) : Nat := clamp12 ((4787 * ((x : Int) - 256) + 2048) / 4096)
    (f y, f u, f v)
  else
    let (ky, krv, kgu, kgv, kbu) := matrixCoefs i
    let yn : Int := (y : Int) - 256
    let cb : Int := (u : Int) - 2048
    let cr : Int := (v : Int) - 2048
    (clamp12 ((ky * yn + krv * cr + 2048) / 4096), clamp12 ((ky * yn - kgu * cb - kgv * cr + 2048) / 4096),
      clamp12 ((ky * yn + kbu * cb + 2048) / 4096))

/-- A component of a colour. -/
def comp (c : Nat) (p : Nat × Nat × Nat) : Nat := if c = 0 then p.1 else if c = 1 then p.2.1 else p.2.2

/-- A component of a converted source pixel. -/
def rgbComp (m : Mem) (b : Block) (cru mo s k x y c : Nat) : Nat :=
  comp c (toRgb (b.get F.CRU_M_CTL_MATRIX cru mo) (srcComp m b s k x y 0) (srcComp m b s k x y 1) (srcComp m b s k x y 2))

/-! ## Scaling (R170, R171) -/

/-- The rounded mean of `n` values that are 1, 2 or 4. -/
def boxMean (n : Nat) (f : Nat → Nat) : Nat := (((List.range n).map f).sum + n / 2) / n

/-- A sample of the decimated crop (R170): lines first, then columns. -/
def decimated (g : Geo) (px : Nat → Nat → Nat) (i j : Nat) : Nat :=
  boxMean g.n fun a => boxMean g.m fun d => px (g.cx + g.n * i + a) (g.cy + g.m * j + d)

/-- The vertical tap `t` and the horizontal tap `t` of a phase of a bank. -/
def coefV (b : Block) (cru bank ph t : Nat) : Int :=
  let f := if t = 0 then F.CRU_COEF_V0_EVEN else if t = 1 then F.CRU_COEF_V0_ODD else if t = 2 then F.CRU_COEF_V1_EVEN
    else if t = 3 then F.CRU_COEF_V1_ODD else if t = 4 then F.CRU_COEF_V2_EVEN else F.CRU_COEF_V2_ODD
  b.geti f cru bank ph
def coefH (b : Block) (cru bank ph t : Nat) : Int :=
  b.geti (if t % 2 = 0 then F.CRU_COEF_H_EVEN else F.CRU_COEF_H_ODD) cru bank (4 * ph + t / 2)

/-- One filter output (R171). -/
def filtered (taps : Nat) (k0 : Int) (coef : Nat → Nat → Int) (s d : Nat) (f : Nat → Nat) (i : Nat) : Nat :=
  if s = d then f i
  else
    let p := axisPos s d i
    let ip := p / 65536
    let ph := (p / 1024 % 64).toNat
    let v := ((List.range taps).map fun t =>
      coef ph t * ((f (max 0 (min ((s : Int) - 1) (ip + k0 + t))).toNat : Nat) : Int)).sum
    clamp12 ((v + 128) / 256)

/-- A component of a scaled layer at placement index (i, j): the vertical filter first, then the horizontal. -/
def scaled (b : Block) (cru mo : Nat) (g : Geo) (px : Nat → Nat → Nat) (i j : Nat) : Nat :=
  let bank := b.get F.CRU_M_CTL_BANK cru mo
  filtered 8 (-3) (coefH b cru bank) g.sw g.dw
    (fun x => filtered 6 (-2) (coefV b cru bank) g.sh g.dh (fun y => decimated g px x y) j) i

/-! ## Blending (R164, R173) -/

/-- A plane alpha from 0 to 256. -/
def planeAlpha (v : Nat) : Nat := v + v / 128

/-- The pixel of a layer at a head position: its colour and its alpha, none where it does not draw. -/
def layerPixel (m : Mem) (b : Block) (q : CompBand) (r : LayerRead) (x y : Nat) : Option ((Nat × Nat × Nat) × Nat) :=
  let g := b.geo q.cru r.mould
  match axisCover g.dx g.dw x x, axisCover g.dy g.dh y y with
  | some (i, _), some (j, _) =>
    let plane := planeAlpha (b.get F.CRU_M_ALPHA_PLANE q.cru r.mould)
    match q.failed.find? fun f => f.1 = r.mould && f.2.1 = x / 64 with
    | some (_, _, base) =>
      let v (c : Nat) : Nat := (Config.freeValue (base + (y % 16 * 64 + x % 64) * 3 + c)).toNat % 4096
      some ((v 0, v 1, v 2), plane)
    | none =>
      match r.src with
      | none =>
        let (red, gr, bl, a) := platePixel m b q.cru r.mould (g.cx + i) (g.cy + j)
        let ap := if b.on F.CRU_M_CTL_PPA q.cru r.mould then a else 256
        some ((red, gr, bl), (plane * ap + 128) / 256)
      | some s =>
        match r.key with
        | none => some ((2048, 2048, 2048), plane)
        | some k =>
          let f (c : Nat) : Nat :=
            if isVideo r.mould then scaled b q.cru r.mould g (fun x y => rgbComp m b q.cru r.mould s k x y c) i j
            else rgbComp m b q.cru r.mould s k (g.cx + i) (g.cy + j) c
          some ((f 0, f 1, f 2), plane)
  | _, _ => none

/-- One blend of a component. -/
def blend (a l c : Nat) : Nat := (a * l + (256 - a) * c + 128) / 256

/-- The background of a slot, in 12 bits. -/
def background (b : Block) (cru k : Nat) : Nat × Nat × Nat :=
  let v := b.get F.CRU_HEAD_BG_BG cru k
  (expand8 (bits v 16 8), expand8 (bits v 8 8), expand8 (bits v 0 8))

/-- The composed pixel of a band at a head position (R161, R173), over the background that its slot had when the band started. -/
def composedPixel (m : Mem) (b : Block) (q : CompBand) (x y : Nat) : Nat × Nat × Nat :=
  q.layers.foldl (fun p r => match layerPixel m b q r x y with
    | none => p
    | some (l, a) => (blend a l.1 p.1, blend a l.2.1 p.2.1, blend a l.2.2 p.2.2)) q.bg

/-- The composed pixels of a band, line by line. -/
def composedBand (m : Mem) (b : Block) (q : CompBand) : List (List (Nat × Nat × Nat)) :=
  (List.range (bandLines (b.fmt q.head).act q.band)).map fun l =>
    (List.range q.width).map fun x => composedPixel m b q x (16 * q.band + l)

/-! ## Tags (R176-R179) -/

/-- A tag's 16 bytes (table Tile tag). -/
def Tag.bytes (t : Tag) : List Byte :=
  leBytes 8 (ofSigned 64 t.oldest) ++ leBytes 2 t.dl ++ leBytes 2 t.age ++ leBytes 2 t.worst ++
    leBytes 1 (t.cls + 4 * b2n t.dslag + 8 * b2n t.eh + 16 * b2n t.fallback + 32 * b2n t.static + 64 * b2n t.missed) ++
    leBytes 1 t.n

/-- The class of a sourced contributor for a tile (R177): 0 LIVE, 1 DEGRADED, 2 FROZEN, 3 ABSENT. -/
def contributorClass (b : Block) (s : Nat) (key : Option Nat) (lines : Option (Nat × Nat)) (failed : Bool) : Nat :=
  match key with
  | none => 3
  | some k =>
    if failed then 3
    else if b.on F.FET_FRZ_STAT_FROZEN s then 2
    else
      let rm := (b.buf k).rowmark
      match lines with
      | none => 0
      | some (lo, hi) => if (List.range (hi / 16 + 1)).any fun r => lo / 16 ≤ r && bit rm r then 1 else 0

/-- The tag of a tile and its contributor list (R178, R179). `unstated` stands for the age base of a tile none of
whose sourced contributors holds a buffer. -/
def tileTag (c : Clk) (b : Block) (cru w y0 y1 col : Nat) (layers : List LayerRead) (failed : List (Nat × Nat × Nat))
    (unstated : Nat) : Tag × List Nat :=
  let (x0, x1) := tileX w col
  let l := layers.filter fun r => b.contributes cru r.mould x0 x1 y0 y1
  let bad (r : LayerRead) : Bool := failed.any fun f => f.1 = r.mould && f.2.1 = col
  let cls (r : LayerRead) : Nat := match r.src with
    | none => if bad r then 3 else 0
    | some s => contributorClass b s r.key ((b.geo cru r.mould).lines y0 y1) (bad r)
  let srcs := (l.filterMap (·.src)).eraseDups
  let ages : List (Int × Nat) := l.filterMap fun r => match r.src, r.key with
    | some s, some k => some ((b.buf k).ageBase, s)
    | _, _ => none
  let best := ages.foldl (fun o a => match o with
    | none => some a
    | some z => if a.1 < z.1 || (a.1 == z.1 && a.2 < z.2) then some a else some z) (none : Option (Int × Nat))
  let (oldest, worst) := match best with
    | some a => a
    | none => if srcs.isEmpty then (0, 511) else ((unstated : Int), unstated % 512)
  ({ oldest := oldest, worst := worst,
     dl := srcs.foldl (fun d s => min d (b.get F.LAD_SRC_MAXAGE_MAXAGE s)) 65535,
     age := if srcs.isEmpty then 0 else ageMs c.ns64 oldest,
     cls := l.foldl (fun k r => max k (cls r)) 0,
     dslag := l.any fun r => match r.src with
       | some s => cls r = 1 && b.get F.LAD_SRC_POLICY_DEG_POL s = 1
       | none => false,
     eh := l.any (·.eh), fallback := l.any (·.fell), static := l.any (·.src.isNone), n := l.length }, srcs)

/-! ## Loads and the ride-through budget (R155, R191) -/

/-- tRFCab of the installed density in ns (table Densities and capacity). -/
def Block.trfc (b : Block) : Nat := [210, 280, 380, 380].getD (b.get F.MEM_CFG_DENSITY) 380

/-- The enabled slots of a Crucible. -/
def Block.enabledSlots (b : Block) (cru : Nat) : List Nat := (List.range 16).filter fun k => b.on F.CRU_HEAD_MAP_EN cru k

/-- WIDTH × ACT × rate of a slot. -/
def slotRate (b : Block) (cru k : Nat) : Nat × Nat :=
  let f := b.fmt (b.slotHead cru k)
  (b.slotWidth cru k * f.act * f.num, f.den)

/-- The active output of slots of a Crucible (R155). -/
def activeOutput (b : Block) (cru : Nat) (l : List Nat) : Nat × Nat := fracSum (l.map (slotRate b cru))

/-- The ride-through slack of a Crucible with these slots enabled, as a fraction of ns (R191). -/
def slackOf (b : Block) (cru : Nat) (l : List Nat) : Int × Nat :=
  let w (k : Nat) : Nat × Nat :=
    let f := b.fmt (b.slotHead cru k)
    ((16 * b.slotLead cru k - 1) * f.den * 1000000000, f.num * f.total)
  let minW := l.foldl (fun o k => match o with
    | none => some (w k)
    | some z => if (w k).1 * z.2 < z.1 * (w k).2 then some (w k) else some z) none
  match minW with
  | none => (0, 1)
  | some (a, d) =>
    if d = 0 then (0, 1)
    else
      let cycles := (l.map fun k => b.slotWidth cru k * 4 + 64 * (b.drawing cru k).length).sum
      let refi := max 1 (b.get F.MEM_REF_TREFI_NS)
      let stalls := (a + d * refi - 1) / (d * refi)
      let first := if 2048 ≤ b.get F.MEM_REF_TREFI_NS then 2000 else 2400
      ((4 * a : Nat) - ((5 * cycles + 4 * (stalls * b.trfc + first)) * d : Nat), 4 * d)

/-- CRU_BUDGET.SLACK: the slack in effect in ns, saturating. -/
def slackNs (b : Block) (cru : Nat) : Nat :=
  let s := slackOf b cru (b.enabledSlots cru)
  min 0xFFFFF (s.1 / s.2).toNat

end Sys2Proof.Machine
end

