-- ==== Sys2Proof/Machine/Crucible.lean ====
section
/-! DEFINITION. The Crucibles at work: head slots, bands in composition, early handoff's fall-back, writeback
(R148, R154-R159, R177, R186-R191). -/

namespace Sys2Proof.Machine

open Sys2Proof

/-! ## Head slots (R155, R156) -/

/-- Megapixels a second of a load, rounded up. -/
def megaUp (u : Nat × Nat) : Nat := if u.2 = 0 then 0 else (u.1 + u.2 * 1000000 - 1) / (u.2 * 1000000)

/-- The limit that a slot breaks when it is enabled, with the value found; reason 0 for none (R30, R155, log 14). -/
def slotLimit (b : Block) (cru k : Nat) : Nat × Nat :=
  let f := b.fmt (b.slotHead cru k)
  let w := b.slotWidth cru k
  let lead := b.slotLead cru k
  let l := (b.enabledSlots cru).filter (· ≠ k) ++ [k]
  let own := activeOutput b cru l
  let all := fracSum ((List.range 4).map fun c => if c = cru then own else activeOutput b c (b.enabledSlots c))
  let slack := slackOf b cru l
  if w < 16 || 4096 < w || w % 2 = 1 then (0x15, w)
  else if lead = 0 || 4 < lead || f.total - f.act ≤ 16 * lead then (0x11, lead)
  else if 2000000000 * own.2 < own.1 then (0x12, megaUp own)
  else if 8000000000 * all.2 < all.1 then (0x13, megaUp all)
  else if slack.1 < 0 then (0x14, ofSigned 32 (slack.1 / slack.2))
  else (0, 0)

/-- Why a slot's enable is refused, with the value found; reason 0 where it is accepted (R155, log 14). -/
def slotRefusal (b : Block) (cru k : Nat) : Nat × Nat :=
  match b.slotOf (b.slotHead cru k) with
  | some (c, j) => (0x10, 16 * c + j)
  | none => slotLimit b cru k

/-- A slot refuses to drive its head (code 0x2007). -/
def slotRefuse (cru k : Nat) (q : Nat × Nat) (b : Block) : Block :=
  ((b.put F.CRU_HEAD_MAP_REASON q.1 cru k).evt F.CRU_EVT_CFG_ERR cru).record (inst := cru) 0x2007 3 k (b.slotHead cru k) q.1 q.2

/-- CRU_HEAD_MAP.EN written 1 while the slot does not run (R155, code 0x2007). -/
def slotEnable (cru k : Nat) (b : Block) : Block :=
  let b0 := b.flag F.CRU_HEAD_MAP_EN false cru k
  let q := slotRefusal b0 cru k
  if q.1 = 0 then { b.put F.CRU_HEAD_MAP_REASON 0 cru k with slotSince := tput 0 b.slotSince (16 * cru + k) b.now }
  else slotRefuse cru k q b0

/-- CRU_HEAD_MAP written, `b0` being the block before: a running slot keeps its head, so a write of 1 changes nothing; one that
does not run is checked at every write of 1, since its head may change (R154, R155). A slot that is disabled leaves its width to
its head (R198). -/
def slotWrite (cru k : Nat) (b0 b : Block) : Block :=
  let was := b0.on F.CRU_HEAD_MAP_EN cru k
  let h := b0.slotHead cru k
  let b := if was then b.setFet h { b.fet h with width := b0.slotWidth cru k } else b
  if b.on F.CRU_HEAD_MAP_EN cru k && !(was && b0.slotRuns cru k) then slotEnable cru k b else b

/-- TIM_HEAD_CTL.EN written 1 (R65, R67). A head that is stopped does not start while its enabled slot breaks a limit: its
Crucible refuses the enable (DEDUCED from R30: the slot's fields and the head's format may have changed since the slot was
enabled, log 14). -/
def headStart (c : Clk) (h : Nat) (b : Block) : Block :=
  match b.slotOf h with
  | none => headEnable c h b
  | some (cru, k) =>
    let q := slotLimit b cru k
    if q.1 = 0 || (b.ras h).phase ≠ .stopped || !(b.fmt h).ok then headEnable c h b
    else slotRefuse cru k q (b.flag F.TIM_HEAD_CTL_EN false h)

/-! ## Where a band's composition starts (R157) -/

/-- The frame count and the alignment index of the head's frame that band `band` composed or checked now belongs to;
`early`: the band lies in the blanking before its frame. -/
def bandFrame (b : Block) (h : Nat) (early : Bool) : Nat × Nat :=
  let r := b.ras h
  match r.phase with
  | .running => if early then (b.frameOf h + 1, b.aidxOf h + 1) else (b.frameOf h, b.aidxOf h)
  | .hold => (b.frameOf h + 1, r.target)
  | _ => (0, r.target)

/-- The instant `n` lines before the next ACT 0 has been reached. In the frame before a stop or a re-lock hold there is none. -/
def beforeFrame (c : Clk) (f : HeadFmt) (r : Raster) (n : Nat) : Bool :=
  match r.phase with
  | .running => !r.relock && !r.stopping && lineReached f r c.steady (f.total - n)
  | .stopped => false
  | _ => f.targetScaled r.target - ((f.den * n * sTick : Nat) : Int) ≤ ((c.ptp * (f.num * f.total) : Nat) : Int)

/-- The start line of a band's composition has been reached (R157). -/
def startReached (c : Clk) (b : Block) (h band lead : Nat) : Bool :=
  let f := b.fmt h
  let r := b.ras h
  if lead ≤ band then r.phase == .running && lineReached f r c.steady (16 * (band - lead))
  else beforeFrame c f r (16 * (lead - band))

/-- A band's check line has started (R157). -/
def checkReached (c : Clk) (b : Block) (h band : Nat) : Bool :=
  let f := b.fmt h
  let r := b.ras h
  if 0 < band then r.phase == .running && lineReached f r c.steady (16 * band - 1) else beforeFrame c f r 1

/-- A band's start line began before steady time `t` (R157). -/
def startedBefore (c : Clk) (b : Block) (h band lead : Nat) (t : Tick) : Bool :=
  let f := b.fmt h
  let r := b.ras h
  let n := 16 * (lead - band)
  match r.phase with
  | .running => r.act0 < t && lineReached f r (t - 1) (if lead ≤ band then 16 * (band - lead) else f.total - n)
  | _ => f.targetScaled r.target - ((f.den * n * sTick : Nat) : Int) <
      ((c.ptp : Int) - ((c.steady - t : Nat) : Int)) * ((f.num * f.total : Nat) : Int)

/-- A Crucible is enabled, or its domain is powered. -/
def cruEnable (cru : Nat) (b : Block) : Block := { b with cruSince := tput 0 b.cruSince cru b.now }

/-- Steady time since which a slot has been able to compose: it is enabled, its Crucible runs and its head is enabled. -/
def Block.slotUp (b : Block) (cru k : Nat) : Tick :=
  max (max (tget 0 b.slotSince (16 * cru + k)) (tget 0 b.cruSince cru)) (b.ras (b.slotHead cru k)).since

/-- The instant at which the check line of a band starts, steady, rounded down to a tick; `early`: the band lies in the
blanking before its frame. -/
def checkAt (c : Clk) (b : Block) (h band : Nat) (early : Bool) : Int :=
  let f := b.fmt h
  let r := b.ras h
  match r.phase with
  | .running =>
    let n := (if early then f.total else 0) + 16 * band - 1
    r.act0 + (f.den * sTick : Nat) * ((n * 256 * f.total : Nat) + r.slew * (min n f.total : Nat)) /
      ((f.num * f.total * 256 * f.total : Nat) : Int)
  | _ => c.steady - c.ptp + (f.targetScaled r.target + f.den * (16 * (band : Int) - 1) * sTick) / ((f.num * f.total : Nat) : Int)

/-- A band that a slot has to compose: its start line has been reached with the slot running, its check line has not, and it
has not been taken (R157, R158). -/
def bandPending (c : Clk) (b : Block) (cru k band : Nat) : Bool :=
  let h := b.slotHead cru k
  let lead := b.slotLead cru k
  let early : Bool := band < lead
  let frame := (bandFrame b h early).1
  b.slotRuns cru k && band < (b.fmt h).bands && startReached c b h band lead && !startedBefore c b h band lead (b.slotUp cru k) &&
    !((!early || band = 0) && checkReached c b h band) &&
    !b.comps.any (fun q => q.head = h && q.frame = frame && q.band = band) &&
    !b.handed.any fun q => q.head = h && q.frame = frame && q.band = band

/-- A Crucible takes a band next: no pending band of its heads has an earlier check line, nor the same one in a lower slot
(R158). -/
def takesNext (c : Clk) (b : Block) (cru k band : Nat) : Bool :=
  let key (j n : Nat) : Int := checkAt c b (b.slotHead cru j) n (n < b.slotLead cru j)
  bandPending c b cru k band && (b.enabledSlots cru).all fun j =>
    (List.range (b.fmt (b.slotHead cru j)).bands).all fun n =>
      !bandPending c b cru j n || key k band < key j n || (key k band == key j n && k ≤ j)

/-- The check line of a band in composition has started. -/
def compLate (c : Clk) (b : Block) (q : CompBand) : Bool :=
  let now := b.frameOf q.head
  let next := q.band = 0 && checkReached c b q.head 0
  match (b.ras q.head).phase with
  | .stopped => true
  | .idle => next
  | .hold => q.frame ≤ now || next
  | .running => q.frame < now || (if q.frame = now then q.band = 0 || checkReached c b q.head q.band else next)

/-! ## Writeback (R186-R190) -/

def Block.wb (b : Block) (cru : Nat) : WbSt := tget {} b.wbs cru
def Block.setWb (b : Block) (cru : Nat) (x : WbSt) : Block := { b with wbs := tput {} b.wbs cru x }
def Block.wbPool (b : Block) (cru : Nat) : Nat := b.get F.CRU_WB_CTL_POOL cru
def Block.wbW (b : Block) (cru : Nat) : Nat := b.get F.CRU_WB_SIZE_W cru
def Block.wbH (b : Block) (cru : Nat) : Nat := b.get F.CRU_WB_SIZE_H cru
/-- The lead head of a writeback. -/
def Block.wbLead (b : Block) (cru : Nat) : Nat := b.slotHead cru (b.get F.CRU_WB_CTL_LEAD cru)

/-- The enabled slots that a writeback captures. -/
def Block.captured (b : Block) (cru : Nat) : List Nat := (b.enabledSlots cru).filter fun k => b.on F.CRU_HEAD_WB_IN cru k

/-- Two heads keep the same NUM, DEN, TOTAL and OFS (R180, R186). -/
def sameTiming (b : Block) (g h : Nat) : Bool :=
  let x := b.fmt g
  let y := b.fmt h
  x.num = y.num && x.den = y.den && x.total = y.total && x.ofs = y.ofs

/-- A captured slot's rectangle in the canvas. -/
def captureRect (b : Block) (cru k : Nat) : Nat × Nat × Nat × Nat :=
  (b.get F.CRU_HEAD_WB_X cru k, b.get F.CRU_HEAD_WB_Y cru k, b.slotWidth cru k, (b.fmt (b.slotHead cru k)).act)

def rectsMeet (p q : Nat × Nat × Nat × Nat) : Bool :=
  p.1 < q.1 + q.2.2.1 && q.1 < p.1 + p.2.2.1 && p.2.1 < q.2.1 + q.2.2.2 && q.2.1 < p.2.1 + p.2.2.2

/-- Why a writeback's enable is refused, or 0 (R186, R187). -/
def wbRefusal (b : Block) (cru : Nat) : Nat :=
  let p := b.wbPool cru
  let w := b.wbW cru
  let h := b.wbH cru
  let l := b.captured cru
  let need := 4096 + b.poolPitch p * h + 16 * (w / 64) * (h / 16)
  let bad (k : Nat) : Bool :=
    let q := captureRect b cru k
    q.1 % 64 ≠ 0 || q.2.1 % 16 ≠ 0 || w < q.1 + q.2.2.1 || h < q.2.1 + q.2.2.2 ||
      l.any fun j => j ≠ k && rectsMeet q (captureRect b cru j)
  if b.poolPitch p < 6 * w || b.get F.LAD_POOL_GEOM_BUF_SIZE p * 4096 < need then 0x20
  else if l.any bad then 0x21
  else if l.any fun k => !sameTiming b (b.wbLead cru) (b.slotHead cru k) then 0x22
  else 0

/-- CRU_WB_CTL.EN written 1 (R186, R187): capture begins with the lead head's next frame, or is refused. A frame whose
composition has begun is not taken any more: DEDUCED from R190, since its first band has no buffer (log 80). -/
def wbEnable (c : Clk) (cru : Nat) (b : Block) : Block :=
  if b.on F.CRU_WB_STAT_RUN cru then b
  else
    let r := wbRefusal b cru
    if r ≠ 0 then
      ((b.flag F.CRU_WB_CTL_EN false cru).evt F.CRU_EVT_CFG_ERR cru).record (inst := cru) 0x2007 3 0xFF (b.wbLead cru) r
        (b.reg (F.CRU_WB_CTL_EN.at cru)).toNat
    else
      let b := (b.flag F.CRU_WB_STAT_RUN true cru).put F.CRU_WB_STAT_DROPPED 0 cru
      let begun := (b.captured cru).any fun k => startReached c b (b.slotHead cru k) 0 (b.slotLead cru k)
      b.setWb cru { first := (bandFrame b (b.wbLead cru) true).1 + b2n begun }

/-- A frame in capture is dropped (R190, code 0x2006): `frame`, its lead head's frame count. -/
def wbDrop (cru aidx frame cause : Nat) (b : Block) : Block :=
  let x := b.wb cru
  let b := match x.frames.find? (·.aidx = aidx) with
    | some f => b.setBuf (bufKey (b.wbPool cru) f.buf) {}
    | none => b
  let b := b.setWb cru { x with
    frames := x.frames.filter (·.aidx ≠ aidx), dropped := (x.dropped.filter (aidx < · + 4)) ++ [aidx] }
  let b := (b.inc F.CRU_WB_STAT_DROPPED cru).evt F.CRU_EVT_WB_DROP cru
  b.record (inst := cru) 0x2006 3 (b.wbPool cru) frame cause

/-- The canvas line of a writeback buffer at pixel row `y`, and the address of its tags. -/
def Block.wbLine (b : Block) (cru i y : Nat) : Nat := b.rowAddr (b.wbPool cru) i y
def Block.wbTags (b : Block) (cru i : Nat) : Nat := b.rowAddr (b.wbPool cru) i (b.wbH cru)

/-- The tiles of a canvas that some captured head covers, by row and column. -/
def wbCovers (b : Block) (cru row col : Nat) : Bool :=
  (b.captured cru).any fun k =>
    let (x, y, w, h) := captureRect b cru k
    x / 64 ≤ col && col < x / 64 + tileCols w && y / 16 ≤ row && row < y / 16 + (h + 15) / 16

/-- The canvas rows with a tile that no head covers. -/
def wbBare (b : Block) (cru : Nat) : List Nat :=
  (List.range (b.wbH cru / 16)).filter fun row => (List.range (b.wbW cru / 64)).any fun col => !wbCovers b cru row col

/-- Writes of a captured frame are checked (R190): the cause of the drop where one is refused or fails. -/
def wbAccess (c : Clk) (cru : Nat) (ranges : List (Nat × Nat)) (b : Block) : Option Nat × Block :=
  let part := b.poolPart (b.wbPool cru)
  match ranges.find? fun q => dramFails b 7 part q.1 q.2 true with
  | none => (none, b)
  | some (a, n) => (some (if (dramCheck b 7 part a n true).isSome then 1 else 2), (dramAccess c 7 part a n true (4 + cru) b).2)

/-- Begin a captured frame with its first band (R188, R190): a FREE buffer, filled with what no head covers. -/
def wbBegin (c : Clk) (cru aidx frame : Nat) (b : Block) : Block :=
  let p := b.wbPool cru
  match b.freeBuf p with
  | none => wbDrop cru aidx frame 0 b
  | some i =>
    let w := b.wbW cru
    let h := b.wbH cru
    let x := b.wb cru
    let bare := wbBare b cru
    let b := b.tookFree.setBuf (bufKey p i) { state := .filling, rows := h / 16 }
    let b := b.setWb cru { x with frames := x.frames ++ [{ aidx := aidx, frame := frame, buf := i, notLive := !bare.isEmpty,
                                                           rowmark := (bare.map (2 ^ ·)).sum }] }
    match wbAccess c cru [(b.bufAddr p i, 4096 + b.poolPitch p * h + 16 * (w / 64) * (h / 16))] b with
    | (some cause, b) => wbDrop cru aidx frame cause b
    | (none, b) =>
      let grey : List Byte := (List.replicate (3 * w) [(0x00 : Byte), 0x80]).flatten
      let b := (List.range h).foldl (fun b y => b.store (b.wbLine cru i y) grey) b
      let empty : Tag := { cls := 3 }
      b.store (b.wbTags cru i) ((List.replicate ((w / 64) * (h / 16)) empty.bytes).flatten)

/-- Every band of a captured frame has been written with its tags. -/
def wbWhole (b : Block) (cru : Nat) (f : WbFrame) : Bool :=
  (b.captured cru).all fun k =>
    let h := b.slotHead cru k
    (List.range (b.fmt h).bands).all fun n => f.bands.contains (h, n)

/-- The lead head's count of the frame with an alignment index: the frame under way, or the one that follows it. -/
def wbFrameOf (b : Block) (cru aidx : Nat) : Option Nat :=
  let lead := b.wbLead cru
  [bandFrame b lead false, bandFrame b lead true].findSome? fun q => if q.2 = aidx then some q.1 else none

/-- A captured frame takes its buffer when the first of its bands starts: every DIV-th frame of the lead head (R186). An earlier
frame that is not whole by then, some band of it never having been delivered, is dropped: the spec does not name this case:
DESIGN CHOICE, as a write that failed (log 80). -/
def wbStart (c : Clk) (cru k aidx : Nat) (b : Block) : Block :=
  let x := b.wb cru
  let div := max 1 (b.get F.CRU_WB_CTL_DIV cru)
  match wbFrameOf b cru aidx with
  | none => b
  | some frame =>
    if !b.on F.CRU_WB_STAT_RUN cru || !b.on F.CRU_HEAD_WB_IN cru k then b
    else
      let b := (x.frames.filter fun f => f.aidx < aidx && !wbWhole b cru f).foldl (fun b f => wbDrop cru f.aidx f.frame 2 b) b
      if !b.on F.CRU_WB_CTL_EN cru && (b.wb cru).frames.isEmpty then b.flag F.CRU_WB_STAT_RUN false cru
      else if b.on F.CRU_WB_CTL_EN cru && x.first ≤ frame && (frame - x.first) % div = 0 && !x.frames.any (·.aidx = aidx) &&
          !x.dropped.contains aidx then wbBegin c cru aidx frame b
      else b

/-- Write a band with its tags into the canvas of its frame (R187, R189). -/
def wbBand (c : Clk) (cru k aidx : Nat) (x : BandIn) (b : Block) : Block :=
  match (b.wb cru).frames.find? (·.aidx = aidx) with
  | none => b
  | some f =>
    if !b.on F.CRU_HEAD_WB_IN cru k then b
    else
      let (cx, cy, _, _) := captureRect b cru k
      let row := cy / 16 + x.band
      let line (i : Nat) : Nat := b.wbLine cru f.buf (cy + 16 * x.band + i) + 6 * cx
      let tags := b.wbTags cru f.buf + 16 * (row * (b.wbW cru / 64) + cx / 64)
      match wbAccess c cru (x.pixels.zipIdx.map (fun q => (line q.2, 6 * q.1.length)) ++ [(tags, 16 * x.tags.length)]) b with
      | (some cause, b) => wbDrop cru aidx f.frame cause b
      | (none, b) =>
        let b := (x.pixels.zipIdx).foldl (fun b q =>
          b.store (line q.2) (q.1.flatMap fun p => leBytes 2 (p.1 * 16) ++ leBytes 2 (p.2.1 * 16) ++ leBytes 2 (p.2.2 * 16))) b
        let b := b.store tags (x.tags.flatMap Tag.bytes)
        let notLive := x.tags.any (·.cls ≠ 0)
        let oldest := (x.tags.zip x.lists).foldl (fun (o : Option Int) q =>
          if q.2.isEmpty then o else match o with
            | none => some q.1.oldest
            | some z => some (min z q.1.oldest)) f.oldest
        let f := { f with
          bands := (x.head, x.band) :: f.bands, oldest := oldest, notLive := f.notLive || notLive,
          rowmark := if notLive && !bit f.rowmark row then f.rowmark + 2 ^ row else f.rowmark }
        b.setWb cru { b.wb cru with frames := (b.wb cru).frames.map fun g => if g.aidx = aidx then f else g }

/-! ## Composition (R148, R157, R158, R177) -/

/-- What a sourced layer reads for a band (R148, R164): its picture, or its fallback where the watermark is behind. -/
def layerRead (b : Block) (cru m frame y0 y1 : Nat) : LayerRead × Bool :=
  if !b.sourced cru m then ({ mould := m, src := none, key := none, eh := false, fell := false }, false)
  else
    let x := b.mould cru m
    let s := if x.buf.isSome then x.src else b.get F.CRU_M_SRC_SRC cru m
    match x.buf with
    | none => ({ mould := m, src := some s, key := none, eh := false, fell := false }, false)
    | some k =>
      if !x.eh then ({ mould := m, src := some s, key := some k, eh := false, fell := false }, false)
      else
        let total := (b.srcHeight s + 15) / 16
        let margin :=
          if b.transport s < 2 then b.get F.DEC_CTX_CFG_EH_MARGIN (b.get F.LAD_SRC_DEC_ENGINE s) (b.get F.LAD_SRC_DEC_CTX s)
          else 0
        let need := match (b.geo cru m).lines y0 y1 with
          | some (_, hi) => min (hi / 16 + 1 + margin) total
          | none => 0
        let already := x.fell = frame + 1
        let fall := already || (b.buf k).rowsReady < need
        let r : LayerRead :=
          if fall then { mould := m, src := some ((x.fb.map fun k => (b.buf k).src).getD s), key := x.fb, eh := false, fell := true }
          else { mould := m, src := some s, key := some k, eh := true, fell := false }
        (r, fall && !already)

/-- Record a fall-back (R148, R192, code 0x2003). -/
def noteFall (c : Clk) (cru frame band : Nat) (r : LayerRead) (b : Block) : Block :=
  let x := b.mould cru r.mould
  let rows := match x.buf with | some k => (b.buf k).rowsReady | none => 0
  let b := (b.setMould cru r.mould { x with fell := frame + 1 }).flag F.CRU_M_STAT_FALLBACK true cru r.mould
  (b.evt F.CRU_EVT_FALLBACK cru).recordLim (inst := cru) c (0x20030000 + 96 * cru + r.mould) sTick 0x2003 2 r.mould (r.src.getD 0) band rows

/-- The Cb and Cr samples that a layer with the decoded layout reads for source columns `a` to `z` and lines `lo` to `hi`
(R126, R166). -/
def chromaRanges (b : Block) (r : LayerRead) (a z lo hi : Nat) : List (Nat × Nat) :=
  match r.src, r.key with
  | some s, some k =>
    if !b.decodedLayout s then []
    else
      let w := b.srcWidth s
      let last := if z % 2 = 1 && z + 1 < w then (z + 1) / 2 else z / 2
      (List.range (2 * (hi / 2 + 1 - lo / 2))).map fun i =>
        (b.rowAddr (keyPool k) (keyIdx k) (2 * (lo / 2) + i) + 2 * w + 2 * (a / 2), 2 * (last + 1 - a / 2))
  | _, _ => []

/-- The address ranges that a layer reads for a tile: one for each line it reads, and its chroma. -/
def layerRanges (b : Block) (cru : Nat) (r : LayerRead) (x0 x1 y0 y1 : Nat) : List (Nat × Nat) :=
  let g := b.geo cru r.mould
  match g.cols x0 x1, g.lines y0 y1 with
  | some (a, z), some (lo, hi) =>
    ((List.range (hi + 1 - lo)).map fun i =>
      let y := lo + i
      match r.src with
      | none =>
        (b.plateAddr cru r.mould + y * b.get F.CRU_M_PLATE_FMT_PITCH cru r.mould + 4 * a, 4 * (z + 1 - a))
      | some s =>
        match r.key with
        | none => (0, 0)
        | some k =>
          let row := b.rowAddr (keyPool k) (keyIdx k) y
          if b.decodedLayout s then (row + 2 * a, 2 * (z + 1 - a)) else (row + 6 * a, 6 * (z + 1 - a))) ++
      chromaRanges b r a z lo hi
  | _, _ => []

/-- The partition that a layer's fetch is checked against. -/
def layerPart (b : Block) (cru : Nat) (r : LayerRead) : Nat :=
  match r.src, r.key with
  | some _, some k => b.poolPart (keyPool k)
  | _, _ => b.get F.CRU_M_PLATE_FMT_PART cru r.mould

/-- A tile's fetch by a layer fails (R177, code 0x2005). The free values that stand for its pixels are taken. -/
def fetchFailed (cru band mould col addr kind : Nat) (q : List (Nat × Nat × Nat) × Block) : List (Nat × Nat × Nat) × Block :=
  let b := ((q.2.evt F.CRU_EVT_FETCH cru).record (inst := cru) 0x2005 4 mould addr kind band)
  (q.1 ++ [(mould, col, b.free)], { b with free := b.free + 3072 })

/-- The Flask checks a layer's fetches for a tile (R408, R177). -/
def checkFetch (c : Clk) (cru band : Nat) (r : LayerRead) (col : Nat) (ranges : List (Nat × Nat))
    (q : List (Nat × Nat × Nat) × Block) : List (Nat × Nat × Nat) × Block :=
  if q.1.any (fun f => f.1 = r.mould && f.2.1 = col) then q
  else match ranges.find? fun a => a.2 ≠ 0 && dramFails q.2 7 (layerPart q.2 cru r) a.1 a.2 false with
    | none => q
    | some (a, n) =>
      let b := (dramAccess c 7 (layerPart q.2 cru r) a n false cru q.2).2
      let kind := b2n (dramCheck q.2 7 (layerPart q.2 cru r) a n false).isNone
      fetchFailed cru band r.mould col a kind (q.1, b)

/-- What a head's layers read for a band, in blend order. -/
def bandReads (b : Block) (cru k frame y0 y1 : Nat) : List (LayerRead × Bool) :=
  ((b.drawing cru k).filter fun m => b.contributes cru m 0 (b.slotWidth cru k - 1) y0 y1).map fun m => layerRead b cru m frame y0 y1

/-- A band as its slot takes it now, with the tags of its tiles (R153, R176-R179). -/
def bandTaken (c : Clk) (b : Block) (cru k band : Nat) (layers : List LayerRead) (failed : List (Nat × Nat × Nat))
    (unstated : Nat) : CompBand :=
  let h := b.slotHead cru k
  let (frame, aidx) := bandFrame b h (band < b.slotLead cru k)
  let w := b.slotWidth cru k
  let y0 := 16 * band
  let tiles := (List.range (tileCols w)).map fun col =>
    tileTag c b cru w y0 (y0 + bandLines (b.fmt h).act band - 1) col layers failed unstated
  { cru := cru, slot := k, head := h, width := w, bg := background b cru k, band := band, frame := frame, aidx := aidx,
    start := c.steady, layers := layers, tags := tiles.map (·.1), lists := tiles.map (·.2), failed := failed }

/-- Composition of a band starts (R148, R157, R158, R176-R179, R190). `errors`: the layers and tiles whose fetch an
uncorrectable error ends, with the address. -/
def composeStart (c : Clk) (h band : Nat) (errors : List (Fin 96 × Fin 64 × BitVec 40)) (b : Block) : Block :=
  match b.slotOf h with
  | none => b
  | some (cru, k) =>
    if !takesNext c b cru k band then b
    else
      let (frame, aidx) := bandFrame b h (band < b.slotLead cru k)
      let w := b.slotWidth cru k
      let y0 := 16 * band
      let y1 := y0 + bandLines (b.fmt h).act band - 1
      let reads := bandReads b cru k frame y0 y1
      let b := reads.foldl (fun b r =>
        if (b.mould cru r.1.mould).fell = frame + 1 then b else b.flag F.CRU_M_STAT_FALLBACK false cru r.1.mould) b
      let b := reads.foldl (fun b r => if r.2 then noteFall c cru frame band r.1 b else b) b
      let layers := reads.map (·.1)
      let q := errors.foldl (fun q e =>
        if layers.any (fun r => r.mould = e.1.val && b.contributes cru r.mould (tileX w e.2.1.val).1 (tileX w e.2.1.val).2 y0 y1)
        then fetchFailed cru band e.1.val e.2.1.val e.2.2.toNat 1 q else q) (([] : List (Nat × Nat × Nat)), b)
      let q := (List.range (tileCols w)).foldl (fun q col =>
        let (x0, x1) := tileX w col
        layers.foldl (fun q r =>
          if b.contributes cru r.mould x0 x1 y0 y1 then checkFetch c cru band r col (layerRanges b cru r x0 x1 y0 y1) q
          else q) q) q
      let (unstated, b) := q.2.fresh
      let taken := bandTaken c b cru k band layers q.1 unstated.toNat
      let b := wbStart c cru k aidx b
      { b with comps := b.comps ++ [taken] }

/-- Hand a band to the Fettler and the writeback (R157, R189, R196). -/
def handOver (c : Clk) (q : CompBand) (x : BandIn) (b : Block) : Block :=
  let b := { b with
    comps := b.comps.filter fun z => !(z.head = q.head && z.band = q.band && z.frame = q.frame)
    handed := b.handed ++ [x] }
  wbBand c q.cru q.slot q.aidx x b

/-- A composed band is complete (R157, R158): its Crucible completes bands in the order in which it took them, and not once
their check lines have started. -/
def composeDone (c : Clk) (m : Mem) (h band : Nat) (b : Block) : Block :=
  match b.comps.find? fun q => q.head = h && q.band = band && !compLate c b q with
  | none => b
  | some q =>
    if b.comps.find? (fun z => z.cru = q.cru && !compLate c b z) ≠ some q then b
    else
      handOver c q { head := h, band := band, frame := q.frame, tags := q.tags, lists := q.lists,
                     pixels := composedBand m b q } b

/-- A tile that is not complete when its check line starts (R159): mid-grey, ABSENT and MISSED. -/
def missTag (t : Tag) : Tag := { t with cls := 3, missed := true }

/-- The band of a frame that is in composition at its check line; or one that its Crucible has not got to, though it was to
compose it: the other fields of its tags are as they stand now, DESIGN CHOICE (log 80). -/
def lateBand (c : Clk) (h band frame : Nat) (b : Block) : Option CompBand × Block :=
  match b.comps.find? fun q => q.head = h && q.band = band && q.frame = frame with
  | some q => (some q, b)
  | none =>
    match b.slotOf h with
    | none => (none, b)
    | some (cru, k) =>
      let lead := b.slotLead cru k
      let up := b.slotUp cru k
      let f := b.fmt h
      -- the start line of a band after band 0 that lies in the blanking before the frame under way
      let before : Bool := if 0 < band && band < lead then
          (((b.ras h).act0 : Int) - (up : Int)) * ((f.num * f.total : Nat) : Int) < ((16 * (lead - band) * f.den * sTick : Nat) : Int)
        else startedBefore c b h band lead up
      if !b.slotRuns cru k || before || b.handed.any (fun x => x.head = h && x.band = band && x.frame = frame) then (none, b)
      else
        let y0 := 16 * band
        let reads := bandReads b cru k frame y0 (y0 + bandLines (b.fmt h).act band - 1)
        let (unstated, b) := b.fresh
        let q := bandTaken c b cru k band (reads.map (·.1)) [] unstated.toNat
        let q := { q with frame := frame, aidx := (bandFrame b h (band = 0)).2 }
        (some q, wbStart c cru k q.aidx b)

/-- A band that is not complete at its check line is handed over with its incomplete tiles missed (R159, code 0x2004).
`complete`: the tile columns that are complete. -/
def missBand (c : Clk) (m : Mem) (h band frame : Nat) (complete : List Nat) (b : Block) : Block :=
  match lateBand c h band frame b with
  | (none, b) => b
  | (some q, b) =>
    let complete := if b.comps.contains q then complete else []
    let n := ((List.range q.tags.length).filter fun i => !complete.contains i).length
    let pixels := (composedBand m b q).map fun l => l.zipIdx.map fun p =>
      if complete.contains (p.2 / 64) then p.1 else (2048, 2048, 2048)
    let tags := q.tags.zipIdx.map fun t => if complete.contains t.2 then t.1 else missTag t.1
    let b := if n = 0 then b else ((b.noteEvent c 0 1).evt F.CRU_EVT_MISSED q.cru).record (inst := q.cru) 0x2004 5 h band q.frame n
    handOver c q { head := h, band := band, frame := q.frame, tags := tags, lists := q.lists, pixels := pixels } b

/-! ## Commands -/

/-- BAND_COMPOSE_START (R157). -/
def execBandComposeStart (dt : Nat) (h : Head) (band : Fin 135) (errors : List (Fin 96 × Fin 64 × BitVec 40)) (s : State) :
    Host.Outcome State Fault Refusal :=
  s.run dt fun c _ b => composeStart c h.val band.val errors b

/-- BAND_COMPOSE_DONE (R157). -/
def execBandComposeDone (dt : Nat) (h : Head) (band : Fin 135) (s : State) : Host.Outcome State Fault Refusal :=
  s.run dt fun c m b => composeDone c m h.val band.val b

end Sys2Proof.Machine
end

