-- ==== Sys2Proof/Machine/Commit.lean ====
section
/-! DEFINITION. Commits: taking buffers, checks, lateness, hold, source fields and region-signature windows
(R86, R115, R146, R147, R180-R185, R216, R217, R290). -/

namespace Sys2Proof.Machine

open Sys2Proof

/-! ## Which buffer a mould takes (R107, R115, R146, R147, R290) -/

/-- The nominal time of the commit instant in the lead head's current frame is at or after a PTP instant (R290). -/
def nominalAfter (b : Block) (lead : Nat) (p : Tick) : Bool :=
  let f := b.fmt lead
  ((p * (f.num * f.total) : Nat) : Int) ≤ f.targetScaled (b.aidxOf lead) + ((f.den * f.act * sTick : Nat) : Int)

/-- A READY buffer may be taken at a commit of this lead head now (R115, R290). -/
def takeable (c : Clk) (b : Block) (lead : Nat) (x : PoolBuf) : Bool :=
  if c.steady ≤ x.readyAt || x.awaits then false
  else match x.peerPtp with
    | none => true
    | some p => nominalAfter b lead (max p x.readyPtp + b.get F.PAIR_AGREE_AGREE_US * usTick)

/-- The buffer that was the newest until a frame completed in this cycle, which a commit of this cycle still takes (R115). -/
def shedNow (c : Clk) (b : Block) (lead p : Nat) : Option Shed :=
  match b.lad.shed.lookup p with
  | none => none
  | some x =>
    let st := (b.buf (bufKey p x.idx)).state
    if x.at_ = c.steady && (st == .free || st == .held) && takeable c b lead x.buf then some x else none

/-- The newest READY buffer of a source that a commit may take (R107, R115). -/
def newestOf (c : Clk) (b : Block) (lead s : Nat) : Option Nat :=
  let p := b.poolOf s
  if !b.on F.LAD_SRC_STAT_ACQ s then none
  else match b.readyBuf p with
    | none => none
    | some i =>
      let x := b.buf (bufKey p i)
      if takeable c b lead x then some (bufKey p i)
      else if x.readyAt = c.steady then (shedNow c b lead p).map fun q => bufKey p q.idx
      else none

/-- A buffer that was the newest until this cycle and that a mould takes is HELD. -/
def reviveBuf (c : Clk) (k : Nat) (b : Block) : Block :=
  match b.lad.shed.lookup (keyPool k) with
  | some x =>
    if x.at_ = c.steady && bufKey (keyPool k) x.idx = k && (b.buf k).state == .free then b.setBuf k { x.buf with state := .held }
    else b
  | none => b

/-- A source's declared rate equals a head's rate within 0.1 % (R146). -/
def rateMatches (b : Block) (s h : Nat) : Bool :=
  let f := b.fmt h
  let n := b.get F.LAD_SRC_FMT2_RATE_NUM s
  let d := b.get F.LAD_SRC_FMT2_RATE_DEN s
  let x : Int := ((n * f.den : Nat) : Int)
  let y : Int := ((f.num * d : Nat) : Int)
  y ≠ 0 && 1000 * (x - y).natAbs ≤ y.natAbs

/-- The buffer of the picture in decode, or of the peer frame that is arriving, that a layer may take early
(R146, R147, R121, log 15). -/
def earlyOf (c : Clk) (b : Block) (s h : Nat) : Option Nat :=
  if !b.on F.LAD_SRC_STAT_ACQ s || !rateMatches b s h then none
  else if b.transport s < 2 then
    let e := b.get F.LAD_SRC_DEC_ENGINE s
    let k := b.get F.LAD_SRC_DEC_CTX s
    if b.on F.DEC_CTX_CFG_EARLY e k && b.ctxState e k = ctxRun && !b.on F.DEC_CTX_STAT_REORDER e k then
      match (b.eng e).pic with
      | some p => if p.ctx = k && p.start < c.steady then some (bufKey (b.poolOf s) p.buf) else none
      | none => none
    else none
  else if b.transport s = 3 then (b.src s).peer.map fun p => bufKey (b.poolOf s) p.1
  else none

/-- What a mould would take now: the buffer, and whether it is a picture in decode. -/
def nextTake (c : Clk) (b : Block) (lead cru m : Nat) : Option (Nat × Bool) :=
  let s := b.get F.CRU_M_SRC_SRC cru m
  match earlyOf c b s (b.slotHead cru (b.get F.CRU_M_CTL_SLOT cru m)) with
  | some k => some (k, true)
  | none => (newestOf c b lead s).map fun k => (k, false)

/-- Give a mould a new hold, releasing what it held. -/
def mouldHold (cru m : Nat) (x : MouldSt) (b : Block) : Block :=
  let old := b.mould cru m
  let b := match x.buf with | some k => holdBuf k b | none => b
  let b := match x.fb with | some k => holdBuf k b | none => b
  let b := b.setMould cru m x
  let b := match old.buf with | some k => releaseBuf k b | none => b
  match old.fb with | some k => releaseBuf k b | none => b

/-- What a mould holds is reported (CRU_M_STAT). -/
def mouldReport (cru m : Nat) (b : Block) : Block :=
  let x := b.mould cru m
  let nobuf := b.on F.CRU_M_CTL_EN cru m && b.sourced cru m && x.buf.isNone
  let b := (b.put F.CRU_M_STAT_BUF (keyIdx (x.buf.getD 0)) cru m).flag F.CRU_M_STAT_EH x.eh cru m
  b.flag F.CRU_M_STAT_NOBUF nobuf cru m

/-- A sourced mould takes its buffer (R115, R147): with a picture in decode, the buffer it used before stays as its
fallback, be it of another source. After a picture whose decoding was abandoned that buffer is the fallback which the mould
kept under it: DEDUCED, since the abandoned picture has rows that are not final (log 15). -/
def mouldTake (c : Clk) (lead cru m : Nat) (b : Block) : Block :=
  let x := b.mould cru m
  let s := b.get F.CRU_M_SRC_SRC cru m
  match nextTake c b lead cru m with
  | none => mouldReport cru m b
  | some (k, eh) =>
    if x.buf = some k && x.src = s then
      mouldReport cru m (if eh then b else mouldHold cru m { x with eh := false, fb := none } b)
    else
      let before := match x.buf with
        | some j => if (b.buf j).abandoned then x.fb else some j
        | none => none
      mouldReport cru m (mouldHold cru m { src := s, buf := some k, eh := eh, fb := if eh then before else none }
        (reviveBuf c k b))

/-- A mould that is disabled, or reads a plate, holds nothing. -/
def mouldDrop (cru m : Nat) (b : Block) : Block :=
  let b := if (b.mould cru m).buf.isSome then mouldHold cru m {} b else b
  mouldReport cru m b

/-! ## The checks of a commit (R162, R169, R172, R174, R180, R182, R191) -/

/-- Every phase of a bank has taps that sum to 256 (R172). -/
def bankOk (b : Block) (cru bank : Nat) : Bool :=
  (List.range 64).all fun ph =>
    ((List.range 8).map fun t => coefH b cru bank ph t).sum = 256 && ((List.range 6).map fun t => coefV b cru bank ph t).sum = 256

/-- Why an enabled mould fails the checks, or 0 (table Refusal reasons). -/
def mouldBad (b : Block) (cru lead m : Nat) : Nat :=
  let g := b.geo cru m
  let k := b.get F.CRU_M_CTL_SLOT cru m
  let s := b.get F.CRU_M_SRC_SRC cru m
  let part := b.get F.CRU_M_PLATE_FMT_PART cru m
  let pitch := b.get F.CRU_M_PLATE_FMT_PITCH cru m
  let a := b.plateAddr cru m
  let ratioBad := g.dw > 16 * g.cw || g.dh > 16 * g.ch || 8 * g.dw < g.cw ||
    (4 * g.dh < g.ch && !(g.ch ≤ 8 * g.dh && g.cw ≤ 2048))
  if !isVideo m && (g.cw ≠ g.dw || g.ch ≠ g.dh) then 0x01
  else if isVideo m && ratioBad then 0x02
  else if 4096 < g.cw || 2160 < g.ch || g.cw = 0 || g.ch = 0 || g.dw = 0 || g.dh = 0 || g.cw % g.n ≠ 0 || g.ch % g.m ≠ 0 ||
      (b.sourced cru m && (b.srcWidth s < g.cx + g.cw || b.srcHeight s < g.cy + g.ch)) then 0x03
  else if !b.on F.CRU_HEAD_MAP_EN cru k || !sameTiming b (b.slotHead cru lead) (b.slotHead cru k) then 0x05
  else if isVideo m && !bankOk b cru (b.get F.CRU_M_CTL_BANK cru m) then 0x06
  else if !b.sourced cru m && (pitch < 4 * (g.cx + g.cw) || !slotCovers b part a ||
      !slotCovers b part (a + pitch * (g.cy + g.ch) - 1)) then 0x07
  else 0

/-- A tile of a slot has more than 16 contributing layers (R174). -/
def tilesCrowded (b : Block) (cru k : Nat) : Bool :=
  let w := b.slotWidth cru k
  let f := b.fmt (b.slotHead cru k)
  let l := b.drawing cru k
  16 < l.length &&
    (List.range f.bands).any fun band => (List.range (tileCols w)).any fun col =>
      let (x0, x1) := tileX w col
      16 < (l.filter fun m =>
        b.contributes cru m x0 x1 (16 * band) (16 * band + bandLines f.act band - 1)).length

/-- The moulds of a group (R180). -/
def groupMoulds (b : Block) (cru g : Nat) : List Nat := (List.range 96).filter fun m => b.get F.CRU_M_CTL_GROUP cru m = g

/-- An address of a mould's F fields, and of a group's. -/
def isMouldField (cru m a : Nat) : Bool :=
  let base := F.CRU_M_CTL_EN.at cru m
  base ≤ a && a < base + 0x28
def isGroupField (b : Block) (cru g a : Nat) : Bool := (groupMoulds b cru g).any fun m => isMouldField cru m a

/-- The first check that the resulting moulds fail: the mould, 0xFF for none, and the reason (R182). `b` holds the
moulds in effect, `b'` the resulting ones. -/
def commitBad (b b' : Block) (cru g lead : Nat) : Option (Nat × Nat) :=
  let l := (groupMoulds b' cru g).filter fun m => b'.on F.CRU_M_CTL_EN cru m
  match l.find? fun m => mouldBad b' cru lead m ≠ 0 with
  | some m => some (m, mouldBad b' cru lead m)
  | none =>
    if (b'.enabledSlots cru).any fun k => tilesCrowded b' cru k then some (0xFF, 0x04)
    else
      let changed := (b'.enabledSlots cru).any fun k => (b.drawing cru k).length ≠ (b'.drawing cru k).length
      if changed && (slackOf b' cru (b'.enabledSlots cru)).1 < 0 then some (0xFF, 0x08) else none

/-- A write to an F field of a commit group ends the report of its rejection (table CRU_GRP fields). -/
def groupTouched (a : Nat) (b : Block) : Block :=
  let w := a / 0x10000
  if 32 ≤ w && w ≤ 35 && 0x8000 ≤ a % 0x10000 then
    b.flag F.CRU_GRP_STAT_REJ false (w - 32) (b.get F.CRU_M_CTL_GROUP (w - 32) ((a % 0x10000 - 0x8000) / 0x40))
  else b

/-! ## Lateness (R183) -/

/-- A pending write changes a mould's input. -/
def inputChanged (b b' : Block) (cru m : Nat) : Bool :=
  b.get F.CRU_M_SRC_SRC cru m ≠ b'.get F.CRU_M_SRC_SRC cru m || b.sourced cru m ≠ b'.sourced cru m ||
    b.plateAddr cru m ≠ b'.plateAddr cru m

/-- A mould's source has a READY frame newer than the buffer that the mould holds (R183): not while it holds a picture in
decode, nor where the frame is the one that it keeps as the fallback of a picture. -/
def hasNewer (c : Clk) (b : Block) (lead cru m : Nat) : Bool :=
  let x := b.mould cru m
  let s := b.get F.CRU_M_SRC_SRC cru m
  match newestOf c b lead s, x.buf with
  | some k, some j => x.src ≠ s || (k ≠ j && x.fb ≠ some k && (b.buf j).state ≠ .filling)
  | some _, none => true
  | none, _ => false

/-- The late moulds of a group at this instant (R183). -/
def lateMoulds (c : Clk) (b b' : Block) (cru g lead : Nat) : List Nat :=
  let l := (groupMoulds b' cru g).filter fun m => b'.on F.CRU_M_CTL_EN cru m && b'.sourced cru m
  let all := b.on F.CRU_GRP_CFG_MODE cru g
  l.filter fun m =>
    (inputChanged b b' cru m && (newestOf c b' lead (b'.get F.CRU_M_SRC_SRC cru m)).isNone) ||
      (all && !hasNewer c b' lead cru m && !b.on F.CRU_M_STAT_EXCUSED cru m &&
        l.any fun j => j ≠ m && hasNewer c b' lead cru j)

/-! ## Applying (R181, R184, R185) -/

/-- The scaler factors and steps in effect (CRU_M_STAT, CRU_M_HSTEP, CRU_M_VSTEP). -/
def mouldScaler (cru m : Nat) (b : Block) : Block :=
  let g := b.geo cru m
  let code (n : Nat) : Nat := if n = 4 then 2 else n - 1
  let b := (b.put F.CRU_M_STAT_NDEC (code g.n) cru m).put F.CRU_M_STAT_MDEC (code g.m) cru m
  let b := b.put F.CRU_M_HSTEP_STEP (if g.sw = g.dw then 0 else axisStep g.sw g.dw) cru m
  b.put F.CRU_M_VSTEP_STEP (if g.sh = g.dh then 0 else axisStep g.sh g.dh) cru m

/-- Every mould of a group takes its buffer, but for those that keep theirs (R181 step 2, R184). -/
def takeBuffers (c : Clk) (lead cru g : Nat) (keep : List Nat) (b : Block) : Block :=
  (groupMoulds b cru g).foldl (fun b m =>
    if !b.on F.CRU_M_CTL_EN cru m || !b.sourced cru m then mouldDrop cru m b
    else if keep.contains m then mouldReport cru m b
    else mouldTake c lead cru m b) b

/-- The pending writes of a group's moulds become its fields in effect (R17). -/
def groupApply (cru g : Nat) (b : Block) : Block :=
  let sel (p : Pend) : Bool := isGroupField b cru g p.addr
  let b' := b.takeF sel
  if !(b.pendF.any fun p => sel p && b.ripe p) then b' else (groupMoulds b' cru g).foldl (fun b m => mouldScaler cru m b) b'

/-- The late moulds of the last instant are reported. -/
def reportLate (cru g : Nat) (late : List Nat) (b : Block) : Block :=
  let b := (b.put F.CRU_GRP_STAT_LATE late.length cru g).put F.CRU_GRP_STAT_FIRST_LATE (late.headD 0) cru g
  (groupMoulds b cru g).foldl (fun b m => b.flag F.CRU_M_STAT_LATE (late.contains m) cru m) b

/-! ## Region-signature windows (R216, R217) -/

/-- An address of a window's F fields. -/
def isWindowField (w a : Nat) : Bool :=
  let base := F.FET_RSW_CFG_EN.at w
  base ≤ a && a < base + 0x10

/-- The windows bound to a group. -/
def boundWindows (b : Block) (cru g : Nat) : List Nat :=
  (List.range 512).filter fun w => b.get F.FET_RSW_CFG_CRU w = cru && b.get F.FET_RSW_CFG_GRP w = g

/-- The bands of a head that a window intersects. -/
def windowBands (b : Block) (w : Nat) : Nat × Nat :=
  let y := b.get F.FET_RSW_XY_Y w
  (y / 16, (y + b.get F.FET_RSW_WH_H w - 1) / 16)

/-- Why a window's fields are refused, with the register offset; reason 0 for none (R217). -/
def windowBad (b : Block) (cru lead w : Nat) : Nat × Nat :=
  let h := b.get F.FET_RSW_CFG_HEAD w
  let wd := b.get F.FET_RSW_WH_W w
  let ht := b.get F.FET_RSW_WH_H w
  let (lo, hi) := windowBands b w
  let near (v : Nat) : Bool := b.on F.FET_RSW_CFG_EN v && b.get F.FET_RSW_CFG_HEAD v = h
  if wd = 0 || ht = 0 then (0x07, 8)
  else if (b.slotOf h).isNone then (0x05, 0)
  else if b.headWidth h < b.get F.FET_RSW_XY_X w + wd || (b.fmt h).act < b.get F.FET_RSW_XY_Y w + ht then (0x04, 4)
  else if !(b.slotOf h).any (fun q => q.1 = cru) || !sameTiming b lead h then (0x05, 0)
  else if b.on F.FET_RSW_CFG_EN w && (List.range (hi + 1)).any (fun band => lo ≤ band &&
      16 < ((List.range 512).filter fun v => near v && (windowBands b v).1 ≤ band && band ≤ (windowBands b v).2).length) then
    (0x06, 0)
  else (0, 0)

/-- The windows of a group take their fields at an applied commit (R216, R217). -/
def windowsApply (cru g lead : Nat) (b : Block) : Block :=
  (boundWindows b cru g).foldl (fun b w =>
    let sel (p : Pend) : Bool := isWindowField w p.addr && b.ripe p
    if !(b.pendF.any sel) then b
    else
      let b' := b.takeF sel
      let (r, off) := windowBad b' cru lead w
      if r = 0 then b'
      else
        let v := (b'.reg (F.FET_RSW_CFG_EN.at w + off)).toNat
        let b := { b with pendF := b.pendF.filter fun p => !sel p }
        ((b.put F.FET_RSW_STAT_REASON r w).evt F.FET_EVT_CFG_ERR).record 0x2409 3 (0x4000 + 0x20 * w + off) v r) b

/-! ## The commit instant (R181-R185) -/

/-- The F fields of the sources anchored to a group take effect (R86, R181 step 3). -/
def anchoredApply (c : Clk) (cru g : Nat) (b : Block) : Block :=
  (List.range 384).foldl (fun b s =>
    if b.get F.LAD_SRC_CTL_ANCHOR_CRU s = cru && b.get F.LAD_SRC_CTL_ANCHOR_GRP s = g then srcFieldsTake c s b else b) b

/-- A commit is rejected whole (R182, code 0x2001). -/
def commitReject (cru g m reason frame : Nat) (b : Block) : Block :=
  let b := (b.flag F.CRU_GRP_STAT_REJ true cru g).put F.CRU_GRP_STAT_REASON reason cru g
  (b.evt F.CRU_EVT_REJECT cru).record (inst := cru) 0x2001 3 g m reason frame

/-- A commit applies (R181, R184, R185): writes, buffers, windows and the frame count. -/
def commitApply (c : Clk) (cru g lead frame : Nat) (late : List Nat) (hold noTake : Bool) (write : Bool) (b : Block) : Block :=
  let deferred := b.get F.CRU_GRP_STAT_HELD cru g
  let b := if write then groupApply cru g b else b
  let l := groupMoulds b cru g
  let newer := l.filter fun m => hasNewer c b lead cru m
  let b := if noTake then b else takeBuffers c lead cru g late b
  let b := l.foldl (fun b m =>
    if late.contains m then b.flag F.CRU_M_STAT_EXCUSED hold cru m
    else if newer.contains m then b.flag F.CRU_M_STAT_EXCUSED false cru m
    else b) b
  let b := if write then windowsApply cru g lead b else b
  let b := (b.put F.CRU_GRP_STAT_HELD 0 cru g).put F.CRU_GRP_FRAME_FRAME frame cru g
  if late.isEmpty then b
  else (b.evt F.CRU_EVT_LATE cru).record (inst := cru) 0x2002 3 g late.length (late.headD 0) deferred

/-- The Crucible and the mould whose F field lies at an address. -/
def mouldOf (a : Nat) : Option (Nat × Nat) :=
  let w := a / 0x10000
  let o := a % 0x10000
  if 32 ≤ w && w ≤ 35 && 0x8000 ≤ o && o < 0x9800 then some (w - 32, (o - 0x8000) / 0x40) else none

/-- The commit groups led by a head, by 16 × Crucible + group, that have an enabled mould or a waiting write. -/
def owedGroups (b : Block) (h : Nat) : List Nat :=
  let grp (cru m : Nat) : Nat := 16 * cru + b.get F.CRU_M_CTL_GROUP cru m
  let enabled := b.regs.filterMap fun q => match mouldOf q.1 with
    | some (cru, m) => if q.1 = F.CRU_M_CTL_EN.at cru m && bit q.2.toNat F.CRU_M_CTL_EN.lsb then some (grp cru m) else none
    | none => none
  let written := b.pendF.filterMap fun p => (mouldOf p.addr).map fun q => grp q.1 q.2
  (enabled ++ written).filter fun k => b.slotHead (k / 16) (b.get F.CRU_GRP_CFG_LEAD (k / 16) (k % 16)) = h

/-- Every commit instant of a head's frame that comes before group `n`'s has been (R78). -/
def commitsBefore (b : Block) (h n : Nat) : Bool :=
  (owedGroups b h).all fun k => n ≤ k || (b.ras h).commits.contains k

/-- A group's instant of the frame under way is now: VFP 0 has been reached, the group has had no instant in the frame, and
no lower group of the lead head waits for its own (R78, R181). -/
def commitDue (c : Clk) (b : Block) (h cru g : Nat) : Bool :=
  let r := b.ras h
  r.phase == .running && lineReached (b.fmt h) r c.steady (b.fmt h).act && !r.commits.contains (16 * cru + g) &&
    commitsBefore b h (16 * cru + g)

/-- A commit instant of a group (R181): VFP 0 of its running lead head. While a re-lock is under way every layer keeps
its buffer (R71). -/
def commitInstant (c : Clk) (cru g : Nat) (b : Block) : Block :=
  let lead := b.get F.CRU_GRP_CFG_LEAD cru g
  let h := b.slotHead cru lead
  let r := b.ras h
  if !commitDue c b h cru g then b
  else
    let b := b.setRas h { r with commits := r.commits ++ [16 * cru + g] }
    let frame := b.frameOf h
    let rej := b.on F.CRU_GRP_STAT_REJ cru g
    let pend := !rej && b.pendF.any fun p => isGroupField b cru g p.addr && b.ripe p
    let b' := if pend then groupApply cru g b else b
    let b := match (if pend then commitBad b b' cru g lead else none) with
      | some (m, reason) =>
        let b := commitReject cru g m reason frame b
        if r.relock then b else takeBuffers c h cru g [] b
      | none =>
        let late := if r.relock then [] else lateMoulds c b b' cru g h
        let b := reportLate cru g late b
        let hold := b.on F.CRU_GRP_CFG_POLICY cru g
        let held := b.get F.CRU_GRP_STAT_HELD cru g
        if !late.isEmpty && hold && held < b.get F.CRU_GRP_CFG_HOLD_N cru g then b.put F.CRU_GRP_STAT_HELD (held + 1) cru g
        else commitApply c cru g h frame late hold r.relock (!rej) b
    anchoredApply c cru g b

/-- COMMIT_INSTANT (R181). -/
def execCommitInstant (dt : Nat) (cru : Cru) (grp : Fin 16) (s : State) : Host.Outcome State Fault Refusal :=
  s.run dt fun c _ b => commitInstant c cru.val grp.val b

end Sys2Proof.Machine
end

