-- ==== Sys2Proof/Machine/Fettler.lean ====
section
/-! DEFINITION. The Fettler: heads, verdicts, paint, dimming, the pour mark, region signatures, slag frames
(R193-R228). -/

namespace Sys2Proof.Machine

open Sys2Proof

/-- The frame index of a head (R242). -/
def Block.fidx (b : Block) (h : Nat) : Nat := b.get2 F.FET_PKT_FIDX_LO_F_LO F.FET_PKT_FIDX_HI_F_HI h

/-- The Fettler processes a head (R194). -/
def Block.fetRuns (b : Block) (h : Nat) : Bool :=
  b.domOn 9 && b.on F.FET_CTL_EN && b.on F.FET_HEAD_CTL_EN h && b.on F.TIM_HEAD_STAT_RUN h

/-- A head is in slag frames (R225). -/
def Block.slagHead (b : Block) (h : Nat) : Bool := b.on F.FET_HEAD_CTL_SLAGFRAME h

/-! ## The pour mark (R205-R207) -/

/-- The mark's left pixel and its band, as signed numbers (R205). -/
def markPlace (b : Block) (h : Nat) : Int × Int :=
  let w : Int := b.headWidth h
  let ix : Int := b.get F.FET_HEAD_MARK_INSET_X h
  let ib : Int := b.get F.FET_HEAD_MARK_INSET_B h
  let corner := b.get F.FET_HEAD_CTL_CORNER h
  let last : Int := (((b.fmt h).act / 16 : Nat) : Int) - 1
  (if corner % 2 = 0 then ix else w - 96 - ix, if corner < 2 then ib else last - ib)

/-- The mark lies within the head. -/
def markOk (b : Block) (h : Nat) : Bool :=
  let (x, y) := markPlace b h
  0 ≤ x && x + 96 ≤ (b.headWidth h : Int) && 0 ≤ y && y < (((b.fmt h).act / 16 : Nat) : Int)

/-- The 4-bit Gray count of a frame index (R206). -/
def gray (f : Nat) : Nat := Nat.xor (f % 16) (f % 16 / 2)

/-- An 8-bit R'G'B' colour register in 12 bits (R202). -/
def colour12 (v : Nat) : Nat × Nat × Nat := (expand8 (bits v 16 8), expand8 (bits v 8 8), expand8 (bits v 0 8))

/-- The pairs of colour registers (R202): the slag hatch, the flaw corner, the pour mark. -/
def colourRegs (i : Nat) : Fld × Fld :=
  if i = 0 then (F.FET_SLAG_C0_C, F.FET_SLAG_C1_C) else if i = 1 then (F.FET_FLAW_FILL_C, F.FET_FLAW_EDGE_C)
  else (F.FET_MARK_C0_C, F.FET_MARK_C1_C)

/-- A pair keeps R202: it differs by 0x80 or more in a component. -/
def coloursDiffer (x y : Nat) : Bool :=
  [0, 8, 16].any fun i => 0x80 ≤ ((bits x i 8 : Int) - bits y i 8).natAbs

/-- The colours in use of a pair: both reset values while the pair breaks R202. -/
def pairColours (b : Block) (i : Nat) : Nat × Nat :=
  let (f, g) := colourRegs i
  if coloursDiffer (b.get f) (b.get g) then (b.get f, b.get g) else (f.of (resetAt f.addr), g.of (resetAt g.addr))

/-- The pairs are checked (R202, code 0x2409): one that breaks the rule takes both reset values. -/
def colourCheck (b : Block) : Block :=
  (List.range 3).foldl (fun b i =>
    let (f, g) := colourRegs i
    if coloursDiffer (b.get f) (b.get g) then b
    else
      let v := b.get f
      let b := (b.put f (f.of (resetAt f.addr))).put g (g.of (resetAt g.addr))
      let b := b.flag { F.FET_COLOUR_STAT_SLAG_DEF with lsb := i } true
      (b.evt F.FET_EVT_CFG_ERR).record 0x2409 3 (f.addr % 0x10000) v 0x08) b

/-- The colour of cell `c` of the mark for Gray count `g` (R206): true for C1. -/
def cellSet (g c : Nat) : Bool := c = 0 || (c < 5 && bit g (4 - c))

def markColour (b : Block) (on : Bool) : Nat × Nat × Nat :=
  colour12 (if on then (pairColours b 2).2 else (pairColours b 2).1)

/-! ## Packet geometry (R229, R232) -/

/-- The format of a head's stream; bands under the reserved code are formed as 8-bit RGB (log 16). -/
def Block.pktFmt (b : Block) (h : Nat) : Nat := min 2 (b.get F.FET_PKT_FMT_FMT h)

/-- Pixels and octets of a pgroup. -/
def pgPix (fmt : Nat) : Nat := if fmt = 0 then 2 else if fmt = 1 then 4 else 1
def pgOct (fmt : Nat) : Nat := if fmt = 0 then 5 else if fmt = 1 then 15 else 3

/-- Pgroups of a line, and of a frame. -/
def Block.linePgs (b : Block) (h : Nat) : Nat := (b.headWidth h + pgPix (b.pktFmt h) - 1) / pgPix (b.pktFmt h)
def Block.framePgs (b : Block) (h : Nat) : Nat := b.linePgs h * (b.fmt h).act

/-- Pgroups of a packet; a stream never enabled with PGRP 0 is formed line by line (log 16). -/
def Block.pgrp (b : Block) (h : Nat) : Nat :=
  let n := b.get F.FET_PKT_FMT_PGRP h
  if n = 0 then max 1 (b.linePgs h) else n

/-- Packets of a frame (R232). -/
def Block.packets (b : Block) (h : Nat) : Nat := (b.framePgs h + b.pgrp h - 1) / b.pgrp h

/-- The packet that holds the first pgroup of a band. -/
def firstPacket (b : Block) (h band : Nat) : Nat := 16 * band * b.linePgs h / b.pgrp h

/-! ## Enable (R194) -/

/-- Why a head's enable is refused, or 0 (table Fettler refusal reasons). -/
def fetRefusal (b : Block) (h : Nat) : Nat :=
  if (b.slotOf h).isNone then 0x01
  else if b.headWidth h < 96 || (b.fmt h).act < 32 then 0x02
  else if !markOk b h then 0x03
  else 0

/-- The offset of a head's register in the FET window. -/
def fetOffset (h off : Nat) : Nat := 0x1000 + 0x20 * h + off

/-- Processing of a head begins (R194, R221): in a frame under way with the first band whose check line is still to come. A
head is not hatching then (log 81). -/
def fetResume (c : Clk) (h : Nat) (b : Block) : Block :=
  let n := if b.headRuns h then ((List.range (b.fmt h).bands).find? fun n => 0 < n && !checkReached c b h n).getD (b.fmt h).bands
    else 0
  b.setFet h { b.fet h with bands := [], hatching := false, crc := 0xFFFFFFFF, firstRow := 16 * n, nextPkt := firstPacket b h n,
                            nextAnc := n }

/-- The Fettler is enabled, or powered: the processing of its enabled heads begins. -/
def fetStart (c : Clk) (b : Block) : Block :=
  (List.range 64).foldl (fun b h => if b.on F.FET_HEAD_CTL_EN h then fetResume c h b else b) b

/-- FET_HEAD_CTL.EN written 1 while it was 0 (R194, code 0x2409). -/
def fetEnable (c : Clk) (h : Nat) (b : Block) : Block :=
  let r := fetRefusal b h
  if r = 0 then fetResume c h b
  else
    let v := (b.reg (F.FET_HEAD_CTL_EN.at h)).toNat
    ((b.flag F.FET_HEAD_CTL_EN false h).evt F.FET_EVT_CFG_ERR).record 0x2409 3 (fetOffset h 0) v r

/-! ## Verdicts (R193, R197, R198) -/

/-- A window whose fields in effect lie on a head. -/
def windowOn (b : Block) (h w : Nat) : Bool := b.on F.FET_RSW_CFG_EN w && b.get F.FET_RSW_CFG_HEAD w = h

/-- A window overlaps a rectangle of pixels of its head. -/
def windowMeets (b : Block) (w x0 x1 y0 y1 : Nat) : Bool :=
  let x := b.get F.FET_RSW_XY_X w
  let y := b.get F.FET_RSW_XY_Y w
  x ≤ x1 && x0 < x + b.get F.FET_RSW_WH_W w && y ≤ y1 && y0 < y + b.get F.FET_RSW_WH_H w

/-- The windows of a head whose SLAGGED is set. -/
def slaggedWindows (b : Block) (h : Nat) : List Nat :=
  (List.range 512).filter fun w => windowOn b h w && b.on F.FET_RSW_STAT_SLAGGED w

/-- The verdict of a tile without its windows (R193, R197): the first row of the table that applies. -/
def tileVerdict (c : Clk) (b : Block) (t : Tag) (list : List Nat) : Nat :=
  let age := ageMs c.ns64 t.oldest
  let dl := list.foldl (fun d s => min d (b.get F.LAD_SRC_MAXAGE_MAXAGE s)) 65535
  let stale := !list.isEmpty && dl < age
  if t.cls = 3 then 3
  else if t.cls = 2 || stale then 2
  else if t.cls = 1 && t.dslag then 3
  else if t.cls = 1 then 1
  else 0

/-- The paint of a verdict: 0 none, 1 flaw corner, 2 slag hatch. -/
def verdictPaint (v : Nat) : Nat := if v = 1 then 1 else if 2 ≤ v then 2 else 0

/-- The slag hatch (R199). -/
def slagPixel (b : Block) (x y : Nat) : Nat × Nat × Nat :=
  colour12 (if (x + y) / 8 % 2 = 0 then (pairColours b 0).1 else (pairColours b 0).2)

/-- The lines of a band built from the slag hatch (R198, R225). -/
def slagBand (b : Block) (w act band : Nat) : List (List (Nat × Nat × Nat)) :=
  (List.range (bandLines act band)).map fun l => (List.range w).map fun x => slagPixel b x (16 * band + l)

/-- A band with every tile at verdict 3. -/
def fullSlag (b : Block) (h w band frame : Nat) (slag : Bool) : CheckedBand :=
  let n := tileCols w
  { band := band, frame := frame, verdicts := List.replicate n 3, paints := List.replicate n 2,
    ages := List.replicate n none, eh := false, fell := false, pixels := slagBand b w (b.fmt h).act band, slag := slag }

/-- Why a band was not delivered (code 0x240B): 0 Crucible stopped or off, 1 no enabled slot, 2 slot not running. -/
def undeliveredCause (b : Block) (h : Nat) : Nat :=
  match b.slotOf h with
  | none => 1
  | some (cru, _) => if !b.on F.CRU_CTL_EN cru || !b.domOn (5 + cru) then 0 else 2

/-- The frame index that a band checked now belongs to. -/
def bandIndex (b : Block) (h band : Nat) : Nat :=
  if band = 0 && (b.fet h).heat.isSome && (b.ras h).phase ≠ .idle then (b.fidx h + 1) % 2 ^ 48 else b.fidx h

/-- The number of tiles of a band with verdict 2 or 3. -/
def CheckedBand.hatched (x : CheckedBand) : Nat := (x.verdicts.filter (2 ≤ ·)).length

/-- A whole frame of a head has been checked and no tile of it is hatched. -/
def cleanFrame (b : Block) (h frame : Nat) : Bool :=
  (List.range (b.fmt h).bands).all fun n => (b.fet h).bands.any fun x => x.frame = frame && x.band = n && x.hatched = 0

/-- The head stops hatching at the end of a whole frame without a hatched tile (R228, code 0x2404); `index`: the frame's. -/
def hatchStop (c : Clk) (h index : Nat) (b : Block) : Block :=
  let st := b.fet h
  (b.setFet h { st with hatching := false }).recordLim c (0x24040000 + h) sTick 0x2404 2 h index st.lastHatched

/-- The head starts hatching (R228, code 0x2403): also with band 0, in the blanking after a whole frame with none. -/
def noteHatch (c : Clk) (h : Nat) (x : CheckedBand) (worst : List Nat) (b : Block) : Block :=
  let b := if 0 < x.hatched && x.band = 0 && (b.fet h).hatching && 0 < x.frame && cleanFrame b h (x.frame - 1) then
    hatchStop c h (b.fidx h) b else b
  if x.hatched = 0 || (b.fet h).hatching then b
  else
    let i := (x.verdicts.findIdx? (2 ≤ ·)).getD 0
    let b := (b.setFet h { b.fet h with hatching := true }).evt F.FET_EVT_HATCH
    b.recordLim c (0x24030000 + h) sTick 0x2403 4 h x.band (bandIndex b h x.band)
      (worst.getD i 511 + x.verdicts.getD i 0 * 2 ^ 30)

/-! ## Region signatures (R218, R219) -/

/-- The bytes of a composed pixel in a signature (R218). -/
def signatureBytes (p : Nat × Nat × Nat) : List Byte :=
  leBytes 2 (p.1 * 16) ++ leBytes 2 (p.2.1 * 16) ++ leBytes 2 (p.2.2 * 16)

/-- Take a checked band into the signatures of the windows that it crosses. -/
def signBand (h : Nat) (x : CheckedBand) (b : Block) : Block :=
  (List.range 512).foldl (fun b w =>
    let y := b.get F.FET_RSW_XY_Y w
    let ht := b.get F.FET_RSW_WH_H w
    if !windowOn b h w || !windowMeets b w 0 0xFFFF (16 * x.band) (16 * x.band + x.pixels.length - 1) then b
    else
      let st := tget {} b.rsws w
      let st := if st.frame = x.frame + 1 then st else { frame := x.frame + 1, bad := st.bad }
      let l := x.pixels.zipIdx.filter fun q => y ≤ 16 * x.band + q.2 && 16 * x.band + q.2 < y + ht
      let crc := l.foldl (fun r q =>
        crcBytes r (((q.1.drop (b.get F.FET_RSW_XY_X w)).take (b.get F.FET_RSW_WH_W w)).flatMap signatureBytes)) st.crc
      { b with rsws := tput {} b.rsws w { st with crc := crc, lines := st.lines + l.length } }) b

/-- After a window's last line its signature is compared with EXP (R219, codes 0x2405, 0x2406). -/
def signatureCompare (c : Clk) (w : Nat) (b : Block) : Block :=
  let st := tget {} b.rsws w
  let h := b.get F.FET_RSW_CFG_HEAD w
  let f := b.fmt h
  let last := b.get F.FET_RSW_XY_Y w + b.get F.FET_RSW_WH_H w
  let passed := (b.ras h).phase == .running && st.frame = b.frameOf h + 1 && lineReached f (b.ras h) c.steady last
  if !b.on F.FET_RSW_CFG_EN w || !passed || st.lines ≠ b.get F.FET_RSW_WH_H w then b
  else
    let sig := ~~~ st.crc
    let ok := sig.toNat = b.get F.FET_RSW_EXP_EXP w
    let was := b.on F.FET_RSW_STAT_SLAGGED w
    let b := ((b.put F.FET_RSW_LAST_LAST sig.toNat w).flag F.FET_RSW_STAT_MATCH ok w).flag F.FET_RSW_STAT_SLAGGED (!ok) w
    let keep (n : Nat) (b : Block) : Block := { b with rsws := tput {} b.rsws w { frame := 0, bad := n } }
    if ok then
      let b := if was then b.record 0x2406 3 w h st.bad else b
      keep 0 b
    else
      let b := (b.inc F.FET_RSW_STAT_MISS w).evt F.FET_EVT_RSW
      let b := if was then b
        else b.recordLim c (0x24050000 + w) sTick 0x2405 5 w h (b.get F.FET_RSW_EXP_EXP w) sig.toNat
      keep (if was then st.bad + 1 else 1) b

/-! ## The band check (R159, R197, R198, R225) -/

/-- The verdicts of a delivered band (R193, R197). -/
def judgeBand (c : Clk) (b : Block) (h w : Nat) (x : BandIn) : CheckedBand :=
  let wins := if x.band = 0 then slaggedWindows b h else (b.fet h).shown.filter (windowOn b h)
  let y0 := 16 * x.band
  let base := (x.tags.zip x.lists).map fun q => tileVerdict c b q.1 q.2
  let verdicts := base.zipIdx.map fun v =>
    let (x0, x1) := tileX w v.2
    if wins.any fun z => windowMeets b z x0 x1 y0 (y0 + x.pixels.length - 1) then 3 else v.1
  { band := x.band, frame := x.frame, verdicts := verdicts, paints := base.map verdictPaint,
    ages := (x.tags.zip x.lists).map fun q => if q.2.isEmpty then none else some (ageMs c.ns64 q.1.oldest, q.1.worst),
    eh := x.tags.any (·.eh), fell := x.tags.any (·.fallback), pixels := x.pixels, slag := false }

/-- The Fettler keeps a checked band: it is reported, counted and signed. -/
def keepBand (c : Clk) (h : Nat) (x : CheckedBand) (worst : List Nat) (b : Block) : Block :=
  let st := b.fet h
  let b := (b.setFet h { st with bands := st.bands ++ [x] }).put F.FET_HEAD_STAT_BAND x.band h
  let b := noteHatch c h x worst b
  if x.slag then b else signBand h x b

/-- A band's check line starts (R159, R197, R198, R225). `complete`: the tile columns whose composition is complete. -/
def bandCheck (c : Clk) (m : Mem) (h band : Nat) (complete : List Nat) (b : Block) : Block :=
  let f := b.fmt h
  let frame := (bandFrame b h (band = 0)).1
  if f.bands ≤ band || !checkReached c b h band || (b.fet h).bands.any (fun x => x.band = band && x.frame = frame) then b
  else
    let st := b.fet h
    -- the release of outputs reaches the head with band 0 (R487)
    let b := if band = 0 && st.rel = 1 then
      (b.flag F.FET_HEAD_CTL_SLAGFRAME st.imgSlag h).setFet h { st with rel := 2 } else b
    let w := b.headWidth h
    let isIt (x : BandIn) : Bool := x.head = h && x.band = band
    if b.fetRuns h && b.slagHead h then
      let b := { b with
        comps := b.comps.filter fun q => !(q.head = h && q.band = band)
        handed := b.handed.filter fun x => !isIt x }
      keepBand c h (fullSlag b h w band frame true) [] b
    else
      let b := missBand c m h band frame complete b
      let got := b.handed.find? fun x => isIt x && x.frame = frame
      let b := { b with handed := b.handed.filter fun x => !isIt x }
      if !b.fetRuns h then b
      else match got with
        | some x =>
          keepBand c h (judgeBand c b h w x) (x.tags.map (·.worst)) (b.flag F.FET_HEAD_STAT_NODELIV false h)
        | none =>
          let first := !b.on F.FET_HEAD_STAT_NODELIV h
          let b := b.flag F.FET_HEAD_STAT_NODELIV true h
          let b := if first then
            b.recordLim c (0x240B0000 + h) sTick 0x240B 5 h band (bandIndex b h band) (undeliveredCause b h) else b
          keepBand c h (fullSlag b h w band frame false) [] b

/-! ## Paint (R200, R201, R203, R206, R226) -/

/-- The flaw corner (R200): the colour at distance `d`, if it is drawn. -/
def flawPixel (b : Block) (d : Nat) : Option (Nat × Nat × Nat) :=
  if d ≤ 10 then some (colour12 (pairColours b 1).1) else if d = 11 then some (colour12 (pairColours b 1).2) else none

/-- The level of a head in effect (R203). -/
def Block.dimLevel (b : Block) (h : Nat) : Nat := if b.on F.FET_HEAD_STAT_DIMMED h then b.get F.FET_HEAD_DIM_LEVEL h else 256

/-- Dimming of a component (R203). -/
def dimComp (level v : Nat) : Nat := (v * level + 128) / 256

/-- The identity word of a head (R226). -/
def identityWord (b : Block) (h : Nat) : Nat :=
  b2n (b.on F.SYS_STRAP_UNIT) * 2048 + b.get F.SYS_STRAP_POS * 512 + h * 8 + b.get F.SYS_ID_STEP

/-- The identity bar's left pixel and band (R226). -/
def identityPlace (b : Block) (h : Nat) : Int × Int :=
  let (x, y) := markPlace b h
  let corner := b.get F.FET_HEAD_CTL_CORNER h
  (if corner % 2 = 0 then x else x + 96 - 224, if corner < 2 then y + 1 else y - 1)

/-- The colour of the identity bar's cell `c` (R226): true for C1. -/
def identityCell (word c : Nat) : Bool := c = 0 || (c < 13 && bit word (12 - c))

/-- The output pixel of a checked band at a head position (R201). -/
def outPixel (b : Block) (h : Nat) (q : CheckedBand) (x y : Nat) : Nat × Nat × Nat :=
  let w := b.headWidth h
  let col := x / 64
  let p := (q.pixels.getD (y - 16 * q.band) []).getD x (2048, 2048, 2048)
  let paint := q.paints.getD col 2
  let p := if paint = 2 then slagPixel b x y
    else if paint = 1 then (flawPixel b ((tileX w col).2 - x + (y - 16 * q.band))).getD p
    else p
  let hit := (b.fet h).shown.any fun z => windowOn b h z && windowMeets b z x x y y
  let p := if hit then slagPixel b x y else p
  let lv := b.dimLevel h
  let p := (dimComp lv p.1, dimComp lv p.2.1, dimComp lv p.2.2)
  let (mx, mb) := markPlace b h
  let (ix, ib) := identityPlace b h
  let xi : Int := x
  if mb = q.band && mx ≤ xi && xi < mx + 96 then
    markColour b (cellSet (b.get F.FET_HEAD_STAT_GRAY h) ((xi - mx).toNat / 16))
  else if q.slag && ib = q.band && ix ≤ xi && xi < ix + 224 then
    markColour b (identityCell (identityWord b h) ((xi - ix).toNat / 16))
  else p

/-! ## Frames (R204, R207, R219, R228) -/

/-- VFP 0: the mark's pattern of the next frame (R207). -/
def pourMark (h next : Nat) (b : Block) : Block := b.setFet h { b.fet h with nextG := some (gray next) }

/-- A request to light or dim a head takes effect (R204, code 0x240A). -/
def dimTake (h : Nat) (r : DimReq) (b : Block) : Block :=
  let old := b.dimLevel h
  let b := b.flag F.FET_HEAD_STAT_DIMMED (!r.lit) h
  let b := if r.late then b.evt F.FET_EVT_DIM else b
  b.record 0x240A 1 h old (b.dimLevel h) (b.fidx h % 2 ^ 31 + (if r.late then 2 ^ 31 else 0))

/-- The requests of a head that are due at the start of the frame with index F. -/
def dimsDue (h : Nat) (b : Block) : Block :=
  let st := b.fet h
  let due := st.dims.filter fun r => r.target ≤ b.fidx h
  due.foldl (fun b r => dimTake h r b) (b.setFet h { st with dims := st.dims.filter fun r => b.fidx h < r.target })

/-- The unit forwards its dimming requests: it is ACTIVE and its partner is there (R204, R305). -/
def Block.forwards (b : Block) : Bool := b.paired && b.get F.PAIR_STAT_ROLE = 1

/-- A request to light or dim a head (R204): for frame F + AHEAD, forwarded to the partner. -/
def dimRequest (h : Nat) (lit : Bool) (b : Block) : Block :=
  let target := (b.fidx h + b.get F.FET_DIM_CFG_AHEAD) % 2 ^ 48
  let st := b.fet h
  let b := b.setFet h { st with dims := st.dims ++ [{ lit := lit, target := target, late := false }] }
  if b.forwards then
    b.tell (.dim (Fin.ofNat 64 h) (if lit then 1 else 2) (BitVec.ofNat 48 target))
  else b

/-- FET_HEAD_DIM.REQ (R204): 0 and 3 have no effect. -/
def dimWrite (h req : Nat) (b : Block) : Block :=
  if req = 1 then dimRequest h true b else if req = 2 then dimRequest h false b else b

/-- A request forwarded by the partner (R204): late if its target frame has started. -/
def dimForwarded (h req target : Nat) (b : Block) : Block :=
  if req ≠ 1 && req ≠ 2 then b
  else
    let st := b.fet h
    b.setFet h { st with dims := st.dims ++ [{ lit := req = 1, target := target, late := target ≤ b.fidx h }] }

/-- A calendar event that targets FET (table Fettler calendar events). -/
def fetCalendar (event : Nat) (b : Block) : Block :=
  let each (desk : Nat) (lit : Bool) : Block :=
    (List.range 64).foldl (fun b h =>
      if b.on F.FET_HEAD_DIM_DESK_EN h && b.get F.FET_HEAD_DIM_DESK h = desk then dimRequest h lit b else b) b
  if 0x10 ≤ event && event ≤ 0x13 then each (event - 0x10) true
  else if 0x18 ≤ event && event ≤ 0x1B then each (event - 0x18) false
  else b.evt F.FET_EVT_WIGN

/-- The Fettler at a head's frame start (R204, R207, R219, R228, table FET_HEAD_CNT). -/
def fetFrameStart (c : Clk) (h : Nat) (repeated : Bool) (b : Block) : Block :=
  let st := b.fet h
  let frame := b.frameOf h
  let done := st.bands.filter fun x => x.frame + 1 = frame
  let hatched := (done.map CheckedBand.hatched).sum
  let flaw := (done.map fun x => (x.verdicts.filter (· = 1)).length).sum
  let whole := (List.range (b.fmt h).bands).all fun n => done.any (·.band = n)
  let next := st.bands.filter fun x => x.frame = frame
  let b := if whole then (b.put F.FET_HEAD_CNT_HATCH hatched h).put F.FET_HEAD_CNT_FLAW flaw h else b
  let b := if whole && hatched = 0 && st.hatching && !next.any (0 < ·.hatched) then
    hatchStop c h ((b.fidx h + 2 ^ 48 - 1) % 2 ^ 48) b else b
  -- a frame whose band 0 was not checked is processed from band 1 on
  let n := if b.fetRuns h && next.isEmpty then 1 else 0
  let b := (b.flag F.FET_HEAD_STAT_REPEAT repeated h).put F.FET_HEAD_STAT_GRAY (st.nextG.getD (gray (b.fidx h))) h
  let b := b.setFet h { b.fet h with
    bands := next, lastHatched := if 0 < hatched then hatched else st.lastHatched, nextG := none, shown := slaggedWindows b h,
    crc := 0xFFFFFFFF, firstRow := 16 * n, nextPkt := firstPacket b h n, nextAnc := n, sentAny := false, lastLive := none }
  dimsDue h b

/-! ## Re-arm (R210) -/

/-- FET_HEAD_CTL.REARM written 1 (R210, code 0x2408). -/
def rearm (h : Nat) (b : Block) : Block :=
  if b.on F.FET_HEAD_STAT_STOPPED h then
    (b.flag F.FET_HEAD_STAT_STOPPED false h).record 0x2408 3 h (b.fidx h) (b.get F.FET_HEAD_RB_MISMATCH h)
  else b

/-! ## Commands -/

/-- BAND_CHECK (R197). -/
def execBandCheck (dt : Nat) (h : Head) (band : Fin 135) (complete : List (Fin 64)) (s : State) :
    Host.Outcome State Fault Refusal :=
  s.run dt fun c m b => bandCheck c m h.val band.val (complete.map (·.val)) b

/-- REGION_SIGNATURE_COMPARE (R219). -/
def execRegionSignatureCompare (dt : Nat) (win : Fin 512) (s : State) : Host.Outcome State Fault Refusal :=
  s.run dt fun c _ b => signatureCompare c win.val b

end Sys2Proof.Machine
end

