-- ==== Sys2Proof/Machine/Packet.lean ====
section
/-! DEFINITION. The packetizers: formats and samples, packets and their numbers, the streams' states, paths, readback
(R208-R210, R220-R224, R229-R253), and writeback frames becoming READY (R188, R190). -/

namespace Sys2Proof.Machine

open Sys2Proof

/-! ## Samples (R229, R230) -/

/-- The coefficients of the table Output matrices: Y, Cb and Cr. -/
def outMatrix (colour : Nat) : (Int × Int × Int) × (Int × Int × Int) × (Int × Int × Int) :=
  if colour = 0 then ((2981, 10027, 1012), (-1643, -5527, 7170), (7170, -6512, -658))
  else ((3683, 9505, 831), (-2002, -5168, 7170), (7170, -6593, -577))

/-- One row of an output matrix applied to a pixel (R230). -/
def outComp (base : Int) (m : Int × Int × Int) (p : Nat × Nat × Nat) : Nat :=
  (max 4 (min 1019 (base + (m.1 * p.1 + m.2.1 * p.2.1 + m.2.2 * p.2.2 + 32768) / 65536))).toNat

/-- The samples of a pgroup's pixels, in their order in the pgroup (R229, R230). -/
def groupSamples (fmt colour : Nat) (px : List (Nat × Nat × Nat)) : List Nat :=
  if fmt = 0 then
    let (my, mb, mr) := outMatrix colour
    let p := px.getD 0 (0, 0, 0)
    let q := px.getD 1 p
    [(outComp 512 mb p + outComp 512 mb q + 1) / 2, outComp 64 my p,
     (outComp 512 mr p + outComp 512 mr q + 1) / 2, outComp 64 my q]
  else px.flatMap fun p =>
    if fmt = 1 then [p.1 / 4, p.2.1 / 4, p.2.2 / 4] else [p.1 / 16, p.2.1 / 16, p.2.2 / 16]

/-- The octets of a pgroup: its samples, most significant bit first. -/
def groupOctets (fmt : Nat) (l : List Nat) : List Byte :=
  let w := if fmt = 2 then 8 else 10
  beBytes (pgOct fmt) (l.foldl (fun v x => v * 2 ^ w + x) 0)

/-- The samples of pixel `x` of a line within its pgroup's samples. -/
def pixelSamples (fmt x : Nat) (l : List Nat) : List Nat :=
  if fmt = 0 then [l.getD 0 0, l.getD (1 + 2 * (x % 2)) 0, l.getD 2 0]
  else if fmt = 1 then (l.drop (3 * (x % 4))).take 3
  else l

/-! ## Loads (R235, R247) -/

/-- FET_PKT_PPF at a read. -/
def packetsPerFrame (b : Block) (h : Nat) : Nat × Nat :=
  (if b.get F.FET_PKT_FMT_PGRP h = 0 then 0 else b.packets h % 65536, (b.fmt h).bands)

/-- A head's streams use a path (R246). -/
def Block.usesPath (b : Block) (h p : Nat) : Bool := bit (b.get F.FET_PKT_CTL_PATHS h) p

/-- The wire octets of a frame's packets on a path (R247): payload, row headers, and 82 octets of headers, tag excepted,
for each video packet; 162 for each liveness packet. -/
def wireOctets (b : Block) (h p : Nat) : Nat :=
  let tag := if b.on F.FET_PKT_P_QOS_VLAN_EN h p then 4 else 0
  let l := b.linePgs h
  let two := ((List.range ((b.fmt h).act - 1)).filter fun j => (j + 1) * l % b.pgrp h ≠ 0).length
  let video := b.framePgs h * pgOct (b.pktFmt h) + b.packets h * (2 + 6 + 12 + 8 + 20 + 14 + 4 + 20 + tag) + 6 * two
  let live := if b.on F.FET_PKT_CTL_ANC_EN h then (b.fmt h).bands * (8 + 60 + 12 + 8 + 20 + 14 + 4 + 20 + tag) else 0
  video + live

/-- The data rate of a lane's Ethernet mode in Gb/s; 0 where the lane has none (R247). -/
def laneGbps (b : Block) (lane : Nat) : Nat :=
  let m := if lane < 48 then b.get F.LNK_L_CTL_MODE (lane / 4) (lane % 4) else 0
  if m = 1 then 10 else if m = 2 || m = 3 then 25 else 0

/-- The paths that a head loads, and the bit rate of each as a fraction. -/
def pathLoads (b : Block) (h : Nat) : List (Nat × Nat × Nat) :=
  ((List.range 2).filter (b.usesPath h)).map fun p =>
    let f := b.fmt h
    (b.get F.FET_PKT_P_MAC_SEL h p, wireOctets b h p * 8 * f.num, f.den)

/-- The load on a MAC by the enabled streams of `heads`, in bit/s as a fraction. -/
def macLoad (b : Block) (heads : List Nat) (lane : Nat) : Nat × Nat :=
  fracSum ((heads.flatMap (pathLoads b)).filterMap fun q => if q.1 = lane then some q.2 else none)

/-- The heads whose streams are enabled. -/
def Block.streams (b : Block) : List Nat :=
  (List.range 64).filter fun h => b.on F.FET_PKT_CTL_EN h || b.get F.FET_PKT_STAT_STATE h ≠ 0

/-- Why a stream's enable is refused, or 0 (R235, R247, table Packetizer refusal reasons). -/
def streamRefusal (b : Block) (h : Nat) : Nat :=
  let fmt := b.get F.FET_PKT_FMT_FMT h
  let n := b.get F.FET_PKT_FMT_PGRP h
  let w := b.headWidth h
  let heads := (b.streams.filter (· ≠ h)) ++ [h]
  let lanes := (pathLoads b h).map (·.1)
  let tooFull (lane : Nat) : Bool :=
    let q := macLoad b heads lane
    laneGbps b lane ≠ 0 && 97 * laneGbps b lane * 10000000 * q.2 < q.1
  if fmt = 3 || b.get F.FET_PKT_CTL_PATHS h = 0 then 0x10
  else if w % pgPix fmt ≠ 0 then 0x11
  else if n = 0 || 1440 < n * pgOct fmt || w < n * pgPix fmt then 0x12
  else if 65535 < b.packets h then 0x13
  else if lanes.any tooFull then 0x14
  else if lanes.any fun l => laneGbps b l = 0 then 0x15
  else 0

/-- FET_PKT_CTL.EN written 1 (R235, R247, R248, code 0x2416): the stream is armed, or its enable is refused. -/
def streamEnable (h : Nat) (b : Block) : Block :=
  let r := streamRefusal b h
  if r = 0 then (if b.get F.FET_PKT_STAT_STATE h = 0 then b.put F.FET_PKT_STAT_STATE 1 h else b)
  else
    let v := (b.reg (F.FET_PKT_CTL_EN.at h)).toNat
    (((b.flag F.FET_PKT_CTL_EN false h).put F.FET_PKT_REASON_REASON r h).evt F.FET_PKT_EVT_CFG_ERR).record 0x2416 3 h
      (0x9000 + 0x80 * h) v r

/-- EN and MUTE of a stream as they stood when this cycle began (R250). -/
def streamCtl (b : Block) (h : Nat) : Bool × Bool :=
  match (b.fet h).ctlWas with
  | some (t, en, mute) => if t = b.now then (en, mute) else (b.on F.FET_PKT_CTL_EN h, b.on F.FET_PKT_CTL_MUTE h)
  | none => (b.on F.FET_PKT_CTL_EN h, b.on F.FET_PKT_CTL_MUTE h)

/-- FET_PKT_CTL written, `b0` being the block before: a write of 1 to EN that finds it 0, or the stream OFF, is an enable. -/
def streamWrite (h : Nat) (b0 b : Block) : Block :=
  let b := b.setFet h { b.fet h with ctlWas := some (b.now, streamCtl b0 h) }
  if b.on F.FET_PKT_CTL_EN h && (!b0.on F.FET_PKT_CTL_EN h || b.get F.FET_PKT_STAT_STATE h = 0) then streamEnable h b else b

/-! ## Numbers and timestamps (R241-R245) -/

/-- The RTP timestamp of a frame (R241). -/
def frameTs (b : Block) (h aidx : Nat) : Nat :=
  let f := b.fmt h
  if f.num = 0 then 0 else aidx * f.den * 90000 / f.num % 2 ^ 32

/-- The sequence value of packet `k` of `p` (R244). -/
def seqOf (f p k : Nat) : Nat := (f * p + k) % 2 ^ 32

/-! ## Headers (R231-R234, R240) -/

/-- The destination address of a path (R234, table FET_PKT_P registers): from a multicast DIP under AUTO. -/
def destMac (b : Block) (h p : Nat) : Nat :=
  let ip := b.get F.FET_PKT_P_DIP_DIP h p
  if b.on F.FET_PKT_P_DMAC_HI_AUTO h p && ip / 2 ^ 28 = 14 then 0x01005E000000 + ip % 2 ^ 23
  else b.get F.FET_PKT_P_DMAC_LO_DMAC_LO h p + 2 ^ 32 * b.get F.FET_PKT_P_DMAC_HI_DMAC_HI h p

/-- The source address of a MAC. -/
def macAddr (b : Block) (lane : Nat) : Nat :=
  b.get F.ETH_M_ADDR_LO_ADDR_LO (lane / 4) (lane % 4) + 2 ^ 32 * b.get F.ETH_M_ADDR_HI_ADDR_HI (lane / 4) (lane % 4)

/-- Fold a sum of 16-bit words to one's complement. -/
def foldSum (n : Nat) : Nat := let a := n % 65536 + n / 65536; let a := a % 65536 + a / 65536; a % 65536 + a / 65536

/-- The sum of 16-bit big-endian words. -/
def wordSum : List Byte → Nat
  | a :: b :: t => a.toNat * 256 + b.toNat + wordSum t
  | [a] => a.toNat * 256
  | [] => 0

/-- An IPv4 header without options: DSCP, total length, TTL, source and destination, with its checksum (R234). -/
def ipHeader (dscp len ttl src dst : Nat) : List Byte :=
  let h (ck : Nat) : List Byte :=
    [0x45, BitVec.ofNat 8 (dscp * 4)] ++ beBytes 2 len ++ [0, 0, 0x40, 0, BitVec.ofNat 8 ttl, 17] ++ beBytes 2 ck ++
      beBytes 4 src ++ beBytes 4 dst
  h (65535 - foldSum (wordSum (h 0)))

/-- A frame shorter than 60 octets is padded with zeros. -/
def padFrame (l : List Byte) : List Byte := l ++ List.replicate (60 - l.length) 0

/-- The Ethernet frame of an RTP packet on a path (R234). -/
def pathFrame (b : Block) (h p : Nat) (live : Bool) (rtp : List Byte) : List Byte :=
  let lane := b.get F.FET_PKT_P_MAC_SEL h p
  let (sp, dp) := if live then (b.get F.FET_PKT_P_APORT_SPORT_A h p, b.get F.FET_PKT_P_APORT_DPORT_A h p)
    else (b.get F.FET_PKT_P_PORT_SPORT_V h p, b.get F.FET_PKT_P_PORT_DPORT_V h p)
  let tag := if b.on F.FET_PKT_P_QOS_VLAN_EN h p then
      beBytes 2 0x8100 ++ beBytes 2 (b.get F.FET_PKT_P_QOS_PCP h p * 8192 + b.get F.FET_PKT_P_QOS_VID h p)
    else []
  let len := rtp.length + 8
  padFrame (beBytes 6 (destMac b h p) ++ beBytes 6 (macAddr b lane) ++ tag ++ beBytes 2 0x0800 ++
    ipHeader (b.get F.FET_PKT_P_QOS_DSCP h p) (20 + len) (b.get F.FET_PKT_P_QOS_TTL h p)
      (b.get F.ETH_M_IP_IP (lane / 4) (lane % 4)) (b.get F.FET_PKT_P_DIP_DIP h p) ++
    beBytes 2 sp ++ beBytes 2 dp ++ beBytes 2 len ++ [0, 0] ++ rtp)

/-- The RTP fixed header (R231). -/
def rtpHeader (marker : Bool) (pt seq ts ssrc : Nat) : List Byte :=
  [0x80, BitVec.ofNat 8 (b2n marker * 128 + pt)] ++ beBytes 2 (seq % 65536) ++ beBytes 4 ts ++ beBytes 4 ssrc

/-! ## Forming packets (R220, R221, R236) -/

/-- A segment of a packet: the row, its first pgroup and how many. -/
structure Segment where
  row : Nat
  col : Nat
  n : Nat

/-- Cut pgroups `g` to `g + n` of a frame into rows of `l` pgroups. -/
def segments (l : Nat) : Nat → Nat → Nat → List Segment
  | 0, _, _ => []
  | fuel + 1, g, n =>
    if n = 0 || l = 0 then []
    else
      let k := min n (l - g % l)
      { row := g / l, col := g % l, n := k } :: segments l fuel (g + k) (n - k)

/-- The checked band of the frame under way that holds a row. -/
def Block.bandOfRow (b : Block) (h row : Nat) : Option CheckedBand :=
  (b.fet h).bands.find? fun x => x.band = row / 16 && x.frame = b.frameOf h

/-- The samples of pgroup `g` of a row. -/
def rowGroup (b : Block) (h : Nat) (q : CheckedBand) (row g : Nat) : List Nat :=
  let fmt := b.pktFmt h
  groupSamples fmt (b.get F.FET_PKT_FMT_COLOUR h)
    ((List.range (pgPix fmt)).map fun i => outPixel b h q (g * pgPix fmt + i) row)

/-- The octets of a segment. -/
def segmentOctets (b : Block) (h : Nat) (s : Segment) : List Byte :=
  match b.bandOfRow h s.row with
  | none => []
  | some q => (List.range s.n).flatMap fun i => groupOctets (b.pktFmt h) (rowGroup b h q s.row (s.col + i))

/-- The sample row data headers of a packet's segments (R233). -/
def rowHeaders (fmt : Nat) : List Segment → List Byte
  | [] => []
  | s :: t =>
    beBytes 2 (s.n * pgOct fmt) ++ beBytes 2 s.row ++
      beBytes 2 ((if t.isEmpty then 0 else 32768) + s.col * pgPix fmt) ++ rowHeaders fmt t

/-- Pixel `q` of `w` per line of the frame has been reached (R236). -/
def pixelReached (f : HeadFmt) (r : Raster) (t : Tick) (q w : Nat) : Bool :=
  ((q : Int) * f.den * sTick * (256 * f.total + r.slew)) ≤
    (((t - r.act0) * f.num * f.total * 256 * f.total * w : Nat) : Int)

/-- A segment enters the seal; one that ends a band ends its seal (R220, R221): the bands and seals finished. -/
def sealSegment (h : Nat) (q : List (Nat × Word) × Block) (s : Segment) : List (Nat × Word) × Block :=
  let b := q.2
  let st := b.fet h
  let crc := crcBytes st.crc (segmentOctets b h s)
  let ends := s.col + s.n = b.linePgs h && (s.row % 16 = 15 || s.row + 1 = (b.fmt h).act)
  if ends then
    let band := s.row / 16
    let sl := ~~~ crc
    let frame := b.frameOf h
    let bands := st.bands.map fun x => if x.band = band && x.frame = frame then { x with sealWord := some sl } else x
    let b := b.setFet h { st with crc := 0xFFFFFFFF, bands := bands }
    let b := b.put F.FET_HEAD_SEAL_SEAL sl.toNat h
    let b := (b.put F.FET_HEAD_SEALID_BAND band h).put F.FET_HEAD_SEALID_FRAME (b.fidx h) h
    (q.1 ++ [(band, sl)], b)
  else (q.1, b.setFet h { st with crc := crc })

/-- The stream's link bit of a path. -/
def linkFld (p : Nat) : Fld := if p = 0 then F.FET_PKT_STAT_LINK_A else F.FET_PKT_STAT_LINK_B
def dropFld (p : Nat) : Fld := if p = 0 then F.FET_PKT_DROP_DROP_A else F.FET_PKT_DROP_DROP_B

/-- The link of a MAC is up (R252): its lane is up in an Ethernet mode and the MAC is enabled. -/
def macUp (b : Block) (lane : Nat) : Bool :=
  laneGbps b lane ≠ 0 && b.on F.LNK_L_STAT_UP (lane / 4) (lane % 4) && b.on F.ETH_M_CTL_EN (lane / 4) (lane % 4)

/-- A path whose MAC's link is down has gone down (R252, code 0x2413). -/
def pathDown (h p : Nat) (b : Block) : Block :=
  let lane := b.get F.FET_PKT_P_MAC_SEL h p
  let st := b.fet h
  if macUp b lane then b
  else if !b.on (linkFld p) h then b.setFet h { st with resume := st.resume.set p false }
  else
    let st := { st with resume := st.resume.set p false }
    let b := b.setFet h { st with dropAt := st.dropAt.set p (b.get (dropFld p) h) }
    if !b.usesPath h p then b.flag (linkFld p) false h
    else ((b.flag (linkFld p) false h).evt F.FET_PKT_EVT_LINK).record 0x2413 3 h p (b.fidx h) lane

/-- A packet that has been formed: where its stream sends, it goes out on a path; while the path's link is down it is discarded
and counted (R245, R252). -/
def sendOn (h p : Nat) (live send : Bool) (rtp : List Byte) (b : Block) : Block :=
  if !b.usesPath h p then b
  else
  let b := pathDown h p b
  if !b.on (linkFld p) h then b.inc (dropFld p) h
  else if !send then b
  else
    let lane := b.get F.FET_PKT_P_MAC_SEL h p
    let b := b.emit (.frame lane (pathFrame b h p live rtp))
    let b := b.wrap F.ETH_M_TXCNT_TX (lane / 4) (lane % 4)
    b.setFet h { b.fet h with sentAny := true }

/-- The segments of packet `k` of a head in the rows that the Fettler processes. -/
def packetSegs (b : Block) (h k : Nat) : List Segment :=
  let n := b.pgrp h
  (segments (b.linePgs h) n (k * n) (min n (b.framePgs h - k * n))).filter fun s => (b.fet h).firstRow ≤ s.row

/-- The next video packet of a head is due (R236): its scheduled time has come, and its bands have been checked. -/
def videoDue (c : Clk) (b : Block) (h : Nat) : Bool :=
  let k := (b.fet h).nextPkt
  b.fetRuns h && b.headRuns h && k < b.packets h &&
    pixelReached (b.fmt h) (b.ras h) c.steady (k * b.pgrp h * pgPix (b.pktFmt h)) (b.headWidth h) &&
    (packetSegs b h k).all fun s => (b.bandOfRow h s.row).isSome

/-- The next video packet of a head (R231-R236, R244, R245), at its scheduled time: formed, numbered, sealed, and sent
in SEND, but for the packets of a frame that the Fettler took up within it (R250). The bands and seals it finished, and the
block. -/
def videoPacket (c : Clk) (h : Nat) (b : Block) : List (Nat × Word) × Block :=
  let st := b.fet h
  let k := st.nextPkt
  let fmt := b.pktFmt h
  let segs := packetSegs b h k
  if !videoDue c b h then ([], b)
  else
    let last := k + 1 = b.packets h
    let seq := seqOf (b.fidx h) (b.packets h) k
    let rtp := rtpHeader last (b.get F.FET_PKT_RTP_PT_V h) seq (b.get F.FET_PKT_TS_TS h) (b.get F.FET_PKT_SSRC_V_SSRC h) ++
      beBytes 2 (seq / 65536) ++ rowHeaders fmt segs ++ segs.flatMap (segmentOctets b h)
    let (seals, b) := segs.foldl (sealSegment h) (([] : List (Nat × Word)), b)
    let b := b.setFet h { b.fet h with nextPkt := k + 1 }
    let send := b.get F.FET_PKT_STAT_STATE h = 2 && st.firstRow = 0
    let b := sendOn h 1 false send rtp (sendOn h 0 false send rtp b)
    let b := if last && (b.fet h).sentAny then b.wrap F.FET_PKT_SENT_SENT h else b
    (seals, b)

/-! ## The liveness stream (R222-R224, R239, R240) -/

/-- The parity of a byte. -/
def parity (v : Nat) : Nat := ((List.range 8).filter (bit v)).length % 2

/-- A 10-bit ancillary word of a byte: even parity in bit 8, its inverse in bit 9. -/
def ancWord (v : Nat) : Nat := v % 256 + 256 * parity v + 512 * (1 - parity v)

/-- The checksum word of ST 291 over ancillary words. -/
def ancChecksum (l : List Nat) : Nat :=
  let s := (l.map (· % 512)).sum % 512
  s + 512 * (1 - s / 256)

/-- A byte of the verdict map. -/
def mapByte (l : List Nat) (i : Nat) : Byte :=
  BitVec.ofNat 8 (l.getD (4 * i) 0 + 4 * l.getD (4 * i + 1) 0 + 16 * l.getD (4 * i + 2) 0 + 64 * l.getD (4 * i + 3) 0)

/-- The user data of a band (table Liveness user data). -/
def liveBytes (b : Block) (h : Nat) (q : CheckedBand) (stopping : Bool) : List Byte :=
  let flags := b2n (b.on F.FET_HEAD_STAT_REPEAT h) + 2 * b2n (b.on F.SYS_STRAP_UNIT) + 4 * b2n q.slag +
    8 * b2n (b.on F.FET_HEAD_STAT_DIMMED h) + 16 * b2n (q.band + 1 = (b.fmt h).bands) + 32 * b2n q.eh + 64 * b2n q.fell +
    128 * b2n stopping
  let oldest := q.ages.foldl (fun (o : Option (Nat × Nat)) x =>
    match o, x with
    | some z, some y => if z.1 < y.1 then some y else o
    | none, y => y
    | z, none => z) none
  [1, BitVec.ofNat 8 flags] ++ beBytes 4 (b.get F.FET_PKT_HEAT_HEAT) ++ beBytes 4 (b.fidx h % 2 ^ 32) ++
    [BitVec.ofNat 8 q.band, BitVec.ofNat 8 q.verdicts.length] ++ beBytes 4 ((q.sealWord.getD 0).toNat) ++
    [BitVec.ofNat 8 q.hatched, BitVec.ofNat 8 (q.verdicts.filter (· = 1)).length] ++
    beBytes 2 ((oldest.map (·.1)).getD 0) ++ beBytes 2 ((oldest.map (·.2)).getD 511) ++
    (List.range 16).map (mapByte q.verdicts) ++ [BitVec.ofNat 8 (b.get F.FET_HEAD_STAT_GRAY h)]

/-- The ancillary packet of RFC 8331 with its user data, word-aligned (R222, R240). -/
def ancPacket (b : Block) (data : List Byte) : List Byte :=
  let words := [ancWord (b.get F.FET_ANC_ID_DID), ancWord (b.get F.FET_ANC_ID_SDID), ancWord data.length] ++
    data.map fun x => ancWord x.toNat
  let l := words ++ [ancChecksum words]
  beBytes 4 (0x7FF * 2 ^ 20 + 0xFFF * 2 ^ 8) ++ beBytes 56 (l.foldl (fun v x => v * 1024 + x) 0 * 2 ^ (448 - 10 * l.length))

/-- The checked band whose liveness packet a head sends next, at its scheduled time (R239). -/
def liveBand (c : Clk) (b : Block) (h : Nat) : Option CheckedBand :=
  let st := b.fet h
  let f := b.fmt h
  let w := b.headWidth h
  let q := 2 * min (16 * st.nextAnc + 16) f.act * w + b.pgrp h * pgPix (b.pktFmt h)
  if b.fetRuns h && b.on F.FET_PKT_CTL_ANC_EN h && b.headRuns h && pixelReached f (b.ras h) c.steady q (2 * w) then
    st.bands.find? fun x => x.band = st.nextAnc && x.frame = b.frameOf h && x.sealWord.isSome
  else none

/-- A packet of a sending stream is due on a lane: it comes before any other egress of the lane's MAC (R237). -/
def packetDue (c : Clk) (b : Block) (lane : Nat) : Bool :=
  (List.range 64).any fun h => b.get F.FET_PKT_STAT_STATE h = 2 &&
    ((List.range 2).any fun p => b.usesPath h p && b.get F.FET_PKT_P_MAC_SEL h p = lane && b.on (linkFld p) h) &&
    (videoDue c b h || (liveBand c b h).isSome)

/-- The next liveness packet of a head at its scheduled time (R239, R244, R245). -/
def livenessPacket (c : Clk) (h : Nat) (b : Block) : Block :=
  let st := b.fet h
  let k := st.nextAnc
  let f := b.fmt h
  match liveBand c b h with
  | none => b
  | some x =>
      let stopping := b.get F.FET_PKT_STAT_STATE h = 4 && (match st.lastLive with | some n => !lineReached f (b.ras h) c.steady n | none => false)
      let seq := seqOf (b.fidx h) f.bands k
      let rtp := rtpHeader (k + 1 = f.bands) (b.get F.FET_PKT_RTP_PT_A h) seq (b.get F.FET_PKT_TS_TS h)
          (b.get F.FET_PKT_SSRC_A_SSRC h) ++
        beBytes 2 (seq / 65536) ++ beBytes 2 60 ++ [1, 0, 0, 0] ++ ancPacket b (liveBytes b h x stopping)
      let b := b.setFet h { st with nextAnc := k + 1, lastLive := if stopping then none else st.lastLive }
      let send := (b.get F.FET_PKT_STAT_STATE h = 2 && st.firstRow = 0) || stopping
      sendOn h 1 true send rtp (sendOn h 0 true send rtp b)

/-! ## Readback (R208, R209) -/

/-- The samples of the inner pixels of the mark's cells as formed, one list for each of lines 4 to 11 (R208). -/
def markSamples (b : Block) (h : Nat) (q : CheckedBand) (x : Nat) : List (List Nat) :=
  let fmt := b.pktFmt h
  (List.range 8).map fun l =>
    (List.range 6).flatMap fun cell => (List.range 8).flatMap fun i =>
      let px := x + 16 * cell + 4 + i
      pixelSamples fmt px (rowGroup b h q (16 * q.band + 4 + l) (px / pgPix fmt))

/-- The samples of a pixel of a flat field. -/
def flatSamples (b : Block) (h : Nat) (colour : Nat × Nat × Nat) : List Nat :=
  let fmt := b.pktFmt h
  pixelSamples fmt 0 (groupSamples fmt (b.get F.FET_PKT_FMT_COLOUR h) (List.replicate (pgPix fmt) colour))

/-- A cell reads as a flat field of a colour in every line. -/
def cellReads (lines : List (List Nat)) (cell : Nat) (flat : List Nat) : Bool :=
  let n := 8 * flat.length
  lines.all fun l => (l.drop (n * cell)).take n = (List.replicate 8 flat).flatten

/-- The mark band of the frame has been packetized (R208). -/
def markFormed (b : Block) (h band : Nat) : Bool :=
  min (16 * band + 16) (b.fmt h).act * b.linePgs h ≤ (b.fet h).nextPkt * b.pgrp h || b.packets h ≤ (b.fet h).nextPkt

/-- The readback of a frame's mark (R208, R209, code 0x2407). `read`: the samples handed over, none where they are the
samples formed. -/
def markReadback (h : Nat) (read : Option (List (List Nat))) (b : Block) : Block :=
  let (mx, mb) := markPlace b h
  let band := mb.toNat
  match b.bandOfRow h (16 * band) with
  | none => b
  | some q =>
    if !b.fetRuns h || !markOk b h || !markFormed b h band || (b.fet h).readFrame = b.frameOf h + 1 then b
    else
      let b := b.setFet h { b.fet h with readFrame := b.frameOf h + 1 }
      let lines := read.getD (markSamples b h q mx.toNat)
      let c1 := flatSamples b h (markColour b true)
      let c0 := flatSamples b h (markColour b false)
      let g := b.get F.FET_HEAD_STAT_GRAY h
      let data := [1, 2, 3, 4].map fun i => (cellReads lines i c1, cellReads lines i c0)
      let valid := data.all fun d => d.1 || d.2
      let readG := data.foldl (fun v d => 2 * v + b2n d.1) 0
      let ok := lines.length = 8 && (List.range 6).all fun i => cellReads lines i (if cellSet g i then c1 else c0)
      let b := ((b.put F.FET_HEAD_RB_EXP_G g h).put F.FET_HEAD_RB_READ_G readG h).flag F.FET_HEAD_RB_VALID valid h
      let b := b.flag F.FET_HEAD_RB_MATCH ok h
      if ok then b
      else
        let b := (b.inc F.FET_HEAD_RB_MISMATCH h).evt F.FET_EVT_READBACK
        let b := b.record 0x2407 6 h (b.fidx h) g (if valid then readG else readG + 16)
        let stop := if b.get F.FET_PKT_STAT_STATE h = 2 then some (16 * band + 18) else none
        let b := b.flag F.FET_HEAD_STAT_STOPPED true h
        (b.put F.FET_PKT_STAT_STATE 4 h).setFet h { b.fet h with lastLive := stop }

/-! ## Stream states at a frame start (R242, R243, R248-R252) -/

/-- A path's link has been up for 10 ms (R252): sending on it resumes at the next frame start. -/
def pathResume (c : Clk) (h p : Nat) (b : Block) : Block :=
  let lane := b.get F.FET_PKT_P_MAC_SEL h p
  if macUp b lane && tget 0 b.macSince lane + 10 * msTick ≤ c.steady && !b.on (linkFld p) h then
    b.setFet h { b.fet h with resume := (b.fet h).resume.set p true }
  else b

/-- Paths that resume at a frame start (R252, code 0x2414). -/
def pathsAtStart (h : Nat) (b : Block) : Block :=
  (List.range 2).foldl (fun b p =>
    let st := b.fet h
    if !st.resume.getD p false || !b.usesPath h p || !macUp b (b.get F.FET_PKT_P_MAC_SEL h p) then b
    else
      let n := b.get (dropFld p) h - st.dropAt.getD p 0
      let b := b.setFet h { st with resume := st.resume.set p false }
      ((b.flag (linkFld p) true h).evt F.FET_PKT_EVT_LINK).record 0x2414 2 h p (b.fidx h) n) b

/-- A heat is in effect under which the head's frame index has not been set (R242). -/
def heatIsNew (b : Block) (h : Nat) : Bool :=
  b.on F.FET_PKT_GSTAT_HEAT_VALID && (b.fet h).heat ≠ some (BitVec.ofNat 32 b.heatGen)

/-- The frame index that a frame start gives the frame that aims at an alignment index (R242). -/
def indexAt (b : Block) (h aidx : Nat) : Nat :=
  let f := b.fmt h
  if heatIsNew b h then
    let e := b.get2 F.FET_PKT_EPOCH_LO_E_LO F.FET_PKT_EPOCH_HI_E_HI
    ofSigned 48 ((aidx : Int) - ((e * f.num + f.den - 1) / f.den : Nat) - (b.heatCorr.lookup h).getD 0)
  else if (b.fet h).heat.isSome then (b.fidx h + 1) % 2 ^ 48
  else b.fidx h

/-- The frame index advances, or is set from a new heat (R242, R243, code 0x2415). -/
def frameIndex (h : Nat) (b : Block) : Block :=
  let new := indexAt b h (b.aidxOf h)
  let b' := b.put2 F.FET_PKT_FIDX_LO_F_LO F.FET_PKT_FIDX_HI_F_HI new h
  if heatIsNew b h then
    ((b'.setFet h { b'.fet h with heat := some (BitVec.ofNat 32 b.heatGen) }).evt F.FET_PKT_EVT_HEAT).record 0x2415 3 h
      (b.get F.FET_PKT_HEAT_HEAT) (b.fidx h) new
  else b'

/-- MUTE_PAIR of a head as it stood when this cycle began (R250). -/
def pairMuted (b : Block) (h : Nat) : Bool :=
  match (b.fet h).pairWas with
  | some (t, v) => if t = b.now then v else (b.fet h).mutePair
  | none => (b.fet h).mutePair

/-- FET_HEAD_CTL.SLAGFRAME as last written: a mute source changes at the frame start after the write (R250), before the
band that shows it (R14). -/
def slagWritten (b : Block) (h : Nat) : Bool :=
  bit ({ b with pendL := b.pendL.filter b.ripe }.written (F.FET_HEAD_CTL_SLAGFRAME.at h)).toNat F.FET_HEAD_CTL_SLAGFRAME.lsb

/-- A head's mute sources in effect at a frame start (R249): FW, PAIR, REL. -/
def muteSources (b : Block) (h : Nat) : Bool × Bool × Bool :=
  ((streamCtl b h).2, pairMuted b h, (b.fet h).rel < 3 && !slagWritten b h)

/-- The streams of a head at its frame start, the frame index being set (R248-R251). -/
def streamAtStart (h : Nat) (b : Block) : Block :=
  let b := if (streamCtl b h).1 && b.get F.FET_PKT_STAT_STATE h = 0 then streamEnable h b else b
  let (fw, pr, rl) := muteSources b h
  let sources := b2n fw + 2 * b2n pr + 4 * b2n rl
  let s0 := b.get F.FET_PKT_STAT_MUTE_FW h + 2 * b.get F.FET_PKT_STAT_MUTE_PAIR h + 4 * b.get F.FET_PKT_STAT_MUTE_REL h
  let now := b.on F.FET_PKT_CTL_EN h
  let en := (streamCtl b h).1
  let st := b.get F.FET_PKT_STAT_STATE h
  let ready := (b.fet h).heat.isSome && b.fetRuns h
  let go := if sources = 0 then 2 else 3
  -- an enable accepted in this very cycle waits for the next frame start
  let new := if st = 4 && b.on F.FET_HEAD_STAT_STOPPED h then 4
    else if !en then b2n now
    else if (st < 2 || st = 4) && !ready then 1 else go
  let b := if st < 2 && new = 2 then
      (b.evt F.FET_PKT_EVT_START).record 0x2411 2 h (b.fidx h) (seqOf (b.fidx h) (b.packets h) 0)
        (b.get F.FET_PKT_CTL_PATHS h)
    else b
  let b := if sources ≠ s0 && (st ≠ 0 || new ≠ 0) then
      (b.evt F.FET_PKT_EVT_MUTE).record 0x2412 2 h (b.fidx h) sources s0
    else b
  let b := ((b.flag F.FET_PKT_STAT_MUTE_FW fw h).flag F.FET_PKT_STAT_MUTE_PAIR pr h).flag F.FET_PKT_STAT_MUTE_REL rl h
  b.put F.FET_PKT_STAT_STATE new h

/-- MUTE_REL clears at the ACT 0 of the frame that the release of outputs reached with its band 0 (R487). -/
def releaseAtStart (h : Nat) (b : Block) : Block :=
  if (b.fet h).rel = 2 then b.setFet h { b.fet h with rel := 3 } else b

/-- The packetizer at a head's frame start (R241-R252). -/
def packetFrameStart (h : Nat) (b : Block) : Block :=
  let b := releaseAtStart h b
  let b := frameIndex h b
  let b := b.put F.FET_PKT_TS_TS (frameTs b h (b.aidxOf h)) h
  let b := b.put F.FET_PKT_SEQ0_SEQ (seqOf (b.fidx h) (b.packets h) 0) h
  pathsAtStart h (streamAtStart h b)

/-! ## Writeback frames (R188, R190) -/

/-- The steady time of ACT 0 of a head's frame with an alignment index, near the frame under way. -/
def frameAct0 (c : Clk) (b : Block) (h aidx : Nat) : Int :=
  let f := b.fmt h
  let r := b.ras h
  if (r.phase == .idle || r.phase == .hold) && r.target = aidx then
    c.steady - c.ptp + f.targetScaled aidx / ((f.num * f.total : Nat) : Int)
  else if aidx < b.aidxOf h then r.prev
  else if aidx = b.aidxOf h then r.act0
  else r.act0 + (f.den * sTick : Nat) * ((256 * f.total : Nat) + r.slew) / ((f.num * f.total * 256 : Nat) : Int)

/-- A captured frame becomes READY after its last tag, or is dropped where a write failed. `failed`: a write of it
failed. -/
def writebackReady (c : Clk) (cru : Nat) (failed : Bool) (b : Block) : Block :=
  let x := b.wb cru
  match x.frames with
  | [] => b
  | f :: t =>
    let done (b : Block) : Block :=
      if !b.on F.CRU_WB_CTL_EN cru && (b.wb cru).frames.isEmpty then b.flag F.CRU_WB_STAT_RUN false cru else b
    if failed then done (wbDrop cru f.aidx f.frame 2 b)
    else if !wbWhole b cru f then b
    else
      let p := b.wbPool cru
      let lead := b.wbLead cru
      let k := bufKey p f.buf
      let ns := (frameAct0 c b lead f.aidx / nsTick).toNat
      let buf : PoolBuf := { b.buf k with
        state := .ready, ageBase := f.oldest.getD ns, arrival := ns, rtpts := frameTs b lead f.aidx,
        frame := f.frame % 2 ^ 32, cls := if f.notLive then 1 else 0,
        rowmark := f.rowmark, readyAt := c.steady, readyPtp := c.ptp }
      match wbAccess c cru [(b.bufAddr p f.buf, 4096)] b with
      | (some cause, b) => done (wbDrop cru f.aidx f.frame cause b)
      | (none, b) =>
      let b := match b.readyBuf p with
        | some j => retireBuf (bufKey p j) b
        | none => b
      let b := (b.setBuf k buf).store (b.bufAddr p f.buf) buf.header
      let b := b.put F.CRU_WB_STAT_BUF f.buf cru
      done (b.setWb cru { x with frames := t })

/-! ## Commands -/

/-- MARK_READBACK (R208). -/
def execMarkReadback (dt : Nat) (h : Head) (read : Option (List (List Nat))) (s : State) :
    Host.Outcome State Fault Refusal :=
  s.run dt fun _ _ b => markReadback h.val read b

/-- LIVENESS_PACKET_SEND (R239). -/
def execLivenessPacketSend (dt : Nat) (h : Head) (s : State) : Host.Outcome State Fault Refusal :=
  s.run dt fun c _ b => livenessPacket c h.val b

/-- PATH_LINK_DOWN (R252). -/
def execPathLinkDown (dt : Nat) (h : Head) (path : Bool) (s : State) : Host.Outcome State Fault Refusal :=
  s.run dt fun _ _ b => pathDown h.val (b2n path) b

/-- PATH_LINK_RESUME (R252). -/
def execPathLinkResume (dt : Nat) (h : Head) (path : Bool) (s : State) : Host.Outcome State Fault Refusal :=
  s.run dt fun c _ b => pathResume c h.val (b2n path) b

end Sys2Proof.Machine
end

