-- ==== Sys2Proof/Machine/Enc.lean ====
section
/-! DEFINITION. Encode engines: streams, selection, verdicts and conversion, rate control, output (R254-R276). -/

namespace Sys2Proof.Machine

open Sys2Proof

def Block.enc (b : Block) (n : Nat) : EncEng := tget {} b.encs n
def Block.setEnc (b : Block) (n : Nat) (x : EncEng) : Block := { b with encs := tput {} b.encs n x }
def Block.encS (b : Block) (n s : Nat) : EncSt := tget {} b.encSs (8 * n + s)
def Block.setEncS (b : Block) (n s : Nat) (x : EncSt) : Block := { b with encSs := tput {} b.encSs (8 * n + s) x }

/-! ## Streams (R254-R259) -/

def encX (b : Block) (n s : Nat) : Nat := b.get F.ENC_S_CROP_XY_X n s
def encY (b : Block) (n s : Nat) : Nat := b.get F.ENC_S_CROP_XY_Y n s
def encW (b : Block) (n s : Nat) : Nat := b.get F.ENC_S_CROP_WH_W n s
def encH (b : Block) (n s : Nat) : Nat := b.get F.ENC_S_CROP_WH_H n s
def encCru (b : Block) (n s : Nat) : Nat := b.get F.ENC_S_SRC_CRU n s

/-- The frame rate of a stream as a fraction (R254). -/
def encRate (b : Block) (n s : Nat) : Nat × Nat :=
  let cru := encCru b n s
  let f := b.fmt (b.wbLead cru)
  (f.num, max 1 (f.den * max 1 (b.get F.CRU_WB_CTL_DIV cru)))

/-- A stream is wide (R255). -/
def encWide (b : Block) (n s : Nat) : Bool := !(encW b n s ≤ 1920 && encH b n s ≤ 1080)

/-- The lines of a CTU row, and the CTU rows of a picture (R256). -/
def ctuLinesOf (b : Block) (n s : Nat) : Nat := if b.get F.ENC_S_CTL_CODEC n s = 2 then 16 else 64
def ctuRows (b : Block) (n s : Nat) : Nat := (encH b n s + ctuLinesOf b n s - 1) / ctuLinesOf b n s

/-- The table Levels signalled: idc, largest picture, sample rate and SCAP, lowest first. -/
def encLevels (h264 : Bool) : List (Nat × Nat × Nat × Nat) :=
  if h264 then
    [(42, 8704, 522240, 62500), (51, 36864, 983040, 300000), (52, 36864, 2073600, 300000), (60, 139264, 4177920, 300000)]
  else [(123, 2228224, 133693440, 20000), (153, 8912896, 534773760, 40000), (180, 35651584, 1069547520, 60000)]

/-- The level that a stream signals, if one fits (R258). -/
def encLevel (b : Block) (n s : Nat) : Option Nat :=
  let h264 := b.get F.ENC_S_CTL_CODEC n s = 2
  let w := encW b n s
  let h := encH b n s
  let size := if h264 then ((w + 15) / 16) * ((h + 15) / 16) else w * h
  let q := encRate b n s
  ((encLevels h264).find? fun l =>
    size ≤ l.2.1 && size * q.1 ≤ l.2.2.1 * q.2 && b.get F.ENC_S_SCAP_SCAP n s ≤ l.2.2.2).map (·.1)

/-- What a stream's bitstream signals at a level (R258). -/
def encSignal (b : Block) (n s level : Nat) : EncSignal :=
  { level := level, high := false, fullRange := false,
    colour := if b.get F.ENC_S_CTL_COLOUR n s = 1 then (9, 14, 9) else (1, 1, 1) }

/-- The slices of a picture of `rows` CTU rows (R257): first row and rows, the last one taking the remainder. -/
def encSlices (k rows : Nat) : List (Nat × Nat) :=
  (List.range ((rows + k - 1) / k)).map fun i => (k * i, min k (rows - k * i))

/-- The admitted load of an engine with some streams, in pixel/s as a fraction. -/
def encLoad (b : Block) (n : Nat) (l : List Nat) : Nat × Nat :=
  fracSum (l.map fun s => (encW b n s * encH b n s * (encRate b n s).1, (encRate b n s).2))

def encRunning (b : Block) (n : Nat) : List Nat := (List.range 8).filter fun s => b.on F.ENC_S_STAT_RUN n s

/-- Bitstream and statistics buffers. -/
def encBase (b : Block) (n s : Nat) : Nat :=
  b.get F.ENC_S_BS_LO_ADDR_LO n s * 4096 + b.get F.ENC_S_BS_HI_ADDR_HI n s * 2 ^ 32
def encSize (b : Block) (n s : Nat) : Nat := b.get F.ENC_S_BS_CFG_SIZE n s * 4096
def encStats (b : Block) (n s : Nat) : Nat :=
  b.get F.ENC_S_ST_LO_ADDR_LO n s * 4096 + b.get F.ENC_S_ST_HI_ADDR_HI n s * 2 ^ 32
def encUnitCols (b : Block) (n s : Nat) : Nat := (encW b n s + 63) / 64
def encUnitRows (b : Block) (n s : Nat) : Nat := (encH b n s + 63) / 64

/-- A range lies within a Flask partition slot. -/
def inPartition (b : Block) (part a len : Nat) : Bool :=
  0 < len && slotCovers b part a && slotCovers b part (a + len - 1)

/-- Why a stream's enable is refused, or 0 (R259, table Encoder refusal reasons). -/
def encRefusal (b : Block) (n s : Nat) : Nat :=
  let x := encX b n s
  let y := encY b n s
  let w := encW b n s
  let h := encH b n s
  let cru := encCru b n s
  let load := encLoad b n ((encRunning b n).filter (· ≠ s) ++ [s])
  let fcap := b.get F.ENC_S_FCAP_FCAP n s
  let k := b.get F.ENC_S_ST_CFG_STATS_N n s
  let pages := b.get F.ENC_S_ST_CFG_PAGES n s
  let qi := b.get F.ENC_S_QP_QI n s
  let hi := b.get F.ENC_S_QP_QP_MAX n s
  if x % 64 ≠ 0 || y % 16 ≠ 0 || w % 16 ≠ 0 || w < 64 || 8192 < w || h % 8 ≠ 0 || h < 64 || 4096 < h ||
      b.wbW cru < x + w || b.wbH cru < y + h then 1
  else if b.get F.ENC_S_CTL_CODEC n s = 3 then 2
  else if (encLevel b n s).isNone then 3
  else if 500000000 * load.2 < load.1 then 4
  else if b.get F.ENC_S_RING_RING n s / 16 ≠ 13 + n then 5
  else if encSize b n s < fcap * 250 || !inPartition b (b.get F.ENC_S_BS_CFG_PART n s) (encBase b n s) (encSize b n s) then 6
  else if encWide b n s && (k < 2 || 16 < k || pages * 4096 < 32 + 8 * encUnitCols b n s * encUnitRows b n s ||
      !inPartition b (b.get F.ENC_S_ST_CFG_PART n s) (encStats b n s) (k * pages * 4096)) then 7
  else if qi < b.get F.ENC_S_QP_QP_MIN n s || hi < qi || 51 < hi then 8
  else 0

/-- ENC_LOAD.ADMIT follows the running streams. -/
def encAdmit (n : Nat) (b : Block) : Block := b.put F.ENC_LOAD_ADMIT (megaUp (encLoad b n (encRunning b n))) n

/-- The READY capture of a writeback, as a stream keeps it. -/
def readyCapture (b : Block) (cru : Nat) : List EncCapture :=
  match b.readyBuf (b.wbPool cru) with
  | none => []
  | some i =>
    let k := bufKey (b.wbPool cru) i
    let x := b.buf k
    [{ frame := x.frame, key := k, arrival := x.arrival, ageBase := x.ageBase, rtpts := x.rtpts }]

/-- ENC_S_CTL.EN written 1 (R259, code 0x3006). -/
def encEnable (n s : Nat) (b : Block) : Block :=
  if b.on F.ENC_S_STAT_RUN n s then b
  else
    let r := encRefusal b n s
    if r ≠ 0 then
      let v := (b.reg (F.ENC_S_CTL_EN.at n s)).toNat
      ((b.flag F.ENC_S_CTL_EN false n s).evt F.ENC_EVT_CFG_ERR n).record (inst := n) 0x3006 3 s (0x1000 + 0x100 * s) v r
    else
      let b := (b.flag F.ENC_S_STAT_RUN true n s).flag F.ENC_S_STAT_WIDE (encWide b n s) n s
      let b := b.put F.ENC_S_STAT_LEVEL ((encLevel b n s).getD 0) n s
      let b := b.setReg (F.ENC_S_CNT_CAPPED.at n s) 0
      let b := (b.put F.ENC_S_WIN_SUM 0 n s).put F.ENC_S_ROWS_FORCED 0 n s
      encAdmit n (b.setEncS n s { waiting := readyCapture b (encCru b n s),
                                  signal := (encLevel b n s).map (encSignal b n s) })

/-- A stream has stopped. -/
def encStopStream (n s : Nat) (b : Block) : Block :=
  encAdmit n ((b.flag F.ENC_S_STAT_RUN false n s).setEncS n s {})

/-- The stream whose frame the engine has. -/
def encCurrent (b : Block) (n : Nat) : Option Nat := (b.enc n).pic.map (·.stream)

/-- ENC_S_CTL.EN written 0: the stream stops after its frame in progress. -/
def encDisable (n s : Nat) (b : Block) : Block :=
  if !b.on F.ENC_S_STAT_RUN n s || encCurrent b n = some s then b else encStopStream n s b

/-- ENC_S_CTL.IDR_REQ written 1 (R257). -/
def encIdr (n s : Nat) (b : Block) : Block := b.setEncS n s { b.encS n s with idr := true }

/-- ENC_CTL.EN written 1 (R275): every running stream begins with an IDR, its window sum 0 and no rows forced. -/
def encStart (n : Nat) (b : Block) : Block :=
  if b.on F.ENC_STAT_RUN n || !b.domOn (14 + n) then b
  else
    let b := b.flag F.ENC_STAT_RUN true n
    (encRunning b n).foldl (fun b s =>
      (b.put F.ENC_S_WIN_SUM 0 n s).setEncS n s { b.encS n s with idr := true, bits := [], forced := none }) b

/-- ENC_CTL.EN written 0 (R275): the engine stops after the frame in progress. -/
def encStop (n : Nat) (b : Block) : Block :=
  if (b.enc n).pic.isSome then b else b.flag F.ENC_STAT_RUN false n

/-- A capture has become READY: the streams that read it keep it (R260). -/
def encNote (cru : Nat) (b : Block) : Block :=
  (List.range 16).foldl (fun b k =>
    let n := k / 8
    let s := k % 8
    if b.on F.ENC_S_STAT_RUN n s && encCru b n s = cru then
      b.setEncS n s { b.encS n s with waiting := (b.encS n s).waiting ++ readyCapture b cru }
    else b) b

/-! ## Selection (R260, R261) -/

/-- Older captures of a stream are passed over (R260, code 0x3003). -/
def encPass (c : Clk) (n s : Nat) (b : Block) : Block :=
  let st := b.encS n s
  match st.waiting.getLast? with
  | none => b
  | some y =>
    let b := (st.waiting.dropLast).foldl (fun b x =>
      ((b.inc F.ENC_S_CNT_PASSED n s).evt F.ENC_EVT_PASSED n).recordLim (inst := n) c (0x30030000 + 8 * n + s) sTick 0x3003 2 s x.frame
        y.frame) b
    b.setEncS n s { st with waiting := [y], bits := List.replicate (st.waiting.length - 1) 0 ++ st.bits }

/-- The engine selects the capture with the earliest ARRIVAL, ties to the lower stream, and holds its buffer. -/
def encSelect (c : Clk) (n : Nat) (b : Block) : Block :=
  if !b.on F.ENC_STAT_RUN n || !b.on F.ENC_CTL_EN n || (b.enc n).pic.isSome then b
  else
    let b := (encRunning b n).foldl (fun b s => encPass c n s b) b
    let best := (encRunning b n).foldl (fun (o : Option (Nat × EncCapture)) s =>
      match (b.encS n s).waiting.head?, o with
      | some x, some z => if x.arrival < z.2.arrival then some (s, x) else o
      | some x, none => some (s, x)
      | none, _ => o) none
    match best with
    | none => b
    | some (s, x) =>
      let b := b.setEncS n s { b.encS n s with waiting := [] }
      let b := (b.flag F.ENC_STAT_BUSY true n).put F.ENC_STAT_CUR s n
      holdBuf x.key (b.setEnc n { b.enc n with pic := some { stream := s, cap := x, since := c.steady } })

/-! ## Verdicts (R262-R264) -/

/-- The tag that 16 bytes spell (table Tile tag). -/
def tagOf (l : List Byte) : Tag :=
  let v (i k : Nat) : Nat := ofLe ((l.drop i).take k)
  let f := v 14 1
  { oldest := toSigned 64 (v 0 8), dl := v 8 2, age := v 10 2, worst := v 12 2, cls := f % 4, dslag := bit f 2,
    eh := bit f 3, fallback := bit f 4, static := bit f 5, missed := bit f 6, n := v 15 1 }

/-- The verdict of a tile in the encoded picture (R263): 0 LIVE, 1 FLAW, 2 SLAG. -/
def encVerdict (te : Nat) (t : Tag) : Nat :=
  if t.cls = 3 || t.cls = 2 then 2
  else if t.worst ≠ 511 && t.dl < ageMs te t.oldest then 2
  else if t.cls = 1 && t.dslag then 2
  else if t.cls = 1 then 1
  else 0

/-- Tiles of a stream's crop, and the canvas tile of the i-th. -/
def encCols (b : Block) (n s : Nat) : Nat := (encW b n s + 63) / 64
def encTileRows (b : Block) (n s : Nat) : Nat := (encH b n s + 15) / 16
def encTile (b : Block) (n s i : Nat) : Nat × Nat :=
  (encX b n s / 64 + i % encCols b n s, encY b n s / 16 + i / encCols b n s)

/-- The ranges that the engine reads for a tile of buffer `key`: its lines and its tag. -/
def encRanges (b : Block) (cru key : Nat) (t : Nat × Nat) : List (Nat × Nat) :=
  let i := keyIdx key
  (b.wbTags cru i + 16 * (t.2 * (b.wbW cru / 64) + t.1), 16) ::
    (List.range 16).map fun l => (b.wbLine cru i (16 * t.2 + l) + 6 * 64 * t.1, 384)

/-- Read and judge the tiles of the crop (R262, R263, code 0x3005): verdicts, largest age, and the block. -/
def encJudge (c : Clk) (m : Mem) (n s : Nat) (cap : EncCapture) (errors : List (Nat × BitVec 40)) (b : Block) :
    List Nat × Nat × Block :=
  let cru := encCru b n s
  let part := b.poolPart (keyPool cap.key)
  (List.range (encCols b n s * encTileRows b n s)).foldl (fun q i =>
    let (l, age, b) := q
    let rs := encRanges b cru cap.key (encTile b n s i)
    let bad := rs.find? fun a => dramFails b 8 part a.1 a.2 false
    match bad, errors.lookup i with
    | some a, _ =>
      let b := (dramAccess c 8 part a.1 a.2 false (12 + n) b).2
      let kind := b2n (dramCheck b 8 part a.1 a.2 false).isNone
      (l ++ [2], age, (b.evt F.ENC_EVT_FETCH n).record (inst := n) 0x3005 4 s a.1 kind cap.frame)
    | none, some e => (l ++ [2], age, (b.evt F.ENC_EVT_FETCH n).record (inst := n) 0x3005 4 s e.toNat 1 cap.frame)
    | none, none =>
      let t := tagOf (m.bytes (rs.headD (0, 0)).1 16)
      (l ++ [encVerdict c.ns64 t], if t.worst = 511 then age else max age (ageMs c.ns64 t.oldest), b))
    (([] : List Nat), 0, b)

/-! ## Conversion (R264, R265) -/

/-- A canvas pixel, painted (R264). -/
def encPixel (m : Mem) (b : Block) (n : Nat) (p : EncPic) (x y : Nat) : Nat × Nat × Nat :=
  let s := p.stream
  let cru := encCru b n s
  let v := p.verdicts.getD ((y / 16 - encY b n s / 16) * encCols b n s + (x / 64 - encX b n s / 64)) 2
  if v = 2 then slagPixel b x y
  else
    let a := b.wbLine cru (keyIdx p.cap.key) y + 6 * x
    let px (i : Nat) : Nat := ofLe (m.bytes (a + 2 * i) 2) / 16
    let own := (px 0, px 1, px 2)
    if v = 1 then (flawPixel b ((64 * (x / 64) + 63 - x) + y % 16)).getD own else own

/-- A 10-bit value in the stream's profile (R265). -/
def encDepth (codec v : Nat) : Nat := if codec = 1 then v else max 1 (min 254 ((v + 2) / 4))

/-- The samples of CTU row `r` as the coder takes them: luma, Cb and Cr lines, padded by their last column and row
(R256, R265). -/
def encInput (m : Mem) (b : Block) (n : Nat) (p : EncPic) (r : Nat) : List (List (List Nat)) :=
  let s := p.stream
  let codec := b.get F.ENC_S_CTL_CODEC n s
  let (my, mb, mr) := outMatrix (b.get F.ENC_S_CTL_COLOUR n s)
  let cl := ctuLinesOf b n s
  let w := encW b n s
  let h := encH b n s
  let wide := (w + cl - 1) / cl * cl
  let px (x y : Nat) := encPixel m b n p (encX b n s + x) (encY b n s + y)
  let pair (k : Int × Int × Int) (i y : Nat) : Nat :=
    (outComp 512 k (px (2 * i) y) + outComp 512 k (px (2 * i + 1) y) + 1) / 2
  let chroma (k : Int × Int × Int) : List (List Nat) :=
    (List.range (cl / 2)).map fun j => (List.range (wide / 2)).map fun i =>
      let x := min i (w / 2 - 1)
      let y := 2 * min (r * cl / 2 + j) (h / 2 - 1)
      encDepth codec ((pair k x y + pair k x (y + 1) + 1) / 2)
  let luma := (List.range cl).map fun l => (List.range wide).map fun x =>
    encDepth codec (outComp 64 my (px (min x (w - 1)) (min (r * cl + l) (h - 1))))
  [luma, chroma mb, chroma mr]

/-! ## Rate control (R266-R270, R272) -/

/-- The number of frames of the window (R266). -/
def encWindow (b : Block) (n s : Nat) : Nat := ((encRate b n s).1 + (encRate b n s).2 - 1) / (encRate b n s).2

/-- The sum of coded bits of the previous N − 1 frames. -/
def encSum (b : Block) (n s : Nat) : Nat := ((b.encS n s).bits.take (encWindow b n s - 1)).sum

/-- The ROI offset of a CTU (R272). -/
def encRoi (b : Block) (n s x0 x1 y0 y1 : Nat) : Int :=
  if encWide b n s then 0
  else match (List.range 8).find? fun i =>
      let x := 16 * b.get F.ENC_S_ROI_XY_X n s i
      let y := 16 * b.get F.ENC_S_ROI_XY_Y n s i
      b.on F.ENC_S_ROI_WH_EN n s i && x ≤ x1 && x0 < x + 16 * b.get F.ENC_S_ROI_WH_W n s i && y ≤ y1 &&
        y0 < y + 16 * b.get F.ENC_S_ROI_WH_H n s i && x < encW b n s && y < encH b n s with
    | some i => b.geti F.ENC_S_ROI_WH_OFS n s i
    | none => 0

/-- The QP of a CTU with ROI offset `roi` in the row that is coded next (R267). -/
def encQp (p : EncPic) (roi : Int) : Int := max (p.qpMin : Int) (min (p.qpMax : Int) (p.qpb + roi + p.d))

/-- Access units not yet freed by the consumer (R274). -/
def encOuts (b : Block) (n s : Nat) : List (Nat × Nat × Nat) :=
  let r := b.get F.ENC_S_RING_RING n s
  let size := b.ringSize r
  let tail := b.get F.LAD_RING_TAIL_TAIL r
  let used := (b.get F.LAD_RING_HEAD_HEAD r + size - tail) % size
  (b.encS n s).outs.filter fun o => (o.1 + size - tail) % size < used

/-- Where `need` contiguous bytes are free in the bitstream buffer: at the write offset, or from 0 (R274). -/
def encSpace (b : Block) (n s need : Nat) : Option Nat :=
  let free (a : Nat) : Bool :=
    a + need ≤ encSize b n s && (encOuts b n s).all fun o => a + need ≤ o.2.1 || o.2.1 + o.2.2 ≤ a
  let wr := (b.encS n s).wr
  if wr + need ≤ encSize b n s then (if free wr then some wr else none) else if free 0 then some 0 else none

/-- The output ring has a free entry. -/
def encRingFree (b : Block) (n s : Nat) : Bool :=
  let r := b.get F.ENC_S_RING_RING n s
  b.on F.LAD_RING_CFG_EN r && (b.get F.LAD_RING_HEAD_HEAD r + 1) % b.ringSize r ≠ b.get F.LAD_RING_TAIL_TAIL r

/-- The engine has finished or abandoned its frame; a stream or an engine that stops does so now (R275). -/
def encFinish (c : Clk) (n : Nat) (b : Block) : Block :=
  let x := b.enc n
  match x.pic with
  | none => b
  | some p =>
    let b := b.setEnc n { pic := none, busy := (x.busy.filter fun iv => c.steady < iv.2 + sTick) ++ [(p.since, c.steady)] }
    let b := b.flag F.ENC_STAT_BUSY false n
    let b := if b.on F.ENC_S_CTL_EN n p.stream then b else encStopStream n p.stream b
    if b.on F.ENC_CTL_EN n && !b.domStopping (14 + n) then b else b.flag F.ENC_STAT_RUN false n

/-- A frame is not coded for want of output space (R274, code 0x3004): it counts 0 bits in the window (R266), and the next
coded frame is an IDR. -/
def encDrop (c : Clk) (n : Nat) (p : EncPic) (cause : Nat) (b : Block) : Block :=
  let s := p.stream
  let b := (b.inc F.ENC_S_CNT_DROPPED n s).evt F.ENC_EVT_OUT_DROP n
  let b := b.record (inst := n) 0x3004 3 s p.cap.frame cause
  encFinish c n (b.setEncS n s { b.encS n s with idr := true, bits := 0 :: (b.encS n s).bits })

/-- A frame starts (R257, R262, R263, R266, R270, R274). `headBits`: the bits of the access unit before its first CTU
row. `errors`: tiles of the crop whose read returned an uncorrectable error, with the address. -/
def encFrameStart (c : Clk) (m : Mem) (n headBits : Nat) (errors : List (Nat × BitVec 40)) (b : Block) : Block :=
  match (b.enc n).pic with
  | none => b
  | some p =>
    if p.begun then b
    else
      let s := p.stream
      let st := b.encS n s
      let fcap := b.get F.ENC_S_FCAP_FCAP n s
      if !encRingFree b n s then encDrop c n p 0 (releaseBuf p.cap.key b)
      else match encSpace b n s (fcap * 250) with
        | none => encDrop c n p 1 (releaseBuf p.cap.key b)
        | some off =>
          let gop := b.get F.ENC_S_GOP_GOP_LEN n s
          let idr := st.idr || (gop ≠ 0 && gop ≤ st.since)
          let qi : Int := b.get F.ENC_S_QP_QI n s
          let sum := encSum b n s
          let nr := ctuRows b n s
          let cl := ctuLinesOf b n s
          let (verdicts, age, b) := encJudge c m n s p.cap errors b
          let roi := (List.range nr).map fun r => (List.range ((encW b n s + cl - 1) / cl)).map fun k =>
            encRoi b n s (k * cl) (k * cl + cl - 1) (r * cl) (r * cl + cl - 1)
          let p : EncPic := { p with
            begun := true, te := c.ns64, idr := idr, verdicts := verdicts, age := age,
            qpb := if idr then max 0 (qi - b.get F.ENC_S_QP_I_OFS n s) else qi, qpMin := b.get F.ENC_S_QP_QP_MIN n s,
            qpMax := b.get F.ENC_S_QP_QP_MAX n s, refs := if idr then [] else st.past.take (b.get F.ENC_S_GOP_REFS n s),
            slices := encSlices (max 1 (b.get F.ENC_S_CTL_SLICE_ROWS n s)) nr,
            fcap := fcap, roi := roi, budget := min (fcap * 1000) (b.get F.ENC_S_SCAP_SCAP n s * 1000 - sum),
            bits := headBits, off := off }
          let p := { p with input := encInput m b n p 0 }
          let b := b.put F.ENC_S_WIN_SUM (sum / 1000) n s
          let b := b.put F.ENC_S_ROWS_FORCED (match st.forced with | some r => nr - r | none => 0) n s
          let b := b.setEncS n s { b.encS n s with idr := false }
          b.setEnc n { b.enc n with pic := some p }

/-- The 8 × 8 blocks of a unit that are coded: those of the picture, in H.264 of its whole macroblocks (R256). -/
def encBlocks (b : Block) (n s row col : Nat) : Nat :=
  let h := if b.get F.ENC_S_CTL_CODEC n s = 2 then (encH b n s + 15) / 16 * 16 else encH b n s
  (min 64 (encW b n s - 64 * col) / 8) * (min 64 (h - 64 * row) / 8)

/-- The measures of a unit that the rules fix (R268, R270): a skipped row has zero motion, or intra DC in an IDR; an IDR and a
forced row are intra throughout. -/
def encMeasure (b : Block) (n : Nat) (p : EncPic) (u : EncUnit) (row col : Nat) : EncUnit :=
  let first := row * 64 / ctuLinesOf b n p.stream
  let from? (o : Option Nat) : Bool := match o with | some r => r ≤ first | none => false
  let intra : EncUnit := { u with mvx := 0, mvy := 0, intra := encBlocks b n p.stream row col }
  if p.idr then intra
  else if from? p.skip then { u with mvx := 0, mvy := 0, intra := 0 }
  else if from? (b.encS n p.stream).forced then intra
  else u

/-- A statistics record (table Statistics record of one unit) as a number of 8 bytes. Its corner mark stands only where a FLAW
tile's corner, its right 12 pixels, lies in the picture (R264). -/
def encRecord (b : Block) (n : Nat) (p : EncPic) (u : EncUnit) (row col : Nat) : Nat :=
  let s := p.stream
  let cl := ctuLinesOf b n s
  let first := row * 64 / cl
  let u := encMeasure b n p u row col
  let forced := !p.idr && (match (b.encS n s).forced with | some r => r ≤ first + 64 / cl - 1 | none => false)
  let skipped := u.skipped || (match p.skip with | some r => r ≤ first | none => false)
  let tiles := (List.range 4).map fun i => p.verdicts.getD ((4 * row + i) * encCols b n s + col) 0
  let beyond := encW b n s < 64 * col + 64 || encH b n s < 64 * row + 64
  ofLe (leBytes 2 (ofSigned 16 u.mvx) ++ leBytes 2 (ofSigned 16 u.mvy) ++ leBytes 2 (min 65535 u.cplx) ++
    leBytes 1 (min 64 u.intra) ++
    leBytes 1 (b2n skipped + 2 * b2n forced + 4 * b2n (tiles.contains 2) + 8 * b2n (tiles.contains 1 && 64 * col + 52 < encW b n s) + 16 * b2n beyond))

/-- A CTU row is coded (R267-R269, code 0x3002). A frame never exceeds 2 × FCAP (R268): no row takes more bits than are left. -/
def encRowDone (c : Clk) (m : Mem) (n : Nat) (row : EncRow) (b : Block) : Block :=
  match (b.enc n).pic with
  | none => b
  | some p =>
    let s := p.stream
    let nr := ctuRows b n s
    let used := p.bits + row.bits
    if !p.begun || nr ≤ p.row || 2000 * p.fcap < used then b
    else
      let r := p.row
      let top : Bool := decide ((p.qpMax : Int) ≤ p.qpb + p.d)
      let stop := p.budget ≤ used || (top && p.budget < used + (nr - 1 - r) * row.bits)
      let cut := p.skip.isNone && r + 1 < nr && stop
      let d := if p.skip.isNone && !stop && !top && p.budget * (r + 1) < used * nr then p.d + 1 else p.d
      let unitRow := r * ctuLinesOf b n s / 64
      let ends := (r + 1) * ctuLinesOf b n s % 64 = 0 || r + 1 = nr
      let q := { p with row := r + 1, bits := used, qps := p.qps ++ [(p.roi.getD r []).map (encQp p)], d := d, skip := if cut then some (r + 1) else p.skip }
      let stats := if ends && encWide b n s then
          p.stats ++ [(List.range (encUnitCols b n s)).map fun k =>
            encRecord b n p (row.units.getD k ⟨0, 0, 0, 0, false⟩) unitRow k]
        else p.stats
      let q := { q with stats := stats, input := if r + 1 < nr then encInput m b n q (r + 1) else [] }
      let b := b.setEnc n { b.enc n with pic := some q }
      let b := if r + 1 = nr then releaseBuf p.cap.key b else b
      if cut then
        ((b.inc F.ENC_S_CNT_CAPPED n s).evt F.ENC_EVT_CAPPED n).recordLim (inst := n) c (0x30020000 + 8 * n + s) sTick 0x3002 3 s
          p.cap.frame (r + 1) (p.budget / 1000)
      else b

/-! ## Output (R271, R273, R274) -/

/-- The payload of the SEI message (table Encoder SEI payload). -/
def encSei (b : Block) (n : Nat) (p : EncPic) : List Byte :=
  let count (v : Nat) : Nat := (p.verdicts.filter (· = v)).length
  ((List.range 4).flatMap fun i => beBytes 4 (b.get F.ENC_UUID_UUID n i)) ++
    [1, BitVec.ofNat 8 (b2n p.skip.isSome + 2 * b2n p.idr + 4 * b2n (b.on F.SYS_STRAP_UNIT) + 8 * b2n (0 < count 2) +
      16 * b2n (0 < count 1))] ++
    beBytes 2 (p.skip.getD 0xFFFF) ++ beBytes 4 p.cap.frame ++ beBytes 2 p.age ++ beBytes 2 (count 2) ++
    beBytes 2 (count 1) ++ [BitVec.ofNat 8 p.qpb.toNat, BitVec.ofNat 8 p.d]

/-- Emulation prevention over the octets of a NAL unit's payload; `z` counts the zeros just before. -/
def escapeOctets : Nat → List Byte → List Byte
  | _, [] => []
  | z, x :: t =>
    if z = 2 && x.toNat ≤ 3 then 3 :: x :: escapeOctets (if x = 0 then 1 else 0) t
    else x :: escapeOctets (if x = 0 then z + 1 else 0) t

/-- The header of the NAL unit that carries the SEI message (R271): a prefix SEI NAL unit in HEVC, an SEI NAL unit in H.264. -/
def seiHeader (codec : Nat) : List Byte := if codec = 2 then [0x06] else [0x4E, 0x01]

/-- The access unit (R271): it begins with the SEI NAL unit, `lead` being the framing before that unit's header, which the spec
leaves open (log 49); `code` is the coded picture. -/
def encUnit (b : Block) (n : Nat) (p : EncPic) (lead code : List Byte) : List Byte :=
  lead ++ seiHeader (b.get F.ENC_S_CTL_CODEC n p.stream) ++ escapeOctets 0 ([5, 32] ++ encSei b n p ++ [0x80]) ++ code

/-- The output entry of an access unit (table Encoder output entry). -/
def encEntry (b : Block) (n : Nat) (p : EncPic) (len stats : Nat) : List Byte :=
  let forced := match (b.encS n p.stream).forced with | some _ => !p.idr | none => false
  leBytes 4 p.off ++ leBytes 4 len ++ leBytes 8 (ofSigned 64 p.cap.ageBase) ++ leBytes 4 p.cap.rtpts ++
    leBytes 4 p.cap.frame ++ leBytes 2 (p.skip.getD 0xFFFF) ++
    leBytes 1 (b2n p.idr + 2 * b2n p.skip.isSome + 4 * b2n (p.verdicts.contains 2) + 8 * b2n (p.verdicts.contains 1) +
      16 * b2n forced + 128) ++
    leBytes 1 p.stream ++ leBytes 4 stats

/-- A statistics block (table Statistics block header), padded to its pages. -/
def encStatsBlock (b : Block) (n : Nat) (p : EncPic) (bits : Nat) : List Byte :=
  let l := leBytes 4 p.cap.frame ++ leBytes 8 (ofSigned 64 p.cap.ageBase) ++ leBytes 4 bits ++
    leBytes 2 (p.skip.getD 0xFFFF) ++ [BitVec.ofNat 8 p.qpb.toNat, BitVec.ofNat 8 p.d] ++ List.replicate 12 0 ++
    (p.stats.flatten.flatMap (leBytes 8))
  l ++ List.replicate (b.get F.ENC_S_ST_CFG_PAGES n p.stream * 4096 - l.length) 0

/-- What the stream keeps of a coded frame (R266, R269, R270). -/
def encCount (n : Nat) (p : EncPic) (bits : Nat) (b : Block) : Block :=
  let s := p.stream
  let st := b.encS n s
  let b := b.setEncS n s { st with
    bits := (bits :: st.bits).take 64, since := if p.idr then 1 else st.since + 1, forced := p.skip,
    coded := st.coded + 1, past := (p.cap.frame :: (if p.idr then [] else st.past)).take 2 }
  let b := (b.put F.ENC_S_LAST_BITS (min 0xFFFFF ((bits + 999) / 1000)) n s).put F.ENC_S_LAST_QP_B p.qpb.toNat n s
  let b := (b.put F.ENC_S_LAST_D p.d n s).flag F.ENC_S_STAT_CAPPED p.skip.isSome n s
  b.put F.ENC_S_ROWS_FIRST_SKIP (p.skip.getD 0x1FF) n s

/-- A write of the engine is refused by the Flask (code 0x3005): the frame gives no entry. -/
def encWriteFailed (n : Nat) (p : EncPic) (part a len : Nat) (b : Block) : Block :=
  let kind := b2n (dramCheck b 8 part a len true).isNone
  let b := (b.evt F.ENC_EVT_FETCH n).record (inst := n) 0x3005 4 p.stream a kind p.cap.frame
  b.setEncS n p.stream { b.encS n p.stream with idr := true }

/-- A frame is coded: the access unit, the statistics block and the output entry are written (R273, R274, code
0x3001). -/
def encFrameDone (c : Clk) (n : Nat) (lead code : List Byte) (b : Block) : Block :=
  match (b.enc n).pic with
  | none => b
  | some p =>
    let s := p.stream
    let au := encUnit b n p lead code
    let ring := b.get F.ENC_S_RING_RING n s
    if !p.begun || p.row < ctuRows b n s || p.fcap * 250 < au.length || 4 < lead.length then b
    else if !encRingFree b n s then encDrop c n p 0 b
    else
      let bits := 8 * au.length
      let wide := encWide b n s
      let k := (b.encS n s).coded % max 1 (b.get F.ENC_S_ST_CFG_STATS_N n s)
      let stAddr := encStats b n s + k * b.get F.ENC_S_ST_CFG_PAGES n s * 4096
      let block := encStatsBlock b n p bits
      let entry := encEntry b n p au.length (if wide then k else 0xFFFFFFFF)
      let head := b.get F.LAD_RING_HEAD_HEAD ring
      let eAddr := b.ringBase ring + 32 * head
      let first := !(b.encS n s).started
      let b := encCount n p bits b
      let (ok, b) := dramAccess c 8 (b.get F.ENC_S_BS_CFG_PART n s) (encBase b n s + p.off) au.length true (12 + n) b
      if !ok then encFinish c n (encWriteFailed n p (b.get F.ENC_S_BS_CFG_PART n s) (encBase b n s + p.off) au.length b)
      else
        let b := b.store (encBase b n s + p.off) au
        let (ok, b) := if wide then dramAccess c 8 (b.get F.ENC_S_ST_CFG_PART n s) stAddr block.length true (12 + n) b else (true, b)
        if !ok then encFinish c n (encWriteFailed n p (b.get F.ENC_S_ST_CFG_PART n s) stAddr block.length b)
        else
          let b := if wide then b.store stAddr block else b
          let (ok, b) := dramAccess c 8 (b.get F.LAD_RING_PART_PART ring) eAddr 32 true (12 + n) b
          if !ok then encFinish c n (encWriteFailed n p (b.get F.LAD_RING_PART_PART ring) eAddr 32 b)
          else
            let b := (b.store eAddr entry).put F.LAD_RING_HEAD_HEAD ((head + 1) % b.ringSize ring) ring
            let st := b.encS n s
            let b := b.setEncS n s { st with
              outs := encOuts b n s ++ [(head, p.off, au.length)], wr := p.off + au.length, started := true }
            let b := if first then
                (b.evt F.ENC_EVT_START n).record (inst := n) 0x3001 2 s p.cap.frame (b.get F.ENC_S_STAT_LEVEL n s)
                  (b.get F.ENC_S_CTL_CODEC n s)
              else b
            encFinish c n b

/-- Thousandths of the last second of steady time for which an encode engine was busy (ENC_LOAD.MEAS). -/
def encBusy (c : Clk) (b : Block) (n : Nat) : Nat :=
  let x := b.enc n
  let now := match x.pic with | some p => [(p.since, c.steady)] | none => []
  let t := ((x.busy ++ now).map fun iv => iv.2 - max iv.1 (c.steady - sTick)).sum
  min 1000 (t * 1000 / sTick)

/-- A write of ENC_S_QP keeps QP_MIN ≤ QI ≤ QP_MAX ≤ 51 (register map note). -/
def encQpOk (v : Word) : Bool :=
  let qi := F.ENC_S_QP_QI.of v
  let hi := F.ENC_S_QP_QP_MAX.of v
  F.ENC_S_QP_QP_MIN.of v ≤ qi && qi ≤ hi && hi ≤ 51

/-! ## Commands -/

/-- WRITEBACK_FRAME_READY (R190, R260): the capture is READY for the streams that read it. -/
def execWritebackFrameReady (dt : Nat) (cru : Cru) (failed : Bool) (s : State) : Host.Outcome State Fault Refusal :=
  s.run dt fun c _ b =>
    let t := writebackReady c cru.val failed b
    match (b.wb cru.val).frames with
    | [] => t
    | f :: _ => if (t.buf (bufKey (b.wbPool cru.val) f.buf)).state = .ready then encNote cru.val t else t

/-- ENCODE_SELECT (R260). -/
def execEncodeSelect (dt : Nat) (enc : Fin 2) (s : State) : Host.Outcome State Fault Refusal :=
  s.run dt fun c _ b => encSelect c enc.val b

/-- ENCODE_FRAME_START (R266). -/
def execEncodeFrameStart (dt : Nat) (enc : Fin 2) (headBits : Nat) (errors : List (Nat × BitVec 40)) (s : State) :
    Host.Outcome State Fault Refusal :=
  s.run dt fun c m b => encFrameStart c m enc.val headBits errors b

/-- ENCODE_ROW_DONE (R267). -/
def execEncodeRowDone (dt : Nat) (enc : Fin 2) (row : EncRow) (s : State) : Host.Outcome State Fault Refusal :=
  s.run dt fun c m b => encRowDone c m enc.val row b

/-- ENCODE_FRAME_DONE (R274). -/
def execEncodeFrameDone (dt : Nat) (enc : Fin 2) (lead code : List Byte) (s : State) : Host.Outcome State Fault Refusal :=
  s.run dt fun c _ b => encFrameDone c enc.val lead code b

end Sys2Proof.Machine
end

