-- ==== Sys2Proof/Machine/Desk.lean ====
section
/-! DEFINITION. Desk sensing: panels, bursts and scans, keys, contacts, baselines, reports, wake and dim, plugging,
takeover (R421-R449). -/

namespace Sys2Proof.Machine

open Sys2Proof

def Block.panel (b : Block) (p : Nat) : PanelSt := tget {} b.panels p
def Block.setPanel (b : Block) (p : Nat) (x : PanelSt) : Block := { b with panels := tput {} b.panels p x }

/-! ## Nodes (R421, R422) -/

/-- A node's 16-bit entry of a node array (DSK_BL, DSK_MIR, DSK_DIFF, DSK_CNT). -/
def nodeGet (b : Block) (f : Fld) (n : Nat) : Nat := bits (b.reg (f.at (n / 2))).toNat (16 * (n % 2)) 16
def nodePut (f : Fld) (n v : Nat) (b : Block) : Block := b.put { f with lsb := 16 * (n % 2) } v (n / 2)

def baseline (b : Block) (n : Nat) : Nat := nodeGet b F.DSK_BL_BL0 n
def setBaseline (n v : Nat) (b : Block) : Block := nodePut F.DSK_BL_BL0 n v b
def nodeOcc (b : Block) (n : Nat) : Bool := bit (b.reg (F.DSK_OCC_OCC0.at (n / 32))).toNat (n % 32)
def setOcc (n : Nat) (v : Bool) (b : Block) : Block := b.flag { F.DSK_OCC_OCC0 with lsb := n % 32 } v (n / 32)
def nodeGroup (b : Block) (n : Nat) : Nat := bits (b.reg (F.DSK_KMAP_GROUP0.at (n / 8))).toNat (4 * (n % 8)) 4

/-- The drive and sense pins of a panel, ascending. -/
def drivePins (b : Block) (p : Nat) : List Nat := (List.range 24).filter (bit (b.get F.DSK_P_DRV_MASK p))
def senseMask (b : Block) (p : Nat) : Nat := b.get2 F.DSK_P_SNS_LO_MASK_LO F.DSK_P_SNS_HI_MASK_HI p
def sensePins (b : Block) (p : Nat) : List Nat := (List.range 40).filter (bit (senseMask b p))

/-- The nodes of a panel, ascending. -/
def panelNodes (b : Block) (p : Nat) : List Nat := (drivePins b p).flatMap fun d => (sensePins b p).map fun s => 40 * d + s

/-- The node at a panel column and row. -/
def nodeAt (b : Block) (p x y : Nat) : Option Nat :=
  match (drivePins b p)[y]?, (sensePins b p)[x]? with
  | some d, some s => some (40 * d + s)
  | _, _ => none

/-- A node's panel column and row. -/
def nodePos (b : Block) (p n : Nat) : Nat × Nat := ((sensePins b p).idxOf (n % 40), (drivePins b p).idxOf (n / 40))

/-! ## Running (R421, R424, R448) -/

/-- This unit drives the token (R306). -/
def Block.driving (b : Block) : Bool := b.on F.PAIR_STAT_TOKEN_DRV

/-- Panel p is connected. -/
def panelPresent (b : Block) (p : Nat) : Bool := bit (b.get F.DSK_STAT_PRESENT) p

/-- A panel runs: block and panel enabled, panel connected, pins driven by this unit (R424, table DSK_P registers). -/
def panelShouldRun (b : Block) (p : Nat) : Bool :=
  b.on F.DSK_CTL_EN && b.domOn 30 && (b.panel p).enabled && panelPresent b p && b.driving

/-- RUN follows what it depends on; a panel that starts does so as a panel start of cause `cause` (R437), one that stops
abandons its burst and its contacts. -/
def panelRun (p cause : Nat) (b : Block) : Block :=
  let run := panelShouldRun b p
  if run = b.on F.DSK_P_STAT_RUN p then b
  else
    let b := b.flag F.DSK_P_STAT_RUN run p
    let x := b.panel p
    if run then b.setPanel p { x with start := some (x.start.getD cause), skip := 0, due := 0 }
    else
      let b := b.setPanel p { x with due := 0, contacts := [], keys := [], neg := [], barred := [], tap := none, hold := [] }
      b.put F.DSK_P_STAT_CONTACTS 0 p

/-- The pins follow the token, the domain and the enables. -/
def deskUpdate (b : Block) : Block :=
  let b := b.flag F.DSK_STAT_DRIVING b.driving
  (List.range 4).foldl (fun b p => panelRun p 0 b) b

/-- The report ring lies within the dual-port region (R442). -/
def reportRingOk (b : Block) : Bool :=
  let k := b.get F.DSK_RPT_CFG_SIZE_LOG2
  4 ≤ k && k ≤ 12 && b.get F.DSK_RPT_BASE_BASE * 16 + 16 * 2 ^ k ≤ 0x40000

/-- Why a panel's enable is refused, or 0 (R421, code 0x1408). -/
def panelRefusal (b : Block) (p : Nat) : Nat :=
  let shares := (List.range 4).any fun q => q ≠ p && (b.panel q).enabled &&
    ((drivePins b q).any ((drivePins b p).contains ·) || (sensePins b q).any ((sensePins b p).contains ·))
  if (drivePins b p).isEmpty || (sensePins b p).isEmpty then 1
  else if shares then 2
  else if 32 < (drivePins b p).length then 3
  else if 2 ≤ b.get F.DSK_P_CTL_KIND p then 4
  else if !reportRingOk b then 5
  else 0

/-- DSK_P_CTL.EN written 1 (R421). -/
def panelEnable (p : Nat) (b : Block) : Block :=
  if (b.panel p).enabled then b
  else
    let r := panelRefusal b p
    if r = 0 then panelRun p 0 (b.setPanel p { b.panel p with enabled := true })
    else
      let v := (b.reg (F.DSK_P_CTL_EN.at p)).toNat
      ((b.flag F.DSK_P_CTL_EN false p).evt F.DSK_EVT_CFG_ERR).record 0x1408 3 (0x100 + 0x40 * p) v r

/-- DSK_P_CTL.EN written 0. -/
def panelDisable (p : Nat) (b : Block) : Block := panelRun p 0 (b.setPanel p { b.panel p with enabled := false })

/-! ## Reports (R442) -/

/-- Write a report (table Desk report entry) into the ring through port B, or drop it (code 0x1407). -/
def deskReport (c : Clk) (t : Tick) (kind p id x y : Nat) (delta : Int) (strip takeover : Bool) (b : Block) : Block :=
  let size := 2 ^ b.get F.DSK_RPT_CFG_SIZE_LOG2
  let head := b.get F.DSK_RPT_HEAD_HEAD
  if !reportRingOk b || (head + 1) % size = b.get F.DSK_RPT_TAIL_TAIL then
    let b := (b.inc F.DSK_RPT_LOST_LOST).evt F.DSK_EVT_OVF
    b.recordLim c 0x1407 sTick 0x1407 3 head (b.get F.DSK_RPT_TAIL_TAIL) (b.get F.DSK_RPT_LOST_LOST)
  else
    let bytes := leBytes 1 kind ++ leBytes 1 (p + 4 * b2n strip + 8 * b2n takeover) ++ leBytes 2 id ++ leBytes 2 x ++
      leBytes 2 y ++ leBytes 2 (ofSigned 16 delta) ++ leBytes 1 (b.get F.DSK_P_STAT_STEP p) ++ [0] ++
      leBytes 4 (t / usTick)
    let b := b.store (scratchBase + b.get F.DSK_RPT_BASE_BASE * 16 + 16 * head) bytes
    (b.put F.DSK_RPT_HEAD_HEAD ((head + 1) % size)).evt F.DSK_EVT_RPT

/-! ## Bursts (R425-R427) -/

/-- The length of a scan (R425). -/
def scanTicks (b : Block) : Nat := 16 * usTick + 32 * b.get F.DSK_SCAN_CHIP * msTick / max 1 (b.get F.DSK_SCAN_FREQ)

/-- Scans per burst, and every how many bursts one scans, at a rate step (table Rate steps). -/
def stepScans (k : Nat) : Nat := if k = 0 then 4 else if k = 1 then 2 else 1
def stepEvery (k : Nat) : Nat := if k = 3 then 4 else if k = 4 then 15 else 1

/-- The ticks that begin before ACT 0 of a running head. -/
def untilAct0 (c : Clk) (b : Block) (h : Nat) : Nat :=
  let f := b.fmt h
  let r := b.ras h
  let len := (((f.den * sTick : Nat) * (256 * f.total + r.slew)).toNat + f.num * 256 * f.total - 1) / (f.num * 256 * f.total)
  len - (c.steady - r.act0)

/-- The panel's class L writes take effect at its burst (text before table DSK registers); EN written 0 stops it. -/
def panelFields (p : Nat) (b : Block) : Block :=
  let lo := F.DSK_P_CTL_EN.at p
  let b := b.takeL fun q => lo ≤ q.addr && q.addr < lo + 0x40
  if (b.panel p).enabled && !b.on F.DSK_P_CTL_EN p then panelDisable p b else b

/-- A calendar entry of head `h` that targets DSK fires with event `e` (R426). -/
def deskBurst (c : Clk) (h e : Nat) (b : Block) : Block :=
  if 4 ≤ e then b.evt F.DSK_EVT_WIGN
  else
    let b := panelFields e b
    let x := b.panel e
    if !b.on F.DSK_P_STAT_RUN e then b
    else if 0 < x.skip then b.setPanel e { x with skip := x.skip - 1 }
    else
      let b := if x.zero then b.put F.DSK_P_STAT_STEP 0 e else b
      let k := b.get F.DSK_P_STAT_STEP e
      let want := stepScans k
      let fit := min want ((untilAct0 c b h - 1) / scanTicks b)
      let b := b.setPanel e { x with
        due := fit, scans := 0, skip := stepEvery k - 1, calHead := h, burst := c.steady, zero := false }
      if fit < want then
        ((b.evt F.DSK_EVT_SHORT).inc F.DSK_P_CNT_SHORT e).recordLim c (0x14090000 + e) sTick 0x1409 3 e h fit want
      else b

/-! ## Wake and dim (R443, R444) -/

/-- A column and row lie in the wake strip. -/
def inStrip (b : Block) (p x y : Nat) : Bool :=
  b.get F.DSK_P_STRIP_X0 p ≤ x && x ≤ b.get F.DSK_P_STRIP_X1 p && b.get F.DSK_P_STRIP_Y0 p ≤ y && y ≤ b.get F.DSK_P_STRIP_Y1 p

/-- Set or clear EN of a calendar entry (R444). -/
def armEntry (c : Clk) (e : Nat) (on : Bool) (b : Block) : Block :=
  let b := b.flag F.TIM_CAL_ACT_EN on e
  if on then calApply c e b else b

/-- A wake gesture is recognised (R444, code 0x1406): 0 double tap, 1 two-finger hold. -/
def wake (c : Clk) (t : Tick) (p gesture : Nat) (b : Block) : Block :=
  let dim := b.get F.DSK_P_CAL_DIM_E p
  let we := b.get F.DSK_P_CAL_WAKE_E p
  let b := if b.on F.TIM_CAL_ACT_EN dim then armEntry c dim false b else b
  let b := if b.on F.DSK_P_CAL_WAKE_EN p then armEntry c we true b else b
  let b := deskReport c t 8 p gesture 0 0 0 true false b
  (b.evt F.DSK_EVT_WAKE).record 0x1406 2 p gesture (b.get F.DSK_P_STAT_STEP p) we

/-- A contact or key that went down in the strip at `since` goes up at scan `t` (R443): the double tap. -/
def tapUp (c : Clk) (t since : Tick) (strip : Bool) (p : Nat) (b : Block) : Block :=
  let x := b.panel p
  if !strip || !b.on F.DSK_P_STRIP_DBL p || since + 300 * msTick < t then
    if strip then b.setPanel p { x with tap := none } else b
  else match x.tap with
    | some u =>
      if u ≤ since && since ≤ u + 400 * msTick then wake c t p 0 (b.setPanel p { x with tap := none })
      else b.setPanel p { x with tap := some t }
    | none => b.setPanel p { x with tap := some t }

/-- The pairs of identities of a list, each once. -/
def pairsOf : List Nat → List (Nat × Nat)
  | [] => []
  | n :: t => t.map (fun m => (n, m)) ++ pairsOf t

/-- The two-finger hold at scan `t` (R443): two that are down in the strip together make a pair at the first scan that finds
both, for as long as both stay down; a pair that a scan finds 500 ms later or more is a gesture, once. -/
def holdStep (c : Clk) (t : Tick) (p : Nat) (down strip : List Nat) (b : Block) : Block :=
  if !b.on F.DSK_P_STRIP_HOLD2 p then b.setPanel p { b.panel p with hold := [] }
  else
    let old := (b.panel p).hold.filter fun q => down.contains q.1 && down.contains q.2.1
    let new := (pairsOf strip).filter fun q => !old.any fun r => r.1 = q.1 && r.2.1 = q.2
    let l := old ++ new.map fun q => (q.1, q.2, t, false)
    let due (q : Nat × Nat × Tick × Bool) : Bool := !q.2.2.2 && q.2.2.1 + 500 * msTick ≤ t
    let b := b.setPanel p { b.panel p with hold := l.map fun q => (q.1, q.2.1, q.2.2.1, q.2.2.2 || due q) }
    (l.filter due).foldl (fun b _ => wake c t p 1 b) b

/-! ## Keys (R429-R431) -/

/-- The nodes that count among a scan's candidates (R430): the strongest of each suppression group, all of group 15. -/
def countingKeys (b : Block) (cand : List (Nat × Int)) : List Nat :=
  (cand.filter fun q =>
    let g := nodeGroup b q.1
    g = 15 || cand.all fun r => r.1 = q.1 || nodeGroup b r.1 ≠ g || r.2 < q.2 || (r.2 = q.2 && q.1 < r.1)).map (·.1)

/-- One key at a scan (R430, R431). -/
def keyScan (c : Clk) (t : Tick) (p : Nat) (takeover : Bool) (counts : List Nat) (n : Nat) (delta : Int) (b : Block) : Block :=
  let x := b.panel p
  let k := (x.keys.find? (·.node = n)).getD { node := n }
  let on := counts.contains n
  let (col, row) := nodePos b p n
  let strip := inStrip b p col row
  let put (k : KeySt) (b : Block) : Block :=
    let x := b.panel p
    let rest := x.keys.filter (·.node ≠ n)
    b.setPanel p { x with keys := if k.down || 0 < k.run then rest ++ [k] else rest }
  let k := { k with delta := delta, run := if on = k.down then 0 else k.run + 1 }
  if k.run ≠ 0 && b.get F.DSK_P_KEY_DEB p ≤ k.run then
    if k.down then
      let b := put { k with down := false, run := 0 } b
      tapUp c t k.since k.strip p (deskReport c t 3 p n 0 0 delta strip takeover b)
    else
      let b := put { k with down := true, run := 0, since := t, next := t + b.get F.DSK_P_KEY_REP_DELAY p * msTick, strip := strip } b
      deskReport c t 1 p n 0 0 delta strip takeover b
  else
    let rep := b.get F.DSK_P_KEY_REP_MS p
    if k.down && rep ≠ 0 && k.next ≤ t && t < k.since + b.get F.DSK_P_HOLD_KEY_HOLD p * sTick then
      deskReport c t 2 p n 0 0 delta strip takeover (put { k with next := k.next + rep * msTick } b)
    else put k b

/-! ## Surfaces (R432-R434) -/

/-- A peak of a scan: its node, column and row, centroid and delta. -/
structure Peak where
  node : Nat
  col : Nat
  row : Nat
  x : Nat
  y : Nat
  delta : Int

/-- The neighbours of a node: those within one column and row, itself excepted. -/
def neighbours (b : Block) (p n : Nat) (nodes : List (Nat × Int)) : List (Nat × Int) :=
  let (x, y) := nodePos b p n
  nodes.filter fun q =>
    let (u, v) := nodePos b p q.1
    q.1 ≠ n && u ≤ x + 1 && x ≤ u + 1 && v ≤ y + 1 && y ≤ v + 1

/-- The centroid of a peak (R432). -/
def centroid (b : Block) (p n : Nat) (delta : Int) (nodes : List (Nat × Int)) : Nat × Nat :=
  let (x, y) := nodePos b p n
  let l := (neighbours b p n nodes).map fun q => (nodePos b p q.1, max q.2 0)
  let w : Int := (l.map (·.2)).sum + max delta 0
  let sx : Int := (l.map fun q => q.2 * ((q.1.1 : Int) - x)).sum
  let sy : Int := (l.map fun q => q.2 * ((q.1.2 : Int) - y)).sum
  if w = 0 then (64 * x, 64 * y)
  else ((64 * (x : Int) + (64 * sx + w / 2) / w).toNat, (64 * (y : Int) + (64 * sy + w / 2) / w).toNat)

/-- The peaks among the eligible nodes of a scan, in ascending node order (R432). -/
def peaksOf (b : Block) (p : Nat) (nodes : List (Nat × Int)) : List Peak :=
  let rel : Int := b.get F.DSK_P_TH_REL_TH p
  (nodes.filter fun q => rel ≤ q.2 && (neighbours b p q.1 nodes).all fun r =>
    if r.1 < q.1 then r.2 < q.2 else r.2 ≤ q.2).map fun q =>
      let (x, y) := nodePos b p q.1
      let (cx, cy) := centroid b p q.1 q.2 nodes
      { node := q.1, col := x, row := y, x := cx, y := cy, delta := q.2 }

def absDiff (a b : Nat) : Nat := max a b - min a b

/-- Insert into a list ordered by `lt`. -/
def insertLt {α : Type} (lt : α → α → Bool) (a : α) : List α → List α
  | [] => [a]
  | x :: t => if lt a x then a :: x :: t else x :: insertLt lt a t

/-- A list put into order by `lt`, stably. -/
def sortLt {α : Type} (lt : α → α → Bool) (l : List α) : List α := l.foldl (fun s a => insertLt lt a s) []

/-- Match contacts and peaks by ascending distance (R433 rules 1 and 2). -/
def matchPeaks (gate : Nat) (cs : List Contact) (ps : List Peak) : List (Nat × Peak) :=
  let pairs := cs.flatMap fun k => ps.filterMap fun q =>
    let d := max (absDiff k.x q.x) (absDiff k.y q.y)
    if d ≤ gate then some (d, k.id, q) else none
  let sorted := sortLt (fun a b : Nat × Nat × Peak =>
    a.1 < b.1 || (a.1 = b.1 && (a.2.1 < b.2.1 || (a.2.1 = b.2.1 && a.2.2.node < b.2.2.node)))) pairs
  sorted.foldl (fun l q =>
    if l.any fun r => r.1 = q.2.1 || r.2.node = q.2.2.node then l else l ++ [(q.2.1, q.2.2)]) []

/-- The next identity: the counter, skipping 0 and identities in use (R434). -/
def nextId (used : List Nat) : Nat → Nat → Nat
  | 0, n => n
  | k + 1, n => if n = 0 || used.contains n then nextId used k ((n + 1) % 256) else n

/-- The contacts of a surface at a scan (R433), reported in ascending identity (R442). -/
def surfaceScan (c : Clk) (t : Tick) (p : Nat) (takeover : Bool) (nodes : List (Nat × Int)) (b : Block) : Block :=
  let x := b.panel p
  let ps := peaksOf b p nodes
  let m := matchPeaks (b.get F.DSK_P_SURF_GATE p) x.contacts ps
  let olds := sortLt (fun a b : Contact => a.id < b.id) x.contacts
  let moves := olds.map fun k => match m.lookup k.id with
    | some q => (({ k with x := q.x, y := q.y, col := q.col, row := q.row, delta := q.delta } : Contact),
        if q.x = k.x && q.y = k.y then 0 else 5)
    | none => (k, 6)
  let stay := (moves.filter (·.2 ≠ 6)).map (·.1)
  -- peaks that are left begin contacts, strongest first
  let free := ps.filter fun q => !(m.any fun r => r.2.node = q.node)
  let order := sortLt (fun a b : Peak => b.delta < a.delta || (a.delta = b.delta && a.node < b.node)) free
  let fresh := order.filter fun q => (b.get F.DSK_P_TH_TOUCH_TH p : Int) ≤ q.delta && !x.barred.contains q.node
  let taken := fresh.take (b.get F.DSK_P_SURF_NMAX p - stay.length)
  let b := b.inc F.DSK_P_CNT_EXCESS p 0 0 (free.length - taken.length)
  let (begun, next) := taken.foldl (fun (s : List Contact × Nat) q =>
    let id := nextId ((stay ++ s.1).map (·.id)) 256 s.2
    (s.1 ++ [{ id := id, x := q.x, y := q.y, col := q.col, row := q.row, delta := q.delta, since := t,
               strip := inStrip b p q.col q.row }], nextId [] 2 ((id + 1) % 256))) ([], b.get F.DSK_P_STAT_NEXT_ID p)
  let b := (b.put F.DSK_P_STAT_NEXT_ID next p).setPanel p { x with contacts := stay ++ begun }
  let reports := sortLt (fun a b : Contact × Nat => a.1.id < b.1.id) (moves.filter (·.2 ≠ 0) ++ begun.map fun k => (k, 4))
  reports.foldl (fun b r =>
    let k := r.1
    let b := deskReport c t r.2 p k.id k.x k.y k.delta (inStrip b p k.col k.row) takeover b
    if r.2 = 6 then tapUp c t k.since k.strip p b else b) b

/-! ## Baselines (R435-R437, R440, R441, R447) -/

/-- Occlusion at a panel start, and nodes that rejoin later (R437, code 0x1403, 0x140A). -/
def occlusion (c : Clk) (t : Tick) (p : Nat) (nodes : List (Nat × Nat)) (b : Block) : Block :=
  let x := b.panel p
  match x.start with
  | some cause =>
    let off (q : Nat × Nat) : Bool := 4 * baseline b q.1 < 10 * absDiff q.2 (baseline b q.1)
    let l := (nodes.filter off).map (·.1)
    let b := nodes.foldl (fun b q => setOcc q.1 (l.contains q.1) b) b
    let b := b.setPanel p { b.panel p with occ := l.map fun n => (n, c.steady) }
    let b := if cause = 2 then b.record 0x140A 3 p l.length 0 (if b.headRuns (b.get F.PAIR_CFG_REF_HEAD) then b.fidx (b.get F.PAIR_CFG_REF_HEAD) else 0) else b
    if l.isEmpty then b
    else
      let b := deskReport c t 9 p l.length 0 0 0 false (cause = 2) b
      (b.evt F.DSK_EVT_OCC).record 0x1403 3 p l.length (l.headD 0) cause
  | none =>
    nodes.foldl (fun b q =>
      if nodeOcc b q.1 && 10 * absDiff q.2 (baseline b q.1) ≤ baseline b q.1 then
        let b := setOcc q.1 false b
        let b := b.setPanel p { b.panel p with occ := (b.panel p).occ.filter (·.1 ≠ q.1) }
        deskReport c t 10 p q.1 0 0 0 false false b
      else b) b

/-- Baseline tracking of an idle panel (R435). -/
def trackBaselines (p : Nat) (nodes : List (Nat × Nat)) (b : Block) : Block :=
  let k := b.get F.DSK_P_BLCFG_TRACK_SHIFT p
  nodes.foldl (fun b q =>
    if nodeOcc b q.1 then b
    else setBaseline q.1 ((baseline b q.1 : Int) + ((q.2 : Int) - baseline b q.1) / 2 ^ k).toNat b) b

/-- Nodes that stay below −TOUCH_TH take their count (R436). -/
def negativeNodes (p : Nat) (nodes : List (Nat × Nat)) (deltas : List (Nat × Int)) (b : Block) : Block :=
  let th : Int := b.get F.DSK_P_TH_TOUCH_TH p
  let x := b.panel p
  let l := deltas.filterMap fun q => if q.2 < -th then some (q.1, (x.neg.lookup q.1).getD 0 + 1) else none
  let n := b.get F.DSK_P_BLCFG_NEG_N p
  let b := b.setPanel p { x with neg := l.filter (·.2 < n) }
  (l.filter fun q => n ≤ q.2).foldl (fun b q => setBaseline q.1 ((nodes.lookup q.1).getD 0) b) b

/-- A baseline snapshot of a panel (R441, code 0x1410): six baselines a record. -/
def snapshotRecords (p : Nat) (b : Block) : Block :=
  let serial := b.snapSerial % 65536
  let l := panelNodes b p
  let rec go (fuel : Nat) (l : List Nat) (b : Block) : Block :=
    match fuel, l with
    | 0, _ => b
    | _, [] => b
    | k + 1, n :: t =>
      let v (i : Nat) : Nat := match (n :: t)[i]? with | some m => baseline b m | none => 0
      go k (t.drop 5) (b.record 0x1410 1 (n + 1024 * p + 65536 * serial) (v 0 + 65536 * v 1) (v 2 + 65536 * v 3)
        (v 4 + 65536 * v 5))
  { go (l.length + 1) l b with snapSerial := serial + 1 }

/-- What an idle scan sends on (R441, R447): a snapshot that is due, and the panel's baselines to the partner. -/
def idleScan (p : Nat) (b : Block) : Block :=
  let x := b.panel p
  let b := if x.snap && x.occ.isEmpty then snapshotRecords p (b.setPanel p { x with snap := false }) else b
  let frame := b.frameOf x.calHead + 1
  if b.paired && b.get F.PAIR_STAT_ROLE = 1 && (b.panel p).mirrored ≠ frame then
    let b := b.setPanel p { b.panel p with mirrored := frame }
    b.tell (.desk ((panelNodes b p).map fun n => (n, baseline b n)))
  else b

/-! ## A scan (R425, R428) -/

/-- How many contacts or keys a panel has down. -/
def touches (b : Block) (p : Nat) : Nat := (b.panel p).contacts.length + ((b.panel p).keys.filter (·.down)).length

/-- DSK_P_STAT follows a scan; a panel with no touch is idle, a touch returns it to step 0 from its next burst (R428). -/
def scanStatus (c : Clk) (p : Nat) (b : Block) : Block :=
  let x := b.panel p
  let n := touches b p
  let b := (b.put F.DSK_P_STAT_CONTACTS (min 15 n) p).put F.DSK_P_STAT_OCCLUDED x.occ.length p
  if n = 0 then b.setPanel p { x with idle := some (x.idle.getD c.steady) }
  else b.setPanel p { x with idle := none, skip := 0, zero := true }

/-- A scan completes with the counts of the panel's nodes in ascending node order (R425-R441); the scans of a burst are back
to back (R426). -/
def deskScan (c : Clk) (p : Nat) (counts : List (BitVec 16)) (b : Block) : Block :=
  let x := b.panel p
  let t := x.burst + x.scans * scanTicks b
  if !b.on F.DSK_P_STAT_RUN p || x.due = 0 || c.steady < t + scanTicks b then b
  else
    let nodes := (panelNodes b p).zipIdx.map fun q => (q.1, (counts.getD q.2 0).toNat)
    let takeover := x.start = some 2
    let b := nodes.foldl (fun b q => nodePut F.DSK_CNT_CNT0 q.1 q.2 b) b
    let b := occlusion c t p nodes b
    let b := b.setPanel p { b.panel p with start := none, due := x.due - 1, scans := x.scans + 1 }
    let all := nodes.map fun q => (q.1, (baseline b q.1 : Int) - q.2)
    let deltas := all.filter fun q => !nodeOcc b q.1
    let rel : Int := b.get F.DSK_P_TH_REL_TH p
    let b := b.setPanel p { b.panel p with
      barred := (b.panel p).barred.filter fun n => match all.lookup n with | some d => rel ≤ d | none => false }
    let surface := b.get F.DSK_P_CTL_KIND p = 1
    let isDown (n : Nat) : Bool := x.keys.any fun k => k.node = n && k.down
    let th : Int := b.get F.DSK_P_TH_TOUCH_TH p
    let cand := if surface then [] else deltas.filter fun q =>
      if isDown q.1 then rel ≤ q.2 else th ≤ q.2 && !(b.panel p).barred.contains q.1
    let b := if surface then surfaceScan c t p takeover deltas b
      else
        let counting := countingKeys b cand
        all.foldl (fun b q => keyScan c t p takeover counting q.1 q.2 b) b
    let ids := if surface then (b.panel p).contacts.map fun k => (k.id, inStrip b p k.col k.row)
      else ((b.panel p).keys.filter (·.down)).map fun k => (k.node, k.strip)
    let b := holdStep c t p (ids.map (·.1)) ((ids.filter (·.2)).map (·.1)) b
    let b := if touches b p = 0 && cand.isEmpty then trackBaselines p nodes b else b
    let b := negativeNodes p nodes all b
    let b := scanStatus c p b
    if touches b p = 0 then idleScan p b else b

/-! ## Timed events (R428, R438, R439, R441) -/

/-- A panel idle for IDLE_k s moves to step k (R428, R444). -/
def idleStep (c : Clk) (p : Nat) (b : Block) : Block :=
  let k := b.get F.DSK_P_STAT_STEP p
  let lim := [b.get F.DSK_P_IDLE_A_IDLE1 p, b.get F.DSK_P_IDLE_A_IDLE2 p, b.get F.DSK_P_IDLE_B_IDLE3 p,
    b.get F.DSK_P_IDLE_B_IDLE4 p]
  match (b.panel p).idle, lim[k]? with
  | some t, some s =>
    if !b.on F.DSK_P_STAT_RUN p || c.steady < t + s * sTick then b
    else
      let b := b.put F.DSK_P_STAT_STEP (k + 1) p
      if b.get F.DSK_P_CAL_DIM_STEP p = k + 1 && b.on F.DSK_P_CAL_DIM_EN p then armEntry c (b.get F.DSK_P_CAL_DIM_E p) true b
      else b
  | _, _ => b

/-- One stuck contact or key (R439, code 0x1405): reported, ended, and the nodes around it take their counts. -/
def stuckOne (c : Clk) (p id up x y col row : Nat) (since : Tick) (delta : Int) (nodes : List Nat) (b : Block) : Block :=
  let strip := inStrip b p col row
  let b := deskReport c c.steady 7 p id x y delta strip false b
  let b := deskReport c c.steady up p id x y delta strip false b
  let b := (b.evt F.DSK_EVT_STUCK).record 0x1405 3 p id ((c.steady - since) / sTick) (x + 65536 * y)
  let b := nodes.foldl (fun b n => setBaseline n (nodeGet b F.DSK_CNT_CNT0 n) b) (b.inc F.DSK_P_CNT_STUCK p)
  b.setPanel p { b.panel p with barred := (b.panel p).barred ++ nodes }

/-- Contacts and keys down for HOLD_S s are stuck (R439). -/
def deskStuck (c : Clk) (p : Nat) (b : Block) : Block :=
  let x := b.panel p
  let lim := b.get F.DSK_P_HOLD_HOLD_S p * sTick
  let cs := x.contacts.filter fun k => k.since + lim ≤ c.steady
  let ks := x.keys.filter fun k => k.down && k.since + lim ≤ c.steady
  if cs.isEmpty && ks.isEmpty then b
  else
    let b := b.setPanel p { x with
      contacts := x.contacts.filter fun k => !(k.since + lim ≤ c.steady)
      keys := x.keys.filter fun k => !(k.down && k.since + lim ≤ c.steady) }
    let b := cs.foldl (fun b k =>
      let near := (panelNodes b p).filter fun n =>
        let (u, v) := nodePos b p n
        absDiff u k.col ≤ 1 && absDiff v k.row ≤ 1
      stuckOne c p k.id 6 k.x k.y k.col k.row k.since k.delta near b) b
    let b := ks.foldl (fun b k =>
      let (col, row) := nodePos b p k.node
      stuckOne c p k.node 3 0 0 col row k.since k.delta [k.node] b) b
    let b := b.put F.DSK_P_STAT_CONTACTS (min 15 (touches b p)) p
    if touches b p = 0 then b.setPanel p { b.panel p with idle := some c.steady } else b

/-- Nodes of a running panel occluded for OCC_S s take their count and rejoin (R438, code 0x1404). -/
def occlusionTimeout (c : Clk) (p : Nat) (b : Block) : Block :=
  if !b.on F.DSK_P_STAT_RUN p then b
  else
  let x := b.panel p
  let due := x.occ.filter fun q => q.2 + b.get F.DSK_P_BLCFG_OCC_S p * sTick ≤ c.steady
  let b := due.foldl (fun b q =>
    let old := baseline b q.1
    let new := nodeGet b F.DSK_CNT_CNT0 q.1
    let b := setOcc q.1 false (setBaseline q.1 new b)
    deskReport c c.steady 10 p q.1 0 0 0 false false (b.record 0x1404 3 p q.1 old new)) b
  let b := b.setPanel p { b.panel p with occ := x.occ.filter fun q => !due.contains q }
  b.put F.DSK_P_STAT_OCCLUDED (b.panel p).occ.length p

/-- A baseline snapshot of each running panel becomes due every SAVE_H hours (R441). -/
def snapshotDue (c : Clk) (b : Block) : Block :=
  let n := b.get F.DSK_BLCFG_SAVE_H
  if n = 0 || !b.driving || c.steady < b.snapAt + n * 3600 * sTick then b
  else (List.range 4).foldl (fun b p =>
    if b.on F.DSK_P_STAT_RUN p then b.setPanel p { b.panel p with snap := true } else b) { b with snapAt := c.steady }

/-! ## Plugging and takeover (R445, R446, R448) -/

/-- Contacts and keys of a panel end: TOUCH_UP and KEY_UP for each. -/
def endTouches (c : Clk) (p : Nat) (b : Block) : Block :=
  let x := b.panel p
  let b := (sortLt (fun a b : KeySt => a.node < b.node) (x.keys.filter (·.down))).foldl (fun b k =>
    let (col, row) := nodePos b p k.node
    deskReport c c.steady 3 p k.node 0 0 k.delta (inStrip b p col row) false b) b
  let b := (sortLt (fun a b : Contact => a.id < b.id) x.contacts).foldl (fun b k =>
    deskReport c c.steady 6 p k.id k.x k.y k.delta (inStrip b p k.col k.row) false b) b
  (b.setPanel p { b.panel p with contacts := [], keys := [] }).put F.DSK_P_STAT_CONTACTS 0 p

/-- A panel is removed (R446, code 0x1402). -/
def unplug (c : Clk) (p : Nat) (b : Block) : Block :=
  if !panelPresent b p then b
  else
    let cs := (b.panel p).contacts.length
    let ks := touches b p - cs
    let b := endTouches c p b
    let b := b.flag { F.DSK_STAT_PRESENT with lsb := p, width := 1 } false
    let b := panelRun p 0 b
    let b := deskReport c c.steady 12 p 0 0 0 0 false false b
    (b.evt F.DSK_EVT_PLUG).record 0x1402 3 p cs ks (b.get F.PAIR_STAT_ROLE)

/-- A panel is connected (R446, code 0x1401): it starts at its next burst. -/
def plug (c : Clk) (p : Nat) (b : Block) : Block :=
  if panelPresent b p then b
  else
    let b := b.flag { F.DSK_STAT_PRESENT with lsb := p, width := 1 } true
    let b := deskReport c c.steady 11 p 0 0 0 0 false false b
    let b := (b.evt F.DSK_EVT_PLUG).record 0x1401 2 p (panelNodes b p).length (b.get F.PAIR_STAT_ROLE)
    panelRun p 1 (b.setPanel p { b.panel p with start := some 1 })

/-- The baselines of a present panel that its mirror and the difference of the two sets give (R448). -/
def mirrorBaselines (p : Nat) (b : Block) : Block :=
  if !panelPresent b p then b
  else
    let b := (panelNodes b p).foldl (fun b n =>
      let v := (nodeGet b F.DSK_MIR_MIR0 n : Int) + toSigned 16 (nodeGet b F.DSK_DIFF_DIFF0 n)
      setBaseline n (max 0 (min 65535 v)).toNat b) b
    b.setPanel p { b.panel p with start := some 2 }

/-- The takeover of the desk at the role change that makes the unit ACTIVE (R448). -/
def deskTakeover (b : Block) : Block :=
  (List.range 4).foldl (fun b p =>
    let b := mirrorBaselines p b
    let b := b.setPanel p { b.panel p with
      contacts := [], keys := [], neg := [], barred := [], tap := none, hold := [], skip := 0, due := 0, idle := none,
      zero := false }
    (b.put F.DSK_P_STAT_STEP 0 p).put F.DSK_P_STAT_CONTACTS 0 p) b

/-- A DESK message of the partner (R447). -/
def pairDesk (l : List (Nat × Nat)) (b : Block) : Block :=
  l.foldl (fun b q => if q.1 < 960 then nodePut F.DSK_MIR_MIR0 q.1 q.2 b else b) b

/-! ## Commands -/

/-- DESK_SCAN (R425): EXTEST stops desk sensing (R503). -/
def execDeskScan (dt : Nat) (panel : Fin 4) (counts : List (BitVec 16)) (s : State) : Host.Outcome State Fault Refusal :=
  s.run dt fun c _ b => if b.jtag.instr = .extest then b else deskScan c panel.val counts b

/-- DESK_IDLE_STEP (R428). -/
def execDeskIdleStep (dt : Nat) (panel : Fin 4) (s : State) : Host.Outcome State Fault Refusal :=
  s.run dt fun c _ b => idleStep c panel.val b

/-- STUCK (R439). -/
def execStuck (dt : Nat) (panel : Fin 4) (s : State) : Host.Outcome State Fault Refusal :=
  s.run dt fun c _ b => deskStuck c panel.val b

/-- OCCLUSION_TIMEOUT (R438). -/
def execOcclusionTimeout (dt : Nat) (panel : Fin 4) (s : State) : Host.Outcome State Fault Refusal :=
  s.run dt fun c _ b => occlusionTimeout c panel.val b

/-- SNAPSHOT_DUE (R441). -/
def execSnapshotDue (dt : Nat) (s : State) : Host.Outcome State Fault Refusal :=
  s.run dt fun c _ b => snapshotDue c b

/-- UNPLUG (R446). -/
def execUnplug (dt : Nat) (panel : Fin 4) (s : State) : Host.Outcome State Fault Refusal :=
  s.run dt fun c _ b => unplug c panel.val b

/-- PLUG (R446). -/
def execPlug (dt : Nat) (panel : Fin 4) (s : State) : Host.Outcome State Fault Refusal :=
  s.run dt fun c _ b => plug c panel.val b

end Sys2Proof.Machine
end

