-- ==== Sys2Proof/Machine/Hash.lean ====
section
/-! DEFINITION. The algorithms that images and the shop protocol name (R476, R479, R496, R497): SHA-256, HMAC-SHA-256 and the
verification of ECDSA P-256 signatures. The spec names them and does not state them; they stand here as their standards
define them (PRESUMED: FIPS 180-4, RFC 2104, FIPS 186-4; log 23). -/

namespace Sys2Proof.Machine

open Sys2Proof

/-! ## SHA-256 -/

/-- The round constants: the cube roots of the first 64 primes, 32 bits of their fractions. -/
def shaK : List Word :=
  [0x428A2F98, 0x71374491, 0xB5C0FBCF, 0xE9B5DBA5, 0x3956C25B, 0x59F111F1, 0x923F82A4, 0xAB1C5ED5] ++
  [0xD807AA98, 0x12835B01, 0x243185BE, 0x550C7DC3, 0x72BE5D74, 0x80DEB1FE, 0x9BDC06A7, 0xC19BF174] ++
  [0xE49B69C1, 0xEFBE4786, 0x0FC19DC6, 0x240CA1CC, 0x2DE92C6F, 0x4A7484AA, 0x5CB0A9DC, 0x76F988DA] ++
  [0x983E5152, 0xA831C66D, 0xB00327C8, 0xBF597FC7, 0xC6E00BF3, 0xD5A79147, 0x06CA6351, 0x14292967] ++
  [0x27B70A85, 0x2E1B2138, 0x4D2C6DFC, 0x53380D13, 0x650A7354, 0x766A0ABB, 0x81C2C92E, 0x92722C85] ++
  [0xA2BFE8A1, 0xA81A664B, 0xC24B8B70, 0xC76C51A3, 0xD192E819, 0xD6990624, 0xF40E3585, 0x106AA070] ++
  [0x19A4C116, 0x1E376C08, 0x2748774C, 0x34B0BCB5, 0x391C0CB3, 0x4ED8AA4A, 0x5B9CCA4F, 0x682E6FF3] ++
  [0x748F82EE, 0x78A5636F, 0x84C87814, 0x8CC70208, 0x90BEFFFA, 0xA4506CEB, 0xBEF9A3F7, 0xC67178F2]

/-- The first state: the square roots of the first 8 primes, 32 bits of their fractions. -/
def shaInit : List Word := [0x6A09E667, 0xBB67AE85, 0x3C6EF372, 0xA54FF53A, 0x510E527F, 0x9B05688C, 0x1F83D9AB, 0x5BE0CD19]

/-- The message schedule, newest word first, grown by `n` words. -/
def shaSchedule : Nat → List Word → List Word
  | 0, w => w
  | n + 1, w =>
    let x := w.getD 14 0
    let y := w.getD 1 0
    let s0 := x.rotateRight 7 ^^^ x.rotateRight 18 ^^^ (x >>> 3)
    let s1 := y.rotateRight 17 ^^^ y.rotateRight 19 ^^^ (y >>> 10)
    shaSchedule n ((s1 + w.getD 6 0 + s0 + w.getD 15 0) :: w)

/-- One round, on the eight working words. -/
def shaRound (v : List Word) (q : Word × Word) : List Word :=
  match v with
  | [a, b, c, d, e, f, g, h] =>
    let t1 := h + (e.rotateRight 6 ^^^ e.rotateRight 11 ^^^ e.rotateRight 25) + ((e &&& f) ^^^ (~~~e &&& g)) + q.1 + q.2
    let t2 := (a.rotateRight 2 ^^^ a.rotateRight 13 ^^^ a.rotateRight 22) + ((a &&& b) ^^^ (a &&& c) ^^^ (b &&& c))
    [t1 + t2, a, b, c, d + t1, e, f, g]
  | v => v

/-- The words of bytes, most significant byte first. -/
def wordsBe (n : Nat) (l : List Byte) : List Word := (List.range n).map fun i => BitVec.ofNat 32 (ofBe ((l.drop (4 * i)).take 4))

/-- One block of 64 bytes taken into the state. -/
def shaBlock (v : List Word) (l : List Byte) : List Word :=
  let w := (shaSchedule 48 (wordsBe 16 l).reverse).reverse
  List.zipWith (· + ·) v ((shaK.zip w).foldl shaRound v)

/-- The blocks of a padded message. -/
def shaBlocks : Nat → List Byte → List Word → List Word
  | 0, _, v => v
  | n + 1, l, v => shaBlocks n (l.drop 64) (shaBlock v (l.take 64))

/-- SHA-256. -/
def sha256 (l : List Byte) : List Byte :=
  let zeros := (119 - l.length % 64) % 64
  let m := l ++ [0x80] ++ List.replicate zeros 0 ++ beBytes 8 (8 * l.length)
  (shaBlocks (m.length / 64) m shaInit).flatMap fun w => beBytes 4 w.toNat

/-! ## HMAC-SHA-256 -/

/-- HMAC-SHA-256 of a message under a key: a key longer than a block is hashed. -/
def hmac (key l : List Byte) : List Byte :=
  let k := if 64 < key.length then sha256 key else key
  let k := k ++ List.replicate (64 - k.length) 0
  sha256 (k.map (· ^^^ 0x5C) ++ sha256 (k.map (· ^^^ 0x36) ++ l))

/-! ## ECDSA on the curve P-256 -/

/-- The field, the order, the coefficient and the base point of P-256. -/
def p256 : Nat := 2 ^ 256 - 2 ^ 224 + 2 ^ 192 + 2 ^ 96 - 1
def p256Order : Nat := 0xFFFFFFFF00000000FFFFFFFFFFFFFFFFBCE6FAADA7179E84F3B9CAC2FC632551
def p256B : Nat := 0x5AC635D8AA3A93E7B3EBBD55769886BC651D06B0CC53B0F63BCE3C3E27D2604B
def p256Base : Nat × Nat :=
  (0x6B17D1F2E12C4247F8BCE6E563A440F277037D812DEB33A0F4A13945D898C296,
   0x4FE342E2FE1A7F9B8EE7EB4A7C0F9E162BCE33576B315ECECBB6406837BF51F5)

/-- `x ^ e mod m`, by the `n` low bits of `e`. -/
def powMod (m : Nat) : Nat → Nat → Nat → Nat
  | 0, _, _ => 1
  | n + 1, x, e => (if e % 2 = 1 then x else 1) * powMod m n (x * x % m) (e / 2) % m

/-- The inverse modulo a prime of 256 bits. -/
def invMod (m x : Nat) : Nat := powMod m 256 (x % m) (m - 2)

/-- The point on the line of slope `k` through a point and one of abscissa `x2`. -/
def chord (k x1 y1 x2 : Nat) : Nat × Nat :=
  let x3 := (k * k + 2 * p256 - x1 - x2) % p256
  (x3, (k * (x1 + p256 - x3) + p256 - y1) % p256)

/-- The sum of two points; none is the point at infinity. -/
def pointAdd : Option (Nat × Nat) → Option (Nat × Nat) → Option (Nat × Nat)
  | none, q => q
  | p, none => p
  | some (x1, y1), some (x2, y2) =>
    if x1 = x2 then
      if (y1 + y2) % p256 = 0 then none
      else some (chord ((3 * x1 * x1 + p256 - 3) * invMod p256 (2 * y1) % p256) x1 y1 x1)
    else some (chord ((y2 + p256 - y1) * invMod p256 (x2 + p256 - x1) % p256) x1 y1 x2)

/-- A multiple of a point, by the `n` low bits of `k`. -/
def pointMul : Nat → Nat → Option (Nat × Nat) → Option (Nat × Nat)
  | 0, _, _ => none
  | n + 1, k, q =>
    let r := pointMul n (k / 2) (pointAdd q q)
    if k % 2 = 1 then pointAdd q r else r

/-- A signature of a message is good under a public key: X and Y, r and s, each of 32 bytes (R476). -/
def ecdsaOk (pub sig l : List Byte) : Bool :=
  let x := ofBe (pub.take 32)
  let y := ofBe ((pub.drop 32).take 32)
  let r := ofBe (sig.take 32)
  let s := ofBe ((sig.drop 32).take 32)
  let w := invMod p256Order s
  let u1 := ofBe (sha256 l) * w % p256Order
  let u2 := r * w % p256Order
  x < p256 && y < p256 && y * y % p256 = (x * x * x + (p256 - 3) * x + p256B) % p256 && 1 ≤ r && r < p256Order &&
    1 ≤ s && s < p256Order && (match pointAdd (pointMul 256 u1 (some p256Base)) (pointMul 256 u2 (some (x, y))) with
      | some (v, _) => v % p256Order = r
      | none => false)

end Sys2Proof.Machine
end

