-- ==== Sys2Proof/Machine/Pair.lean ====
section
/-! DEFINITION. The redundant pair: roles, token, heat, identical inputs, mirrored writes, seals and votes, health,
switch-over, rejoin (R277-R314). -/

namespace Sys2Proof.Machine

open Sys2Proof

/-- Roles and join stages (tables Roles, PAIR_STAT). -/
def roleStart : Nat := 0
def roleActive : Nat := 1
def roleStandby : Nat := 2
def roleAlone : Nat := 3
def stageNone : Nat := 0
def stageLock : Nat := 1
def stageHeat : Nat := 2
def stageCopy : Nat := 3
def stageCast : Nat := 4
def stageLost : Nat := 5

def Block.role (b : Block) : Nat := b.get F.PAIR_STAT_ROLE
def Block.joinStage (b : Block) : Nat := b.get F.PAIR_STAT_STAGE
def Block.setStage (b : Block) (n : Nat) : Block := b.put F.PAIR_STAT_STAGE n
def Block.pairMode (b : Block) : Bool := b.on F.PAIR_CFG_MODE
def Block.linkUp (b : Block) : Bool := b.on F.PAIR_STAT_LINK
def Block.setPair (b : Block) (x : PairSt) : Block := { b with pair := x }
def Block.hp (b : Block) (h : Nat) : HeadPair := tget {} b.pair.heads h
def Block.setHp (b : Block) (h : Nat) (x : HeadPair) : Block :=
  b.setPair { b.pair with heads := tput {} b.pair.heads h x }

/-- The reference head, whether it runs, and its frame index, 0 while it does not (R284). -/
def Block.refHead (b : Block) : Nat := b.get F.PAIR_CFG_REF_HEAD
def Block.refRuns (b : Block) : Bool := b.headRuns b.refHead
def Block.refF (b : Block) : Nat := if b.refRuns then b.fidx b.refHead else 0

/-- This unit is the preferred one (R280): Cope where the two PREF values differ. -/
def Block.preferred (b : Block) : Bool :=
  let own := b.on F.PAIR_CFG_PREF
  let peer := bit (b.get F.PAIR_HR_PEER_HR 0) 7
  let named := if b.on F.PAIR_STAT_PEER_VALID && own ≠ peer then false else own
  b.on F.SYS_STRAP_UNIT = named

/-! ## MUTE_PAIR (R249, R310, R485) -/

/-- Set or clear MUTE_PAIR of a head: its casting match starts again. -/
def mutePair (h : Nat) (v : Bool) (b : Block) : Block :=
  let b := b.setFet h { b.fet h with mutePair := v, pairWas := some (b.now, pairMuted b h) }
  (b.flag F.PAIR_HEAD_STAT_MUTED v h).put F.PAIR_HEAD_STAT_CAST 0 h

/-- MUTE_PAIR on every stream; the heads wait for a casting match. -/
def muteAll (b : Block) : Block :=
  let b := (List.range 64).foldl (fun b h => mutePair h true b) b
  b.setPair { b.pair with held := List.range 64 }

/-- A unit that becomes ACTIVE or ALONE sends its streams (R279, R485), but for those that a divergence mutes: they unmute
only through a casting match (R299, R305). -/
def unmuteAll (b : Block) : Block :=
  let keep := b.pair.divMuted
  let b := (List.range 64).foldl (fun b h => if (b.fet h).mutePair && !keep.contains h then mutePair h false b else b) b
  b.setPair { b.pair with held := keep }

/-! ## The heat (R285-R287) -/

/-- The heat number, its epoch and its corrections take effect at each head's next frame start (code 0x0507). -/
def heatEffect (num e : Nat) (corr : List (Nat × Int)) (adopted : Bool) (b : Block) : Block :=
  let b := (b.put F.PAIR_HEAT_HEAT num).put2 F.PAIR_EPOCH_LO_E_LO F.PAIR_EPOCH_HI_E_HI e
  let b := (b.put F.FET_PKT_HEAT_HEAT num).put2 F.FET_PKT_EPOCH_LO_E_LO F.FET_PKT_EPOCH_HI_E_HI e
  let b := (b.flag F.PAIR_STAT_HEAT_VALID true).flag F.FET_PKT_GSTAT_HEAT_VALID true
  let b := { b with heatGen := b.heatGen + 1, heatCorr := corr }
  let heads := ((List.range 64).filter b.headRuns).length
  (b.evt F.PAIR_EVT_HEAT).record 0x0507 4 num e (b2n adopted) heads

/-- K_h of a head whose frame index is set (R286). -/
def headCorrection (b : Block) (h : Nat) : Int :=
  let f := b.fmt h
  let e := b.get2 F.PAIR_EPOCH_LO_E_LO F.PAIR_EPOCH_HI_E_HI
  (b.aidxOf h : Int) - b.fidx h - ((e * f.num + f.den - 1) / f.den : Nat)

/-- Send the heat in effect to the partner. -/
def sendHeat (b : Block) : Block :=
  let l := (List.range 64).filterMap fun h =>
    if b.headRuns h && (b.fet h).heat.isSome then some (Fin.ofNat 64 h, headCorrection b h) else none
  b.tell (.heat (BitVec.ofNat 32 (b.get F.PAIR_HEAT_HEAT))
    (BitVec.ofNat 48 (b.get2 F.PAIR_EPOCH_LO_E_LO F.PAIR_EPOCH_HI_E_HI)) l)

/-- A unit that enters ACTIVE or ALONE without a heat forms one (R285). -/
def formHeat (c : Clk) (b : Block) : Block :=
  if b.on F.PAIR_STAT_HEAT_VALID then b
  else
    let n := b.pair.heats % 255 + 1
    let num := b2n (b.on F.SYS_STRAP_UNIT) * 2 ^ 31 + b.get F.LOG_PCYC_PCYC % 2 ^ 23 * 256 + n
    let b := heatEffect num c.sec [] false (b.setPair { b.pair with heats := n })
    if b.paired then sendHeat b else b

/-! ## Token and roles (R279-R281, R305-R310) -/

/-- TOKEN_LINE follows who drives TAP_OWN_N (R306), and how long the line is high (R307). -/
def tokenLine (c : Clk) (b : Block) : Block :=
  let low := b.pair.partnerLow || b.on F.PAIR_STAT_TOKEN_DRV
  let b := b.flag F.PAIR_STAT_TOKEN_LINE low
  let since := if low then none else some (b.pair.highSince.getD c.steady)
  b.setPair { b.pair with highSince := since }

/-- The unit drives the token, and the desk pins with it (R306). -/
def driveToken (c : Clk) (b : Block) : Block :=
  let b := b.setPair { b.pair with wantToken := false, agreed := false, joinSeek := false }
  deskUpdate (tokenLine c (b.flag F.PAIR_STAT_TOKEN_DRV true))

/-- The unit releases the token. -/
def releaseToken (c : Clk) (b : Block) : Block :=
  deskUpdate (tokenLine c ((b.flag F.PAIR_STAT_TOKEN_DRV false).setPair { b.pair with wantToken := false, agreed := false }))

/-- The line has been high for the wait of R307. -/
def tokenWaited (c : Clk) (b : Block) : Bool :=
  let w := if b.preferred then b.get F.PAIR_TOKEN_WAIT_PREF else b.get F.PAIR_TOKEN_WAIT_OTHER
  match b.pair.highSince with
  | some t => !b.on F.PAIR_STAT_TOKEN_LINE && t + w * msTick ≤ c.steady
  | none => false

/-- The role changes (code 0x0501). A unit that leaves ACTIVE releases the token; one that becomes ACTIVE or ALONE
forms a heat if it has none, sends its streams, and takes the desk (R285, R305, R448). -/
def setRole (c : Clk) (new cause : Nat) (b : Block) : Block :=
  let old := b.role
  let b := (b.put F.PAIR_STAT_ROLE new).evt F.PAIR_EVT_ROLE
  let b := b.record 0x0501 4 old new cause b.refF
  let b := b.setPair { b.pair with kick := c.steady, joinSeek := false, low := 0 }
  if new = roleActive || new = roleAlone then
    deskTakeover (unmuteAll (formHeat c (b.setStage stageNone)))
  else if old = roleActive || old = roleAlone then releaseToken c b
  else b

/-- In a switch-over with the link up, the unit takes the token at its first sample of the line high, without a wait (R307). -/
def takeAgreed (c : Clk) (b : Block) : Block :=
  if b.on F.PAIR_STAT_TOKEN_LINE then b.setPair { b.pair with wantToken := true, agreed := true } else driveToken c b

/-- Without an agreed handover the unit takes the token once the line has been high for its wait (R307). -/
def takeWaited (c : Clk) (b : Block) : Block :=
  if tokenWaited c b then driveToken c b else b.setPair { b.pair with wantToken := true, agreed := false }

/-- The rejoin starts (R311): the servo must reach LOCKED. -/
def startRejoin (b : Block) : Block :=
  let b := b.setPair { b.pair with copying := false, journal := [] }
  b.setStage (if b.locked then stageHeat else stageLock)

/-- The stage LINK_LOST (R309, R310). -/
def enterLost (b : Block) : Block :=
  let b := b.setStage stageLost
  if b.on F.PAIR_CFG_LOST_MUTE then muteAll b else b

/-- The STANDBY unit that has lost the heartbeat sees the token held by a partner it cannot reach (R309, code 0x050A). -/
def tokenHeld (b : Block) : Block :=
  let b := (b.evt F.PAIR_EVT_TOKEN).record 0x050A 4 0 b.role (b.get F.PAIR_STAT_TOKEN_LINE)
  if !b.linkUp && b.joinStage ≠ stageLost then enterLost b else b

/-- A switch-over is recorded and counted (R304, code 0x0503). -/
def noteSwitch (cause : Nat) (b : Block) : Block :=
  let b := (b.inc F.PAIR_CNT_SWITCH).evt F.PAIR_EVT_SWITCH
  b.record 0x0503 5 cause (b.get F.PAIR_SCORE_OWN) (b.get F.PAIR_SCORE_PEER) b.refF

/-- The unit seeks the token without an agreed handover, outside a frame start (R280, R307). -/
def seeksToken (b : Block) : Bool :=
  (b.role = roleStart && b.pair.joinSeek && !b.linkUp) || (b.role = roleActive && b.pair.wantToken && !(b.pair.agreed && b.linkUp))

/-- The token is acquired after its wait (R280 case 3, R307). -/
def tokenAcquire (c : Clk) (b : Block) : Block :=
  if !seeksToken b || !tokenWaited c b then b
  else if b.role = roleStart then driveToken c (setRole c roleActive 0 b)
  else driveToken c b

/-- The standby that has lost the heartbeat takes the role at the reference head's ACT 0, once the line has been high
for its wait (R303, R304, R307, R309). -/
def standbyTakes (c : Clk) (b : Block) : Block :=
  if b.role = roleStandby && b.pair.hb = 2 && b.on F.PAIR_CFG_AUTO && tokenWaited c b then
    driveToken c (setRole c roleActive 1 (noteSwitch 0 b))
  else b

/-- TAP_OWN_N changes level because the partner drives or releases it (R280, R307, R309). -/
def tokenLineChange (c : Clk) (low : Bool) (b : Block) : Block :=
  let b := tokenLine c (b.setPair { b.pair with partnerLow := low })
  if b.on F.PAIR_STAT_TOKEN_LINE then
    if b.role = roleStart && b.pair.joinSeek && !b.linkUp then enterLost (setRole c roleStandby 0 b)
    else if b.role = roleStandby && b.pair.hb = 2 && low then tokenHeld b
    else b
  else if b.pair.wantToken && b.pair.agreed && b.linkUp then driveToken c b
  else b

/-- JOIN_WAIT ms after first light without the pair link (R280 cases 3 and 4). -/
def joinWait (c : Clk) (b : Block) : Block :=
  match b.pair.lit with
  | none => b
  | some t =>
    if !b.pairMode || b.role ≠ roleStart || b.linkUp || b.pair.joinSeek ||
        c.steady < t + b.get F.PAIR_TIME_JOIN_WAIT * msTick then b
    else if b.on F.PAIR_STAT_TOKEN_LINE then enterLost (setRole c roleStandby 0 b)
    else tokenAcquire c (b.setPair { b.pair with joinSeek := true })

/-- First light in the PAIR block (R278, R485). -/
def pairFirstLight (c : Clk) (b : Block) : Block :=
  let b := b.setPair { b.pair with lit := some c.steady }
  if !b.pairMode then driveToken c (setRole c roleAlone 0 b) else muteAll b

/-- A unit in START whose partner reports (R280 cases 1 and 2). -/
def leaveStart (c : Clk) (peerRole : Nat) (b : Block) : Block :=
  if b.role ≠ roleStart || !b.linkUp then b
  else if peerRole = roleActive then startRejoin (setRole c roleStandby 0 b)
  else if peerRole = roleStart then
    if b.preferred then takeWaited c (setRole c roleActive 0 b) else startRejoin (setRole c roleStandby 0 b)
  else b

/-- The pair link has come up (R280, R309, R310): the cases without it end, and a standby at LINK_LOST starts the rejoin. -/
def pairLinkUp (b : Block) : Block :=
  let b := b.flag F.PAIR_STAT_PEER_VALID false
  let b := b.setPair { b.pair with prefSeen := false, peerStage := 0, joinSeek := false }
  if b.role = roleStandby && b.joinStage = stageLost then startRejoin b else b

/-- The pair link has gone down: a copy under way starts again (R313, code 0x050B), frames go on without the partner (R291),
and a standby that has lost the heartbeat while the line is low is at LINK_LOST (R309). -/
def pairLinkDown (c : Clk) (b : Block) : Block :=
  let b := if b.pair.copying || b.joinStage = stageCopy then
      (b.setPair { b.pair with copying := false }).record 0x050B 3 2 else b
  let b := releaseAgreement c b
  if b.role = roleStandby && b.pair.hb ≠ 0 && b.on F.PAIR_STAT_TOKEN_LINE && b.joinStage ≠ stageLost then enterLost b else b

/-- Aligned lanes of the pair link change in PAIR mode (R278, R283, code 0x0506). -/
def pairLink (c : Clk) (lanes : Nat) (b : Block) : Block :=
  if !b.pairMode then b
  else
    let up : Bool := decide (2 ≤ lanes)
    let was := b.linkUp
    let b := b.put F.PAIR_STAT_LANES lanes
    if up = was then b
    else
      let b := (b.flag F.PAIR_STAT_LINK up).evt F.PAIR_EVT_LINK
      let b := b.record 0x0506 4 (b2n up) lanes b.role b.refF
      if up then pairLinkUp b else pairLinkDown c b

/-- The Warden watchdog (R308). -/
def wardenKick (c : Clk) (b : Block) : Block :=
  if b.role = roleActive then b.setPair { b.pair with kick := c.steady } else b

def wardenExpiry (c : Clk) (b : Block) : Block :=
  if b.role ≠ roleActive || c.steady < b.pair.kick + b.get F.PAIR_WDOG_MS * msTick then b
  else
    let b := setRole c roleStandby 2 b
    if b.linkUp then startRejoin b else enterLost b

/-! ## Switch-over (R302-R304) -/

/-- A role change takes effect at the reference head's ACT 0 (R281, R304). -/
def roleDue (c : Clk) (b : Block) : Block :=
  match b.pair.due with
  | none => b
  | some (n, active, cause) =>
    if b.pair.count < n then b
    else
      let b := b.setPair { b.pair with due := none }
      if cause = 4 then
        if b.role = roleActive then startRejoin (setRole c roleStandby 3 b) else b
      else if active then
        if b.role ≠ roleStandby then b
        else
          let b := setRole c roleActive 1 (noteSwitch cause b)
          if b.linkUp then takeAgreed c b else takeWaited c b
      else if b.role ≠ roleActive then b
      else setRole c roleStandby 1 (noteSwitch cause b)

/-- ACT 0 of the reference head, or the tick that stands for it (R284, R304). -/
def refAct0 (c : Clk) (b : Block) : Block :=
  let b := b.setPair { b.pair with count := b.pair.count + 1, hb := if b.pair.hb = 1 then 2 else b.pair.hb }
  standbyTakes c (roleDue c b)

/-- PAIR_SWITCH.CMD is refused (R304, code 0x050E). -/
def switchRefused (cmd : Nat) (b : Block) : Block :=
  (b.evt F.PAIR_EVT_WIGN).record 0x050E 3 cmd b.role (b.get F.PAIR_STAT_LINK) (b.get F.PAIR_STAT_TOKEN_LINE)

/-- The frame index of the reference head's frame `k` frames on. -/
def refTarget (b : Block) (k : Nat) : BitVec 48 := BitVec.ofNat 48 (b.refF + k)

/-- A take may proceed (R304). -/
def takeOk (b : Block) : Bool := b.role = roleStandby && (b.linkUp || !b.on F.PAIR_STAT_TOKEN_LINE)

/-- PAIR_SWITCH.CMD 1: take the active role (R304). -/
def switchTake (b : Block) : Block :=
  if !b.pairMode || !takeOk b then switchRefused 1 b
  else
    let b := b.setPair { b.pair with due := some (b.pair.count + 2, true, 2) }
    if b.linkUp then b.tell (.switchTo true (refTarget b 2)) else b

/-- PAIR_SWITCH.CMD 2: yield it (R304). -/
def switchYield (b : Block) : Block :=
  if !b.pairMode || b.role ≠ roleActive || !b.linkUp then switchRefused 2 b
  else
    (b.setPair { b.pair with due := some (b.pair.count + 2, false, 3) }).tell (.switchTo false (refTarget b 2))

/-- PAIR_SWITCH.CMD: 0 and 3 have no effect. -/
def switchCmd (cmd : Nat) (b : Block) : Block :=
  if cmd = 1 then switchTake b else if cmd = 2 then switchYield b else b

/-- A SWITCH message (R304): `active`: the partner takes the role; otherwise it yields it. The message does not say what made
the partner take it: DEDUCED, the score where it names the next frame and this unit's own reports of the last frame call for
it too, a Warden otherwise (log 83). -/
def pairSwitch (active : Bool) (frame : Nat) (b : Block) : Block :=
  if !b.paired then b
  else
    let k := max 1 (frame - b.refF)
    let cause := if active then (if k = 1 && 0 < b.pair.low then 1 else 2) else 3
    b.setPair { b.pair with due := some (b.pair.count + k, !active, cause) }

/-! ## Health (R300-R302) -/

/-- Events of a kind in the last second. -/
def recentOf (c : Clk) (b : Block) (kind : Nat) : Nat :=
  ((b.recent.filter fun e => e.1 = kind && c.steady < e.2.2 + sTick).map (·.2.1)).sum

/-- A head is stopped by readback. -/
def anyStopped (b : Block) : Bool := (List.range 64).any fun h => b.on F.FET_HEAD_STAT_STOPPED h

/-- An output path's link is down (R252). -/
def pathDownNow (b : Block) : Bool :=
  (List.range 64).any fun h => b.get F.FET_PKT_STAT_STATE h ≠ 0 &&
    (List.range 2).any fun p => b.usesPath h p && !macUp b (b.get F.FET_PKT_P_MAC_SEL h p)

/-- The health score (R301, table Health score deductions). -/
def healthScore (c : Clk) (b : Block) : Nat :=
  let d (x : Bool) (n : Nat) : Nat := if x then n else 0
  255 - (d (b.on F.PAIR_ST_FAILED) 255 + d (b.on F.PAIR_STAT_DIVERGENT) 128 + d (0 < recentOf c b 1) 64 + d (!b.locked) 32 +
    d (0 < recentOf c b 0) 32 + d (anyStopped b) 32 + d (b.on F.PAIR_STAT_UNRES) 16 +
    d (b.get F.PAIR_ST_SCRUB_LIM < recentOf c b 2) 16 + d (pathDownNow b) 16)

/-- The health report (table Health report). -/
def healthReport (c : Clk) (b : Block) : List Byte :=
  let byte (n : Nat) : Byte := BitVec.ofNat 8 n
  let flags := b2n (b.on F.PAIR_STAT_DIVERGENT) + 2 * b2n (b.on F.PAIR_STAT_UNRES) + 4 * b2n (b.on F.PAIR_ST_FAILED) +
    8 * b2n b.locked + 16 * b2n (b.on F.PAIR_STAT_TOKEN_DRV) + 32 * b2n (b.on F.PAIR_STAT_HEAT_VALID) +
    64 * b2n (anyStopped b) + 128 * b2n (b.on F.PAIR_CFG_PREF)
  let ref := b.refHead
  let count (p : Nat → Bool) (n : Nat) : Nat := ((List.range n).filter p).length
  let l := [1, byte (b.role + 4 * b.joinStage + 32 * b2n (b.on F.SYS_STRAP_UNIT) + 64 * b.get F.SYS_STRAP_POS),
      byte (b.get F.PAIR_SCORE_OWN), byte flags] ++
    beBytes 4 (b.get F.PAIR_HEAT_HEAT) ++ beBytes 4 (b.refF % 2 ^ 32) ++
    beBytes 4 ((if b.refRuns then b.aidxOf ref else 0) % 2 ^ 32) ++ beBytes 4 (c.sec % 2 ^ 32) ++ beBytes 4 c.ns ++
    beBytes 2 (count b.fetRuns 64) ++ beBytes 2 (count (fun h => b.get F.FET_PKT_STAT_STATE h = 2) 64) ++
    beBytes 2 (count (fun s => b.on F.LAD_SRC_STAT_ACQ s) 384) ++ beBytes 2 (min 65535 (recentOf c b 3)) ++
    beBytes 4 (b.uncorrectable % 2 ^ 32) ++ beBytes 4 (recentOf c b 2) ++ beBytes 2 (min 65535 (recentOf c b 0)) ++
    beBytes 2 (min 65535 b.pair.journal.length) ++ beBytes 4 (b.get F.WDN_SC_STAT_PASSED) ++
    beBytes 4 (b.pair.lastJournal % 2 ^ 32) ++ beBytes 3 (b.get F.LOG_PCYC_PCYC) ++ [byte (b.get F.SYS_ID_STEP)] ++
    beBytes 4 (b.get F.LOG_DROP_COUNT)
  l ++ beBytes 4 (crc32c l).toNat

/-- Keep a report in its 16 registers. -/
def keepReport (f : Fld) (l : List Byte) (b : Block) : Block :=
  (List.range 16).foldl (fun b k => b.put f (ofBe ((l.drop (4 * k)).take 4)) k) b

/-- The heartbeat is lost (R302, R303, code 0x0502). -/
def heartbeatLost (b : Block) : Block :=
  let b := (b.evt F.PAIR_EVT_HB).record 0x0502 5 (b.get F.PAIR_STAT_MISS) (b.get F.PAIR_STAT_PEER_ROLE)
    (b.get F.PAIR_SCORE_PEER) b.refF
  let b := b.setPair { b.pair with hb := 1 }
  if b.role = roleStandby && b.pair.partnerLow then tokenHeld b else b

/-- Missed reports at a VFP 0 (R302). -/
def countMissed (b : Block) : Block :=
  if b.pair.got then b.setPair { b.pair with got := false }
  else
    let old := b.get F.PAIR_STAT_MISS
    let b := b.put F.PAIR_STAT_MISS (min 15 (old + 1))
    if old < b.get F.PAIR_TIME_HB_N && b.get F.PAIR_TIME_HB_N ≤ min 15 (old + 1) then heartbeatLost b else b

/-- A frame in which both units' reports call for a switch-over by score (R303): the active unit's score, and the standby's. -/
def scoreLow (b : Block) (active standby : Nat) : Bool :=
  active < b.get F.PAIR_SCORE_THRESH && active + b.get F.PAIR_SCORE_HYST ≤ standby

/-- The score decides a switch-over on the standby after SCORE_N consecutive frames; `fresh` says that the partner's report of
the frame has come (R303, R304). -/
def scoreDecide (fresh : Bool) (b : Block) : Block :=
  let own := b.get F.PAIR_SCORE_OWN
  let peer := b.get F.PAIR_SCORE_PEER
  let peerRole := b.get F.PAIR_STAT_PEER_ROLE
  let hit := fresh && b.on F.PAIR_CFG_AUTO && b.linkUp && b.on F.PAIR_STAT_PEER_VALID &&
    ((b.role = roleStandby && peerRole = roleActive && scoreLow b peer own) ||
      (b.role = roleActive && peerRole = roleStandby && scoreLow b own peer))
  let n := if hit then b.pair.low + 1 else 0
  let b := b.setPair { b.pair with low := n }
  if hit && b.role = roleStandby && n = b.get F.PAIR_TIME_SCORE_N && b.pair.due.isNone then
    (b.setPair { b.pair with due := some (b.pair.count + 1, true, 1) }).tell (.switchTo true (refTarget b 1))
  else b

/-- VFP 0 of the reference head (R300-R303). -/
def refVfp0 (c : Clk) (b : Block) : Block :=
  let fresh := b.pair.got
  let b := countMissed b
  let unres := match b.pair.unres with | some t => c.steady < t + 10 * sTick | none => false
  let b := b.flag F.PAIR_STAT_UNRES unres
  let b := b.put F.PAIR_SCORE_OWN (healthScore c b)
  let l := healthReport c b
  let b := keepReport F.PAIR_HR_OWN_HR l b
  let b := if b.paired then b.tell (.health l) else b
  scoreDecide fresh b

/-- HEALTH_REPORT_SEND at VFP 0 of the running reference head, once a frame. -/
def healthSend (c : Clk) (b : Block) : Block :=
  let h := b.refHead
  let n := b.frameOf h + 1
  if !b.pairMode || !b.refRuns || b.pair.vfp = n || !lineReached (b.fmt h) (b.ras h) c.steady (b.fmt h).act then b
  else refVfp0 c (b.setPair { b.pair with vfp := n })

/-- The base of the peripheral windows in the address map (R31). -/
def periphBase : Nat := 0x40000000

/-! ## Copies to a rejoining partner (R311, R313) -/

/-- The registers that hold a mirrored field (R292): moulds, windows and sources, class F. -/
def mirroredWindow (w : Nat) : Bool := w = 24 || w = 36 || (32 ≤ w && w ≤ 35)

/-- The mirrored bits of the register at an address. -/
def mirroredMask (a : Nat) : Nat :=
  if mirroredWindow (a / 0x10000) then match regAt a with | some (r, _) => r.f | none => 0 else 0

/-- The instances of a register. -/
def instances : List (Nat × Nat) → List Nat
  | [] => [0]
  | (n, st) :: t => (List.range n).flatMap fun i => (instances t).map fun o => i * st + o

/-- The addresses of the mirrored registers. -/
def mirroredAddrs : List Nat :=
  ([24, 32, 36].flatMap Rg.rowsOf).flatMap fun r => if r.f = 0 then [] else (instances r.dims).map fun o => r.addr + o

/-- Send the partner a COPY of every mirrored field in effect, then COPY_END. -/
def sendCopy (b : Block) : Block :=
  let b := b.setPair { b.pair with copying := true, copied := 0 }
  let b := b.tell (.copy (mirroredAddrs.map fun a => (periphBase + a, b.reg a)))
  b.tell (.copyEnd (BitVec.ofNat 48 b.refF))

/-- The partner's join stage moves (R311): at HEAT it is sent the heat, at COPY the copy. -/
def peerStage (st : Nat) (b : Block) : Block :=
  let old := b.pair.peerStage
  let b := b.setPair { b.pair with peerStage := st }
  if b.role ≠ roleActive || st = old then b
  else if st = stageHeat then sendHeat b
  else if st = stageCopy then sendCopy b
  else b.setPair { b.pair with copying := false }

/-- A HEALTH report arrives (R300, R302, codes 0x050A, 0x050D). -/
def pairHealth (c : Clk) (l : List Byte) (b : Block) : Block :=
  let at_ (i n : Nat) : Nat := ofBe ((l.drop i).take n)
  if !b.paired || l.length ≠ 64 || (crc32c (l.take 60)).toNat ≠ at_ 60 4 then b
  else
    let role := at_ 1 1 % 4
    let b := keepReport F.PAIR_HR_PEER_HR l b
    let b := ((b.put F.PAIR_STAT_PEER_ROLE role).flag F.PAIR_STAT_PEER_VALID true).put F.PAIR_STAT_MISS 0
    let b := b.put F.PAIR_SCORE_PEER (at_ 2 1)
    let b := b.setPair { b.pair with got := true, hb := 0 }
    let pref := bit (at_ 3 1) 7
    let b := if pref ≠ b.on F.PAIR_CFG_PREF && !b.pair.prefSeen then
        (b.setPair { b.pair with prefSeen := true }).record 0x050D 3 (b.get F.PAIR_CFG_PREF) (b2n pref) else b
    let b := leaveStart c role b
    let b := peerStage (at_ 1 1 / 4 % 8) b
    if b.role = roleActive && role = roleActive && !b.preferred && b.pair.due.isNone then
      let b := (b.evt F.PAIR_EVT_TOKEN).record 0x050A 4 1 b.role (b.get F.PAIR_STAT_TOKEN_LINE)
      b.setPair { b.pair with due := some (b.pair.count + 1, false, 4) }
    else b

/-! ## Rejoin (R311-R313) -/

/-- The servo of a rejoining unit reaches LOCKED. -/
def rejoinLock (b : Block) : Block := if b.joinStage = stageLock && b.locked then b.setStage stageHeat else b

/-- A HEAT message (R287, R313): adopted at the stage HEAT; a change later in the rejoin restarts it there, and the partner
sends the heat again when it sees that stage. -/
def pairHeat (num epoch : Nat) (corr : List (Nat × Int)) (b : Block) : Block :=
  let st := b.joinStage
  if !b.paired then b
  else if st = stageHeat then muteAll ((heatEffect num epoch corr true b).setStage stageCopy)
  else if (st = stageCopy || st = stageCast) && num ≠ b.get F.PAIR_HEAT_HEAT then
    (b.setPair { b.pair with journal := [] }).setStage stageHeat
  else b

/-- A COPY message loads mirrored fields (R311). -/
def pairCopy (images : List (Nat × Word)) (b : Block) : Block :=
  if b.joinStage ≠ stageCopy then b
  else images.foldl (fun b q =>
    let a := q.1 - periphBase
    b.setReg a (merge (b.reg a) (BitVec.ofNat 32 (mirroredMask a)) q.2)) b

/-- COPY_END (R311): later journal entries stay, and casting begins. -/
def pairCopyEnd (fc : Nat) (b : Block) : Block :=
  if b.joinStage ≠ stageCopy then b
  else
    let b := b.setPair { b.pair with journal := b.pair.journal.filter fun j => fc < j.target }
    let b := (List.range 64).foldl (fun b h =>
      (b.put F.PAIR_HEAD_STAT_CAST 0 h).setHp h { copyEnd := b.fidx h }) b
    b.setStage stageCast

/-- The sources that draw on a head: those of its enabled sourced moulds. -/
def headSources (b : Block) (h : Nat) : List Nat :=
  match b.slotOf h with
  | none => []
  | some (cru, k) => ((b.drawing cru k).filter (b.sourced cru)).map fun m => b.get F.CRU_M_SRC_SRC cru m

/-- Every source of a head is acquired, and its decoder has found an entry point (R311). -/
def headAcquired (b : Block) (h : Nat) : Bool :=
  (headSources b h).all fun s =>
    b.on F.LAD_SRC_STAT_ACQ s &&
      (1 < b.transport s || b.ctxState (b.get F.LAD_SRC_DEC_ENGINE s) (b.get F.LAD_SRC_DEC_CTX s) = ctxRun)

/-- Casting matches count on a STANDBY unit at the stage CAST, and after it, or after the unit has become ACTIVE, for heads
that are still muted (R299, R311). -/
def casts (b : Block) : Bool :=
  (b.role = roleStandby || b.role = roleActive) && (b.joinStage = stageCast || b.joinStage = stageNone)

/-- The divergence of a head ends; DIVERGENT clears with the last (R299). -/
def endDivergence (h : Nat) (b : Block) : Block :=
  let b := b.flag F.PAIR_HEAD_STAT_DIV false h
  if (List.range 64).any fun g => b.on F.PAIR_HEAD_STAT_DIV g then b else b.flag F.PAIR_STAT_DIVERGENT false

/-- The frame of a head before frame `f` matched in every band (R311). -/
def HeadPair.whole (x : HeadPair) (f bands : Nat) : Bool :=
  let p := (f + 2 ^ 48 - 1) % 2 ^ 48
  !x.bad.contains p && x.good.lookup p == some bands

/-- A head's frame start in the casting match and the divergence's end (R299, R311). -/
def castStep (h : Nat) (b : Block) : Block :=
  let x := b.hp h
  let f := b.fidx h
  let whole := x.whole f (b.fmt h).bands
  let acq := headAcquired b h
  let b := b.flag F.PAIR_HEAD_STAT_ACQ acq h
  let n := b.get F.PAIR_HEAD_STAT_CAST h
  let casting := b.pair.held.contains h && casts b
  let b := b.put F.PAIR_HEAD_STAT_CAST (if casting && acq && whole then min 8 (n + 1) else 0) h
  let clean := if whole then x.clean + 1 else 0
  let b := b.setHp h { x with good := x.good.filter (f ≤ ·.1), bad := x.bad.filter (f ≤ ·), clean := clean }
  if b.on F.PAIR_HEAD_STAT_DIV h && !b.pair.divMuted.contains h && 600 ≤ clean then endDivergence h b else b

/-- The rejoin is complete once every head whose stream is held has been unmuted (R311); heads that the Fettler does not
process do not count (log 83). -/
def castDone (b : Block) : Block :=
  if b.role = roleStandby && b.joinStage = stageCast && !b.pair.held.any b.fetRuns then
    (b.setStage stageNone).inc F.PAIR_CNT_JOINS
  else b

/-- In a frame of the reference head one stream at most is unmuted: that of the lowest head with its casting match (R299,
R312, code 0x0508). -/
def unmuteOne (b : Block) : Block :=
  if !casts b then b
  else match b.pair.held.find? fun h => b.get F.PAIR_HEAD_STAT_CAST h = 8 with
    | none => castDone b
    | some h =>
      let div := b.pair.divMuted.contains h
      let b := b.setPair { b.pair with held := b.pair.held.filter (· ≠ h), divMuted := b.pair.divMuted.filter (· ≠ h) }
      let b := ((mutePair h false b).evt F.PAIR_EVT_CAST).record 0x0508 2 h (b.fidx h) (b.fidx h - (b.hp h).copyEnd)
      castDone (if div then endDivergence h b else b)

/-- A tick every 16.667 ms while the reference head is not running stands for its VFP 0 and its ACT 0 (R284). -/
def referenceTick (c : Clk) (b : Block) : Block :=
  if !b.pairMode || b.refRuns || c.steady < b.pair.tick + 16667 * usTick then b
  else unmuteOne (refAct0 c (refVfp0 c (b.setPair { b.pair with tick := c.steady })))

/-! ## Mirrored writes (R292-R294) -/

/-- The commit group of a mirrored field: 16 × Crucible + group, and the group's lead head. -/
def mirroredGroup (b : Block) (a : Nat) : Nat × Nat :=
  let w := a / 0x10000
  let (cru, g) :=
    if w = 36 then
      let i := (a - F.FET_RSW_CFG_EN.at 0) / 0x20
      (b.get F.FET_RSW_CFG_CRU i, b.get F.FET_RSW_CFG_GRP i)
    else if w = 24 then
      let s := (srcOfField a).getD 0
      (b.get F.LAD_SRC_CTL_ANCHOR_CRU s, b.get F.LAD_SRC_CTL_ANCHOR_GRP s)
    else (w - 32, ((List.range 16).find? fun g => isGroupField b (w - 32) g a).getD 0)
  (16 * cru + g, b.slotHead cru (b.get F.CRU_GRP_CFG_LEAD cru g))

/-- A write by a cluster is mirrored (R292), or ignored on the standby (R294). -/
def mirrored (b : Block) (cls a : Nat) : Bool :=
  b.pairMode && b.on F.XSP_STAT_SEALED && 1 ≤ cls && cls ≤ 4 && mirroredMask a ≠ 0 &&
    (b.role = roleActive || b.role = roleStandby)

/-- A mirrored write is held and sent (R292, R313, code 0x050B). -/
def mirrorTake (a : Nat) (v : Word) (b : Block) : Block :=
  if b.role = roleStandby then b.evt F.PAIR_EVT_WIGN
  else
    let (g, h) := mirroredGroup b a
    let t := (b.fidx h + b.get F.PAIR_TIME_AHEAD) % 2 ^ 48
    let e : JournalEntry := { addr := a, mask := BitVec.ofNat 32 (mirroredMask a), v := v, group := g, head := h, target := t }
    let b := b.setPair { b.pair with journal := b.pair.journal ++ [e] }
    if !b.linkUp then b
    else
      let b := b.tell (.journal (periphBase + a) v g (BitVec.ofNat 48 t))
      if !b.pair.copying then b
      else if b.pair.copied < 4096 then b.setPair { b.pair with copied := b.pair.copied + 1 }
      else sendCopy (b.record 0x050B 3 1 (periphBase + a) t)

/-- An entry's write waits for the commit of its group. -/
def journalWrite (b : Block) (e : JournalEntry) : Block :=
  groupTouched e.addr
    { b with pendF := b.pendF ++ [{ addr := e.addr, mask := e.mask, val := e.v }]
             pair := { b.pair with lastJournal := e.target } }

/-- ACT 0 of frame F_t − 1 of a lead head (R292): its entries are written, in their order. -/
def journalApply (h : Nat) (b : Block) : Block :=
  if b.joinStage = stageCopy then b
  else
    let due (e : JournalEntry) : Bool := e.head = h && e.target ≤ b.fidx h + 1
    let l := b.pair.journal.filter due
    l.foldl journalWrite (b.setPair { b.pair with journal := b.pair.journal.filter fun e => !due e })

/-- A JOURNAL message (R293, code 0x050B). -/
def pairJournal (a : Nat) (v : Word) (g target : Nat) (b : Block) : Block :=
  if !b.paired || mirroredMask a = 0 then b
  else
    let h := b.slotHead (g / 16) (b.get F.CRU_GRP_CFG_LEAD (g / 16) (g % 16))
    let e : JournalEntry :=
      { addr := a, mask := BitVec.ofNat 32 (mirroredMask a), v := v, group := g, head := h, target := target }
    if b.joinStage ≠ stageCopy && b.headRuns h && target ≤ b.fidx h + 1 then
      journalWrite (b.record 0x050B 3 0 (periphBase + a) target) e
    else b.setPair { b.pair with journal := b.pair.journal ++ [e] }

/-! ## Seals, divergence, votes (R295-R299) -/

/-- Which side diverged is decided (R297, R299, code 0x0505): 0 own side, 1 partner, 2 both, 3 unresolved. -/
def voteOutcome (c : Clk) (q : VoteWait) (outcome method : Nat) (b : Block) : Block :=
  let b := b.record 0x0505 4 q.head outcome method q.frame
  if outcome = 3 then
    let b := (b.inc F.PAIR_CNT_UNRES).flag F.PAIR_STAT_UNRES true
    b.setPair { b.pair with unres := some c.steady }
  else if outcome = 1 then b
  else
    let b := (b.flag F.PAIR_STAT_DIVERGENT true).flag F.PAIR_HEAD_STAT_DIV true q.head
    let b := b.setHp q.head { b.hp q.head with clean := 0 }
    if b.on F.PAIR_CFG_DIV_MUTE && b.role = roleStandby then
      let add (l : List Nat) : List Nat := if l.contains q.head then l else insertLt (· < ·) q.head l
      (mutePair q.head true b).setPair { b.pair with divMuted := add b.pair.divMuted, held := add b.pair.held }
    else b

/-- The voter's seal decides a divergence (R297). -/
def voteBy (c : Clk) (q : VoteWait) (sl : Word) (b : Block) : Block :=
  let own := q.own ≠ sl
  let peer := q.peer ≠ sl
  voteOutcome c q (if own && peer then 2 else if own then 0 else 1) 0 b

/-- The Warden's self-check decides a divergence (R297); it starts if none is under way. -/
def voteBySelf (c : Clk) (q : VoteWait) (b : Block) : Block :=
  let b := b.setPair { b.pair with selfVotes := b.pair.selfVotes ++ [q] }
  { b with selfCheck := some (b.selfCheck.getD c.steady) }

/-- The self-check has ended: the divergences that wait for it are decided by its result and the partner's. -/
def voteSelfDone (c : Clk) (ok : Bool) (b : Block) : Block :=
  let l := b.pair.selfVotes
  let peerBad := bit (b.get F.PAIR_HR_PEER_HR 0) 2
  let outcome := if !ok && peerBad then 2 else if !ok then 0 else if peerBad then 1 else 3
  l.foldl (fun b q => voteOutcome c q outcome 1 b) (b.setPair { b.pair with selfVotes := [] })

/-- A divergence is declared (R296, code 0x0504), and its vote starts. -/
def declareDivergence (c : Clk) (q : VoteWait) (b : Block) : Block :=
  let b := (b.inc F.PAIR_CNT_DIV).evt F.PAIR_EVT_DIV
  let b := b.recordLim c (0x05040000 + q.head) sTick 0x0504 4 q.head q.band q.frame q.own.toNat
  if !b.on F.PAIR_HEAD_VOTE_EN q.head then voteBySelf c q b
  else match b.pair.voters.find? fun v => v.1 = q.head && v.2.1 = q.frame && v.2.2.1 = q.band with
    | some v => voteBy c q v.2.2.2 b
    | none => b.setPair { b.pair with votes := b.pair.votes ++ [q] }

/-- The two seals of a band are compared (R295, R296). -/
def compareSeals (c : Clk) (h frame band : Nat) (own peer : Word) (b : Block) : Block :=
  let x := b.hp h
  if own = peer then
    (b.setHp h { x with good := tput 0 x.good frame (tget 0 x.good frame + 1) }).put F.PAIR_HEAD_STAT_RUN 0 h
  else
    let b := (b.setHp h { x with bad := frame :: x.bad }).noteEvent c 3 1
    if b.role = roleStandby && b.pair.held.contains h then b
    else
      let n := b.get F.PAIR_HEAD_STAT_RUN h
      let b := b.inc F.PAIR_HEAD_STAT_RUN h
      let d := b.get F.PAIR_TIME_DIV_N
      if n < d && d ≤ n + 1 then
        declareDivergence c { head := h, frame := frame, band := band, own := own, peer := peer, since := c.steady } b
      else b

/-- A seal of one side: compared with the other's, or kept for it. -/
def sealSide (c : Clk) (h frame band : Nat) (ours : Bool) (v : Word) (b : Block) : Block :=
  let same (q : SealWait) : Bool := q.head = h && q.frame = frame && q.band = band
  let rest := b.pair.seals.filter fun q => !same q
  match b.pair.seals.find? same with
  | some q =>
    match (if ours then q.peer else q.own) with
    | some o => compareSeals c h frame band (if ours then v else o) (if ours then o else v) (b.setPair { b.pair with seals := rest })
    | none => b
  | none =>
    b.setPair { b.pair with seals := rest ++ [{
      head := h, frame := frame, band := band, own := if ours then some v else none, peer := if ours then none else some v,
      since := c.steady }] }

/-- A seal of this unit (R221, R283, R298): sent to the partner and compared, and sent as a vote from a shadow head. -/
def sealFormed (c : Clk) (h band : Nat) (v : Word) (b : Block) : Block :=
  let frame := b.fidx h
  let b := if b.on F.PAIR_HEAD_VOTE_SHADOW h then
      ringSend 11 (2 ^ b.get F.PAIR_HEAD_VOTE_TPOS h) (.vote (Fin.ofNat 4 (b.get F.SYS_STRAP_POS))
        (Fin.ofNat 64 (b.get F.PAIR_HEAD_VOTE_THEAD h)) (BitVec.ofNat 48 frame) (Fin.ofNat 135 band) v) b
    else b
  if !b.paired then b
  else
    sealSide c h frame band true v
      (b.tell (.bandSeal (Fin.ofNat 64 h) (BitVec.ofNat 48 frame) (Fin.ofNat 135 band) v))

/-- A SEAL message (R295). -/
def pairSeal (c : Clk) (h frame band : Nat) (v : Word) (b : Block) : Block :=
  if b.paired then sealSide c h frame band false v b else b

/-- Seals of a head that are without their partner after 2 frames (R295). -/
def sealUnpaired (c : Clk) (h : Nat) (b : Block) : Block :=
  let f := b.fmt h
  let old (q : SealWait) : Bool := q.head = h && q.since + 2 * f.den * sTick / max 1 f.num ≤ c.steady
  let n := (b.pair.seals.filter old).length
  (b.setPair { b.pair with seals := b.pair.seals.filter fun q => !old q }).inc F.PAIR_HEAD_STAT_UNPAIRED h 0 0 n

/-- A voter's seal for head `h` (R298). -/
def voterSeal (c : Clk) (h frame band : Nat) (v : Word) (b : Block) : Block :=
  match b.pair.votes.find? fun q => q.head = h && q.frame = frame && q.band = band with
  | some q => voteBy c q v (b.setPair { b.pair with votes := b.pair.votes.filter (· ≠ q) })
  | none =>
    let keep := b.pair.voters.filter fun x => x.1 ≠ h || frame ≤ x.2.1 + 3
    b.setPair { b.pair with voters := keep ++ [(h, frame, band, v)] }

/-- The voter of a head sits at `pos` on this unit's board (0) or the partner's (1). -/
def votesFor (b : Block) (h pos board : Nat) : Bool :=
  b.on F.PAIR_HEAD_VOTE_EN h && b.get F.PAIR_HEAD_VOTE_BOARD h = board && b.get F.PAIR_HEAD_VOTE_POS h = pos

/-- A VOTE frame of the peer ring (R298): used, and forwarded to the partner. -/
def voteFrame (c : Clk) (pos : Fin 4) (h : Head) (frame : BitVec 48) (band : Fin 135) (v : Word) (b : Block) : Block :=
  let b := if b.paired then b.tell (.vote pos h frame band v) else b
  if votesFor b h.val pos.val 0 then voterSeal c h.val frame.toNat band.val v b else b

/-- A VOTE message of the partner (R298). -/
def pairVote (c : Clk) (pos h frame band : Nat) (v : Word) (b : Block) : Block :=
  if b.paired && votesFor b h pos 1 then voterSeal c h frame band v b else b

/-- The voter's seal is absent 2 frames after the band (R297). -/
def voteTimeout (c : Clk) (h : Nat) (b : Block) : Block :=
  let f := b.fmt h
  let old (q : VoteWait) : Bool := q.head = h && q.since + 2 * f.den * sTick / max 1 f.num ≤ c.steady
  (b.pair.votes.filter old).foldl (fun b q => voteBySelf c q b)
    (b.setPair { b.pair with votes := b.pair.votes.filter fun q => !old q })

/-! ## Identical inputs (R288-R291) -/

/-- The partner's LOSS message (R289); one that comes before the frame completes here is kept. -/
def lossMessage (c : Clk) (m : Mem) (s : Nat) (rtpts : Word) (lost : List Nat) (tooMany : Bool) (b : Block) : Block :=
  if !b.paired || b.srcStreams s then b
  else if (b.src s).frames.any fun f => f.rtpts = rtpts && f.awaits then
    peerFinal c s (pairLoss m s rtpts lost tooMany b)
  else { b with peerLosses := (b.peerLosses.filter fun q => !(q.1 = s && q.2.1 = rtpts)) ++ [(s, rtpts, lost, tooMany)] }

/-- The partner's READY message (R290). -/
def readyMessage (s : Nat) (rtpts : Word) (ptp : Nat) (b : Block) : Block :=
  if !b.paired || b.srcStreams s then b
  else
    let p := b.poolOf s
    match (List.range 16).find? fun i =>
        let x := b.buf (bufKey p i)
        x.state = .ready && x.src = s && x.rtpts = rtpts.toNat && x.awaits with
    | some i => b.setBuf (bufKey p i) { b.buf (bufKey p i) with awaits := false, peerPtp := some ptp }
    | none => { b with peerReadys := (b.peerReadys.filter fun q => !(q.1 = s && q.2.1 = rtpts)) ++ [(s, rtpts, ptp)] }

/-- WAIT_MS without the partner's message: the unit goes on alone (R291, code 0x0509). -/
def agreeExpiry (c : Clk) (s : Nat) (b : Block) : Block :=
  let w := b.get F.PAIR_AGREE_WAIT_MS
  let alone (rtpts kind : Nat) (b : Block) : Block :=
    (b.evt F.PAIR_EVT_AGREE).recordLim c (0x05090000 + s) sTick 0x0509 3 s rtpts kind w
  let x := b.src s
  let due (f : OpenFrame) : Bool := f.awaits && match f.complete with | some t => t + w * msTick ≤ c.steady | none => false
  let b := b.setSrc s { x with frames := x.frames.map fun f => if due f then { f with awaits := false } else f }
  let b := peerFinal c s ((x.frames.filter due).foldl (fun b f => alone f.rtpts.toNat 0 b) b)
  (List.range 16).foldl (fun b i =>
    let k := bufKey (b.poolOf s) i
    let y := b.buf k
    if y.state = .ready && y.src = s && y.awaits && y.readyAt + w * msTick ≤ c.steady then
      alone y.rtpts 1 (b.setBuf k { y with awaits := false, peerPtp := some y.readyPtp })
    else b) b

/-! ## The pair at a head's frame start -/

/-- ACT 0 of a head in the PAIR block (R281, R292, R304, R311, R312). -/
def pairFrameStart (c : Clk) (h : Nat) (b : Block) : Block :=
  if !b.pairMode then b
  else
    let b := castStep h (journalApply h b)
    if h = b.refHead then unmuteOne (refAct0 c b) else b

/-! ## Commands -/

/-- VIDEO_PACKET_SEND (R236, R221). -/
def execVideoPacketSend (dt : Nat) (h : Head) (s : State) : Host.Outcome State Fault Refusal :=
  s.run dt fun c _ b =>
    let (seals, b) := videoPacket c h.val b
    seals.foldl (fun b q => sealFormed c h.val q.1 q.2 b) b

/-- JOIN_WAIT_EXPIRY (R280). -/
def execJoinWaitExpiry (dt : Nat) (s : State) : Host.Outcome State Fault Refusal := s.run dt fun c _ b => joinWait c b

/-- TOKEN_ACQUIRE (R307). -/
def execTokenAcquire (dt : Nat) (s : State) : Host.Outcome State Fault Refusal := s.run dt fun c _ b => tokenAcquire c b

/-- TOKEN_LINE_CHANGE (R280, R306, R307). -/
def execTokenLineChange (dt : Nat) (low : Bool) (s : State) : Host.Outcome State Fault Refusal :=
  s.run dt fun c _ b => tokenLineChange c low b

/-- REFERENCE_TICK (R284). -/
def execReferenceTick (dt : Nat) (s : State) : Host.Outcome State Fault Refusal := s.run dt fun c _ b => referenceTick c b

/-- HEALTH_REPORT_SEND (R300). -/
def execHealthReportSend (dt : Nat) (s : State) : Host.Outcome State Fault Refusal := s.run dt fun c _ b => healthSend c b

/-- PAIR_HEALTH (R300). -/
def execPairHealth (dt : Nat) (report : List Byte) (s : State) : Host.Outcome State Fault Refusal :=
  s.run dt fun c _ b => pairHealth c report b

/-- PAIR_SWITCH (R304). -/
def execPairSwitch (dt : Nat) (active : Bool) (frame : BitVec 48) (s : State) : Host.Outcome State Fault Refusal :=
  s.run dt fun _ _ b => pairSwitch active frame.toNat b

/-- PAIR_HEAT (R287). -/
def execPairHeat (dt : Nat) (num : Word) (epoch : BitVec 48) (corrections : List (Head × Int)) (s : State) :
    Host.Outcome State Fault Refusal :=
  s.run dt fun _ _ b => pairHeat num.toNat epoch.toNat (corrections.map fun q => (q.1.val, q.2)) b

/-- PAIR_SEAL (R295). -/
def execPairSeal (dt : Nat) (h : Head) (frame : BitVec 48) (band : Fin 135) (check : Word) (s : State) :
    Host.Outcome State Fault Refusal :=
  s.run dt fun c _ b => pairSeal c h.val frame.toNat band.val check b

/-- SEAL_UNPAIRED (R295). -/
def execSealUnpaired (dt : Nat) (h : Head) (s : State) : Host.Outcome State Fault Refusal :=
  s.run dt fun c _ b => sealUnpaired c h.val b

/-- VOTE_FRAME (R298). -/
def execVoteFrame (dt : Nat) (pos : Fin 4) (h : Head) (frame : BitVec 48) (band : Fin 135) (check : Word) (s : State) :
    Host.Outcome State Fault Refusal :=
  s.run dt fun c _ b => voteFrame c pos h frame band check b

/-- PAIR_VOTE (R298). -/
def execPairVote (dt : Nat) (pos : Fin 4) (h : Head) (frame : BitVec 48) (band : Fin 135) (check : Word) (s : State) :
    Host.Outcome State Fault Refusal :=
  s.run dt fun c _ b => pairVote c pos.val h.val frame.toNat band.val check b

/-- VOTE_TIMEOUT (R297). -/
def execVoteTimeout (dt : Nat) (h : Head) (s : State) : Host.Outcome State Fault Refusal :=
  s.run dt fun c _ b => voteTimeout c h.val b

/-- PAIR_READY (R290). -/
def execPairReady (dt : Nat) (src : Src) (rtpts : Word) (ptp : Nat) (s : State) : Host.Outcome State Fault Refusal :=
  s.run dt fun _ _ b => readyMessage src.val rtpts ptp b

/-- PAIR_JOURNAL (R293). -/
def execPairJournal (dt : Nat) (addr : BitVec 40) (v : Word) (group : Fin 64) (frame : BitVec 48) (s : State) :
    Host.Outcome State Fault Refusal :=
  s.run dt fun _ _ b => pairJournal (addr.toNat - periphBase) v group.val frame.toNat b

/-- PAIR_DIM (R204). -/
def execPairDim (dt : Nat) (h : Head) (req : Fin 4) (frame : BitVec 48) (s : State) : Host.Outcome State Fault Refusal :=
  s.run dt fun _ _ b => if b.paired then dimForwarded h.val req.val frame.toNat b else b

/-- PAIR_REPAIR_REQUEST (R288). -/
def execPairRepairRequest (dt : Nat) (src : Src) (seq : BitVec 32) (s : State) : Host.Outcome State Fault Refusal :=
  s.run dt fun c _ b => if b.paired then repairRequest c src.val seq b else b

/-- PAIR_REPAIR_ANSWER (R288). -/
def execPairRepairAnswer (dt : Nat) (src : Src) (seq : BitVec 32) (packet : Option SrcPacket) (s : State) :
    Host.Outcome State Fault Refusal :=
  s.run dt fun c _ b => if b.paired then repairAnswer c src.val seq packet b else b

/-- PAIR_COPY (R311). -/
def execPairCopy (dt : Nat) (images : List (Nat × Word)) (s : State) : Host.Outcome State Fault Refusal :=
  s.run dt fun _ _ b => pairCopy images b

/-- PAIR_COPY_END (R311). -/
def execPairCopyEnd (dt : Nat) (frame : BitVec 48) (s : State) : Host.Outcome State Fault Refusal :=
  s.run dt fun _ _ b => pairCopyEnd frame.toNat b

/-- REJOIN_LOCK_REACHED (R311). -/
def execRejoinLockReached (dt : Nat) (s : State) : Host.Outcome State Fault Refusal := s.run dt fun _ _ b => rejoinLock b

/-- PAIR_DESK (R447). -/
def execPairDesk (dt : Nat) (baselines : List (Nat × Nat)) (s : State) : Host.Outcome State Fault Refusal :=
  s.run dt fun _ _ b => if b.paired then pairDesk baselines b else b

/-- WARDEN_WATCHDOG_EXPIRY (R308). -/
def execWardenWatchdogExpiry (dt : Nat) (s : State) : Host.Outcome State Fault Refusal :=
  s.run dt fun c _ b => wardenExpiry c b

end Sys2Proof.Machine
end

