-- ==== Sys2Proof/Machine/Lanes.lean ====
section
/-! DEFINITION. Serial lanes, Ethernet MACs with their receive filters and transmit rings, and the cage chain
(R315-R328, R346-R348). -/

namespace Sys2Proof.Machine

open Sys2Proof

/-! ## Lane state (R315-R320) -/

def Block.laneUp (b : Block) (l : Nat) : Bool := b.on F.LNK_L_STAT_UP (l / 4) (l % 4)
def Block.laneMode (b : Block) (l : Nat) : Nat := b.get F.LNK_L_CTL_MODE (l / 4) (l % 4)
def Block.laneEn (b : Block) (l : Nat) : Bool := b.on F.LNK_L_CTL_EN (l / 4) (l % 4)
def Block.quadOn (b : Block) (q : Nat) : Bool := b.domOn (18 + q)

/-- Since when a MAC's link is up, for R252. -/
def macSync (c : Clk) (l : Nat) (was : Bool) (b : Block) : Block :=
  if macUp b l && !was then { b with macSince := tput 0 b.macSince l c.steady } else b

/-- The lane index of lane `j` of a Sprue link. -/
def linkLane (b : Block) (k j : Nat) : Nat :=
  b.get (if j = 0 then F.SPR_K_LANES_LANE0 else if j = 1 then F.SPR_K_LANES_LANE1
    else if j = 2 then F.SPR_K_LANES_LANE2 else F.SPR_K_LANES_LANE3) k

/-- The debounced input bits of the cage chain, and the cage of a lane: none mapped, or whether it is present (R347). -/
def cageInputs (b : Block) : Nat := b.get F.LNK_CAGE_IN_LO_IN + 2 ^ 32 * b.get F.LNK_CAGE_IN_HI_IN

def cageBit (b : Block) (n : Nat) (activeLow : Bool) : Bool := bit (cageInputs b) n != activeLow

def cagePresent (b : Block) (l : Nat) : Bool :=
  let n := b.get F.LNK_CAGE_MAP_PRES l
  63 < n || cageBit b n (b.on F.LNK_CAGE_MAP_PRES_POL l)

def moduleLos (b : Block) (l : Nat) : Bool :=
  let n := b.get F.LNK_CAGE_MAP_MLOS l
  n ≤ 63 && cageBit b n (b.on F.LNK_CAGE_MAP_MLOS_POL l)

/-- The rate code of a lane: of its Ethernet mode, or of the Sprue link that names it (table Lane rates). -/
def laneRate (b : Block) (l : Nat) : Nat :=
  let m := b.laneMode l
  if m = 1 then 2 else if m = 2 || m = 3 then 4
  else match (List.range 3).find? fun k =>
      b.on F.SPR_K_CTL_EN k && (List.range (b.get F.SPR_K_CTL_NLANES k)).any fun j => linkLane b k j = l with
    | some k => b.get F.SPR_K_STAT_RATE k
    | none => 0

/-- A lane may come up: enabled in a mode, its quad powered and its PLL locked, its cage present with light. -/
def laneReady (b : Block) (l : Nat) : Bool :=
  b.laneEn l && 1 ≤ b.laneMode l && b.laneMode l ≤ 4 && b.quadOn (l / 4) && b.on F.LNK_Q_STAT_PLL_LOCK (l / 4) &&
    cagePresent b l && !moduleLos b l

/-- The mode and the rate in effect on a lane (LNK_L_STAT): none on a lane that is disabled, unpowered or in a reserved
mode. -/
def laneInEffect (b : Block) (l : Nat) : Nat × Nat :=
  if b.laneEn l && b.quadOn (l / 4) && b.laneMode l ≤ 4 then (b.laneMode l, laneRate b l) else (0, 0)

/-- Both detectors clear: the lane comes up (R320, code 0x4001). -/
def laneUp (c : Clk) (l : Nat) (b : Block) : Block :=
  if b.laneUp l || !laneReady b l then b
  else
    let q := l / 4
    let i := l % 4
    let r := laneRate b l
    let m := b.laneMode l
    let b := ((b.flag F.LNK_L_STAT_UP true q i).put F.LNK_L_STAT_CAUSE 0 q i).evt F.LNK_EVT_LANE_UP q
    macSync c l false (b.record (inst := q) 0x4001 2 l m r)

/-- The causes that assert on a lane (R320): a mapped cage that is absent counts as loss of signal; each assertion of loss of
signal is counted. -/
def laneCause (l cause : Nat) (b : Block) : Block :=
  let q := l / 4
  let i := l % 4
  let old := b.get F.LNK_L_STAT_CAUSE q i
  let new := if bit cause 5 then cause % 32 ||| 1 else cause % 32
  let b := b.put F.LNK_L_STAT_CAUSE new q i
  if (bit new 0 || bit new 4) && !(bit old 0 || bit old 4) then b.inc F.LNK_L_CNT_LOSS q i else b

/-- A detector asserts (R320, code 0x4002): `cause` as the record's parameter holds it. -/
def laneDown (l cause : Nat) (b : Block) : Block :=
  let q := l / 4
  let i := l % 4
  let was := b.laneUp l
  let b := laneCause l cause (b.flag F.LNK_L_STAT_UP false q i)
  if was then
    ((b.inc F.LNK_L_CNT_DOWNS q i).evt F.LNK_EVT_LANE_DOWN q).record (inst := q) 0x4002 3 l cause (b.laneMode l)
  else b

/-! ## Received frames (R323-R326) -/

/-- A receive drop is counted in a field of ETH_M_RXERR and recorded (R348, code 0x5002). -/
def rxDrop (c : Clk) (l : Nat) (f : Fld) (b : Block) : Block :=
  let q := l / 4
  let i := l % 4
  let b := (b.inc f q i).evt F.ETH_EVT_DROPS q
  b.recordLim (inst := (l / 4)) c (0x50020000 + l) sTick 0x5002 3 l (b.get F.ETH_M_RXERR_FCS q i) (b.get F.ETH_M_RXERR_SIZE q i)
    (b.get F.ETH_M_RXERR_PAUSE q i)

/-- The octets from `i`, `n` of them, most significant first. -/
def fieldAt (l : List Byte) (i n : Nat) : Nat := ofBe ((l.drop i).take n)

/-- Where the EtherType of a frame stands behind its VLAN tags, which are ignored. -/
def etherAt : Nat → List Byte → Nat → Nat
  | 0, _, i => i
  | n + 1, l, i => if fieldAt l i 2 = 0x8100 || fieldAt l i 2 = 0x88A8 then etherAt n l (i + 4) else i

/-- The one's complement sum of 16-bit words. -/
def onesSum : List Byte → Nat
  | a :: b :: t => a.toNat * 256 + b.toNat + onesSum t
  | [a] => a.toNat * 256
  | [] => 0

/-- An IPv4 header checksum is good: the sum folds to all ones. -/
def sumGood (l : List Byte) : Bool :=
  let s := onesSum l
  let s := s % 65536 + s / 65536
  (s % 65536 + s / 65536) % 65536 = 65535

/-- The source and destination address and the destination port of an IPv4 UDP frame with a good header checksum that
is not a fragment (R325). -/
def udpOf (l : List Byte) : Option (Nat × Nat × Nat) :=
  let e := etherAt 8 l 12
  let p := e + 2
  let ihl := 4 * (fieldAt l p 1 % 16)
  if fieldAt l e 2 = 0x0800 && fieldAt l p 1 / 16 = 4 && 20 ≤ ihl && p + ihl + 8 ≤ l.length &&
      sumGood ((l.drop p).take ihl) && fieldAt l (p + 9) 1 = 17 && fieldAt l (p + 6) 2 % 0x4000 = 0 then
    some (fieldAt l (p + 12) 4, fieldAt l (p + 16) 4, fieldAt l (p + ihl + 2) 2)
  else none

/-- The UDP port of a source's path fits, with the port above for RTCP unless it is multiplexed (R325). -/
def sourcePort (b : Block) (s : Nat) (path : Bool) (port : Nat) : Bool :=
  let p := b.get (if path then F.LAD_SRC_PORT_PORT_B else F.LAD_SRC_PORT_PORT_A) s
  port = p || (!b.on F.LAD_SRC_CTL_RTCP_MUX s && port = p + 1)

/-- Filter entry `k` of a quad matches a frame on lane `i` of it (R325). -/
def filterMatches (b : Block) (q i k src dst port : Nat) : Bool :=
  let dip := b.get F.ETH_F_DIP_DIP q k
  let sip := b.get F.ETH_F_SIP_SIP q k
  let dp := b.get F.ETH_F_PORT_DPORT q k
  let a := b.get F.ETH_F_CFG_ACTION q k
  b.on F.ETH_F_CFG_EN q k && bit (b.get F.ETH_F_CFG_LANES q k) i && (dip = 0 || dip = dst) && (sip = 0 || sip = src) &&
    (if a = 2 then dp = 0 || dp = port
     else if a = 1 then sourcePort b (b.get F.ETH_F_CFG_TARGET q k) (b.on F.ETH_F_CFG_PATH q k) port else true)

/-- What becomes of a frame: the action code, its target, and the path of a source (R325). -/
def frameAction (b : Block) (l : Nat) (bytes : List Byte) : Nat × Nat × Bool :=
  let q := l / 4
  let dflt := (b.get F.ETH_DEF_ACTION q, b.get F.ETH_DEF_RING q, false)
  match udpOf bytes with
  | none => dflt
  | some (src, dst, port) =>
    match (List.range 128).find? fun k => filterMatches b q (l % 4) k src dst port with
    | some k => (b.get F.ETH_F_CFG_ACTION q k, b.get F.ETH_F_CFG_TARGET q k, b.on F.ETH_F_CFG_PATH q k)
    | none => dflt

/-! ### Packets of a source (R93, R94, R106, R326). The layouts are those of the standards that the spec names: PRESUMED
(log 85). -/

/-- `n` bits from bit `i` of octets, the first bit the most significant. -/
def bitsOf (l : List Byte) (i n : Nat) : Nat := ofBe l / 2 ^ (8 * l.length - i - n) % 2 ^ n

/-- The octets of a pixel group by LAD_SRC_FMT2.SAMPLING, and its pixels' components (ST 2110-20): Cb, Y, Cr, Y in 4:2:2, R, G,
B of each pixel in 4:4:4. -/
def pgOctets (smp : Nat) : Nat := if smp = 0 then 5 else if smp = 1 then 4 else if smp = 2 then 15 else 3

def pgPixels (smp : Nat) (l : List Byte) : List (List Nat) :=
  let w := if smp % 2 = 0 then 10 else 8
  let v (i : Nat) : Nat := bitsOf l (w * i) w
  if smp < 2 then [[v 1, v 0, v 2], [v 3]]
  else (List.range (if smp = 2 then 4 else 1)).map fun p => [v (3 * p), v (3 * p + 1), v (3 * p + 2)]

def pixelsOf (smp : Nat) : Nat → List Byte → List (List Nat)
  | 0, _ => []
  | n + 1, l =>
    let g := pgOctets smp
    if l.length < g then [] else pgPixels smp (l.take g) ++ pixelsOf smp n (l.drop g)

/-- The sample row data headers of an ST 2110-20 payload: octets, row, first pixel; whether one is of a second field; and the
octets behind them. -/
def srdHeaders : Nat → List Byte → List (Nat × Nat × Nat) × Bool × List Byte
  | 0, l => ([], false, l)
  | n + 1, l =>
    let h := (fieldAt l 0 2, fieldAt l 2 2 % 32768, fieldAt l 4 2 % 32768)
    let second := bit (fieldAt l 2 2) 15
    if bit (fieldAt l 4 2) 15 then
      let (t, f, rest) := srdHeaders n (l.drop 6)
      (h :: t, second || f, rest)
    else ([h], second, l.drop 6)

/-- The runs of samples that headers name, from the octets behind them. -/
def srdRuns (smp : Nat) : List (Nat × Nat × Nat) → List Byte → List SampleRun
  | [], _ => []
  | (n, row, x) :: t, l =>
    { row := row, x := x, px := pixelsOf smp n (l.take n) } :: srdRuns smp t (l.drop n)

/-- The media packet of an RTP packet for source `s` (R93-R99): behind the fixed header come the contributing sources and a
header extension; padding ends it. -/
def mediaOf (b : Block) (s : Nat) (path : Bool) (l : List Byte) : SrcPacket :=
  let o := 12 + 4 * (fieldAt l 0 1 % 16)
  let o := if bit (fieldAt l 0 1) 4 then o + 4 + 4 * fieldAt l (o + 2) 2 else o
  let pad := if bit (fieldAt l 0 1) 5 then fieldAt l (l.length - 1) 1 else 0
  let d := (l.take (l.length - pad)).drop o
  let seq := fieldAt l 2 2
  let smp := b.get F.LAD_SRC_FMT2_SAMPLING s
  let (rows, second, rest) := srdHeaders 8 (d.drop 2)
  let video := b.transport s = 2
  { path := path, seq := BitVec.ofNat 32 (if video then fieldAt d 0 2 * 65536 + seq else seq)
    ssrc := BitVec.ofNat 32 (fieldAt l 8 4), marker := bit (fieldAt l 1 1) 7, rtpts := BitVec.ofNat 32 (fieldAt l 4 4)
    payload := d, runs := if video then srdRuns smp rows rest else []
    layout := if video && second then 4 else Fin.ofNat 8 smp, full := false }

/-- What the Ladle is handed of a UDP datagram's payload: an RTCP sender report, or a media packet. -/
def handedOf (b : Block) (s : Nat) (path : Bool) (port : Nat) (l : List Byte) : Option LadleInput :=
  let pt := fieldAt l 1 1
  let p := b.get (if path then F.LAD_SRC_PORT_PORT_B else F.LAD_SRC_PORT_PORT_A) s
  if l.length < 8 || fieldAt l 0 1 / 64 ≠ 2 then none
  else if (192 ≤ pt && pt ≤ 223) || port ≠ p then
    (if pt = 200 && 28 ≤ l.length then
      some (.senderReport path (BitVec.ofNat 64 (fieldAt l 8 8)) (BitVec.ofNat 32 (fieldAt l 16 4)) l) else none)
  else if l.length < 12 then none
  else some (.media (mediaOf b s path l))

/-- The payload and the destination port of a frame's UDP datagram. -/
def udpPayload (l : List Byte) : Nat × List Byte :=
  let p := etherAt 8 l 12 + 2
  let u := p + 4 * (fieldAt l p 1 % 16)
  (fieldAt l (u + 2) 2, (l.drop (u + 8)).take (fieldAt l (u + 4) 2 - 8))

/-- The frame goes to the Ladle as a packet of source `s` on a path (R326). -/
def sourceFrame (c : Clk) (s : Nat) (path : Bool) (bytes : List Byte) (b : Block) : Block :=
  let (port, l) := udpPayload bytes
  if !ladOn b then b
  else match handedOf b s path port l with
    | some i => ladlePacket c s i b
    | none => b

/-- A packet entry of a frame that no source takes (R326, R340): SRC reads 511; the fields that a stream's packet would
fill are free values (log 18), and so are both stamps where the link takes none (R51). -/
def looseEntry (c : Clk) (timed : Bool) (b : Block) : RxEntry × Block :=
  let (q, b) := b.fresh
  let (t, b) := b.fresh
  let (f, b) := b.fresh
  let (st, b) := if timed then (c.stamp, b) else b.fresh
  let (sy, b) := if timed then (c.ns64, b) else let (v, b) := b.fresh; (v.toNat, b)
  ({ stamp := st, steady := sy, gen := b.get F.TIM_STAT_STEP_GEN, path := false, marker := false, kind := 0,
     loss := false, seq := q.toNat, src := 511, buf := 0, rtpts := t.toNat, frame := f.toNat }, b)

/-- Put a frame that no source takes into a receive ring. -/
def ringLoose (c : Clk) (timed : Bool) (ring : Nat) (payload : List Byte) (b : Block) : Block :=
  let (e, b) := looseEntry c timed b
  (ringPut c ring e payload b).2

/-- The destination address is the MAC's own, broadcast or multicast (R323). -/
def frameForUs (b : Block) (l : Nat) (bytes : List Byte) : Bool :=
  bit (fieldAt bytes 0 1) 0 || fieldAt bytes 0 6 = macAddr b l

/-- A frame arrives at a MAC (R323-R326): `bytes` from the destination address to the octet before the FCS. -/
def macReceive (c : Clk) (l : Nat) (bytes : List Byte) (fcsOk : Bool) (b : Block) : Block :=
  let q := l / 4
  let i := l % 4
  let n := bytes.length + 4
  if !macUp b l then b
  else if !fcsOk then rxDrop c l F.ETH_M_RXERR_FCS b
  else if n < 64 || 9216 < n then rxDrop c l F.ETH_M_RXERR_SIZE b
  else if fieldAt bytes (etherAt 8 bytes 12) 2 = 0x8808 then rxDrop c l F.ETH_M_RXERR_PAUSE b
  else if !frameForUs b l bytes then b
  else
    let b := b.wrap F.ETH_M_RXCNT_RX q i
    let (action, target, path) := frameAction b l bytes
    if action = 0 then rxDrop c l F.ETH_M_RXERR_FILT b
    else if action = 2 then ringLoose c true target bytes b
    else if action = 1 then sourceFrame c target path bytes b
    else b

/-! ## Filter entries (R327) -/

/-- A receive ring in group 0 or the quad's group. -/
def rxRingOk (b : Block) (q ring : Nat) : Bool :=
  ring < 256 && !b.on F.LAD_RING_CFG_DIR ring && (ring / 16 = 0 || ring / 16 = q + 1)

/-- Why a value of ETH_F_CFG is refused, or 0. -/
def filterRefusal (b : Block) (q : Nat) (v : Word) : Nat :=
  let a := F.ETH_F_CFG_ACTION.of v
  let t := F.ETH_F_CFG_TARGET.of v
  let ring := b.get (if F.ETH_F_CFG_PATH.of v = 1 then F.LAD_SRC_RING_RING_B else F.LAD_SRC_RING_RING_A) t
  if a = 3 then 0x01
  else if a = 2 && !rxRingOk b q t then 0x05
  else if a = 1 && (384 ≤ t || 2 < b.transport t || ring / 16 ≠ q + 1) then 0x06
  else 0

/-- A filter entry, or the default action as entry 0, is refused (code 0x5001). -/
def filterRefused (q entry off : Nat) (v : Word) (reason : Nat) (b : Block) : Block :=
  (b.evt F.ETH_EVT_CFG_ERR q).record (inst := q) 0x5001 3 entry off v.toNat reason

/-- Why a value of ETH_DEF is refused, or 0 (R327). -/
def defaultRefusal (b : Block) (q : Nat) (v : Word) : Nat :=
  let a := F.ETH_DEF_ACTION.of v
  if a % 2 = 1 then 0x01 else if a = 2 && !rxRingOk b q (F.ETH_DEF_RING.of v) then 0x05 else 0

/-! ## Transmit rings (R112, R328) -/

/-- Slot `n` of a MAC: whether it is in use, its ring and its path. -/
def txSlot (b : Block) (l n : Nat) : Bool × Nat × Bool :=
  let g (f : Fld) : Nat := b.get f (l / 4) (l % 4) (n / 2)
  if n % 2 = 0 then (g F.ETH_M_TXR_EN_A = 1, g F.ETH_M_TXR_RING_A, g F.ETH_M_TXR_PATH_A = 1)
  else (g F.ETH_M_TXR_EN_B = 1, g F.ETH_M_TXR_RING_B, g F.ETH_M_TXR_PATH_B = 1)

/-- A transmit ring holds an entry that is not sent; the Ladles, which hold the rings, have power (R33). -/
def txPending (b : Block) (r : Nat) : Bool :=
  ladOn b && b.on F.LAD_RING_CFG_EN r && b.on F.LAD_RING_CFG_DIR r && b.get F.LAD_RING_HEAD_HEAD r ≠ b.get F.LAD_RING_TAIL_TAIL r

/-- The oldest entry of a transmit ring. -/
def txEntry (m : Mem) (b : Block) (r : Nat) : List Byte := m.bytes (b.ringBase r + 32 * b.get F.LAD_RING_HEAD_HEAD r) 32

/-- The oldest entry of a ring is done: DONE is set, with the stamp if there is one, and HEAD advances. -/
def txDone (c : Clk) (r : Nat) (e : List Byte) (stamp : Option Word) (b : Block) : Block :=
  let h := b.get F.LAD_RING_HEAD_HEAD r
  let a := b.ringBase r + 32 * h
  let gen := match stamp with | some _ => b.get F.TIM_STAT_STEP_GEN % 4 | none => (e.getD 11 0).toNat % 4
  let (ok, b) := dramAccess c 5 (b.get F.LAD_RING_PART_PART r) a 32 true 15 b
  let b := if ok then b.store (a + 11) ([BitVec.ofNat 8 (gen + 128)] ++
      (match stamp with | some w => leBytes 4 w.toNat | none => [])) else b
  b.put F.LAD_RING_HEAD_HEAD ((h + 1) % b.ringSize r) r

/-- Some MAC's enabled slot names the ring with the path. -/
def txServed (b : Block) (r : Nat) (path : Bool) : Bool :=
  (List.range 48).any fun l => (List.range 8).any fun n =>
    let (en, ring, p) := txSlot b l n
    en && ring = r && p = path

/-- The entry at the head of ring `r`, whose turn it is on lane `l` in a slot of path `path`: none if another MAC sends
it. -/
def txServe (c : Clk) (m : Mem) (l r : Nat) (path : Bool) (b : Block) : Option Block :=
  let q := l / 4
  let i := l % 4
  let part := b.get F.LAD_RING_PART_PART r
  let (ok, b) := dramAccess c 5 part (b.ringBase r + 32 * b.get F.LAD_RING_HEAD_HEAD r) 32 false 15 b
  let e := txEntry m b r
  let flags := (e.getD 10 0).toNat
  let a := ofLe (e.take 8)
  let n := ofLe ((e.drop 8).take 2)
  let mine := bit flags 1 = path
  let drop (b : Block) : Block := (txDone c r e (some 0) b).inc F.ETH_M_TXDROP_TXDROP q i
  if !ok then some (b.put F.LAD_RING_HEAD_HEAD ((b.get F.LAD_RING_HEAD_HEAD r + 1) % b.ringSize r) r)
  else if !mine then (if txServed b r (bit flags 1) then none else some (drop b))
  else if n < 60 || 9212 < n then some (drop b)
  else
    let (ok, b) := dramAccess c 5 part a n false 14 b
    if !ok then some (drop b)
    else
      let b := (b.emit (.frame l (m.bytes a n))).wrap F.ETH_M_TXCNT_TX q i
      some (txDone c r e (if bit flags 0 then some c.stamp else none) b)

/-- Go through the slots in turn, from slot `n`. -/
def txTurn (c : Clk) (m : Mem) (l : Nat) : Nat → Nat → Block → Block
  | 0, _, b => b
  | fuel + 1, n, b =>
    let (en, r, path) := txSlot b l n
    let next := (n + 1) % 8
    if en && txPending b r then
      match txServe c m l r path b with
      | some b => { b with lanes := { b.lanes with turn := tput 0 b.lanes.turn l next } }
      | none => txTurn c m l fuel next b
    else txTurn c m l fuel next b

/-- The oldest entry of a transmit ring that no MAC's slot names is written back and not sent (R328). Of which MAC the count
advances the spec does not say: DESIGN CHOICE, of the one that looks (log 84). Group 15 is the Sprue links' (R340). -/
def txOrphan (c : Clk) (m : Mem) (l r : Nat) (b : Block) : Block :=
  if !txPending b r || txServed b r false || txServed b r true then b
  else
    let (ok, b) := dramAccess c 5 (b.get F.LAD_RING_PART_PART r) (b.ringBase r + 32 * b.get F.LAD_RING_HEAD_HEAD r) 32 false 15 b
    if ok then (txDone c r (txEntry m b r) (some 0) b).inc F.ETH_M_TXDROP_TXDROP (l / 4) (l % 4)
    else b.put F.LAD_RING_HEAD_HEAD ((b.get F.LAD_RING_HEAD_HEAD r + 1) % b.ringSize r) r

/-- A MAC sends the next frame of its transmit rings, round-robin (R328), unless a packet of a stream is due (R237). -/
def macTransmit (c : Clk) (m : Mem) (l : Nat) (b : Block) : Block :=
  if macUp b l && !packetDue c b l then
    txTurn c m l 8 (tget 0 b.lanes.turn l) ((List.range 240).foldl (fun b r => txOrphan c m l r b) b)
  else b

end Sys2Proof.Machine
end

