-- ==== Sys2Proof/Machine/Manage.lean ====
section
/-! DEFINITION. The management port and the shop protocol's messages: the filter, authentication, responses, and the relay
to the partner (R495-R500). -/

namespace Sys2Proof.Machine

open Sys2Proof

def Block.setShop (b : Block) (x : ShopSt) : Block := { b with shop := x }

/-! ## The port (R495, R497) -/

/-- The Warden ROM serves the port (R482, R497). -/
def mgtRecovery (b : Block) : Bool := b.on F.MGT_STAT_RECOVERY

/-- The port is enabled. -/
def mgtOn (b : Block) : Bool := b.on F.MGT_CTL_EN || mgtRecovery b

/-- A byte of the recovery address: 0 and 255 become 1 and 254 (R497). -/
def recoveryByte (n : Nat) : Nat := if n = 0 then 1 else if n = 255 then 254 else n

/-- The port's IPv4 address: in recovery 169.254.h.l (R497). -/
def mgtAddr (b : Block) : Nat :=
  if mgtRecovery b then
    0xA9FE0000 + recoveryByte (bits Config.serial.toNat 8 8) * 256 + recoveryByte (bits Config.serial.toNat 0 8)
  else b.get F.MGT_IP_IP

/-- The UDP port of the shop protocol; the spec gives none for recovery. -/
def mgtPort (b : Block) : Nat := if mgtRecovery b then Config.recoveryPort.toNat else b.get F.MGT_PORT_PORT

/-- The unit sends on its management port (R500): in PAIR mode only while it is ACTIVE or ALONE. -/
def mgtSpeaks (b : Block) : Bool := !b.pairMode || b.role = roleActive || b.role = roleAlone

/-- Send on the management port. -/
def mgtSend (o : Output) (b : Block) : Block := if mgtSpeaks b then b.emit o else b

/-- The frame is an ARP request for an IPv4 address: the Ethernet and the IPv4 address of its sender. -/
def arpRequest (l : List Byte) (ip : Nat) : Option (Nat × Nat) :=
  let e := etherAt 8 l 12
  let p := e + 2
  if fieldAt l e 2 = 0x0806 && p + 28 ≤ l.length && fieldAt l p 2 = 1 && fieldAt l (p + 2) 2 = 0x0800 &&
      fieldAt l (p + 4) 2 = 0x0604 && fieldAt l (p + 6) 2 = 1 && fieldAt l (p + 24) 4 = ip then
    some (fieldAt l (p + 8) 6, fieldAt l (p + 14) 4)
  else none

/-- The frame is an ICMP echo request to an IPv4 address (log 31): its sender, and what follows its checksum. -/
def echoRequest (l : List Byte) (ip : Nat) : Option (Nat × List Byte) :=
  let e := etherAt 8 l 12
  let p := e + 2
  let ihl := 4 * (fieldAt l p 1 % 16)
  let n := fieldAt l (p + 2) 2
  if fieldAt l e 2 = 0x0800 && fieldAt l p 1 / 16 = 4 && 20 ≤ ihl && ihl + 8 ≤ n && p + n ≤ l.length &&
      sumGood ((l.drop p).take ihl) && fieldAt l (p + 9) 1 = 1 && fieldAt l (p + 6) 2 % 0x4000 = 0 &&
      fieldAt l (p + ihl) 2 = 0x0800 && sumGood ((l.drop (p + ihl)).take (n - ihl)) && fieldAt l (p + 16) 4 = ip then
    some (fieldAt l (p + 12) 4, (l.drop (p + ihl + 4)).take (n - ihl - 4))
  else none

/-- The source port and the payload of an IPv4 UDP frame. -/
def datagram (l : List Byte) : Nat × List Byte :=
  let p := etherAt 8 l 12 + 2
  let u := p + 4 * (fieldAt l p 1 % 16)
  (fieldAt l u 2, (l.drop (u + 8)).take (fieldAt l (u + 4) 2 - 8))

/-! ## Messages (R496-R498) -/

/-- The octets of a shop message (table Shop message) under a key: its TAG is the first 16 bytes of the HMAC. -/
def shopMessage (key : List Byte) (version type flags status session seq : Nat) (payload : List Byte) : List Byte :=
  let l := beBytes 2 0x4E53 ++ beBytes 2 version ++ [BitVec.ofNat 8 type, BitVec.ofNat 8 flags] ++ beBytes 2 status ++
    beBytes 4 session ++ beBytes 4 seq ++ beBytes 2 payload.length ++ [0, 0] ++ payload
  l ++ (hmac key l).take 16

/-- A TAG is good under a key. -/
def tagGood (key l : List Byte) : Bool :=
  let n := 20 + fieldAt l 16 2
  l.drop n = (hmac key (l.take n)).take 16

/-- A session's version, in 16 bits: major 1 and its minor. -/
def Session.version (x : Session) : Nat := 0x100 + x.minor

/-- The open session of an identifier. -/
def sessionOf (b : Block) (n : Nat) : Option Session := b.shop.sessions.find? (·.id = n)

/-- Replace a session. -/
def setSession (x : Session) (b : Block) : Block :=
  b.setShop { b.shop with sessions := b.shop.sessions.map fun y => if y.id = x.id then x else y }

/-- The operations of the shop protocol (table Shop operations). -/
def shopTypes : List Nat := [0x01, 0x02, 0x03, 0x10, 0x11, 0x20, 0x30, 0x31, 0x40, 0x41, 0x42, 0x43]

/-- A status other than 0 is recorded (code 0x1504). -/
def shopStatus (session type status : Nat) (b : Block) : Block :=
  if status = 0 then b else b.record 0x1504 3 session type status

/-- Send a response of a session. -/
def shopSend (x : Session) (type : Nat) (partner : Bool) (status : Nat) (r : ShopResult) (b : Block) : Block :=
  let l := shopMessage x.key x.version type (1 + 2 * b2n partner) status x.id x.nextOut (Config.shopOctets r)
  (setSession { x with nextOut := x.nextOut + 1 } b) |> mgtSend (.shop x.ip x.port l r)

/-- Answer a request: to its client, or through the partner that relayed it (R500). -/
def shopReply (q : ShopMsg) (status : Nat) (r : ShopResult) (b : Block) : Block :=
  let b := shopStatus q.session q.type status b
  match q.relayed with
  | some _ => sprSend 0 { chan := 5, body := .shopResponse q.type q.session status r } b
  | none =>
    match sessionOf b q.session with
    | some x => shopSend x q.type false status r b
    | none => b

/-- An authentication failure (R498, code 0x1503): cause 0 tag, 1 replay, 2 unknown session. -/
def shopAuthFail (c : Clk) (ip slot cause : Nat) (b : Block) : Block :=
  let b := (b.inc F.MGT_CNT_AUTH).evt F.MGT_EVT_AUTH
  b.recordLim c 0x15030000 sTick 0x1503 4 ip slot cause (b.get F.MGT_CNT_AUTH)

/-- The shop key of a slot; in recovery slot 0xFF, with no key (R497). -/
def shopKeyOf (b : Block) (slot : Nat) : Option ShopKey :=
  if mgtRecovery b then (if slot = 0xFF then some { role := 3, key := [] } else none) else b.shop.keys[slot]?

/-- A message that is accepted waits to be served; an unknown TYPE is answered at once. -/
def shopAccept (q : ShopMsg) (b : Block) : Block :=
  if shopTypes.contains q.type then b.setShop { b.shop with msgs := b.shop.msgs ++ [q] } else shopReply q 1 .empty b

/-- A datagram for the shop port is checked (R496-R498): `slot` is the key slot that an OPEN names. -/
def shopInput (c : Clk) (ip port slot : Nat) (l : List Byte) (b : Block) : Block :=
  let n := fieldAt l 16 2
  let type := fieldAt l 4 1
  let flags := fieldAt l 5 1
  let session := fieldAt l 8 4
  let seq := fieldAt l 12 4
  let payload := (l.drop 20).take n
  if fieldAt l 0 2 ≠ 0x4E53 || 1376 < n || l.length ≠ 36 + n || bit flags 0 then b
  else if type = 1 then
    match shopKeyOf b slot with
    | none => shopAuthFail c ip slot 0 b
    | some k =>
      if tagGood k.key l then shopAccept { type := 1, session := 0, payload, slot, ip, port } b else shopAuthFail c ip slot 0 b
  else
    match sessionOf b session with
    | none => shopAuthFail c ip 0xFF 2 b
    | some x =>
      if !tagGood x.key l then shopAuthFail c ip x.slot 0 b
      else if seq ≤ x.lastIn then shopAuthFail c ip x.slot 1 b
      else
        shopAccept { type, session, partner := bit flags 1, payload }
          (setSession { x with lastIn := seq, lastAt := c.steady, count := x.count + 1 } b)

/-! ## The relay (R340, R500) -/

/-- Put what Fihus receives into a ring: it reaches Fihus if the ring takes it. -/
def ringFihus (c : Clk) (timed : Bool) (ring : Nat) (payload : List Byte) (b : Block) : Bool × Block :=
  let (e, b) := looseEntry c timed b
  let (at_, b) := ringPut c ring e payload b
  (at_.isSome, b)

/-- A message of the relay arrives on channel 5, through the ring of SPR_K_RING: a request waits to be served under its
session's role, a response goes to the client with FLAGS[1] set. -/
def shopRelayed (c : Clk) (body : SprBody) (b : Block) : Block :=
  let r := b.get F.SPR_K_RING_RXR 0
  if r / 16 ≠ 15 then b
  else
    let (ok, b) := ringFihus c (linkStamps b 0) r (Config.relayOctets body) b
    match body with
    | .shopRequest type session role payload =>
      if ok then b.setShop { b.shop with msgs := b.shop.msgs ++ [{ type, session, relayed := some role, payload }] } else b
    | .shopResponse type session status r =>
      match sessionOf b session with
      | some x => if ok then shopSend x type true status r b else b
      | none => b
    | _ => b

end Sys2Proof.Machine
end

