-- ==== Sys2Proof/Machine/Sprue.lean ====
section
/-! DEFINITION. Sprue links: bring-up, alignment, framing and replay, channels and the peer ring, peer shares, board
time, the cage chain (R329-R348). -/

namespace Sys2Proof.Machine

open Sys2Proof

/-! ## Configuration (R329, R330) -/

/-- The lanes of a link at least (table Sprue links). -/
def minLanes (k : Nat) : Nat := if k = 0 then 2 else 1

def Block.nLanes (b : Block) (k : Nat) : Nat := b.get F.SPR_K_CTL_NLANES k

/-- Number of bits set among the four lanes. -/
def count4 (m : Nat) : Nat := ((List.range 4).filter (bit m)).length

/-- The events of link 0 have flags of their own. -/
def sprEvt (k : Nat) (f p : Fld) (b : Block) : Block := b.evt (if k = 0 then p else f)

/-- A Sprue configuration is refused (code 0x4C08). -/
def sprConfigRefused (off value reason : Nat) (b : Block) : Block :=
  (b.evt F.SPR_EVT_CFG_ERR).record 0x4C08 3 off value reason

/-- Why the enable of a link is refused, or 0 (R330). -/
def linkRefusal (b : Block) (k : Nat) : Nat :=
  let n := b.nLanes k
  let named := (List.range (min 4 n)).map (linkLane b k)
  let others := ((List.range 3).filter fun j => j ≠ k && b.on F.SPR_K_CTL_EN j).flatMap fun j =>
    (List.range (min 4 (b.nLanes j))).map (linkLane b j)
  if 5 < b.get F.SPR_K_CTL_RATE_MAX k || (b.get F.SPR_K_CTL_VER_ST k ≠ 3 && 5 < b.get F.SPR_K_CTL_RATE_ST k) then 0x01
  else if !linkUsed b k then 0x04
  else if named.any fun l => 48 ≤ l || b.laneMode l ≠ 4 || others.contains l then 0x02
  else if n < minLanes k || 4 < n then 0x03
  else 0

/-! ## Bring-up (R332-R335) -/

/-- The CAP frame that this part sends on lane `j` of a link (R332, table CAP frame). -/
def ownCap (b : Block) (k j : Nat) : List Byte :=
  let x := b.spr k
  let n (v : Nat) : Byte := BitVec.ofNat 8 v
  [0x01, 0x12, n (2 ^ (b.get F.SPR_K_CTL_RATE_MAX k + 1) - 1), n x.excl,
    n (k + 4 * b2n (b.on F.SYS_STRAP_UNIT) + 8 * b.pos + 32 * b.get F.SYS_ID_STEP),
    n (j + 8 * b.get F.SPR_K_CTL_NLANES k + 64 * b2n (decide (1 ≤ k) && b.get F.SPR_TIME_CFG_DIR = k) + 128 * b2n (bit x.seen j)),
    0x40, 0x72, n b.ringN]

/-- Send CAP on some lanes of a link. -/
def sendCaps (k lanes : Nat) (b : Block) : Block :=
  ((List.range 4).filter (bit lanes)).foldl (fun b j => b.emit (.cap k j (ownCap b k j))) b

/-- The link runs at a rate and a version: each of its lanes starts afresh (R334). -/
def startLanes (c : Clk) (k state rate ver lanes : Nat) (b : Block) : Block :=
  let b := ((b.put F.SPR_K_STAT_STATE state k).put F.SPR_K_STAT_RATE rate k).put F.SPR_K_STAT_VER ver k
  let b := (b.put F.SPR_K_STAT_MASK 0 k).put F.SPR_K_STAT_ACTIVE 0 k
  b.setSpr k { b.spr k with since := c.steady, lanes := lanes, aligned := 0 }

/-- The lanes that SPR_K_CTL.NLANES names. -/
def allLanes (b : Block) (k : Nat) : Nat := 2 ^ b.nLanes k - 1

/-- A negotiation at code 0. -/
def startNeg (c : Clk) (k : Nat) (b : Block) : Block :=
  let b := startLanes c k sprNeg 0 0 (allLanes b k) b
  sendCaps k (allLanes b k) (b.setSpr k { b.spr k with seen := 0, acked := 0 })

/-- The top of the loop of R334: a blind attempt where a version is stored, a negotiation otherwise. -/
def startLoop (c : Clk) (k : Nat) (b : Block) : Block :=
  let b := b.setSpr k { b.spr k with excl := 0, seen := 0, acked := 0 }
  let v := b.get F.SPR_K_CTL_VER_ST k
  if v = 3 then startNeg c k b
  else sendCaps k (allLanes b k) (startLanes c k sprBlind (b.get F.SPR_K_CTL_RATE_ST k) v (allLanes b k) b)

/-- SPR_K_CTL.EN written 1 (R330, R335): before first light the bring-up waits for it. -/
def sprEnable (c : Clk) (k : Nat) (b : Block) : Block :=
  let r := linkRefusal b k
  if r ≠ 0 then
    let v := (b.reg (F.SPR_K_CTL_EN.at k)).toNat
    sprConfigRefused (0x100 + 0x40 * k) v r (b.flag F.SPR_K_CTL_EN false k)
  else if b.get F.XSP_STAT_STAGE = 0 || b.sprState k ≠ sprDown then b
  else startLoop c k b

/-- The link takes time-stamps, and its version offers board time (R344). -/
def timeFit (b : Block) (k : Nat) : Bool :=
  linkStamps b k && 1 ≤ b.get F.SPR_K_STAT_VER k

/-- This part is a time client on the link, or a server (R344). -/
def timeClient (b : Block) (k : Nat) : Bool := 1 ≤ k && b.get F.SPR_TIME_CFG_DIR = k
def timeServer (b : Block) (k : Nat) : Bool := 1 ≤ k && (b.spr k).peerClient

/-- Board time cannot run on the link: recorded once for each bring-up (R344, code 0x4C07). -/
def timeUnfit (k : Nat) (b : Block) : Block :=
  let b := if timeClient b k then b.flag F.SPR_TIME_STAT_OK false else b
  if (b.spr k).noTime then b
  else
    ((b.setSpr k { b.spr k with noTime := true }).evt F.SPR_EVT_TIME).record 0x4C07 3 k (b.get F.SPR_K_STAT_RATE k)
      (b.get F.SPR_K_STAT_VER k)

/-- The entries of the link's transmit ring are sent (R340): Fihus messages on channel 5 or 10, each to the partner of
the link. -/
def sprRing (c : Clk) (m : Mem) (k : Nat) : Nat → Block → Block
  | 0, b => b
  | fuel + 1, b =>
    let r := b.get F.SPR_K_RING_TXR k
    if !b.sprUp k || r / 16 ≠ 15 || !txPending b r then b
    else
      let e := txEntry m b r
      let n := ofLe ((e.drop 8).take 2)
      let a := ofLe (e.take 8)
      let part := b.get F.LAD_RING_PART_PART r
      let (ok, b) := dramAccess c 5 part (b.ringBase r + 32 * b.get F.LAD_RING_HEAD_HEAD r) 32 false 15 b
      let (ok', b) := if ok && 0 < n && n ≤ 9216 then dramAccess c 5 part a n false 16 b else (false, b)
      let d := if k = 1 then (b.pos + 1) % b.ringN else (b.pos + b.ringN - 1) % b.ringN
      let b := if ok' then
          sprSend k { chan := if k = 0 then 5 else 10, dest := if k = 0 then 0 else 2 ^ d, body := .octets (m.bytes a n) } b
        else b
      sprRing c m k fuel (txDone c r e (some 0) b)

/-- Send all that the transmit rings of the links hold. -/
def sprRings (c : Clk) (m : Mem) (b : Block) : Block :=
  (List.range 3).foldl (fun b k => sprRing c m k (b.ringSize (b.get F.SPR_K_RING_TXR k)) b) b

/-- The aligned lanes of the pair link change its state for the PAIR block (R283, R339). -/
def pairLanes (c : Clk) (k : Nat) (b : Block) : Block :=
  if k = 0 then pairLink c (if b.sprUp 0 then b.get F.SPR_K_STAT_ACTIVE 0 else 0) b else b

/-- The link comes up (R334, code 0x4C01): numbers start at 0 (log 19). -/
def sprComesUp (c : Clk) (k : Nat) (b : Block) : Block :=
  let x := b.spr k
  let mask := x.aligned &&& x.lanes
  let b := b.setSpr k { x with
    nextTx := 0, nextRx := 0, nak := false, unacked := [], resends := 0, ackAt := c.steady, waiting := [], noTime := false,
    crossed := 0, told := 0, since := c.steady }
  let b := ((b.put F.SPR_K_STAT_STATE sprUpState k).put F.SPR_K_STAT_MASK mask k).put F.SPR_K_STAT_ACTIVE (count4 mask) k
  let b := sprEvt k F.SPR_EVT_UP F.SPR_EVT_P_UP b
  let b := pairLanes c k (b.record 0x4C01 2 k (b.get F.SPR_K_STAT_RATE k) (b.get F.SPR_K_STAT_VER k) mask)
  if (timeClient b k || timeServer b k) && !timeFit b k then timeUnfit k b else b

/-- The link comes up if enough lanes are aligned and a CAP passed R333. -/
def tryUp (c : Clk) (k : Nat) (b : Block) : Block :=
  let x := b.spr k
  let st := b.sprState k
  if (st = sprBlind || st = sprStep) && minLanes k ≤ count4 (x.aligned &&& x.lanes) && x.seen ≠ 0 then sprComesUp c k b else b

/-! ## CAP frames (R332, R333) -/

def capByte (cap : List Byte) (i : Nat) : Nat := (cap.getD i 0).toNat

/-- The partner's role and place fit the link (R333): `id` is CAP byte 4. -/
def capPlaceOk (b : Block) (k id : Nat) : Bool :=
  let role := id % 4
  let unit := bit id 2
  let pos := bits id 3 2
  let n := b.ringN
  if k = 0 then role = 0 && pos = b.pos && unit ≠ b.on F.SYS_STRAP_UNIT
  else if k = 1 then role = 2 && pos = (b.pos + 1) % n
  else role = 1 && pos = (b.pos + n - 1) % n

/-- Why a partner's CAP is refused, or 0 (R333). -/
def capRefusal (b : Block) (k : Nat) (cap : List Byte) : Nat :=
  if capByte cap 6 + 256 * capByte cap 7 ≠ 0x7240 then 0x10
  else if capByte cap 8 % 8 ≠ b.ringN then 0x11
  else if !capPlaceOk b k (capByte cap 4) then 0x12
  else 0

/-- A refused link (R333, code 0x4C03). -/
def sprRefuse (c : Clk) (k : Nat) (cap : List Byte) (reason : Nat) (b : Block) : Block :=
  let b := (b.put F.SPR_K_STAT_STATE sprRefused k).put F.SPR_K_STAT_REASON reason k
  let b := (b.put F.SPR_K_STAT_MASK 0 k).put F.SPR_K_STAT_ACTIVE 0 k
  let b := b.setSpr k { b.spr k with since := c.steady, aligned := 0 }
  (sprEvt k F.SPR_EVT_REFUSED F.SPR_EVT_P_REFUSED b).record 0x4C03 4 k (capByte cap 4)
    (capByte cap 6 + 256 * capByte cap 7) reason

/-- CAP is sent in a negotiation and for 1 ms after a blind start (R332). -/
def sendsCap (c : Clk) (b : Block) (k : Nat) : Bool :=
  b.sprState k = sprNeg || (b.sprState k = sprBlind && c.steady < (b.spr k).since + msTick)

/-- A CAP frame arrives on a lane of the link (R332-R334): the part's next CAP on it reports that it has come. -/
def capFrame (c : Clk) (k j : Nat) (cap : List Byte) (b : Block) : Block :=
  let st := b.sprState k
  if st = sprDown || st = sprRefused || capByte cap 0 ≠ 1 then b
  else
    let b := ((b.put F.SPR_K_PEER_VERMAX (capByte cap 1) k).put F.SPR_K_PEER_ID (capByte cap 4) k).put F.SPR_K_PEER_RING
      (capByte cap 8) k
    let x := b.spr k
    let x := { x with
      peerVer := capByte cap 1, peerRates := capByte cap 2, peerExcl := capByte cap 3, peerClient := bit (capByte cap 5) 6 }
    if st = sprUpState then b.setSpr k x
    else
      let r := capRefusal b k cap
      if r ≠ 0 then sprRefuse c k cap r (b.setSpr k x)
      else
        let acked := if bit (capByte cap 5) 7 then x.acked ||| 2 ^ j else x.acked
        let b := b.setSpr k { x with seen := x.seen ||| 2 ^ j, acked := acked }
        tryUp c k (if sendsCap c b k then sendCaps k (2 ^ j) b else b)

/-- The lower of the two versions, as a code (R331): this part's is 1.2. -/
def agreedVersion (peer : Nat) : Nat := if peer < 0x11 then 0 else if peer < 0x12 then 1 else 2

/-- The highest rate code that a version allows (table Sprue versions). -/
def versionRate (v : Nat) : Nat := if v = 0 then 2 else if v = 1 then 4 else 5

/-- The rate that both ends choose (R334); code 0 where no other is left. -/
def agreedRate (b : Block) (k : Nat) : Nat :=
  let x := b.spr k
  let top := min (b.get F.SPR_K_CTL_RATE_MAX k) (versionRate (agreedVersion x.peerVer))
  (((List.range (top + 1)).filter fun r => bit x.peerRates r && !bit x.excl r && !bit x.peerExcl r).getLast?).getD 0

/-- GO frames cross and both ends switch (R334): 16 on each lane that both ends heard. -/
def goFrames (c : Clk) (k : Nat) (b : Block) : Block :=
  let x := b.spr k
  let lanes := x.seen &&& x.acked
  if b.sprState k ≠ sprNeg || count4 lanes < minLanes k then b
  else
    let ver := agreedVersion x.peerVer
    let rate := agreedRate b k
    let b := ((List.range 4).filter (bit lanes)).foldl (fun b j =>
      (List.range 16).foldl (fun b _ => b.emit (.manage k 2 j)) b) b
    startLanes c k sprStep rate ver lanes b

/-- A blind attempt ends (R334). -/
def blindTimeout (c : Clk) (k : Nat) (b : Block) : Block :=
  if b.sprState k ≠ sprBlind || c.steady < (b.spr k).since + b.get F.SPR_K_CTL_BLIND_MS k * msTick then b
  else if b.on F.SPR_K_CTL_BRING k then startLoop c k b
  else startNeg c k (b.setSpr k { b.spr k with excl := 0 })

/-- A negotiation ends without an answer (R334). -/
def negTimeout (c : Clk) (k : Nat) (b : Block) : Block :=
  if b.sprState k ≠ sprNeg || c.steady < (b.spr k).since + b.get F.SPR_K_NEG_NEG_MS k * msTick then b else startLoop c k b

/-- No alignment within 10 ms after a switch (R334, code 0x4C04). -/
def stepFailed (c : Clk) (k : Nat) (b : Block) : Block :=
  if b.sprState k ≠ sprStep || c.steady < (b.spr k).since + 10 * msTick then b
  else
    let rate := b.get F.SPR_K_STAT_RATE k
    let x := b.spr k
    let excl := x.excl ||| 2 ^ rate
    let b := (b.setSpr k { x with excl := excl }).inc F.SPR_K_CNT2_FALLBACKS k
    let b := (sprEvt k F.SPR_EVT_FALLBACK F.SPR_EVT_P_FALLBACK b).record 0x4C04 3 k rate excl
    if rate = 0 then startLoop c k b else startNeg c k b

/-- A refused link starts again after 1 s (R333). -/
def refusedRetry (c : Clk) (k : Nat) (b : Block) : Block :=
  if b.sprState k ≠ sprRefused || c.steady < (b.spr k).since + sTick then b else startLoop c k b

/-! ## Peer frames that end (R343) -/

/-- The buffer of a peer frame under way is given up: FREE once no layer uses it. -/
def dropPeer (s cause : Nat) (b : Block) : Block :=
  match (b.src s).peer with
  | none => b
  | some (i, n, _) =>
    let k := bufKey (b.poolOf s) i
    let b := b.setSrc s { b.src s with peer := none }
    let b := if (b.buf k).state == .filling then
        retireBuf k (b.setBuf k { b.buf k with abandoned := true }) else b
    (b.evt F.SPR_EVT_DROP).record 0x4C06 3 (b.get F.LAD_SRC_PORT_PORT_A s % 4) (b.get F.LAD_SRC_PORT_PORT_B s % 512) n cause

/-- Frames that are incomplete when their link goes down are dropped. -/
def dropPeersOf (k : Nat) (b : Block) : Block :=
  ((List.range 384).filter fun s => match (b.src s).peer with | some (_, _, l) => l = k | none => false).foldl
    (fun b s => dropPeer s 0 b) b

/-! ## Going down, lanes, alignment (R336, R339) -/

/-- The link leaves UP (R339, code 0x4C02): its unacknowledged frames are discarded. -/
def leaveUp (c : Clk) (k cause : Nat) (b : Block) : Block :=
  let x := b.spr k
  let n := x.unacked.length + x.waiting.length
  let b := b.setSpr k { x with unacked := [], waiting := [], resends := 0, crossed := 0, told := 0 }
  let b := (b.inc F.SPR_K_CNT2_DOWNS k).put F.SPR_K_STAT_STATE sprDown k
  let b := (b.put F.SPR_K_STAT_MASK 0 k).put F.SPR_K_STAT_ACTIVE 0 k
  let b := (sprEvt k F.SPR_EVT_DOWN F.SPR_EVT_P_DOWN b).record 0x4C02 3 k cause n
  let b := if timeClient b k then b.flag F.SPR_TIME_STAT_OK false else b
  pairLanes c k (dropPeersOf k b)

/-- The link goes down and starts again at once, unless EN is 0. -/
def linkDown (c : Clk) (k cause : Nat) (b : Block) : Block :=
  let b := leaveUp c k cause b
  if b.on F.SPR_K_CTL_EN k then startLoop c k b else b

/-- SPR_K_CTL.EN written 0 (R339). -/
def sprDisable (c : Clk) (k : Nat) (b : Block) : Block :=
  if b.sprState k = sprUpState then leaveUp c k 2 b
  else
    let b := (b.put F.SPR_K_STAT_STATE sprDown k).put F.SPR_K_STAT_MASK 0 k
    (b.put F.SPR_K_STAT_ACTIVE 0 k).setSpr k { b.spr k with aligned := 0 }

/-- What takes a link down: too few lanes, replay exhausted, EN 0 (R338, R339). -/
def checkDown (c : Clk) (k : Nat) (b : Block) : Block :=
  let x := b.spr k
  if !b.on F.SPR_K_CTL_EN k then (if b.sprState k = sprDown then b else sprDisable c k b)
  else if b.sprState k ≠ sprUpState then b
  else if count4 (x.aligned &&& x.lanes) < minLanes k then linkDown c k 0 b
  else if 8 ≤ x.resends then linkDown c k 1 b
  else b

/-- A lane leaves the active lanes of an up link, or is added again (R339, code 0x4C05). -/
def setActive (c : Clk) (k j : Nat) (on : Bool) (b : Block) : Block :=
  let m := b.get F.SPR_K_STAT_MASK k
  if bit m j = on then b
  else
    let m := if on then m + 2 ^ j else m - 2 ^ j
    let b := (b.put F.SPR_K_STAT_MASK m k).put F.SPR_K_STAT_ACTIVE (count4 m) k
    let b := if on then b else b.inc F.SPR_K_CNT2_LANES_OUT k
    let b := (sprEvt k F.SPR_EVT_LANE F.SPR_EVT_P_LANE b).record 0x4C05 3 k (linkLane b k j) (b2n on) (count4 m)
    pairLanes c k b

/-- A removed lane that is aligned here: LANE_UP is sent for it once, and it is added again when one for it has come (R339,
log 84). -/
def laneAdd (c : Clk) (k j : Nat) (b : Block) : Block :=
  let x := b.spr k
  if !bit x.aligned j || !bit x.lanes j || bit (b.get F.SPR_K_STAT_MASK k) j then b
  else
    let b := if bit x.told j then b else (b.setSpr k { x with told := x.told + 2 ^ j }).emit (.manage k 6 j)
    if bit x.crossed j then setActive c k j true b else b

/-- A LANE_UP comes for a lane (R339). -/
def laneUpCame (c : Clk) (k j : Nat) (b : Block) : Block :=
  let x := b.spr k
  if !b.sprUp k || b.get F.SPR_K_STAT_VER k ≠ 2 || bit (b.get F.SPR_K_STAT_MASK k) j then b
  else laneAdd c k j (b.setSpr k { x with crossed := x.crossed ||| 2 ^ j })

/-- A lane is removed; the link goes down where too few would remain (R339). -/
def laneRemove (c : Clk) (k j : Nat) (b : Block) : Block :=
  let x := b.spr k
  let m := b.get F.SPR_K_STAT_MASK k
  let without (m : Nat) : Nat := if bit m j then m - 2 ^ j else m
  let b := b.setSpr k { x with crossed := without x.crossed, told := without x.told }
  if count4 (without m) < minLanes k then linkDown c k 0 b else setActive c k j false b

/-- A lane of the link gains alignment, which takes one that is up, or loses it (R336, R339). -/
def laneAlign (c : Clk) (k j : Nat) (on : Bool) (b : Block) : Block :=
  let x := b.spr k
  if b.sprState k = sprDown || b.sprState k = sprRefused || bit x.aligned j = on || !bit x.lanes j ||
      (on && !b.laneUp (linkLane b k j)) then b
  else
    let x := { x with aligned := if on then x.aligned + 2 ^ j else x.aligned - 2 ^ j }
    let b := b.setSpr k x
    if b.sprState k ≠ sprUpState then (if on then tryUp c k b else b)
    else if b.get F.SPR_K_STAT_VER k = 2 then
      if on then laneAdd c k j b
      else if count4 (x.aligned &&& x.lanes) < minLanes k then linkDown c k 0 b
      else laneRemove c k j (b.emit (.manage k 5 j))
    else if on then b
    else
      let rest := x.aligned &&& x.lanes
      if count4 rest < minLanes k then linkDown c k 0 b
      else
        let rate := b.get F.SPR_K_STAT_RATE k
        let ver := b.get F.SPR_K_STAT_VER k
        let b := leaveUp c k 3 b
        sendCaps k rest (startLanes c k sprBlind rate ver rest (b.setSpr k { b.spr k with seen := 0, acked := 0 }))

/-- A lane that goes down loses the alignment of its link (R336). -/
def laneLost (c : Clk) (l : Nat) (b : Block) : Block :=
  (List.range 3).foldl (fun b k => (List.range (min 4 (b.nLanes k))).foldl (fun b j =>
    if b.on F.SPR_K_CTL_EN k && linkLane b k j = l then laneAlign c k j false b else b) b) b

/-- A lane goes down with what it carries. -/
def laneFails (c : Clk) (l cause : Nat) (b : Block) : Block := laneLost c l (laneDown l cause b)

/-- Every lane of a quad goes down for want of a clock (R317, code 0x4003). -/
def pllUnlocked (c : Clk) (q : Nat) (ref : Bool) (b : Block) : Block :=
  let was := b.on F.LNK_Q_STAT_PLL_LOCK q
  let b := (b.flag F.LNK_Q_STAT_PLL_LOCK false q).flag F.LNK_Q_STAT_REF_ACT ref q
  if !was then b
  else
    let b := (b.evt F.LNK_EVT_PLL q).record (inst := q) 0x4003 4 q (q / 4)
    (List.range 4).foldl (fun b i => if b.laneUp (4 * q + i) then laneFails c (4 * q + i) 2 b else b) b

/-- LNK_L_CTL.EN of a lane (R318, R348): a reserved mode is refused; a lane that is disabled goes down. -/
def laneEnable (l : Nat) (b : Block) : Block :=
  if 4 < b.laneMode l then
    let v := (b.reg (F.LNK_L_CTL_EN.at (l / 4) (l % 4))).toNat
    ((b.flag F.LNK_L_CTL_EN false (l / 4) (l % 4)).evt F.LNK_EVT_CFG_ERR (l / 4)).record (inst := (l / 4)) 0x4006 3
      (0x100 + 0x20 * (l % 4)) v 0x01
  else b

def laneDisable (c : Clk) (l : Nat) (b : Block) : Block := if b.laneUp l then laneFails c l 0 b else b

/-! ## Replay (R338) -/

/-- The acknowledgement advances to `n`: the frames up to it leave the replay space. -/
def sprAcked (c : Clk) (k n : Nat) (b : Block) : Block :=
  let x := b.spr k
  match x.unacked.findIdx? fun f => f.seq = n with
  | none => b
  | some i => b.setSpr k { x with unacked := x.unacked.drop (i + 1), resends := 0, ackAt := c.steady }

/-- Send the frames that wait, as far as the replay space has room. -/
def sprFlow (k : Nat) (b : Block) : Block := sprPump k ((b.spr k).waiting.length + 1) b

/-- The acknowledgement advances, and frames that wait are sent. -/
def sprAck (c : Clk) (k n : Nat) (b : Block) : Block := sprFlow k (sprAcked c k n b)

/-- Resend all unacknowledged frames in their order; at the ninth time the link goes down. -/
def sprResend (c : Clk) (k : Nat) (b : Block) : Block :=
  let x := b.spr k
  if x.unacked.isEmpty then b
  else if 8 ≤ x.resends then linkDown c k 1 b
  else
    let b := b.setSpr k { x with resends := x.resends + 1, ackAt := c.steady }
    let b := b.inc F.SPR_K_CNT_RESENT k 0 0 x.unacked.length
    x.unacked.foldl (fun b f => b.sendFrame k f true x.ack) b

/-- A NAK names the number that the partner expects: resent frames go before new ones (R340). -/
def sprNak (c : Clk) (k n : Nat) (b : Block) : Block :=
  if b.sprUp k then
    let b := sprResend c k (sprAcked c k ((n + 65535) % 65536) b)
    if b.sprUp k then sprFlow k b else b
  else b

/-- No advance for 20 µs with frames outstanding. -/
def replayTimeout (c : Clk) (k : Nat) (b : Block) : Block :=
  if b.sprUp k && (b.spr k).ackAt + 20 * usTick ≤ c.steady then sprResend c k b else b

/-! ## Peer shares: the origin (R342) -/

def Block.share (b : Block) (e : Nat) : ShareSt := tget {} b.shares e
def Block.setShare (b : Block) (e : Nat) (x : ShareSt) : Block := { b with shares := tput {} b.shares e x }

/-- Why a share is refused, or 0. -/
def shareRefusal (b : Block) (e : Nat) : Nat :=
  let d := b.get F.SPR_SH_CFG_DEST e
  let named := (List.range 4).filter (bit d)
  if !b.srcRuns (b.get F.SPR_SH_CFG_SRC e) || named.all (· = b.pos) || named.any (b.ringN ≤ ·) then 0x07 else 0

/-- SPR_SH_CFG.EN written 1 (R342, code 0x4C08). -/
def shareEnable (e : Nat) (b : Block) : Block :=
  let r := shareRefusal b e
  if r = 0 then b.setShare e {}
  else
    let v := (b.reg (F.SPR_SH_CFG_EN.at e)).toNat
    sprConfigRefused (0x400 + 8 * e) v r (b.flag F.SPR_SH_CFG_EN false e)

/-- A peer slice frame (table Peer slice frame payload). -/
def slice (b : Block) (kind src frame off rows : Nat) (rest : List Byte) : SprBody :=
  .octets ([BitVec.ofNat 8 kind, BitVec.ofNat 8 b.pos] ++ leBytes 2 src ++ leBytes 4 frame ++ leBytes 4 off ++
    leBytes 2 rows ++ [0, 0] ++ rest)

/-- Send a slice frame to the positions of a share. -/
def sendSlice (e kind frame off rows : Nat) (rest : List Byte) (b : Block) : Block :=
  ringSend 9 (b.get F.SPR_SH_CFG_DEST e) (slice b kind (b.get F.SPR_SH_CFG_SRC e) frame off rows rest) b

/-- The age of a frame in whole µs, rounded up (R119). -/
def ageUs (c : Clk) (base : Int) : Nat := (((c.ns64 : Int) - base + 999) / 1000).toNat

/-- The HEAD frame of the picture in buffer `key`. -/
def shareHead (c : Clk) (e key frame : Nat) (b : Block) : Block :=
  let x := b.buf key
  let b := b.setShare e { cur := some (frame, key, 0) }
  sendSlice e 0 frame 0 0 (x.header.take 96 ++ leBytes 6 c.sec ++ leBytes 4 c.ns ++ leBytes 4 (ageUs c x.ageBase)) b

/-- The packed rows from `a` to `z` of a picture, without their pitch. -/
def packedRows (m : Mem) (b : Block) (s i a z : Nat) : List Byte :=
  (List.range (z - a)).flatMap fun y => m.bytes (b.rowAddr (b.poolOf s) i (a + y)) (storedRowSize b s)

/-- DATA frames of up to 9168 pixel octets (R342): `rows` 16-line rows are final at the origin. -/
def shareData (e frame mark size height rows : Nat) : Nat → Nat → List Byte → Block → Block
  | 0, _, _, b => b
  | fuel + 1, off, l, b =>
    if l.isEmpty then b
    else
      let d := l.take 9168
      let lines := if size = 0 then 0 else (off + d.length) / size
      let done := if height ≤ lines then (height + 15) / 16 else lines / 16
      let b := sendSlice e 1 frame off (min rows done) (leBytes 32 mark ++ d) b
      shareData e frame mark size height rows fuel (off + d.length) (l.drop 9168) b

/-- Send the stored rows of a picture that are final: up to line `upto`. -/
def shareRows (m : Mem) (e s key frame sent upto rows : Nat) (b : Block) : Block :=
  if upto ≤ sent then b
  else
    let size := storedRowSize b s
    let l := packedRows (m.puts b.stores) b s (key % 16) sent upto
    let b := b.setShare e { cur := some (frame, key, upto) }
    shareData e frame (b.buf key).rowmark size (b.srcHeight s) rows (l.length / 9168 + 1) (sent * size) l b

/-- The rest of a picture that is READY, and its END frame. -/
def shareEnd (m : Mem) (e s key frame sent : Nat) (b : Block) : Block :=
  let h := b.srcHeight s
  let b := shareRows m e s key frame sent h ((h + 15) / 16) b
  let b := sendSlice e 2 frame 0 0 ((b.buf key).header.take 96) b
  (b.setShare e {}).wrap F.SPR_SH_STAT_SENT e

/-- The picture in decode of a source: its buffer, frame number, and 16-line rows behind its watermark (R145). -/
def picOf (b : Block) (s : Nat) : Option (Nat × Nat × Nat) :=
  if 2 ≤ b.transport s then none
  else match (b.eng (b.get F.LAD_SRC_DEC_ENGINE s)).pic with
    | some p => if p.src = s then
        some (bufKey (b.poolOf s) p.buf, p.frame, (b.buf (bufKey (b.poolOf s) p.buf)).rowsReady) else none
    | none => none

/-- Send what a share owes: with MODE 1 the picture in decode under its watermark, otherwise frames that have become
READY; a picture that left without becoming READY is abandoned (R342). -/
def shareStep (c : Clk) (m : Mem) (e : Nat) (b : Block) : Block :=
  let s := b.get F.SPR_SH_CFG_SRC e
  let ready := b.readied.filter fun q => q.1 = s
  let b := ready.foldl (fun b q =>
    let key := bufKey q.2.1 q.2.2
    let frame := (b.buf key).frame
    match (b.share e).cur with
    | some (f, k, sent) =>
      if f = frame && k = key then shareEnd m e s key frame sent b
      else shareEnd m e s key frame 0 (shareHead c e key frame b)
    | none => shareEnd m e s key frame 0 (shareHead c e key frame b)) b
  if !b.on F.SPR_SH_CFG_MODE e then b
  else
    let pic := picOf b s
    let gone : Bool := match (b.share e).cur with
      | some (f, k, _) =>
        (match pic with | some (k', f', _) => k' ≠ k || f' ≠ f | none => true) &&
          !((b.buf k).state == .filling && (b.buf k).frame = f && (b.buf k).src = s && !(b.buf k).abandoned)
      | none => false
    let b := if gone then
        match (b.share e).cur with
        | some (f, _, _) => ((sendSlice e 3 f 0 0 [] b).setShare e {}).inc F.SPR_SH_STAT_ABANDONED e
        | none => b
      else b
    match pic with
    | none => b
    | some (key, frame, rows) =>
      let b := if (b.share e).cur.isNone then shareHead c e key frame b else b
      match (b.share e).cur with
      | some (f, k, sent) =>
        if f = frame && k = key then shareRows m e s key frame sent (min (16 * rows) (b.srcHeight s)) rows b else b
      | none => b

/-- Every enabled share sends what it owes. -/
def shareSync (c : Clk) (m : Mem) (b : Block) : Block :=
  ((List.range 64).filter (b.on F.SPR_SH_CFG_EN ·)).foldl (fun b e => shareStep c m e b) b

/-! ## Peer shares: the receiver (R119-R121, R343) -/

/-- The running transport-3 source that names an origin position and source. -/
def peerSource (b : Block) (pos src : Nat) : Option Nat :=
  (List.range 384).find? fun s =>
    b.srcRuns s && b.transport s = 3 && b.get F.LAD_SRC_PORT_PORT_A s % 4 = pos && b.get F.LAD_SRC_PORT_PORT_B s % 512 = src

/-- Stored row size of the layout that LAD_SRC_DEC.LAYOUT of the receiving source names. -/
def peerRowSize (b : Block) (s : Nat) : Nat := if b.on F.LAD_SRC_DEC_LAYOUT s then 3 * b.srcWidth s else 6 * b.srcWidth s

/-- The age base of a peer-shared frame (R120): `sent` in PTP ns, `age` in µs. -/
def peerAgeBase (c : Clk) (b : Block) (s sent age : Nat) : Int :=
  let allowance := b.allowance s
  let hop := if !b.locked then allowance else (max 0 (min (allowance : Int) ((c.ptpNs : Int) - sent))).toNat
  (c.ns64 : Int) - ((age * 1000 + hop : Nat) : Int)

/-- The fields of a carried header that are used unchanged, with the peer-share flag set. -/
def carriedHeader (h : List Byte) (x : PoolBuf) : PoolBuf :=
  { x with
    rtpts := ofLe ((h.drop 16).take 4), frame := ofLe ((h.drop 20).take 4), cls := ofLe ((h.drop 24).take 1),
    flags := ofLe ((h.drop 25).take 1) ||| 4, rows := ofLe ((h.drop 26).take 2),
    fprint := BitVec.ofNat 32 (ofLe ((h.drop 28).take 4)), rowmark := ofLe ((h.drop 64).take 32) }

/-- A slice of no running source is counted. -/
def peerUnknown (k : Nat) (b : Block) : Block := b.inc F.SPR_K_CNT2_UNKNOWN k

/-- Slices come on link 1 or 2 while it is up, and the Ladles' domain takes them (R33, R340, R343). -/
def peerLink (b : Block) (k : Nat) : Bool := 1 ≤ k && b.sprUp k && ladOn b

/-- A HEAD frame (R343). -/
def peerHead (c : Clk) (k pos src frame : Nat) (h : List Byte) (sent age : Nat) (b : Block) : Block :=
  if !peerLink b k then b
  else match peerSource b pos src with
  | none => peerUnknown k b
  | some s =>
    let b := dropPeer s 0 b
    if bit (ofLe ((h.drop 25).take 1)) 3 ≠ b.on F.LAD_SRC_DEC_LAYOUT s then
      (b.evt F.SPR_EVT_DROP).record 0x4C06 3 pos src frame 2
    else match b.freeBuf (b.poolOf s) with
      | none => frameDropped s frame 0 b
      | some i =>
        let x : PoolBuf := { carriedHeader h {} with
          state := .filling, src := s, ageBase := peerAgeBase c b s sent age, arrival := c.ns64, frame := frame }
        (b.tookFree.setBuf (bufKey (b.poolOf s) i) x).setSrc s { b.src s with peer := some (i, frame, k) }

/-- The Flask refuses a write of a peer frame: it is abandoned (R117). -/
def peerRefused (s i frame : Nat) (b : Block) : Block :=
  let key := bufKey (b.poolOf s) i
  let b := b.setSrc s { b.src s with peer := none }
  frameDropped s frame 1 (retireBuf key (b.setBuf key { b.buf key with abandoned := true }))

/-- Pieces of octets from offset `o` of the packed rows, each within one stored row: address and octets. -/
def placeOctets (base size pitch : Nat) : Nat → Nat → List Byte → List (Nat × List Byte)
  | 0, _, _ => []
  | fuel + 1, o, l =>
    if l.isEmpty || size = 0 then []
    else
      let n := size - o % size
      (base + o / size * pitch + o % size, l.take n) :: placeOctets base size pitch fuel (o + n) (l.drop n)

/-- A DATA frame (R121, R343). -/
def peerData (c : Clk) (k pos src frame off rows mark : Nat) (l : List Byte) (b : Block) : Block :=
  if !peerLink b k then b
  else match peerSource b pos src with
  | none => peerUnknown k b
  | some s =>
    match (b.src s).peer with
    | none => b
    | some (i, n, _) =>
      if n ≠ frame then b
      else
        let p := b.poolOf s
        let size := peerRowSize b s
        let l := l.take (size * b.srcHeight s - off)
        let pieces := placeOctets (b.rowAddr p i 0) size (b.poolPitch p) (l.length + 1) off l
        let (ok, b) := pieces.foldl (fun (q : Bool × Block) x =>
          if !q.1 then q
          else
            let (ok, b) := dramAccess c 5 (q.2.poolPart p) x.1 x.2.length true 16 q.2
            (ok, if ok then b.store x.1 x.2 else b)) (true, b)
        if !ok then peerRefused s i frame b
        else
          let key := bufKey p i
          b.setBuf key { b.buf key with rowsReady := rows, rowmark := mark }

/-- An END frame completes the shared frame (R120, R343). -/
def peerEnd (c : Clk) (m : Mem) (k pos src frame : Nat) (h : List Byte) (b : Block) : Block :=
  if !peerLink b k then b
  else match peerSource b pos src with
  | none => peerUnknown k b
  | some s =>
    match (b.src s).peer with
    | none => b
    | some (i, n, _) =>
      if n ≠ frame then b
      else
        let key := bufKey (b.poolOf s) i
        let x := carriedHeader h (b.buf key)
        let f : OpenFrame := {
          number := frame, rtpts := BitVec.ofNat 32 x.rtpts, first := 0, last := none, seq := 0, path := false
          ageBase := x.ageBase, arrival := x.arrival, stamp := 0, gen := 0, known := bit x.flags 0, buf := some i
          dropped := false, lost := [], complete := some c.steady, awaits := b.agrees s, repaired := bit x.flags 1 }
        let b := b.setBuf key { x with frame := frame, rowsReady := x.rows }
        let b := b.setSrc s { b.src s with peer := none, frames := (b.src s).frames ++ [f] }
        peerFinal c s (keptLoss m s (sendLoss s f b))

/-- An ABANDON frame (R343, code 0x4C06). -/
def peerAbandon (k pos src frame : Nat) (b : Block) : Block :=
  if !peerLink b k then b
  else match peerSource b pos src with
  | none => peerUnknown k b
  | some s =>
    match (b.src s).peer with
    | some (_, n, _) => if n = frame then dropPeer s 1 b else b
    | none => b

/-- A peer slice frame by its octets (table Peer slice frame payload). -/
def peerSlice (c : Clk) (m : Mem) (k : Nat) (l : List Byte) (b : Block) : Block :=
  let at_ (i n : Nat) : Nat := ofLe ((l.drop i).take n)
  let pos := at_ 1 1 % 4
  let src := at_ 2 2
  let frame := at_ 4 4
  let d := l.drop 16
  match at_ 0 1 with
  | 0 => peerHead c k pos src frame (d.take 96) (ofLe ((d.drop 96).take 6) * 1000000000 + ofLe ((d.drop 102).take 4))
      (ofLe ((d.drop 106).take 4)) b
  | 1 => peerData c k pos src frame (at_ 8 4) (at_ 12 2) (ofLe (d.take 32)) (d.drop 32) b
  | 2 => peerEnd c m k pos src frame (d.take 96) b
  | 3 => peerAbandon k pos src frame b
  | _ => b

/-! ## Board time (R344, R345) -/

/-- The lowest-numbered active lane of a link, which carries board time. -/
def timeLane (b : Block) (k : Nat) : Nat := ((List.range 4).find? (bit (b.get F.SPR_K_STAT_MASK k))).getD 0

/-- The server sends a TIME block, 64 times a second of steady time (R345). -/
def timeExchange (c : Clk) (k : Nat) (b : Block) : Block :=
  if !b.sprUp k || !timeServer b k || (b.spr k).timeAt.any (fun t => c.steady < t + sTick / 64) then b
  else if !timeFit b k then timeUnfit k b
  else
    let x := b.spr k
    let n := (x.count + 1) % 256
    (b.setSpr k { x with count := n, t1 := c.ptpNs, timeAt := some c.steady }).emit (.timeBlock k (timeLane b k) n)

/-- A TIME block arrives: the client answers it, the server follows up (R345). -/
def timeBlock (c : Clk) (k n : Nat) (b : Block) : Block :=
  let x := b.spr k
  if !b.sprUp k || !timeFit b k then b
  else if timeClient b k then
    (b.setSpr k { x with count := n, t2 := c.ptpNs, t3 := c.ptpNs }).emit (.timeBlock k (timeLane b k) n)
  else if timeServer b k && n = x.count then
    sprSend k { chan := 8, body := .followUp (BitVec.ofNat 8 n) x.t1 c.ptpNs (Fin.ofNat 4 (b.get F.TIM_STAT_SRV)) } b
  else b

/-- The client's offset and the link delay in ns (R345): ASYM is in ps. -/
def timeOffset (t1 t2 t3 t4 : Nat) (asymPs : Int) : Int :=
  ((((t2 : Int) - t1) - ((t4 : Int) - t3)) * 1000 - asymPs) / 2000

def timeDelay (t1 t2 t3 t4 : Nat) : Int := (((t2 : Int) - t1) + ((t4 : Int) - t3)) / 2

/-- A follow-up completes the exchange (R345). -/
def timeFollowUp (c : Clk) (k n t1 t4 srv : Nat) (b : Block) : Block :=
  let x := b.spr k
  if !b.sprUp k || !timeClient b k || !timeFit b k || n ≠ x.count then b
  else
    let o := timeOffset t1 x.t2 x.t3 t4 (b.geti F.SPR_TIME_CFG_ASYM)
    let b := b.put2 F.SPR_TIME_OFS_LO_OFS_LO F.SPR_TIME_OFS_HI_OFS_HI (ofSigned 64 o)
    let b := b.put F.SPR_TIME_DLY_DLY (ofSigned 32 (timeDelay t1 x.t2 x.t3 t4))
    let b := (b.flag F.SPR_TIME_STAT_OK true).put F.SPR_TIME_STAT_SRV srv
    b.setSpr k { b.spr k with done := (x.done.filter fun t => c.steady < t + sTick) ++ [c.steady] }

/-- SPR_TIME_STAT as it reads now: exchanges of the last second and ms since the last. -/
def timeCount (c : Clk) (b : Block) : Nat :=
  let k := b.get F.SPR_TIME_CFG_DIR
  min 127 ((b.spr k).done.filter fun t => c.steady < t + sTick).length

def timeSince (c : Clk) (b : Block) : Nat :=
  match (b.spr (b.get F.SPR_TIME_CFG_DIR)).done.getLast? with
  | some t => min 65535 ((c.steady - t) / msTick)
  | none => 0

/-! ## Receiving (R338, R340, R341) -/

/-- The channels that a link carries. -/
def chanKnown (k chan : Nat) : Bool :=
  if k = 0 then chan ≤ 5 else chan = 8 || chan = 9 || chan = 10 || chan = 11

/-- Deliver a frame of channel 5 or 10 to the link's receive ring. -/
def deliverOctets (c : Clk) (k : Nat) (body : SprBody) (b : Block) : Block :=
  match body with
  | .octets l =>
    let r := b.get F.SPR_K_RING_RXR k
    if r / 16 = 15 then ringLoose c (linkStamps b k) r l b else b
  | x => if k = 0 then shopRelayed c x b else b

/-- A message of the partner (table Pair-link messages). -/
def pairMessage (c : Clk) (m : Mem) (msg : PairMsg) (b : Block) : Block :=
  match msg with
  | .health l => pairHealth c l b
  | .switchTo active frame => pairSwitch active frame.toNat b
  | .heat num epoch corr => pairHeat num.toNat epoch.toNat (corr.map fun q => (q.1.val, q.2)) b
  | .bandSeal h frame band v => pairSeal c h.val frame.toNat band.val v b
  | .vote pos h frame band v => pairVote c pos.val h.val frame.toNat band.val v b
  | .loss s rtpts lost tooMany => lossMessage c m s.val rtpts lost tooMany b
  | .ready s rtpts ptp => readyMessage s.val rtpts ptp b
  | .journal a v group frame => pairJournal (a - periphBase) v group frame.toNat b
  | .dim h req frame => if b.paired then dimForwarded h.val req.val frame.toNat b else b
  | .repairRequest s seq => if b.paired then repairRequest c s.val seq b else b
  | .repairAnswer s seq p => if b.paired && ladOn b then repairAnswer c s.val seq p b else b
  | .copy images => pairCopy images b
  | .copyEnd frame => pairCopyEnd frame.toNat b
  | .desk l => if b.paired then pairDesk l b else b

/-- A frame of the peer ring for this part (table Sprue channels): a time follow-up, a peer slice, a Fihus message, a vote. -/
def ringTake (c : Clk) (m : Mem) (k chan : Nat) (body : SprBody) (b : Block) : Block :=
  match body with
  | .followUp n t1 t4 srv => if chan = 8 then timeFollowUp c k n.toNat t1 t4 srv.val b else b
  | .vote pos h frame band v => if chan = 11 then voteFrame c pos h frame band v b else b
  | .octets l => if chan = 9 then peerSlice c m k l b else if chan = 10 then deliverOctets c k body b else b
  | _ => b

/-- A frame of the peer ring (R341): taken if its own bit is set, forwarded while any other remains. A follow-up is the
link's own (R345). -/
def ringForward (c : Clk) (m : Mem) (k chan dest : Nat) (body : SprBody) (b : Block) : Block :=
  let own := bit dest b.pos
  let rest := if own then dest - 2 ^ b.pos else dest
  let b := if own || chan = 8 then ringTake c m k chan body b else b
  if rest = 0 || chan = 8 then b
  else sprSend (3 - k) { chan := chan, dest := rest, transit := true, body := withDest chan rest body } b

/-- A sequenced frame arrives (R338, R340): accepted in order, delivered to its channel or forwarded. A frame of channel 15
is not sequenced; what it says is a command of its own. -/
def sprReceive (c : Clk) (m : Mem) (k : Nat) (crcOk : Bool) (chan seq ack dest : Nat) (body : SprBody) (b : Block) : Block :=
  let x := b.spr k
  if !b.sprUp k then b
  else if chan = 15 then (if crcOk then b else b.inc F.SPR_K_CNT_CRC k)
  else if !crcOk || seq ≠ x.nextRx then
    let b := b.inc F.SPR_K_CNT_CRC k
    if x.nak then b else (b.setSpr k { x with nak := true }).emit (.manage k 3 x.nextRx)
  else
    let b := b.setSpr k { x with nextRx := (x.nextRx + 1) % 65536, nak := false }
    let b := sprAck c k ack (b.emit (.manage k 4 seq))
    if !chanKnown k chan then b.inc F.SPR_K_CNT2_UNKNOWN k
    else if chan = 5 then deliverOctets c k body b
    else if 8 ≤ chan then ringForward c m k chan dest body b
    else match body with
      | .pair msg => if msgClass msg = chan then pairMessage c m msg b else b
      | _ => b

/-! ## The cage chain (R346, R347) -/

/-- Bits that agree in the last three scans take the new value. -/
def debounced (old a x y : Nat) : Nat :=
  ((List.range 64).filter fun i => if bit a i = bit x i && bit x i = bit y i then bit a i else bit old i).foldl
    (fun m i => m + 2 ^ i) 0

/-- The output bits: transmit disable is active for a lane that is disabled or whose quad is off (R347). -/
def cageOutputs (b : Block) : Nat :=
  (List.range 64).foldl (fun v n =>
    let on := (List.range 48).filter fun l => b.get F.LNK_CAGE_MAP_TXD l = n
    let act := on.any fun l => !b.laneEn l || !b.quadOn (l / 4)
    match on with
    | [] => v
    | l :: _ => if b.get F.LNK_CAGE_CTL_LEN 0 ≤ n then v else if act != b.on F.LNK_CAGE_MAP_TXD_POL l then v + 2 ^ n else v) 0

/-- A debounced change of a presence bit (codes 0x4004, 0x4005). -/
def cageChange (n : Nat) (b : Block) : Block :=
  match (List.range 48).find? fun l => b.get F.LNK_CAGE_MAP_PRES l = n with
  | none => b
  | some l =>
    let b := b.evt F.LNK_EVT_CAGE 0
    if cagePresent b l then b.record 0x4004 2 l n else b.record 0x4005 3 l n

/-- What the cage of a lane asserts on it (R320): a lane that is up goes down; on one that is down its cause follows. -/
def cageAsserts (c : Clk) (l : Nat) (b : Block) : Block :=
  let cause := (if moduleLos b l then 16 else 0) + (if cagePresent b l then 0 else 32)
  if b.laneUp l then (if cause = 0 then b else laneFails c l cause b)
  else
    let old := b.get F.LNK_L_STAT_CAUSE (l / 4) (l % 4)
    laneCause l (old % 16 + cause) b

/-- One scan of the chain, every PERIOD µs while it runs. -/
def cageScan (c : Clk) (inputs : Nat) (b : Block) : Block :=
  if !b.on F.LNK_CAGE_CTL_EN 0 || b.lanes.scanAt.any (fun t => c.steady < t + b.get F.LNK_CAGE_CTL_PERIOD 0 * usTick) then b
  else
    let a := inputs % 2 ^ b.get F.LNK_CAGE_CTL_LEN 0
    let old := cageInputs b
    let new := match b.lanes.scans with
      | x :: y :: _ => debounced old a x y
      | _ => old
    let b := { b with lanes := { b.lanes with scans := a :: b.lanes.scans.take 1, scanAt := some c.steady } }
    let b := (b.put F.LNK_CAGE_IN_LO_IN new).put F.LNK_CAGE_IN_HI_IN (new / 2 ^ 32)
    let b := ((List.range 64).filter fun n => bit old n ≠ bit new n).foldl (fun b n => cageChange n b) b
    let out := cageOutputs b
    let b := (b.put F.LNK_CAGE_OUT_LO_OUT out).put F.LNK_CAGE_OUT_HI_OUT (out / 2 ^ 32)
    (List.range 48).foldl (fun b l => cageAsserts c l b) b

/-! ## Commands -/

/-- LANE_UP (R320). -/
def execLaneUp (dt : Nat) (lane : Lane) (s : State) : Host.Outcome State Fault Refusal :=
  s.run dt fun c _ b => laneUp c lane.val b

/-- LANE_DOWN (R320). -/
def execLaneDown (dt : Nat) (lane : Lane) (cause : BitVec 6) (s : State) : Host.Outcome State Fault Refusal :=
  s.run dt fun c m b => shareSync c m (laneFails c lane.val cause.toNat b)

/-- PLL_UNLOCKED (R317). -/
def execPllUnlocked (dt : Nat) (quad : Fin 12) (refActive : Bool) (s : State) : Host.Outcome State Fault Refusal :=
  s.run dt fun c m b => shareSync c m (pllUnlocked c quad.val refActive b)

/-- PLL_LOCKED (R317). -/
def execPllLocked (dt : Nat) (quad : Fin 12) (s : State) : Host.Outcome State Fault Refusal :=
  s.run dt fun _ _ b => if b.quadOn quad.val then
    (b.flag F.LNK_Q_STAT_PLL_LOCK true quad.val).flag F.LNK_Q_STAT_REF_ACT true quad.val else b

/-- MAC_FRAME_RECEIVE (R323-R326). -/
def execMacFrameReceive (dt : Nat) (lane : Lane) (frame : List Byte) (fcsOk : Bool) (s : State) :
    Host.Outcome State Fault Refusal :=
  s.run dt fun c m b => shareSync c m (macReceive c lane.val frame fcsOk b)

/-- MAC_TRANSMIT (R328). -/
def execMacTransmit (dt : Nat) (lane : Lane) (s : State) : Host.Outcome State Fault Refusal :=
  s.run dt fun c m b => macTransmit c m lane.val b

/-- CAP (R332, R333). -/
def execCap (dt : Nat) (link : Fin 3) (lane : Fin 4) (cap : List Byte) (s : State) : Host.Outcome State Fault Refusal :=
  s.run dt fun c m b => sprRings c m (capFrame c link.val lane.val cap b)

/-- GO (R334). -/
def execGo (dt : Nat) (link : Fin 3) (s : State) : Host.Outcome State Fault Refusal :=
  s.run dt fun c _ b => goFrames c link.val b

/-- BLIND_TIMEOUT (R334). -/
def execBlindTimeout (dt : Nat) (link : Fin 3) (s : State) : Host.Outcome State Fault Refusal :=
  s.run dt fun c _ b => blindTimeout c link.val b

/-- NEGOTIATION_TIMEOUT (R334). -/
def execNegotiationTimeout (dt : Nat) (link : Fin 3) (s : State) : Host.Outcome State Fault Refusal :=
  s.run dt fun c _ b => negTimeout c link.val b

/-- RATE_STEP_FAILED (R334). -/
def execRateStepFailed (dt : Nat) (link : Fin 3) (s : State) : Host.Outcome State Fault Refusal :=
  s.run dt fun c _ b => stepFailed c link.val b

/-- REFUSED_RETRY (R333). -/
def execRefusedRetry (dt : Nat) (link : Fin 3) (s : State) : Host.Outcome State Fault Refusal :=
  s.run dt fun c _ b => refusedRetry c link.val b

/-- LANE_ALIGN_CHANGE (R336, R339). -/
def execLaneAlignChange (dt : Nat) (link : Fin 3) (lane : Fin 4) (aligned : Bool) (s : State) :
    Host.Outcome State Fault Refusal :=
  s.run dt fun c m b => sprRings c m (shareSync c m (laneAlign c link.val lane.val aligned b))

/-- SPRUE_LINK_DOWN (R339). -/
def execSprueLinkDown (dt : Nat) (link : Fin 3) (s : State) : Host.Outcome State Fault Refusal :=
  s.run dt fun c m b => shareSync c m (checkDown c link.val b)

/-- SPRUE_FRAME_RECEIVE (R338, R340, R341). -/
def execSprueFrameReceive (dt : Nat) (link : Fin 3) (crcOk : Bool) (chan : Byte) (seq ack : BitVec 16) (dest : Fin 16)
    (body : SprBody) (s : State) : Host.Outcome State Fault Refusal :=
  s.run dt fun c m b => sprRings c m (shareSync c m (sprReceive c m link.val crcOk chan.toNat seq.toNat ack.toNat dest.val body b))

/-- NAK (R338). -/
def execNak (dt : Nat) (link : Fin 3) (expected : BitVec 16) (s : State) : Host.Outcome State Fault Refusal :=
  s.run dt fun c m b => sprRings c m (shareSync c m (sprNak c link.val expected.toNat b))

/-- ACK (R338). -/
def execAck (dt : Nat) (link : Fin 3) (last : BitVec 16) (s : State) : Host.Outcome State Fault Refusal :=
  s.run dt fun c m b => sprRings c m (if b.sprUp link.val then sprAck c link.val last.toNat b else b)

/-- REPLAY_TIMEOUT (R338). -/
def execReplayTimeout (dt : Nat) (link : Fin 3) (s : State) : Host.Outcome State Fault Refusal :=
  s.run dt fun c m b => shareSync c m (replayTimeout c link.val b)

/-- SPRUE_LANE_DOWN (R339). -/
def execSprueLaneDown (dt : Nat) (link : Fin 3) (lane : Fin 4) (s : State) : Host.Outcome State Fault Refusal :=
  s.run dt fun c m b => shareSync c m
    (if b.sprUp link.val && b.get F.SPR_K_STAT_VER link.val = 2 then laneRemove c link.val lane.val b else b)

/-- SPRUE_LANE_UP (R339): the lane is added again once it is aligned here too. -/
def execSprueLaneUp (dt : Nat) (link : Fin 3) (lane : Fin 4) (s : State) : Host.Outcome State Fault Refusal :=
  s.run dt fun c _ b => laneUpCame c link.val lane.val b

/-- PEER_HEAD (R343). -/
def execPeerHead (dt : Nat) (link : Fin 3) (pos : Fin 4) (src : Fin 512) (frame : Word) (header : List Byte)
    (sec : BitVec 48) (ns age : Word) (s : State) : Host.Outcome State Fault Refusal :=
  s.run dt fun c _ b =>
    peerHead c link.val pos.val src.val frame.toNat header (sec.toNat * 1000000000 + ns.toNat) age.toNat b

/-- PEER_DATA (R343). -/
def execPeerData (dt : Nat) (link : Fin 3) (pos : Fin 4) (src : Fin 512) (frame off : Word) (rows : BitVec 16)
    (rowmark : BitVec 256) (octets : List Byte) (s : State) : Host.Outcome State Fault Refusal :=
  s.run dt fun c _ b =>
    peerData c link.val pos.val src.val frame.toNat off.toNat rows.toNat rowmark.toNat octets b

/-- PEER_END (R343). -/
def execPeerEnd (dt : Nat) (link : Fin 3) (pos : Fin 4) (src : Fin 512) (frame : Word) (header : List Byte) (s : State) :
    Host.Outcome State Fault Refusal :=
  s.run dt fun c m b => shareSync c m (peerEnd c m link.val pos.val src.val frame.toNat header b)

/-- PEER_ABANDON (R343). -/
def execPeerAbandon (dt : Nat) (link : Fin 3) (pos : Fin 4) (src : Fin 512) (frame : Word) (s : State) :
    Host.Outcome State Fault Refusal :=
  s.run dt fun _ _ b => peerAbandon link.val pos.val src.val frame.toNat b

/-- TIME_EXCHANGE (R345). -/
def execTimeExchange (dt : Nat) (link : Fin 3) (s : State) : Host.Outcome State Fault Refusal :=
  s.run dt fun c _ b => timeExchange c link.val b

/-- TIME_BLOCK (R345). -/
def execTimeBlock (dt : Nat) (link : Fin 3) (count : Byte) (s : State) : Host.Outcome State Fault Refusal :=
  s.run dt fun c _ b => timeBlock c link.val count.toNat b

/-- TIME_FOLLOW_UP (R345). -/
def execTimeFollowUp (dt : Nat) (link : Fin 3) (count : Byte) (t1 t4 : Nat) (srv : Fin 4) (s : State) :
    Host.Outcome State Fault Refusal :=
  s.run dt fun c _ b => timeFollowUp c link.val count.toNat t1 t4 srv.val b

/-- CAGE_SCAN (R346, R347). -/
def execCageScan (dt : Nat) (inputs : BitVec 64) (s : State) : Host.Outcome State Fault Refusal :=
  s.run dt fun c m b => shareSync c m (cageScan c inputs.toNat b)

end Sys2Proof.Machine
end

