-- ==== Sys2Proof/Machine/Share.lean ====
section
/-! DEFINITION. The commands of the Ladles and of the decode engines: what they make READY is shared with the peers
(R98-R103, R122, R131, R138, R141, R145, R342). -/

namespace Sys2Proof.Machine

open Sys2Proof

/-- LADLE_PACKET (R98). -/
def execLadlePacket (dt : Nat) (src : Src) (input : LadleInput) (s : State) : Host.Outcome State Fault Refusal :=
  s.run dt fun c _ b => if ladOn b then ladlePacket c src.val input b else b

/-- MERGE_SKEW_EXPIRY (R101). -/
def execMergeSkewExpiry (dt : Nat) (src : Src) (seq : BitVec 32) (s : State) : Host.Outcome State Fault Refusal :=
  s.run dt fun c _ b => if ladOn b then skewExpiry c src.val seq.toNat b else b

/-- REPAIR_WAIT_EXPIRY (R101). -/
def execRepairWaitExpiry (dt : Nat) (src : Src) (seq : BitVec 32) (s : State) : Host.Outcome State Fault Refusal :=
  s.run dt fun c _ b => if ladOn b then repairExpiry c src.val seq.toNat b else b

/-- PATH_LOSS (R102). -/
def execPathLoss (dt : Nat) (src : Src) (path : Bool) (s : State) : Host.Outcome State Fault Refusal :=
  s.run dt fun c _ b => if ladOn b then pathLoss c src.val path b else b

/-- SOURCE_LATE (R122). -/
def execSourceLate (dt : Nat) (src : Src) (s : State) : Host.Outcome State Fault Refusal :=
  s.run dt fun c _ b => if ladOn b then sourceLate c src.val b else b

/-- FRAME_COMPLETE (R103, R289): a LOSS message that came before is used now. -/
def execFrameComplete (dt : Nat) (src : Src) (s : State) : Host.Outcome State Fault Refusal :=
  s.run dt fun c m b => if ladOn b then keptLoss m src.val (frameComplete c src.val b) else b

/-- FRAME_READY (R103, R114, R342). -/
def execFrameReady (dt : Nat) (src : Src) (s : State) : Host.Outcome State Fault Refusal :=
  s.run dt fun c m b => if ladOn b then shareSync c m (frameReady c src.val b) else b

/-- ACCESS_UNIT_SELECT (R131, R342). -/
def execAccessUnitSelect (dt : Nat) (eng : Eng) (head : AuHead) (s : State) : Host.Outcome State Fault Refusal :=
  s.run dt fun c m b => shareSync c m (accessUnitSelect c eng.val head b)

/-- CTU_ROW_DONE (R145, R342). -/
def execCtuRowDone (dt : Nat) (eng : Eng) (row : CtuRow) (s : State) : Host.Outcome State Fault Refusal :=
  s.run dt fun c m b => shareSync c m (ctuRowDone c m eng.val row b)

/-- ACCESS_UNIT_DONE (R138, R342). -/
def execAccessUnitDone (dt : Nat) (eng : Eng) (fin : AuEnd) (s : State) : Host.Outcome State Fault Refusal :=
  s.run dt fun c m b => shareSync c m (accessUnitEnd c m eng.val fin b)

/-- DECODE_WATCHDOG (R141, R342). -/
def execDecodeWatchdog (dt : Nat) (eng : Eng) (fin : AuEnd) (s : State) : Host.Outcome State Fault Refusal :=
  s.run dt fun c m b => shareSync c m (decodeWatchdog c m eng.val fin b)

/-- PAIR_LINK_CHANGE (R283, R291). -/
def execPairLinkChange (dt : Nat) (lanes : Fin 5) (s : State) : Host.Outcome State Fault Refusal :=
  s.run dt fun c m b => shareSync c m (pairLink c lanes.val b)

/-- PAIR_LOSS (R289). -/
def execPairLoss (dt : Nat) (src : Src) (rtpts : Word) (lost : List Nat) (tooMany : Bool) (s : State) :
    Host.Outcome State Fault Refusal :=
  s.run dt fun c m b => shareSync c m (lossMessage c m src.val rtpts lost tooMany b)

/-- AGREE_WAIT_EXPIRY (R291). -/
def execAgreeWaitExpiry (dt : Nat) (src : Src) (s : State) : Host.Outcome State Fault Refusal :=
  s.run dt fun c m b => shareSync c m (agreeExpiry c src.val b)

end Sys2Proof.Machine
end

