-- ==== Sys2Proof/Machine/Dram.lean ====
section
/-! DEFINITION. The DRAM controller and the memories on the die: ports and urgency, pages, refresh, the row-disturbance
guard, training, ECC, scrubbing, the scratchpad (R349-R381). -/

namespace Sys2Proof.Machine

open Sys2Proof

def Block.setDram (b : Block) (x : MemSt) : Block := { b with dram := x }

/-! ## Where an address lies (R351) -/

/-- Subchannel (2 × channel + subchannel), bank and row of an address. -/
def dramSub (addr : Nat) : Nat :=
  let a := addr - dramBase
  2 * (bits a 12 3 ^^^ bits a 21 3 ^^^ bits a 24 3) + (bits a 11 1 ^^^ bits a 20 1)

def dramBankOf (addr : Nat) : Nat := let a := addr - dramBase; bits a 15 4 ^^^ bits a 27 4

def dramRow (b : Block) (addr : Nat) : Nat := bits (addr - dramBase) 19 (15 + b.get F.MEM_CFG_DENSITY)

/-- tRFCab in ns (table Densities and capacity). -/
def tRfcNs (b : Block) : Nat := let d := b.get F.MEM_CFG_DENSITY; if d = 0 then 210 else if d = 1 then 280 else 380

/-! ## Ports, deadlines, urgency (R353-R357) -/

def portSmall (b : Block) (p : Nat) : Bool := b.on F.MEM_P_CFG_KIND p

/-- The initiator class of a port (table Initiator classes). -/
def portClass (p : Nat) : Nat :=
  if p ≤ 7 then 7 else if p ≤ 11 then 6 else if p ≤ 13 then 8 else if p ≤ 16 then 5 else if p = 17 || p = 23 then 9
  else if p = 22 then 0 else p - 17

/-- The requests that the buffer of a port holds (R363, table Ride-through buffers), where the table gives it one: 128, 32,
256 and 64 KiB of 2 KiB requests. -/
def portCapacity (p : Nat) : Option Nat :=
  if p ≤ 3 then some 64 else if p ≤ 7 then some 16 else if p = 14 then some 128 else if p = 16 then some 32 else none

/-- A port has room to issue a request ahead of its consumer (R363). -/
def portRoom (b : Block) (p : Nat) : Bool :=
  match portCapacity p with
  | some n => (b.dram.reqs.filter fun q => q.port = p).length < n
  | none => true

/-- The bursts of a request that are transferred (R353): every one of a SMALL port; of a LARGE port those with an enabled
byte, which a read names by `en` and a write by its bytes. -/
def enabledBursts (small : Bool) (en : Nat) (wr : Option (List (Option Byte))) : List Nat :=
  if small then [0]
  else (List.range 32).filter fun k => match wr with
    | some l => ((l.drop (64 * k)).take 64).any Option.isSome
    | none => bit en k

/-- A port's target in ticks: ns, or nominal lines of the head that it serves (R354). -/
def portTarget (b : Block) (p h : Nat) : Nat :=
  let t := b.get F.MEM_P_CFG_TARGET p
  if b.on F.MEM_P_CFG_UNIT p then
    let f := b.fmt (if p < 4 then h else b.wbLead (p - 4))
    t * f.den * sTick / max 1 (f.num * f.total)
  else t * nsTick

/-- The urgency-3 threshold in effect, at least the bound of R358. -/
def u3Ticks (b : Block) : Nat :=
  max (b.get F.MEM_URG_U3_NS) (if b.get F.MEM_REF_TREFI_NS < 2048 then 2400 else 2000) * nsTick

/-- The urgency of a request (table Urgency steps). -/
def urgencyOf (c : Clk) (b : Block) (q : DramReq) : Nat :=
  let r : Int := (q.deadline : Int) - c.steady
  if r ≤ (u3Ticks b : Nat) then 3 else if 4 * r ≤ (q.target : Nat) then 2 else if 2 * r ≤ (q.target : Nat) then 1 else 0

/-- Requests at urgency 3 in a subchannel's queue. -/
def u3Count (l : List DramReq) (sub : Nat) : Nat :=
  (l.filter fun q => dramSub q.addr = sub && !q.served && q.urg = 3 && !q.waits).length

/-- The reported state of a port (MEM_P_STAT). -/
def portReport (b : Block) (p : Nat) : Block :=
  let l := b.dram.reqs.filter fun q => q.port = p
  let b := b.put F.MEM_P_STAT_URG (l.foldl (fun m q => max m q.urg) 0) p
  let b := b.put F.MEM_P_STAT_PEND (min 255 l.length) p
  b.flag F.MEM_P_STAT_THROT (b.dram.throttles.any fun t => t.port = p) p

def portsReport (b : Block) : Block := (List.range 24).foldl portReport b

/-- Re-evaluate the requests one after another (R355, R356): one that reaches urgency 3 while 8 already are in its
subchannel waits in its port (code 0x0909), until there is room. -/
def evalUrgency (c : Clk) : List DramReq → List DramReq → Block → Block
  | done, [], b => b.setDram { b.dram with reqs := done }
  | done, q :: t, b =>
    let u := urgencyOf c b q
    let sub := dramSub q.addr
    let full := u = 3 && 8 ≤ u3Count (done ++ t) sub
    if q.served || u ≠ 3 then evalUrgency c (done ++ [if q.served then q else { q with urg := u, waits := false }]) t b
    else if q.urg = 3 && !q.waits then evalUrgency c (done ++ [q]) t b
    else
      let b := if q.urg = 3 then b else b.inc F.MEM_P_CNT_U3 q.port
      let b := if full && !q.waits then
          (b.evt F.MEM_EVT_U3_FULL).recordLim (inst := (sub / 2 + 1)) c (0x09090000 + sub) sTick 0x0909 4 (sub / 2) (sub % 2) q.port
        else b
      evalUrgency c (done ++ [{ q with urg := 3, waits := full }]) t b

def urgencyEval (c : Clk) (b : Block) : Block := portsReport (evalUrgency c [] b.dram.reqs b)

/-- The burst enables that a read names, and the bytes that a write stores (R353). -/
def dramEnables : DramOp → Nat
  | .read en => en.toNat
  | .write _ => 0
def dramBytes : DramOp → Option (List (Option Byte))
  | .read _ => none
  | .write l => some l

/-- A request reaches a port (R352-R354, R408, R411): 2 KiB or 64 bytes, aligned to its size. A port whose buffer is full
issues none (R363, log 54). -/
def dramRequest (c : Clk) (p part h addr en : Nat) (wr : Option (List (Option Byte))) (b : Block) : Block :=
  if !portRoom b p then b
  else
    let size := if portSmall b p then 64 else 2048
    let a := addr - addr % size
    let (ok, b) := dramAccess c (portClass p) part a size wr.isSome p b
    if !ok then { b with resp := .error }
    else
      let t := portTarget b p h
      let q : DramReq := { port := p, addr := a, len := size, wr := wr, deadline := c.steady + t, target := t,
                           bursts := enabledBursts (portSmall b p) en wr }
      urgencyEval c (b.setDram { b.dram with reqs := b.dram.reqs ++ [q] })

/-! ## The row-disturbance guard (R364, R365) -/

/-- The guard's window in which an instant lies: 32 ms of steady time. -/
def guardWindow (c : Clk) : Nat := c.steady / (32 * msTick)

/-- Every count clears at the end of a window (R364). -/
def rdgWindow (c : Clk) (b : Block) : Block :=
  if b.dram.window = guardWindow c then b else b.setDram { b.dram with guard := [], window := guardWindow c }

/-- A sampled activation enters the bank's table of 8 rows. -/
def guardAdd (sample row port : Nat) (l : List GuardRow) : List GuardRow :=
  if l.any fun g => g.row = row then
    l.map fun g => if g.row = row then { g with count := g.count + sample, port := port } else g
  else if l.length < 8 then l ++ [{ row := row, count := sample, port := port }]
  else
    let lo := l.foldl (fun m g => min m g.count) (l.headD { row := 0, count := 0, port := 0 }).count
    let i := (l.findIdx? fun g => g.count = lo).getD 0
    l.set i { row := row, count := lo + sample, port := port }

/-- A port is throttled on a subchannel (code 0x0905). -/
def throttlePort (c : Clk) (port sub bank row : Nat) (b : Block) : Block :=
  if b.dram.throttles.any fun t => t.port = port && t.sub = sub then b
  else
    let x : Throttle := { port := port, sub := sub, until_ := c.steady + b.get F.MEM_RDG2_THROTTLE_MS * msTick, last := c.steady }
    let b := b.setDram { b.dram with throttles := b.dram.throttles ++ [x] }
    let b := ((b.inc F.MEM_C_RDG_THROTTLES (sub / 2)).put F.MEM_C_RDG_ROW row (sub / 2)).evt F.MEM_EVT_RDG
    portReport (b.record (inst := (sub / 2 + 1)) 0x0905 4 sub bank row port) port

/-- A row is activated for a port: the guard samples it or not. -/
def activate (c : Clk) (port sub bank row : Nat) (sampled : Bool) (b : Block) : Block :=
  let b := rdgWindow c b
  let d := b.dram
  let b := b.setDram { d with throttles := d.throttles.map fun t =>
    if t.port = port && t.sub = sub then { t with last := c.steady } else t }
  if !sampled then b
  else
    let key := 16 * sub + bank
    let l := guardAdd (b.get F.MEM_RDG_SAMPLE) row port (tget [] b.dram.guard key)
    let b := b.setDram { b.dram with guard := tput [] b.dram.guard key l }
    match l.find? fun g => g.row = row with
    | some g => if b.get F.MEM_RDG_THRESH < g.count then throttlePort c g.port sub bank row b else b
    | none => b

/-! ## Refresh (R360) -/

/-- The refresh interval at a derating, in ns. -/
def refreshNs (b : Block) (d : Nat) : Nat := b.get F.MEM_REF_TREFI_NS / 2 ^ d

/-- The interval in effect, in ticks. -/
def refreshTicks (b : Block) : Nat := max 1 (refreshNs b (b.get F.MEM_REF_DERATE)) * nsTick

/-- The controller refreshes the devices: both memory domains are on (log 54). -/
def refreshing (b : Block) : Bool := b.domOn 16 && b.domOn 17

/-- A refresh is due. -/
def refreshDue (c : Clk) (b : Block) : Bool := refreshing b && b.dram.refreshAt + refreshTicks b ≤ c.steady

/-- A refresh stops all traffic for tRFCab. -/
def refreshStall (c : Clk) (b : Block) : Bool :=
  refreshing b && b.dram.refreshAt ≠ 0 && c.steady < b.dram.refreshAt + tRfcNs b * nsTick

/-- An all-bank refresh (R359, R360): it begins at the instant at which it fell due, on all 16 subchannels at once, closes
every open row and stops all traffic for tRFCab. It comes neither early nor late and none is skipped. -/
def refresh (c : Clk) (b : Block) : Block :=
  if !refreshDue c b then b
  else
    let t := refreshTicks b
    b.setDram { b.dram with
      refreshAt := b.dram.refreshAt + (c.steady - b.dram.refreshAt) / t * t
      banks := (b.dram.banks.map fun e => (e.1, { e.2 with row := none })).filter fun e => e.2 ≠ {} }

/-! ## Service (R356, R357, R359, R373) -/

/-- The request's bank and whether its row is open (R359). -/
def bankOf (b : Block) (q : DramReq) : DramBank := tget {} b.dram.banks (16 * dramSub q.addr + dramBankOf q.addr)

def rowHit (b : Block) (q : DramReq) : Bool := portSmall b q.port && (bankOf b q).row = some (dramRow b q.addr)

/-- A throttled port may activate no row yet (R365). -/
def throttled (c : Clk) (b : Block) (q : DramReq) : Bool :=
  !rowHit b q && b.dram.throttles.any fun t => t.port = q.port && t.sub = dramSub q.addr &&
    c.steady < t.until_ && c.steady < t.last + b.get F.MEM_RDG2_GAP_NS * nsTick

/-- `q` is served before `r` (R356): urgency, deadline, port. -/
def servedBefore (q r : DramReq) : Bool :=
  r.urg < q.urg || (q.urg = r.urg && (q.deadline < r.deadline || (q.deadline = r.deadline && q.port < r.port)))

/-- Requests of one port to overlapping addresses complete in issue order (R357): of `l`, those that overlap none issued
before by their port, `seen` among them. -/
def inIssueOrder (seen : List DramReq) : List DramReq → List DramReq
  | [] => []
  | q :: t =>
    let rest := inIssueOrder (seen ++ [q]) t
    if seen.any fun r => r.port = q.port && r.addr < q.addr + q.len && q.addr < r.addr + r.len then rest else q :: rest

/-- The request that a subchannel serves next among the 32 it holds (R356): none while a refresh is due or stalls it. -/
def nextServed (c : Clk) (b : Block) (sub : Nat) : Option DramReq :=
  if refreshDue c b || refreshStall c b then none
  else
    let l := (inIssueOrder [] (b.dram.reqs.filter fun q => dramSub q.addr = sub && !q.served)).filter (!·.waits)
    ((l.take 32).filter fun q => !throttled c b q).foldl (fun m q => match m with
      | none => some q
      | some r => if servedBefore q r then some q else some r) none

/-- The page policy at an access (R359): the bank after it, and whether a row was activated. The counter counts a SMALL
access while a row is left open: up if it hits that row, down if it misses it. -/
def pageAccess (c : Clk) (b : Block) (q : DramReq) : DramBank × Bool :=
  let k := bankOf b q
  let row := dramRow b q.addr
  if !portSmall b q.port then ({ k with row := none, last := c.steady }, true)
  else
    let hit := k.row = some row
    let ctr := if k.row.isNone then k.ctr else if hit then min 3 (k.ctr + 1) else k.ctr - 1
    ({ row := if 2 ≤ ctr then some row else none, ctr := ctr, last := c.steady }, !hit)

/-- An error that link ECC cannot correct (R373, code 0x0906). -/
def dramUncorrectable (c : Clk) (port addr : Nat) (wr : Bool) (b : Block) : Block :=
  let ch := dramSub addr / 2
  let b := (b.inc F.MEM_C_ERR_UNCORR ch).evt F.MEM_EVT_UNCORR
  let b := b.put2 F.MEM_ERR_ADDR_LO_ADDR_LO F.MEM_ERR_ADDR_HI_ADDR_HI addr
  let b := b.noteEvent c 1 1
  { b with uncorrectable := b.uncorrectable + 1 }.record (inst := (ch + 1)) 0x0906 5 ch addr port (b2n wr)

/-- Write the enabled bytes from an address. -/
def storeEnabled : Nat → List (Option Byte) → Block → Block
  | _, [], b => b
  | a, none :: t, b => storeEnabled (a + 1) t b
  | a, some v :: t, b => storeEnabled (a + 1) t (b.store a [v])

/-- The bytes of a burst whose write fails are free values (log 21). -/
def spoilBurst (l : List (Option Byte)) (k : Nat) (b : Block) : List (Option Byte) × Block :=
  (List.range 64).foldl (fun q i =>
    match q.1.getD (64 * k + i) none with
    | none => q
    | some _ =>
      let (w, b) := q.2.fresh
      (q.1.set (64 * k + i) (some (BitVec.ofNat 8 w.toNat)), b)) (l, b)

/-- Requests served return to their port in order of issue, with their response where the port is a core's; one past its
deadline is late (R355, R357). -/
def returnServed (c : Clk) : Nat → Nat → Block → Block
  | 0, _, b => b
  | n + 1, p, b =>
    match b.dram.reqs.find? fun q => q.port = p with
    | some q =>
      if !q.served then b
      else
        let b := b.setDram { b.dram with reqs := b.dram.reqs.erase q }
        let b := if q.resp = .none then b else { b with resp := q.resp }
        returnServed c n p (if q.deadline < c.steady then b.inc F.MEM_P_CNT_LATE p else b)
    | none => b

/-- Every channel leaves service once no request is in flight, if EN is 0 (R367). -/
def drained (b : Block) : Block :=
  if b.on F.MEM_CTL_EN || !b.dram.reqs.isEmpty then b
  else (List.range 8).foldl (fun b c => b.flag F.MEM_C_STAT_IN_SERVICE false c) (b.put F.MEM_STAT_SVC 0)

/-- A subchannel serves its next request (R356, R373): `corrected` bursts were corrected, `bad` failed for good. -/
def dramComplete (c : Clk) (m : Mem) (sub corrected : Nat) (bad : Option Nat) (sampled : Bool) (b : Block) : Block :=
  match nextServed c b sub with
  | none => b
  | some q =>
    let ecc := b.on F.MEM_CFG_LINK_ECC
    let bad := if ecc then bad.filter q.bursts.contains else none
    let (k, act) := pageAccess c b q
    let key := 16 * sub + dramBankOf q.addr
    let b := b.setDram { b.dram with banks := tput {} b.dram.banks key k }
    let b := if act then activate c q.port sub (dramBankOf q.addr) (dramRow b q.addr) sampled b else b
    let b := if ecc then b.inc F.MEM_C_ERR_CORR (sub / 2) 0 0 (min corrected q.bursts.length) else b
    let b := match bad with
      | some k => dramUncorrectable c q.port (q.addr + 64 * k) q.wr.isSome b
      | none => b
    let b := match q.wr, bad with
      | some l, some k => let (l, b) := spoilBurst l k b; storeEnabled q.addr l b
      | some l, none => storeEnabled q.addr l b
      | none, _ => b
    let core := 18 ≤ q.port && q.port ≤ 22
    let resp : Resp := if !core then .none
      else if bad.isSome then .error
      else if q.wr.isSome then .done
      else .data (BitVec.ofNat 32 (ofLe (m.bytes q.addr 4)))
    let moved := (b.dram.moved.filter fun e => c.steady < e.2.2 + msTick) ++ [(q.port, 64 * q.bursts.length, c.steady)]
    let reqs := replaceFirst (· = q) (fun r => [{ r with served := true, resp := resp }]) b.dram.reqs
    let b := returnServed c reqs.length q.port (b.setDram { b.dram with reqs := reqs, moved := moved })
    drained (urgencyEval c b)

/-- KiB that a port moved in the last ms (MEM_P_BW). -/
def portMoved (c : Clk) (b : Block) (p : Nat) : Nat :=
  ((b.dram.moved.filter fun e => e.1 = p && c.steady < e.2.2 + msTick).map (·.2.1)).sum / 1024

/-! ## Pages, refresh, throttles in time (R359-R365) -/

/-- An idle open row is closed. -/
def pageIdle (c : Clk) (sub bank : Nat) (b : Block) : Block :=
  let key := 16 * sub + bank
  let k := tget {} b.dram.banks key
  if k.row.isSome && k.last + b.get F.MEM_PAGE_IDLE_NS * nsTick ≤ c.steady then
    b.setDram { b.dram with banks := tput {} b.dram.banks key { k with row := none } }
  else b

/-- The derating changes (code 0x0904). -/
def setDerate (d channel rate : Nat) (b : Block) : Block :=
  if b.get F.MEM_REF_DERATE = d then b
  else ((b.put F.MEM_REF_DERATE d).evt F.MEM_EVT_DERATE).record (inst := (channel + 1)) 0x0904 4 channel rate (refreshNs b d)

/-- MR4 of every device channel is read (R361), once in each 16 ms of steady time, inside a refresh stall: for each
subchannel, its rate code and the derating it asks for. -/
def mr4Read (c : Clk) (l : List (Nat × Nat)) (b : Block) : Block :=
  let n := c.steady / (16 * msTick)
  if !b.on F.MEM_STAT_READY || !refreshStall c b || n = b.dram.mr4 then b
  else
    let b := b.setDram { b.dram with mr4 := n }
    let at_ (i : Nat) : Nat × Nat := l.getD i (0, 0)
    let b := (List.range 8).foldl (fun b ch =>
      let x := at_ (2 * ch)
      let y := at_ (2 * ch + 1)
      b.put F.MEM_C_STAT_MR4 (if x.2 < y.2 then y.1 else x.1) ch) b
    let worst := (List.range 16).foldl (fun m i => max m (at_ i).2) 0
    let who := ((List.range 16).find? fun i => (at_ i).2 = worst).getD 0
    if worst ≠ 0 then setDerate worst (who / 2) (at_ who).1 (b.setDram { b.dram with clean := 0 })
    else
      let b := b.setDram { b.dram with clean := min 4 (b.dram.clean + 1) }
      if 4 ≤ b.dram.clean then setDerate 0 (who / 2) (at_ who).1 b else b

/-- The port's throttles that have lasted THROTTLE_MS end (R365). -/
def throttleEnd (c : Clk) (p : Nat) (b : Block) : Block :=
  portReport (b.setDram { b.dram with throttles := b.dram.throttles.filter fun t => !(t.port = p && t.until_ ≤ c.steady) }) p

/-! ## Service of channels and training (R366-R372) -/

/-- READY once every channel is in service and EN is 1. -/
def memReady (b : Block) : Block := b.flag F.MEM_STAT_READY (b.on F.MEM_CTL_EN && b.get F.MEM_STAT_SVC = 255)

/-- MEM_CTL.EN written 1. -/
def memEnable (b : Block) : Block := memReady b

/-- MEM_CTL.EN written 0 (R367). -/
def memDisable (b : Block) : Block := drained (memReady b)

/-- MEM_C_CTL.SVC written 1 (R367). -/
def channelService (ch : Nat) (b : Block) : Block :=
  if !b.on F.MEM_C_STAT_TRAINED ch then b.evt F.MEM_EVT_WIGN
  else
    let b := b.flag F.MEM_C_STAT_IN_SERVICE true ch
    let svc := b.get F.MEM_STAT_SVC
    memReady (if bit svc ch then b else b.put F.MEM_STAT_SVC (svc + 2 ^ ch))

/-- MEM_C_CTL.TRAINED_SET written 1 (R372, code 0x0901): the method and the time that the record holds are not known to
the part, and are free values (log 22). -/
def trainedSet (ch : Nat) (b : Block) : Block :=
  let b := b.flag F.MEM_C_STAT_TRAINED true ch
  let t := b.get F.MEM_STAT_TRAINED
  let b := (if bit t ch then b else b.put F.MEM_STAT_TRAINED (t + 2 ^ ch)).evt F.MEM_EVT_TRN_DONE
  let (w, b) := b.fresh
  let (n, b) := b.fresh
  b.record (inst := (ch + 1)) 0x0901 2 ch (w.toNat % 2) n.toNat

/-- Training of a channel fails (R370, code 0x0903). -/
def trainingFailed (ch step mask : Nat) (b : Block) : Block :=
  ((b.flag F.MEM_C_STAT_TRAINED false ch).evt F.MEM_EVT_TRN_FAIL).record (inst := (ch + 1)) 0x0903 6 ch step mask

/-- MEM_C_TRN_CTL.GO written 1 (R369). -/
def comparatorRun (ch : Nat) (b : Block) : Block :=
  let b := ((b.flag F.MEM_C_TRN_STAT_DONE false ch).put F.MEM_C_TRN_STAT_FAIL 0 ch).put F.MEM_C_TRN_ERR_ERRS 0 ch
  if b.dram.runs.contains ch then b else b.setDram { b.dram with runs := insertLt (· < ·) ch b.dram.runs }

/-- A comparator run ends. -/
def comparatorDone (ch fail errs : Nat) (b : Block) : Block :=
  if !b.dram.runs.contains ch then b
  else
    let b := b.setDram { b.dram with runs := b.dram.runs.erase ch }
    ((b.flag F.MEM_C_TRN_STAT_DONE true ch).put F.MEM_C_TRN_STAT_FAIL fail ch).put F.MEM_C_TRN_ERR_ERRS (min 65535 errs) ch

/-- A mode register access (R366): the device's register takes the data, or the data are what was read, and for MR27
whether the device requires refresh management (code 0x090A). -/
def modeRead (ch : Nat) (v : Byte) (rfm : Bool) (b : Block) : Block :=
  let key := 256 * (2 * ch + b.get F.MEM_C_MR_SUB ch) + b.get F.MEM_C_MR_MR ch
  let hold (v : Byte) (b : Block) : Block := b.setDram { b.dram with mrs := tput 0 b.dram.mrs key v }
  if b.on F.MEM_C_MR_WR ch then hold (BitVec.ofNat 8 (b.get F.MEM_C_MR_DATA ch)) b
  else
    let b := hold v (b.put F.MEM_C_MR_DATA v.toNat ch)
    if b.get F.MEM_C_MR_MR ch = 27 && rfm then
      (b.flag F.MEM_C_STAT_RFM_REQ true ch).record (inst := (ch + 1)) 0x090A 3 ch (b.get F.MEM_C_MR_SUB ch) v.toNat
    else b

/-! ## Scrubbing (R374-R377) -/

/-- Corrections of the last second. -/
def recentCount (c : Clk) (l : List (Nat × Tick)) : Nat := ((l.filter fun e => c.steady < e.2 + sTick).map (·.1)).sum

/-- The scrubber's next block may be read (R374): its rate of DRAM_MBS MB/s is kept, no port has a request for the
subchannel, to which it would yield, and no refresh is due or stalls it. -/
def scrubTurn (c : Clk) (b : Block) : Bool :=
  b.on F.MEM_STAT_READY && !refreshDue c b && !refreshStall c b &&
    b.dram.scrubAt + 2048 * usTick / max 1 (b.get F.MEM_SCRUB_DRAM_MBS) ≤ c.steady &&
    !b.dram.reqs.any fun q => !q.served && dramSub q.addr = dramSub (dramBase + b.dram.scrub)

/-- The DRAM scrubber reads its next block (R374): a row left open in its bank closes (R359). -/
def scrubRead (c : Clk) (corrected : Nat) (bad : Option Nat) (b : Block) : Block :=
  if !scrubTurn c b then b
  else
    let a := dramBase + b.dram.scrub
    let key := 16 * dramSub a + dramBankOf a
    let b := b.setDram { b.dram with
      scrub := (b.dram.scrub + 2048) % dramCapacity b, scrubAt := c.steady
      banks := tput {} b.dram.banks key { tget {} b.dram.banks key with row := none } }
    if !b.on F.MEM_CFG_LINK_ECC then b
    else
      let b := b.inc F.MEM_C_ERR_CORR (dramSub a / 2) 0 0 corrected
      let b := if corrected = 0 then b
        else (b.noteEvent c 2 corrected).setDram { b.dram with
          dramCorr := (b.dram.dramCorr.filter fun e => c.steady < e.2 + sTick) ++ [(corrected, c.steady)] }
      match bad with
      | some k => dramUncorrectable c 0xFF (a + 64 * k) false b
      | none => b

/-- A word of on-die SRAM is corrected (R377): hot at the fourth time within 60 s. -/
def wordCorrected (c : Clk) (w : Nat) (b : Block) : Block :=
  let l := (b.dram.words.filter fun e => c.steady < e.2 + 60 * sTick) ++ [(w, c.steady)]
  let b := b.setDram { b.dram with words := l }
  if (l.filter fun e => e.1 = w).length = 4 then (b.put F.MEM_SRAM_HOT_ADDR w).evt F.MEM_EVT_HOT else b

/-- A double-bit error in on-die SRAM outside the scratchpad (R375, code 0x0907). -/
def sramUncorrectable (c : Clk) (unit w cls : Nat) (b : Block) : Block :=
  let b := (b.evt F.MEM_EVT_SRAM_UE).noteEvent c 1 1
  { b with uncorrectable := b.uncorrectable + 1 }.record 0x0907 5 unit w cls

/-- The SRAM scrubber completes a pass (R376), once every SRAM_S seconds: the words it corrected, and those with a
double-bit error. The spec gives the scrubber no initiator class: a free value. -/
def sramScrub (c : Clk) (corrected : List Nat) (bad : List (Nat × Nat)) (b : Block) : Block :=
  if c.steady < b.dram.sramAt + b.get F.MEM_SCRUB_SRAM_S * sTick then b
  else
  let b := b.setDram { b.dram with sramAt := c.steady }
  let b := corrected.foldl (fun b w => wordCorrected c w b) b
  let n := corrected.length
  let b := if n = 0 then b
    else (b.noteEvent c 2 n).setDram { b.dram with
      sramCorr := (b.dram.sramCorr.filter fun e => c.steady < e.2 + sTick) ++ [(n, c.steady)] }
  bad.foldl (fun b q => let (k, b) := b.fresh; sramUncorrectable c q.1 q.2 k.toNat b) b

/-! ## The scratchpad (R378-R380) -/

/-- The secure wipe starts or starts again (R380): the region reads 0 from here on. -/
def startWipe (c : Clk) (cause old new : Nat) (b : Block) : Block :=
  let b := b.setDram { b.dram with wipe := some { since := c.steady, cause := cause, old := old, new := new } }
  (b.flag F.SPD_STAT_WIPING true).unstore (scratchBase + 0x780000) 0x80000

/-- The secure wipe ends (code 0x0801). -/
def wipeDone (c : Clk) (b : Block) : Block :=
  match b.dram.wipe with
  | none => b
  | some w =>
    let b := b.setDram { b.dram with wipe := none }
    (((b.flag F.SPD_STAT_WIPING false).flag F.SPD_STAT_WIPED true).evt F.SPD_EVT_WIPE).record 0x0801 6 w.cause w.old w.new
      ((c.steady - w.since) / usTick)

/-- A double-bit error in the scratchpad (R375, code 0x0803). -/
def scratchUncorrectable (c : Clk) (a cls : Nat) (b : Block) : Block :=
  let b := (b.inc F.SPD_ERR_UNCORR).put F.SPD_ERR_ADDR_ADDR a
  let b := (b.evt F.SPD_EVT_UNCORR).noteEvent c 1 1
  { b with uncorrectable := b.uncorrectable + 1 }.record 0x0803 5 a cls

/-- A memory domain loses power or is reset (R381): what DRAM held is gone, and every request with it. -/
def dramLost (b : Block) : Block :=
  let b := b.setDram { b.dram with reqs := [], banks := [], guard := [], throttles := [], clean := 0, runs := [] }
  b.unstore dramBase 0x1000000000

/-! ## Commands -/

/-- DRAM_REQUEST (R352-R354). -/
def execDramRequest (dt : Nat) (port : Fin 24) (part : Fin 32) (h : Head) (addr : BitVec 40) (op : DramOp)
    (s : State) : Host.Outcome State Fault Refusal :=
  s.run dt fun c _ b => dramRequest c port.val part.val h.val addr.toNat (dramEnables op) (dramBytes op) b

/-- URGENCY_EVAL (R355, R356). -/
def execUrgencyEval (dt : Nat) (s : State) : Host.Outcome State Fault Refusal := s.run dt fun c _ b => urgencyEval c b

/-- DRAM_REQUEST_COMPLETE (R356, R357, R373). -/
def execDramRequestComplete (dt : Nat) (sub : Fin 16) (corrected : Fin 33) (bad : Option (Fin 32)) (sampled : Bool)
    (s : State) : Host.Outcome State Fault Refusal :=
  s.run dt fun c m b => dramComplete c m sub.val corrected.val (bad.map (·.val)) sampled b

/-- REFRESH (R360). -/
def execRefresh (dt : Nat) (s : State) : Host.Outcome State Fault Refusal := s.run dt fun c _ b => refresh c b

/-- MR4_READ (R361). -/
def execMr4Read (dt : Nat) (readings : List (Fin 8 × Fin 3)) (s : State) : Host.Outcome State Fault Refusal :=
  s.run dt fun c _ b => mr4Read c (readings.map fun q => (q.1.val, q.2.val)) b

/-- PAGE_IDLE_CLOSE (R359). -/
def execPageIdleClose (dt : Nat) (sub bank : Fin 16) (s : State) : Host.Outcome State Fault Refusal :=
  s.run dt fun c _ b => pageIdle c sub.val bank.val b

/-- RDG_WINDOW_END (R364). -/
def execRdgWindowEnd (dt : Nat) (s : State) : Host.Outcome State Fault Refusal := s.run dt fun c _ b => rdgWindow c b

/-- THROTTLE_END (R365). -/
def execThrottleEnd (dt : Nat) (port : Fin 24) (s : State) : Host.Outcome State Fault Refusal :=
  s.run dt fun c _ b => throttleEnd c port.val b

/-- COMPARATOR_DONE (R369). -/
def execComparatorDone (dt : Nat) (channel : Fin 8) (fail : BitVec 16) (errs : Nat) (s : State) :
    Host.Outcome State Fault Refusal :=
  s.run dt fun _ _ b => comparatorDone channel.val fail.toNat errs b

/-- DRAM_SCRUB_READ (R374). -/
def execDramScrubRead (dt : Nat) (corrected : Fin 33) (bad : Option (Fin 32)) (s : State) :
    Host.Outcome State Fault Refusal :=
  s.run dt fun c _ b => scrubRead c corrected.val (bad.map (·.val)) b

/-- SRAM_SCRUB (R376, R377). -/
def execSramScrub (dt : Nat) (corrected : List Word) (bad : List (Byte × Word)) (s : State) :
    Host.Outcome State Fault Refusal :=
  s.run dt fun c _ b => sramScrub c (corrected.map (·.toNat)) (bad.map fun q => (q.1.toNat, q.2.toNat)) b

/-- TAMPER (R380). -/
def execTamper (dt : Nat) (s : State) : Host.Outcome State Fault Refusal :=
  s.run dt fun c _ b => let lc := b.get F.SYS_LC_STATE; startWipe c 0 lc lc b

end Sys2Proof.Machine
end

