-- ==== Sys2Proof/Machine/Recorder.lean ====
section
/-! DEFINITION. The black-box recorder: ingots, the store, staging and flushing, the cursor and clearing (R450-R468). -/

namespace Sys2Proof.Machine

open Sys2Proof

def Block.setLog (b : Block) (x : RecSt) : Block := { b with log := x }

/-- The period of OPTIME in ticks of the steady clock (R453): 878,906,250 ns. -/
def optimePeriod : Nat := 878906250 * nsTick

/-! ## Ingots (R450-R452) -/

/-- Bytes 0 to 27 of an ingot. -/
def Ingot.body (i : Ingot) : List Byte :=
  leBytes 2 i.code ++ [BitVec.ofNat 8 i.sev, BitVec.ofNat 8 i.origin] ++ leBytes 4 i.optime ++ leBytes 3 i.pcyc ++
    [BitVec.ofNat 8 i.seq] ++ leBytes 4 i.p0.toNat ++ leBytes 4 i.p1.toNat ++ leBytes 4 i.p2.toNat ++ leBytes 4 i.p3.toNat

/-- The 32 bytes of an ingot. -/
def Ingot.bytes (i : Ingot) : List Byte := i.body ++ leBytes 4 (crc32c i.body).toNat

/-- An empty slot (R455). -/
def emptySlot (_ : Nat) : List Byte := List.replicate 32 0xFF

/-- `n` bytes of a slot from byte `o`, as a number. -/
def slotNum (l : List Byte) (o n : Nat) : Nat := ofLe ((l.drop o).take n)

/-- The ingot of an intact slot: its CRC holds (R455). -/
def readIngot (l : List Byte) : Option Ingot :=
  if l ≠ emptySlot 0 && l.length = 32 && slotNum l 28 4 = (crc32c (l.take 28)).toNat then
    some { code := slotNum l 0 2, sev := slotNum l 2 1, origin := slotNum l 3 1, optime := slotNum l 4 4,
           pcyc := slotNum l 8 3, seq := slotNum l 11 1, p0 := BitVec.ofNat 32 (slotNum l 12 4),
           p1 := BitVec.ofNat 32 (slotNum l 16 4), p2 := BitVec.ofNat 32 (slotNum l 20 4),
           p3 := BitVec.ofNat 32 (slotNum l 24 4) }
  else none

/-- The severity of an ingot: bits [2:0] of byte 2. -/
def Ingot.severity (i : Ingot) : Nat := i.sev % 8

/-- The place of an ingot in the order of keys (R452), above the places of the damaged slots (R456). -/
def Ingot.rank (i : Ingot) : Nat := 65536 + (i.pcyc * 2 ^ 32 + i.optime) * 256 + i.seq

/-- The place of a slot: a damaged slot ranks as older than every intact ingot, by its index (R456, R464). -/
def slotRank (k : Nat) (l : List Byte) : Nat :=
  match readIngot l with
  | some i => i.rank
  | none => k

/-- The severity of a slot: a damaged one has severity 0 (R456). -/
def slotSeverity (l : List Byte) : Nat :=
  match readIngot l with
  | some i => i.severity
  | none => 0

/-- The entry of the least measure. -/
def least {α : Type} (f : α → Nat) : List α → Option α
  | [] => none
  | x :: t =>
    match least f t with
    | none => some x
    | some y => if f x ≤ f y then some x else some y

/-- The entry of the greatest measure. -/
def greatest {α : Type} (f : α → Nat) : List α → Option α
  | [] => none
  | x :: t =>
    match greatest f t with
    | none => some x
    | some y => if f y ≤ f x then some x else some y

/-! ## Staging (R453, R459, R462) -/

/-- The pending ingots, in key order; none while there is no store (R462). -/
def pendings (b : Block) : List Staged :=
  if b.on F.LOG_STAT_NOSTORE then [] else b.log.buf.filter (·.pending)

/-- Ingots may be written to the MRAM now (R456, R461, R462, R466). -/
def storeWritable (b : Block) : Bool :=
  b.on F.LOG_STAT_READY && !b.on F.LOG_STAT_NOSTORE && !b.on F.LOG_STAT_CLEARING && !b.log.stopped

/-- The status that follows from the buffer: PENDING and FLUSHING; a flush ends when nothing is pending. -/
def logSync (b : Block) : Block :=
  let n := (pendings b).length
  let b := b.setLog { b.log with flush := b.log.flush && n ≠ 0 }
  (b.put F.LOG_CNT_PENDING (min 2047 n)).flag F.LOG_STAT_FLUSHING (b.log.flush && storeWritable b)

/-- The next key (R453): SEQ 256 takes the next tick instead, and OPTIME then leads powered time. -/
def nextKey (b : Block) : Nat × Nat × Block :=
  let x := b.log
  if x.seqNext < 256 then (b.get F.LOG_OPTIME_OPTIME, x.seqNext, b.setLog { x with seqNext := x.seqNext + 1 })
  else
    let b := (b.wrap F.LOG_OPTIME_OPTIME).setLog { x with seqNext := 1, lead := x.lead + 1 }
    (b.get F.LOG_OPTIME_OPTIME, 0, b)

/-- Put an ingot into the staging buffer, which holds the newest 4096. -/
def pushIngot (c : Clk) (e : Event) (pfail : Bool) (b : Block) : Block :=
  let (op, sq, b) := nextKey b
  let sev := e.sev % 8 + 8 * b.get F.SYS_STRAP_UNIT + 16 * b.get F.SYS_STRAP_POS + 64 * b2n pfail
  let i : Ingot := { code := e.code, sev := sev, origin := e.origin, optime := op, pcyc := b.get F.LOG_PCYC_PCYC,
                     seq := sq, p0 := e.p0, p1 := e.p1, p2 := e.p2, p3 := e.p3 }
  let full := 4096 ≤ b.log.buf.length
  let b := if full && b.on F.LOG_STAT_NOSTORE then (b.inc F.LOG_CNT_STAGE_DROP).evt F.LOG_EVT_DROP else b
  let b := b.setLog { b.log with
    buf := (if full then b.log.buf.drop 1 else b.log.buf) ++ [{ ing := i, since := c.steady }] }
  if 5 ≤ e.sev then (b.evt F.LOG_EVT_SEV5).setLog { b.log with flush := true } else b

/-- Stage an event (R459): while 1024 are pending it replaces the newest pending ingot of the lowest severity below its
own, or is not staged. -/
def stageEvent (c : Clk) (e : Event) (b : Block) : Block :=
  let p := pendings b
  let b :=
    if p.length < 1024 then pushIngot c e false b
    else
      let b := (b.inc F.LOG_CNT_STAGE_DROP).evt F.LOG_EVT_DROP
      match least (fun q => q.ing.severity) (p.filter fun q => q.ing.severity < e.sev % 8) with
      | none => b
      | some q =>
        let buf := (replaceFirst (fun r => r.pending && r.ing.severity = q.ing.severity) (fun _ => [])
          b.log.buf.reverse).reverse
        pushIngot c e false (b.setLog { b.log with buf := buf })
  logSync (if max 1 (b.get F.LOG_CFG_BATCH_N) ≤ (pendings b).length then b.setLog { b.log with flush := true } else b)

/-- Stage the oldest event that waits. -/
def stageNext (c : Clk) (b : Block) : Block :=
  match b.evq with
  | [] => b
  | e :: t => stageEvent c e { b with evq := t }

/-- Stage every event that waits, oldest first. -/
def stageAll (c : Clk) (b : Block) : Block := b.evq.foldl (fun b e => stageEvent c e b) { b with evq := [] }

/-- The event of code 0x0605: the store is not writable (R462). -/
def noStoreEvent (b : Block) (slot : Nat) : Event :=
  { code := 0x0605, sev := 6, origin := 6, p0 := BitVec.ofNat 32 (b.get F.MRS_ID_READ), p1 := BitVec.ofNat 32 slot }

/-- The MRAM cannot be written: from here on the ingots stay in the staging buffer (R462). -/
def loseStore (c : Clk) (slot : Nat) (b : Block) : Block :=
  let b := b.flag F.LOG_STAT_NOSTORE true
  stageEvent c (noStoreEvent b slot) b

/-- The oldest pending ingot has waited BATCH_MS ms (R459). -/
def batchTimeout (c : Clk) (b : Block) : Block :=
  match pendings b with
  | [] => b
  | q :: _ =>
    if q.since + (max 1 (b.get F.LOG_CFG_BATCH_MS) * msTick : Nat) ≤ c.steady then logSync (b.setLog { b.log with flush := true })
    else b

/-! ## Writing (R457, R460) -/

/-- The first empty slot at or after `k`, round the store. -/
def emptyFrom (m : List (Nat × List Byte)) : Nat → Nat → Nat
  | 0, k => k % 65536
  | n + 1, k => if (m.lookup (k % 65536)).isNone then k % 65536 else emptyFrom m n (k + 1)

/-- The slot that an ingot of severity `sev` takes (R457). The spec does not say which empty slot: a free value. -/
def chooseSlot (sev : Nat) (b : Block) : Option Nat × Block :=
  let m := b.log.store
  if m.length < 65536 then let (r, b) := b.fresh; (some (emptyFrom m m.length r.toNat), b)
  else ((least (fun q => slotRank q.1 q.2) (m.filter fun q => slotSeverity q.2 ≤ sev)).map (·.1), b)

/-- Write the oldest pending ingot, or drop it; `ok`: the write passes its status check. What a slot holds after a failed
write is free. -/
def writeOldest (c : Clk) (ok : Bool) (b : Block) : Block :=
  match pendings b with
  | [] => b
  | q :: _ =>
    match chooseSlot q.ing.severity b with
    | (none, b) =>
      logSync (((b.inc F.LOG_DROP_COUNT).evt F.LOG_EVT_DROP).setLog { b.log with
        buf := replaceFirst (·.pending) (fun _ => []) b.log.buf })
    | (some k, b) =>
      if ok then
        logSync (b.setLog { b.log with
          store := sparsePut emptySlot b.log.store k q.ing.bytes
          buf := replaceFirst (·.pending) (fun r => [{ r with pending := false }]) b.log.buf })
      else
        let (l, b) := b.freshBytes 32
        let b := b.setLog { b.log with store := sparsePut emptySlot b.log.store k l }
        loseStore c k (b.inc F.MRS_STAT_WFAIL)

/-- A flush under way writes its next ingot. -/
def writeNext (c : Clk) (ok : Bool) (b : Block) : Block :=
  let due := b.log.flush || max 1 (b.get F.LOG_CFG_BATCH_N) ≤ (pendings b).length
  if storeWritable b && due then writeOldest c ok (b.setLog { b.log with flush := true }) else b

/-- Write `n` pending ingots; the one after `good` good ones fails its status check. -/
def writeMany (c : Clk) : Nat → Option Nat → Block → Block
  | 0, _, b => b
  | n + 1, good, b => writeMany c n (good.map (· - 1)) (writeOldest c (good ≠ some 0) b)

/-! ## Start of the store (R454, R456, R458, R462) -/

/-- The event of code 0x0601. -/
def rebuiltEvent (b : Block) (intact damaged : Nat) : Event :=
  { code := 0x0601, sev := 2, origin := 6, p0 := BitVec.ofNat 32 (b.get F.LOG_PCYC_PCYC), p1 := BitVec.ofNat 32 intact,
    p2 := BitVec.ofNat 32 damaged, p3 := BitVec.ofNat 32 (b.get F.LOG_DROP_COUNT) }

/-- The store has been read at start: the identity that the MRAM returned. -/
def storeRebuild (c : Clk) (ident : Nat) (b : Block) : Block :=
  if b.on F.LOG_STAT_READY || b.on F.LOG_STAT_NOSTORE || b.log.stopped then b
  else
    let b := (stageAll c b).put F.MRS_ID_READ ident
    if ident ≠ b.get F.MRS_ID_EXPECT then loseStore c 0xFFFFFFFF b
    else
      let good := b.log.store.filterMap fun q => readIngot q.2
      let newest := greatest Ingot.rank good
      let pc := match greatest (·.pcyc) good with
        | some i => (i.pcyc + 1) % 2 ^ 24
        | none => 1
      let op := match newest with
        | some i => i.optime
        | none => 0
      let drop := match greatest Ingot.rank (good.filter fun i => i.code = 0x0601 || i.code = 0x0603 || i.code = 0x0604) with
        | some i => i.p3.toNat
        | none => 0
      let b := b.setLog { b.log with buf := b.log.buf.map fun q =>
        { q with ing := { q.ing with pcyc := pc, optime := (q.ing.optime + op) % 2 ^ 32 } } }
      let b := (b.put F.LOG_PCYC_PCYC pc).wrap F.LOG_OPTIME_OPTIME 0 0 0 op
      let b := (b.put F.LOG_DROP_COUNT drop).flag F.LOG_STAT_READY true
      stageEvent c (rebuiltEvent b good.length (b.log.store.length - good.length)) b

/-- OPTIME's period has passed (R453): OPTIME advances, or stands still while it leads. -/
def optimeTick (c : Clk) (b : Block) : Block :=
  if c.steady < b.log.opNext then b
  else
    let b := b.setLog { b.log with opNext := b.log.opNext + optimePeriod }
    if b.log.lead = 0 then (b.wrap F.LOG_OPTIME_OPTIME).setLog { b.log with seqNext := 0 }
    else b.setLog { b.log with lead := b.log.lead - 1 }

/-! ## Clearing (R465, R466) -/

/-- The clear ends: the slots it empties, and the ingot of code 0x0604. -/
def finishClear (c : Clk) (b : Block) : Block :=
  let field := b.get F.SYS_LC_STATE = 1
  let kept := b.log.store.filter fun q => field && (readIngot q.2).isSome && slotSeverity q.2 = 7
  let n := b.log.store.length - kept.length
  let b := b.setLog { b.log with store := kept }
  let b := ((b.flag F.LOG_STAT_CLEARING false).put F.LOG_DROP_COUNT 0).evt F.LOG_EVT_CLEARED
  stageEvent c { code := 0x0604, sev := 6, origin := 6, p0 := BitVec.ofNat 32 n, p1 := BitVec.ofNat 32 kept.length } b

/-- The clear under way completes. -/
def blackBoxClear (c : Clk) (b : Block) : Block :=
  if b.on F.LOG_STAT_CLEARING && b.on F.LOG_STAT_READY then finishClear c (stageAll c b) else b

/-- Begin a clear, where there is a store to clear and none is under way. -/
def startClear (b : Block) : Block :=
  if b.on F.LOG_STAT_NOSTORE || b.on F.LOG_STAT_CLEARING || b.log.stopped then b.evt F.LOG_EVT_WIGN
  else logSync (b.flag F.LOG_STAT_CLEARING true)

/-- The Warden writes LOG_CLR_KEY (R465). -/
def clearKey (c : Clk) (v : Word) (b : Block) : Block :=
  let armed := b.log.key
  let b := b.setLog { b.log with key := if v = 0x5AF00C1E then some c.steady else none }
  match armed with
  | some t => if v = 0xA50FF3E1 && c.steady ≤ t + msTick then startClear b else b.evt F.LOG_EVT_WIGN
  | none => if v = 0x5AF00C1E then b else b.evt F.LOG_EVT_WIGN

/-- Another write to the LOG window breaks the sequence (R465). -/
def breakKey (b : Block) : Block :=
  if b.log.key.isNone then b else (b.setLog { b.log with key := none }).evt F.LOG_EVT_WIGN

/-! ## Power fail (R460, R461) -/

/-- PFAIL_N has been low for 2 µs: an MRAM read in progress, of the cursor or at start, is abandoned; `good`: how many writes pass their status check before one fails. -/
def powerFail (c : Clk) (good : Option Nat) (b : Block) : Block :=
  let b := b.flag F.PWR_STAT_PFAIL true
  if b.log.stopped then b
  else
    let b := stageAll c ((b.setLog { b.log with move := none }).flag F.LOG_CUR_STAT_BUSY false)
    let b := if b.on F.LOG_STAT_CLEARING && b.on F.LOG_STAT_READY then finishClear c b else b
    let n := (pendings b).length
    let e : Event := { code := 0x0603, sev := 5, origin := 6, p0 := BitVec.ofNat 32 n,
                       p1 := BitVec.ofNat 32 (b.get F.LOG_OPTIME_OPTIME), p3 := BitVec.ofNat 32 (b.get F.LOG_DROP_COUNT) }
    let b := pushIngot c e true b
    let b :=
      if !storeWritable b then b
      else
        let b := b.setLog { b.log with buf := b.log.buf.map fun q =>
          if q.pending then { q with ing := { q.ing with sev := q.ing.sev % 64 + 64 } } else q }
        let b := writeMany c n good b
        let d := BitVec.ofNat 32 (b.get F.LOG_DROP_COUNT)
        let b := b.setLog { b.log with buf := b.log.buf.map fun q =>
          if q.pending && q.ing.code = 0x0603 then { q with ing := { q.ing with p3 := d } } else q }
        writeMany c 1 (good.map (· - n)) b
    logSync (b.setLog { b.log with stopped := true })

/-! ## Reading (R463, R464) -/

/-- An ingot that the cursor can read: its place, its bytes, whether it is not yet in the MRAM, its slot, whether the slot
is damaged, and its PCYC. -/
structure LogItem where
  rank : Nat
  bytes : List Byte
  pending : Bool
  slot : Nat
  damaged : Bool
  pcyc : Option Nat
deriving DecidableEq, Repr

/-- A slot as the cursor reads it: a damaged one with SEV[7] set. -/
def slotItem (k : Nat) (l : List Byte) : LogItem :=
  match readIngot l with
  | some i => { rank := i.rank, bytes := l, pending := false, slot := k, damaged := false, pcyc := some i.pcyc }
  | none => { rank := k, bytes := l.set 2 ((l.getD 2 0) ||| 0x80), pending := false, slot := k, damaged := true, pcyc := none }

/-- What the cursor reads: the store and the pending ingots, or the staging buffer while there is no store. -/
def logItems (b : Block) : List LogItem :=
  let held (l : List Staged) : List LogItem := l.map fun q =>
    { rank := q.ing.rank, bytes := q.ing.bytes, pending := true, slot := 0, damaged := false, pcyc := some q.ing.pcyc }
  if b.on F.LOG_STAT_NOSTORE then held b.log.buf
  else (if b.on F.LOG_STAT_READY then b.log.store.map fun q => slotItem q.1 q.2 else []) ++ held (pendings b)

/-- The ingot that a move reaches. -/
def moveTarget (mv : LogMove) (b : Block) : Option LogItem :=
  let l := logItems b
  match mv with
  | .oldest => least (·.rank) l
  | .newest => greatest (·.rank) l
  | .firstOf p => least (·.rank) (l.filter fun q => q.pcyc = some p)
  | .newer => b.log.cur.bind fun k => least (·.rank) (l.filter fun q => k < q.rank)
  | .older => b.log.cur.bind fun k => greatest (·.rank) (l.filter fun q => q.rank < k)

/-- The move under way completes (R463, R464). -/
def moveDone (b : Block) : Block :=
  match b.log.move with
  | none => b
  | some mv =>
    let b := (b.setLog { b.log with move := none }).flag F.LOG_CUR_STAT_BUSY false
    match moveTarget mv b with
    | none => b.flag F.LOG_CUR_STAT_END true
    | some q =>
      let b := (List.range 8).foldl (fun b w => b.put F.LOG_WIN_WIN (slotNum q.bytes (4 * w) 4) w) b
      let b := (b.setLog { b.log with cur := some q.rank }).flag F.LOG_CUR_STAT_VALID true
      let b := (b.flag F.LOG_CUR_STAT_DAMAGED q.damaged).flag F.LOG_CUR_STAT_PENDING q.pending
      b.put F.LOG_CUR_STAT_SLOT q.slot

/-- A placement or a step is written (R463): one still under way is carried out first. -/
def startMove (mv : LogMove) (b : Block) : Block :=
  let b := moveDone b
  ((b.setLog { b.log with move := some mv }).flag F.LOG_CUR_STAT_BUSY true).flag F.LOG_CUR_STAT_END false

/-! ## Submitting (R467) -/

/-- LOG_SUB_GO of block `k` (R467). -/
def logSubmit (c : Clk) (k : Nat) (b : Block) : Block :=
  let code := b.get F.LOG_SUB_HDR_CODE k
  let sev := b.get F.LOG_SUB_HDR_SEV k
  if code < 0xF000 || 0xFFFE < code || (sev = 7 && k < 4) then b.evt F.LOG_EVT_WIGN
  else
    let p (i : Nat) : Word := b.reg (F.LOG_SUB_P_P.at k i)
    stageEvent c { code, sev, origin := if k < 4 then 0xF0 + k else 0xF8, p0 := p 0, p1 := p 1, p2 := p 2, p3 := p 3 }
      (stageAll c b)

/-! ## Commands -/

/-- INGOT_STAGE (R459). -/
def execIngotStage (dt : Nat) (s : State) : Host.Outcome State Fault Refusal := s.runAon dt fun c _ b => stageNext c b

/-- BATCH_TIMEOUT (R459). -/
def execBatchTimeout (dt : Nat) (s : State) : Host.Outcome State Fault Refusal := s.runAon dt fun c _ b => batchTimeout c b

/-- INGOT_WRITE (R457, R462). -/
def execIngotWrite (dt : Nat) (ok : Bool) (s : State) : Host.Outcome State Fault Refusal :=
  s.runAon dt fun c _ b => writeNext c ok b

/-- STORE_REBUILD (R454, R456, R458, R462). -/
def execStoreRebuild (dt : Nat) (ident : BitVec 16) (s : State) : Host.Outcome State Fault Refusal :=
  s.runAon dt fun c _ b => storeRebuild c ident.toNat b

/-- OPTIME_TICK (R453). -/
def execOptimeTick (dt : Nat) (s : State) : Host.Outcome State Fault Refusal := s.runAon dt fun c _ b => optimeTick c b

/-- PFAIL_RISE (R461): no effect until reset. -/
def execPfailRise (dt : Nat) (s : State) : Host.Outcome State Fault Refusal := s.runAon dt fun _ _ b => b

/-- CURSOR_MOVE_DONE (R463, R464). -/
def execCursorMoveDone (dt : Nat) (s : State) : Host.Outcome State Fault Refusal := s.runAon dt fun _ _ b => moveDone b

end Sys2Proof.Machine
end

