-- ==== Sys2Proof/Machine/Power.lean ====
section
/-! DEFINITION. Switched domains, the supply monitor, temperature and the life cycle (R505-R523). -/

namespace Sys2Proof.Machine

open Sys2Proof

/-! ## What a domain loses (R33, R150, R151, R275, R318, R381, R424, R511) -/

/-- A Crucible loses power: its bands under way and its captures. -/
def cruOff (cru : Nat) (b : Block) : Block :=
  let b := { b with comps := b.comps.filter (·.cru ≠ cru) }
  let b := (b.wb cru).frames.foldl (fun b f => b.setBuf (bufKey (b.wbPool cru) f.buf) {}) b
  b.setWb cru {}

/-- The Fettler and the packetizers lose power: no stream leaves, and each starts as at its enable. -/
def fetOff (b : Block) : Block :=
  (List.range 64).foldl (fun b h =>
    let x := b.fet h
    let b := b.setFet h { rel := x.rel, imgSlag := x.imgSlag, mutePair := x.mutePair }
    b.put F.FET_PKT_STAT_STATE 0 h) b

/-- A memory domain loses power: its channels are no longer trained, and DRAM loses its contents. -/
def memOff (a : Nat) (b : Block) : Block :=
  let b := (List.range 4).foldl (fun b i =>
    let ch := 4 * a + i
    (b.flag F.MEM_C_STAT_TRAINED false ch).flag F.MEM_C_STAT_IN_SERVICE false ch) b
  let keep (v : Nat) : Nat := if a = 0 then v / 16 * 16 else v % 16
  let b := b.put F.MEM_STAT_TRAINED (keep (b.get F.MEM_STAT_TRAINED))
  dramLost (memReady (b.put F.MEM_STAT_SVC (keep (b.get F.MEM_STAT_SVC))))

/-- The Ladles lose power: frames on their way and the merge's state are lost (log 78); what is in the pools stays. -/
def ladOff (b : Block) : Block :=
  (b.lad.srcs.map (·.1)).foldl (fun b s =>
    let b := if (b.src s).peer.isSome then dropPeer s 1 b else b
    let x := b.src s
    let b := x.frames.foldl (fun b f => match f.buf with
      | some i => b.setBuf (bufKey (b.poolOf s) i) {}
      | none => b) b
    b.setSrc s { frameNo := x.frameNo, lastA := x.lastA, lastB := x.lastB, refused := x.refused, report := x.report,
                 lastReady := x.lastReady, lateSeen := x.lateSeen, lastFrame := x.lastFrame }) b

/-- A lane quad loses power: its lanes and MACs are down. -/
def quadOff (c : Clk) (q : Nat) (b : Block) : Block :=
  let b := (List.range 4).foldl (fun b i => laneDisable c (4 * q + i) b) b
  b.flag F.LNK_Q_STAT_PLL_LOCK false q

/-- Whether the engines of a domain have a unit in progress, which a stop completes (R150, R275). -/
def domainBusy (b : Block) (d : Nat) : Bool :=
  if 10 ≤ d && d ≤ 13 then b.on F.DEC_STAT_BUSY (2 * (d - 10)) || b.on F.DEC_STAT_BUSY (2 * (d - 10) + 1)
  else if d = 14 || d = 15 then (b.enc (d - 14)).pic.isSome
  else false

/-- The engines of a domain that have no unit in progress stop at once (R151, R275, R513). -/
def domainHalt (c : Clk) (d : Nat) (b : Block) : Block :=
  let halt (e : Nat) (b : Block) : Block := if b.on F.DEC_STAT_BUSY e then b else engineStop c e b
  if 10 ≤ d && d ≤ 13 then halt (2 * (d - 10) + 1) (halt (2 * (d - 10)) b) else b

/-- The blocks of a domain lose power. -/
def domainLost (c : Clk) (d : Nat) (b : Block) : Block :=
  if 5 ≤ d && d ≤ 8 then cruOff (d - 5) b
  else if d = 9 then fetOff b
  else if 10 ≤ d && d ≤ 13 then engineStop c (2 * (d - 10) + 1) (engineStop c (2 * (d - 10)) b)
  else if d = 14 || d = 15 then (b.setEnc (d - 14) {}).flag F.ENC_STAT_RUN false (d - 14)
  else if d = 16 || d = 17 then memOff (d - 16) b
  else if 18 ≤ d && d ≤ 29 then quadOff c (d - 18) b
  else if d = 31 then ladOff b
  else b

/-- Set the state in effect of a domain. -/
def setDomain (d : Nat) (on : Bool) (b : Block) : Block :=
  deskUpdate (b.flag { F.PWR_DOM_STAT_ON with lsb := d, width := 1 } on)

/-! ## The sequencer (R512, R513) -/

/-- A domain's requested state. -/
def domReq (b : Block) (d : Nat) : Bool := bit (b.get F.PWR_DOM_REQ_REQ) d

/-- The domain that the sequencer serves next: the lowest whose request differs from its state. -/
def nextDomain (b : Block) : Option Nat := (List.range 32).find? fun d => domReq b d != b.domOn d

/-- Domain `d` is switched off now: its blocks have been asked to stop, or it is its turn. A change that has begun is
finished before another starts, whatever is requested meanwhile (R513). -/
def turnsOff (b : Block) (d : Nat) : Bool :=
  if b.on F.PWR_STAT_BUSY then b.get F.PWR_STAT_CUR = d else nextDomain b = some d && !domReq b d

/-- Domain `d` is switched on now: not during another change, and not while a thermal shutdown holds it off (R522). -/
def turnsOn (b : Block) (d : Nat) : Bool := !b.on F.PWR_STAT_BUSY && nextDomain b = some d && domReq b d && !b.hot

/-- Why a requested change is refused (R512, R381), if it is. -/
def domRefused (b : Block) (v d : Nat) : Option Nat :=
  let on := bit v d
  if on = b.domOn d then none
  else if d = 0 && !on then some 0
  else if 1 ≤ d && d ≤ 4 && !on && b.on F.WDN_CL_CTL_RUN (d - 1) then some 1
  else if (d = 16 || d = 17) && (bit v 16 != bit v 17 || (!on && (b.on F.MEM_STAT_READY || b.on F.MEM_CTL_EN))) then some 2
  else none

/-- PWR_DOM_REQ written by class 0 or 4 (R512). -/
def domainRequest (cls v : Nat) (b : Block) : Block :=
  let old := b.get F.PWR_DOM_REQ_REQ
  let w := if cls = 0 then v else v / 32 * 32 + old % 32
  let b := if w % 32 ≠ v % 32 then b.evt F.PWR_EVT_WIGN else b
  let l := (List.range 32).filterMap fun d => (domRefused b w d).map fun r => (d, r)
  let req := ((List.range 32).filter fun d => if l.any (·.1 = d) then b.domOn d else bit w d).foldl (fun s d => s + 2 ^ d) 0
  let b := b.put F.PWR_DOM_REQ_REQ req
  l.foldl (fun b q => (b.evt F.PWR_EVT_REFUSED).record 0x0102 3 q.1 (b2n (bit w q.1)) cls q.2) b

/-- The sequencer switches a domain off once its blocks have stopped; `took`: the time the change took in µs. -/
def domainOff (c : Clk) (d took : Nat) (b : Block) : Block :=
  if !turnsOff b d then b
  else
    let b := domainHalt c d ((b.flag F.PWR_STAT_BUSY true).put F.PWR_STAT_CUR d)
    if domainBusy b d then b
    else
      let b := setDomain d false (domainLost c d b)
      ((b.flag F.PWR_STAT_BUSY false).evt F.PWR_EVT_DONE).record 0x0101 2 d 0 took

/-- The sequencer switches a domain on. -/
def domainOn (c : Clk) (d took : Nat) (b : Block) : Block :=
  if !turnsOn b d then b
  else
    let b := (setDomain d true b).put F.PWR_STAT_CUR d
    let b := if 5 ≤ d && d ≤ 8 then cruEnable (d - 5) b else if d = 9 then fetStart c b
      else if d = 16 || d = 17 then b.setDram { b.dram with refreshAt := c.steady, scrubAt := c.steady } else b
    ((b.flag F.PWR_STAT_BUSY false).evt F.PWR_EVT_DONE).record 0x0101 2 d 1 took

/-! ## Supplies, temperature, life cycle (R509, R522) -/

/-- A part in reset never drives TAP_OWN_N (text before R306; R306, table "Pin states"): the line shows the partner alone. -/
def releasePins (b : Block) : Block :=
  (b.flag F.PAIR_STAT_TOKEN_DRV false).flag F.PAIR_STAT_TOKEN_LINE b.pair.partnerLow

/-- The supply monitor trips (R509). -/
def brownout (c : Clk) (good : Option Nat) (b : Block) : Block :=
  if b.on F.PWR_STAT_PFAIL || b.hold ≠ .none then b
  else { releasePins (powerFail c good b) with hold := .fabric }

/-- The fused shutdown temperature of the ordering code, in 1/8 °C (R522). -/
def shutdownTj : Int := if Config.gradeA then 8 * 115 else 8 * 105

/-- SYS_TEMP is updated (R522, codes 0x0003 and 0x0004). -/
def temperature (c : Clk) (tj : Nat) (b : Block) : Block :=
  let b := b.put F.SYS_TEMP_TJ tj
  let t := toSigned 16 tj
  let b := if b.geti F.SYS_TEMP_LIM_WARN ≤ t then
      (b.evt F.SYS_EVT_WARN).recordLim c 0x00030000 (60 * sTick) 0x0003 4 tj (b.get F.SYS_TEMP_LIM_WARN)
    else b
  if t < shutdownTj || b.hot then b
  else
    let on := b.get F.PWR_DOM_STAT_ON
    let b := (List.range 32).foldl (fun b d => if bit on d then setDomain d false (domainLost c d b) else b) b
    { b.flag F.PWR_STAT_BUSY false with hot := true }.record 0x0004 6 tj on

/-- SYS_LC.ADVANCE (table SYS fields, code 0x0002). -/
def lifeCycleAdvance (c : Clk) (b : Block) : Block :=
  let old := b.get F.SYS_LC_STATE
  if 2 ≤ old then b.evt F.SYS_EVT_WIGN
  else startWipe c 1 old (old + 1) ((b.put F.SYS_LC_STATE (old + 1)).record 0x0002 6 old (old + 1))

/-! ## Commands -/

/-- DOMAIN_SWITCH_OFF (R513). -/
def execDomainSwitchOff (dt : Nat) (domain : Fin 32) (took : Byte) (s : State) : Host.Outcome State Fault Refusal :=
  s.run dt fun c m b => shareSync c m (domainOff c domain.val took.toNat b)

/-- DOMAIN_SWITCH_ON (R513). -/
def execDomainSwitchOn (dt : Nat) (domain : Fin 32) (took : Byte) (s : State) : Host.Outcome State Fault Refusal :=
  s.run dt fun c _ b => domainOn c domain.val took.toNat b

/-- BROWNOUT (R509). -/
def execBrownout (dt : Nat) (good : Option Nat) (s : State) : Host.Outcome State Fault Refusal :=
  s.run dt fun c _ b => brownout c good b

/-- TEMPERATURE_SAMPLE (R522). -/
def execTemperatureSample (dt : Nat) (tj : BitVec 16) (s : State) : Host.Outcome State Fault Refusal :=
  s.run dt fun c m b => shareSync c m (temperature c tj.toNat b)

end Sys2Proof.Machine
end

