-- ==== Sys2Proof/Machine/Control.lean ====
section
/-! DEFINITION. The clusters, the Warden and its self-check, the map, the matrix ports and the Flask's commits (R383-R403,
R417-R420). -/

namespace Sys2Proof.Machine

open Sys2Proof

def Block.setCtl (b : Block) (x : CtlSt) : Block := { b with ctl := x }

/-- The Warden is halted by its comparator (R392). -/
def Block.halted (b : Block) : Bool := b.on F.WDN_STAT_LOCKSTEP

/-- An initiator class that issues accesses through the Runner matrix (R384, R388, R392): a halted Warden, a cluster that
is stopped or without power, and classes 5 to 8 issue none. The Warden runs from reset release, before its domain shows in
PWR_DOM_STAT (log 87), but not through a thermal shutdown (R522). -/
def issues (b : Block) (cls : Nat) : Bool :=
  if cls = 0 then !b.halted && !b.hot
  else if cls ≤ 4 then b.on F.WDN_CL_STAT_RUN (cls - 1) && b.domOn cls
  else cls = 9

/-! ## Clusters (R387-R389) -/

/-- A bit of a status field that holds one bit for each cluster. -/
def clusterBit (f : Fld) (k : Nat) : Fld := { f with lsb := f.lsb + k, width := 1 }

/-- WDN_CL_CTL.RUN of cluster `k` (R388). -/
def clusterRun (c : Clk) (k : Nat) (run : Bool) (b : Block) : Block :=
  let was := b.on F.WDN_CL_STAT_RUN k
  let b := (b.flag F.WDN_CL_CTL_RUN run k).flag F.WDN_CL_STAT_RUN run k
  let b := b.flag (clusterBit F.WDN_STAT_CL_RUN k) run
  if run && !was then
    (b.flag (clusterBit F.WDN_STAT_CL_STOPPED k) false).setCtl { b.ctl with kicks := sparseInsert k c.steady b.ctl.kicks }
  else b

/-- WDN_CL_WDOG.KICK: cluster `k` alone restarts its watchdog (R389). -/
def clusterKick (c : Clk) (cls k : Nat) (b : Block) : Block :=
  if cls = k + 1 then b.setCtl { b.ctl with kicks := sparseInsert k c.steady b.ctl.kicks } else b

/-- The Fihus image in working SRAM has the CRC-32C recorded at load. -/
def fihusIntact (m : Mem) (b : Block) : Bool :=
  match b.ctl.fihus with
  | some f => crc32c (m.bytes (workingBase + f.load) f.len) = f.crc
  | none => false

/-- A cluster's watchdog expires (R389). -/
def clusterExpiry (c : Clk) (m : Mem) (k : Nat) (b : Block) : Block :=
  let ms := b.get F.WDN_CL_WDOG_MS k
  if !b.on F.WDN_CL_STAT_RUN k || c.steady < tget 0 b.ctl.kicks k + ms * msTick then b
  else
    let b := clusterRun c k false b
    let b := (b.evt F.WDN_CL_STAT_EXPIRED k).evt F.WDN_EVT_EXPIRE
    let l := (b.ctl.expiries.filter fun e => c.steady < e.2 + 600 * sTick) ++ [(k, c.steady)]
    let n := (l.filter (·.1 = k)).length
    let b := (b.setCtl { b.ctl with expiries := l }).record 0x3803 5 k n ms
    if !issues b 0 then b
    else
      let ok := fihusIntact m b
      if ok && n ≤ 2 then
        let b := (clusterRun c k true b).inc F.WDN_CL_STAT_RESTARTS k
        b.record 0x3804 4 k (match b.ctl.fihus with | some f => f.crc.toNat | none => 0)
      else
        (b.flag (clusterBit F.WDN_STAT_CL_STOPPED k) true).record 0x3805 6 k (b2n (!ok))

/-- A calendar event for a cluster or the Warden (R387). -/
def calendarCause (k event : Nat) (b : Block) : Block :=
  if k < 4 then
    let b := if b.on F.WDN_CL_CAUSE_PEND k then b.evt F.WDN_CL_CAUSE_LOST k else b
    (b.evt F.WDN_CL_CAUSE_PEND k).put F.WDN_CL_CAUSE_EVENT event k
  else
    let b := if b.on F.WDN_CAUSE_PEND then b.evt F.WDN_CAUSE_LOST else b
    (b.evt F.WDN_CAUSE_PEND).put F.WDN_CAUSE_EVENT event

/-- The comparator finds a mismatch (R392, code 0x3801). -/
def lockstep (group count : Nat) (b : Block) : Block :=
  if !issues b 0 then b
  else ((b.flag F.WDN_STAT_LOCKSTEP true).flag F.PAIR_ST_FAILED true).record 0x3801 7 group count

/-! ## Mailbox answers (R395, R397) -/

/-- A word of a request. -/
def mbReq (b : Block) (k i : Nat) : Nat := b.get F.WDN_MB_REQ_REQ k i

/-- The opcode of a request, and its sequence number. -/
def mbOpcode (b : Block) (k : Nat) : Nat := bits (mbReq b k 0) 8 8
def mbSeq (b : Block) (k : Nat) : Nat := bits (mbReq b k 0) 0 8

/-- Answer the request of cluster `k` (table Request and response header; code 0x3806). -/
def mbAnswer (k status : Nat) (result : List Nat) (b : Block) : Block :=
  let op := mbOpcode b k
  let head := b.get F.WDN_ABI_MAJOR * 2 ^ 24 + b.get F.WDN_ABI_MINOR * 2 ^ 16 + op * 256 + mbSeq b k
  let words := [head, status + 2 ^ 16 * result.length] ++ result
  let b := words.zipIdx.foldl (fun b q => b.put F.WDN_MB_RSP_RSP q.1 k q.2) b
  let b := (b.flag F.WDN_MB_STAT_BUSY false k).evt F.WDN_MB_STAT_DONE k
  if status = 0 then b else b.record 0x3806 3 k op status (mbSeq b k)

/-! ## The self-check (R393, R394) -/

/-- A self-check starts, unless one is under way. -/
def checkStart (c : Clk) (b : Block) : Block :=
  if !issues b 0 || b.selfCheck.isSome then b
  else { b with selfCheck := some c.steady }.setCtl { b.ctl with checkAt := c.steady }

/-- PERIOD seconds have passed since the last one began. -/
def checkPeriod (c : Clk) (b : Block) : Block :=
  if c.steady < b.ctl.checkAt + max 1 (b.get F.PAIR_ST_PERIOD) * sTick then b else checkStart c b

/-- Step 4: the frame counts of the processed heads, and whether each head that the last check saw has advanced. -/
def checkHeads (b : Block) : List (Nat × Nat) × Bool :=
  let now := ((List.range 64).filter fun h => b.fetRuns h).map fun h => (h, b.frameOf h)
  (now, now.all fun q => match b.ctl.seen.lookup q.1 with
    | some n => n < q.2
    | none => true)

/-- The self-check ends; `mask`: which of steps 0 to 2 fail. What the record holds as expected and found values of a step
that compares none is free, and so is the value found of the boot ROM. -/
def checkDone (c : Clk) (m : Mem) (mask : Nat) (b : Block) : Block :=
  match b.selfCheck with
  | none => b
  | some t =>
    if !issues b 0 then b
    else
      let rules := ruleCrc b
      let (heads, moved) := checkHeads b
      let fihusOk := b.ctl.fihus.isNone || fihusIntact m b
      let bad := mask + 8 * b2n (rules.toNat ≠ b.get F.FLK_RULE_CRC_CRC) + 16 * b2n (!moved) + 32 * b2n (!fihusOk)
      let b := ({ b with selfCheck := none }.setCtl { b.ctl with seen := heads }).put F.WDN_SC_STAT_MS
        (min 255 ((c.steady - t) / msTick))
      let b :=
        if bad = 0 then b.inc F.WDN_SC_STAT_PASSED
        else
          let b := b.put F.WDN_SC_STAT_FAIL (b.get F.WDN_SC_STAT_FAIL ||| bad)
          let b := ((b.flag F.PAIR_ST_FAILED true).flag F.WDN_STAT_SC_FAIL true).evt F.WDN_EVT_SC_FAIL
          let (x, b) := b.fresh
          let (y, b) := b.fresh
          let pair : Nat × Nat :=
            if bit bad 0 then (x.toNat, y.toNat)
            else if bit bad 1 then (b.get F.WDN_ROM_CRC_CRC, y.toNat)
            else if bit bad 2 then (x.toNat, y.toNat)
            else if bit bad 3 then (b.get F.FLK_RULE_CRC_CRC, rules.toNat)
            else if bit bad 4 then (x.toNat, y.toNat)
            else match b.ctl.fihus with
              | some f => (f.crc.toNat, (crc32c (m.bytes (workingBase + f.load) f.len)).toNat)
              | none => (0, 0)
          b.record 0x3802 6 bad (b.get F.WDN_SC_STAT_PASSED) pair.1 pair.2
      let b := voteSelfDone c (bad = 0) b
      let l := b.ctl.checkFor
      let stat := (b.reg (F.WDN_SC_STAT_FAIL.at)).toNat
      l.foldl (fun b k => mbAnswer k 0 [stat] b) (b.setCtl { b.ctl with checkFor := [] })

/-! ## The map, the ports, the Flask (R401, R403, R417-R419) -/

/-- `n` fabric cycles. -/
def cyclesTick (n : Nat) : Nat := 4 * n * nsTick

/-- A matrix port that has carried no access for MTX_GATE.IDLE fabric cycles has its clock gated (R403). -/
def portGate (c : Clk) (p : Nat) (b : Block) : Block :=
  if c.steady < tget 0 b.ctl.carried p + cyclesTick (b.get F.MTX_GATE_IDLE) then b
  else b.flag { F.MTX_STAT_GATED with lsb := p, width := 1 } true

/-- The matrix port of an initiator class. -/
def matrixPort (cls : Nat) : Nat := if cls ≤ 4 then cls else 5

/-- An access through a gated port opens it. -/
def portOpen (c : Clk) (cls : Nat) (b : Block) : Block :=
  (b.flag { F.MTX_STAT_GATED with lsb := matrixPort cls, width := 1 } false).setCtl { b.ctl with
    carried := tput 0 b.ctl.carried (matrixPort cls) c.steady }

/-- VFP 0 of the frame that the reference head shows has come. -/
def refVfp0Come (c : Clk) (b : Block) : Bool :=
  lineReached (b.fmt b.refHead) (b.ras b.refHead) c.steady (b.fmt b.refHead).act

/-- The frame whose VFP 0 is the first to start after now; none while the reference head is not running. -/
def refAwaits (c : Clk) (b : Block) : Option Nat :=
  if b.refRuns then some (b.frameOf b.refHead + b2n (refVfp0Come c b)) else none

/-- VFP 0 of the frame awaited has come; for a head that ran none then, VFP 0 of the frame that it shows. -/
def refReached (c : Clk) (awaited : Option Nat) (b : Block) : Bool :=
  match awaited with
  | some n => n < b.frameOf b.refHead || (n = b.frameOf b.refHead && refVfp0Come c b)
  | none => refVfp0Come c b

/-- The instant that something at steady time `t` fixed has come: VFP 0 of the frame that it awaits; while the reference head
is not running, 16 fabric cycles later (R417, R491). -/
def refInstant (c : Clk) (t : Tick) (awaited : Option Nat) (b : Block) : Bool :=
  if b.refRuns then refReached c awaited b else t + cyclesTick 16 ≤ c.steady

/-- A write of 1 to FLK_COMMIT fixes the commit instant (R417, R419): ignored with WIGN while one is pending. -/
def flaskGo (c : Clk) (b : Block) : Block :=
  if b.on F.FLK_STAT_PENDING then b.evt F.FLK_EVT_WIGN
  else (b.flag F.FLK_STAT_PENDING true).setCtl { b.ctl with goAt := c.steady, goFrame := refAwaits c b }

/-- The commit instant has come (R417): VFP 0 of the reference head, the first that starts after the write. -/
def flaskDue (c : Clk) (b : Block) : Bool := refInstant c b.ctl.goAt b.ctl.goFrame b

/-- The commit instant of the Flask (R417), which answers a FLASK request. -/
def flaskInstant (c : Clk) (inflight : Bool) (b : Block) : Block :=
  if !b.on F.FLK_STAT_PENDING || !flaskDue c b then b
  else
    let b := flaskCommit inflight b
    match b.ctl.flaskFor with
    | some k => mbAnswer k 0 [b.get F.FLK_STAT_COMMITS] (b.setCtl { b.ctl with flaskFor := none })
    | none => b

/-! ## Commands -/

/-- CLUSTER_WATCHDOG_EXPIRY (R389). -/
def execClusterWatchdogExpiry (dt : Nat) (cluster : Fin 4) (s : State) : Host.Outcome State Fault Refusal :=
  s.run dt fun c m b => clusterExpiry c m cluster.val b

/-- LOCKSTEP_MISMATCH (R392). -/
def execLockstepMismatch (dt : Nat) (group : Byte) (count : Word) (s : State) : Host.Outcome State Fault Refusal :=
  s.run dt fun _ _ b => lockstep group.toNat count.toNat b

/-- SELF_CHECK_PERIOD (R393). -/
def execSelfCheckPeriod (dt : Nat) (s : State) : Host.Outcome State Fault Refusal := s.run dt fun c _ b => checkPeriod c b

/-- SELF_CHECK_DONE (R393). -/
def execSelfCheckDone (dt : Nat) (mask : Fin 8) (s : State) : Host.Outcome State Fault Refusal :=
  s.run dt fun c m b => checkDone c m mask.val b

/-- PORT_GATE (R403). -/
def execPortGate (dt : Nat) (port : Fin 6) (s : State) : Host.Outcome State Fault Refusal :=
  s.run dt fun c _ b => portGate c port.val b

/-- FLASK_COMMIT_INSTANT (R412, R417). -/
def execFlaskCommitInstant (dt : Nat) (inflight : Bool) (s : State) : Host.Outcome State Fault Refusal :=
  s.run dt fun c _ b => flaskInstant c inflight b

/-- FLASK_EPOCH_ADVANCE (R418). -/
def execFlaskEpochAdvance (dt : Nat) (s : State) : Host.Outcome State Fault Refusal := s.run dt fun _ _ b => flaskEpoch b

end Sys2Proof.Machine
end

