-- ==== Sys2Proof/Machine/Frame.lean ====
section
/-! DEFINITION. What a head's raster delivers: frame starts, band ticks, the pour-mark update and calendar entries
(R67-R78). -/

namespace Sys2Proof.Machine

open Sys2Proof

/-- ACT 0 of a head as the packetizer, the Fettler and the PAIR block take it, the raster having started the frame. -/
def frameStarted (c : Clk) (h : Nat) (repeated : Bool) (b : Block) : Block :=
  pairFrameStart c h (fetFrameStart c h repeated (packetFrameStart h b))

/-- A head that has stopped forms its next frame 0 afresh. -/
def frameForget (h : Nat) (b : Block) : Block :=
  if (b.ras h).phase ≠ .stopped then b
  else
    { b.setFet h { b.fet h with bands := [], nextG := none, readFrame := 0, lastLive := none } with
      comps := b.comps.filter (·.head ≠ h), handed := b.handed.filter (·.head ≠ h) }

/-- No entry of a head has fired in the frame that starts. -/
def calForget (h : Nat) (b : Block) : Block :=
  (List.range 256).foldl (fun b e =>
    if b.get F.TIM_CAL_POS_HEAD e ≠ h then b
    else { b with tim := { b.tim with cal := tput {} b.tim.cal e { tget {} b.tim.cal e with fired := 0 } } }) b

/-- A frame of a head starts now: the idle or the hold ends, or the frame under way does and another follows. -/
def startsFrame (c : Clk) (b : Block) (h : Nat) : Bool :=
  let r := b.ras h
  match r.phase with
  | .idle => (b.fmt h).reached c r.target
  | .hold => (b.fmt h).reached c r.target
  | .running => lineReached (b.fmt h) r c.steady (b.fmt h).total && !r.stopping && !r.relock
  | .stopped => false

/-- The idle of a head ends at its alignment point and its first frame starts (R67, R68, R77). -/
def firstFrame (c : Clk) (h : Nat) (b : Block) : Block :=
  let r := b.ras h
  if r.phase == .idle && (b.fmt h).reached c r.target then
    frameStarted c h false (rasterAct0 c h 0 r.target false (calForget h (calCheckHead h b)))
  else b

/-- The frame of a running head has ended (R67, R68, R71): the next one starts, or a re-lock holds, or the head
stops. -/
def frameEnd (c : Clk) (h : Nat) (b : Block) : Block :=
  let r := b.ras h
  if r.phase == .running && lineReached (b.fmt h) r c.steady (b.fmt h).total then
    if r.stopping then frameForget h (headStopped h b)
    else if r.relock then relockHold c h b
    else frameStarted c h false (rasterAct0 c h (b.frameOf h + 1) (b.aidxOf h + 1) false b)
  else b

/-- A re-lock hold ends at the new alignment point: the repeated frame starts (R71). -/
def holdEnd (c : Clk) (h : Nat) (b : Block) : Block :=
  let r := b.ras h
  if r.phase == .hold && (b.fmt h).reached c r.target then frameStarted c h true (relockEnd c h b) else b

/-- The band tick of band `n` is due: its line has started in the frame under way (R73). -/
def bandDue (c : Clk) (b : Block) (h n : Nat) : Bool :=
  let r := b.ras h
  r.phase == .running && r.ticks ≤ n && n < (b.fmt h).bands && lineReached (b.fmt h) r c.steady (16 * n)

/-- The band tick has been delivered. -/
def bandTick (h n : Nat) (b : Block) : Block := b.setRas h { b.ras h with ticks := n + 1 }

/-- Deliver a calendar event of head `h` to its target (R82, R83, R387). Targets whose chapter defines no code set their
WIGN flag. -/
def calendarDeliver (c : Clk) (h target event : Nat) (b : Block) : Block :=
  if target == 0x05 then b.evt F.PAIR_EVT_WIGN
  else if target == 0x06 then b.evt F.LOG_EVT_WIGN
  else if target == 0x14 then deskBurst c h event b
  else if 0x20 ≤ target && target ≤ 0x23 then b.evt F.CRU_EVT_WIGN (target - 0x20)
  else if target == 0x24 then fetCalendar event b
  else if target == 0x30 || target == 0x31 then b.evt F.ENC_EVT_WIGN (target - 0x30)
  else if 0xF0 ≤ target && target ≤ 0xF3 then calendarCause (target - 0xF0) event b
  else if target == 0xF8 then calendarCause 8 event b
  else b

/-- The line of the frame at which an entry fires. -/
def calLine (b : Block) (e : Nat) : Nat :=
  (b.fmt (b.get F.TIM_CAL_POS_HEAD e)).regionStart (b.get F.TIM_CAL_POS_REGION e) + b.get F.TIM_CAL_POS_LINE e

/-- An entry was applied before its line started in the frame under way (R76). -/
def calInTime (b : Block) (e : Nat) : Bool :=
  let h := b.get F.TIM_CAL_POS_HEAD e
  match (tget {} b.tim.cal e).applied with
  | none => true
  | some t => t < (b.ras h).act0 || !lineReached (b.fmt h) (b.ras h) t (calLine b e)

/-- An armed entry's line has started and it has not fired in this frame (R74, R76, R77). -/
def calReady (c : Clk) (b : Block) (e : Nat) : Bool :=
  let h := b.get F.TIM_CAL_POS_HEAD e
  b.on F.TIM_CAL_ACT_EN e && b.headRuns h && lineReached (b.fmt h) (b.ras h) c.steady (calLine b e) && calInTime b e &&
    (tget {} b.tim.cal e).fired ≠ b.frameOf h + 1

/-- What R78 puts before a calendar entry at line `n` of the frame of head `h` has been: at ACT 16b the band's tick, at VFP 0
the commit instants of the groups that have something to commit and, for a head that the Fettler runs, the pour-mark
update. -/
def fixedBefore (b : Block) (h n : Nat) : Bool :=
  let f := b.fmt h
  if n < f.act then n % 16 ≠ 0 || n / 16 < (b.ras h).ticks
  else n ≠ f.act || (commitsBefore b h 64 && ((b.ras h).poured || !b.fetRuns h))

/-- An entry that fires now: it is ready, and nothing that R78 puts before it at its line is outstanding. -/
def calDue (c : Clk) (b : Block) (e : Nat) : Bool :=
  let h := b.get F.TIM_CAL_POS_HEAD e
  calReady c b e && fixedBefore b h (calLine b e) &&
    (List.range e).all fun d =>
      !(b.on F.TIM_CAL_ACT_EN d && b.get F.TIM_CAL_POS_HEAD d == h && calLine b d == calLine b e && calReady c b d)

/-- An entry fires (R72, R74, R78). -/
def calendarFire (c : Clk) (e : Nat) (b : Block) : Block :=
  if !calDue c b e then b
  else
    let h := b.get F.TIM_CAL_POS_HEAD e
    let x : CalEntry := { tget {} b.tim.cal e with fired := b.frameOf h + 1 }
    let b := { b with tim := { b.tim with cal := tput {} b.tim.cal e x } }
    let target := b.get F.TIM_CAL_ACT_TARGET e
    let event := b.get F.TIM_CAL_ACT_EVENT e
    let b := if b.on F.TIM_CAL_ACT_ONCE e then b.flag F.TIM_CAL_ACT_EN false e else b
    calendarDeliver c h target event b

/-! ## Commands -/

/-- The pour-mark update of a frame (R73, R78, R207): once, after the commit instants. -/
def pourUpdate (c : Clk) (h : Nat) (b : Block) : Block :=
  let r := b.ras h
  if r.phase == .running && lineReached (b.fmt h) r c.steady (b.fmt h).act && !r.poured && commitsBefore b h 64 then
    pourMark h (indexAt b h (b.aidxOf h + 1)) (b.setRas h { r with poured := true })
  else b

/-- POUR_MARK_UPDATE (R207). -/
def execPourMarkUpdate (dt : Nat) (h : Head) (s : State) : Host.Outcome State Fault Refusal :=
  s.run dt fun c _ b => pourUpdate c h.val b

/-- CALENDAR_FIRE (R74). -/
def execCalendarFire (dt : Nat) (e : Fin 256) (s : State) : Host.Outcome State Fault Refusal :=
  s.run dt fun c _ b => calendarFire c e.val b

end Sys2Proof.Machine
end

