-- ==== Sys2Proof/Machine/Start.lean ====
section
/-! DEFINITION. The pattern flash, the choice of a copy, the staged start, resets and re-pours (R474-R494, R507). -/

namespace Sys2Proof.Machine

open Sys2Proof

def Block.setStart (b : Block) (x : StartSt) : Block := { b with start := x }

/-! ## The flash (R474, R475) -/

/-- The size of the flash in bytes. -/
def flashSize (b : Block) : Nat := 2 ^ b.get F.XSP_STAT_SIZE_LOG2

/-- 1 MiB. -/
def mib : Nat := 0x100000

/-- The region of a flash offset (table Flash regions): 0 copy A, 1 training, 2 copy B, 3 boot state. -/
def flashRegion (b : Block) (a : Nat) : Nat :=
  let s := flashSize b
  if a < s / 2 - mib then 0 else if a < s / 2 then 1 else if a < s - mib then 2 else 3

/-- The copy in effect (R475). -/
def copyInEffect (b : Block) : Option Nat := b.start.chosen

/-- A class may write a region (R475); in recovery the Warden ROM writes the copies (R497). -/
def regionWritable (b : Block) (cls r : Nat) : Bool :=
  if r = 0 || r = 2 then (cls = 4 || (cls = 0 && b.on F.XSP_STAT_RECOVERY)) && copyInEffect b ≠ some (r / 2)
  else if r = 1 then cls = 1
  else cls = 0

/-- A write of `n` bytes at `a` is allowed: at its first and its last byte, within the device. -/
def flashWritable (b : Block) (cls a n : Nat) : Bool :=
  a + n ≤ flashSize b && regionWritable b cls (flashRegion b a) && flashRegion b (a + n - 1) = flashRegion b a

/-- A flash write is refused (code 0x1608). -/
def flashRefused (cls a : Nat) (b : Block) : Block := b.record 0x1608 3 a (flashRegion b a) cls

/-- Program bytes: a programmed bit is 0, and programming clears bits only (log 24). -/
def programFlash (m : Mem) (a : Nat) (l : List Byte) (b : Block) : Block :=
  b.storeFlash a (l.zipIdx.map fun q => q.1 &&& m.flashByte (a + q.2))

/-! ## Boot-state records (R475, R493) -/

/-- The copy preferred, and the copy on trial (0 none, 1 A, 2 B). -/
structure BootState where
  seq : Nat := 0
  prefer : Nat := 0
  trial : Nat := 0
deriving DecidableEq, Repr

/-- The offset of boot-state record `i`. -/
def bootOffset (b : Block) (i : Nat) : Nat := flashSize b - mib + i * (mib / 2)

/-- Boot-state record `i`, if it is intact. -/
def bootRecord (m : Mem) (b : Block) (i : Nat) : Option BootState :=
  let l := m.flashBytes (bootOffset b i) 64
  if slotNum l 60 4 = (crc32c (l.take 60)).toNat then
    some { seq := slotNum l 0 4, prefer := slotNum l 4 1, trial := slotNum l 5 1 }
  else none

/-- The record in effect, and which it is. -/
def bootState (m : Mem) (b : Block) : BootState × Option Nat :=
  match bootRecord m b 0, bootRecord m b 1 with
  | some x, some y => if x.seq < y.seq then (y, some 1) else (x, some 0)
  | some x, none => (x, some 0)
  | none, some y => (y, some 1)
  | none, none => ({}, none)

/-- Write a boot-state record, in the place of the one that is not in effect. -/
def bootWrite (m : Mem) (prefer trial : Nat) (b : Block) : Block :=
  let (x, at_) := bootState m b
  let i := if at_ = some 0 then 1 else 0
  let l := leBytes 4 (x.seq + 1) ++ [BitVec.ofNat 8 prefer, BitVec.ofNat 8 trial] ++ List.replicate 54 0
  (b.eraseFlash (bootOffset b i) 4096).storeFlash (bootOffset b i) (l ++ leBytes 4 (crc32c l).toNat)

/-! ## Training records (R371, R372) -/

/-- The identity that a training record carries: part code, stepping code, fused serial number. The rule does not lay the
record out (log 86). -/
def partIdentity (b : Block) : List Byte :=
  leBytes 2 0x7240 ++ leBytes 2 (b.get F.SYS_ID_STEP) ++ leBytes 8 Config.serial.toNat

/-- What must be the same at a fast start: the identity, MR5 to MR8 of every subchannel, and RATE. -/
def trainingKey (b : Block) : List Byte :=
  partIdentity b ++ ((List.range 16).map fun i => (List.range 4).map fun k => tget 0 b.dram.mrs (256 * i + 5 + k)).flatten ++
    leBytes 2 (b.get F.MEM_CFG_RATE)

/-- The delay and Vref registers of a channel, by their offset in its window: command bus, WCK, read gate, Vref, then the read
and the write delays. -/
def settingOffsets : List Nat := [0x20, 0x24, 0x28, 0x50] ++ (List.range 16).map fun i => 0x60 + 4 * i

/-- The settings of a channel. -/
def channelSettings (b : Block) (ch : Nat) : List Byte :=
  (settingOffsets.map fun o => leBytes 4 (b.reg (0xA0000 + 0x10000 * ch + o)).toNat).flatten

/-- The training record of a sequence number, with its CRC-32C. -/
def trainingRecord (b : Block) (seq : Nat) : List Byte :=
  let l := leBytes 4 seq ++ trainingKey b ++ ((List.range 8).map (channelSettings b)).flatten
  l ++ leBytes 4 (crc32c l).toNat

/-- The offset of training record `i`, in the training area (R475). -/
def trainingOffset (b : Block) (i : Nat) : Nat := flashSize b / 2 - mib + i * (mib / 2)

/-- Training record `i` up to its CRC, if that is good: its sequence number, and what must be the same. -/
def storedRecord (m : Mem) (b : Block) (i : Nat) : Option (Nat × List Byte) :=
  let l := m.flashBytes (trainingOffset b i) 726
  if slotNum l 722 4 = (crc32c (l.take 722)).toNat then some (slotNum l 0 4, (l.drop 4).take 78) else none

/-- The newer record with a good CRC, and which it is. -/
def newestRecord (m : Mem) (b : Block) : Option (Nat × (Nat × List Byte)) :=
  match storedRecord m b 0, storedRecord m b 1 with
  | some x, some y => some (if x.1 < y.1 then (1, y) else (0, x))
  | some x, none => some (0, x)
  | none, some y => some (1, y)
  | none, none => none

/-- The stored training can be verified (R372): a record has a good CRC, and what must be the same is the same. -/
def fastStart (m : Mem) (b : Block) : Bool :=
  match newestRecord m b with
  | some (_, _, l) => l = trainingKey b
  | none => false

/-- A reason for which the record is rejected (R372) agrees with what the flash and the devices hold: 0 a difference, 1 no
good CRC, 2 and 3 runs at the stored delays. -/
def rejectionHolds (m : Mem) (b : Block) (reason : Nat) : Bool :=
  if reason = 0 then (newestRecord m b).isSome && !fastStart m b
  else if reason = 1 then (newestRecord m b).isNone
  else fastStart m b

/-- After a full training Fihus writes a record, in the place of the one that is not the newer (R371). -/
def writeTraining (m : Mem) (b : Block) : Block :=
  let (i, seq) := match newestRecord m b with
    | some (i, n, _) => (1 - i, n + 1)
    | none => (0, 1)
  (b.eraseFlash (trainingOffset b i) 4096).storeFlash (trainingOffset b i) (trainingRecord b seq)

/-! ## Images (R476-R478) -/

/-- The flash offset of a copy. -/
def copyBase (b : Block) (k : Nat) : Nat := if k = 0 then 0 else flashSize b / 2

/-- A number of an image header, by offset and size. -/
def hdrNum (m : Mem) (b : Block) (k o n : Nat) : Nat := ofLe (m.flashBytes (copyBase b k + o) n)

/-- An entry of the section table. -/
structure Section where
  type : Nat
  required : Bool
  off : Nat
  len : Nat
  load : Nat
  hash : List Byte
deriving DecidableEq, Repr

/-- The section table of a copy. -/
def sections (m : Mem) (b : Block) (k : Nat) : List Section :=
  (List.range (hdrNum m b k 20 2)).map fun i =>
    let o := 64 + 48 * i
    { type := hdrNum m b k o 1, required := bit (hdrNum m b k (o + 1) 1) 0, off := hdrNum m b k (o + 4) 4,
      len := hdrNum m b k (o + 8) 4, load := hdrNum m b k (o + 12) 4, hash := m.flashBytes (copyBase b k + o + 16) 32 }

/-- The section of a TYPE. -/
def sectionOf (m : Mem) (b : Block) (k t : Nat) : Option Section := (sections m b k).find? (·.type = t)

/-- The sections that are required exactly once, those that are applied at first light in their order, and the later ones
in the order in which they are applied (R476, R484, R486). -/
def requiredSections : List Nat := [1, 2, 4, 6, 8, 9, 11]
def earlySections : List Nat := [8, 9, 11, 1, 4]
def laterSections : List Nat := [2, 6, 3, 5, 7, 10]

/-- The registers that a section may write (table Sections), by their address in the peripheral space. -/
def sectionMayWrite (t a : Nat) : Bool :=
  let w := a / 0x10000
  let o := a % 0x10000
  let timHead := w = 4 && 0x1000 ≤ o && o < 0x2800
  if t = 1 then (w = 4 && !timHead) || w = 5 || (64 ≤ w && w ≤ 76) || (80 ≤ w && w ≤ 91)
  else if t = 2 then 9 ≤ w && w ≤ 17
  else if t = 3 then w = 24 || (40 ≤ w && w ≤ 49)
  else if t = 4 then timHead || (32 ≤ w && w ≤ 35 && 0x100 ≤ o && o < 0x200) || w = 36
  else if t = 5 then (32 ≤ w && w ≤ 35) || w = 7 || (w = 36 && 0x4000 ≤ o && o < 0x8000)
  else if t = 7 then w = 20
  else if t = 8 then w = 6 || w = 23
  else if t = 9 then isRule a
  else if t = 11 then w = 21 || w = 22
  else false

/-- A word of the flash. -/
def flashWord (m : Mem) (a : Nat) : Nat := ofLe (m.flashBytes a 4)

/-- A tag word's KIND and N (R477). -/
def tagKind (w : Nat) : Nat := w % 256
def tagN (w : Nat) : Nat := w / 256

/-- The words that follow the tag of a well-formed record of section `t`; none for a malformed one. -/
def recordWords (t w : Nat) : Option Nat :=
  let n := tagN w
  if tagKind w = 1 then some (n + 1)
  else if tagKind w = 2 then some 3
  else if tagKind w = 3 then some 0
  else if tagKind w = 0x10 && t = 11 then some (9 * n)
  else if tagKind w = 0xFF && n = 0 then some 0
  else none

/-- The registers that a RUN record writes. -/
def runTargets (m : Mem) (a : Nat) : List Nat :=
  (List.range (tagN (flashWord m a))).map fun i => flashWord m (a + 4) + 4 * i

/-- A RUN record writes only registers that its section may write. -/
def runAllowed (m : Mem) (t a : Nat) : Bool :=
  tagKind (flashWord m a) ≠ 1 ||
    (runTargets m a).all fun x => x % 4 = 0 && periphBase ≤ x && sectionMayWrite t (x - periphBase)

/-- The records from `a` to `z` are well formed and end with END (R477, reason 9). -/
def recordsOk (m : Mem) (t z : Nat) : Nat → Nat → Bool
  | 0, _ => false
  | n + 1, a =>
    if z < a + 4 then false
    else match recordWords t (flashWord m a) with
      | none => false
      | some k =>
        if z < a + 4 + 4 * k then false
        else if tagKind (flashWord m a) = 0xFF then true
        else runAllowed m t a && recordsOk m t z n (a + 4 + 4 * k)

/-- The scenes of a scene section at flash offset `a`: offset and length of each (R478). -/
def scenes (m : Mem) (a : Nat) : List (Nat × Nat) :=
  (List.range (flashWord m a)).map fun i => (flashWord m (a + 4 + 8 * i), flashWord m (a + 8 + 8 * i))

/-- A section is well formed (reason 9). -/
def sectionOk (m : Mem) (b : Block) (k : Nat) (s : Section) : Bool :=
  let a := copyBase b k + s.off
  if s.type = 6 || s.type = 10 then true
  else if s.type = 5 then
    let c := flashWord m a
    1 ≤ c && c ≤ 64 && (scenes m a).all fun q => q.1 + q.2 ≤ s.len && recordsOk m 5 (a + q.1 + q.2) (q.2 / 4 + 1) (a + q.1)
  else recordsOk m s.type (a + s.len) (s.len / 4 + 1) a

/-- The section table is well formed (reason 7). -/
def tableOk (m : Mem) (b : Block) (k : Nat) : Bool :=
  let n := hdrNum m b k 20 2
  let len := hdrNum m b k 8 4
  let l := sections m b k
  let span (s : Section) : Nat × Nat := (s.off, s.off + s.len)
  1 ≤ n && n ≤ 32 && len ≤ flashSize b / 2 - mib &&
    requiredSections.all (fun t => (l.filter (·.type = t)).length = 1) &&
    l.all (fun s => s.off % 4096 = 0 && 4096 ≤ s.off && s.off + s.len ≤ len) &&
    l.zipIdx.all (fun p => l.zipIdx.all fun q => p.2 = q.2 || (span p.1).2 ≤ (span q.1).1 || (span q.1).2 ≤ (span p.1).1) &&
    l.all (fun s => (1 ≤ s.type && s.type ≤ 11) || !s.required)

/-- Why a header is rejected (table Copy rejection reasons, 1 to 7), if it is; `err`: its read returned an error. -/
def headerBad (m : Mem) (b : Block) (k : Nat) (err : Bool) : Option Nat :=
  let pub := m.flashBytes (copyBase b k + 1600) 64
  if err then some 10
  else if m.flashBytes (copyBase b k) 4 ≠ [0x4E, 0x4B, 0x50, 0x49] || hdrNum m b k 22 2 ≠ 0x7240 then some 1
  else if hdrNum m b k 4 1 ≠ 1 then some 2
  else if 3 < hdrNum m b k 7 1 || Config.fusedKey (hdrNum m b k 7 1) ≠ some (sha256 pub) then some 3
  else if !ecdsaOk pub (m.flashBytes (copyBase b k + 4032) 64) (m.flashBytes (copyBase b k) 4032) then some 4
  else if hdrNum m b k 12 4 < Config.minSvn then some 5
  else if hdrNum m b k 6 1 ≠ b.get F.WDN_ABI_MAJOR then some 6
  else if !tableOk m b k then some 7
  else none

/-- The first of a list of section types whose data a copy fails in, with the reason: its flash read, or its hash
(R479, R480; DESIGN CHOICE, log 86: a section that cannot be read has no hash to compare, so 10 stands in the place of
its 8). -/
def hashesBad (m : Mem) (b : Block) (k : Nat) (err : Option Nat) : List Nat → Option (Nat × Nat)
  | [] => none
  | t :: r =>
    match sectionOf m b k t with
    | none => hashesBad m b k err r
    | some s =>
      if err = some t then some (10, t)
      else if sha256 (m.flashBytes (copyBase b k + s.off) s.len) ≠ s.hash then some (8, t)
      else hashesBad m b k err r

/-- The first of a list of section types with a record that is not well formed or writes a window it may not (reason 9). -/
def recordsBad (m : Mem) (b : Block) (k : Nat) : List Nat → Option (Nat × Nat)
  | [] => none
  | t :: r =>
    match sectionOf m b k t with
    | none => recordsBad m b k r
    | some s => if sectionOk m b k s then recordsBad m b k r else some (9, t)

/-- The first check, in the order of the table Copy rejection reasons, that a copy's sections of these types fail (R479):
every section's data before any section's records. -/
def sectionsBad (m : Mem) (b : Block) (k : Nat) (err : Option Nat) (ts : List Nat) : Option (Nat × Nat) :=
  match hashesBad m b k err ts with
  | some x => some x
  | none => recordsBad m b k ts

/-! ## Choosing a copy (R479-R482, R491) -/

/-- A copy is rejected (code 0x1602): reason and section TYPE, 0 for its header. -/
def rejectCopy (m : Mem) (k reason t : Nat) (b : Block) : Block :=
  let a := copyBase b k + (match sectionOf m b k t with | some s => (if t = 0 then 0 else s.off) | none => 0)
  let b := if k = 0 then (b.put F.XSP_REJ_REJ_A reason).put F.XSP_REJ_SECT_A t
    else (b.put F.XSP_REJ_REJ_B reason).put F.XSP_REJ_SECT_B t
  let b := b.setStart { b.start with rejected := (b.start.rejected.filter (·.1 ≠ k)) ++ [(k, reason)] }
  (b.evt F.XSP_EVT_REJECT).record 0x1602 5 k reason t a

/-- No copy is usable (R482, code 0x1603). -/
def noCopy (b : Block) : Block :=
  let r (k : Nat) : Nat := (b.start.rejected.lookup k).getD 0
  let b := b.setStart { b.start with stay := true }
  let b := if b.start.chosen.isNone then (b.flag F.XSP_STAT_RECOVERY true).flag F.MGT_STAT_RECOVERY true else b
  b.record 0x1603 6 (r 0) (r 1) (b.get F.XSP_STAT_STAGE)

/-- The order in which the copies are tried (R479, R491). -/
def copyOrder (m : Mem) (b : Block) : List Nat :=
  let x := (bootState m b).1
  let f := match b.start.named with
    | some k => k
    | none => if x.trial = 0 then x.prefer % 2 else (x.trial - 1) % 2
  [f, 1 - f]

/-- Begin to apply a section, or scene `n` of the scene section. -/
def startApply (m : Mem) (t n cls : Nat) (b : Block) : Block :=
  match b.start.chosen with
  | none => b
  | some k =>
    match sectionOf m b k t with
    | none => b
    | some s =>
      let a := copyBase b k + s.off
      let first := if t = 5 then a + ((scenes m a).getD n (0, 0)).1 else a
      b.setStart { b.start with apps := b.start.apps ++ [{ sect := t, cls := cls, base := a, next := first }] }

/-- A copy's header and early sections are accepted: their application begins. A trial that this ends is recorded (R493). -/
def chooseCopy (m : Mem) (k : Nat) (b : Block) : Block :=
  let x := (bootState m b).1
  let b := b.setStart { b.start with chosen := some k, early := earlySections.drop 1 }
  let b := (b.put F.XSP_STAT_COPY k).put F.XSP_IMG_SEQ (hdrNum m b k 16 4)
  let b :=
    if x.trial = 0 then b
    else if x.trial = k + 1 then b.flag F.XSP_STAT_TRIAL true
    else (bootWrite m x.prefer 0 b).record 0x1605 3 (x.trial - 1) 1
  startApply m 8 0 0 b

/-- At ROM the Warden verifies the next copy: its header and its early sections (R479, R481). -/
def verifyAtRom (m : Mem) (err : Option Nat) (b : Block) : Block :=
  match (copyOrder m b).find? fun k => (b.start.rejected.lookup k).isNone with
  | none => b
  | some k =>
    let bad := match headerBad m b k (err = some 0) with
      | some r => some (r, 0)
      | none => sectionsBad m b k err earlySections
    match bad with
    | none => chooseCopy m k b
    | some (r, t) =>
      let b := rejectCopy m k r t b
      if b.start.rejected.length < 2 then b else noCopy b

/-- Ask for a re-pour of a copy (R490). -/
def askRepour (copy : Nat) (force : Bool) (b : Block) : Block :=
  (b.setStart { b.start with repour := some { copy := copy, force := force } }).flag F.XSP_STAT_REPOUR true

/-- The later sections of the copy in effect (R481, code 0x1601): a copy that fails them is rejected, and a re-pour of the
other begins. -/
def verifyLater (m : Mem) (k : Nat) (err : Option Nat) (b : Block) : Block :=
  match sectionsBad m b k err laterSections with
  | none =>
    let b := b.setStart { b.start with later := true }
    let b := b.record 0x1601 2 k (hdrNum m b k 16 4) (hdrNum m b k 5 1) (hdrNum m b k 12 4)
    startApply m 2 0 0 b
  | some (r, t) =>
    let b := rejectCopy m k r t b
    if b.start.rejected.length < 2 then askRepour (1 - k) false b else noCopy b

/-- The whole of the copy that a re-pour names (R491, code 0x1606). -/
def verifyRepour (c : Clk) (m : Mem) (q : Repour) (err : Option Nat) (b : Block) : Block :=
  let bad := match headerBad m b q.copy (err = some 0) with
    | some r => some (r, 0)
    | none => sectionsBad m b q.copy err (earlySections ++ laterSections)
  match bad with
  | none =>
    (b.setStart { b.start with repour := some { q with verified := true, since := c.steady, frame := refAwaits c b } }).record 0x1606 4 q.copy (b2n q.force)
      (hdrNum m b q.copy 16 4)
  | some (r, t) =>
    let had := match b.start.chosen with | some k => (b.start.rejected.lookup k).isSome | none => false
    let b := rejectCopy m q.copy r t b
    let b := (b.setStart { b.start with repour := none }).flag F.XSP_STAT_REPOUR false
    let b := b.flag F.XSP_STAT_REPOUR_FAIL true
    if had then noCopy b else b

/-- COPY_VERIFY (R474, R479, R481, R491), by the Warden: what there is to verify follows from the stage. `size` and `octal`: what the flash
device shows; `err`: the section TYPE whose flash read returns an error, 0 for the header. -/
def copyVerify (c : Clk) (m : Mem) (size : Nat) (octal : Bool) (err : Option Nat) (b : Block) : Block :=
  if !issues b 0 then b
  else match b.start.repour with
  | some q => if q.verified then b else verifyRepour c m q err b
  | none =>
    match b.start.chosen with
    | none =>
      if b.get F.SYS_LC_STATE = 2 || b.start.stay then b
      else verifyAtRom m err ((b.put F.XSP_STAT_SIZE_LOG2 (24 + size)).flag F.XSP_STAT_MODE octal)
    | some k => if b.get F.XSP_STAT_STAGE = 0 || b.start.later || b.start.stay then b else verifyLater m k err b

/-! ## Applying sections (R477, R484, R486) -/

/-- The application of a section, if it is under way and the class that applies it issues accesses. -/
def applying (b : Block) (t : Nat) : Option Applying := b.start.apps.find? fun x => x.sect = t && issues b x.cls

/-- Replace the application of a section. -/
def setApplying (x : Applying) (b : Block) : Block :=
  b.setStart { b.start with apps := replaceFirst (·.sect = x.sect) (fun _ => [x]) b.start.apps }

/-- A section's next record is applied: go on behind it. -/
def passRecord (m : Mem) (x : Applying) (b : Block) : Block :=
  setApplying { x with next := x.next + 4 + 4 * (recordWords x.sect (flashWord m x.next)).getD 0, wait := .none } b

/-- The next record of a section, if it is of a kind and nothing is waited for. -/
def recordIs (m : Mem) (x : Applying) (kind : Nat) : Bool := x.wait = .none && tagKind (flashWord m x.next) = kind

/-- END: the section is applied, and the next early section begins (R484); the Flask rules are committed, the colours
checked. -/
def sectionDone (c : Clk) (m : Mem) (t : Nat) (b : Block) : Block :=
  match applying b t with
  | none => b
  | some x =>
    if !recordIs m x 0xFF then b
    else
      let b := b.setStart { b.start with
        apps := replaceFirst (·.sect = t) (fun _ => []) b.start.apps, dramDone := b.start.dramDone || t = 2 }
      let b := if t = 9 then flaskGo c b else if t = 4 then colourCheck b else b
      if !earlySections.contains t then b
      else match b.start.early with
        | [] => b
        | n :: r => startApply m n 0 0 (b.setStart { b.start with early := r })

/-- DELAY: the wait begins (R477). -/
def delayRecord (c : Clk) (m : Mem) (t : Nat) (b : Block) : Block :=
  match applying b t with
  | none => b
  | some x =>
    if recordIs m x 3 then setApplying { x with wait := .delay (c.steady + tagN (flashWord m x.next) * usTick) } b else b

/-- The wait of a DELAY record ends. -/
def delayOver (c : Clk) (m : Mem) (t : Nat) (b : Block) : Block :=
  match applying b t with
  | none => b
  | some x =>
    match x.wait with
    | .delay u => if u ≤ c.steady then passRecord m x b else b
    | .poll _ => b
    | .none => b

/-- KEYS: shop keys with their roles, in the order of their slots (R477). -/
def keysRecord (m : Mem) (t : Nat) (b : Block) : Block :=
  match applying b t with
  | none => b
  | some x =>
    if !recordIs m x 0x10 then b
    else
      let l := (List.range (tagN (flashWord m x.next))).map fun i =>
        let a := x.next + 4 + 36 * i
        ({ role := flashWord m a, key := m.flashBytes (a + 4) 32 } : ShopKey)
      passRecord m x (b.setShop { b.shop with keys := b.shop.keys ++ l })

/-! ## Stages (R483-R488) -/

/-- A stage is reached (code 0x1604). -/
def reachStage (c : Clk) (n : Nat) (b : Block) : Block :=
  let ms := c.steady / msTick
  let b := (b.put F.XSP_STAT_STAGE n).evt F.XSP_EVT_STAGE
  let b := if n = 1 then b.put F.XSP_TIME_T_FL (min 65535 ms) else if n = 3 then b.put F.XSP_TIME_T_FULL (min 65535 ms) else b
  b.record 0x1604 2 n ms (b.get F.XSP_STAT_COPY)

/-- First light (R484-R486): slag frames on every head, the links and the rasters started, MEMA and MEMB requested. -/
def firstLight (c : Clk) (b : Block) : Block :=
  if !issues b 0 || b.get F.XSP_STAT_STAGE ≠ 0 || b.start.chosen.isNone || !b.start.early.isEmpty || !b.start.apps.isEmpty then b
  else
    let b := reachStage c 1 b
    let b := (List.range 64).foldl (fun b h =>
      let b := b.setFet h { b.fet h with imgSlag := b.slagHead h }
      b.flag F.FET_HEAD_CTL_SLAGFRAME true h) b
    let b := (List.range 3).foldl (fun b k => if b.on F.SPR_K_CTL_EN k then sprEnable c k b else b) b
    let b := (List.range 64).foldl (fun b h => if b.on F.TIM_HEAD_CTL_EN h then headStart c h b else b) b
    let b := pairFirstLight c b
    let req := b.get F.PWR_DOM_REQ_REQ
    b.put F.PWR_DOM_REQ_REQ (req ||| 0x30000)

/-- Load the Fihus section into working SRAM, with its CRC-32C recorded (R389, R486). -/
def loadFihus (m : Mem) (k : Nat) (b : Block) : Block :=
  match sectionOf m b k 6 with
  | none => b
  | some s =>
    let l := m.flashBytes (copyBase b k + s.off) s.len
    (b.setCtl { b.ctl with fihus := some { load := s.load, len := s.len, crc := crc32c l } }).store (workingBase + s.load) l

/-- DRAM (R370-R372, R486): training has ended. `rejected`: stored training records that were rejected, with the reason; with
none, and a record that can be verified, it was a fast start, else a full training, after which a record is written.
`failed`: channels that failed, with the step and the lanes. With MEM_STAT.READY, Fihus is loaded and the clusters run. -/
def dramStage (c : Clk) (m : Mem) (rejected : List (Nat × Nat)) (failed : List (Nat × Nat × Nat)) (b : Block) : Block :=
  if !issues b 0 || b.get F.XSP_STAT_STAGE ≠ 1 || !b.start.dramDone || b.start.stay then b
  else
    let rejected := rejected.filter fun q => rejectionHolds m b q.2
    let full := !rejected.isEmpty || !fastStart m b
    let b := rejected.foldl (fun b q => b.record (inst := (q.1 + 1)) 0x0902 3 q.1 q.2) b
    let b := failed.foldl (fun b q => trainingFailed q.1 q.2.1 q.2.2 b) b
    match b.start.chosen with
    | none => b
    | some k =>
      if !failed.isEmpty || !b.on F.MEM_STAT_READY then b
      else
        let b := if full then writeTraining m b else b
        let b := (loadFihus m k b).flag F.SYS_REMAP_SWAP true
        let b := (List.range 4).foldl (fun b k => clusterRun c k true b) b
        let b := reachStage c 2 b
        startApply m 7 0 4 (startApply m 5 0 3 (startApply m 3 0 2 b))

/-- XSP_SEAL.GO written by the Warden (R487, R488). -/
def startSeal (c : Clk) (b : Block) : Block :=
  if b.on F.XSP_STAT_SEALED then b
  else reachStage c 3 (((colourCheck b).flag F.XSP_STAT_SEALED true).setStart { b.start with fullAt := c.steady })

/-- Seconds held at FULL in a trial (XSP_TRIAL.HELD). -/
def trialHeld (c : Clk) (b : Block) : Nat :=
  if b.on F.XSP_STAT_TRIAL && b.get F.XSP_STAT_STAGE = 3 then (c.steady - b.start.fullAt) / sTick else 0

/-- The trial ends with the copy adopted (R493, code 0x1605). -/
def trialEnd (c : Clk) (m : Mem) (b : Block) : Block :=
  let n := trialHeld c b
  if !issues b 0 || !b.on F.XSP_STAT_TRIAL || b.get F.XSP_STAT_STAGE ≠ 3 || n < b.get F.XSP_TRIAL_TRIAL_S then b
  else
    let k := b.get F.XSP_STAT_COPY
    ((bootWrite m k 0 b).flag F.XSP_STAT_TRIAL false).record 0x1605 3 k 0 n

/-! ## Resets (R492, R507, R509, R511) -/

/-- Every register returns to its reset value but those that `keep` selects. -/
def keptRegs (keep : Nat → Bool) (b : Block) : List (Nat × Word) := b.regs.filter fun q => keep q.1

/-- The event of code 0x0001. -/
def resetEvent (b : Block) (cause : Nat) : Event :=
  { code := 0x0001, sev := 2, origin := 0, p0 := BitVec.ofNat 32 cause, p1 := BitVec.ofNat 32 (b.get F.SYS_LC_STATE),
    p2 := b.reg F.SYS_STRAP_UNIT.addr }

/-- The part starts again: what only a loss of the part ends is kept, that is the MRAM, the fuses, the JTAG port, what
has left the part, and the count of free values; the fabric's memories are empty. -/
def restart (cause : Nat) (b b0 : Block) : Block :=
  let b1 : Block := { b0 with free := b.free, out := b.out, now := b.now, jtag := b.jtag, clkReset := true }
  let b1 := (b1.put F.SYS_LC_STATE (b.get F.SYS_LC_STATE)).put F.SYS_RST_CAUSE cause
  { b1.unstore 0 (2 ^ 40) with evq := b1.evq ++ [resetEvent b1 cause] }

/-- A reset of the fabric region and the switched domains (R492): the straps, the recorder and the black-box port run on. -/
def fabricReset (cause : Nat) (b : Block) : Block :=
  let keep (a : Nat) : Bool := a / 0x10000 = 6 || a / 0x10000 = 23 || a = F.SYS_STRAP_UNIT.addr
  let l := b.log
  let log : RecSt := { l with
    opNext := l.opNext - b.now, key := none, buf := l.buf.map fun q => { q with since := q.since - b.now } }
  restart cause b
    { regs := keptRegs keep b, evq := b.evq, log := log, stores := b.stores, pair := { heats := b.pair.heats } }

/-- RESET_N goes low (R507): the part is in reset; a supply monitor that had tripped is remembered (R509). -/
def resetAssert (b : Block) : Block :=
  if b.hold = .all then b
  else { releasePins (b.put F.SYS_RST_CAUSE (if b.hold = .fabric then 2 else 1)) with hold := .all }

/-- RESET_N goes high (R507, R514): the straps are sampled, and the boot ROM starts. -/
def resetRelease (unit : Bool) (pos : Nat) (powerOn : Bool) (b : Block) : Block :=
  let cause := if b.get F.SYS_RST_CAUSE = 2 then 2 else if powerOn then 0 else 1
  let b0 : Block := { log := { store := b.log.store } }
  restart cause b ((b0.flag F.SYS_STRAP_UNIT unit).put F.SYS_STRAP_POS pos)

/-- Sessions end at a re-pour or a wipe (R498, code 0x1502). -/
def endSessions (cause : Nat) (b : Block) : Block :=
  let b := b.shop.sessions.foldl (fun b x => b.record 0x1502 2 x.id cause x.count) b
  (b.setShop { b.shop with sessions := [], msgs := [] }).put F.MGT_STAT_SESSIONS 0

/-- A re-pour takes effect (R491-R493). -/
def repourBegin (c : Clk) (m : Mem) (b : Block) : Block :=
  match b.start.repour with
  | none => b
  | some q =>
    if !issues b 0 || !q.verified || !refInstant c q.since q.frame b then b
    else
      let b := endSessions 3 b
      let x := (bootState m b).1
      let b := if q.copy = x.prefer % 2 then b else bootWrite m x.prefer (q.copy + 1) b
      let b := fabricReset 4 b
      b.setStart { b.start with named := some q.copy }

/-- The temperature has fallen by 20 °C after a shutdown (R522). -/
def thermalRestart (b : Block) : Block :=
  if b.hot && b.geti F.SYS_TEMP_TJ ≤ shutdownTj - 160 then fabricReset 3 (endSessions 3 b) else b

/-! ## Flash operations (R475, table XSP fields) -/

/-- XSP_OP.GO with an OP (R475): READ moves bytes into the banked region of the scratchpad, the others write the flash. -/
def flashGo (cls op : Nat) (b : Block) : Block :=
  if b.on F.XSP_OP_STAT_BUSY then b.evt F.XSP_EVT_WIGN
  else
    let a := b.get F.XSP_ADDR_ADDR
    let len := b.get F.XSP_LEN_LEN
    let badLen := (op = 1 && 65536 < len) || (op = 2 && (len = 0 || 256 < len || 256 < a % 256 + len))
    if badLen || op < 1 || 4 < op then b.evt F.XSP_EVT_WIGN
    else
      let b := ((b.flag F.XSP_OP_STAT_DONE false).flag F.XSP_OP_STAT_ERR false).flag F.XSP_OP_STAT_REFUSED false
      let size := if op = 3 then 4096 else 65536
      let (a, n) := if op = 2 then (a, len) else (a / size * size, size)
      if op ≠ 1 && !flashWritable b cls a n then flashRefused cls a (b.flag F.XSP_OP_STAT_REFUSED true)
      else
        let a := if op = 1 then b.get F.XSP_ADDR_ADDR else a
        (b.setStart { b.start with op := some { op := op, addr := a, len := len, buf := b.get F.XSP_BUF_BUF, cls := cls } }).flag
          F.XSP_OP_STAT_BUSY true

/-- Where the banked region of the scratchpad begins. -/
def bankedBase : Nat := scratchBase + 0x40000

/-- A flash operation ends; `err`: the device reported an error. The xSPI DMA is of class 9. -/
def flashDone (c : Clk) (m : Mem) (err : Bool) (b : Block) : Block :=
  match b.start.op with
  | none => b
  | some q =>
    let b := (b.setStart { b.start with op := none }).flag F.XSP_OP_STAT_BUSY false
    let b := (b.flag F.XSP_OP_STAT_DONE true).evt F.XSP_EVT_OP_DONE
    let buf := 0x40000 + 4 * q.buf
    let spd := onDieOk b 9 (.scratch buf) false
    if err then b.flag F.XSP_OP_STAT_ERR true
    else if q.op ≤ 2 && !spd then
      flaskRefuse c 9 (scratchBase + buf) (q.op = 1) false { reason := 5, slot := noSlot } (classSupervisor 9)
        (b.flag F.XSP_OP_STAT_ERR true)
    else if q.op = 1 then b.store (bankedBase + 4 * q.buf) (m.flashBytes q.addr q.len)
    else if q.op = 2 then programFlash m q.addr (m.bytes (bankedBase + 4 * q.buf) q.len) b
    else b.eraseFlash q.addr (if q.op = 3 then 4096 else 65536)

/-! ## Commands -/

/-- RESET_ASSERT (R507, R518). -/
def execResetAssert (dt : Nat) (s : State) : Host.Outcome State Fault Refusal :=
  .next ((s.pass dt).act fun _ _ b => resetAssert b)

/-- RESET_RELEASE (R36, R37, R507, R514). -/
def execResetRelease (dt : Nat) (unit : Bool) (pos : Fin 4) (powerOn : Bool) (s : State) :
    Host.Outcome State Fault Refusal :=
  .next (if s.blk.hold = .all then (s.pass dt).act fun _ _ b => resetRelease unit pos.val powerOn b else s.pass dt)

/-- COPY_VERIFY (R479). -/
def execCopyVerify (dt : Nat) (size : Fin 3) (octal : Bool) (err : Option (Fin 12)) (s : State) :
    Host.Outcome State Fault Refusal :=
  s.run dt fun c m b => copyVerify c m size.val octal (err.map (·.val)) b

/-- DELAY (R477). -/
def execImageDelay (dt : Nat) (sect : Fin 12) (s : State) : Host.Outcome State Fault Refusal :=
  s.run dt fun c m b => delayRecord c m sect.val b

/-- DELAY_END (R477). -/
def execDelayEnd (dt : Nat) (sect : Fin 12) (s : State) : Host.Outcome State Fault Refusal :=
  s.run dt fun c m b => delayOver c m sect.val b

/-- KEYS (R477). -/
def execImageKeys (dt : Nat) (sect : Fin 12) (s : State) : Host.Outcome State Fault Refusal :=
  s.run dt fun _ m b => keysRecord m sect.val b

/-- FIRST_LIGHT (R484). -/
def execFirstLight (dt : Nat) (s : State) : Host.Outcome State Fault Refusal := s.run dt fun c _ b => firstLight c b

/-- DRAM_STAGE (R486). -/
def execDramStage (dt : Nat) (rejected : List (Fin 8 × Fin 4)) (failed : List (Fin 8 × Fin 16 × Word)) (s : State) :
    Host.Outcome State Fault Refusal :=
  s.run dt fun c m b => dramStage c m (rejected.map fun q => (q.1.val, q.2.val))
    (failed.map fun q => (q.1.val, q.2.1.val, q.2.2.toNat)) b

/-- REPOUR_BEGIN (R491-R493). -/
def execRepourBegin (dt : Nat) (s : State) : Host.Outcome State Fault Refusal := s.run dt fun c m b => repourBegin c m b

/-- TRIAL_END (R493). -/
def execTrialEnd (dt : Nat) (s : State) : Host.Outcome State Fault Refusal := s.run dt fun c m b => trialEnd c m b

/-- FLASH_OP_DONE (R475). -/
def execFlashOpDone (dt : Nat) (err : Bool) (s : State) : Host.Outcome State Fault Refusal :=
  s.run dt fun c m b => flashDone c m err b

/-- THERMAL_RESTART (R522). -/
def execThermalRestart (dt : Nat) (s : State) : Host.Outcome State Fault Refusal := s.run dt fun _ _ b => thermalRestart b

end Sys2Proof.Machine
end

