-- ==== Sys2Proof/Machine/Mailbox.lean ====
section
/-! DEFINITION. The Warden's mailboxes (R395-R398) and the opcodes it serves (R487, R490, R304, R393, R465). -/

namespace Sys2Proof.Machine

open Sys2Proof

/-- The clusters from which an opcode is served (table Mailbox opcodes); none for an unknown opcode. -/
def mbFrom (op : Nat) : Option (List Nat) :=
  if op = 1 || op = 6 then some [0, 1, 2, 3]
  else if op = 2 || op = 4 || op = 7 then some [3]
  else if op = 3 || op = 5 then some [0]
  else none

/-- The argument words that an opcode defines (table Mailbox opcodes). -/
def mbArguments (op : Nat) : Nat := if op = 4 || op = 5 then 2 else if op = 3 || op = 7 then 1 else 0

/-- Why a request is answered without being served, if it is: ABI major, opcode, cluster, argument words that are missing or
more than 14, a self-check under way. -/
def mbEarly (b : Block) (k : Nat) : Option Nat :=
  let n := bits (mbReq b k 1) 0 16
  if bits (mbReq b k 0) 24 8 ≠ b.get F.WDN_ABI_MAJOR then some 2
  else match mbFrom (mbOpcode b k) with
    | none => some 1
    | some l =>
      if !l.contains k then some 3
      else if n < mbArguments (mbOpcode b k) || 14 < n then some 4
      else if b.selfCheck.isSome then some 6
      else none

/-- WDN_MB_DB.RING of cluster `k` (R395): a halted Warden serves nothing. -/
def mbRing (k : Nat) (b : Block) : Block :=
  if b.on F.WDN_MB_STAT_BUSY k then b.evt F.WDN_MB_STAT_OVR k
  else
    let b := (b.flag F.WDN_MB_STAT_BUSY true k).evt F.WDN_EVT_MB
    if !issues b 0 then b
    else match mbEarly b k with
      | some st => mbAnswer k st [] b
      | none => b

/-- A request waits to be served. -/
def mbWaits (b : Block) (k : Nat) : Bool :=
  b.on F.WDN_MB_STAT_BUSY k && b.ctl.flaskFor ≠ some k && b.ctl.clearFor ≠ some k && !b.ctl.checkFor.contains k

/-- Serve the lowest-numbered pending mailbox, if it holds the opcode; a self-check that has begun since the ring turns it
away. -/
def mbServe (op : Nat) (f : Nat → Block → Block) (b : Block) : Block :=
  match (List.range 4).find? (mbWaits b) with
  | none => b
  | some k =>
    if !issues b 0 || mbOpcode b k ≠ op then b
    else match mbEarly b k with
      | some st => mbAnswer k st [] b
      | none => f k b

/-- HELLO (R396, R397). -/
def serveHello (k : Nat) (b : Block) : Block :=
  mbAnswer k 0 [b.get F.WDN_ABI_MAJOR * 2 ^ 24 + b.get F.WDN_ABI_MINOR * 2 ^ 16, b.get F.WDN_ABI_ROM, b.get F.SYS_ID_STEP] b

/-- The pattern image has been applied (R487). -/
def imageApplied (b : Block) : Bool := 2 ≤ b.get F.XSP_STAT_STAGE && b.start.apps.isEmpty

/-- Outputs are released (R487): a head that is not running takes its image value at once. -/
def releaseHead (h : Nat) (b : Block) : Block :=
  let x := b.fet h
  if b.fetRuns h then b.setFet h { x with rel := 1 }
  else (b.flag F.FET_HEAD_CTL_SLAGFRAME x.imgSlag h).setFet h { x with rel := 3 }

/-- RELEASE (R487, R397). -/
def serveRelease (k : Nat) (b : Block) : Block :=
  if !b.on F.MEM_STAT_READY || !imageApplied b then mbAnswer k 5 [] b
  else
    let b := b.flag F.FET_PKT_GSTAT_RELEASED true
    mbAnswer k 0 [] ((List.range 64).foldl (fun b h => releaseHead h b) b)

/-- SWITCH (R304, R397): the result is the frame index at which the roles change, in two words, the lower first. -/
def serveSwitch (k : Nat) (b : Block) : Block :=
  let cmd := mbReq b k 2
  if cmd ≠ 1 && cmd ≠ 2 then mbAnswer k 4 [] b
  else
    let ok := b.pairMode && (if cmd = 1 then takeOk b else b.role = roleActive && b.linkUp)
    let t := (refTarget b 2).toNat
    let b := switchCmd cmd b
    if ok then mbAnswer k 0 [t % 2 ^ 32, t / 2 ^ 32] b else mbAnswer k 5 [] b

/-- The rules that a FLASK rule set would leave: the words written to rule registers, by offset in the FLK window. -/
def ruleWrites (l : List (BitVec 16 × Word)) : List (Nat × Word) := l.map fun q => (0x30000 + q.1.toNat, q.2)

/-- The value of a rule register once the pending writes and a rule set have taken effect. -/
def ruleAfter (b : Block) (l : List (Nat × Word)) (a : Nat) : Nat :=
  let v := b.written a
  match l.reverse.lookup a with
  | some w => w.toNat
  | none => v.toNat

/-- The windows where a Warden-only action lies (R398). -/
def wardenWindows : List Nat := [0, 1, 2, 3, 5, 6, 22, 36, 56]

/-- Why the Warden refuses a rule set (R398). -/
def ruleSetBad (b : Block) (l : List (Nat × Word)) : Bool :=
  let ws := ruleAfter b l F.FLK_OD_WS_MASK.addr
  let data := bits ws 0 4
  l.any (fun q => !isRule q.1 || q.1 % 4 ≠ 0) ||
    wardenWindows.any (fun w => bits (ruleAfter b l (F.FLK_P_PERM_PERM.at w)) 0 2 ≠ 3) ||
    (data < b.get F.FLK_OD_WS_WDN_64K && 1 < bits ws 16 10)

/-- Write the shadow of a rule register (R398, R417). -/
def ruleShadow (b : Block) (q : Nat × Word) : Block :=
  let mask := match regAt q.1 with
    | some (r, _) => BitVec.ofNat 32 r.rw
    | none => 0
  { b with pendF := b.pendF ++ [{ addr := q.1, mask := mask, val := q.2, since := some b.now }] }

/-- FLASK (R397, R398): answered once the commit has taken effect. -/
def serveFlask (c : Clk) (rules : Option (List (BitVec 16 × Word))) (k : Nat) (b : Block) : Block :=
  match rules with
  | none => mbAnswer k 4 [] b
  | some l =>
    let w := ruleWrites l
    if ruleSetBad b w then mbAnswer k 4 [] b
    else
      let b := w.foldl ruleShadow b
      let b := if b.on F.FLK_STAT_PENDING then b else flaskGo c b
      b.setCtl { b.ctl with flaskFor := some k }

/-- LOG_CLEAR (R397, R465): answered once the clear has ended. -/
def serveClear (k : Nat) (b : Block) : Block :=
  if mbReq b k 2 ≠ 0x5AF00C1E || mbReq b k 3 ≠ 0xA50FF3E1 then mbAnswer k 4 [] b
  else if b.on F.LOG_STAT_NOSTORE || b.on F.LOG_STAT_CLEARING || b.log.stopped then mbAnswer k 5 [] b
  else (startClear b).setCtl { b.ctl with clearFor := some k }

/-- The clear that a LOG_CLEAR request waits for has ended. -/
def clearAnswer (b : Block) : Block :=
  match b.ctl.clearFor with
  | none => b
  | some k => if b.on F.LOG_STAT_CLEARING then b else mbAnswer k 0 [] (b.setCtl { b.ctl with clearFor := none })

/-- SELF_CHECK (R393, R397): answered when the check ends. -/
def serveCheck (c : Clk) (k : Nat) (b : Block) : Block :=
  checkStart c (b.setCtl { b.ctl with checkFor := b.ctl.checkFor ++ [k] })

/-- A re-pour is refused (R490). -/
def repourRefused (b : Block) (copy : Nat) (force : Bool) : Bool :=
  let busy := match b.start.op with
    | some q => flashRegion b q.addr = 2 * copy
    | none => false
  b.start.repour.isSome || busy ||
    (b.pairMode && b.role = roleActive && b.linkUp && b.get F.PAIR_STAT_PEER_ROLE = roleStandby &&
      b.pair.peerStage = stageNone && !force)

/-- REPOUR (R490): bit 0 of the argument is the copy, bit 8 FORCE. -/
def serveRepour (k : Nat) (b : Block) : Block :=
  let copy := bits (mbReq b k 2) 0 1
  let force := bit (mbReq b k 2) 8
  if repourRefused b copy force then mbAnswer k 5 [] b else mbAnswer k 0 [] (askRepour copy force b)

/-! ## Commands -/

/-- HELLO (R397). -/
def execMbHello (dt : Nat) (s : State) : Host.Outcome State Fault Refusal := s.run dt fun _ _ b => mbServe 1 serveHello b

/-- RELEASE (R487). -/
def execMbRelease (dt : Nat) (s : State) : Host.Outcome State Fault Refusal :=
  s.run dt fun _ _ b => mbServe 2 serveRelease b

/-- SWITCH (R397). -/
def execMbSwitch (dt : Nat) (s : State) : Host.Outcome State Fault Refusal := s.run dt fun _ _ b => mbServe 3 serveSwitch b

/-- FLASK (R397, R398). -/
def execMbFlask (dt : Nat) (rules : Option (List (BitVec 16 × Word))) (s : State) : Host.Outcome State Fault Refusal :=
  s.run dt fun c _ b => mbServe 4 (serveFlask c rules) b

/-- LOG_CLEAR (R397). -/
def execMbLogClear (dt : Nat) (s : State) : Host.Outcome State Fault Refusal :=
  s.run dt fun _ _ b => mbServe 5 serveClear b

/-- SELF_CHECK (R397). -/
def execMbSelfCheck (dt : Nat) (s : State) : Host.Outcome State Fault Refusal :=
  s.run dt fun c _ b => mbServe 6 (serveCheck c) b

/-- REPOUR (R490). -/
def execMbRepour (dt : Nat) (s : State) : Host.Outcome State Fault Refusal := s.run dt fun _ _ b => mbServe 7 serveRepour b

/-- BLACK_BOX_CLEAR (R466). -/
def execBlackBoxClear (dt : Nat) (s : State) : Host.Outcome State Fault Refusal :=
  s.runAon dt fun c _ b => clearAnswer (blackBoxClear c b)

/-- POWER_FAIL_FLUSH (R460). -/
def execPowerFailFlush (dt : Nat) (good : Option Nat) (s : State) : Host.Outcome State Fault Refusal :=
  s.runAon dt fun c _ b => clearAnswer (powerFail c good b)

end Sys2Proof.Machine
end

