-- ==== Sys2Proof/Machine/Bus.lean ====
section
/-! DEFINITION. A write of a register: its access codes, its update classes, what it triggers (R11-R21, R86, R292, R488,
R525). -/

namespace Sys2Proof.Machine

open Sys2Proof

/-! ## Class S: whether the block of a register runs (R14, R18) -/

/-- The moulds in effect of a Crucible. -/
def enabledMoulds (b : Block) (cru : Nat) : List Nat := (List.range 96).filter fun m => b.on F.CRU_M_CTL_EN cru m

/-- An enable that waits for its head's next band: the block counts as running from the write on (R18). -/
def enableWaits (b : Block) (f : Fld) (h : Nat) : Bool := bit (b.written (f.at h)).toNat f.lsb && !b.on f h

/-- The block that guards the class S fields of a register runs. -/
def rowRuns (b : Block) (r : RegRow) (ix : List Nat) : Bool :=
  let i := ix.getD 0 0
  let j := ix.getD 1 0
  match r.of with
  | .none => false
  | .servo => b.get F.TIM_STAT_SRV ≠ srvFree
  | .head => b.on F.TIM_HEAD_STAT_RUN i
  | .source => b.srcRuns i
  | .ring => b.on F.LAD_RING_CFG_EN i
  | .pool => (runningSources b).any fun s => b.poolOf s == i
  | .ctx => b.ctxState i j ≠ ctxUnbound
  | .slot => b.slotRuns i j
  | .group => (enabledMoulds b i).any fun m => b.get F.CRU_M_CTL_GROUP i m == j
  | .writeback => b.on F.CRU_WB_STAT_RUN i
  | .coef => (enabledMoulds b i).any fun m => b.get F.CRU_M_CTL_BANK i m == j
  | .mould => b.on F.CRU_M_CTL_EN i j
  | .fetHead => b.fetRuns i || enableWaits b F.FET_HEAD_CTL_EN i
  | .window => b.on F.FET_RSW_CFG_EN i
  | .stream => b.get F.FET_PKT_STAT_STATE i ≠ 0 || enableWaits b F.FET_PKT_CTL_EN i
  | .encStream => b.on F.ENC_S_STAT_RUN i j
  | .lane => b.laneEn (4 * i + j)
  | .mac => b.on F.ETH_M_CTL_EN i j
  | .link => b.on F.SPR_K_CTL_EN i || b.sprState i ≠ sprDown
  | .share => b.on F.SPR_SH_CFG_EN i
  | .channel => b.on F.MEM_C_STAT_IN_SERVICE i
  | .panel => b.on F.DSK_P_STAT_RUN i
  | .desk => (List.range 4).any fun p => b.on F.DSK_P_STAT_RUN p
  | .assay => b.on F.ASY_U_STAT_BUSY i
  | .mgt => b.on F.MGT_CTL_EN

/-- The bits of a word of a node array whose nodes belong to a running panel; `n` nodes to a word, `w` bits each. -/
def nodeBits (b : Block) (word n w : Nat) : Word :=
  let owned := ((List.range 4).filter fun p => b.on F.DSK_P_STAT_RUN p).flatMap (panelNodes b)
  BitVec.ofNat 32 (((List.range n).filter fun i => owned.contains (n * word + i)).foldl
    (fun v i => v + (2 ^ w - 1) * 2 ^ (w * i)) 0)

/-- The bits of a register that a write does not change now: class S of a running block, class O after the seal
(R14, R488). The node arrays follow the panel that owns each node. -/
def lockedBits (b : Block) (r : RegRow) (ix : List Nat) : Word :=
  let s : Word :=
    if r.addr = Rg.DSK_KMAP.addr then nodeBits b (ix.getD 0 0) 8 4
    else if r.addr = Rg.DSK_BL.addr then nodeBits b (ix.getD 0 0) 2 16
    else if r.s ≠ 0 && rowRuns b r ix then BitVec.ofNat 32 r.s else 0
  if b.on F.XSP_STAT_SEALED then s ||| BitVec.ofNat 32 r.o else s

/-! ## Class L: the governing head (R14) -/

/-- A slot of a Crucible produces bands on a raster that starts them. -/
def slotBands (b : Block) (cru k : Nat) : Bool := b.slotRuns cru k && b.headRuns (b.slotHead cru k)

/-- A head starts bands. -/
def headBands (b : Block) (h : Nat) : Bool :=
  match b.slotOf h with
  | some (cru, k) => slotBands b cru k
  | none => false

/-- The head that governs the class L fields at an address while it starts bands: of a Crucible's slot and commit group
(log 28), of the Fettler's and the packetizer's head. -/
def governor (b : Block) (a : Nat) : Option Nat :=
  let w := a / 0x10000
  let o := a % 0x10000
  if 32 ≤ w && w ≤ 35 then
    let slot := if 0x100 ≤ o && o < 0x200 then some ((o - 0x100) / 0x10)
      else if 0x400 ≤ o && o < 0x500 then some (b.get F.CRU_GRP_CFG_LEAD (w - 32) ((o - 0x400) / 0x10))
      else none
    match slot with
    | some k => if slotBands b (w - 32) k then some (b.slotHead (w - 32) k) else none
    | none => none
  else if w = 36 then
    let head := if 0x1000 ≤ o && o < 0x1800 then some ((o - 0x1000) / 0x20)
      else if 0x9000 ≤ o && o < 0xB000 then some ((o - 0x9000) / 0x80)
      else none
    match head with
    | some h => if headBands b h then some h else none
    | none => none
  else none

/-- A class L field of a desk panel: it takes effect at the panel's next burst. -/
def isPanelField (a : Nat) : Bool := 0x140100 ≤ a && a < 0x140200

/-! ## What a register's write does -/

/-- The bits of a write that are stored: RW bits, and the words of a multi-word field. -/
def storeMask (r : RegRow) : Word :=
  BitVec.ofNat 32 (r.rw ||| match r.multi with | .none => 0 | _ => r.wo)

/-- Put a word into effect under a mask. -/
def Block.store32 (a : Nat) (mask v : Word) (b : Block) : Block := b.setReg a (merge (b.reg a) mask v)

/-- Put the lower words of a multi-word field into effect. -/
def Block.storeLows (l : List (Nat × Word)) (b : Block) : Block := l.foldl (fun b q => b.setReg q.1 q.2) b

/-- The bit of an enable in a written word, and the one in effect before. -/
structure Edge where
  was : Bool
  now : Bool
deriving DecidableEq, Repr

/-- A share that is disabled abandons the frame it is sending (R342). -/
def shareDisable (e : Nat) (b : Block) : Block :=
  match (b.share e).cur with
  | some (f, _, _) => ((sendSlice e 3 f 0 0 [] b).setShare e {}).inc F.SPR_SH_STAT_ABANDONED e
  | none => b

/-- CRU_WB_CTL.EN written 0 (R186): with no frame in capture the writeback has stopped. -/
def wbDisable (cru : Nat) (b : Block) : Block :=
  if (b.wb cru).frames.isEmpty then b.flag F.CRU_WB_STAT_RUN false cru else b

/-- LOG_CURSOR.CMD (R463). -/
def cursorCommand (v : Nat) (b : Block) : Block :=
  let cmd := v % 4
  if cmd = 1 then startMove .oldest b
  else if cmd = 2 then startMove .newest b
  else if cmd = 3 then startMove (.firstOf (b.get F.LOG_CURSOR_PCYC)) b
  else b

/-- LOG_STEP.DIR (R463). -/
def stepCommand (v : Nat) (b : Block) : Block :=
  let dir := v % 4
  if dir = 1 then startMove .newer b else if dir = 2 then startMove .older b else b

/-- An Ethernet filter entry is applied, or refused (R327). -/
def filterApply (q e a : Nat) (lows : List (Nat × Word)) (mask v : Word) (b : Block) : Block :=
  let r := filterRefusal b q v
  if r = 0 then (b.storeLows lows).store32 a mask v else filterRefused q e (a % 0x10000) v r b

/-- MEM_C_MR.GO (R366): what a mode register read returns over the bus is open: free values. -/
def modeGo (ch : Nat) (read : Option (Byte × Bool)) (b : Block) : Block :=
  match read with
  | some (v, rfm) => modeRead ch v rfm b
  | none =>
    let (x, b) := b.fresh
    let (y, b) := b.fresh
    modeRead ch (BitVec.ofNat 8 x.toNat) (bit y.toNat 0) b

/-- A word takes effect with what it triggers (R525): `lows` the lower words of its field, `mask` the bits of the word
that take effect, `mr` the data of a mode register read. -/
def actWrite (c : Clk) (m : Mem) (cls : Nat) (r : RegRow) (ix : List Nat) (a : Nat) (lows : List (Nat × Word))
    (mask v : Word) (mr : Option (Byte × Bool)) (b : Block) : Block :=
  let i := ix.getD 0 0
  let j := ix.getD 1 0
  let old := b.reg a
  let b0 := b
  let b := (b.storeLows lows).store32 a (mask &&& storeMask r) v
  let x := (v &&& mask).toNat
  let en (n : Nat) : Edge := { was := bit old.toNat n, now := bit (b.reg a).toNat n }
  match r.act with
  | .plain | .ringCfg | .mgtCtl | .remap => b
  | .cruCtl => if (en 0).now && !(en 0).was then cruEnable i b else b
  | .fetCtl => if (en 0).now && !(en 0).was then fetStart c b else b
  | .timCtl => servoCtl b
  | .timSnap => if bit x 0 then snapshot c b else b
  | .timSet => ptpSet c b
  | .timOfs => servoUpdate c (toSigned 64 (b.get2 F.TIM_SRV_OFS_LO_OFS_LO F.TIM_SRV_OFS_HI_OFS_HI)) b
  | .timMaster => if bit x 0 then masterChange c b else b
  | .headCtl => if (en 0).now then headStart c i b else frameForget i (headDisable i b)
  | .calAct => calApply c i b
  | .srcCtl => shareSync c m (if (en 0).now then srcEnable c i b else srcDisable c i b)
  | .ringTail => if ringDecoded b0 i then b0.wign a else sprRings c m b
  | .decCtl => if (en 0).now then decoderEnable i b else decoderStop c i b
  | .cruMap => slotWrite i j b0 b
  | .wbCtl => if (en 0).now then wbEnable c i b else wbDisable i b
  | .fetHeadCtl =>
    let b := if (en 0).now && !(en 0).was then fetEnable c i b else b
    if bit x 8 then rearm i b else b
  | .fetDim => dimWrite i (bits x 16 2) b
  | .pktCtl => streamWrite i b0 b
  | .encCtl => if (en 0).now then encStart i b else encStop i b
  | .encSCtl =>
    let b := if (en 0).now then encEnable i j b else encDisable i j b
    if bit x 1 then encIdr i j b else b
  | .pairSwitch => switchCmd (x % 4) b
  | .pairWdog => if bit x 0 then wardenKick c b else b
  | .ethF => filterApply i j a lows mask v b0
  | .laneCtl => shareSync c m (if (en 0).now then laneEnable (4 * i + j) b else laneDisable c (4 * i + j) b)
  | .macCtl => macSync c (4 * i + j) (macUp b0 (4 * i + j)) b
  | .sprK =>
    if !(en 0).now then (if (en 0).was then sprDisable c i b else b)
    else if (en 0).was && b.sprState i ≠ sprDown then b
    else sprEnable c i b
  | .sprSh =>
    if (en 0).now && !(en 0).was then shareEnable i b
    else if (en 0).was && !(en 0).now then shareDisable i b
    else b
  | .memCtl => if (en 0).now then memEnable b else memDisable b
  | .memCCtl =>
    let b := if bit x 1 then trainedSet i b else b
    if bit x 0 then channelService i b else b
  | .memTrn => if bit x 0 then comparatorRun i b else b
  | .memMr => if bit x 18 then modeGo i mr b else b
  | .clRun => clusterRun c i (en 0).now b
  | .clWdog => if bit x 0 then clusterKick c cls i b else b
  | .scGo => if bit x 0 then checkStart c b else b
  | .mbDb => if bit x 0 then mbRing i b else b
  | .lcAdvance => if bit x 8 then lifeCycleAdvance c b else b
  | .flkCommit => if bit x 0 then flaskGo c b else b
  | .dskCtl => deskUpdate b
  | .panelCtl => if (en 0).now then panelEnable i b else panelDisable i b
  | .logCursor => cursorCommand x b
  | .logStep => stepCommand x b
  | .clrKey => clearKey c v b
  | .logSub => if bit x 0 then logSubmit c i b else b
  | .asyCtl => if bit x 0 then asyGo i b else b
  | .xspSeal => if bit x 0 then startSeal c b else b
  | .xspOp => if bit x 8 then flashGo cls (x % 8) b else b
  | .domReq => domainRequest cls v.toNat b0

/-! ## When class L takes effect (R14, R525) -/

/-- A class L write that waited takes effect. -/
def pendEffect (c : Clk) (m : Mem) (b : Block) (p : Pend) : Block :=
  match regAt p.addr with
  | some (r, ix) => actWrite c m 0 r ix p.addr [] p.mask p.val none b
  | none => b

/-- The last of the writes that wait for each word (R16). -/
def lastWrites : List Pend → List Pend
  | [] => []
  | p :: t => if t.any (·.addr == p.addr) then lastWrites t else p :: lastWrites t

/-- The class L writes that `sel` selects take effect: of several to one word the last (R16), in the order in which they
completed (R525). -/
def takePends (c : Clk) (m : Mem) (sel : Pend → Bool) (b : Block) : Block :=
  (lastWrites (b.pendL.filter sel)).foldl (pendEffect c m) { b with pendL := b.pendL.filter fun p => !sel p }

/-- A write to a class L field of a running panel waits for the panel's next burst (text before table DSK registers). -/
def panelHolds (b : Block) (a : Nat) : Bool := isPanelField a && b.on F.DSK_P_STAT_RUN ((a - 0x140100) / 0x40)

/-- A waiting write of a window that no head or panel holds back. -/
def pendFree (b : Block) (w : Nat) (p : Pend) : Bool :=
  p.addr / 0x10000 == w && !panelHolds b p.addr &&
    match p.head with | some h => !headBands b h | none => true

/-- The class L writes of a window that are not held back take effect. -/
def takeWindow (c : Clk) (m : Mem) (w : Nat) (b : Block) : Block :=
  let b := if w = 24 then srcFieldsTakeL c b else b
  takePends c m (pendFree b w) b

/-- Before a trigger of a register acts, the earlier writes of its block take effect; a panel's too before the panel
starts. -/
def flushFor (c : Clk) (m : Mem) (a : Nat) (b : Block) : Block :=
  let b := takeWindow c m (a / 0x10000) b
  if isPanelField a then b.takeL fun p => p.addr / 0x40 == a / 0x40 else b

/-! ## A write (R7-R21) -/

/-- W1C bits written 1 are cleared (R11), but for those set in the same cycle (R12); what goes with some of them (R414, R415, R380). -/
def clearBits (r : RegRow) (a : Nat) (v : Word) (b : Block) : Block :=
  let x := v &&& BitVec.ofNat 32 r.w1c &&& ~~~(b.raisedAt a)
  if x = 0 then b
  else
    let b := b.setReg a (b.reg a &&& ~~~x)
    if r.addr = F.FLK_VIOL_INFO_VALID.addr then b.put F.FLK_VIOL_CNT_CNT 0
    else if r.addr = F.FLK_EVT_VIOL.addr && bit x.toNat F.FLK_EVT_VIOL.lsb then { b with flkPend := 0 }
    else if r.addr = F.SPD_EVT_WIPE.addr && bit x.toNat F.SPD_EVT_WIPE.lsb then b.flag F.SPD_STAT_WIPED false
    else b

/-- A write that its block ignores whole, with WIGN: quantizers out of order (table ENC_S_QP), AGREE waits out of
order (table PAIR_TOKEN). -/
def writeIgnored (r : RegRow) (v : Word) : Bool :=
  if r.addr = F.ENC_S_QP_QI.addr then !encQpOk v
  else if r.addr = F.PAIR_TOKEN_WAIT_PREF.addr then
    F.PAIR_TOKEN_WAIT_PREF.of v = 0 || F.PAIR_TOKEN_WAIT_OTHER.of v ≤ F.PAIR_TOKEN_WAIT_PREF.of v
  else false

/-- Keep a field as last written, with WIGN. -/
def keepField (f : Fld) (a : Nat) (q : Word × Block) : Word × Block :=
  (f.into q.1 (f.of (q.2.written a)), q.2.wign a)

/-- A field whose written value is none of those it may hold keeps its value, with WIGN (R18: reserved codes of
DEC_CTX_CFG.ENTRY, MEM_CFG.DENSITY and FET_HEAD_DIM.LEVEL; log 29); INPUT of a video mould reads 0. -/
def fieldRules (r : RegRow) (ix : List Nat) (a : Nat) (v : Word) (b : Block) : Word × Block :=
  if r.addr = F.DEC_CTX_CFG_ENTRY.addr && 2 ≤ F.DEC_CTX_CFG_ENTRY.of v then keepField F.DEC_CTX_CFG_ENTRY a (v, b)
  else if r.addr = F.MEM_CFG_DENSITY.addr && F.MEM_CFG_DENSITY.of v = 3 then keepField F.MEM_CFG_DENSITY a (v, b)
  else if r.addr = F.FET_HEAD_DIM_LEVEL.addr && (F.FET_HEAD_DIM_LEVEL.of v < 32 || 256 < F.FET_HEAD_DIM_LEVEL.of v) then
    keepField F.FET_HEAD_DIM_LEVEL a (v, b)
  else if r.addr = F.CRU_M_CTL_INPUT.addr && isVideo (ix.getD 1 0) then (F.CRU_M_CTL_INPUT.into v 0, b)
  else (v, b)

/-- The value last written to an F field on the unit that holds its journal (R15, R292). -/
def lastWritten (b : Block) (a : Nat) : Word :=
  b.pair.journal.foldl (fun v e => if e.addr = a then merge v e.mask e.v else v) (b.written a)

/-- The lower words that the write of a field's highest word applies (R21): staged, or as last written. -/
def lowWords (b : Block) (r : RegRow) (a : Nat) : List (Nat × Word) :=
  match r.multi with
  | .high n _ => (List.range n).map fun i =>
      let x := a - 4 * (n - i)
      (x, (b.stage.lookup x).getD (lastWritten b x))
  | _ => []

/-- The bits of the highest word that belong to the multi-word field. -/
def fieldMask (r : RegRow) : Nat := match r.multi with | .high _ k => k | _ => 0

/-- An F field waits for its commit (R17); a source's before the seal takes effect as class L (R86); a mirrored one
goes to the journal (R292). -/
def writeF (mirror : Bool) (words : List (Nat × Word × Word)) (b : Block) : Block :=
  words.foldl (fun b q =>
    if mirror then mirrorTake q.1 q.2.2 b
    else
      let p : Pend := { addr := q.1, mask := q.2.1, val := q.2.2, since := some b.now }
      if (srcOfField q.1).isSome && !b.on F.XSP_STAT_SEALED then { b with pendL := b.pendL ++ [p] }
      else groupTouched q.1 { b with pendF := b.pendF ++ [p] }) b

/-- The words of one class of a write: the lower words if the field has that class, and the word itself. -/
def classWords (r : RegRow) (a : Nat) (lows : List (Nat × Word)) (bits : Nat) (v : Word) : List (Nat × Word × Word) :=
  (if fieldMask r &&& bits ≠ 0 then lows.map fun q => (q.1, 0xFFFFFFFF, q.2) else []) ++ [(a, BitVec.ofNat 32 bits, v)]

/-- A write of a word that takes effect or waits as its classes say; `v` holds its locked bits as they stand. -/
def writeWord (c : Clk) (m : Mem) (cls : Nat) (r : RegRow) (ix : List Nat) (a : Nat) (lows : List (Nat × Word)) (v : Word)
    (mr : Option (Byte × Bool)) (b : Block) : Block :=
  let now := r.s ||| r.o
  let gov := if r.l = 0 then none else governor b a
  let b := (if fieldMask r &&& now ≠ 0 then b.storeLows lows else b).store32 a (BitVec.ofNat 32 now &&& storeMask r) v
  let b := if r.f = 0 then b else writeF (mirrored b cls a) (classWords r a lows r.f v) b
  let lowsL := if fieldMask r &&& r.l ≠ 0 then lows else []
  if r.act = .plain || gov.isSome || panelHolds b a then
    if r.l = 0 then b
    else { b with pendL := b.pendL ++ (classWords r a lowsL r.l v).map fun q =>
        { addr := q.1, mask := q.2.1, val := q.2.2, head := gov, since := some b.now } }
  else actWrite c m cls r ix a lowsL (BitVec.ofNat 32 (r.l ||| now)) v mr (flushFor c m a b)

/-- A permitted write of `v` to the word at offset `a` of the peripheral space. -/
def regWrite (c : Clk) (m : Mem) (cls a : Nat) (v : Word) (mr : Option (Byte × Bool)) (b : Block) : Block :=
  let b := if a / 0x10000 = 6 && a ≠ F.LOG_CLR_KEY_KEY.addr then breakKey b else b
  match regAt a with
  | none => b
  | some (r, ix) =>
    let b := clearBits r a v b
    let mask := BitVec.ofNat 32 (r.rw ||| r.wo)
    if mask = 0 then b
    else if writeIgnored r v then b.wign a
    else if r.addr = F.ETH_DEF_ACTION.addr && defaultRefusal b (ix.getD 0 0) v ≠ 0 then
      filterRefused (ix.getD 0 0) 0 8 v (defaultRefusal b (ix.getD 0 0) v) b
    else
      let (v, b) := fieldRules r ix a v b
      let lock := lockedBits b r ix &&& mask
      let cur := b.reg a &&& storeMask r
      let bad := (v ^^^ cur) &&& lock ≠ 0
      let v := merge v lock cur
      match r.multi with
      | .low =>
        if bad then b.wign a
        else if mirrored b cls a && b.role = roleStandby then mirrorTake a v b
        else { b with stage := sparseInsert a (v &&& storeMask r) b.stage }
      | _ =>
        let held := lock.toNat &&& fieldMask r ≠ 0
        let lows := lowWords b r a
        let b := if bad || (held && lows.any fun q => q.2 ≠ b.reg q.1) then b.wign a else b
        let lows := if held then [] else lows
        let b := { b with stage := b.stage.filter fun q => !(lows.any fun p => p.1 = q.1) }
        writeWord c m cls r ix a lows v mr b

end Sys2Proof.Machine
end

