-- ==== Sys2Proof/Machine/Access.lean ====
section
/-! DEFINITION. Accesses through the Runner matrix (R378-R380, R384, R399-R416): reads and writes of 32 bits of registers and
memory, refused accesses, and the commands that are writes of one register. -/

namespace Sys2Proof.Machine

open Sys2Proof

/-! ## Who may write a register (R32, R390, R391, R512) -/

/-- The cluster whose block of the WDN window holds an offset. -/
def wdnBlock (p : Nat) : Option Nat :=
  if 0x380100 ≤ p && p < 0x380500 then some ((p - 0x380100) / 0x100) else none

/-- An access of a class to the WDN block of another cluster, or of a cluster to a register outside its block that is not
read-only: WDN_EVT, WDN_EVT_EN, WDN_SC_CTL, WDN_CAUSE (R390). -/
def foreignBlock (cls p : Nat) : Bool :=
  match wdnBlock p with
  | some k => cls ≠ 0 && cls ≠ k + 1
  | none => 1 ≤ cls && cls ≤ 4 && [0x380004, 0x380008, 0x380010, 0x38001C].contains p

/-- An access of a class to a submit block that is not its own: cluster k reaches block k alone, the Warden block 4 (text
after table LOG_SUB block). -/
def foreignSubmit (cls p : Nat) : Bool :=
  0x60100 ≤ p && p < 0x601A0 && cls ≠ ((p - 0x60100) / 0x20 + 1) % 5

/-- A write of `v` that only the Warden may do: of the registers that hold Warden-only fields; SYS_LC and PAIR_WDOG only
where the write sets that field (log 30). -/
def wardenField (p : Nat) (v : Word) : Bool :=
  match regAt p with
  | none => false
  | some (r, _) =>
    r.warden && (if r.addr = F.SYS_LC_ADVANCE.addr then bit v.toNat F.SYS_LC_ADVANCE.lsb
      else if r.addr = F.PAIR_WDOG_KICK.addr then bit v.toNat F.PAIR_WDOG_KICK.lsb
      else true)

/-- A write that its initiator may not do although the Flask grants it (R32, R390, R391, R512). -/
def writeBarred (cls p : Nat) (v : Word) : Bool :=
  cls ≠ 0 && (foreignBlock cls p || wardenField p v || (p = F.PWR_DOM_REQ_REQ.addr && cls ≠ 4))

/-! ## Writes -/

/-- The response to a write that fails: a posted write was acknowledged on acceptance (R405, R413). -/
def failResp (posted : Bool) : Resp := if posted then .done else .error

/-- A write of the word at offset `p` of the peripheral windows. -/
def periphWrite (c : Clk) (m : Mem) (cls p : Nat) (v : Word) (mr : Option (Byte × Bool)) (b : Block) : Block :=
  let w := p / 0x10000
  let posted := periphPosted b w
  if !periphOk b cls w true then
    { flaskRefuse c cls (periphBase + p) true posted { reason := 1, slot := w } (classSupervisor cls) b with
      resp := failResp posted }
  else if writeBarred cls p v then
    { b.record 0x0303 4 (periphBase + p) cls v.toNat with resp := failResp posted }
  else if foreignSubmit cls p then { b with resp := failResp posted }
  else { regWrite c m cls p v mr b with resp := .done }

/-- The DRAM port of a class that reaches DRAM for itself (R383). -/
def classPort (cls : Nat) : Nat := if cls = 0 then 22 else if cls ≤ 4 then 17 + cls else 23

/-- A write to DRAM (R352, R405, R408, R409, R416). -/
def dramWrite (c : Clk) (cls a : Nat) (v : Word) (b : Block) : Block :=
  let posted := match coveringSlot b a with
    | some d => b.get F.FLK_D_CFG_ORDER d < 2
    | none => false
  match dramCheck b cls 0 a 4 true with
  | some r => { flaskRefuse c cls a true posted r (classSupervisor cls) b with resp := failResp posted }
  | none =>
    match dramRange b a 4 with
    | some k => { dramOut c (classPort cls) a k b with resp := failResp posted }
    | none => { b.store a (leBytes 4 v.toNat) with resp := .done }

/-- Why an on-die access is refused, if it is: checked at its first and its last byte (R410, R411). -/
def onDieRefused (b : Block) (cls a n : Nat) (wr : Bool) : Option Refused :=
  let swap := b.on F.SYS_REMAP_SWAP
  if !onDieOk b cls (decodeAddr swap a) wr then some { reason := 5, slot := noSlot }
  else if !onDieOk b cls (decodeAddr swap (a + n - 1)) wr then some { reason := 2, slot := noSlot }
  else none

/-- The offset in the scratchpad of an address of it or of its aliases. -/
def spadOffset : Region → Option Nat
  | .scratch off => some off
  | .bitSet off => some off
  | .bitClear off => some off
  | _ => none

/-- Where the memory keeps the first byte of an on-die region (log 4); none for the boot ROM. -/
def cellOf : Region → Option Nat
  | .working off => some (workingBase + off)
  | r => (spadOffset r).map (scratchBase + ·)

/-- An access meets the secure region while it is wiped (R380). -/
def meetsWipe (b : Block) (r : Region) : Bool :=
  match spadOffset r with
  | some off => secure (off + 3) && b.on F.SPD_STAT_WIPING
  | none => false

/-- The word of the scratchpad at an offset. -/
def spadWord (m : Mem) (off : Nat) : Word := BitVec.ofNat 32 (ofLe (m.bytes (scratchBase + off) 4))

/-- The bytes that port B writes in a cycle: bit i of the enables for byte i. -/
abbrev PortB := Option (BitVec 4 × Word)

/-- The bytes of a word with those that port B enables taken from its value (R378). -/
def overlay (l : List Byte) (w : BitVec 4 × Word) : List Byte :=
  (l.zip (leBytes 4 w.2.toNat)).zipIdx.map fun q => if w.1.getLsbD q.2 then q.1.2 else q.1.1

/-- Port B writes a word of the dual-port region in the cycle of the access (R378). -/
def portBWrite (m : Mem) (off : Nat) (w : PortB) (b : Block) : Block :=
  match w with
  | none => b
  | some q =>
    if !dualPort off || off % 4 ≠ 0 then b
    else b.store (scratchBase + off) (overlay ((m.puts b.stores).bytes (scratchBase + off) 4) q)

/-- Port A's write of a word, with port B's in the same cycle (R378): B's bytes prevail and the collision is counted. -/
def spadWrite (m : Mem) (off : Nat) (v : Word) (w : PortB) (b : Block) : Block :=
  let b := b.store (scratchBase + off) (leBytes 4 v.toNat)
  match w with
  | none => b
  | some q =>
    if !dualPort off || off % 4 ≠ 0 then b
    else
      let b := portBWrite m off w b
      if q.1 = 0 then b else ((b.evt F.SPD_EVT_COLLIDE).inc F.SPD_COLL_COUNT).put F.SPD_COLL_WORD (off / 4)

/-- A write to an on-die memory, or to an alias of the scratchpad (R379, R380, R410, R411). -/
def onDieWrite (c : Clk) (m : Mem) (cls a : Nat) (v : Word) (w : PortB) (b : Block) : Block :=
  let r := decodeAddr (b.on F.SYS_REMAP_SWAP) a
  let meet (b : Block) : Block := match spadOffset r with | some off => portBWrite m off w b | none => b
  match onDieRefused b cls a 4 true with
  | some q => meet { flaskRefuse c cls a true false q (classSupervisor cls) b with resp := .error }
  | none =>
    if meetsWipe b r then { b with resp := .error }
    else
      let b := { b with resp := .done }
      match r with
      | .bitSet off => portBWrite m off w (b.store (scratchBase + off) (leBytes 4 (spadWord m off ||| v).toNat))
      | .bitClear off => portBWrite m off w (b.store (scratchBase + off) (leBytes 4 (spadWord m off &&& ~~~v).toNat))
      | .scratch off => spadWrite m off v w b
      | .working off => b.store (workingBase + off) (leBytes 4 v.toNat)
      | _ => b

/-- A 32-bit write by an initiator (R384, R399-R405): `mr`, what a mode register read returns; `w`, what port B of the
scratchpad writes to the same word in the same cycle. -/
def busWrite (c : Clk) (m : Mem) (cls a : Nat) (v : Word) (mr : Option (Byte × Bool)) (w : PortB) (b : Block) : Block :=
  if !issues b cls then b
  else
    let b := portOpen c cls b
    let swap := b.on F.SYS_REMAP_SWAP
    match decodeAddr swap a, decodeAddr swap (a + 3) with
    | .miss, _ => missLog c cls a true b
    | .periph p, _ => if a % 4 ≠ 0 then badLog c cls a 4 true b else periphWrite c m cls p v mr b
    | .bitSet _, _ => if a % 4 ≠ 0 then badLog c cls a 4 true b else onDieWrite c m cls a v w b
    | .bitClear _, _ => if a % 4 ≠ 0 then badLog c cls a 4 true b else onDieWrite c m cls a v w b
    | _, .miss => missLog c cls a true b
    | .dram _, _ => dramWrite c cls a v b
    | _, _ => onDieWrite c m cls a v w b

/-! ## Reads -/

/-- A word with a field replaced. -/
def with32 (v : Word) (f : Fld) (x : Nat) : Word := f.into v x

/-- The slots of a Crucible that produce bands. -/
def runningSlots (b : Block) (cru : Nat) : List Nat := (List.range 16).filter fun k => b.slotRuns cru k

/-- Fields of read-only status that show the machine as it stands at the read. -/
def liveView (c : Clk) (b : Block) (r : RegRow) (ix : List Nat) (v : Word) : Word :=
  let i := ix.getD 0 0
  let j := ix.getD 1 0
  let a := r.addr
  if a = F.TIM_STAT_RATE_SAT.addr then
    with32 v F.TIM_STAT_RATE_SAT (b2n ((b.geti F.TIM_RATE_RATE).natAbs = b.get F.TIM_SRV_RLIM_RLIM))
  else if a = F.TIM_HEAD_STAT_REGION.addr then
    let (g, n) := headPosition c b i
    with32 (with32 v F.TIM_HEAD_STAT_REGION g) F.TIM_HEAD_STAT_LINE n
  else if a = F.CRU_STAT_RUN.addr then
    let v := with32 v F.CRU_STAT_RUN (b2n (b.on F.CRU_CTL_EN i && b.domOn (5 + i)))
    with32 (with32 v F.CRU_STAT_HEADS (runningSlots b i).length) F.CRU_STAT_LOAD
      (min 4095 (megaUp (activeOutput b i (b.enabledSlots i))))
  else if a = F.CRU_BUDGET_SLACK.addr then with32 v F.CRU_BUDGET_SLACK (slackNs b i)
  else if a = F.CRU_HEAD_MAP_RUN.addr then with32 v F.CRU_HEAD_MAP_RUN (b2n (b.slotRuns i j))
  else if a = F.FET_STAT_RUN.addr then
    let v := with32 v F.FET_STAT_RUN (b2n (b.on F.FET_CTL_EN && b.domOn 9))
    let v := with32 v F.FET_STAT_HEADS ((List.range 64).filter fun h => b.fetRuns h).length
    let v := with32 v F.FET_STAT_SLAGGED ((List.range 512).filter fun w => b.on F.FET_RSW_STAT_SLAGGED w).length
    with32 v F.FET_STAT_STOPPED (min 63 ((List.range 64).filter fun h => b.on F.FET_HEAD_STAT_STOPPED h).length)
  else if a = F.FET_HEAD_STAT_RUN.addr then
    with32 (with32 v F.FET_HEAD_STAT_RUN (b2n (b.fetRuns i))) F.FET_HEAD_STAT_LEVEL (b.dimLevel i)
  else if a = F.FET_FRZ_STAT_SINCE.addr then with32 v F.FET_FRZ_STAT_SINCE (freezeSince c b i)
  else if a = F.FET_RSW_STAT_PEND.addr then
    with32 v F.FET_RSW_STAT_PEND (b2n (b.pendF.any fun p => p.addr / 0x20 = (r.at ix) / 0x20))
  else if a = F.FET_PKT_STAT_LINK_A.addr then
    let up (p : Nat) : Bool := b.on (linkFld p) i && b.get F.FET_PKT_STAT_STATE i = 2 && b.usesPath i p
    with32 (with32 v F.FET_PKT_STAT_LINK_A (b2n (up 0))) F.FET_PKT_STAT_LINK_B (b2n (up 1))
  else if a = F.FET_PKT_PPF_P_V.addr then
    let (x, y) := packetsPerFrame b i
    with32 (with32 v F.FET_PKT_PPF_P_V x) F.FET_PKT_PPF_P_A y
  else if a = F.DEC_LOAD_MEAS.addr then with32 v F.DEC_LOAD_MEAS (busyLoad c b i)
  else if a = F.DEC_CTX_WM_VALID.addr then with32 v F.DEC_CTX_WM_VALID (b2n (wmValid b i j))
  else if a = F.ENC_LOAD_MEAS.addr then with32 v F.ENC_LOAD_MEAS (encBusy c b i)
  else if a = F.MEM_REF_TRFC_NS.addr then with32 v F.MEM_REF_TRFC_NS (tRfcNs b)
  else if a = F.MEM_P_BW_BYTES.addr then with32 v F.MEM_P_BW_BYTES (portMoved c b i)
  else if a = F.MEM_SCRUB_STAT_SRAM_CORR.addr then
    with32 (with32 v F.MEM_SCRUB_STAT_SRAM_CORR (min 65535 (recentCount c b.dram.sramCorr))) F.MEM_SCRUB_STAT_DRAM_CORR
      (min 65535 (recentCount c b.dram.dramCorr))
  else if a = F.LNK_L_STAT_PRESENT.addr then
    let (m, r) := laneInEffect b (4 * i + j)
    with32 (with32 (with32 v F.LNK_L_STAT_PRESENT (b2n (cagePresent b (4 * i + j)))) F.LNK_L_STAT_MODE m) F.LNK_L_STAT_RATE r
  else if a = F.ETH_M_STAT_LINK.addr then
    let l := 4 * i + j
    let u := macLoad b b.streams l
    let v := with32 v F.ETH_M_STAT_LINK (b2n (macUp b l))
    let v := with32 v F.ETH_M_STAT_FEC (b2n (b.laneMode l = 3 && b.laneUp l))
    with32 v F.ETH_M_STAT_LOAD (min 32767 (megaUp u))
  else if a = F.SPR_TIME_STAT_COUNT.addr then
    with32 (with32 v F.SPR_TIME_STAT_COUNT (timeCount c b)) F.SPR_TIME_STAT_SINCE (timeSince c b)
  else if a = F.WDN_STAT_SC_RUN.addr then with32 v F.WDN_STAT_SC_RUN (b2n b.selfCheck.isSome)
  else if a = F.WDN_PEND_PEND.addr then wardenPend b i
  else if a = F.WDN_CL_PEND_PEND.addr then clusterPend b i j
  else if a = F.XSP_TRIAL_HELD.addr then with32 v F.XSP_TRIAL_HELD (min 65535 (trialHeld c b))
  else if a = F.ASY_U_POLY_LO_POLY.addr || a = F.ASY_U_INIT_LO_INIT.addr || a = F.ASY_U_VAL_LO_VAL.addr then
    BitVec.ofNat 32 (v.toNat % 2 ^ (asyCfg b i).w)
  else if a = F.ASY_U_POLY_HI_POLY.addr || a = F.ASY_U_INIT_HI_INIT.addr || a = F.ASY_U_VAL_HI_VAL.addr then
    BitVec.ofNat 32 (v.toNat % 2 ^ ((asyCfg b i).w - 32))
  else v

/-- The value that a word of the peripheral windows reads as, latches apart (R8, R11, R15, R21). -/
def regView (c : Clk) (b : Block) (a : Nat) : Word :=
  match regAt a with
  | none => 0
  | some (r, ix) =>
    let known := BitVec.ofNat 32 ((r.rw ||| r.ro ||| r.w1c) &&& (0xFFFFFFFF ^^^ r.wo))
    let field := BitVec.ofNat 32 (match r.multi with | .none => 0 | .low => 0xFFFFFFFF | .high _ k => k)
    liveView c b r ix (merge (merge (b.reg a) (BitVec.ofNat 32 (r.l ||| r.f)) (lastWritten b a)) field (b.reg a)) &&& known

/-- The latch of a _HI word whose _LO word lies before it (R524). -/
def latched (b : Block) (a : Nat) : Option Word :=
  match regAt (a - 4) with
  | some (r, _) => if r.latch && 4 ≤ a then b.latch.lookup a else none
  | none => none

/-- A permitted read of the word at offset `p` of the peripheral windows: a _LO word loads the latch of its _HI word
(R524). -/
def regRead (c : Clk) (p : Nat) (b : Block) : Word × Block :=
  let v := (latched b p).getD (regView c b p)
  match regAt p with
  | some (r, _) => (v, if r.latch then { b with latch := sparseInsert (p + 4) (regView c b (p + 4)) b.latch } else b)
  | none => (v, b)

/-- A read of the word at offset `p` of the peripheral windows. -/
def periphRead (c : Clk) (cls p : Nat) (b : Block) : Block :=
  let w := p / 0x10000
  if !periphOk b cls w false then
    { flaskRefuse c cls (periphBase + p) false false { reason := 1, slot := w } (classSupervisor cls) b with resp := .error }
  else if foreignBlock cls p || foreignSubmit cls p then { b with resp := .error }
  else
    let (v, b) := regRead c p b
    { b with resp := .data v }

/-- A read of DRAM. With link ECC, `ecc` says what the channel finds in its burst (R373): 1 an error that is corrected,
by the ECC or by the retry, 2 one that is not. -/
def dramRead (c : Clk) (m : Mem) (cls a ecc : Nat) (b : Block) : Block :=
  match dramCheck b cls 0 a 4 false with
  | some r => { flaskRefuse c cls a false false r (classSupervisor cls) b with resp := .error }
  | none =>
    match dramRange b a 4 with
    | some k => { dramOut c (classPort cls) a k b with resp := .error }
    | none =>
      let ecc := if b.on F.MEM_CFG_LINK_ECC then ecc else 0
      if ecc = 2 then { dramUncorrectable c (classPort cls) a false b with resp := .error }
      else
        let b := if ecc = 1 then b.inc F.MEM_C_ERR_CORR (dramSub a / 2) else b
        { b with resp := .data (BitVec.ofNat 32 (ofLe (m.bytes a 4))) }

/-- The word of an on-die memory. -/
def onDieWord (m : Mem) (r : Region) : Word :=
  match r with
  | .bootRom off => BitVec.ofNat 32 (ofLe ((List.range 4).map fun i => Config.bootRom (off + i)))
  | _ => match cellOf r with
    | some x => BitVec.ofNat 32 (ofLe (m.bytes x 4))
    | none => 0

/-- What SECDED finds at a read of an on-die word (R375, R377): 0 no error, 1 one that it corrects, 2 one that it cannot.
The macro that a record names is free (log 22). -/
def eccRead (c : Clk) (cls a ecc : Nat) (r : Region) (v : Word) (b : Block) : Block :=
  if ecc = 0 then { b with resp := .data v }
  else if ecc = 1 then
    let b := wordCorrected c (a % 2 ^ 32 / 4 * 4) b
    { (if (spadOffset r).isSome then b.inc F.SPD_ERR_CORR else b) with resp := .data v }
  else if (spadOffset r).isSome then { scratchUncorrectable c (a % 2 ^ 32) cls b with resp := .error }
  else
    let (k, b) := b.fresh
    { sramUncorrectable c k.toNat (a % 2 ^ 32) cls b with resp := .error }

/-- A read of an on-die memory. -/
def onDieRead (c : Clk) (m : Mem) (cls a ecc : Nat) (b : Block) : Block :=
  let r := decodeAddr (b.on F.SYS_REMAP_SWAP) a
  match onDieRefused b cls a 4 false with
  | some q => { flaskRefuse c cls a false false q (classSupervisor cls) b with resp := .error }
  | none => if meetsWipe b r then { b with resp := .error } else eccRead c cls a ecc r (onDieWord m r) b

/-- A 32-bit read by an initiator. `ecc`: what the ECC of a memory finds at the word. -/
def busRead (c : Clk) (m : Mem) (cls a ecc : Nat) (b : Block) : Block :=
  if !issues b cls then b
  else
    let b := portOpen c cls b
    let swap := b.on F.SYS_REMAP_SWAP
    match decodeAddr swap a, decodeAddr swap (a + 3) with
    | .miss, _ => missLog c cls a false b
    | .periph p, _ => if a % 4 ≠ 0 then badLog c cls a 4 false b else periphRead c cls p b
    | .bitSet _, _ => if a % 4 ≠ 0 then badLog c cls a 4 false b else onDieRead c m cls a ecc b
    | .bitClear _, _ => if a % 4 ≠ 0 then badLog c cls a 4 false b else onDieRead c m cls a ecc b
    | _, .miss => missLog c cls a false b
    | .dram _, _ => dramRead c m cls a ecc b
    | _, _ => onDieRead c m cls a ecc b

/-- An access of 2^`k` bytes to the register windows or an alias whose width is not 32 bits, or that is not aligned
(R7, R379, R404). -/
def badAccess (c : Clk) (cls a k : Nat) (wr : Bool) (b : Block) : Block :=
  if !issues b cls then b
  else
    let b := portOpen c cls b
    let bad := k ≠ 2 || a % 4 ≠ 0
    match decodeAddr (b.on F.SYS_REMAP_SWAP) a with
    | .miss => missLog c cls a wr b
    | .periph _ => if bad then badLog c cls a (2 ^ k) wr b else b
    | .bitSet _ => if bad then badLog c cls a (2 ^ k) wr b else b
    | .bitClear _ => if bad then badLog c cls a (2 ^ k) wr b else b
    | _ => b

/-- An access to an address that names nothing (R399, R404). -/
def missAccess (c : Clk) (cls a : Nat) (wr : Bool) (b : Block) : Block :=
  if !issues b cls then b
  else
    let b := portOpen c cls b
    if decodeAddr (b.on F.SYS_REMAP_SWAP) a = .miss then missLog c cls a wr b else b

/-! ## The commands that write one register -/

/-- A write of the register at offset `p` of the peripheral windows. -/
def writeAt (c : Clk) (m : Mem) (cls : Cls) (p : Nat) (v : Word) (b : Block) : Block :=
  busWrite c m cls.val (periphBase + p) v none none b

/-- The RW fields of a register as last written. -/
def rwWord (b : Block) (p : Nat) : Word :=
  match regAt p with
  | some (r, _) => lastWritten b p &&& BitVec.ofNat 32 r.rw
  | none => 0

/-- A write of a register with one field changed from what was last written. -/
def writeField (c : Clk) (m : Mem) (cls : Cls) (f : Fld) (x : Nat) (b : Block) (i j k : Nat := 0) : Block :=
  writeAt c m cls (f.at i j k) (f.into (rwWord b (f.at i j k)) x) b

end Sys2Proof.Machine
end

