-- ==== Sys2Proof/Machine/Writes.lean ====
section
/-! DEFINITION. The commands that are an access to one register, and those that let class L writes take effect: each is the
access itself, with every check of the Runner matrix, the Flask and the update classes. -/

namespace Sys2Proof.Machine

open Sys2Proof

/-- A command that is a write of one register field, the other fields of its word as last written. -/
def State.writeField (s : State) (dt : Nat) (cls : Cls) (f : Fld) (x : Nat) (i j : Nat := 0) :
    Host.Outcome State Fault Refusal :=
  s.run dt fun c m b => Machine.writeField c m cls f x b i j

/-- A mode register access (R366): MEM_C_MR.GO, with the data and MR27's requirement that a read returns. -/
def modeAccess (c : Clk) (m : Mem) (cls : Cls) (ch : Nat) (read : Byte) (rfm : Bool) (b : Block) : Block :=
  let p := F.MEM_C_MR_GO.at ch
  busWrite c m cls.val (periphBase + p) (F.MEM_C_MR_GO.into (rwWord b p) 1) (some (read, rfm)) none b

/-- A flash operation (table XSP fields): XSP_OP written with OP and GO. -/
def flashCommand (c : Clk) (m : Mem) (cls : Cls) (op : Nat) (b : Block) : Block :=
  writeAt c m cls F.XSP_OP_GO.addr (BitVec.ofNat 32 (256 + op)) b

/-- SNAPSHOT_TAKE (R47). -/
def execSnapshotTake (dt : Nat) (cls : Cls) (s : State) : Host.Outcome State Fault Refusal :=
  s.writeField dt cls F.TIM_SNAP_TAKE 1

/-- PTP_SET (R48). -/
def execPtpSet (dt : Nat) (cls : Cls) (secHi : Word) (s : State) : Host.Outcome State Fault Refusal :=
  s.writeField dt cls F.TIM_SET_SEC_HI_SEC_HI secHi.toNat

/-- SERVO_UPDATE (R57, R56). -/
def execServoUpdate (dt : Nat) (cls : Cls) (ofsHi : Word) (s : State) : Host.Outcome State Fault Refusal :=
  s.writeField dt cls F.TIM_SRV_OFS_HI_OFS_HI ofsHi.toNat

/-- SERVO_ENABLE_WRITE (R60, R58). -/
def execServoEnableWrite (dt : Nat) (cls : Cls) (en : Bool) (s : State) : Host.Outcome State Fault Refusal :=
  s.writeField dt cls F.TIM_CTL_SRV_EN (b2n en)

/-- SERVO_HOLD_WRITE (R60). -/
def execServoHoldWrite (dt : Nat) (cls : Cls) (hold : Bool) (s : State) : Host.Outcome State Fault Refusal :=
  s.writeField dt cls F.TIM_CTL_HOLD (b2n hold)

/-- MASTER_CHANGE (R59). -/
def execMasterChange (dt : Nat) (cls : Cls) (s : State) : Host.Outcome State Fault Refusal :=
  s.writeField dt cls F.TIM_MASTER_NEW 1

/-- HEAD_ENABLE (R67, R64, R65). -/
def execHeadEnable (dt : Nat) (cls : Cls) (h : Head) (s : State) : Host.Outcome State Fault Refusal :=
  s.writeField dt cls F.TIM_HEAD_CTL_EN 1 h.val

/-- HEAD_DISABLE (R67). -/
def execHeadDisable (dt : Nat) (cls : Cls) (h : Head) (s : State) : Host.Outcome State Fault Refusal :=
  s.writeField dt cls F.TIM_HEAD_CTL_EN 0 h.val

/-- SOURCE_ENABLE (R91). -/
def execSourceEnable (dt : Nat) (cls : Cls) (src : Src) (s : State) : Host.Outcome State Fault Refusal :=
  s.writeField dt cls F.LAD_SRC_CTL_EN 1 src.val

/-- SOURCE_DISABLE (R118, R85). -/
def execSourceDisable (dt : Nat) (cls : Cls) (src : Src) (s : State) : Host.Outcome State Fault Refusal :=
  s.writeField dt cls F.LAD_SRC_CTL_EN 0 src.val

/-- DECODER_ENABLE (R150). -/
def execDecoderEnable (dt : Nat) (cls : Cls) (eng : Eng) (s : State) : Host.Outcome State Fault Refusal :=
  s.writeField dt cls F.DEC_CTL_EN 1 eng.val

/-- DECODER_STOP (R150). -/
def execDecoderStop (dt : Nat) (cls : Cls) (eng : Eng) (s : State) : Host.Outcome State Fault Refusal :=
  s.writeField dt cls F.DEC_CTL_EN 0 eng.val

/-- HEAD_SLOT_ENABLE (R155). -/
def execHeadSlotEnable (dt : Nat) (cls : Cls) (cru : Cru) (slot : Fin 16) (s : State) : Host.Outcome State Fault Refusal :=
  s.writeField dt cls F.CRU_HEAD_MAP_EN 1 cru.val slot.val

/-- WRITEBACK_ENABLE (R186, R187). -/
def execWritebackEnable (dt : Nat) (cls : Cls) (cru : Cru) (s : State) : Host.Outcome State Fault Refusal :=
  s.writeField dt cls F.CRU_WB_CTL_EN 1 cru.val

/-- FETTLER_HEAD_ENABLE (R194). -/
def execFettlerHeadEnable (dt : Nat) (cls : Cls) (h : Head) (s : State) : Host.Outcome State Fault Refusal :=
  s.writeField dt cls F.FET_HEAD_CTL_EN 1 h.val

/-- REARM (R210). -/
def execRearm (dt : Nat) (cls : Cls) (h : Head) (s : State) : Host.Outcome State Fault Refusal :=
  s.writeField dt cls F.FET_HEAD_CTL_REARM 1 h.val

/-- DIM_REQUEST (R204). -/
def execDimRequest (dt : Nat) (cls : Cls) (h : Head) (req : Fin 4) (s : State) : Host.Outcome State Fault Refusal :=
  s.writeField dt cls F.FET_HEAD_DIM_REQ req.val h.val

/-- STREAM_ENABLE (R235, R247, R248). -/
def execStreamEnable (dt : Nat) (cls : Cls) (h : Head) (s : State) : Host.Outcome State Fault Refusal :=
  s.writeField dt cls F.FET_PKT_CTL_EN 1 h.val

/-- ENCODE_STREAM_ENABLE (R259, R258, R274). -/
def execEncodeStreamEnable (dt : Nat) (cls : Cls) (enc : Fin 2) (stream : Fin 8) (s : State) : Host.Outcome State Fault Refusal :=
  s.writeField dt cls F.ENC_S_CTL_EN 1 enc.val stream.val

/-- IDR_REQ (R257). -/
def execIdrReq (dt : Nat) (cls : Cls) (enc : Fin 2) (stream : Fin 8) (s : State) : Host.Outcome State Fault Refusal :=
  s.writeField dt cls F.ENC_S_CTL_IDR_REQ 1 enc.val stream.val

/-- ENCODER_STOP (R275). -/
def execEncoderStop (dt : Nat) (cls : Cls) (enc : Fin 2) (s : State) : Host.Outcome State Fault Refusal :=
  s.writeField dt cls F.ENC_CTL_EN 0 enc.val

/-- PANEL_ENABLE (R421). -/
def execPanelEnable (dt : Nat) (cls : Cls) (panel : Fin 4) (s : State) : Host.Outcome State Fault Refusal :=
  s.writeField dt cls F.DSK_P_CTL_EN 1 panel.val

/-- SWITCH_TAKE (R304). -/
def execSwitchTake (dt : Nat) (cls : Cls) (s : State) : Host.Outcome State Fault Refusal :=
  s.writeField dt cls F.PAIR_SWITCH_CMD 1

/-- SWITCH_YIELD (R304). -/
def execSwitchYield (dt : Nat) (cls : Cls) (s : State) : Host.Outcome State Fault Refusal :=
  s.writeField dt cls F.PAIR_SWITCH_CMD 2

/-- WARDEN_WATCHDOG_KICK (R308). -/
def execWardenWatchdogKick (dt : Nat) (cls : Cls) (s : State) : Host.Outcome State Fault Refusal :=
  s.writeField dt cls F.PAIR_WDOG_KICK 1

/-- SPRUE_LINK_ENABLE (R330). -/
def execSprueLinkEnable (dt : Nat) (cls : Cls) (link : Fin 3) (s : State) : Host.Outcome State Fault Refusal :=
  s.writeField dt cls F.SPR_K_CTL_EN 1 link.val

/-- SHARE_ENABLE (R342). -/
def execShareEnable (dt : Nat) (cls : Cls) (share : Fin 64) (s : State) : Host.Outcome State Fault Refusal :=
  s.writeField dt cls F.SPR_SH_CFG_EN 1 share.val

/-- CHANNEL_SERVICE (R367). -/
def execChannelService (dt : Nat) (cls : Cls) (channel : Fin 8) (s : State) : Host.Outcome State Fault Refusal :=
  s.writeField dt cls F.MEM_C_CTL_SVC 1 channel.val

/-- TRAINED_SET (R367, R372). -/
def execTrainedSet (dt : Nat) (cls : Cls) (channel : Fin 8) (s : State) : Host.Outcome State Fault Refusal :=
  s.writeField dt cls F.MEM_C_CTL_TRAINED_SET 1 channel.val

/-- MEM_CONTROLLER_DISABLE (R367). -/
def execMemControllerDisable (dt : Nat) (cls : Cls) (s : State) : Host.Outcome State Fault Refusal :=
  s.writeField dt cls F.MEM_CTL_EN 0

/-- COMPARATOR_RUN (R369). -/
def execComparatorRun (dt : Nat) (cls : Cls) (channel : Fin 8) (s : State) : Host.Outcome State Fault Refusal :=
  s.writeField dt cls F.MEM_C_TRN_CTL_GO 1 channel.val

/-- CURSOR_OLDEST (R463). -/
def execCursorOldest (dt : Nat) (cls : Cls) (s : State) : Host.Outcome State Fault Refusal :=
  s.writeField dt cls F.LOG_CURSOR_CMD 1

/-- CURSOR_NEWEST (R463). -/
def execCursorNewest (dt : Nat) (cls : Cls) (s : State) : Host.Outcome State Fault Refusal :=
  s.writeField dt cls F.LOG_CURSOR_CMD 2

/-- STEP_NEWER (R464, R463). -/
def execStepNewer (dt : Nat) (cls : Cls) (s : State) : Host.Outcome State Fault Refusal :=
  s.writeField dt cls F.LOG_STEP_DIR 1

/-- STEP_OLDER (R464, R463). -/
def execStepOlder (dt : Nat) (cls : Cls) (s : State) : Host.Outcome State Fault Refusal :=
  s.writeField dt cls F.LOG_STEP_DIR 2

/-- CLEAR_KEY_WRITE (R465). -/
def execClearKeyWrite (dt : Nat) (cls : Cls) (v : Word) (s : State) : Host.Outcome State Fault Refusal :=
  s.writeField dt cls F.LOG_CLR_KEY_KEY v.toNat

/-- LOG_SUBMIT (R467). -/
def execLogSubmit (dt : Nat) (cls : Cls) (k : Fin 5) (s : State) : Host.Outcome State Fault Refusal :=
  s.writeField dt cls F.LOG_SUB_GO_GO 1 k.val

/-- LIFE_CYCLE_ADVANCE (R380, R508). -/
def execLifeCycleAdvance (dt : Nat) (cls : Cls) (s : State) : Host.Outcome State Fault Refusal :=
  s.writeField dt cls F.SYS_LC_ADVANCE 1

/-- CLUSTER_RUN_WRITE (R388). -/
def execClusterRunWrite (dt : Nat) (cls : Cls) (cluster : Fin 4) (run : Bool) (s : State) : Host.Outcome State Fault Refusal :=
  s.writeField dt cls F.WDN_CL_CTL_RUN (b2n run) cluster.val

/-- CLUSTER_WATCHDOG_KICK (R389). -/
def execClusterWatchdogKick (dt : Nat) (cls : Cls) (cluster : Fin 4) (s : State) : Host.Outcome State Fault Refusal :=
  s.writeField dt cls F.WDN_CL_WDOG_KICK 1 cluster.val

/-- SELF_CHECK_GO (R393). -/
def execSelfCheckGo (dt : Nat) (cls : Cls) (s : State) : Host.Outcome State Fault Refusal :=
  s.writeField dt cls F.WDN_SC_CTL_GO 1

/-- MAILBOX_RING (R395). -/
def execMailboxRing (dt : Nat) (cls : Cls) (cluster : Fin 4) (s : State) : Host.Outcome State Fault Refusal :=
  s.writeField dt cls F.WDN_MB_DB_RING 1 cluster.val

/-- REMAP_SWAP (R401). -/
def execRemapSwap (dt : Nat) (cls : Cls) (swap : Bool) (s : State) : Host.Outcome State Fault Refusal :=
  s.writeField dt cls F.SYS_REMAP_SWAP (b2n swap)

/-- FLK_COMMIT (R417, R419). -/
def execFlkCommit (dt : Nat) (cls : Cls) (s : State) : Host.Outcome State Fault Refusal :=
  s.writeField dt cls F.FLK_COMMIT_GO 1

/-- SEAL (R488, R487). -/
def execSealStart (dt : Nat) (cls : Cls) (s : State) : Host.Outcome State Fault Refusal :=
  s.writeField dt cls F.XSP_SEAL_GO 1

/-- CALENDAR_ENTRY_APPLY (R75, R74). -/
def execCalendarEntryApply (dt : Nat) (cls : Cls) (e : Fin 256) (v : Word) (s : State) :
    Host.Outcome State Fault Refusal :=
  s.run dt fun c m b => writeAt c m cls (F.TIM_CAL_ACT_TARGET.at e.val) v b

/-- RING_TAIL_WRITE (R110, R109). -/
def execRingTailWrite (dt : Nat) (cls : Cls) (ring : Fin 256) (v : Word) (s : State) :
    Host.Outcome State Fault Refusal :=
  s.run dt fun c m b => writeAt c m cls (F.LAD_RING_TAIL_TAIL.at ring.val) v b

/-- FILTER_ENTRY_APPLY (R327). -/
def execFilterEntryApply (dt : Nat) (cls : Cls) (quad : Fin 12) (entry : Fin 128) (v : Word) (s : State) :
    Host.Outcome State Fault Refusal :=
  s.run dt fun c m b => writeAt c m cls (F.ETH_F_CFG_ACTION.at quad.val entry.val) v b

/-- MIRRORED_WRITE (R292, R294). -/
def execMirroredWrite (dt : Nat) (cls : Cls) (addr : BitVec 40) (v : Word) (s : State) :
    Host.Outcome State Fault Refusal :=
  s.run dt fun c m b => busWrite c m cls.val addr.toNat v none none b

/-- DOMAIN_REQUEST (R512). -/
def execDomainRequest (dt : Nat) (cls : Cls) (v : Word) (s : State) : Host.Outcome State Fault Refusal :=
  s.run dt fun c m b => writeAt c m cls F.PWR_DOM_REQ_REQ.addr v b

/-- REGISTER_WRITE (R14, R378, R391). -/
def execRegisterWrite (dt : Nat) (cls : Cls) (addr : BitVec 40) (v : Word) (portB : PortB) (s : State) :
    Host.Outcome State Fault Refusal :=
  s.run dt fun c m b => busWrite c m cls.val addr.toNat v none portB b

/-- REGISTER_READ (R524). -/
def execRegisterRead (dt : Nat) (cls : Cls) (addr : BitVec 40) (ecc : Fin 3) (s : State) :
    Host.Outcome State Fault Refusal :=
  s.run dt fun c m b => busRead c m cls.val addr.toNat ecc.val b

/-- BAD_WIDTH_ACCESS (R7, R404). -/
def execBadWidthAccess (dt : Nat) (cls : Cls) (addr : BitVec 40) (log2 : Fin 7) (write : Bool) (s : State) :
    Host.Outcome State Fault Refusal :=
  s.run dt fun c _ b => badAccess c cls.val addr.toNat log2.val write b

/-- DECODE_MISS (R404). -/
def execDecodeMiss (dt : Nat) (cls : Cls) (addr : BitVec 40) (write : Bool) (s : State) :
    Host.Outcome State Fault Refusal :=
  s.run dt fun c _ b => missAccess c cls.val addr.toNat write b

/-- BIT_SET_ALIAS_WRITE (R379). -/
def execBitSetAliasWrite (dt : Nat) (cls : Cls) (off : Fin 0x800000) (v : Word) (portB : PortB) (s : State) :
    Host.Outcome State Fault Refusal :=
  s.run dt fun c m b => busWrite c m cls.val (0x24000000 + off.val) v none portB b

/-- BIT_CLEAR_ALIAS_WRITE (R379). -/
def execBitClearAliasWrite (dt : Nat) (cls : Cls) (off : Fin 0x800000) (v : Word) (portB : PortB) (s : State) :
    Host.Outcome State Fault Refusal :=
  s.run dt fun c m b => busWrite c m cls.val (0x28000000 + off.val) v none portB b

/-- MODE_REGISTER_ACCESS (R369, R366). -/
def execModeRegisterAccess (dt : Nat) (cls : Cls) (channel : Fin 8) (read : Byte) (rfm : Bool) (s : State) :
    Host.Outcome State Fault Refusal :=
  s.run dt fun c m b => modeAccess c m cls channel.val read rfm b

/-- CURSOR_FIRST_OF_PCYC (R463). -/
def execCursorFirstOfPcyc (dt : Nat) (cls : Cls) (pcyc : BitVec 24) (s : State) : Host.Outcome State Fault Refusal :=
  s.run dt fun c m b => writeAt c m cls F.LOG_CURSOR_CMD.addr (BitVec.ofNat 32 (pcyc.toNat * 256 + 3)) b

/-- ASSAY_SCAN (R470). -/
def execAssayScan (dt : Nat) (cls : Cls) (unit : Fin 4) (cont : Bool) (s : State) : Host.Outcome State Fault Refusal :=
  s.run dt fun c m b => writeAt c m cls (F.ASY_U_CTL_GO.at unit.val) (BitVec.ofNat 32 (1 + 2 * b2n cont)) b

/-- XSP_READ (R475). -/
def execXspRead (dt : Nat) (cls : Cls) (s : State) : Host.Outcome State Fault Refusal :=
  s.run dt fun c m b => flashCommand c m cls 1 b

/-- XSP_PROGRAM (R475). -/
def execXspProgram (dt : Nat) (cls : Cls) (s : State) : Host.Outcome State Fault Refusal :=
  s.run dt fun c m b => flashCommand c m cls 2 b

/-- XSP_ERASE_4K (R475). -/
def execXspErase4k (dt : Nat) (cls : Cls) (s : State) : Host.Outcome State Fault Refusal :=
  s.run dt fun c m b => flashCommand c m cls 3 b

/-- XSP_ERASE_64K (R475). -/
def execXspErase64k (dt : Nat) (cls : Cls) (s : State) : Host.Outcome State Fault Refusal :=
  s.run dt fun c m b => flashCommand c m cls 4 b

/-- CLASS_L_TAKE_EFFECT (R14, R525). -/
def execClassLTakeEffect (dt : Nat) (win : Fin 96) (s : State) : Host.Outcome State Fault Refusal :=
  s.run dt fun c m b => takeWindow c m win.val b

/-- At a frame start, EN and MUTE of the head's stream take effect as last written before its cycle (R250). -/
def streamPends (c : Clk) (m : Mem) (h : Nat) (b : Block) : Block :=
  let sel (p : Pend) : Bool := p.addr == F.FET_PKT_CTL_EN.at h && b.ripe p
  if startsFrame c b h && b.pendL.any sel then
    let b := takePends c m sel b
    b.setFet h { b.fet h with ctlWas := none }
  else b

/-- HEAD_FIRST_FRAME (R67). -/
def execHeadFirstFrame (dt : Nat) (h : Head) (s : State) : Host.Outcome State Fault Refusal :=
  s.run dt fun c m b => firstFrame c h.val (streamPends c m h.val b)

/-- FRAME_START (R73). -/
def execFrameStart (dt : Nat) (h : Head) (s : State) : Host.Outcome State Fault Refusal :=
  s.run dt fun c m b => frameEnd c h.val (streamPends c m h.val b)

/-- RELOCK_HOLD_END (R71). -/
def execRelockHoldEnd (dt : Nat) (h : Head) (s : State) : Host.Outcome State Fault Refusal :=
  s.run dt fun c m b => holdEnd c h.val (streamPends c m h.val b)

/-- A waiting write that takes effect at a band tick of head `h`: one that the head governs, and every earlier write to
the same block that nothing holds back (R14, R525). -/
def tickTakes (b : Block) (h : Nat) (p : Pend) : Bool :=
  p.head == some h ||
    (pendFree b (p.addr / 0x10000) p && b.pendL.any fun q => q.head == some h && q.addr / 0x10000 == p.addr / 0x10000)

/-- BAND_TICK (R73): the class L fields that the head governs take effect (R14, R525). -/
def execBandTick (dt : Nat) (h : Head) (band : Fin 135) (s : State) : Host.Outcome State Fault Refusal :=
  s.run dt fun c m b =>
    if bandDue c b h.val band.val then takePends c m (tickTakes b h.val) (bandTick h.val band.val b) else b

end Sys2Proof.Machine
end

