-- ==== Sys2Proof/Machine/Shop.lean ====
section
/-! DEFINITION. The records of the pattern image that act over the bus (R477), the operations of the shop protocol
(R497-R500), and the SMBus, UART and JTAG ports (R501-R503). -/

namespace Sys2Proof.Machine

open Sys2Proof

/-! ## Records (R477) -/

/-- RUN: N values to consecutive addresses, written by the class that applies the section. -/
def runRecord (c : Clk) (m : Mem) (t : Nat) (b : Block) : Block :=
  match applying b t with
  | none => b
  | some x =>
    if !recordIs m x 1 then b
    else
      let a := flashWord m (x.next + 4)
      let b := (List.range (tagN (flashWord m x.next))).foldl (fun b i =>
        busWrite c m x.cls (a + 4 * i) (BitVec.ofNat 32 (flashWord m (x.next + 8 + 4 * i))) none none b) b
      passRecord m x b

/-- What a POLL record reads: none where the read fails. -/
def pollRead (c : Clk) (m : Mem) (x : Applying) (b : Block) : Option Word × Block :=
  let b := busRead c m x.cls (flashWord m (x.next + 4)) 0 { b with resp := .none }
  (match b.resp with | .data v => some v | _ => none, b)

/-- What a POLL record reads is what it waits for. -/
def pollMet (m : Mem) (x : Applying) : Option Word → Bool
  | some v => v &&& BitVec.ofNat 32 (flashWord m (x.next + 8)) = BitVec.ofNat 32 (flashWord m (x.next + 12))
  | none => false

/-- POLL: the first read, or another while it waits, for at most N µs. -/
def pollRecord (c : Clk) (m : Mem) (t : Nat) (b : Block) : Block :=
  match applying b t with
  | none => b
  | some x =>
    let waits := match x.wait with | .poll _ => true | .none => false | .delay _ => false
    if !waits && !recordIs m x 2 then b
    else
      let (v, b) := pollRead c m x b
      if pollMet m x v then passRecord m x b
      else if waits then b
      else setApplying { x with wait := .poll (c.steady + tagN (flashWord m x.next) * usTick) } b

/-- A POLL was not satisfied within its time (code 0x1607): application goes on with the next record. The value of a read
that fails is free (log 3). -/
def pollTimeout (c : Clk) (m : Mem) (t : Nat) (b : Block) : Block :=
  match applying b t with
  | none => b
  | some x =>
    match x.wait with
    | .poll u =>
      if c.steady < u then b
      else
        let (v, b) := pollRead c m x b
        if pollMet m x v then passRecord m x b
        else
          let (w, b) := match v with | some w => (w, b) | none => b.fresh
          passRecord m x (b.record 0x1607 4 t ((x.next - x.base) / 4) (flashWord m (x.next + 4)) w.toNat)
    | .none => b
    | .delay _ => b

/-! ## Serving a shop message (R497-R500) -/

/-- Fihus on cluster 3 serves the protocol; in recovery the Warden ROM does (R495, R497). -/
def shopServed (b : Block) : Bool := if mgtRecovery b then issues b 0 else issues b 4

/-- The class of the protocol's register accesses (R495). -/
def shopCls (b : Block) : Nat := if mgtRecovery b then 0 else 9

/-- The operations that the Warden ROM serves (R497); a session ends at CLOSE there too (log 31). -/
def recoveryTypes : List Nat := [0x02, 0x03, 0x30, 0x40, 0x41, 0x43]

/-- MGT_FRAME_RECEIVE (R495). The datagrams of the shop port go into ring RXR of group 0, and through it to Fihus. -/
def mgtReceive (c : Clk) (l : List Byte) (slot : Nat) (b : Block) : Block :=
  let ip := mgtAddr b
  if !mgtOn b then b
  else match arpRequest l ip, echoRequest l ip, udpOf l with
    | some (mac, from_), _, _ => mgtSend (.arp mac from_) b
    | none, some (from_, body), _ => mgtSend (.echo from_ body) b
    | none, none, none => b.inc F.MGT_CNT_DROP
    | none, none, some (src, _, port) =>
      if port ≠ mgtPort b then b.inc F.MGT_CNT_DROP
      else
        let (cport, data) := datagram l
        if mgtRecovery b then (if shopServed b && mgtSpeaks b then shopInput c src cport slot data b else b)
        else
          let r := b.get F.MGT_RING_RXR
          let (ok, b) := if r < 16 then ringFihus c true r l b else (false, b)
          if ok && shopServed b && mgtSpeaks b then shopInput c src cport slot data b else b

/-- Pass a request to the partner (R500): at version 1.0 FLAGS[1] is not defined (log 31). -/
def shopRelay (x : Session) (q : ShopMsg) (b : Block) : Block :=
  if x.minor = 0 then shopReply q 4 .empty b
  else if !b.pairMode || !b.linkUp then shopReply q 7 .empty b
  else sprSend 0 { chan := 5, body := .shopRequest q.type q.session x.role q.payload } b

/-- Serve the message at the front, if it holds the operation: under the role that it needs (R499, R500). -/
def shopServe (type need : Nat) (f : ShopMsg → Block → Block) (b : Block) : Block :=
  match b.shop.msgs with
  | [] => b
  | q :: r =>
    if q.type ≠ type || !shopServed b then b
    else
      let b := b.setShop { b.shop with msgs := r }
      match q.relayed with
      | some role => if role < need then shopReply q 3 .empty b else f q b
      | none =>
        match sessionOf b q.session with
        | none => b
        | some x =>
          if !mgtSpeaks b then b
          else if q.partner then shopRelay x q b
          else if x.role < need then shopReply q 3 .empty b
          else if mgtRecovery b && !recoveryTypes.contains type then shopReply q 5 .empty b
          else f q b

/-- What an OPEN carries beside its key slot: the lowest and the highest version (major in [15:8], minor in [7:0]) and the
client's nonce; and what the part chooses: its nonce and the session's identifier. -/
structure OpenReq where
  low : Nat
  high : Nat
  client : List Byte
  nonce : BitVec 128
  session : Word
deriving DecidableEq, Repr

/-- The highest version that Fihus, or in recovery the Warden ROM, serves; the lowest is 1.0 (R497). -/
def ownHigh (b : Block) : Nat := if mgtRecovery b then 0x100 else 0x101

/-- Answer an OPEN that opens no session, under its shop key. -/
def openRefused (k : ShopKey) (q : ShopMsg) (status : Nat) (r : ShopResult) (b : Block) : Block :=
  mgtSend (.shop q.ip q.port (shopMessage k.key (ownHigh b) 1 1 status 0 1 (Config.shopOctets r)) r)
    (shopStatus 0 1 status b)

/-- A session opens: its key is derived, and the OPEN answered under the shop key (R496, R497, code 0x1501). -/
def sessionOpen (c : Clk) (k : ShopKey) (q : ShopMsg) (o : OpenReq) (version : Nat) (b : Block) : Block :=
  let label : List Byte := [0x4E, 0x4B, 0x53, 0x4B]
  let ks := hmac k.key (label ++ o.client ++ beBytes 16 o.nonce.toNat ++ beBytes 4 o.session.toNat)
  let x : Session := { id := o.session.toNat, slot := q.slot, role := k.role, minor := version % 256, key := ks, ip := q.ip,
                       port := q.port, lastAt := c.steady }
  let r := ShopResult.opened version o.nonce o.session
  let b := b.setShop { b.shop with sessions := b.shop.sessions ++ [x] }
  let b := (b.put F.MGT_STAT_SESSIONS b.shop.sessions.length).record 0x1501 2 x.id q.slot version q.ip
  mgtSend (.shop q.ip q.port (shopMessage k.key version 1 1 0 0 1 (Config.shopOctets r)) r) b

/-- OPEN (R497, R498): `o` is none for a payload that is not valid. -/
def shopOpen (c : Clk) (o : Option OpenReq) (b : Block) : Block :=
  match b.shop.msgs with
  | [] => b
  | q :: r =>
    if q.type ≠ 1 || !shopServed b then b
    else
      let b := b.setShop { b.shop with msgs := r }
      if !mgtSpeaks b then b
      else match shopKeyOf b q.slot, o with
        | none, _ => b
        | some k, none => openRefused k q 4 .empty b
        | some k, some o =>
          let v := min o.high (ownHigh b)
          if v < max o.low 0x100 then openRefused k q 2 (.versions 0x100 (ownHigh b)) b
          else if 4 ≤ b.shop.sessions.length then openRefused k q 8 .empty b
          else sessionOpen c k q o v b

/-- A session ends (R498, code 0x1502): 0 CLOSE, 1 idle. Its messages are not served. -/
def sessionEnd (cause : Nat) (x : Session) (b : Block) : Block :=
  let b := b.setShop { b.shop with
    sessions := b.shop.sessions.filter (·.id ≠ x.id)
    msgs := b.shop.msgs.filter fun q => q.relayed.isSome || q.type = 1 || q.session ≠ x.id }
  (b.put F.MGT_STAT_SESSIONS b.shop.sessions.length).record 0x1502 2 x.id cause x.count

/-- CLOSE: answered, then the session ends. The session of a relayed request is the partner's. -/
def shopClose (q : ShopMsg) (b : Block) : Block :=
  match q.relayed, sessionOf b q.session with
  | none, some x => sessionEnd 0 x (shopReply q 0 .empty b)
  | _, _ => shopReply q 5 .empty b

/-- Sessions end that saw no valid message for MGT_IDLE.IDLE_S s (R498). -/
def sessionsIdle (c : Clk) (b : Block) : Block :=
  (b.shop.sessions.filter fun x => x.lastAt + b.get F.MGT_IDLE_IDLE_S * sTick ≤ c.steady).foldl
    (fun b x => sessionEnd 1 x b) b

/-- A register's word as the shop protocol shows it. -/
def shopWord (c : Clk) (b : Block) (f : Fld) : Word := regView c b f.addr

/-- HEALTH (R499). -/
def shopHealth (c : Clk) (q : ShopMsg) (b : Block) : Block :=
  shopReply q 0 (.health (healthReport c b) (shopWord c b F.XSP_STAT_STAGE) (shopWord c b F.PAIR_STAT_ROLE)) b

/-- The per-word status of an access: 0 done, 4 for an address that is not aligned, 6 refused. -/
def wordStatus (a : Nat) : Resp → Nat
  | .done => if a % 4 = 0 then 0 else 4
  | .data _ => if a % 4 = 0 then 0 else 4
  | .none => if a % 4 = 0 then 6 else 4
  | .error => if a % 4 = 0 then 6 else 4

/-- One read of a shop operation: its status and value. -/
def shopReadOne (c : Clk) (m : Mem) (a : Nat) (b : Block) : (Nat × Word) × Block :=
  let b := busRead c m (shopCls b) a 0 { b with resp := .none }
  ((wordStatus a b.resp, match b.resp with | .data v => v | .none => 0 | .done => 0 | .error => 0), b)

/-- One write of a shop operation: its status. -/
def shopWriteOne (c : Clk) (m : Mem) (a : Nat) (v : Word) (b : Block) : Nat × Block :=
  let b := busWrite c m (shopCls b) a v none none { b with resp := .none }
  (wordStatus a b.resp, b)

/-- Reads, in the order of their addresses in the payload. -/
def shopReads (c : Clk) (m : Mem) : List Nat → Block → List (Nat × Word) × Block
  | [], b => ([], b)
  | a :: t, b =>
    let (x, b) := shopReadOne c m a b
    let (l, b) := shopReads c m t b
    (x :: l, b)

/-- Writes, in the order of the payload. -/
def shopWrites (c : Clk) (m : Mem) : List (Nat × Word) → Block → List Nat × Block
  | [], b => ([], b)
  | (a, v) :: t, b =>
    let (x, b) := shopWriteOne c m a v b
    let (l, b) := shopWrites c m t b
    (x :: l, b)

/-- REG_READ (R499): up to 64 addresses. -/
def shopRegRead (c : Clk) (m : Mem) (req : Option (List Nat)) (q : ShopMsg) (b : Block) : Block :=
  match req with
  | none => shopReply q 4 .empty b
  | some l =>
    if 64 < l.length then shopReply q 4 .empty b
    else
      let (r, b) := shopReads c m l b
      shopReply q 0 (.values r) b

/-- REG_WRITE (R499): up to 32 pairs of address and value. -/
def shopRegWrite (c : Clk) (m : Mem) (req : Option (List (Nat × Word))) (q : ShopMsg) (b : Block) : Block :=
  match req with
  | none => shopReply q 4 .empty b
  | some l =>
    if 32 < l.length then shopReply q 4 .empty b
    else
      let (r, b) := shopWrites c m l b
      shopReply q 0 (.statuses r) b

/-- The number of scenes of the copy in effect (R478). -/
def sceneCount (m : Mem) (b : Block) : Nat :=
  match b.start.chosen with
  | none => 0
  | some k => match sectionOf m b k 5 with
    | some s => flashWord m (copyBase b k + s.off)
    | none => 0

/-- COMMIT (R478, R499): the scene's records are applied by class 9; the response follows their END. -/
def shopCommit (m : Mem) (scene : Option Nat) (q : ShopMsg) (b : Block) : Block :=
  match scene with
  | none => shopReply q 4 .empty b
  | some n =>
    if n = 0 || sceneCount m b ≤ n then shopReply q 4 .empty b
    else if !b.start.later || b.get F.XSP_STAT_STAGE < 2 then shopReply q 5 .empty b
    else if b.start.apps.any (·.sect = 5) || b.shop.commit.isSome then shopReply q 8 .empty b
    else startApply m 5 n 9 (b.setShop { b.shop with commit := some q })

/-- END of a section; that of a committed scene answers its COMMIT. -/
def sectionEnd (c : Clk) (m : Mem) (t : Nat) (b : Block) : Block :=
  let b' := sectionDone c m t b
  match b'.shop.commit with
  | some q => if t = 5 && (applying b 5).isSome && (applying b' 5).isNone then
      shopReply q 0 .empty (b'.setShop { b'.shop with commit := none }) else b'
  | none => b'

/-- The ingots that a LOG_READ returns: after each move the window and LOG_CUR_STAT; it ends where nothing is left. -/
def shopIngots (c : Clk) (m : Mem) : Nat → Word → Block → List (List Word × Word) × Block
  | 0, _, b => ([], b)
  | n + 1, dir, b =>
    let b := moveDone b
    let (w, b) := shopReads c m ((List.range 8).map fun i => periphBase + F.LOG_WIN_WIN.at i) b
    let ((_, st), b) := shopReadOne c m (periphBase + F.LOG_CUR_STAT_BUSY.addr) b
    if F.LOG_CUR_STAT_END.of st = 1 then ([], b)
    else
      let (_, b) := if n = 0 then (0, b) else shopWriteOne c m (periphBase + F.LOG_STEP_DIR.addr) dir b
      let (l, b) := shopIngots c m n dir b
      ((w.map (·.2), st) :: l, b)

/-- LOG_READ (R463, R499): a word for LOG_STEP or for LOG_CURSOR, and up to 32 ingots; the steps that follow a placement go
toward newer ingots, and toward older ones from the newest (log 31). -/
def shopLogRead (c : Clk) (m : Mem) (req : Option (Bool × Word × Nat)) (q : ShopMsg) (b : Block) : Block :=
  match req with
  | none => shopReply q 4 .empty b
  | some (step, v, n) =>
    if 32 < n then shopReply q 4 .empty b
    else
      let (st, b) := shopWriteOne c m (periphBase + (if step then F.LOG_STEP_DIR.addr else F.LOG_CURSOR_CMD.addr)) v b
      if st ≠ 0 then shopReply q 6 .empty b
      else
        let dir : Word := if step then v else if v.toNat % 4 = 2 then 2 else 1
        let (l, b) := shopIngots c m n dir b
        shopReply q 0 (.ingots l) b

/-- LOG_CLEAR (R499): the keys are passed to cluster 0, which rings its mailbox with the LOG_CLEAR opcode (R397). -/
def shopLogClear (keys : Option (Word × Word)) (q : ShopMsg) (b : Block) : Block :=
  match keys with
  | none => shopReply q 4 .empty b
  | some (k1, k2) =>
    if b.on F.WDN_MB_STAT_BUSY 0 || !issues b 1 then shopReply q 8 .empty b
    else
      let head := b.get F.WDN_ABI_MAJOR * 2 ^ 24 + b.get F.WDN_ABI_MINOR * 2 ^ 16 + 5 * 256
      let words := [head, 2, k1.toNat, k2.toNat]
      let b := words.zipIdx.foldl (fun b w => b.put F.WDN_MB_REQ_REQ w.1 0 w.2) b
      shopReply q 0 .empty (mbRing 0 b)

/-- The class that writes the flash for the shop protocol (R475): cluster 3, in recovery the Warden ROM. -/
def flashCls (b : Block) : Nat := if mgtRecovery b then 0 else 4

/-- A write of the flash for the shop protocol at a copy's offset (R475): refused by the regions with status 6. -/
def shopFlash (a n : Nat) (f : Block → Block) (q : ShopMsg) (b : Block) : Block :=
  if b.on F.XSP_OP_STAT_BUSY then shopReply q 8 .empty b
  else if !flashWritable b (flashCls b) a n then shopReply q 6 .empty (flashRefused (flashCls b) a b)
  else shopReply q 0 .empty (f b)

/-- FLASH_ERASE (R499): the copy, the offset, whether 64 KiB or 4 KiB. -/
def shopErase (req : Option (Nat × Nat × Bool)) (q : ShopMsg) (b : Block) : Block :=
  match req with
  | none => shopReply q 4 .empty b
  | some (k, off, big) =>
    let n := if big then 65536 else 4096
    let a := (copyBase b k + off) / n * n
    shopFlash a n (fun b => b.eraseFlash a n) q b

/-- FLASH_WRITE (R499): the copy, the offset, up to 1024 bytes. -/
def shopProgram (m : Mem) (req : Option (Nat × Nat × List Byte)) (q : ShopMsg) (b : Block) : Block :=
  match req with
  | none => shopReply q 4 .empty b
  | some (k, off, l) =>
    if 1024 < l.length || l.isEmpty then shopReply q 4 .empty b
    else
      let a := copyBase b k + off
      shopFlash a l.length (programFlash m a l) q b

/-- FLASH_READ (R499): the copy, the offset within it, up to 1024 bytes. -/
def shopFlashRead (m : Mem) (req : Option (Nat × Nat × Nat)) (q : ShopMsg) (b : Block) : Block :=
  match req with
  | none => shopReply q 4 .empty b
  | some (k, off, n) =>
    if 1024 < n || flashSize b / 2 - mib < off + n then shopReply q 4 .empty b
    else if b.on F.XSP_OP_STAT_BUSY then shopReply q 8 .empty b
    else shopReply q 0 (.bytes (m.flashBytes (copyBase b k + off) n)) b

/-- REPOUR (R490, R499): the status of the REPOUR opcode; a Warden that checks itself is busy. -/
def shopRepour (req : Option (Bool × Bool)) (q : ShopMsg) (b : Block) : Block :=
  match req with
  | none => shopReply q 4 .empty b
  | some (copy, force) =>
    if !issues b 0 || b.selfCheck.isSome then shopReply q 8 .empty b
    else if repourRefused b (b2n copy) force then shopReply q 5 .empty b
    else shopReply q 0 .empty (askRepour (b2n copy) force b)

/-- A wipe of the secure region ends (R380): it erases the shop keys, and every session ends (R498). -/
def shopWipe (c : Clk) (b : Block) : Block :=
  match b.dram.wipe with
  | none => b
  | some _ =>
    let b := endSessions 2 (wipeDone c b)
    b.setShop { b.shop with keys := [] }

/-! ## The PHY's status (R495) -/

/-- The PHY reports its link (R495): MGT_STAT and, where it changes, MGT_EVT.LINK. -/
def mgtLink (up : Bool) (speed : Nat) (b : Block) : Block :=
  if b.on F.MGT_STAT_LINK = up && b.get F.MGT_STAT_SPEED = speed then b
  else ((b.flag F.MGT_STAT_LINK up).put F.MGT_STAT_SPEED speed).evt F.MGT_EVT_LINK

/-! ## SMBus (R501) -/

/-- One byte of SMBus's packet error code: CRC-8 of polynomial x⁸ + x² + x + 1 (PRESUMED: SMBus 3.1, log 33). -/
def pecByte (crc : Byte) (d : Byte) : Byte :=
  (List.range 8).foldl (fun (x : Byte) _ => if x.msb then (x <<< 1) ^^^ 0x07 else x <<< 1) (crc ^^^ d)

/-- The PEC of a block read: over the address, the command, the address, the count and the bytes. -/
def smbusPec (b : Block) (cmd : Nat) (l : List Byte) : Byte :=
  let a := 2 * (0x48 + b.pos)
  ([BitVec.ofNat 8 a, BitVec.ofNat 8 cmd, BitVec.ofNat 8 (a + 1), BitVec.ofNat 8 l.length] ++ l).foldl pecByte 0

/-- The port is served from 5 ms after reset release (R501). -/
def smbusServed (c : Clk) : Bool := 5 * msTick ≤ c.steady

/-- Answer a block read. -/
def smbusRead (c : Clk) (cmd : Nat) (x : SmbusBlock) (l : List Byte) (b : Block) : Block :=
  if smbusServed c then b.emit (.smbus x l (smbusPec b cmd l)) else b

/-- A block whose bytes the spec does not place, but for zeros at its end (log 33). -/
def smbusOpen (x : SmbusBlock) (n zeros : Nat) : List Byte :=
  (List.range n).map (Config.smbusByte x) ++ List.replicate zeros 0

/-- Command 0x01. -/
def smbusIdentity (c : Clk) (b : Block) : Block :=
  let x := SmbusBlock.identity (b.get F.SYS_ID_STEP) (b.get F.SYS_STRAP_UNIT) b.pos Config.serial
  smbusRead c 1 x (smbusOpen x 12 4) b

/-- Command 0x02. -/
def smbusStatus (c : Clk) (b : Block) : Block :=
  let x := SmbusBlock.status (b.get F.XSP_STAT_STAGE) (b.get F.XSP_STAT_COPY) (b.reg F.XSP_REJ_REJ_A.addr).toNat b.role
    (b.get F.PAIR_SCORE_OWN)
  smbusRead c 2 x (smbusOpen x 6 2) b

/-- Command 0x03, the low byte first (log 33). -/
def smbusTemperature (c : Clk) (b : Block) : Block :=
  let t := b.get F.SYS_TEMP_TJ
  smbusRead c 3 (.temperature (BitVec.ofNat 16 t)) (leBytes 2 t) b

/-- Command 0x04: the newest ingot of severity 4 or more; without one the bytes are free (log 33). -/
def smbusLastFault (c : Clk) (b : Block) : Block :=
  let l := (logItems b).filter fun q => !q.damaged && 4 ≤ slotSeverity q.bytes
  let (bytes, b) := match greatest (·.rank) l with
    | some q => (q.bytes, b)
    | none => b.freshBytes 32
  smbusRead c 4 (.lastFault bytes) bytes b

/-- Command 0x05: the last health report sent (PAIR_HR_OWN). -/
def smbusHealth (c : Clk) (b : Block) : Block :=
  let l := ((List.range 16).map fun k => beBytes 4 (b.get F.PAIR_HR_OWN_HR k)).flatten
  smbusRead c 5 (.health l) l b

/-- A write: its data byte is answered NACK. -/
def smbusWrite (c : Clk) (b : Block) : Block := if smbusServed c then b.emit .nack else b

/-! ## UART and JTAG (R502, R503) -/

/-- Input of the UART reaches the console while the life-cycle state is not FIELD. -/
def uartInput (l : List Byte) (b : Block) : Block :=
  if b.get F.SYS_LC_STATE = 1 then b else b.setShop { b.shop with console := b.shop.console ++ l }

/-- Something leaves the JTAG port or, under EXTEST, the pins. -/
def Block.shift (b : Block) (o : Output) : Block := { b with out := b.out ++ [o] }

def Block.setJtag (b : Block) (x : Jtag) : Block := { b with jtag := x }

/-- The identification code (R503). -/
def idcodeWord (b : Block) : Word :=
  BitVec.ofNat 32 (b.get F.SYS_ID_STEP * 2 ^ 28 + 0x7240 * 2 ^ 12 + Config.jedecId.toNat * 2 + 1)

/-- A JTAG instruction acts whether or not the part is in reset (log 32). -/
def State.runJtag (s : State) (dt : Nat) (f : Block → Block) : Host.Outcome State Fault Refusal :=
  .next ((if s.blk.hold = .all then s else s.pass dt).act fun _ _ b => f b)

/-! ## Commands -/

/-- RUN (R477). -/
def execImageRun (dt : Nat) (sect : Fin 12) (s : State) : Host.Outcome State Fault Refusal :=
  s.run dt fun c m b => runRecord c m sect.val b

/-- POLL (R477). -/
def execImagePoll (dt : Nat) (sect : Fin 12) (s : State) : Host.Outcome State Fault Refusal :=
  s.run dt fun c m b => pollRecord c m sect.val b

/-- POLL_TIMEOUT (R477). -/
def execPollTimeout (dt : Nat) (sect : Fin 12) (s : State) : Host.Outcome State Fault Refusal :=
  s.run dt fun c m b => pollTimeout c m sect.val b

/-- END (R477). -/
def execSectionEnd (dt : Nat) (sect : Fin 12) (s : State) : Host.Outcome State Fault Refusal :=
  s.run dt fun c m b => sectionEnd c m sect.val b

/-- SECURE_WIPE_DONE (R380, R498). -/
def execSecureWipeDone (dt : Nat) (s : State) : Host.Outcome State Fault Refusal := s.run dt fun c _ b => shopWipe c b

/-- MGT_FRAME_RECEIVE (R495). -/
def execMgtFrameReceive (dt : Nat) (bytes : List Byte) (slot : Byte) (s : State) : Host.Outcome State Fault Refusal :=
  s.run dt fun c _ b => mgtReceive c bytes slot.toNat b

/-- MGT_LINK_CHANGE (R495). -/
def execMgtLinkChange (dt : Nat) (up : Bool) (speed : Fin 3) (s : State) : Host.Outcome State Fault Refusal :=
  s.run dt fun _ _ b => mgtLink up speed.val b

/-- OPEN (R497). -/
def execShopOpen (dt : Nat) (req : Option (BitVec 16 × BitVec 16 × BitVec 128)) (nonce : BitVec 128) (session : Word)
    (s : State) : Host.Outcome State Fault Refusal :=
  s.run dt fun c _ b => shopOpen c (req.map fun r =>
    { low := r.1.toNat, high := r.2.1.toNat, client := beBytes 16 r.2.2.toNat, nonce, session }) b

/-- CLOSE (R498). -/
def execShopClose (dt : Nat) (s : State) : Host.Outcome State Fault Refusal :=
  s.run dt fun _ _ b => shopServe 0x02 1 shopClose b

/-- HEALTH (R499). -/
def execShopHealth (dt : Nat) (s : State) : Host.Outcome State Fault Refusal :=
  s.run dt fun c _ b => shopServe 0x03 1 (shopHealth c) b

/-- REG_READ (R499). -/
def execShopRegRead (dt : Nat) (req : Option (List (BitVec 40))) (s : State) : Host.Outcome State Fault Refusal :=
  s.run dt fun c m b => shopServe 0x10 1 (shopRegRead c m (req.map fun l => l.map (·.toNat))) b

/-- REG_WRITE (R499). -/
def execShopRegWrite (dt : Nat) (req : Option (List (BitVec 40 × Word))) (s : State) : Host.Outcome State Fault Refusal :=
  s.run dt fun c m b => shopServe 0x11 2 (shopRegWrite c m (req.map fun l => l.map fun q => (q.1.toNat, q.2))) b

/-- COMMIT (R478, R499). -/
def execShopCommit (dt : Nat) (scene : Option Byte) (s : State) : Host.Outcome State Fault Refusal :=
  s.run dt fun _ m b => shopServe 0x20 2 (shopCommit m (scene.map (·.toNat))) b

/-- LOG_READ (R499). -/
def execShopLogRead (dt : Nat) (req : Option (Bool × Word × Byte)) (s : State) : Host.Outcome State Fault Refusal :=
  s.run dt fun c m b => shopServe 0x30 1 (shopLogRead c m (req.map fun r => (r.1, r.2.1, r.2.2.toNat))) b

/-- LOG_CLEAR of the shop protocol (R499). -/
def execShopLogClear (dt : Nat) (keys : Option (Word × Word)) (s : State) : Host.Outcome State Fault Refusal :=
  s.run dt fun _ _ b => shopServe 0x31 3 (shopLogClear keys) b

/-- FLASH_ERASE (R499). -/
def execShopFlashErase (dt : Nat) (req : Option (Fin 2 × BitVec 26 × Bool)) (s : State) : Host.Outcome State Fault Refusal :=
  s.run dt fun _ _ b => shopServe 0x40 3 (shopErase (req.map fun r => (r.1.val, r.2.1.toNat, r.2.2))) b

/-- FLASH_WRITE (R499). -/
def execShopFlashWrite (dt : Nat) (req : Option (Fin 2 × BitVec 26 × List Byte)) (s : State) :
    Host.Outcome State Fault Refusal :=
  s.run dt fun _ m b => shopServe 0x41 3 (shopProgram m (req.map fun r => (r.1.val, r.2.1.toNat, r.2.2))) b

/-- FLASH_READ (R499). -/
def execShopFlashRead (dt : Nat) (req : Option (Fin 2 × BitVec 26 × BitVec 11)) (s : State) :
    Host.Outcome State Fault Refusal :=
  s.run dt fun _ m b => shopServe 0x42 1 (shopFlashRead m (req.map fun r => (r.1.val, r.2.1.toNat, r.2.2.toNat))) b

/-- REPOUR of the shop protocol (R490, R499). -/
def execShopRepour (dt : Nat) (req : Option (Bool × Bool)) (s : State) : Host.Outcome State Fault Refusal :=
  s.run dt fun _ _ b => shopServe 0x43 3 (shopRepour req) b

/-- SESSION_IDLE_TIMEOUT (R498). -/
def execSessionIdleTimeout (dt : Nat) (s : State) : Host.Outcome State Fault Refusal :=
  s.run dt fun c _ b => sessionsIdle c b

/-- SMBUS_IDENTITY (R501). -/
def execSmbusIdentity (dt : Nat) (s : State) : Host.Outcome State Fault Refusal :=
  s.runAon dt fun c _ b => smbusIdentity c b

/-- SMBUS_STATUS (R501). -/
def execSmbusStatus (dt : Nat) (s : State) : Host.Outcome State Fault Refusal :=
  s.runAon dt fun c _ b => smbusStatus c b

/-- SMBUS_TEMPERATURE (R501). -/
def execSmbusTemperature (dt : Nat) (s : State) : Host.Outcome State Fault Refusal :=
  s.runAon dt fun c _ b => smbusTemperature c b

/-- SMBUS_LAST_FAULT (R501). -/
def execSmbusLastFault (dt : Nat) (s : State) : Host.Outcome State Fault Refusal :=
  s.runAon dt fun c _ b => smbusLastFault c b

/-- SMBUS_HEALTH_REPORT (R501). -/
def execSmbusHealthReport (dt : Nat) (s : State) : Host.Outcome State Fault Refusal :=
  s.runAon dt fun c _ b => smbusHealth c b

/-- SMBUS_WRITE (R501). -/
def execSmbusWrite (dt : Nat) (s : State) : Host.Outcome State Fault Refusal := s.runAon dt fun c _ b => smbusWrite c b

/-- UART_INPUT (R502). -/
def execUartInput (dt : Nat) (bytes : List Byte) (s : State) : Host.Outcome State Fault Refusal :=
  s.run dt fun _ _ b => uartInput bytes b

/-- BYPASS (R503). -/
def execJtagBypass (dt : Nat) (s : State) : Host.Outcome State Fault Refusal :=
  s.runJtag dt fun b => b.setJtag { b.jtag with instr := .bypass }

/-- IDCODE (R503). -/
def execJtagIdcode (dt : Nat) (s : State) : Host.Outcome State Fault Refusal :=
  s.runJtag dt fun b => (b.setJtag { b.jtag with instr := .idcode }).shift (.idcode (idcodeWord b))

/-- SAMPLE/PRELOAD (R503): the boundary register captures the pins, and is loaded. -/
def execJtagSamplePreload (dt : Nat) (pins load : List Bool) (s : State) : Host.Outcome State Fault Refusal :=
  s.runJtag dt fun b => (b.setJtag { instr := .sample, boundary := load }).shift (.capture pins)

/-- EXTEST (R503): every output is driven from the boundary register. -/
def execJtagExtest (dt : Nat) (s : State) : Host.Outcome State Fault Refusal :=
  s.runJtag dt fun b => (b.setJtag { b.jtag with instr := .extest }).shift (.pins b.jtag.boundary)

end Sys2Proof.Machine
end

