-- ==== Sys2Proof/Machine/Dispatch.lean ====
section
/-! DEFINITION. One arm for each command: a direct call of its meaning. -/

namespace Sys2Proof.Machine

open Sys2Proof

def exec (i : Instr) (s : State) : Host.Outcome State Fault Refusal :=
  match i with
  | .registerWrite dt cls addr v portB => Sys2Proof.Machine.execRegisterWrite dt cls addr v portB s
  | .classLTakeEffect dt win => Sys2Proof.Machine.execClassLTakeEffect dt win s
  | .badWidthAccess dt cls addr log2 write => Sys2Proof.Machine.execBadWidthAccess dt cls addr log2 write s
  | .decodeMiss dt cls addr write => Sys2Proof.Machine.execDecodeMiss dt cls addr write s
  | .snapshotTake dt cls => Sys2Proof.Machine.execSnapshotTake dt cls s
  | .ptpSet dt cls secHi => Sys2Proof.Machine.execPtpSet dt cls secHi s
  | .servoUpdate dt cls ofsHi => Sys2Proof.Machine.execServoUpdate dt cls ofsHi s
  | .holdoverTimeout dt => Sys2Proof.Machine.execHoldoverTimeout dt s
  | .servoEnableWrite dt cls en => Sys2Proof.Machine.execServoEnableWrite dt cls en s
  | .servoHoldWrite dt cls hold => Sys2Proof.Machine.execServoHoldWrite dt cls hold s
  | .masterChange dt cls => Sys2Proof.Machine.execMasterChange dt cls s
  | .headEnable dt cls h => Sys2Proof.Machine.execHeadEnable dt cls h s
  | .headDisable dt cls h => Sys2Proof.Machine.execHeadDisable dt cls h s
  | .headFirstFrame dt h => Sys2Proof.Machine.execHeadFirstFrame dt h s
  | .frameStart dt h => Sys2Proof.Machine.execFrameStart dt h s
  | .relockHoldEnd dt h => Sys2Proof.Machine.execRelockHoldEnd dt h s
  | .bandTick dt h band => Sys2Proof.Machine.execBandTick dt h band s
  | .pourMarkUpdate dt h => Sys2Proof.Machine.execPourMarkUpdate dt h s
  | .calendarEntryApply dt cls e v => Sys2Proof.Machine.execCalendarEntryApply dt cls e v s
  | .calendarFire dt e => Sys2Proof.Machine.execCalendarFire dt e s
  | .ladlePacket dt src input => Sys2Proof.Machine.execLadlePacket dt src input s
  | .mergeSkewExpiry dt src seq => Sys2Proof.Machine.execMergeSkewExpiry dt src seq s
  | .repairWaitExpiry dt src seq => Sys2Proof.Machine.execRepairWaitExpiry dt src seq s
  | .pathLoss dt src path => Sys2Proof.Machine.execPathLoss dt src path s
  | .frameComplete dt src => Sys2Proof.Machine.execFrameComplete dt src s
  | .frameReady dt src => Sys2Proof.Machine.execFrameReady dt src s
  | .sourceLate dt src => Sys2Proof.Machine.execSourceLate dt src s
  | .sourceEnable dt cls src => Sys2Proof.Machine.execSourceEnable dt cls src s
  | .sourceDisable dt cls src => Sys2Proof.Machine.execSourceDisable dt cls src s
  | .ringTailWrite dt cls ring v => Sys2Proof.Machine.execRingTailWrite dt cls ring v s
  | .accessUnitSelect dt eng head => Sys2Proof.Machine.execAccessUnitSelect dt eng head s
  | .ctuRowDone dt eng row => Sys2Proof.Machine.execCtuRowDone dt eng row s
  | .accessUnitDone dt eng fin => Sys2Proof.Machine.execAccessUnitDone dt eng fin s
  | .decodeWatchdog dt eng fin => Sys2Proof.Machine.execDecodeWatchdog dt eng fin s
  | .decoderEnable dt cls eng => Sys2Proof.Machine.execDecoderEnable dt cls eng s
  | .decoderStop dt cls eng => Sys2Proof.Machine.execDecoderStop dt cls eng s
  | .bandComposeStart dt h band errors => Sys2Proof.Machine.execBandComposeStart dt h band errors s
  | .bandComposeDone dt h band => Sys2Proof.Machine.execBandComposeDone dt h band s
  | .commitInstant dt cru grp => Sys2Proof.Machine.execCommitInstant dt cru grp s
  | .headSlotEnable dt cls cru slot => Sys2Proof.Machine.execHeadSlotEnable dt cls cru slot s
  | .writebackEnable dt cls cru => Sys2Proof.Machine.execWritebackEnable dt cls cru s
  | .writebackFrameReady dt cru failed => Sys2Proof.Machine.execWritebackFrameReady dt cru failed s
  | .bandCheck dt h band complete => Sys2Proof.Machine.execBandCheck dt h band complete s
  | .fettlerHeadEnable dt cls h => Sys2Proof.Machine.execFettlerHeadEnable dt cls h s
  | .markReadback dt h read => Sys2Proof.Machine.execMarkReadback dt h read s
  | .rearm dt cls h => Sys2Proof.Machine.execRearm dt cls h s
  | .dimRequest dt cls h req => Sys2Proof.Machine.execDimRequest dt cls h req s
  | .freezeTick dt => Sys2Proof.Machine.execFreezeTick dt s
  | .regionSignatureCompare dt win => Sys2Proof.Machine.execRegionSignatureCompare dt win s
  | .videoPacketSend dt h => Sys2Proof.Machine.execVideoPacketSend dt h s
  | .livenessPacketSend dt h => Sys2Proof.Machine.execLivenessPacketSend dt h s
  | .streamEnable dt cls h => Sys2Proof.Machine.execStreamEnable dt cls h s
  | .pathLinkDown dt h path => Sys2Proof.Machine.execPathLinkDown dt h path s
  | .pathLinkResume dt h path => Sys2Proof.Machine.execPathLinkResume dt h path s
  | .encodeStreamEnable dt cls enc stream => Sys2Proof.Machine.execEncodeStreamEnable dt cls enc stream s
  | .idrReq dt cls enc stream => Sys2Proof.Machine.execIdrReq dt cls enc stream s
  | .encoderStop dt cls enc => Sys2Proof.Machine.execEncoderStop dt cls enc s
  | .encodeSelect dt enc => Sys2Proof.Machine.execEncodeSelect dt enc s
  | .encodeFrameStart dt enc headBits errors => Sys2Proof.Machine.execEncodeFrameStart dt enc headBits errors s
  | .encodeRowDone dt enc row => Sys2Proof.Machine.execEncodeRowDone dt enc row s
  | .encodeFrameDone dt enc lead code => Sys2Proof.Machine.execEncodeFrameDone dt enc lead code s
  | .pairLinkChange dt lanes => Sys2Proof.Machine.execPairLinkChange dt lanes s
  | .joinWaitExpiry dt => Sys2Proof.Machine.execJoinWaitExpiry dt s
  | .tokenAcquire dt => Sys2Proof.Machine.execTokenAcquire dt s
  | .referenceTick dt => Sys2Proof.Machine.execReferenceTick dt s
  | .healthReportSend dt => Sys2Proof.Machine.execHealthReportSend dt s
  | .pairHealth dt report => Sys2Proof.Machine.execPairHealth dt report s
  | .pairSwitch dt active frame => Sys2Proof.Machine.execPairSwitch dt active frame s
  | .pairHeat dt num epoch corrections => Sys2Proof.Machine.execPairHeat dt num epoch corrections s
  | .pairSeal dt h frame band check => Sys2Proof.Machine.execPairSeal dt h frame band check s
  | .sealUnpaired dt h => Sys2Proof.Machine.execSealUnpaired dt h s
  | .voteFrame dt pos h frame band check => Sys2Proof.Machine.execVoteFrame dt pos h frame band check s
  | .pairVote dt pos h frame band check => Sys2Proof.Machine.execPairVote dt pos h frame band check s
  | .voteTimeout dt h => Sys2Proof.Machine.execVoteTimeout dt h s
  | .pairLoss dt src rtpts lost tooMany => Sys2Proof.Machine.execPairLoss dt src rtpts lost tooMany s
  | .pairReady dt src rtpts ptp => Sys2Proof.Machine.execPairReady dt src rtpts ptp s
  | .agreeWaitExpiry dt src => Sys2Proof.Machine.execAgreeWaitExpiry dt src s
  | .mirroredWrite dt cls addr v => Sys2Proof.Machine.execMirroredWrite dt cls addr v s
  | .pairJournal dt addr v group frame => Sys2Proof.Machine.execPairJournal dt addr v group frame s
  | .pairDim dt h req frame => Sys2Proof.Machine.execPairDim dt h req frame s
  | .pairRepairRequest dt src seq => Sys2Proof.Machine.execPairRepairRequest dt src seq s
  | .pairRepairAnswer dt src seq packet => Sys2Proof.Machine.execPairRepairAnswer dt src seq packet s
  | .pairCopy dt images => Sys2Proof.Machine.execPairCopy dt images s
  | .pairCopyEnd dt frame => Sys2Proof.Machine.execPairCopyEnd dt frame s
  | .rejoinLockReached dt => Sys2Proof.Machine.execRejoinLockReached dt s
  | .pairDesk dt baselines => Sys2Proof.Machine.execPairDesk dt baselines s
  | .switchTake dt cls => Sys2Proof.Machine.execSwitchTake dt cls s
  | .switchYield dt cls => Sys2Proof.Machine.execSwitchYield dt cls s
  | .wardenWatchdogKick dt cls => Sys2Proof.Machine.execWardenWatchdogKick dt cls s
  | .wardenWatchdogExpiry dt => Sys2Proof.Machine.execWardenWatchdogExpiry dt s
  | .laneUp dt lane => Sys2Proof.Machine.execLaneUp dt lane s
  | .laneDown dt lane cause => Sys2Proof.Machine.execLaneDown dt lane cause s
  | .pllUnlocked dt quad refActive => Sys2Proof.Machine.execPllUnlocked dt quad refActive s
  | .macFrameReceive dt lane frame fcsOk => Sys2Proof.Machine.execMacFrameReceive dt lane frame fcsOk s
  | .filterEntryApply dt cls quad entry v => Sys2Proof.Machine.execFilterEntryApply dt cls quad entry v s
  | .macTransmit dt lane => Sys2Proof.Machine.execMacTransmit dt lane s
  | .sprueLinkEnable dt cls link => Sys2Proof.Machine.execSprueLinkEnable dt cls link s
  | .cap dt link lane cap => Sys2Proof.Machine.execCap dt link lane cap s
  | .go dt link => Sys2Proof.Machine.execGo dt link s
  | .blindTimeout dt link => Sys2Proof.Machine.execBlindTimeout dt link s
  | .negotiationTimeout dt link => Sys2Proof.Machine.execNegotiationTimeout dt link s
  | .rateStepFailed dt link => Sys2Proof.Machine.execRateStepFailed dt link s
  | .refusedRetry dt link => Sys2Proof.Machine.execRefusedRetry dt link s
  | .laneAlignChange dt link lane aligned => Sys2Proof.Machine.execLaneAlignChange dt link lane aligned s
  | .sprueLinkDown dt link => Sys2Proof.Machine.execSprueLinkDown dt link s
  | .sprueFrameReceive dt link crcOk chan seq ack dest body => Sys2Proof.Machine.execSprueFrameReceive dt link crcOk chan seq ack dest body s
  | .nak dt link expected => Sys2Proof.Machine.execNak dt link expected s
  | .ack dt link last => Sys2Proof.Machine.execAck dt link last s
  | .replayTimeout dt link => Sys2Proof.Machine.execReplayTimeout dt link s
  | .sprueLaneDown dt link lane => Sys2Proof.Machine.execSprueLaneDown dt link lane s
  | .sprueLaneUp dt link lane => Sys2Proof.Machine.execSprueLaneUp dt link lane s
  | .shareEnable dt cls share => Sys2Proof.Machine.execShareEnable dt cls share s
  | .peerHead dt link pos src frame header sec ns age => Sys2Proof.Machine.execPeerHead dt link pos src frame header sec ns age s
  | .peerData dt link pos src frame off rows rowmark octets => Sys2Proof.Machine.execPeerData dt link pos src frame off rows rowmark octets s
  | .peerEnd dt link pos src frame header => Sys2Proof.Machine.execPeerEnd dt link pos src frame header s
  | .peerAbandon dt link pos src frame => Sys2Proof.Machine.execPeerAbandon dt link pos src frame s
  | .timeExchange dt link => Sys2Proof.Machine.execTimeExchange dt link s
  | .timeBlock dt link count => Sys2Proof.Machine.execTimeBlock dt link count s
  | .timeFollowUp dt link count t1 t4 srv => Sys2Proof.Machine.execTimeFollowUp dt link count t1 t4 srv s
  | .cageScan dt inputs => Sys2Proof.Machine.execCageScan dt inputs s
  | .dramRequest dt port part h addr op => Sys2Proof.Machine.execDramRequest dt port part h addr op s
  | .urgencyEval dt => Sys2Proof.Machine.execUrgencyEval dt s
  | .dramRequestComplete dt sub corrected bad sampled => Sys2Proof.Machine.execDramRequestComplete dt sub corrected bad sampled s
  | .refresh dt => Sys2Proof.Machine.execRefresh dt s
  | .mr4Read dt readings => Sys2Proof.Machine.execMr4Read dt readings s
  | .pageIdleClose dt sub bank => Sys2Proof.Machine.execPageIdleClose dt sub bank s
  | .rdgWindowEnd dt => Sys2Proof.Machine.execRdgWindowEnd dt s
  | .throttleEnd dt port => Sys2Proof.Machine.execThrottleEnd dt port s
  | .channelService dt cls channel => Sys2Proof.Machine.execChannelService dt cls channel s
  | .trainedSet dt cls channel => Sys2Proof.Machine.execTrainedSet dt cls channel s
  | .memControllerDisable dt cls => Sys2Proof.Machine.execMemControllerDisable dt cls s
  | .comparatorRun dt cls channel => Sys2Proof.Machine.execComparatorRun dt cls channel s
  | .comparatorDone dt channel fail errs => Sys2Proof.Machine.execComparatorDone dt channel fail errs s
  | .modeRegisterAccess dt cls channel read rfm => Sys2Proof.Machine.execModeRegisterAccess dt cls channel read rfm s
  | .dramScrubRead dt corrected bad => Sys2Proof.Machine.execDramScrubRead dt corrected bad s
  | .sramScrub dt corrected bad => Sys2Proof.Machine.execSramScrub dt corrected bad s
  | .bitSetAliasWrite dt cls off v portB => Sys2Proof.Machine.execBitSetAliasWrite dt cls off v portB s
  | .bitClearAliasWrite dt cls off v portB => Sys2Proof.Machine.execBitClearAliasWrite dt cls off v portB s
  | .tamper dt => Sys2Proof.Machine.execTamper dt s
  | .secureWipeDone dt => Sys2Proof.Machine.execSecureWipeDone dt s
  | .clusterRunWrite dt cls cluster run => Sys2Proof.Machine.execClusterRunWrite dt cls cluster run s
  | .clusterWatchdogKick dt cls cluster => Sys2Proof.Machine.execClusterWatchdogKick dt cls cluster s
  | .clusterWatchdogExpiry dt cluster => Sys2Proof.Machine.execClusterWatchdogExpiry dt cluster s
  | .lockstepMismatch dt group count => Sys2Proof.Machine.execLockstepMismatch dt group count s
  | .selfCheckPeriod dt => Sys2Proof.Machine.execSelfCheckPeriod dt s
  | .selfCheckGo dt cls => Sys2Proof.Machine.execSelfCheckGo dt cls s
  | .selfCheckDone dt mask => Sys2Proof.Machine.execSelfCheckDone dt mask s
  | .mailboxRing dt cls cluster => Sys2Proof.Machine.execMailboxRing dt cls cluster s
  | .mbHello dt => Sys2Proof.Machine.execMbHello dt s
  | .mbRelease dt => Sys2Proof.Machine.execMbRelease dt s
  | .mbSwitch dt => Sys2Proof.Machine.execMbSwitch dt s
  | .mbFlask dt rules => Sys2Proof.Machine.execMbFlask dt rules s
  | .mbLogClear dt => Sys2Proof.Machine.execMbLogClear dt s
  | .mbSelfCheck dt => Sys2Proof.Machine.execMbSelfCheck dt s
  | .mbRepour dt => Sys2Proof.Machine.execMbRepour dt s
  | .remapSwap dt cls swap => Sys2Proof.Machine.execRemapSwap dt cls swap s
  | .portGate dt port => Sys2Proof.Machine.execPortGate dt port s
  | .flkCommit dt cls => Sys2Proof.Machine.execFlkCommit dt cls s
  | .flaskCommitInstant dt inflight => Sys2Proof.Machine.execFlaskCommitInstant dt inflight s
  | .flaskEpochAdvance dt => Sys2Proof.Machine.execFlaskEpochAdvance dt s
  | .panelEnable dt cls panel => Sys2Proof.Machine.execPanelEnable dt cls panel s
  | .deskScan dt panel counts => Sys2Proof.Machine.execDeskScan dt panel counts s
  | .deskIdleStep dt panel => Sys2Proof.Machine.execDeskIdleStep dt panel s
  | .stuck dt panel => Sys2Proof.Machine.execStuck dt panel s
  | .occlusionTimeout dt panel => Sys2Proof.Machine.execOcclusionTimeout dt panel s
  | .snapshotDue dt => Sys2Proof.Machine.execSnapshotDue dt s
  | .unplug dt panel => Sys2Proof.Machine.execUnplug dt panel s
  | .plug dt panel => Sys2Proof.Machine.execPlug dt panel s
  | .ingotStage dt => Sys2Proof.Machine.execIngotStage dt s
  | .batchTimeout dt => Sys2Proof.Machine.execBatchTimeout dt s
  | .ingotWrite dt ok => Sys2Proof.Machine.execIngotWrite dt ok s
  | .storeRebuild dt ident => Sys2Proof.Machine.execStoreRebuild dt ident s
  | .optimeTick dt => Sys2Proof.Machine.execOptimeTick dt s
  | .powerFailFlush dt good => Sys2Proof.Machine.execPowerFailFlush dt good s
  | .pfailRise dt => Sys2Proof.Machine.execPfailRise dt s
  | .cursorOldest dt cls => Sys2Proof.Machine.execCursorOldest dt cls s
  | .cursorNewest dt cls => Sys2Proof.Machine.execCursorNewest dt cls s
  | .cursorFirstOfPcyc dt cls pcyc => Sys2Proof.Machine.execCursorFirstOfPcyc dt cls pcyc s
  | .stepNewer dt cls => Sys2Proof.Machine.execStepNewer dt cls s
  | .stepOlder dt cls => Sys2Proof.Machine.execStepOlder dt cls s
  | .cursorMoveDone dt => Sys2Proof.Machine.execCursorMoveDone dt s
  | .clearKeyWrite dt cls v => Sys2Proof.Machine.execClearKeyWrite dt cls v s
  | .blackBoxClear dt => Sys2Proof.Machine.execBlackBoxClear dt s
  | .logSubmit dt cls k => Sys2Proof.Machine.execLogSubmit dt cls k s
  | .assayScan dt cls unit cont => Sys2Proof.Machine.execAssayScan dt cls unit cont s
  | .assayScanDone dt unit bad => Sys2Proof.Machine.execAssayScanDone dt unit bad s
  | .resetAssert dt => Sys2Proof.Machine.execResetAssert dt s
  | .resetRelease dt unit pos powerOn => Sys2Proof.Machine.execResetRelease dt unit pos powerOn s
  | .copyVerify dt size octal err => Sys2Proof.Machine.execCopyVerify dt size octal err s
  | .imageRun dt sect => Sys2Proof.Machine.execImageRun dt sect s
  | .imagePoll dt sect => Sys2Proof.Machine.execImagePoll dt sect s
  | .pollTimeout dt sect => Sys2Proof.Machine.execPollTimeout dt sect s
  | .imageDelay dt sect => Sys2Proof.Machine.execImageDelay dt sect s
  | .delayEnd dt sect => Sys2Proof.Machine.execDelayEnd dt sect s
  | .imageKeys dt sect => Sys2Proof.Machine.execImageKeys dt sect s
  | .sectionEnd dt sect => Sys2Proof.Machine.execSectionEnd dt sect s
  | .firstLight dt => Sys2Proof.Machine.execFirstLight dt s
  | .dramStage dt rejected failed => Sys2Proof.Machine.execDramStage dt rejected failed s
  | .sealStart dt cls => Sys2Proof.Machine.execSealStart dt cls s
  | .repourBegin dt => Sys2Proof.Machine.execRepourBegin dt s
  | .trialEnd dt => Sys2Proof.Machine.execTrialEnd dt s
  | .xspRead dt cls => Sys2Proof.Machine.execXspRead dt cls s
  | .xspProgram dt cls => Sys2Proof.Machine.execXspProgram dt cls s
  | .xspErase4k dt cls => Sys2Proof.Machine.execXspErase4k dt cls s
  | .xspErase64k dt cls => Sys2Proof.Machine.execXspErase64k dt cls s
  | .flashOpDone dt err => Sys2Proof.Machine.execFlashOpDone dt err s
  | .mgtFrameReceive dt bytes slot => Sys2Proof.Machine.execMgtFrameReceive dt bytes slot s
  | .shopOpen dt req nonce session => Sys2Proof.Machine.execShopOpen dt req nonce session s
  | .shopClose dt => Sys2Proof.Machine.execShopClose dt s
  | .shopHealth dt => Sys2Proof.Machine.execShopHealth dt s
  | .shopRegRead dt req => Sys2Proof.Machine.execShopRegRead dt req s
  | .shopRegWrite dt req => Sys2Proof.Machine.execShopRegWrite dt req s
  | .shopCommit dt scene => Sys2Proof.Machine.execShopCommit dt scene s
  | .shopLogRead dt req => Sys2Proof.Machine.execShopLogRead dt req s
  | .shopLogClear dt keys => Sys2Proof.Machine.execShopLogClear dt keys s
  | .shopFlashErase dt req => Sys2Proof.Machine.execShopFlashErase dt req s
  | .shopFlashWrite dt req => Sys2Proof.Machine.execShopFlashWrite dt req s
  | .shopFlashRead dt req => Sys2Proof.Machine.execShopFlashRead dt req s
  | .shopRepour dt req => Sys2Proof.Machine.execShopRepour dt req s
  | .sessionIdleTimeout dt => Sys2Proof.Machine.execSessionIdleTimeout dt s
  | .smbusIdentity dt => Sys2Proof.Machine.execSmbusIdentity dt s
  | .smbusStatus dt => Sys2Proof.Machine.execSmbusStatus dt s
  | .smbusTemperature dt => Sys2Proof.Machine.execSmbusTemperature dt s
  | .smbusLastFault dt => Sys2Proof.Machine.execSmbusLastFault dt s
  | .smbusHealthReport dt => Sys2Proof.Machine.execSmbusHealthReport dt s
  | .smbusWrite dt => Sys2Proof.Machine.execSmbusWrite dt s
  | .uartInput dt bytes => Sys2Proof.Machine.execUartInput dt bytes s
  | .jtagBypass dt => Sys2Proof.Machine.execJtagBypass dt s
  | .jtagIdcode dt => Sys2Proof.Machine.execJtagIdcode dt s
  | .jtagSamplePreload dt pins load => Sys2Proof.Machine.execJtagSamplePreload dt pins load s
  | .jtagExtest dt => Sys2Proof.Machine.execJtagExtest dt s
  | .brownout dt good => Sys2Proof.Machine.execBrownout dt good s
  | .domainRequest dt cls v => Sys2Proof.Machine.execDomainRequest dt cls v s
  | .domainSwitchOff dt domain took => Sys2Proof.Machine.execDomainSwitchOff dt domain took s
  | .domainSwitchOn dt domain took => Sys2Proof.Machine.execDomainSwitchOn dt domain took s
  | .temperatureSample dt tj => Sys2Proof.Machine.execTemperatureSample dt tj s
  | .thermalRestart dt => Sys2Proof.Machine.execThermalRestart dt s
  | .lifeCycleAdvance dt cls => Sys2Proof.Machine.execLifeCycleAdvance dt cls s
  | .registerRead dt cls addr ecc => Sys2Proof.Machine.execRegisterRead dt cls addr ecc s
  | .tokenLineChange dt low => Sys2Proof.Machine.execTokenLineChange dt low s
  | .pllLocked dt quad => Sys2Proof.Machine.execPllLocked dt quad s
  | .mgtLinkChange dt up speed => Sys2Proof.Machine.execMgtLinkChange dt up speed s

end Sys2Proof.Machine
end

