-- ==== Sys2Proof/Machine/Step.lean ====
section
/-! DEFINITION. One step: the command at the front of the queue acts; an empty queue idles. -/

namespace Sys2Proof.Machine

open Sys2Proof

/-- Take the command at the front of the queue and carry it out on the state with the queue's rest. On an empty queue the
part idles: time passes only with commands (log 2). -/
def step (s : State) : Host.Outcome State Fault Refusal :=
  match s.pending with
  | [] => .next s
  | i :: rest => exec i { s with pending := rest }

/-- Put the command that a table word spells at the front of the queue; the table gives no row any bits, so no word spells a
command. -/
def State.withFetchWord (s : State) (nbits w : Nat) : State :=
  match decodeTableWord nbits w with
  | some i => { s with pending := i :: s.pending }
  | none => s

end Sys2Proof.Machine
end

