-- ==== Sys2Proof/Safety.lean ====
section
/-! DEFINITION. What every state of a run must satisfy: canonical memories, clocks in range, nothing left over from the
command before; and when an access to a register is let through. -/

namespace Sys2Proof.Machine

open Sys2Proof

/-- The clocks' fields are in range: 48-bit seconds, nanoseconds below 10⁹, fractions below 1 ns, 64-bit steady time
(R43, R44, R61). -/
def Clk.inRange (c : Clk) : Bool :=
  c.sec < 2 ^ 48 && c.ns < 1000000000 && c.frac < nsTick && c.steady < 2 ^ 64 * nsTick

/-- What a command leaves for itself only is empty between commands. -/
def Block.quiet (b : Block) : Bool := b.stores = [] && b.newPtp = none && !b.clkReset && b.readied = []

/-- The invariant of every step. -/
def State.Inv (s : State) : Prop := Memory.wf s.mem = true ∧ Clk.inRange s.clk = true ∧ Block.quiet s.blk = true

/-! ## Accesses that are let through -/

/-- No rule keeps the register word at offset `p` of the peripheral windows for the Warden, for another cluster or for
cluster 3, and a submit block is the class's own (R32, R390, R391, R512). -/
def mayWrite (cls p : Nat) : Bool :=
  !foreignSubmit cls p && (cls = 0 || !foreignBlock cls p && (regAt p).all (fun q => !q.1.warden) && (p ≠ F.PWR_DOM_REQ_REQ.addr || cls = 4))

/-- A write by class `cls` of the register word at offset `p` of the peripheral windows is let through: the part is out of
reset, the initiator issues accesses (R384, R388, R392), the Flask's slot of the window grants it (R406), and no rule keeps
the register for another initiator. -/
abbrev Writable (s : State) (cls p : Nat) : Prop :=
  s.blk.hold = .none ∧ issues s.blk cls = true ∧ periphOk s.blk cls (p / 0x10000) true = true ∧ mayWrite cls p = true

/-- A read by class `cls` of the register word at offset `p` of the peripheral windows is let through. -/
abbrev Readable (s : State) (cls p : Nat) : Prop :=
  s.blk.hold = .none ∧ issues s.blk cls = true ∧ periphOk s.blk cls (p / 0x10000) false = true ∧ foreignBlock cls p = false ∧
    foreignSubmit cls p = false

/-- No write to window `w` waits: of class L, of class F, or in the journal (R14, R292). -/
abbrev Calm (s : State) (w : Nat) : Prop :=
  (∀ q ∈ s.blk.pendL, q.addr / 0x10000 ≠ w) ∧ (∀ q ∈ s.blk.pendF, q.addr / 0x10000 ≠ w) ∧
    ∀ e ∈ s.blk.pair.journal, e.addr / 0x10000 ≠ w

end Sys2Proof.Machine
end

