-- ==== Sys2Proof/Certificates/Slice0/Obligations.lean ====
section
/-! DEFINITION. The statements for the provers. Each says what a command of the part does, on every state and operands that
meet its hypotheses; a command's statement concludes with the next state that exec answers. `s.pass dt` is the state `dt`
cycles later, before the command acts. -/

open Sys2Proof Sys2Proof.Machine

/-- A command's frame: its time passes, no byte of memory changes, and no register outside the windows `ws` does. -/
def Claims.within (s t : State) (dt : Nat) (ws : List Nat) : Prop :=
  t.clk = (s.pass dt).clk ∧ t.mem = s.mem ∧ ∀ a, a / 0x10000 ∉ ws → t.blk.reg a = s.blk.reg a

/-- A command's frame in `within`, with no record made and nothing sent. -/
def Claims.only (s t : State) (dt : Nat) (ws : List Nat) : Prop :=
  Claims.within s t dt ws ∧ t.blk.evq = s.blk.evq ∧ t.blk.out = s.blk.out

/-- The records that a command makes have the codes `l`, in order. -/
def Claims.records (s t : State) (l : List Nat) : Prop := t.blk.evq.map (·.code) = s.blk.evq.map (·.code) ++ l

/-- A step takes the command at the front of the queue and runs it on the state with the queue's rest; an empty queue
idles, which is the model's choice (log 2). -/
def Obligations.StepRunsFrontCommand : Prop :=
  (∀ (c : Instr) (rest : List Instr) (s : State), step { s with pending := c :: rest } = exec c { s with pending := rest }) ∧
  ∀ s : State, step { s with pending := [] } = .next { s with pending := [] }

/-- The state after reset meets the invariant, and no command waits. -/
def Obligations.ResetStateMeetsInvariant : Prop := State.Inv State.reset ∧ State.reset.pending = []

/-- Every step, whatever command it runs, keeps the invariant: the memories stay canonical, the PTP clock never reads 10⁹ ns
or more and stays within 48 bits of seconds (R44), the steady clock within 64 bits of nanoseconds (R61), and no store, clock
setting or reset of the command before is left over. -/
def Obligations.EveryStepKeepsInvariant : Prop :=
  ∀ s t : State, State.Inv s → step s = .next t → State.Inv t

/-- No command ends in a fault or a refusal, and none touches the queue. -/
def Obligations.EveryCommandAnswersAndKeepsQueue : Prop :=
  ∀ (i : Instr) (s : State), ∃ t : State, exec i s = .next t ∧ t.pending = s.pending

/-- SNAPSHOT_TAKE (R47): the snapshot registers take the PTP clock and the steady clock of one cycle; nothing else
changes. -/
def Obligations.SnapshotCopiesBothClocks : Prop :=
  ∀ (dt : Nat) (cls : Cls) (s : State), Writable s cls F.TIM_SNAP_TAKE.addr → Calm s 4 → s.blk.quiet = true →
    ∃ t : State, exec (.snapshotTake dt cls) s = .next t ∧
      t.blk.get F.TIM_SNAP_NS_NS = (s.pass dt).clk.ns ∧
      t.blk.get2 F.TIM_SNAP_SEC_LO_SEC_LO F.TIM_SNAP_SEC_HI_SEC_HI = (s.pass dt).clk.sec ∧
      t.blk.get F.TIM_SNAP_SEC_HI_FRAC = (s.pass dt).clk.frac / 2 ^ 24 ∧
      t.blk.get2 F.TIM_SNAP_STEADY_LO_STEADY_LO F.TIM_SNAP_STEADY_HI_STEADY_HI = (s.pass dt).clk.steady / nsTick ∧
      (∀ a, a ∉ [0x40014, 0x40018, 0x4001C, 0x40020, 0x40024, 0x20000] → t.blk.reg a = s.blk.reg a) ∧
      t.clk = (s.pass dt).clk ∧ t.mem = s.mem ∧ t.blk.evq = s.blk.evq

/-- PTP_SET (R44, R48, R81): the set is a step, counted and recorded; the steady clock, the rate trim and the integral are
untouched (R61), and the servo leaves LOCKED for ACQUIRE. More than 999,999,999 ns are ignored with WIGN. -/
def Obligations.PtpSetIsAStep : Prop :=
  ∀ (dt : Nat) (cls : Cls) (secHi ns lo : Word) (s : State), Writable s cls F.TIM_SET_SEC_HI_SEC_HI.addr → Calm s 4 →
    s.blk.quiet = true → s.blk.stage.lookup F.TIM_SET_NS_NS.addr = some ns →
    s.blk.stage.lookup F.TIM_SET_SEC_LO_SEC_LO.addr = some lo → ns.toNat < 2 ^ 30 →
    (ns.toNat ≤ 999999999 →
      ∃ t : State, exec (.ptpSet dt cls secHi) s = .next t ∧
        t.clk.sec = lo.toNat + 2 ^ 32 * (secHi.toNat % 2 ^ 16) ∧ t.clk.ns = ns.toNat ∧ t.clk.frac = 0 ∧
        t.clk.steady = (s.pass dt).clk.steady ∧
        t.blk.get F.TIM_STEP_CNT_CNT = (s.blk.get F.TIM_STEP_CNT_CNT + 1) % 2 ^ 32 ∧
        t.blk.get F.TIM_STAT_STEP_GEN = t.blk.get F.TIM_STEP_CNT_CNT % 4 ∧
        ((t.blk.get2 F.TIM_LAST_STEP_LO_STEP_LO F.TIM_LAST_STEP_HI_STEP_HI : Nat) : Int) =
          (((t.clk.sec * 1000000000 + t.clk.ns : Nat) : Int) -
            (((s.pass dt).clk.sec * 1000000000 + (s.pass dt).clk.ns : Nat) : Int)) % 2 ^ 64 ∧
        t.blk.on F.TIM_EVT_STEP = true ∧
        t.blk.evq = s.blk.evq ++ [{ code := 0x0401, sev := 4, origin := 4, p0 := BitVec.ofNat 32 (s.pass dt).clk.sec,
                                    p1 := BitVec.ofNat 32 (s.pass dt).clk.ns, p2 := BitVec.ofNat 32 t.clk.sec,
                                    p3 := BitVec.ofNat 32 t.clk.ns }] ∧
        t.blk.get F.TIM_STAT_SRV =
          (if s.blk.get F.TIM_STAT_SRV = srvLocked then srvAcquire else s.blk.get F.TIM_STAT_SRV) ∧
        t.blk.reg F.TIM_RATE_RATE.addr = s.blk.reg F.TIM_RATE_RATE.addr ∧
        t.blk.reg F.TIM_SRV_INTEG_INTEG.addr = s.blk.reg F.TIM_SRV_INTEG_INTEG.addr ∧
        t.mem = s.mem ∧ ∀ a, a / 0x10000 ≠ 4 → a / 0x10000 ≠ 2 → t.blk.reg a = s.blk.reg a) ∧
    (999999999 < ns.toNat →
      ∃ t : State, exec (.ptpSet dt cls secHi) s = .next t ∧ t.clk = (s.pass dt).clk ∧ t.blk.on F.TIM_EVT_WIGN = true ∧
        t.blk.get F.TIM_STEP_CNT_CNT = s.blk.get F.TIM_STEP_CNT_CNT ∧ t.blk.evq = s.blk.evq)

/-- What the servo keeps from update to update (R57). -/
structure Claims.Servo where
  st : Nat
  good : Nat
  integ : Int
  rate : Int
  /-- The offset by which the PTP clock steps back. -/
  step : Option Int
deriving DecidableEq, Repr

/-- R57's program, line by line; a threshold of 0x7FFF_FFFF disables steps (table TIM_SRV_STEP). -/
def Claims.servoProgram (b : Block) (o : Int) (x : Claims.Servo) : Claims.Servo :=
  let clamp (l : Int) (v : Int) : Int := if v < -l then -l else if l < v then l else v
  let thresh : Int := b.get F.TIM_SRV_STEP_THRESH
  let rlim : Int := b.get F.TIM_SRV_RLIM_RLIM
  let lockNs : Int := b.get F.TIM_SRV_LOCK_LOCK_NS
  if thresh < |o| ∧ thresh ≠ 0x7FFFFFFF then { x with st := 1, good := 0, step := some o }
  else
    let kp : Int := if x.st = 1 then b.get F.TIM_SRV_GAIN_ACQ_KP else b.get F.TIM_SRV_GAIN_KP
    let ki : Int := if x.st = 1 then b.get F.TIM_SRV_GAIN_ACQ_KI else b.get F.TIM_SRV_GAIN_KI
    let oc := clamp (2 ^ 31 - 1) o
    let integ := clamp rlim (x.integ + oc * ki / 256)
    let rate := clamp rlim (-(oc * kp / 256 + integ))
    let good := if |o| ≤ lockNs then x.good + 1 else 0
    let st1 := if x.st = 1 ∧ b.get F.TIM_SRV_LOCK_LOCK_CNT ≤ good then 2 else x.st
    let lost := st1 = 2 ∧ 4 * lockNs < |o|
    let st2 := if lost then 1 else st1
    { st := if st2 = 0 ∨ st2 = 3 then 1 else st2, good := if lost then 0 else good, integ := integ, rate := rate,
      step := none }

/-- SERVO_UPDATE (R56, R57) is R57's program; an update that R60 ignores sets WIGN and changes nothing of the servo. -/
def Obligations.ServoUpdateFollowsItsProgram : Prop :=
  ∀ (dt : Nat) (cls : Cls) (hi lo : Word) (s : State), Writable s cls F.TIM_SRV_OFS_HI_OFS_HI.addr → Calm s 4 →
    s.blk.quiet = true → s.blk.stage.lookup F.TIM_SRV_OFS_LO_OFS_LO.addr = some lo →
    let o : Int := toSigned 64 (lo.toNat + 2 ^ 32 * hi.toNat)
    let x : Claims.Servo := {
      st := s.blk.get F.TIM_STAT_SRV, good := s.blk.tim.good, integ := s.blk.geti F.TIM_SRV_INTEG_INTEG,
      rate := s.blk.geti F.TIM_RATE_RATE, step := none }
    let y := Claims.servoProgram s.blk o x
    (s.blk.on F.TIM_CTL_SRV_EN = true → s.blk.on F.TIM_CTL_HOLD = false →
      ∃ t : State, exec (.servoUpdate dt cls hi) s = .next t ∧
        t.blk.get F.TIM_STAT_SRV = y.st ∧ t.blk.tim.good = y.good ∧ t.blk.geti F.TIM_SRV_INTEG_INTEG = y.integ ∧
        t.blk.geti F.TIM_RATE_RATE = y.rate ∧
        t.clk = (match y.step with
          | none => (s.pass dt).clk
          | some d => (s.pass dt).clk.ofPtp (((s.pass dt).clk.ptp : Int) - d * nsTick).toNat) ∧
        t.clk.steady = (s.pass dt).clk.steady ∧
        t.blk.get F.TIM_STEP_CNT_CNT =
          (if y.step = none then s.blk.get F.TIM_STEP_CNT_CNT else (s.blk.get F.TIM_STEP_CNT_CNT + 1) % 2 ^ 32) ∧
        t.mem = s.mem) ∧
    (s.blk.on F.TIM_CTL_SRV_EN = false ∨ s.blk.on F.TIM_CTL_HOLD = true →
      ∃ t : State, exec (.servoUpdate dt cls hi) s = .next t ∧ t.blk.on F.TIM_EVT_WIGN = true ∧
        t.blk.get F.TIM_STAT_SRV = x.st ∧ t.blk.tim.good = x.good ∧ t.blk.geti F.TIM_SRV_INTEG_INTEG = x.integ ∧
        t.blk.geti F.TIM_RATE_RATE = x.rate ∧ t.clk = (s.pass dt).clk)

/-- What the servo's other commands leave alone: the rate trim, the integral, both clocks, memory (R58-R60). -/
def Claims.servoKept (s t : State) (dt : Nat) : Prop :=
  t.blk.reg F.TIM_RATE_RATE.addr = s.blk.reg F.TIM_RATE_RATE.addr ∧
    t.blk.reg F.TIM_SRV_INTEG_INTEG.addr = s.blk.reg F.TIM_SRV_INTEG_INTEG.addr ∧ t.clk = (s.pass dt).clk ∧ t.mem = s.mem

/-- SERVO_ENABLE_WRITE, SERVO_HOLD_WRITE, MASTER_CHANGE, HOLDOVER_TIMEOUT (R58-R60). -/
def Obligations.ServoChangesState : Prop :=
  ∀ (dt : Nat) (cls : Cls) (s : State), s.blk.quiet = true → Calm s 4 →
    (Writable s cls F.TIM_CTL_SRV_EN.addr →
      (∃ t : State, exec (.servoEnableWrite dt cls false) s = .next t ∧ t.blk.get F.TIM_STAT_SRV = srvFree ∧
        t.blk.on F.TIM_CTL_SRV_EN = false ∧ Claims.servoKept s t dt) ∧
      (s.blk.on F.TIM_CTL_HOLD = true →
        ∃ t : State, exec (.servoEnableWrite dt cls true) s = .next t ∧ t.blk.get F.TIM_STAT_SRV = srvHoldover ∧
          Claims.servoKept s t dt) ∧
      (s.blk.on F.TIM_CTL_SRV_EN = true →
        ∃ t : State, exec (.servoHoldWrite dt cls true) s = .next t ∧ t.blk.get F.TIM_STAT_SRV = srvHoldover ∧
          t.blk.on F.TIM_CTL_HOLD = true ∧ Claims.servoKept s t dt)) ∧
    (Writable s cls F.TIM_MASTER_NEW.addr →
      ∃ t : State, exec (.masterChange dt cls) s = .next t ∧ Claims.servoKept s t dt ∧
        (s.blk.get F.TIM_STAT_SRV = srvAcquire ∨ s.blk.get F.TIM_STAT_SRV = srvLocked →
          t.blk.get F.TIM_STAT_SRV = srvAcquire ∧ t.blk.tim.good = 0 ∧ t.blk.evq.map (·.code) = s.blk.evq.map (·.code) ++ [0x0404]) ∧
        (s.blk.get F.TIM_STAT_SRV = srvFree ∨ s.blk.get F.TIM_STAT_SRV = srvHoldover →
          t.blk.get F.TIM_STAT_SRV = s.blk.get F.TIM_STAT_SRV ∧ t.blk.on F.TIM_EVT_WIGN = true ∧ t.blk.evq = s.blk.evq)) ∧
    (s.blk.hold = .none →
      ∃ t : State, exec (.holdoverTimeout dt) s = .next t ∧ Claims.servoKept s t dt ∧
        (s.blk.get F.TIM_STAT_SRV = srvAcquire ∨ s.blk.get F.TIM_STAT_SRV = srvLocked →
          s.blk.tim.since + s.blk.get F.TIM_SRV_HOLD_HOLD_MS * msTick ≤ (s.pass dt).clk.steady →
          t.blk.get F.TIM_STAT_SRV = srvHoldover ∧ t.blk.on F.TIM_EVT_HOLD_IN = true) ∧
        ((s.pass dt).clk.steady < s.blk.tim.since + s.blk.get F.TIM_SRV_HOLD_HOLD_MS * msTick → t.blk.regs = s.blk.regs))

/-- The format of a head keeps R64: every region at least 1 line, at most 2160 active lines, at most 60 Hz. -/
def Claims.keepsR64 (b : Block) (h : Nat) : Prop :=
  let total := b.get F.TIM_HEAD_VLINES_TOTAL h
  let act := b.get F.TIM_HEAD_VLINES_ACT h
  let vfp := b.get F.TIM_HEAD_VBLANK_VFP h
  let vsy := b.get F.TIM_HEAD_VBLANK_VSY h
  let num := b.get F.TIM_HEAD_RATE_NUM h
  let den := b.get F.TIM_HEAD_RATE_DEN h
  1 ≤ vfp ∧ 1 ≤ vsy ∧ 1 ≤ (total : Int) - act - vfp - vsy ∧ act ≤ 2160 ∧ 1 ≤ num ∧ 1 ≤ den ∧ num ≤ 60 * den

/-- A(n) + OFS line periods is at or after PTP time `p` (R66): n × DEN / NUM seconds and OFS × DEN / (NUM × TOTAL) seconds,
multiplied out. -/
def Claims.alignedFrom (b : Block) (h : Nat) (p : Nat) (n : Nat) : Prop :=
  let total := b.get F.TIM_HEAD_VLINES_TOTAL h
  let num := b.get F.TIM_HEAD_RATE_NUM h
  let den := b.get F.TIM_HEAD_RATE_DEN h
  (p : Int) * (num * total) ≤ ((n : Int) * total + b.geti F.TIM_HEAD_ALIGN_OFS h) * den * sTick

/-- A command of the TIM block that leaves the clocks, memory and every register outside the windows of TIM and MTX
alone. -/
def Claims.timOnly (s t : State) (dt : Nat) : Prop :=
  t.clk = (s.pass dt).clk ∧ t.mem = s.mem ∧ ∀ a, a / 0x10000 ≠ 4 → a / 0x10000 ≠ 2 → t.blk.reg a = s.blk.reg a

/-- HEAD_ENABLE (R64, R65, R67; that the slot's limits are looked at again is the model's reading of R30, log 14) and
HEAD_DISABLE (R67). -/
def Obligations.HeadEnableStartsOrRefuses : Prop :=
  ∀ (dt : Nat) (cls : Cls) (h : Head) (s : State), Writable s cls (F.TIM_HEAD_CTL_EN.at h.val) → Calm s 4 →
    s.blk.quiet = true →
    ((s.blk.ras h.val).phase = .stopped →
      (Claims.keepsR64 s.blk h.val → (∀ q, s.blk.slotOf h.val = some q → (slotLimit s.blk q.1 q.2).1 = 0) →
        ∃ t : State, exec (.headEnable dt cls h) s = .next t ∧ t.blk.on F.TIM_HEAD_CTL_EN h.val = true ∧
          t.blk.on F.TIM_HEAD_STAT_RUN h.val = true ∧ t.blk.on F.TIM_HEAD_STAT_WAIT h.val = true ∧
          (t.blk.ras h.val).phase = .idle ∧
          Claims.alignedFrom s.blk h.val ((s.pass dt).clk.ptp + 200 * usTick) (t.blk.ras h.val).target ∧
          (∀ n, n < (t.blk.ras h.val).target →
            ¬ Claims.alignedFrom s.blk h.val ((s.pass dt).clk.ptp + 200 * usTick) n) ∧
          t.blk.evq = s.blk.evq ∧ Claims.timOnly s t dt) ∧
      (¬ Claims.keepsR64 s.blk h.val →
        ∃ t : State, exec (.headEnable dt cls h) s = .next t ∧ t.blk.on F.TIM_HEAD_CTL_EN h.val = false ∧
          (t.blk.ras h.val).phase = .stopped ∧ t.blk.on F.TIM_EVT_FMT_ERR = true ∧
          t.blk.evq = s.blk.evq ++ [{ code := 0x0408, sev := 3, origin := 4, p0 := BitVec.ofNat 32 h.val,
                                      p1 := s.blk.reg (F.TIM_HEAD_VLINES_ACT.at h.val),
                                      p2 := s.blk.reg (F.TIM_HEAD_VBLANK_VFP.at h.val),
                                      p3 := s.blk.reg (F.TIM_HEAD_RATE_NUM.at h.val) }] ∧
          Claims.timOnly s t dt) ∧
      (∀ q, Claims.keepsR64 s.blk h.val → s.blk.slotOf h.val = some q → (slotLimit s.blk q.1 q.2).1 ≠ 0 →
        ∃ t : State, exec (.headEnable dt cls h) s = .next t ∧ t.blk.on F.TIM_HEAD_CTL_EN h.val = false ∧
          (t.blk.ras h.val).phase = .stopped ∧ Claims.within s t dt [2, 4, 32 + q.1] ∧ Claims.records s t [0x2007])) ∧
    ((s.blk.ras h.val).phase = .running →
      ∃ t : State, exec (.headDisable dt cls h) s = .next t ∧ t.blk.on F.TIM_HEAD_CTL_EN h.val = false ∧
        (t.blk.ras h.val).phase = .running ∧ (t.blk.ras h.val).stopping = true ∧ Claims.timOnly s t dt) ∧
    ((s.blk.ras h.val).phase = .idle →
      ∃ t : State, exec (.headDisable dt cls h) s = .next t ∧ t.blk.on F.TIM_HEAD_CTL_EN h.val = false ∧
        t.blk.on F.TIM_HEAD_STAT_RUN h.val = false ∧ (t.blk.ras h.val).phase = .stopped ∧ Claims.timOnly s t dt)

/-- The phase error at ACT 0 in 1/256 line, rounded toward minus infinity (R69): PTP time less A(n) + OFS line periods. -/
def Claims.phaseError (b : Block) (h : Nat) (p n : Nat) : Int :=
  let total := b.get F.TIM_HEAD_VLINES_TOTAL h
  let num := b.get F.TIM_HEAD_RATE_NUM h
  let den := b.get F.TIM_HEAD_RATE_DEN h
  ((p : Int) * (num * total) - ((n : Int) * total + b.geti F.TIM_HEAD_ALIGN_OFS h) * den * sTick) * 256 / (den * sTick)

/-- ACT 0 of a frame has come: the counts, the phase error, and what R70 and R71 decide on it. -/
def Claims.frameStarts (s t : State) (dt h frame aidx : Nat) (repeated : Bool) : Prop :=
  let e := Claims.phaseError s.blk h (s.pass dt).clk.ptp aidx
  let frameLen : Int := 256 * s.blk.get F.TIM_HEAD_VLINES_TOTAL h
  let r := t.blk.ras h
  t.blk.frameOf h = frame % 2 ^ 48 ∧ t.blk.aidxOf h = aidx % 2 ^ 48 ∧
    ((t.blk.get F.TIM_HEAD_PHASE_E h : Nat) : Int) = e % 2 ^ 32 ∧ t.blk.on F.TIM_HEAD_STAT_SLEW h = decide (e ≠ 0) ∧
    t.blk.on F.TIM_HEAD_STAT_WAIT h = false ∧
    t.blk.on F.TIM_HEAD_STAT_RELOCK h = (decide (frameLen < |e|) || repeated) ∧
    r.phase = .running ∧ r.act0 = (s.pass dt).clk.steady ∧ r.relock = decide (frameLen < |e|) ∧
    (|e| ≤ frameLen → (0 ≤ e → r.slew = -(min e 32)) ∧ (e ≤ 0 → r.slew = min (-e) 32)) ∧
    (frameLen < |e| → r.slew = 0) ∧ t.clk = (s.pass dt).clk

/-- HEAD_FIRST_FRAME, FRAME_START, RELOCK_HOLD_END, BAND_TICK (R67-R71, R73) and POUR_MARK_UPDATE (R207). -/
def Obligations.FramesStartAtActZero : Prop :=
  ∀ (dt : Nat) (h : Head) (s : State), s.blk.hold = .none → s.blk.pendL = [] → s.blk.quiet = true →
    s.blk.pairMode = false →
    let r := s.blk.ras h.val
    let now := (s.pass dt).clk
    let f := s.blk.fmt h.val
    (r.phase = .idle → f.reached now r.target = true →
      ∃ t : State, exec (.headFirstFrame dt h) s = .next t ∧ Claims.frameStarts s t dt h.val 0 r.target false) ∧
    (r.phase = .running → lineReached f r now.steady f.total = true →
      (r.stopping = false → r.relock = false →
        ∃ t : State, exec (.frameStart dt h) s = .next t ∧
          Claims.frameStarts s t dt h.val (s.blk.frameOf h.val + 1) (s.blk.aidxOf h.val + 1) false) ∧
      (r.stopping = true →
        ∃ t : State, exec (.frameStart dt h) s = .next t ∧ (t.blk.ras h.val).phase = .stopped ∧
          t.blk.on F.TIM_HEAD_STAT_RUN h.val = false) ∧
      (r.stopping = false → r.relock = true →
        ∃ t : State, exec (.frameStart dt h) s = .next t ∧ (t.blk.ras h.val).phase = .hold ∧
          t.blk.on F.TIM_HEAD_STAT_WAIT h.val = true ∧ t.blk.frameOf h.val = s.blk.frameOf h.val)) ∧
    (r.phase = .hold → f.reached now r.target = true →
      ∃ t : State, exec (.relockHoldEnd dt h) s = .next t ∧ t.blk.on F.TIM_EVT_RELOCK = true ∧
        Claims.frameStarts s t dt h.val (s.blk.frameOf h.val + 1) r.target true) ∧
    (∀ band : Fin 135, r.phase = .running → r.ticks ≤ band.val → band.val < f.bands →
      lineReached f r now.steady (16 * band.val) = true →
      ∃ t : State, exec (.bandTick dt h band) s = .next t ∧ (t.blk.ras h.val).ticks = band.val + 1 ∧ t.clk = now ∧
        t.mem = s.mem ∧ t.blk.regs = s.blk.regs) ∧
    (r.phase = .running → lineReached f r now.steady f.act = true → r.poured = false → commitsBefore s.blk h.val 64 = true →
      ∃ t : State, exec (.pourMarkUpdate dt h) s = .next t ∧
        (t.blk.fet h.val).nextG = some (gray (indexAt s.blk h.val (s.blk.aidxOf h.val + 1))) ∧
        (t.blk.ras h.val).poured = true ∧ t.clk = now ∧ t.mem = s.mem ∧ t.blk.regs = s.blk.regs) ∧
    (r.poured = true ∨ commitsBefore s.blk h.val 64 = false →
      ∃ t : State, exec (.pourMarkUpdate dt h) s = .next t ∧ (t.blk.fet h.val).nextG = (s.blk.fet h.val).nextG ∧ t.clk = now ∧
        t.mem = s.mem ∧ t.blk.regs = s.blk.regs)

/-- CALENDAR_ENTRY_APPLY (R74, R75) and CALENDAR_FIRE (R74, R387). -/
def Obligations.CalendarEntriesAreCheckedAndFire : Prop :=
  ∀ (dt : Nat) (e : Fin 256) (s : State), s.blk.quiet = true →
    (∀ (cls : Cls) (pos v : Word), Writable s cls (F.TIM_CAL_ACT_EN.at e.val) → Calm s 4 →
      s.blk.stage.lookup (F.TIM_CAL_POS_HEAD.at e.val) = some pos →
      let head := F.TIM_CAL_POS_HEAD.of pos
      let inRegion := F.TIM_CAL_POS_LINE.of pos < (s.blk.fmt head).region (F.TIM_CAL_POS_REGION.of pos)
      let target := F.TIM_CAL_ACT_TARGET.of v
      let legal := target ∈ [0x05, 0x06, 0x14, 0x20, 0x21, 0x22, 0x23, 0x24, 0x30, 0x31, 0xF0, 0xF1, 0xF2, 0xF3, 0xF8]
      ∃ t : State, exec (.calendarEntryApply dt cls e v) s = .next t ∧ Claims.timOnly s t dt ∧
        t.blk.get F.TIM_CAL_POS_HEAD e.val = head ∧ t.blk.get F.TIM_CAL_POS_LINE e.val = F.TIM_CAL_POS_LINE.of pos ∧
        t.blk.get F.TIM_CAL_ACT_TARGET e.val = target ∧
        t.blk.get F.TIM_CAL_ACT_EVENT e.val = F.TIM_CAL_ACT_EVENT.of v ∧
        (inRegion ∧ legal → t.blk.get F.TIM_CAL_ACT_EN e.val = F.TIM_CAL_ACT_EN.of v ∧ t.blk.evq = s.blk.evq) ∧
        (¬ (inRegion ∧ legal) → t.blk.on F.TIM_CAL_ACT_EN e.val = false ∧ t.blk.on F.TIM_EVT_CAL_ERR = true ∧
          t.blk.evq.map (·.code) = s.blk.evq.map (·.code) ++ [0x0407])) ∧
    (s.blk.hold = .none →
      (calDue (s.pass dt).clk s.blk e.val = true → ∀ k : Fin 4, s.blk.get F.TIM_CAL_ACT_TARGET e.val = 0xF0 + k.val →
        ∃ t : State, exec (.calendarFire dt e) s = .next t ∧ t.clk = (s.pass dt).clk ∧ t.mem = s.mem ∧
          calDue t.clk t.blk e.val = false ∧
          t.blk.on F.TIM_CAL_ACT_EN e.val = !s.blk.on F.TIM_CAL_ACT_ONCE e.val ∧
          t.blk.on F.WDN_CL_CAUSE_PEND k.val = true ∧
          t.blk.get F.WDN_CL_CAUSE_EVENT k.val = s.blk.get F.TIM_CAL_ACT_EVENT e.val ∧
          (s.blk.on F.WDN_CL_CAUSE_PEND k.val = true → t.blk.on F.WDN_CL_CAUSE_LOST k.val = true)) ∧
      (s.blk.on F.TIM_CAL_ACT_EN e.val = false →
        ∃ t : State, exec (.calendarFire dt e) s = .next t ∧ t.blk.regs = s.blk.regs ∧ t.mem = s.mem))

/-- A running ST 2110-20 source that takes a packet of path `p.path` (R92-R96). -/
def Claims.takesVideo (s : State) (src : Src) (p : SrcPacket) : Prop :=
  s.blk.hold = .none ∧ s.blk.quiet = true ∧ s.blk.domOn 31 = true ∧ s.blk.srcRuns src.val = true ∧ s.blk.transport src.val = 2 ∧ (s.blk.src src.val).refused = false ∧
    bit (s.blk.get F.LAD_SRC_CTL_PATHS src.val) (b2n p.path) = true ∧ s.blk.on F.LAD_SRC_CTL_SSRC_EN src.val = false ∧
    p.layout.val < 4 ∧ p.full = false

/-- A number was lost in this cycle: a packet of the same cycle still brings it back (R101). -/
def Claims.justLost (s : State) (src : Src) (dt ext : Nat) : Prop :=
  (s.blk.src src.val).lostAt.1 = (s.pass dt).clk.steady ∧ ext ∈ (s.blk.src src.val).lostAt.2 ∧ ext ∈ (s.blk.src src.val).lostNums

/-- The held packet of a number that came on path B in this cycle (R100). -/
def Claims.heldOnB (s : State) (src : Src) (dt ext : Nat) : Option HeldPacket :=
  (s.blk.src src.val).held.find? fun g => g.ext = ext && g.pkt.path && g.steady = (s.pass dt).clk.steady && !g.repaired

/-- LADLE_PACKET (R98-R102). -/
def Obligations.PacketsMergeBySequenceNumber : Prop :=
  ∀ (dt : Nat) (src : Src) (p : SrcPacket) (h ext : Nat) (s : State), p.seq = BitVec.ofNat 32 ext →
    (Claims.takesVideo s src p → (s.blk.src src.val).highest = some h →
      (¬ Claims.justLost s src dt ext → h < ext → ext < h + 2 ^ 31 → p.runs.length ≤ 4 →
        (∀ r ∈ p.runs, r.row < s.blk.srcHeight src.val ∧ r.x + r.px.length ≤ s.blk.srcWidth src.val) →
        ∃ t : State, exec (.ladlePacket dt src (.media p)) s = .next t ∧ t.clk = (s.pass dt).clk ∧
          (t.blk.src src.val).highest = some ext ∧
          (t.blk.src src.val).gaps = (s.blk.src src.val).gaps ++
            (if h + 1 < ext then [{ lo := h + 1, n := ext - h - 1, since := (s.pass dt).clk.steady, repair := false }] else []) ∧
          (t.blk.src src.val).held = (s.blk.src src.val).held ++
            [{ pkt := p, ext := ext, stamp := BitVec.ofNat 32 ((s.pass dt).clk.sec % 4 * 2 ^ 30 + (s.pass dt).clk.ns),
               steady := (s.pass dt).clk.steady, gen := s.blk.get F.TIM_STAT_STEP_GEN, repaired := false, ringed := true,
               ring := none, readyAt := none }] ∧
          t.blk.on (if p.path then F.LAD_SRC_STAT_PATH_B else F.LAD_SRC_STAT_PATH_A) src.val = true) ∧
      (∀ lo since, (s.blk.src src.val).lowest = some (lo, since) → lo ≤ ext → ext ≤ h → h < ext + 4096 →
        (s.blk.src src.val).gaps.any (fun g => g.lo ≤ ext && ext < g.lo + g.n) = false → ¬ Claims.justLost s src dt ext →
        (∀ g, p.path = false → Claims.heldOnB s src dt ext = some g → g.ring = none →
          ∃ t : State, exec (.ladlePacket dt src (.media p)) s = .next t ∧ t.clk = (s.pass dt).clk ∧ t.mem = s.mem ∧
            (t.blk.src src.val).held = (s.blk.src src.val).held.map fun g => if g.ext = ext then { g with pkt := p } else g) ∧
        (p.path = true ∨ Claims.heldOnB s src dt ext = none →
        ∃ t : State, exec (.ladlePacket dt src (.media p)) s = .next t ∧ t.clk = (s.pass dt).clk ∧ t.mem = s.mem ∧
          (t.blk.src src.val).frames = (s.blk.src src.val).frames ∧ (t.blk.src src.val).gaps = (s.blk.src src.val).gaps ∧
          (t.blk.src src.val).held = (s.blk.src src.val).held ∧
          t.blk.on (if p.path then F.LAD_SRC_STAT_PATH_B else F.LAD_SRC_STAT_PATH_A) src.val = true)) ∧
      (ext + 4096 ≤ h → h < ext + 2 ^ 31 →
        ∃ t : State, exec (.ladlePacket dt src (.media p)) s = .next t ∧ t.clk = (s.pass dt).clk ∧
          (∃ a b : Tick, ∃ x y : Bool, t.blk.src src.val =
            { s.blk.src src.val with lastA := a, lastB := b, goneA := x, goneB := y }) ∧
          (if p.path then (t.blk.src src.val).lastB else (t.blk.src src.val).lastA) = (s.pass dt).clk.steady ∧
          t.blk.get F.LAD_SRC_LOSS_LATE src.val =
            min (2 ^ F.LAD_SRC_LOSS_LATE.width - 1) (s.blk.get F.LAD_SRC_LOSS_LATE src.val + 1))) ∧
    (s.blk.hold = .none → s.blk.quiet = true → s.blk.srcRuns src.val = false →
      ∃ t : State, exec (.ladlePacket dt src (.media p)) s = .next t ∧ t.blk.regs = s.blk.regs ∧
        t.blk.src src.val = s.blk.src src.val ∧ t.clk = (s.pass dt).clk)

/-- MERGE_SKEW_EXPIRY, REPAIR_WAIT_EXPIRY (R101, R288), PATH_LOSS (R102), SOURCE_LATE (R122). -/
def Obligations.MissingPacketsWaitThenAreLost : Prop :=
  ∀ (dt : Nat) (src : Src) (s : State), s.blk.hold = .none → s.blk.quiet = true → s.blk.domOn 31 = true →
    let x := s.blk.src src.val
    let now := (s.pass dt).clk.steady
    (∀ (n h : Nat) (g : Gap), s.blk.transport src.val = 2 → x.highest = some h → n ≤ h → h < n + 2 ^ 31 →
      x.gaps.find? (·.has n) = some g →
      (g.repair = false → g.since + s.blk.get F.LAD_MERGE_SKEW * usTick ≤ now →
        (s.blk.paired = false →
          ∃ t : State, exec (.mergeSkewExpiry dt src (BitVec.ofNat 32 n)) s = .next t ∧ t.clk = (s.pass dt).clk ∧ t.mem = s.mem ∧
            t.blk.get F.LAD_SRC_LOSS_LOST src.val =
              min (2 ^ F.LAD_SRC_LOSS_LOST.width - 1) (s.blk.get F.LAD_SRC_LOSS_LOST src.val + 1) ∧
            (∀ k, (t.blk.src src.val).gaps.any (·.has k) = (x.gaps.any (·.has k) && decide (k ≠ n))) ∧
            n ∈ (t.blk.src src.val).lostNums) ∧
        (s.blk.paired = true →
          ∃ t : State, exec (.mergeSkewExpiry dt src (BitVec.ofNat 32 n)) s = .next t ∧ t.clk = (s.pass dt).clk ∧ t.mem = s.mem ∧
            t.blk.get F.PAIR_REPAIR_REQ = min (2 ^ F.PAIR_REPAIR_REQ.width - 1) (s.blk.get F.PAIR_REPAIR_REQ + 1) ∧
            { lo := n, n := 1, since := now, repair := true } ∈ (t.blk.src src.val).gaps)) ∧
      (g.repair = true → g.since + s.blk.get F.LAD_MERGE_REPAIR_WAIT * usTick ≤ now →
        ∃ t : State, exec (.repairWaitExpiry dt src (BitVec.ofNat 32 n)) s = .next t ∧ t.clk = (s.pass dt).clk ∧ t.mem = s.mem ∧
          (∀ k, (t.blk.src src.val).gaps.any (·.has k) = (x.gaps.any (·.has k) && decide (k ≠ n))) ∧
          n ∈ (t.blk.src src.val).lostNums ∧
          t.blk.get F.PAIR_REPAIR_NONE = (if g.answered then s.blk.get F.PAIR_REPAIR_NONE
            else min (2 ^ F.PAIR_REPAIR_NONE.width - 1) (s.blk.get F.PAIR_REPAIR_NONE + 1)))) ∧
    (∀ path : Bool,
      let f := if path then F.LAD_SRC_STAT_PATH_B else F.LAD_SRC_STAT_PATH_A
      s.blk.srcRuns src.val = true → s.blk.transport src.val ≤ 2 →
      bit (s.blk.get F.LAD_SRC_CTL_PATHS src.val) (b2n path) = true → (if path then x.goneB else x.goneA) = false →
      (if path then x.lastB else x.lastA) + s.blk.get F.LAD_MERGE2_PATH_LOSS * msTick ≤ now →
      ∃ t : State, exec (.pathLoss dt src path) s = .next t ∧ t.blk.on f src.val = false ∧
        (if path then (t.blk.src src.val).goneB else (t.blk.src src.val).goneA) = true ∧
        t.blk.evq.map (·.code) = s.blk.evq.map (·.code) ++ [0x1803] ∧ t.clk = (s.pass dt).clk ∧ t.mem = s.mem ∧
        ∀ a, a ≠ F.LAD_SRC_STAT_PATH_A.at src.val → t.blk.reg a = s.blk.reg a) ∧
    (s.blk.srcRuns src.val = true → x.lateSeen = false →
      x.lastReady + s.blk.get F.LAD_SRC_MAXAGE_MAXAGE src.val * msTick ≤ now →
      ∃ t : State, exec (.sourceLate dt src) s = .next t ∧ t.blk.on F.LAD_EVT_LATE = true ∧ (t.blk.src src.val).lateSeen = true ∧
        t.blk.evq.map (·.code) = s.blk.evq.map (·.code) ++ [0x1802] ∧ t.clk = (s.pass dt).clk ∧ t.mem = s.mem ∧
        ∀ a, a ≠ F.LAD_EVT_LATE.addr → t.blk.reg a = s.blk.reg a)

/-- FRAME_COMPLETE (R103) and FRAME_READY (R107, R114, R117). -/
def Obligations.FramesCompleteAndBecomeReady : Prop :=
  ∀ (dt : Nat) (src : Src) (s : State), s.blk.hold = .none → s.blk.quiet = true → s.blk.domOn 31 = true →
    let x := s.blk.src src.val
    (∀ (f : OpenFrame) (l h : Nat), x.frames.find? (fun g => g.complete.isNone) = some f → f.last = some l →
      x.highest = some h → l ≤ h → (∀ g ∈ x.gaps, l < g.lo) → s.blk.paired = false → s.blk.peerLosses = [] →
      ∃ t : State, exec (.frameComplete dt src) s = .next t ∧ t.clk = (s.pass dt).clk ∧ t.mem = s.mem ∧
        (∃ g ∈ (t.blk.src src.val).frames, g.number = f.number ∧ g.complete = some (s.pass dt).clk.steady ∧
          g.lost = x.lostNums.filter (· ≤ l) ∧ g.awaits = false) ∧
        (t.blk.src src.val).lostNums = x.lostNums.filter (l < ·) ∧
        ((∀ n ∈ x.lostNums, l < n) → t.blk.evq = s.blk.evq ∧ t.blk.regs = s.blk.regs) ∧
        ((∃ n ∈ x.lostNums, n ≤ l) → t.blk.on F.LAD_EVT_LOSS = true ∧
          t.blk.evq.map (·.code) = s.blk.evq.map (·.code) ++ [0x1804])) ∧
    (∀ (f : OpenFrame) (rest : List OpenFrame) (i : Fin 16), x.frames = f :: rest → f.complete ≠ none → f.awaits = false →
      f.buf = some i.val → s.blk.transport src.val = 2 → s.blk.paired = false →
      (∀ e, e < 64 → s.blk.on F.SPR_SH_CFG_EN e = false) →
      let p := s.blk.poolOf src.val
      let granted := (dramAccess (s.pass dt).clk 5 (s.blk.poolPart p) (s.blk.bufAddr p i.val)
        (4096 + s.blk.poolPitch p * s.blk.srcHeight src.val) true 14 s.blk).1
      (granted = false → ∃ t : State, exec (.frameReady dt src) s = .next t ∧ t.clk = (s.pass dt).clk ∧ t.mem = s.mem ∧
        (t.blk.src src.val).frames = rest ∧ (t.blk.buf (bufKey p i.val)).state = .free) ∧
      (granted = true → ∃ t : State, exec (.frameReady dt src) s = .next t ∧ t.clk = (s.pass dt).clk ∧ (t.blk.src src.val).frames = rest ∧
        (t.blk.buf (bufKey (s.blk.poolOf src.val) i.val)).state = .ready ∧
        (t.blk.buf (bufKey (s.blk.poolOf src.val) i.val)).src = src.val ∧
        (t.blk.buf (bufKey (s.blk.poolOf src.val) i.val)).frame = f.number ∧
        (t.blk.buf (bufKey (s.blk.poolOf src.val) i.val)).ageBase = f.ageBase ∧
        t.blk.get F.LAD_SRC_STAT_NEWEST src.val = i.val ∧
        (∀ j, s.blk.readyBuf (s.blk.poolOf src.val) = some j → j ≠ i.val →
          (t.blk.buf (bufKey (s.blk.poolOf src.val) j)).state =
            (if s.blk.bufUsers (bufKey (s.blk.poolOf src.val) j) = 0 then .free else .held))))

/-- SOURCE_ENABLE (R91), SOURCE_DISABLE (R118), RING_TAIL_WRITE (R110). -/
def Obligations.SourcesStartStopAndReleaseRings : Prop :=
  ∀ (dt : Nat) (cls : Cls) (s : State), Calm s 24 → s.blk.quiet = true →
    (∀ src : Src, Writable s cls (F.LAD_SRC_CTL_EN.at src.val) →
      (s.blk.srcRuns src.val = false → srcRefusal s.blk src.val = 0 →
        ∃ t : State, exec (.sourceEnable dt cls src) s = .next t ∧ t.blk.srcRuns src.val = true ∧
          t.blk.reg (F.LAD_SRC_LOSS_LOST.at src.val) = 0 ∧
          (let now := (s.pass dt).clk.steady
           t.blk.src src.val = { lastReady := now, lastA := now, lastB := now }) ∧ t.clk = (s.pass dt).clk) ∧
      (s.blk.srcRuns src.val = false →
        (3 < s.blk.transport src.val ∨
          (s.blk.get F.LAD_SRC_CTL_PATHS src.val ≠ 0 ∧
            60 * s.blk.get F.LAD_SRC_FMT2_RATE_DEN src.val < s.blk.get F.LAD_SRC_FMT2_RATE_NUM src.val)) →
        ∃ t : State, exec (.sourceEnable dt cls src) s = .next t ∧ t.blk.on F.LAD_SRC_CTL_EN src.val = false ∧
          t.blk.srcRuns src.val = false ∧ t.blk.on F.LAD_EVT_CFG_ERR = true ∧ t.clk = (s.pass dt).clk ∧
          ∃ e ∈ t.blk.evq, e.code = 0x1807 ∧ e.p0 = BitVec.ofNat 32 src.val ∧
            e.p3 = (if 3 < s.blk.transport src.val then 0x05 else 0x0C)) ∧
      (s.blk.srcRuns src.val = true → 2 ≤ s.blk.transport src.val →
        ∃ t : State, exec (.sourceDisable dt cls src) s = .next t ∧ t.blk.srcRuns src.val = false ∧
          t.blk.on F.LAD_SRC_STAT_ACQ src.val = false ∧ t.blk.on F.LAD_SRC_STAT_PATH_A src.val = false ∧
          t.blk.on F.LAD_SRC_STAT_PATH_B src.val = false ∧ t.blk.get F.LAD_SRC_STAT_CLASS src.val = 2 ∧
          t.blk.src src.val = {} ∧ t.clk = (s.pass dt).clk)) ∧
    (∀ (ring : Fin 256) (v : Word), Writable s cls (F.LAD_RING_TAIL_TAIL.at ring.val) →
      (ringDecoded s.blk ring.val = false → (∀ k : Fin 3, s.blk.get F.SPR_K_RING_TXR k.val ≠ ring.val) →
        ∃ t : State, exec (.ringTailWrite dt cls ring v) s = .next t ∧
          t.blk.get F.LAD_RING_TAIL_TAIL ring.val = v.toNat % 2 ^ 16 ∧ t.clk = (s.pass dt).clk) ∧
      (ringDecoded s.blk ring.val = true →
        ∃ t : State, exec (.ringTailWrite dt cls ring v) s = .next t ∧ t.mem = s.mem ∧ t.blk.on F.LAD_EVT_WIGN = true ∧
          t.blk.reg (F.LAD_RING_TAIL_TAIL.at ring.val) = s.blk.reg (F.LAD_RING_TAIL_TAIL.at ring.val) ∧
          t.clk = (s.pass dt).clk))

/-- The eligible unit of context `k` is the one to decode next (R131). -/
def Claims.nextUnit (b : Block) (e k : Nat) (f : OpenFrame) : Prop :=
  k < 64 ∧ eligibleUnit b e k = some f ∧
    ∀ k' f', k' < 64 → eligibleUnit b e k' = some f' →
      unitDeadline b (b.ctx e k).src f ≤ unitDeadline b (b.ctx e k').src f' ∧
        (unitDeadline b (b.ctx e k).src f = unitDeadline b (b.ctx e k').src f' → k ≤ k')

/-- The packets that a source holds lie in rings that the part has. -/
def Claims.ringsReal (b : Block) (src : Nat) : Prop :=
  src < 384 ∧ ∀ h ∈ (b.src src).held, ∀ q, h.ring = some q → q.1 < 256

/-- ACCESS_UNIT_SELECT (R131-R133, R137, R140). -/
def Obligations.UnitsAreSelectedByDeadline : Prop :=
  ∀ (dt : Nat) (eng : Eng) (head : AuHead) (s : State), s.blk.hold = .none → s.blk.quiet = true →
    (∀ i : Fin 64, s.blk.on F.SPR_SH_CFG_EN i.val = false) →
    let b := s.blk
    let e := eng.val
    (b.on F.DEC_STAT_RUN e = true → b.on F.DEC_STAT_BUSY e = false → b.domStopping (10 + e / 2) = false → ∀ k f, Claims.nextUnit b e k f →
      let src := (b.ctx e k).src
      let pool := b.poolOf src
      Claims.ringsReal b src →
      (b.ctxState e k = ctxRun → head.entry = none → (b.ctx e k).noRasl = false →
        (b.freeCount pool ≠ 0 → b.poolCount pool ≤ 16 →
          ∃ (i : Nat) (t : State), exec (.accessUnitSelect dt eng head) s = .next t ∧ i < b.poolCount pool ∧
            (b.buf (bufKey pool i)).state = .free ∧ Claims.only s t dt [40 + e] ∧
            t.blk.on F.DEC_STAT_BUSY e = true ∧ t.blk.get F.DEC_STAT_CUR_CTX e = k ∧
            t.blk.get F.DEC_CTX_WM_ROWS e k = 0 ∧ t.blk.get F.DEC_CTX_WM_BUF e k = i ∧
            t.blk.get F.DEC_CTX_FRAME_FRAME e k = f.number % 2 ^ 32 ∧
            (t.blk.buf (bufKey pool i)).state = .filling ∧ (t.blk.buf (bufKey pool i)).src = src ∧
            (t.blk.buf (bufKey pool i)).ageBase = f.ageBase ∧
            ∃ p, (t.blk.eng e).pic = some p ∧ p.ctx = k ∧ p.src = src ∧ p.frame = f.number ∧ p.buf = i ∧ p.head = head ∧
              ((b.eng e).last = some k → p.start = (s.pass dt).clk.steady) ∧
              ((b.eng e).last ≠ some k →
                p.start = (s.pass dt).clk.steady + t.blk.get F.DEC_SWITCH_LAST e * nsTick ∧
                t.blk.get F.DEC_SWITCH_LAST e ≤ min 20000 (3000 +
                  1000 * ((List.range 16).filter fun i => b.mark e k i ≠ 0).length +
                  1000 * (match (b.ctx e k).set with | some x => b2n x.scaling | none => 0)))) ∧
        (b.freeCount pool = 0 → head.isRef = false →
          ∃ t : State, exec (.accessUnitSelect dt eng head) s = .next t ∧ t.clk = (s.pass dt).clk ∧ t.mem = s.mem ∧
            t.blk.on F.DEC_EVT_STARVE e = true ∧ Claims.records s t [0x2807] ∧
            t.blk.on F.DEC_STAT_BUSY e = false ∧ ∀ g ∈ (t.blk.src src).frames, g.number ≠ f.number)) ∧
      (b.ctxState e k = ctxWait → head.entry = none →
        ∃ t : State, exec (.accessUnitSelect dt eng head) s = .next t ∧ t.clk = (s.pass dt).clk ∧ t.mem = s.mem ∧
          t.blk.evq = b.evq ∧ t.blk.on F.DEC_STAT_BUSY e = false ∧ t.blk.get F.DEC_STAT_CUR_CTX e = k ∧
          ∀ g ∈ (t.blk.src src).frames, g.number ≠ f.number)) ∧
    ((b.on F.DEC_STAT_RUN e = false ∨ b.on F.DEC_STAT_BUSY e = true ∨ b.domStopping (10 + e / 2) = true ∨ ∀ k, k < 64 → eligibleUnit b e k = none) →
      ∃ t : State, exec (.accessUnitSelect dt eng head) s = .next t ∧ Claims.only s t dt [])

/-- CTU_ROW_DONE, ACCESS_UNIT_DONE, DECODE_WATCHDOG (R138, R141, R144, R145, R149), DECODER_ENABLE and DECODER_STOP
(R150). -/
def Obligations.RowsAdvanceTheWatermark : Prop :=
  ∀ (dt : Nat) (eng : Eng) (s : State), s.blk.quiet = true →
    (∀ i : Fin 64, s.blk.on F.SPR_SH_CFG_EN i.val = false) →
    let b := s.blk
    let e := eng.val
    (s.blk.hold = .none → ∀ p, (b.eng e).pic = some p → p.ctx < 64 → Claims.ringsReal b p.src → p.buf < 16 → (b.ctx e p.ctx).src = p.src →
      let pool := b.poolOf p.src
      let k := bufKey pool p.buf
      let cl := b.ctuLines e p.ctx
      let height := b.srcHeight p.src
      let nrows := (height + 15) / 16
      (∀ (row : CtuRow) (set : StreamSet), row.activate = none → row.missing = [] → row.concealed = [] →
        row.syntaxErrs = [] → row.memErrs = [] → (b.ctx e p.ctx).set = some set →
        b.ctxState e p.ctx ≠ ctxRefused → p.rows * cl < height →
        ∃ t : State, exec (.ctuRowDone dt eng row) s = .next t ∧ t.clk = (s.pass dt).clk ∧
          t.blk.get F.DEC_CTX_WM_ROWS e p.ctx =
            (if height ≤ (p.rows + 1) * cl then nrows else min nrows (((p.rows + 1) * cl - 8) / 16)) % 2 ^ 8 ∧
          (∃ q, (t.blk.eng e).pic = some q ∧ q.rows = p.rows + 1) ∧
          ∀ a, (∀ l, p.rows * cl ≤ l → l < (p.rows + 1) * cl → l < height →
              ¬ (b.rowAddr pool p.buf l ≤ a ∧
                a < b.rowAddr pool p.buf l + (decodedLine set row l (l - p.rows * cl)).length)) →
            t.mem.byte a = s.mem.byte a) ∧
      (∀ fin : AuEnd,
        (fin.lost = none → fin.hash = none → fin.marks = [] → height ≤ p.rows * cl → b.ctxState e p.ctx = ctxRun →
          (b.ctx e p.ctx).ran = true → p.head.output = true → b.on F.DEC_CTX_STAT_REORDER e p.ctx = false →
          (b.buf k).state = .filling → (b.buf k).src = p.src → b.paired = false → b.on F.DEC_CTL_EN e = true →
          b.domStopping (10 + e / 2) = false →
          ∃ t : State, exec (.accessUnitDone dt eng fin) s = .next t ∧ t.clk = (s.pass dt).clk ∧ (t.blk.eng e).pic = none ∧
            t.blk.on F.DEC_STAT_BUSY e = false ∧ t.blk.on F.DEC_STAT_RUN e = b.on F.DEC_STAT_RUN e ∧
            t.blk.get F.DEC_CTX_WM_ROWS e p.ctx = nrows % 2 ^ 8 ∧ (t.blk.buf k).state = .ready ∧
            t.blk.get F.LAD_SRC_STAT_NEWEST p.src = p.buf ∧ ∀ g ∈ (t.blk.src p.src).frames, g.number ≠ p.frame) ∧
        (∀ w, fin.lost = some w →
          ∃ t : State, exec (.accessUnitDone dt eng fin) s = .next t ∧ t.clk = (s.pass dt).clk ∧ t.mem = s.mem ∧
            (t.blk.eng e).pic = none ∧ t.blk.on F.DEC_STAT_BUSY e = false ∧ Claims.records s t [0x2806] ∧
            ∀ g ∈ (t.blk.src p.src).frames, g.number ≠ p.frame) ∧
        ((s.pass dt).clk.steady < p.start + b.get F.DEC_WDOG_AU_US e * usTick →
          ∃ t : State, exec (.decodeWatchdog dt eng fin) s = .next t ∧ Claims.only s t dt []) ∧
        (p.start + b.get F.DEC_WDOG_AU_US e * usTick ≤ (s.pass dt).clk.steady →
          (∀ i, i < 16 → (b.buf (bufKey pool i)).src < 384) →
          ∃ t : State, exec (.decodeWatchdog dt eng fin) s = .next t ∧ t.clk = (s.pass dt).clk ∧ (t.blk.eng e).pic = none ∧
            t.blk.on F.DEC_STAT_BUSY e = false ∧ t.blk.on F.DEC_EVT_WDOG e = true ∧
            ∃ r ∈ t.blk.evq, r.code = 0x2805 ∧ r.p0 = BitVec.ofNat 32 p.src))) ∧
    (∀ cls : Cls, Writable s cls (F.DEC_CTL_EN.at e) → Calm s (40 + e) →
      (b.domOn (10 + e / 2) = true → b.domStopping (10 + e / 2) = false →
        ∃ t : State, exec (.decoderEnable dt cls eng) s = .next t ∧ Claims.only s t dt [40 + e, 2] ∧
          t.blk.on F.DEC_CTL_EN e = true ∧ t.blk.on F.DEC_STAT_RUN e = true) ∧
      (b.on F.DEC_STAT_BUSY e = false → (b.eng e).pic = none →
        ∃ t : State, exec (.decoderStop dt cls eng) s = .next t ∧ Claims.only s t dt [40 + e, 2] ∧
          t.blk.on F.DEC_CTL_EN e = false ∧ t.blk.on F.DEC_STAT_RUN e = false ∧
          ∀ k : Fin 64, b.ctxState e k.val ≠ ctxUnbound → t.blk.ctxState e k.val = ctxWait) ∧
      (b.on F.DEC_STAT_BUSY e = true →
        ∃ t : State, exec (.decoderStop dt cls eng) s = .next t ∧ Claims.only s t dt [40 + e, 2] ∧
          t.blk.on F.DEC_CTL_EN e = false ∧ t.blk.on F.DEC_STAT_RUN e = b.on F.DEC_STAT_RUN e ∧
          (t.blk.eng e).pic = (b.eng e).pic))

/-- The band that a Crucible takes next (R158): it is pending, and every other pending band of the Crucible has a later check
line, or the same one in a higher slot, or is this one. -/
def Claims.takenNext (c : Clk) (b : Block) (cru k band : Nat) : Prop :=
  bandPending c b cru k band = true ∧
    ∀ j n, j < 16 → bandPending c b cru j n = true →
      let mine := checkAt c b (b.slotHead cru k) band (band < b.slotLead cru k)
      let its := checkAt c b (b.slotHead cru j) n (n < b.slotLead cru j)
      mine < its ∨ (mine = its ∧ k ≤ j)

/-- BAND_COMPOSE_START, BAND_COMPOSE_DONE (R157, R158, R161, R173, R178, R179), COMMIT_INSTANT (R17, R78, R181). -/
def Obligations.BandsComposeAndCommitsApply : Prop :=
  ∀ (dt : Nat) (s : State), s.blk.hold = .none → s.blk.quiet = true →
    let b := s.blk
    let now := (s.pass dt).clk
    (∀ (h : Head) (band : Fin 135) (cru k : Nat), b.slotOf h.val = some (cru, k) →
      (∀ errors, Claims.takenNext now b cru k band.val → b.slotLead cru k ≤ band.val →
        let w := b.slotWidth cru k
        let y0 := 16 * band.val
        let y1 := y0 + bandLines (b.fmt h.val).act band.val - 1
        ∃ (t : State) (q : CompBand), exec (.bandComposeStart dt h band errors) s = .next t ∧ t.clk = now ∧ t.blk.comps = b.comps ++ [q] ∧
          q.head = h.val ∧ q.band = band.val ∧ q.frame = b.frameOf h.val ∧ q.start = now.steady ∧
          q.width = w ∧ q.bg = background b cru k ∧
          q.layers.map (·.mould) = (b.drawing cru k).filter (fun m => b.contributes cru m 0 (w - 1) y0 y1) ∧
          q.tags.length = tileCols w ∧
          ∀ col, col < tileCols w → ∀ g, q.tags[col]? = some g →
            g.n = (((b.drawing cru k).filter fun m => b.contributes cru m 0 (w - 1) y0 y1).filter fun m =>
              b.contributes cru m (tileX w col).1 (tileX w col).2 y0 y1).length) ∧
      (∀ errors, ¬ Claims.takenNext now b cru k band.val →
        ∃ t : State, exec (.bandComposeStart dt h band errors) s = .next t ∧ Claims.only s t dt [] ∧ t.blk.comps = b.comps) ∧
      ((∀ z ∈ b.comps, z.head = h.val → z.band = band.val → compLate now b z = true) →
        ∃ t : State, exec (.bandComposeDone dt h band) s = .next t ∧ Claims.only s t dt [] ∧ t.blk.handed = b.handed) ∧
      (∀ q, b.comps.find? (fun z => z.head = h.val && z.band = band.val && !compLate now b z) = some q →
        b.comps.find? (fun z => z.cru = q.cru && !compLate now b z) = some q → (b.wb q.cru).frames = [] →
        ∃ t x, exec (.bandComposeDone dt h band) s = .next t ∧ t.clk = now ∧ t.blk.regs = b.regs ∧ t.blk.evq = b.evq ∧
          t.blk.out = b.out ∧ t.blk.handed = b.handed ++ [x] ∧ x.head = h.val ∧ x.band = band.val ∧ x.frame = q.frame ∧
          x.tags = q.tags ∧ x.lists = q.lists ∧
          x.pixels.length = bandLines (b.fmt q.head).act q.band ∧
          (∀ l ∈ x.pixels, l.length = q.width) ∧
          (q.layers = [] → ∀ l ∈ x.pixels, ∀ p ∈ l, p = q.bg) ∧
          ∀ z ∈ t.blk.comps, ¬ (z.head = q.head ∧ z.band = q.band ∧ z.frame = q.frame))) ∧
    (∀ (cru : Cru) (grp : Fin 16),
      let h := b.slotHead cru.val (b.get F.CRU_GRP_CFG_LEAD cru.val grp.val)
      let g := 16 * cru.val + grp.val
      (∀ (m : Fin 96) (p : Pend), (b.ras h).phase = .running → (b.ras h).relock = false →
        lineReached (b.fmt h) (b.ras h) now.steady (b.fmt h).act = true → g ∉ (b.ras h).commits →
        commitsBefore b h g = true → p.since ≠ some now.steady →
        (∀ i : Fin 96, b.on F.CRU_M_CTL_EN cru.val i.val = false) → b.get F.CRU_M_CTL_GROUP cru.val m.val = grp.val →
        b.pendF = [p] → p.addr = F.CRU_M_DST_XY_X.at cru.val m.val → b.on F.CRU_GRP_STAT_REJ cru.val grp.val = false →
        ∃ t : State, exec (.commitInstant dt cru grp) s = .next t ∧ Claims.only s t dt [32 + cru.val] ∧ t.blk.pendF = [] ∧
          t.blk.reg p.addr = merge (b.reg p.addr) p.mask p.val ∧
          t.blk.get F.CRU_GRP_FRAME_FRAME cru.val grp.val = b.frameOf h % 2 ^ 32 ∧
          t.blk.get F.CRU_GRP_STAT_HELD cru.val grp.val = 0 ∧ t.blk.get F.CRU_GRP_STAT_LATE cru.val grp.val = 0 ∧
          (t.blk.ras h).commits = (b.ras h).commits ++ [g]) ∧
      ((b.ras h).phase ≠ .running ∨ lineReached (b.fmt h) (b.ras h) now.steady (b.fmt h).act = false ∨
          g ∈ (b.ras h).commits ∨ commitsBefore b h g = false →
        ∃ t : State, exec (.commitInstant dt cru grp) s = .next t ∧ Claims.only s t dt [] ∧ t.blk.pendF = b.pendF))

/-- HEAD_SLOT_ENABLE (R154, R155), WRITEBACK_ENABLE (R186, R187), WRITEBACK_FRAME_READY (R190). -/
def Obligations.SlotsAndWritebacksAreChecked : Prop :=
  ∀ (dt : Nat) (cru : Cru) (s : State), s.blk.quiet = true →
    let b := s.blk
    let n := cru.val
    (∀ (cls : Cls) (slot : Fin 16), Writable s cls (F.CRU_HEAD_MAP_EN.at n slot.val) → Calm s (32 + n) →
      b.on F.CRU_HEAD_MAP_EN n slot.val = false →
      let k := slot.val
      let w := b.slotWidth n k
      let lead := b.slotLead n k
      let f := b.fmt (b.slotHead n k)
      let taken := (b.slotOf (b.slotHead n k)).isSome
      let badWidth := w < 16 ∨ 4096 < w ∨ w % 2 = 1
      let badLead := lead = 0 ∨ 4 < lead ∨ f.total - f.act ≤ 16 * lead
      let refused (r : Nat) : Prop :=
        ∃ t : State, exec (.headSlotEnable dt cls cru slot) s = .next t ∧ Claims.within s t dt [32 + n, 2] ∧
          Claims.records s t [0x2007] ∧ t.blk.on F.CRU_HEAD_MAP_EN n k = false ∧
          t.blk.get F.CRU_HEAD_MAP_REASON n k = r ∧ t.blk.on F.CRU_EVT_CFG_ERR n = true
      ((slotRefusal b n k).1 = 0 →
        ∃ t : State, exec (.headSlotEnable dt cls cru slot) s = .next t ∧ Claims.only s t dt [32 + n, 2] ∧
          t.blk.on F.CRU_HEAD_MAP_EN n k = true ∧ t.blk.get F.CRU_HEAD_MAP_REASON n k = 0 ∧
          t.blk.slotHead n k = b.slotHead n k) ∧
      (taken = true → refused 0x10) ∧ (taken = false → badWidth → refused 0x15) ∧
      (taken = false → ¬ badWidth → badLead → refused 0x11)) ∧
    (∀ cls : Cls, Writable s cls (F.CRU_WB_CTL_EN.at n) → Calm s (32 + n) → b.on F.CRU_WB_STAT_RUN n = false →
      (wbRefusal b n = 0 →
        ∃ t : State, exec (.writebackEnable dt cls cru) s = .next t ∧ Claims.only s t dt [32 + n, 2] ∧
          t.blk.on F.CRU_WB_CTL_EN n = true ∧ t.blk.on F.CRU_WB_STAT_RUN n = true ∧
          t.blk.get F.CRU_WB_STAT_DROPPED n = 0 ∧ (t.blk.wb n).frames = []) ∧
      (b.poolPitch (b.wbPool n) < 6 * b.wbW n →
        ∃ t : State, exec (.writebackEnable dt cls cru) s = .next t ∧ Claims.within s t dt [32 + n, 2] ∧
          Claims.records s t [0x2007] ∧ t.blk.on F.CRU_WB_CTL_EN n = false ∧ t.blk.on F.CRU_WB_STAT_RUN n = false ∧
          t.blk.on F.CRU_EVT_CFG_ERR n = true ∧ ∃ e ∈ t.blk.evq, e.code = 0x2007 ∧ e.p2 = 0x20)) ∧
    (s.blk.hold = .none → ∀ f rest, (b.wb n).frames = f :: rest → f.buf < 16 →
      ((∀ k, k < 16 → b.on F.CRU_HEAD_MAP_EN n k = true → b.on F.CRU_HEAD_WB_IN n k = true →
          ∀ band, band < (b.fmt (b.slotHead n k)).bands → (b.slotHead n k, band) ∈ f.bands) →
        dramFails b 7 (b.poolPart (b.wbPool n)) (b.bufAddr (b.wbPool n) f.buf) 4096 true = false →
        ∃ t : State, exec (.writebackFrameReady dt cru false) s = .next t ∧ t.clk = (s.pass dt).clk ∧ t.blk.evq = b.evq ∧
          (t.blk.wb n).frames = rest ∧ t.blk.get F.CRU_WB_STAT_BUF n = f.buf ∧
          (t.blk.buf (bufKey (b.wbPool n) f.buf)).state = .ready ∧
          (t.blk.buf (bufKey (b.wbPool n) f.buf)).cls = (if f.notLive then 1 else 0) ∧
          (∀ a, a ≠ F.CRU_WB_STAT_BUF.at n → t.blk.reg a = b.reg a) ∧
          ∀ a, ¬ (b.bufAddr (b.wbPool n) f.buf ≤ a ∧ a < b.bufAddr (b.wbPool n) f.buf + 4096) →
            t.mem.byte a = s.mem.byte a) ∧
      (∃ t : State, exec (.writebackFrameReady dt cru true) s = .next t ∧ Claims.within s t dt [32 + n] ∧
        Claims.records s t [0x2006] ∧ (t.blk.buf (bufKey (b.wbPool n) f.buf)).state = .free ∧
        t.blk.get F.CRU_WB_STAT_DROPPED n =
          min (2 ^ F.CRU_WB_STAT_DROPPED.width - 1) (b.get F.CRU_WB_STAT_DROPPED n + 1) ∧
        ∀ g ∈ (t.blk.wb n).frames, g.aidx ≠ f.aidx))

/-- The verdict of a tile whose tag is `g` and whose contributors are `l` (R193, R197). -/
def Claims.verdict (now : Clk) (b : Block) (g : Tag) (l : List Nat) : Nat :=
  if g.cls = 3 then 3
  else if g.cls = 2 ∨ ∃ s ∈ l, b.get F.LAD_SRC_MAXAGE_MAXAGE s < ageMs now.ns64 g.oldest then 2
  else if g.cls = 1 then (if g.dslag then 3 else 1)
  else 0

/-- BAND_CHECK (R193, R197, R198, R225), REGION_SIGNATURE_COMPARE (R219), FREEZE_TICK (R213, R214). -/
def Obligations.VerdictsFollowTheTable : Prop :=
  ∀ (dt : Nat) (s : State), s.blk.hold = .none → s.blk.quiet = true →
    let b := s.blk
    let now := (s.pass dt).clk
    (∀ (h : Head) (band : Fin 135) (complete : List (Fin 64)),
      0 < band.val → band.val < (b.fmt h.val).bands → (b.ras h.val).phase = .running →
      lineReached (b.fmt h.val) (b.ras h.val) now.steady (16 * band.val - 1) = true →
      (∀ x ∈ (b.fet h.val).bands, x.band = band.val → x.frame ≠ b.frameOf h.val) → (b.fet h.val).shown = [] →
      b.fetRuns h.val = true →
      (∀ q, b.comps.find? (fun z => (z.head = h.val && z.band = band.val) && z.frame = b.frameOf h.val) = some q →
        b.slagHead h.val = false → complete = [] → (b.wb q.cru).frames = [] → 0 < q.tags.length →
        q.lists.length = q.tags.length → (∀ y ∈ b.handed, y.head = h.val → y.band ≠ band.val) →
        ∃ t x, exec (.bandCheck dt h band complete) s = .next t ∧ Claims.within s t dt [36, 32 + q.cru] ∧
          (t.blk.fet h.val).bands = (b.fet h.val).bands ++ [x] ∧ x.band = band.val ∧
          x.verdicts = List.replicate q.tags.length 3 ∧ t.blk.on F.CRU_EVT_MISSED q.cru = true ∧
          ∃ e ∈ t.blk.evq, e.code = 0x2004 ∧ e.p0 = BitVec.ofNat 32 h.val ∧ e.p1 = BitVec.ofNat 32 band.val) ∧
      ((∀ q ∈ b.comps, q.head = h.val → q.band ≠ band.val) →
      let checked (v : List Nat) (slag : Bool) : Prop :=
        ∃ t x, exec (.bandCheck dt h band complete) s = .next t ∧ Claims.within s t dt [36] ∧
          (t.blk.fet h.val).bands = (b.fet h.val).bands ++ [x] ∧ x.band = band.val ∧ x.frame = b.frameOf h.val ∧
          x.verdicts = v ∧ x.slag = slag ∧ t.blk.get F.FET_HEAD_STAT_BAND h.val = band.val ∧
          (slag = false → t.blk.on F.FET_HEAD_STAT_NODELIV h.val =
            !b.handed.any fun y => (y.head = h.val && y.band = band.val) && y.frame = b.frameOf h.val) ∧
          (slag = false → (∀ y ∈ b.handed, y.head = h.val → y.band ≠ band.val) →
            b.on F.FET_HEAD_STAT_NODELIV h.val = false → b.limits.lookup (0x240B0000 + h.val) = none →
            ∃ e ∈ t.blk.evq, e.code = 0x240B ∧ e.p0 = BitVec.ofNat 32 h.val ∧ e.p1 = BitVec.ofNat 32 band.val)
      (b.slagHead h.val = false →
        (∀ y, b.handed.find? (fun y => (y.head = h.val && y.band = band.val) && y.frame = b.frameOf h.val) = some y →
          (∀ l ∈ y.lists, ∀ z ∈ l, z < 384) →
          checked ((y.tags.zip y.lists).map fun q => Claims.verdict now b q.1 q.2) false) ∧
        ((∀ y ∈ b.handed, y.head = h.val → y.band ≠ band.val) →
          (∀ q, b.slotOf h.val = some q → b.slotRuns q.1 q.2 = false) →
          checked (List.replicate (tileCols (b.headWidth h.val)) 3) false)) ∧
      (b.slagHead h.val = true → checked (List.replicate (tileCols (b.headWidth h.val)) 3) true))) ∧
    (∀ win : Fin 512,
      let w := win.val
      let st := tget {} b.rsws w
      let h := b.get F.FET_RSW_CFG_HEAD w
      let passed := (b.ras h).phase = .running ∧ st.frame = b.frameOf h + 1 ∧ st.lines = b.get F.FET_RSW_WH_H w ∧
        lineReached (b.fmt h) (b.ras h) now.steady (b.get F.FET_RSW_XY_Y w + b.get F.FET_RSW_WH_H w) = true
      let right := (~~~ st.crc).toNat = b.get F.FET_RSW_EXP_EXP w
      (b.on F.FET_RSW_CFG_EN w = true → passed →
        ∃ t : State, exec (.regionSignatureCompare dt win) s = .next t ∧ Claims.within s t dt [36] ∧
          t.blk.get F.FET_RSW_LAST_LAST w = (~~~ st.crc).toNat ∧ t.blk.on F.FET_RSW_STAT_MATCH w = decide right ∧
          t.blk.on F.FET_RSW_STAT_SLAGGED w = !decide right ∧
          (¬ right → t.blk.on F.FET_EVT_RSW = true ∧ t.blk.get F.FET_RSW_STAT_MISS w =
            min (2 ^ F.FET_RSW_STAT_MISS.width - 1) (b.get F.FET_RSW_STAT_MISS w + 1)) ∧
          (right → b.on F.FET_RSW_STAT_SLAGGED w = true → Claims.records s t [0x2406])) ∧
      (b.on F.FET_RSW_CFG_EN w = false →
        ∃ t : State, exec (.regionSignatureCompare dt win) s = .next t ∧ Claims.only s t dt [])) ∧
    ∃ t : State, exec (.freezeTick dt) s = .next t ∧ Claims.within s t dt [36] ∧
      ∀ src : Src, b.on F.LAD_SRC_STAT_RUN src.val = true → b.on F.FET_FRZ_STAT_TRACK src.val = true →
        let frozen := b.on F.FET_FRZ_STAT_FROZEN src.val
        let at_ := now.ns64 / 1000000 * 1000000
        let past (ms : Nat) : Prop := (b.frzOf src.val).tchg + (ms * 1000000 : Nat) < (at_ : Int)
        let freeze := b.get F.LAD_SRC_CHANGE_FREEZE src.val
        let slow := b.get F.LAD_SRC_CHANGE_CHG_INT src.val
        (freeze ≠ 0 → at_ < (b.frzOf src.val).seen →
          t.blk.on F.FET_FRZ_STAT_FROZEN src.val = frozen ∧
          t.blk.on F.FET_FRZ_STAT_SLOW src.val = b.on F.FET_FRZ_STAT_SLOW src.val) ∧
        (freeze ≠ 0 → (b.frzOf src.val).seen ≤ at_ →
          t.blk.on F.FET_FRZ_STAT_FROZEN src.val = (frozen || decide (past freeze)) ∧
          t.blk.on F.FET_FRZ_STAT_SLOW src.val = (decide (slow ≠ 0) && decide (past slow)) ∧
          (frozen = false → past freeze → t.blk.on F.FET_EVT_FROZEN = true)) ∧
        (freeze = 0 → t.blk.on F.FET_FRZ_STAT_TRACK src.val = false ∧ t.blk.on F.FET_FRZ_STAT_FROZEN src.val = false ∧
          t.blk.on F.FET_FRZ_STAT_SLOW src.val = false)

/-- FETTLER_HEAD_ENABLE (R194), REARM (R210), DIM_REQUEST (R204), MARK_READBACK (R208, R209). -/
def Obligations.HeadsAreReadBackAndDimmed : Prop :=
  ∀ (dt : Nat) (h : Head) (s : State), s.blk.quiet = true →
    let b := s.blk
    (∀ cls : Cls, Calm s 36 → headBands b h.val = false →
      (Writable s cls (F.FET_HEAD_CTL_EN.at h.val) →
        (b.on F.FET_HEAD_CTL_EN h.val = false →
          (fetRefusal b h.val = 0 →
            ∃ t : State, exec (.fettlerHeadEnable dt cls h) s = .next t ∧ Claims.only s t dt [36, 2] ∧
              t.blk.on F.FET_HEAD_CTL_EN h.val = true ∧ (t.blk.fet h.val).bands = []) ∧
          (b.slotOf h.val = none →
            ∃ t : State, exec (.fettlerHeadEnable dt cls h) s = .next t ∧ Claims.within s t dt [36, 2] ∧
              Claims.records s t [0x2409] ∧ t.blk.on F.FET_HEAD_CTL_EN h.val = false ∧ t.blk.on F.FET_EVT_CFG_ERR = true)) ∧
        (b.on F.FET_HEAD_STAT_STOPPED h.val = true →
          ∃ t : State, exec (.rearm dt cls h) s = .next t ∧ Claims.within s t dt [36, 2] ∧ Claims.records s t [0x2408] ∧
            t.blk.on F.FET_HEAD_STAT_STOPPED h.val = false ∧
            t.blk.on F.FET_HEAD_CTL_EN h.val = b.on F.FET_HEAD_CTL_EN h.val) ∧
        (b.on F.FET_HEAD_STAT_STOPPED h.val = false →
          ∃ t : State, exec (.rearm dt cls h) s = .next t ∧ Claims.only s t dt [2])) ∧
      (Writable s cls (F.FET_HEAD_DIM_REQ.at h.val) → b.forwards = false → ∀ req : Fin 4,
        ∃ t : State, exec (.dimRequest dt cls h req) s = .next t ∧ Claims.only s t dt [36, 2] ∧
          (t.blk.fet h.val).dims = (b.fet h.val).dims ++
            (if req = 1 ∨ req = 2 then
              [{ lit := decide (req = 1), target := (b.fidx h.val + b.get F.FET_DIM_CFG_AHEAD) % 2 ^ 48, late := false }]
            else []))) ∧
    (s.blk.hold = .none → ∀ (lines : List (List Nat)) (q : CheckedBand),
      let band := (markPlace b h.val).2.toNat
      let g := b.get F.FET_HEAD_STAT_GRAY h.val
      let right := lines.length = 8 ∧ ∀ cell, cell < 6 →
        cellReads lines cell (flatSamples b h.val (markColour b (cellSet g cell))) = true
      b.bandOfRow h.val (16 * band) = some q → b.fetRuns h.val = true → markOk b h.val = true →
      markFormed b h.val band = true → (b.fet h.val).readFrame ≠ b.frameOf h.val + 1 →
      (right →
        ∃ t : State, exec (.markReadback dt h (some lines)) s = .next t ∧ Claims.only s t dt [36] ∧
          t.blk.get F.FET_HEAD_RB_EXP_G h.val = g ∧ t.blk.on F.FET_HEAD_RB_MATCH h.val = true) ∧
      (¬ right →
        ∃ t : State, exec (.markReadback dt h (some lines)) s = .next t ∧ Claims.within s t dt [36] ∧ Claims.records s t [0x2407] ∧
          t.blk.get F.FET_HEAD_RB_EXP_G h.val = g ∧ t.blk.on F.FET_HEAD_RB_MATCH h.val = false ∧
          t.blk.get F.FET_HEAD_RB_MISMATCH h.val =
            min (2 ^ F.FET_HEAD_RB_MISMATCH.width - 1) (b.get F.FET_HEAD_RB_MISMATCH h.val + 1) ∧
          t.blk.on F.FET_HEAD_STAT_STOPPED h.val = true ∧ t.blk.on F.FET_EVT_READBACK = true ∧
          t.blk.get F.FET_PKT_STAT_STATE h.val = 4))

/-- The head's stream uses path A alone, in a unit whose packets nobody else sees formed. -/
def Claims.pathAOnly (b : Block) (h : Nat) : Prop :=
  b.usesPath h 0 = true ∧ b.usesPath h 1 = false ∧ b.jtag.instr ≠ .extest ∧ b.paired = false ∧
    b.on F.PAIR_HEAD_VOTE_SHADOW h = false

/-- VIDEO_PACKET_SEND, LIVENESS_PACKET_SEND (R231, R236, R239, R244, R245), STREAM_ENABLE (R235, R248), PATH_LINK_DOWN,
PATH_LINK_RESUME (R252). -/
def Obligations.PacketsAreNumberedAndSent : Prop :=
  ∀ (dt : Nat) (head : Head) (s : State), s.blk.quiet = true →
    let b := s.blk
    let h := head.val
    let now := (s.pass dt).clk
    let st := b.fet h
    let fmt := b.fmt h
    let lane := b.get F.FET_PKT_P_MAC_SEL h 0
    (s.blk.hold = .none → b.fetRuns h = true → b.headRuns h = true → st.firstRow = 0 → Claims.pathAOnly b h →
      lane < 48 → macUp b lane = true ∨ b.on F.FET_PKT_STAT_LINK_A h = false →
      (let k := st.nextPkt
       let n := b.pgrp h
       let segs := segments (b.linePgs h) n (k * n) (min n (b.framePgs h - k * n))
       let seq := (b.fidx h * b.packets h + k) % 2 ^ 32
       k < b.packets h → (∀ g ∈ segs, (b.bandOfRow h g.row).isSome = true) →
       pixelReached fmt (b.ras h) now.steady (k * n * pgPix (b.pktFmt h)) (b.headWidth h) = true →
       ∃ t : State, exec (.videoPacketSend dt head) s = .next t ∧ t.clk = now ∧ t.mem = s.mem ∧ t.blk.evq = b.evq ∧
         (t.blk.fet h).nextPkt = k + 1 ∧
         (b.get F.FET_PKT_STAT_STATE h = 2 → b.on F.FET_PKT_STAT_LINK_A h = true →
           ∃ rest, t.blk.out = b.out ++ [.frame lane (pathFrame b h 0 false
             (rtpHeader (decide (k + 1 = b.packets h)) (b.get F.FET_PKT_RTP_PT_V h) seq (b.get F.FET_PKT_TS_TS h)
               (b.get F.FET_PKT_SSRC_V_SSRC h) ++ beBytes 2 (seq / 65536) ++ rest))] ∧
             t.blk.get F.ETH_M_TXCNT_TX (lane / 4) (lane % 4) =
               (b.get F.ETH_M_TXCNT_TX (lane / 4) (lane % 4) + 1) % 2 ^ 32) ∧
         (b.on F.FET_PKT_STAT_LINK_A h = false → t.blk.out = b.out ∧
           t.blk.get F.FET_PKT_DROP_DROP_A h =
             min (2 ^ F.FET_PKT_DROP_DROP_A.width - 1) (b.get F.FET_PKT_DROP_DROP_A h + 1)) ∧
         (b.get F.FET_PKT_STAT_STATE h ≠ 2 → t.blk.out = b.out)) ∧
      (let k := st.nextAnc
       let seq := (b.fidx h * fmt.bands + k) % 2 ^ 32
       ∀ x, st.bands.find? (fun x => x.band = k && x.frame = b.frameOf h) = some x → x.sealWord ≠ none →
       b.on F.FET_PKT_CTL_ANC_EN h = true → k < fmt.bands →
       pixelReached fmt (b.ras h) now.steady (2 * min (16 * k + 16) fmt.act * b.headWidth h +
         b.pgrp h * pgPix (b.pktFmt h)) (2 * b.headWidth h) = true →
       b.get F.FET_PKT_STAT_STATE h = 2 → b.on F.FET_PKT_STAT_LINK_A h = true →
       ∃ t : State, exec (.livenessPacketSend dt head) s = .next t ∧ t.clk = now ∧ t.mem = s.mem ∧ t.blk.evq = b.evq ∧
         (t.blk.fet h).nextAnc = k + 1 ∧ ∃ rest, t.blk.out = b.out ++ [.frame lane (pathFrame b h 0 true
           (rtpHeader (decide (k + 1 = fmt.bands)) (b.get F.FET_PKT_RTP_PT_A h) seq (b.get F.FET_PKT_TS_TS h)
             (b.get F.FET_PKT_SSRC_A_SSRC h) ++ beBytes 2 (seq / 65536) ++ rest))])) ∧
    (∀ cls : Cls, Writable s cls (F.FET_PKT_CTL_EN.at h) → Calm s 36 → headBands b h = false →
      b.get F.FET_PKT_STAT_STATE h = 0 →
      (streamRefusal b h = 0 →
        ∃ t : State, exec (.streamEnable dt cls head) s = .next t ∧ Claims.only s t dt [36, 2] ∧
          t.blk.on F.FET_PKT_CTL_EN h = true ∧ t.blk.get F.FET_PKT_STAT_STATE h = 1) ∧
      (b.get F.FET_PKT_FMT_FMT h = 3 ∨ b.get F.FET_PKT_CTL_PATHS h = 0 →
        ∃ t : State, exec (.streamEnable dt cls head) s = .next t ∧ Claims.within s t dt [36, 2] ∧ Claims.records s t [0x2416] ∧
          t.blk.on F.FET_PKT_CTL_EN h = false ∧ t.blk.get F.FET_PKT_STAT_STATE h = 0 ∧
          t.blk.get F.FET_PKT_REASON_REASON h = 0x10 ∧ t.blk.on F.FET_PKT_EVT_CFG_ERR = true)) ∧
    (s.blk.hold = .none → ∀ path : Bool,
      let p := b2n path
      let lane := b.get F.FET_PKT_P_MAC_SEL h p
      (macUp b lane = false → b.on (linkFld p) h = true → b.usesPath h p = true →
        ∃ t : State, exec (.pathLinkDown dt head path) s = .next t ∧ Claims.within s t dt [36] ∧ Claims.records s t [0x2413] ∧
          t.blk.on (linkFld p) h = false ∧ t.blk.on F.FET_PKT_EVT_LINK = true) ∧
      (macUp b lane = true → tget 0 b.macSince lane + 10 * msTick ≤ now.steady → b.on (linkFld p) h = false →
        ∃ t : State, exec (.pathLinkResume dt head path) s = .next t ∧ Claims.only s t dt [] ∧
          (t.blk.fet h).resume = st.resume.set p true))

/-- ENCODE_STREAM_ENABLE (R259), IDR_REQ (R257), ENCODER_STOP (R275), ENCODE_SELECT (R260), ENCODE_FRAME_START (R257, R266,
R274). -/
def Obligations.EncodersStartSelectAndDrop : Prop :=
  ∀ (dt : Nat) (enc : Fin 2) (s : State), s.blk.quiet = true →
    let b := s.blk
    let n := enc.val
    (∀ (cls : Cls) (stream : Fin 8), Writable s cls (F.ENC_S_CTL_EN.at n stream.val) → Calm s (48 + n) →
      let k := stream.val
      (b.on F.ENC_S_STAT_RUN n k = false →
        (encRefusal b n k = 0 →
          ∃ t : State, exec (.encodeStreamEnable dt cls enc stream) s = .next t ∧ Claims.only s t dt [48 + n, 2] ∧
            t.blk.on F.ENC_S_STAT_RUN n k = true ∧
            t.blk.on F.ENC_S_STAT_WIDE n k = decide (1920 < encW b n k ∨ 1080 < encH b n k) ∧
            t.blk.reg (F.ENC_S_CNT_CAPPED.at n k) = 0 ∧ t.blk.get F.ENC_S_WIN_SUM n k = 0 ∧
            (t.blk.encS n k).idr = true) ∧
        (encX b n k % 64 ≠ 0 →
          ∃ t : State, exec (.encodeStreamEnable dt cls enc stream) s = .next t ∧ Claims.within s t dt [48 + n, 2] ∧
            t.blk.on F.ENC_S_CTL_EN n k = false ∧ t.blk.on F.ENC_S_STAT_RUN n k = false ∧
            t.blk.on F.ENC_EVT_CFG_ERR n = true ∧ Claims.records s t [0x3006] ∧
            ∃ e ∈ t.blk.evq, e.code = 0x3006 ∧ e.p0 = BitVec.ofNat 32 k ∧ e.p3 = 1)) ∧
      (b.on F.ENC_S_STAT_RUN n k = true → b.on F.ENC_S_CTL_EN n k = true →
        ∃ t : State, exec (.idrReq dt cls enc stream) s = .next t ∧ Claims.only s t dt [2] ∧ (t.blk.encS n k).idr = true)) ∧
    (∀ cls : Cls, Writable s cls (F.ENC_CTL_EN.at n) → Calm s (48 + n) →
      ∃ t : State, exec (.encoderStop dt cls enc) s = .next t ∧ Claims.only s t dt [48 + n, 2] ∧
        t.blk.on F.ENC_CTL_EN n = false ∧ (t.blk.enc n).pic = (b.enc n).pic ∧
        t.blk.on F.ENC_STAT_RUN n = (b.on F.ENC_STAT_RUN n && (b.enc n).pic.isSome)) ∧
    (s.blk.hold = .none → b.on F.ENC_STAT_RUN n = true → b.on F.ENC_CTL_EN n = true → (b.enc n).pic = none →
      ∀ (stream : Fin 8) (x : EncCapture), b.on F.ENC_S_STAT_RUN n stream.val = true →
      let taken (t : State) : Prop :=
        (t.blk.enc n).pic = some { stream := stream.val, cap := x, since := (s.pass dt).clk.steady } ∧
          t.blk.on F.ENC_STAT_BUSY n = true ∧ t.blk.get F.ENC_STAT_CUR n = stream.val ∧
          t.blk.bufUsers x.key = b.bufUsers x.key + 1
      (b.encS n stream.val).waiting.getLast? = some x →
      (∀ (k : Fin 8) (y : EncCapture), b.on F.ENC_S_STAT_RUN n k.val = true → (b.encS n k.val).waiting.getLast? = some y →
        x.arrival ≤ y.arrival ∧ (x.arrival = y.arrival → stream ≤ k)) →
      ∃ t : State, exec (.encodeSelect dt enc) s = .next t ∧ Claims.within s t dt [48 + n] ∧ taken t ∧
        (∀ k : Fin 8, b.on F.ENC_S_STAT_RUN n k.val = true →
          t.blk.get F.ENC_S_CNT_PASSED n k.val = min (2 ^ F.ENC_S_CNT_PASSED.width - 1)
            (b.get F.ENC_S_CNT_PASSED n k.val + ((b.encS n k.val).waiting.length - 1))) ∧
        ((∀ k : Fin 8, b.on F.ENC_S_STAT_RUN n k.val = true → (b.encS n k.val).waiting.length ≤ 1) →
          Claims.only s t dt [48 + n])) ∧
    (s.blk.hold = .none → ∀ (p : EncPic) (headBits : Nat) (errors : List (Nat × BitVec 40)), (b.enc n).pic = some p →
      p.begun = false → p.stream < 8 →
      let k := p.stream
      let fcap := b.get F.ENC_S_FCAP_FCAP n k
      let gop := b.get F.ENC_S_GOP_GOP_LEN n k
      let idr := (b.encS n k).idr || (decide (gop ≠ 0) && decide (gop ≤ (b.encS n k).since))
      (encRingFree b n k = false ∨ encSpace b n k (fcap * 250) = none →
        ∃ t : State, exec (.encodeFrameStart dt enc headBits errors) s = .next t ∧ Claims.within s t dt [48 + n] ∧
          Claims.records s t [0x3004] ∧ (t.blk.enc n).pic = none ∧ t.blk.on F.ENC_STAT_BUSY n = false ∧
          t.blk.on F.ENC_EVT_OUT_DROP n = true ∧ (t.blk.encS n k).idr = true ∧
          t.blk.bufUsers p.cap.key = b.bufUsers p.cap.key - 1 ∧ t.blk.get F.ENC_S_CNT_DROPPED n k =
            min (2 ^ F.ENC_S_CNT_DROPPED.width - 1) (b.get F.ENC_S_CNT_DROPPED n k + 1)) ∧
      (∀ off, encRingFree b n k = true → encSpace b n k (fcap * 250) = some off →
        ∃ t q, exec (.encodeFrameStart dt enc headBits errors) s = .next t ∧ t.clk = (s.pass dt).clk ∧ t.mem = s.mem ∧
          (t.blk.enc n).pic = some q ∧ q.begun = true ∧ q.stream = k ∧ q.off = off ∧ q.bits = headBits ∧ q.idr = idr ∧
          q.budget = min (fcap * 1000) (b.get F.ENC_S_SCAP_SCAP n k * 1000 - encSum b n k) ∧
          q.qpb = (if idr then max 0 ((b.get F.ENC_S_QP_QI n k : Int) - b.get F.ENC_S_QP_I_OFS n k)
            else (b.get F.ENC_S_QP_QI n k : Int)) ∧
          q.qpMin = b.get F.ENC_S_QP_QP_MIN n k ∧ q.qpMax = b.get F.ENC_S_QP_QP_MAX n k ∧
          q.refs = (if idr then [] else (b.encS n k).past.take (b.get F.ENC_S_GOP_REFS n k)) ∧
          (t.blk.encS n k).idr = false ∧ t.blk.get F.ENC_S_WIN_SUM n k = encSum b n k / 1000 % 2 ^ 20))

/-- ENCODE_ROW_DONE (R267-R269), ENCODE_FRAME_DONE (R273, R274). -/
def Obligations.RowsAreCappedAndUnitsWritten : Prop :=
  ∀ (dt : Nat) (enc : Fin 2) (p : EncPic) (s : State), s.blk.hold = .none → s.blk.quiet = true →
    (s.blk.enc enc.val).pic = some p → p.begun = true → p.stream < 8 →
    let b := s.blk
    let n := enc.val
    let k := p.stream
    let nr := ctuRows b n k
    (∀ row : EncRow, p.row < nr → p.bits + row.bits ≤ 2000 * p.fcap →
      let used := p.bits + row.bits
      let top := (p.qpMax : Int) ≤ p.qpb + p.d
      let stop := p.budget ≤ used ∨ (top ∧ p.budget < used + (nr - 1 - p.row) * row.bits)
      let cut := p.skip = none ∧ p.row + 1 < nr ∧ stop
      (cut →
        ∃ t q, exec (.encodeRowDone dt enc row) s = .next t ∧ Claims.within s t dt [48 + n] ∧ (t.blk.enc n).pic = some q ∧
          q.row = p.row + 1 ∧ q.bits = used ∧ q.skip = some (p.row + 1) ∧ q.d = p.d ∧ t.blk.on F.ENC_EVT_CAPPED n = true ∧
          t.blk.get F.ENC_S_CNT_CAPPED n k =
            min (2 ^ F.ENC_S_CNT_CAPPED.width - 1) (b.get F.ENC_S_CNT_CAPPED n k + 1)) ∧
      (¬ cut →
        ∃ t q, exec (.encodeRowDone dt enc row) s = .next t ∧ Claims.only s t dt [] ∧ (t.blk.enc n).pic = some q ∧
          q.row = p.row + 1 ∧ q.bits = used ∧ q.skip = p.skip ∧
          q.d = (if p.skip = none ∧ ¬ stop ∧ ¬ top ∧ p.budget * (p.row + 1) < used * nr then p.d + 1 else p.d))) ∧
    (∀ lead code : List Byte,
      let au := encUnit b n p lead code
      let ring := b.get F.ENC_S_RING_RING n k
      let head := b.get F.LAD_RING_HEAD_HEAD ring
      let a := encBase b n k + p.off
      let e := b.ringBase ring + 32 * head
      nr ≤ p.row → au.length ≤ p.fcap * 250 → lead.length ≤ 4 → encRingFree b n k = true → encWide b n k = false →
      dramFails b 8 (b.get F.ENC_S_BS_CFG_PART n k) a au.length true = false →
      dramFails b 8 (b.get F.LAD_RING_PART_PART ring) e 32 true = false →
      ∃ t : State, exec (.encodeFrameDone dt enc lead code) s = .next t ∧ t.clk = (s.pass dt).clk ∧ (t.blk.enc n).pic = none ∧
        t.blk.on F.ENC_STAT_BUSY n = false ∧ t.blk.get F.LAD_RING_HEAD_HEAD ring = (head + 1) % b.ringSize ring % 2 ^ 16 ∧
        t.mem.bytes e 32 = encEntry b n p au.length 0xFFFFFFFF ∧
        (∀ i, i < au.length → ¬ (e ≤ a + i ∧ a + i < e + 32) → au[i]? = some (t.mem.byte (a + i))) ∧
        ∀ x, ¬ (a ≤ x ∧ x < a + au.length) → ¬ (e ≤ x ∧ x < e + 32) → t.mem.byte x = s.mem.byte x)

/-- No share is enabled. -/
def Claims.noShares (b : Block) : Prop := ∀ e, e < 64 → b.on F.SPR_SH_CFG_EN e = false

/-- No peer-shared frame is under way here: no source of another part's frames holds one, and no share is enabled. -/
def Claims.noPeerFrames (b : Block) : Prop := (∀ s, b.transport s = 3 → (b.src s).frames = []) ∧ Claims.noShares b

/-- The unit's role is `role`, and whether it drives the token. -/
def Claims.roleIs (t : State) (role : Nat) (drives : Bool) : Prop :=
  t.blk.role = role ∧ t.blk.on F.PAIR_STAT_TOKEN_DRV = drives

/-- PAIR_LINK_CHANGE (R283), JOIN_WAIT_EXPIRY, TOKEN_ACQUIRE, TOKEN_LINE_CHANGE (R280, R306, R307),
WARDEN_WATCHDOG_EXPIRY, WARDEN_WATCHDOG_KICK (R308), SWITCH_TAKE, SWITCH_YIELD (R304). -/
def Obligations.TheTokenGovernsTheRole : Prop :=
  ∀ (dt : Nat) (s : State), s.blk.quiet = true → s.blk.pairMode = true →
    let b := s.blk
    let now := (s.pass dt).clk
    let drv := b.on F.PAIR_STAT_TOKEN_DRV
    let wait := if b.preferred then b.get F.PAIR_TOKEN_WAIT_PREF else b.get F.PAIR_TOKEN_WAIT_OTHER
    let waited := b.on F.PAIR_STAT_TOKEN_LINE = false ∧ ∃ t, b.pair.highSince = some t ∧ t + wait * msTick ≤ now.steady
    (s.blk.hold = .none →
      (∀ lanes : Fin 5, b.pair.copying = false → b.joinStage ≠ stageCopy → Claims.noPeerFrames b →
        let up := decide (2 ≤ lanes.val)
        ∃ t : State, exec (.pairLinkChange dt lanes) s = .next t ∧ Claims.within s t dt [5] ∧ t.blk.out = b.out ∧
          t.blk.get F.PAIR_STAT_LANES = lanes.val ∧ t.blk.linkUp = up ∧ t.blk.role = b.role ∧
          Claims.records s t (if up = b.linkUp then [] else [0x0506]) ∧
          (up ≠ b.linkUp → t.blk.on F.PAIR_EVT_LINK = true) ∧
          t.blk.joinStage = (if up = true ∧ b.linkUp = false ∧ b.role = roleStandby ∧ b.joinStage = stageLost then
            (if b.locked then stageHeat else stageLock)
          else if (up = false ∧ b.linkUp = true) ∧ b.role = roleStandby ∧ b.pair.hb ≠ 0 ∧ b.on F.PAIR_STAT_TOKEN_LINE = true then
            stageLost else b.joinStage)) ∧
      (∀ lit, b.pair.lit = some lit → b.role = roleStart → b.linkUp = false → b.pair.joinSeek = false →
        lit + b.get F.PAIR_TIME_JOIN_WAIT * msTick ≤ now.steady →
        (b.on F.PAIR_STAT_TOKEN_LINE = true →
          ∃ t : State, exec (.joinWaitExpiry dt) s = .next t ∧ Claims.within s t dt [5] ∧ Claims.records s t [0x0501] ∧
            Claims.roleIs t roleStandby drv ∧ t.blk.joinStage = stageLost) ∧
        (waited → ∃ t : State, exec (.joinWaitExpiry dt) s = .next t ∧ t.clk = now ∧ t.mem = s.mem ∧
          Claims.roleIs t roleActive true ∧ t.blk.on F.PAIR_STAT_TOKEN_LINE = true)) ∧
      (b.role = roleStart → b.pair.joinSeek = true → b.linkUp = false →
        (waited → ∃ t : State, exec (.tokenAcquire dt) s = .next t ∧ t.clk = now ∧ t.mem = s.mem ∧
          Claims.roleIs t roleActive true ∧ t.blk.on F.PAIR_STAT_TOKEN_LINE = true) ∧
        (¬ waited → ∃ t : State, exec (.tokenAcquire dt) s = .next t ∧ Claims.only s t dt []) ∧
        ∃ t : State, exec (.tokenLineChange dt true) s = .next t ∧ Claims.within s t dt [5] ∧ Claims.records s t [0x0501] ∧
          Claims.roleIs t roleStandby drv ∧ t.blk.joinStage = stageLost ∧ t.blk.on F.PAIR_STAT_TOKEN_LINE = true) ∧
      (b.pair.joinSeek = false → b.pair.wantToken = false → b.pair.hb ≠ 2 → ∀ low : Bool,
        ∃ t : State, exec (.tokenLineChange dt low) s = .next t ∧ Claims.only s t dt [5] ∧ Claims.roleIs t b.role drv ∧
          t.blk.on F.PAIR_STAT_TOKEN_LINE = (low || drv) ∧ t.blk.pair.partnerLow = low) ∧
      (b.role = roleActive → b.pair.kick + b.get F.PAIR_WDOG_MS * msTick ≤ now.steady →
        ∃ t : State, exec (.wardenWatchdogExpiry dt) s = .next t ∧ t.clk = now ∧ t.mem = s.mem ∧ Claims.records s t [0x0501] ∧
          Claims.roleIs t roleStandby false ∧
          t.blk.joinStage = (if b.linkUp then (if b.locked then stageHeat else stageLock) else stageLost)) ∧
      ((b.role ≠ roleActive ∨ now.steady < b.pair.kick + b.get F.PAIR_WDOG_MS * msTick) →
        ∃ t : State, exec (.wardenWatchdogExpiry dt) s = .next t ∧ Claims.only s t dt [])) ∧
    (∀ cls : Cls, Calm s 5 →
      (Writable s cls F.PAIR_WDOG_KICK.addr →
        ∃ t : State, exec (.wardenWatchdogKick dt cls) s = .next t ∧ Claims.only s t dt [2] ∧
          t.blk.pair.kick = (if b.role = roleActive then now.steady else b.pair.kick)) ∧
      (Writable s cls F.PAIR_SWITCH_CMD.addr →
        let takes := b.role = roleStandby ∧ (b.linkUp = true ∨ b.on F.PAIR_STAT_TOKEN_LINE = false)
        let yields := b.role = roleActive ∧ b.linkUp = true
        (takes → ∃ t : State, exec (.switchTake dt cls) s = .next t ∧ t.clk = now ∧ t.mem = s.mem ∧ t.blk.evq = b.evq ∧
          t.blk.role = b.role ∧ t.blk.pair.due = some (b.pair.count + 2, true, 2)) ∧
        (¬ takes → ∃ t : State, exec (.switchTake dt cls) s = .next t ∧ Claims.within s t dt [5, 2] ∧
          Claims.records s t [0x050E] ∧ t.blk.on F.PAIR_EVT_WIGN = true ∧ t.blk.pair.due = b.pair.due) ∧
        (yields → ∃ t : State, exec (.switchYield dt cls) s = .next t ∧ t.clk = now ∧ t.mem = s.mem ∧ t.blk.evq = b.evq ∧
          t.blk.role = b.role ∧ t.blk.pair.due = some (b.pair.count + 2, false, 3)) ∧
        (¬ yields → ∃ t : State, exec (.switchYield dt cls) s = .next t ∧ Claims.within s t dt [5, 2] ∧
          Claims.records s t [0x050E] ∧ t.blk.on F.PAIR_EVT_WIGN = true ∧ t.blk.pair.due = b.pair.due)))

/-- The health score (R301). -/
def Claims.score (now : Clk) (b : Block) : Nat :=
  let d (p : Prop) [Decidable p] (n : Nat) : Nat := if p then n else 0
  255 - (d (b.on F.PAIR_ST_FAILED = true) 255 + d (b.on F.PAIR_STAT_DIVERGENT = true) 128 + d (0 < recentOf now b 1) 64 +
    d (b.locked = false) 32 + d (0 < recentOf now b 0) 32 +
    d (∃ h : Head, b.on F.FET_HEAD_STAT_STOPPED h.val = true) 32 +
    d (∃ t, b.pair.unres = some t ∧ now.steady < t + 10 * sTick) 16 +
    d (b.get F.PAIR_ST_SCRUB_LIM < recentOf now b 2) 16 + d (pathDownNow b = true) 16)

/-- A report is kept in its 16 words with a good CRC (R300). -/
def Claims.goodReport (b : Block) : Prop :=
  (crc32c ((List.range 15).flatMap fun k => beBytes 4 (b.get F.PAIR_HR_OWN_HR k))).toNat = b.get F.PAIR_HR_OWN_HR 15

/-- HEALTH_REPORT_SEND, REFERENCE_TICK (R284, R300-R302), PAIR_HEALTH (R300, R302), PAIR_SWITCH (R304), PAIR_HEAT
(R287). -/
def Obligations.HealthIsScoredAndExchanged : Prop :=
  ∀ (dt : Nat) (s : State), s.blk.hold = .none → s.blk.quiet = true → s.blk.pairMode = true →
    let b := s.blk
    let now := (s.pass dt).clk
    (b.on F.PAIR_CFG_AUTO = false → b.pair.due = none → b.paired = false →
      let scored (t : State) : Prop :=
        Claims.within s t dt [5] ∧ t.blk.out = b.out ∧ t.blk.get F.PAIR_SCORE_OWN = Claims.score now b ∧
          Claims.goodReport t.blk ∧
          (b.pair.got = true → t.blk.evq = b.evq ∧ t.blk.get F.PAIR_STAT_MISS = b.get F.PAIR_STAT_MISS) ∧
          (b.pair.got = false → t.blk.get F.PAIR_STAT_MISS = min 15 (b.get F.PAIR_STAT_MISS + 1) ∧
            (b.get F.PAIR_STAT_MISS + 1 = b.get F.PAIR_TIME_HB_N → t.blk.on F.PAIR_EVT_HB = true ∧
              ∃ e ∈ t.blk.evq, e.code = 0x0502))
      (b.refRuns = true → b.pair.vfp ≠ b.frameOf b.refHead + 1 →
        lineReached (b.fmt b.refHead) (b.ras b.refHead) now.steady (b.fmt b.refHead).act = true →
        ∃ t : State, exec (.healthReportSend dt) s = .next t ∧ scored t ∧ t.blk.pair.vfp = b.frameOf b.refHead + 1) ∧
      (b.refRuns = false → b.pair.tick + 16667 * usTick ≤ now.steady → b.role ≠ roleStandby →
        (∀ h ∈ b.pair.held, b.get F.PAIR_HEAD_STAT_CAST h ≠ 8) →
        ∃ t : State, exec (.referenceTick dt) s = .next t ∧ scored t ∧ t.blk.pair.tick = now.steady ∧
          t.blk.pair.count = b.pair.count + 1)) ∧
    (∀ l : List Byte,
      let at_ (i n : Nat) : Nat := ofBe ((l.drop i).take n)
      let good := b.paired = true ∧ l.length = 64 ∧ (crc32c (l.take 60)).toNat = at_ 60 4
      (good → b.role ≠ roleStart → b.role ≠ roleActive → bit (at_ 3 1) 7 = b.on F.PAIR_CFG_PREF →
        ∃ t : State, exec (.pairHealth dt l) s = .next t ∧ Claims.only s t dt [5] ∧ t.blk.role = b.role ∧
          t.blk.get F.PAIR_STAT_PEER_ROLE = at_ 1 1 % 4 ∧ t.blk.on F.PAIR_STAT_PEER_VALID = true ∧
          t.blk.get F.PAIR_STAT_MISS = 0 ∧ t.blk.get F.PAIR_SCORE_PEER = at_ 2 1 ∧
          ∀ k, k < 16 → t.blk.get F.PAIR_HR_PEER_HR k = at_ (4 * k) 4) ∧
      (¬ good → ∃ t : State, exec (.pairHealth dt l) s = .next t ∧ Claims.only s t dt [])) ∧
    (b.paired = true → ∀ (active : Bool) (frame : BitVec 48),
      ∃ t cause, exec (.pairSwitch dt active frame) s = .next t ∧ Claims.only s t dt [] ∧
        t.blk.pair.due = some (b.pair.count + max 1 (frame.toNat - b.refF), !active, cause) ∧
        (active = false → cause = 3)) ∧
    (b.paired = true → b.joinStage = stageHeat → ∀ (num : Word) (epoch : BitVec 48) (corr : List (Head × Int)),
      ∃ t : State, exec (.pairHeat dt num epoch corr) s = .next t ∧ Claims.within s t dt [5, 36] ∧ Claims.records s t [0x0507] ∧
        t.blk.get F.PAIR_HEAT_HEAT = num.toNat ∧ t.blk.get F.FET_PKT_HEAT_HEAT = num.toNat ∧
        t.blk.get2 F.PAIR_EPOCH_LO_E_LO F.PAIR_EPOCH_HI_E_HI = epoch.toNat ∧ t.blk.on F.PAIR_STAT_HEAT_VALID = true ∧
        t.blk.joinStage = stageCopy)

/-- What a voter's seal decides on a divergence that waits (R297, R299). -/
def Claims.voted (s t : State) (dt h : Nat) (q : VoteWait) (v : Word) : Prop :=
  let outcome : Word := if q.own ≠ v then (if q.peer ≠ v then 2 else 0) else 1
  Claims.within s t dt [5] ∧ t.blk.out = s.blk.out ∧
    t.blk.evq = s.blk.evq ++ [{ code := 0x0505, sev := 4, origin := 5, p0 := BitVec.ofNat 32 h, p1 := outcome,
                                p2 := 0, p3 := BitVec.ofNat 32 q.frame }] ∧
    (outcome ≠ 1 → t.blk.on F.PAIR_STAT_DIVERGENT = true ∧ t.blk.on F.PAIR_HEAD_STAT_DIV h = true) ∧
    (outcome = 1 → t.blk.on F.PAIR_STAT_DIVERGENT = s.blk.on F.PAIR_STAT_DIVERGENT)

/-- PAIR_SEAL (R295, R296), SEAL_UNPAIRED (R295), VOTE_FRAME, PAIR_VOTE (R298), VOTE_TIMEOUT (R297). -/
def Obligations.SealsAreComparedAndVoted : Prop :=
  ∀ (dt : Nat) (head : Head) (frame : BitVec 48) (band : Fin 135) (v : Word) (s : State), s.blk.hold = .none →
    s.blk.quiet = true →
    let b := s.blk
    let h := head.val
    let now := (s.pass dt).clk
    let same (q : SealWait) : Bool := (q.head = h && q.frame = frame.toNat) && q.band = band.val
    let frames2 := 2 * (b.fmt h).den * sTick / max 1 (b.fmt h).num
    (b.paired = true →
      (∀ q own, b.pair.seals.find? same = some q → q.own = some own →
        let run := b.get F.PAIR_HEAD_STAT_RUN h
        (own = v →
          ∃ t : State, exec (.pairSeal dt head frame band v) s = .next t ∧ Claims.only s t dt [5] ∧
            t.blk.get F.PAIR_HEAD_STAT_RUN h = 0 ∧ t.blk.pair.seals = b.pair.seals.filter fun q => !same q) ∧
        (own ≠ v → (b.role ≠ roleStandby ∨ h ∉ b.pair.held) → run + 1 < b.get F.PAIR_TIME_DIV_N →
          ∃ t : State, exec (.pairSeal dt head frame band v) s = .next t ∧ Claims.only s t dt [5] ∧
            t.blk.get F.PAIR_HEAD_STAT_RUN h = min (2 ^ F.PAIR_HEAD_STAT_RUN.width - 1) (run + 1) ∧
            t.blk.pair.seals = b.pair.seals.filter fun q => !same q)) ∧
      ((∀ q ∈ b.pair.seals, same q = false) →
        ∃ t : State, exec (.pairSeal dt head frame band v) s = .next t ∧ Claims.only s t dt [] ∧
          t.blk.pair.seals = b.pair.seals ++ [{ head := h, frame := frame.toNat, band := band.val, own := none, peer := some v,
                                                since := now.steady }])) ∧
    (let old (q : SealWait) : Bool := q.head = h && q.since + frames2 ≤ now.steady
     ∃ t : State, exec (.sealUnpaired dt head) s = .next t ∧ Claims.only s t dt [5] ∧
       t.blk.pair.seals = b.pair.seals.filter (fun q => !old q) ∧ t.blk.get F.PAIR_HEAD_STAT_UNPAIRED h =
         min (2 ^ F.PAIR_HEAD_STAT_UNPAIRED.width - 1) (b.get F.PAIR_HEAD_STAT_UNPAIRED h + (b.pair.seals.filter old).length)) ∧
    (∀ pos : Fin 4,
      let waits (q : VoteWait) : Bool := (q.head = h && q.frame = frame.toNat) && q.band = band.val
      (b.paired = false → votesFor b h pos.val 0 = true →
        (∀ q, b.pair.votes.find? waits = some q →
          ∃ t : State, exec (.voteFrame dt pos head frame band v) s = .next t ∧ Claims.voted s t dt h q v) ∧
        ((∀ q ∈ b.pair.votes, waits q = false) →
          ∃ t : State, exec (.voteFrame dt pos head frame band v) s = .next t ∧ Claims.only s t dt [] ∧
            (h, frame.toNat, band.val, v) ∈ t.blk.pair.voters)) ∧
      (b.paired = true → votesFor b h pos.val 1 = true → ∀ q, b.pair.votes.find? waits = some q →
        ∃ t : State, exec (.pairVote dt pos head frame band v) s = .next t ∧ Claims.voted s t dt h q v)) ∧
    (let old (q : VoteWait) : Bool := q.head = h && q.since + frames2 ≤ now.steady
     ∃ t : State, exec (.voteTimeout dt head) s = .next t ∧ Claims.only s t dt [] ∧
       t.blk.pair.votes = b.pair.votes.filter (fun q => !old q) ∧
       t.blk.pair.selfVotes = b.pair.selfVotes ++ b.pair.votes.filter old ∧
       (b.pair.votes.filter old ≠ [] → t.blk.selfCheck.isSome = true))

/-- PAIR_LOSS (R289), PAIR_READY (R290), AGREE_WAIT_EXPIRY (R291), MIRRORED_WRITE (R292, R294), PAIR_JOURNAL (R293), PAIR_DIM
(R204). -/
def Obligations.InputsAreAgreedAndMirrored : Prop :=
  ∀ (dt : Nat) (s : State), s.blk.quiet = true →
    let b := s.blk
    let now := (s.pass dt).clk
    (s.blk.hold = .none → b.paired = true → Claims.noPeerFrames b → ∀ (src : Src) (rtpts : Word), b.srcStreams src.val = false →
      b.transport src.val ≠ 3 →
      let x := b.src src.val
      (∀ (lost : List Nat) (ov : Bool),
        (∀ f, x.frames.find? (fun f => f.rtpts = rtpts && f.awaits) = some f →
          ((ov = true ∨ 255 < f.lost.length) →
            ∃ t : State, exec (.pairLoss dt src rtpts lost ov) s = .next t ∧ Claims.only s t dt [] ∧
              (t.blk.src src.val).frames = x.frames.filter (·.number ≠ f.number)) ∧
          (ov = false → f.lost.length ≤ 255 → x.held = [] →
            ∃ t : State, exec (.pairLoss dt src rtpts lost ov) s = .next t ∧ Claims.only s t dt [] ∧
              ∃ g ∈ (t.blk.src src.val).frames, g.number = f.number ∧ g.awaits = false ∧ g.lost = f.lost)) ∧
        ((∀ f ∈ x.frames, f.rtpts = rtpts → f.awaits = false) →
          ∃ t : State, exec (.pairLoss dt src rtpts lost ov) s = .next t ∧ Claims.only s t dt [] ∧
            (src.val, rtpts, lost, ov) ∈ t.blk.peerLosses)) ∧
      (∀ ptp : Nat,
        let waits (i : Nat) : Bool :=
          let y := b.buf (bufKey (b.poolOf src.val) i)
          ((y.state = .ready && y.src = src.val) && y.rtpts = rtpts.toNat) && y.awaits
        (∀ i, (List.range 16).find? waits = some i →
          ∃ t : State, exec (.pairReady dt src rtpts ptp) s = .next t ∧ Claims.only s t dt [] ∧
            (t.blk.buf (bufKey (b.poolOf src.val) i)).awaits = false ∧
            (t.blk.buf (bufKey (b.poolOf src.val) i)).peerPtp = some ptp) ∧
        ((List.range 16).find? waits = none →
          ∃ t : State, exec (.pairReady dt src rtpts ptp) s = .next t ∧ Claims.only s t dt [] ∧
            (src.val, rtpts, ptp) ∈ t.blk.peerReadys))) ∧
    (s.blk.hold = .none → Claims.noPeerFrames b → ∀ src : Src,
      let w := b.get F.PAIR_AGREE_WAIT_MS * msTick
      ∃ t : State, exec (.agreeWaitExpiry dt src) s = .next t ∧ Claims.within s t dt [5] ∧
        (∀ f ∈ (t.blk.src src.val).frames, ∀ c, f.complete = some c → c + w ≤ now.steady → f.awaits = false) ∧
        ((∃ f ∈ (b.src src.val).frames, f.awaits = true ∧ ∃ c, f.complete = some c ∧ c + w ≤ now.steady) →
          t.blk.on F.PAIR_EVT_AGREE = true)) ∧
    (∀ (cls : Cls) (cru : Cru) (m : Fin 96) (v : Word),
      let p := F.CRU_M_DST_XY_X.at cru.val m.val
      let lead := (mirroredGroup b p).2
      Writable s cls p → b.pairMode = true → b.on F.XSP_STAT_SEALED = true → 1 ≤ cls.val → cls.val ≤ 4 →
      (b.role = roleActive → b.linkUp = false →
        ∃ t : State, exec (.mirroredWrite dt cls (BitVec.ofNat 40 (periphBase + p)) v) s = .next t ∧ Claims.only s t dt [2] ∧
          t.blk.pendF = b.pendF ∧ ∃ e, t.blk.pair.journal = b.pair.journal ++ [e] ∧ e.addr = p ∧ e.v = v ∧
            e.target = (b.fidx lead + b.get F.PAIR_TIME_AHEAD) % 2 ^ 48) ∧
      (b.role = roleStandby →
        ∃ t : State, exec (.mirroredWrite dt cls (BitVec.ofNat 40 (periphBase + p)) v) s = .next t ∧ Claims.only s t dt [5, 2] ∧
          t.blk.pendF = b.pendF ∧ t.blk.pair.journal = b.pair.journal ∧ t.blk.on F.PAIR_EVT_WIGN = true)) ∧
    (s.blk.hold = .none → b.paired = true → ∀ (cru : Cru) (m : Fin 96) (v : Word) (g : Fin 64) (frame : BitVec 48),
      let p := F.CRU_M_DST_XY_X.at cru.val m.val
      let lead := b.slotHead (g.val / 16) (b.get F.CRU_GRP_CFG_LEAD (g.val / 16) (g.val % 16))
      (b.headRuns lead = false →
        ∃ t : State, exec (.pairJournal dt (BitVec.ofNat 40 (periphBase + p)) v g frame) s = .next t ∧ Claims.only s t dt [] ∧
          t.blk.pendF = b.pendF ∧ ∃ e, t.blk.pair.journal = b.pair.journal ++ [e] ∧ e.addr = p ∧ e.v = v ∧
            e.target = frame.toNat ∧ e.head = lead) ∧
      (b.headRuns lead = true → b.joinStage ≠ stageCopy → frame.toNat ≤ b.fidx lead + 1 →
        ∃ t q, exec (.pairJournal dt (BitVec.ofNat 40 (periphBase + p)) v g frame) s = .next t ∧ Claims.within s t dt [32 + cru.val] ∧
          Claims.records s t [0x050B] ∧ t.blk.pendF = b.pendF ++ [q] ∧ q.addr = p ∧ q.val = v ∧
          t.blk.on F.CRU_GRP_STAT_REJ cru.val (b.get F.CRU_M_CTL_GROUP cru.val m.val) = false)) ∧
    (s.blk.hold = .none → b.paired = true → ∀ (head : Head) (req : Fin 4) (frame : BitVec 48), req = 1 ∨ req = 2 →
      ∃ t : State, exec (.pairDim dt head req frame) s = .next t ∧ Claims.only s t dt [] ∧
        (t.blk.fet head.val).dims = (b.fet head.val).dims ++
          [{ lit := decide (req = 1), target := frame.toNat, late := decide (frame.toNat ≤ b.fidx head.val) }])

/-- PAIR_REPAIR_REQUEST, PAIR_REPAIR_ANSWER (R288), PAIR_COPY, PAIR_COPY_END, REJOIN_LOCK_REACHED (R311), PAIR_DESK
(R447). -/
def Obligations.RepairAndRejoin : Prop :=
  ∀ (dt : Nat) (s : State), s.blk.hold = .none → s.blk.quiet = true →
    let b := s.blk
    (b.paired = true → ∀ (src : Src) (seq : BitVec 32),
      (b.sprUp 0 = true → (b.spr 0).waiting = [] → (b.spr 0).unacked = [] → b.jtag.instr ≠ .extest →
        ∃ t f, exec (.pairRepairRequest dt src seq) s = .next t ∧ Claims.within s t dt [] ∧ t.blk.evq = b.evq ∧
          t.blk.out = b.out ++ [.sprue 0 f false (b.spr 0).ack (frameOctets f false (b.spr 0).ack)] ∧ f.chan = 3 ∧ f.seq = (b.spr 0).nextTx ∧
          f.body = .pair (.repairAnswer src seq
            (((dropHeld (s.pass dt).clk (b.src src.val).held).find? fun h => h.ext % 2 ^ 32 = seq.toNat).map (·.pkt)))) ∧
      (let n := missingExt (b.src src.val) seq.toNat
       ((∃ g ∈ (b.src src.val).gaps, g.repair = true ∧ g.lo ≤ n ∧ n < g.lo + g.n) →
         ∃ t : State, exec (.pairRepairAnswer dt src seq none) s = .next t ∧ Claims.only s t dt [5] ∧
           t.blk.get F.PAIR_REPAIR_NONE = min (2 ^ F.PAIR_REPAIR_NONE.width - 1) (b.get F.PAIR_REPAIR_NONE + 1)) ∧
       ((∀ g ∈ (b.src src.val).gaps, g.repair = true → n < g.lo ∨ g.lo + g.n ≤ n) → ∀ p,
         ∃ t : State, exec (.pairRepairAnswer dt src seq p) s = .next t ∧ Claims.only s t dt []))) ∧
    (∀ (p : Nat) (v : Word),
      ∃ t : State, exec (.pairCopy dt [(periphBase + p, v)]) s = .next t ∧ t.clk = (s.pass dt).clk ∧ t.mem = s.mem ∧
        t.blk.evq = b.evq ∧ (∀ a, a ≠ p → t.blk.reg a = b.reg a) ∧
        t.blk.reg p = (if b.joinStage = stageCopy then merge (b.reg p) (BitVec.ofNat 32 (mirroredMask p)) v else b.reg p)) ∧
    (b.joinStage = stageCopy → ∀ frame : BitVec 48,
      ∃ t : State, exec (.pairCopyEnd dt frame) s = .next t ∧ Claims.only s t dt [5] ∧ t.blk.joinStage = stageCast ∧
        t.blk.pair.journal = b.pair.journal.filter (fun j => frame.toNat < j.target) ∧
        ∀ h : Head, t.blk.get F.PAIR_HEAD_STAT_CAST h.val = 0) ∧
    (b.joinStage = stageLock →
      ∃ t : State, exec (.rejoinLockReached dt) s = .next t ∧ Claims.only s t dt [5] ∧
        t.blk.joinStage = (if b.locked then stageHeat else stageLock)) ∧
    (b.paired = true → ∀ (n : Fin 960) (v : Nat),
      ∃ t : State, exec (.pairDesk dt [(n.val, v)]) s = .next t ∧ Claims.only s t dt [20] ∧
        nodeGet t.blk F.DSK_MIR_MIR0 n.val = v % 2 ^ 16 ∧
        ∀ m, m < 960 → m ≠ n.val → nodeGet t.blk F.DSK_MIR_MIR0 m = nodeGet b F.DSK_MIR_MIR0 m)

/-- A register word at offset `p` whose write is let through, has no trigger, and follows no rule of its own. -/
def Claims.plainReg (s : State) (cls p : Nat) (r : RegRow) (ix : List Nat) : Prop :=
  Writable s cls p ∧ regAt p = some (r, ix) ∧ p < 0x600000 ∧ p % 4 = 0 ∧ windowAssigned (p / 0x10000) = true ∧
    p / 0x10000 ≠ 6 ∧ p / 0x10000 ≠ 2 ∧ r.act = .plain ∧ r.w1c = 0 ∧ r.wo = 0 ∧ r.rw ≠ 0 ∧ r.rw < 2 ^ 32 ∧
    r.addr ∉ [F.ENC_S_QP_QI.addr, F.PAIR_TOKEN_WAIT_PREF.addr, F.ETH_DEF_ACTION.addr, F.DEC_CTX_CFG_ENTRY.addr,
      F.MEM_CFG_DENSITY.addr, F.FET_HEAD_DIM_LEVEL.addr, F.CRU_M_CTL_INPUT.addr]

/-- REGISTER_WRITE of a register, CLASS_L_TAKE_EFFECT (R14-R21, R525), REMAP_SWAP (R401). -/
def Obligations.WritesTakeEffectAsTheirClassStates : Prop :=
  ∀ (dt : Nat) (cls : Cls) (v : Word) (s : State), s.blk.quiet = true →
    let b := s.blk
    (∀ (p : Nat) (r : RegRow) (ix : List Nat), Claims.plainReg s cls p r ix →
      let write : Instr := .registerWrite dt cls (BitVec.ofNat 40 (periphBase + p)) v none
      let lock := lockedBits b r ix
      (r.multi = .none → r.l = 0 → r.f = 0 →
        let ignored := decide ((v ^^^ b.reg p) &&& (lock &&& BitVec.ofNat 32 r.rw) ≠ 0)
        ∃ t : State, exec write s = .next t ∧ Claims.only s t dt [p / 0x10000, 2] ∧ t.blk.resp = .done ∧
          t.blk.reg p = merge (b.reg p) (BitVec.ofNat 32 ((r.s ||| r.o) &&& r.rw) &&& ~~~lock) v ∧
          ∀ a, a ≠ p → a / 0x10000 ≠ 2 → t.blk.reg a = (if ignored then b.wign p else b).reg a) ∧
      (r.multi = .none → r.s = 0 → r.o = 0 → lock = 0 →
        (r.f = 0 → r.l ≠ 0 →
          ∃ t : State, exec write s = .next t ∧ Claims.only s t dt [2] ∧ t.blk.resp = .done ∧
            t.blk.pendL = b.pendL ++ [{ addr := p, mask := BitVec.ofNat 32 r.l, val := v, head := governor b p,
                                          since := some (s.pass dt).clk.steady }] ∧
            t.blk.pendF = b.pendF) ∧
        (r.l = 0 → r.f ≠ 0 → mirrored b cls.val p = false → (srcOfField p = none ∨ b.on F.XSP_STAT_SEALED = true) →
          ∃ t : State, exec write s = .next t ∧ Claims.only s t dt [p / 0x10000, 2] ∧ t.blk.resp = .done ∧
            t.blk.reg p = b.reg p ∧ t.blk.pendL = b.pendL ∧
            t.blk.pendF = b.pendF ++ [{ addr := p, mask := BitVec.ofNat 32 r.f, val := v, since := some (s.pass dt).clk.steady }])) ∧
      (r.multi = .low → lock = 0 → mirrored b cls.val p = false →
        ∃ t : State, exec write s = .next t ∧ Claims.only s t dt [2] ∧ t.blk.resp = .done ∧
          t.blk.stage.lookup p = some (v &&& BitVec.ofNat 32 r.rw)) ∧
      (∀ k, r.multi = .high 1 k → r.l = 0 → r.f = 0 → lock = 0 → k &&& (r.s ||| r.o) ≠ 0 → 4 ≤ p →
        ∃ t : State, exec write s = .next t ∧ Claims.only s t dt [p / 0x10000, 2] ∧ t.blk.resp = .done ∧
          t.blk.reg p = merge (b.reg p) (BitVec.ofNat 32 ((r.s ||| r.o) &&& r.rw)) v ∧
          t.blk.reg (p - 4) = (b.stage.lookup (p - 4)).getD (lastWritten b (p - 4)) ∧
          ∀ a, a ≠ p → a ≠ p - 4 → a / 0x10000 ≠ 2 → t.blk.reg a = b.reg a)) ∧
    (s.blk.hold = .none → ∀ win : Fin 96, win ≠ 24 →
      ((∀ q ∈ b.pendL, q.addr / 0x10000 ≠ win.val) →
        ∃ t : State, exec (.classLTakeEffect dt win) s = .next t ∧ Claims.only s t dt [] ∧ t.blk.pendL = b.pendL) ∧
      (∀ (q : Pend) (r : RegRow) (ix : List Nat), b.pendL = [q] → q.addr / 0x10000 = win.val → isPanelField q.addr = false →
        q.head = none → regAt q.addr = some (r, ix) → r.act = .plain → r.multi = .none →
        ∃ t : State, exec (.classLTakeEffect dt win) s = .next t ∧ t.clk = (s.pass dt).clk ∧ t.mem = s.mem ∧ t.blk.evq = b.evq ∧
          t.blk.pendL = [] ∧ t.blk.reg q.addr = merge (b.reg q.addr) (q.mask &&& BitVec.ofNat 32 r.rw) q.val ∧
          ∀ a, a ≠ q.addr → t.blk.reg a = b.reg a)) ∧
    (∀ swap : Bool, Writable s 0 F.SYS_REMAP_SWAP.addr → Calm s 0 →
      ∃ t : State, exec (.remapSwap dt 0 swap) s = .next t ∧ Claims.only s t dt [0, 2] ∧ t.blk.on F.SYS_REMAP_SWAP = swap ∧
        ∀ a, a ≠ F.SYS_REMAP_SWAP.addr → a / 0x10000 ≠ 2 → t.blk.reg a = b.reg a)

/-- What the default target logs (R404): the count and the flag, and the address and class unless the flag was set. -/
def Claims.logged (s t : State) (dt code cls a : Nat) (p3 : Nat) (flag cnt lo hi clsF wrF : Fld) (wr : Bool) : Prop :=
  Claims.within s t dt [2] ∧ t.blk.resp = .error ∧ t.blk.on flag = true ∧
    t.blk.get cnt = min (2 ^ cnt.width - 1) (s.blk.get cnt + 1) ∧
    (s.blk.on flag = false → t.blk.get2 lo hi = a ∧ t.blk.get clsF = cls ∧ t.blk.on wrF = wr) ∧
    (s.blk.on flag = true → t.blk.get2 lo hi = s.blk.get2 lo hi) ∧
    t.blk.evq = s.blk.evq ++ (if s.blk.limitOk (s.pass dt).clk (code * 256 + cls) sTick then
      [{ code := code, sev := 3, origin := 2, p0 := BitVec.ofNat 32 a, p1 := BitVec.ofNat 32 (a / 2 ^ 32),
         p2 := BitVec.ofNat 32 cls, p3 := BitVec.ofNat 32 p3 }] else [])

/-- BAD_WIDTH_ACCESS (R7, R404), DECODE_MISS (R404), and REGISTER_WRITE and REGISTER_READ that are refused (R8, R32, R391,
R406, R414). -/
def Obligations.RefusedAccessesHaveNoEffect : Prop :=
  ∀ (dt : Nat) (cls : Cls) (addr : BitVec 40) (v : Word) (wr : Bool) (s : State), s.blk.hold = .none → s.blk.quiet = true →
    let b := s.blk
    let a := addr.toNat
    let region := decodeAddr (b.on F.SYS_REMAP_SWAP) a
    (issues b cls.val = true →
      (∀ (log2 : Fin 7) (p : Nat), region = .periph p → (log2 ≠ 2 ∨ a % 4 ≠ 0) →
        ∃ t : State, exec (.badWidthAccess dt cls addr log2 wr) s = .next t ∧
          Claims.logged s t dt 0x0202 cls.val a (2 ^ log2.val) F.MTX_EVT_BAD F.MTX_CNT_BAD F.MTX_BAD_LO_ADDR_LO
            F.MTX_BAD_HI_ADDR_HI F.MTX_BAD_HI_CLASS F.MTX_BAD_HI_WRITE wr) ∧
      (region = .miss →
        ∃ t : State, exec (.decodeMiss dt cls addr wr) s = .next t ∧
          Claims.logged s t dt 0x0201 cls.val a 0 F.MTX_EVT_MISS F.MTX_CNT_MISS F.MTX_MISS_LO_ADDR_LO F.MTX_MISS_HI_ADDR_HI
            F.MTX_MISS_HI_CLASS F.MTX_MISS_HI_WRITE wr) ∧
      (∀ p, region = .periph p → a % 4 = 0 →
        (periphOk b cls.val (p / 0x10000) true = false →
          ∃ t : State, exec (.registerWrite dt cls addr v none) s = .next t ∧ Claims.within s t dt [2, 3] ∧
            t.blk.on F.FLK_EVT_VIOL = true ∧
            t.blk.resp = (if b.get F.FLK_P_ATTR_ORDER (p / 0x10000) < 2 then .done else .error)) ∧
        (periphOk b cls.val (p / 0x10000) false = false →
          ∃ t : State, exec (.registerRead dt cls addr 0) s = .next t ∧ Claims.within s t dt [2, 3] ∧
            t.blk.on F.FLK_EVT_VIOL = true ∧ t.blk.resp = .error) ∧
        (periphOk b cls.val (p / 0x10000) true = true → cls ≠ 0 → wardenField p v = true →
          ∃ t : State, exec (.registerWrite dt cls addr v none) s = .next t ∧ Claims.within s t dt [2] ∧ Claims.records s t [0x0303]) ∧
        (Writable s cls p → p / 0x10000 ≠ 6 → p / 0x10000 ≠ 2 →
          (regAt p = none ∨ ∃ r ix, regAt p = some (r, ix) ∧ r.rw = 0 ∧ r.wo = 0 ∧ r.w1c = 0) →
          ∃ t : State, exec (.registerWrite dt cls addr v none) s = .next t ∧ Claims.only s t dt [2] ∧ t.blk.resp = .done) ∧
        (periphOk b cls.val (p / 0x10000) false = true → foreignBlock cls.val p = true →
          ∃ t : State, exec (.registerRead dt cls addr 0) s = .next t ∧ Claims.only s t dt [2] ∧ t.blk.resp = .error))) ∧
    (issues b cls.val = false → ∀ i ∈ [Instr.registerWrite dt cls addr v none, .registerRead dt cls addr 0,
        .badWidthAccess dt cls addr 1 wr, .decodeMiss dt cls addr wr],
      ∃ t : State, exec i s = .next t ∧ Claims.only s t dt [] ∧ t.blk.resp = b.resp)

/-- A word of an on-die memory or of DRAM: its address in the memory for an address `a`, four bytes that are granted. -/
def Claims.memWord (s : State) (cls a x : Nat) (wr : Bool) : Prop :=
  (∃ off, off + 3 < 0x400000 ∧ x = workingBase + off ∧
      a = (if s.blk.on F.SYS_REMAP_SWAP then off else 0x10000000 + off) ∧ onDieRefused s.blk cls a 4 wr = none) ∨
    (∃ off, off + 3 < 0x800000 ∧ x = scratchBase + off ∧ a = 0x20000000 + off ∧ onDieRefused s.blk cls a 4 wr = none ∧
      (secure (off + 3) = false ∨ s.blk.on F.SPD_STAT_WIPING = false)) ∨
    (0x100000000 ≤ a ∧ a + 3 < 0x1100000000 ∧ x = a ∧ dramCheck s.blk cls 0 a 4 wr = none ∧ dramRange s.blk a 4 = none)

/-- REGISTER_READ (R8, R11, R15, R524) and both accesses to memory (R399, R401, R410). -/
def Obligations.ReadsReturnWhatTheAccessCodesSay : Prop :=
  ∀ (dt : Nat) (cls : Cls) (s : State), s.blk.hold = .none → s.blk.quiet = true →
    let b := s.blk
    (∀ p, Readable s cls p → p < 0x600000 → p % 4 = 0 → windowAssigned (p / 0x10000) = true → p / 0x10000 ≠ 2 →
      let read : Instr := .registerRead dt cls (BitVec.ofNat 40 (periphBase + p)) 0
      let reads (v : Word) : Prop := ∃ t : State, exec read s = .next t ∧ Claims.only s t dt [2] ∧ t.blk.resp = .data v
      (b.latch.lookup p = none →
        (regAt p = none → reads 0) ∧
        ∀ r ix, regAt p = some (r, ix) → r.multi = .none → r.ro = 0 → r.w1c = 0 →
          (r.rw = 0 → reads 0) ∧
          (r.wo = 0 → r.l = 0 → r.f = 0 → reads (b.reg p &&& BitVec.ofNat 32 r.rw)) ∧
          (r.wo = 0 → r.rw = (r.l ||| r.f) → reads (lastWritten b p &&& BitVec.ofNat 32 r.rw))) ∧
      (∀ r ix, regAt p = some (r, ix) → r.latch = true →
        ∃ t : State, exec read s = .next t ∧ Claims.only s t dt [2] ∧
          t.blk.latch.lookup (p + 4) = some (regView (s.pass dt).clk b (p + 4))) ∧
      (∀ r ix x, 4 ≤ p → regAt (p - 4) = some (r, ix) → r.latch = true → b.latch.lookup p = some x →
        (∀ r' ix', regAt p = some (r', ix') → r'.latch = false) → reads x)) ∧
    (issues b cls.val = true → ∀ (a x : Nat), a < 2 ^ 40 →
      (Claims.memWord s cls.val a x false →
        ∃ t : State, exec (.registerRead dt cls (BitVec.ofNat 40 a) 0) s = .next t ∧ Claims.only s t dt [2] ∧
          t.blk.resp = .data (BitVec.ofNat 32 (ofLe (s.mem.bytes x 4)))) ∧
      (Claims.memWord s cls.val a x true → ∀ v : Word,
        ∃ t : State, exec (.registerWrite dt cls (BitVec.ofNat 40 a) v none) s = .next t ∧ t.clk = (s.pass dt).clk ∧
          t.mem.bytes x 4 = leBytes 4 v.toNat ∧ (∀ y, y < x ∨ x + 4 ≤ y → t.mem.byte y = s.mem.byte y) ∧
          (∀ y, t.mem.flashByte y = s.mem.flashByte y) ∧ t.blk.resp = .done ∧ t.blk.evq = b.evq ∧
          ∀ y, y / 0x10000 ≠ 2 → t.blk.reg y = b.reg y))

/-- The aliases of the scratchpad (R379): the change of one word, its read, the Flask's rules, and another width. -/
def Obligations.AliasesSetAndClearBits : Prop :=
  ∀ (dt : Nat) (cls : Cls) (off : Fin 0x800000) (v : Word) (portB : Option (BitVec 4 × Word)) (s : State),
    s.blk.hold = .none → s.blk.quiet = true → issues s.blk cls.val = true → off.val % 4 = 0 →
    (secure off.val = false ∨ s.blk.on F.SPD_STAT_WIPING = false) →
    let x := scratchBase + off.val
    let word := BitVec.ofNat 32 (ofLe (s.mem.bytes x 4))
    let aliasOf (clear : Bool) : Nat := (if clear then 0x28000000 else 0x24000000) + off.val
    let after (w : Word) : List Byte := match portB with
      | some q => if dualPort off.val then overlay (leBytes 4 w.toNat) q else leBytes 4 w.toNat
      | none => leBytes 4 w.toNat
    let changes (i : Instr) (w : Word) : Prop :=
      ∃ t : State, exec i s = .next t ∧ t.clk = (s.pass dt).clk ∧ t.mem.bytes x 4 = after w ∧
        (∀ y, y < x ∨ x + 4 ≤ y → t.mem.byte y = s.mem.byte y) ∧ (∀ y, t.mem.flashByte y = s.mem.flashByte y) ∧
        t.blk.resp = .done ∧ t.blk.evq = s.blk.evq ∧ ∀ a, a / 0x10000 ≠ 2 → t.blk.reg a = s.blk.reg a
    (onDieRefused s.blk cls.val x 4 true = none →
      changes (.bitSetAliasWrite dt cls off v portB) (word ||| v) ∧
      changes (.bitClearAliasWrite dt cls off v portB) (word &&& ~~~v)) ∧
    (onDieRefused s.blk cls.val x 4 true ≠ none → portB = none →
      ∀ i ∈ [Instr.bitSetAliasWrite dt cls off v portB, .bitClearAliasWrite dt cls off v portB],
        ∃ t : State, exec i s = .next t ∧ Claims.within s t dt [2, 3] ∧ t.blk.resp = .error) ∧
    (onDieRefused s.blk cls.val x 4 false = none → ∀ clear : Bool,
      ∃ t : State, exec (.registerRead dt cls (BitVec.ofNat 40 (aliasOf clear)) 0) s = .next t ∧ Claims.only s t dt [2] ∧
        t.blk.resp = .data word) ∧
    ∀ (clear wr : Bool) (log2 : Fin 7), log2 ≠ 2 →
      ∃ t : State, exec (.badWidthAccess dt cls (BitVec.ofNat 40 (aliasOf clear)) log2 wr) s = .next t ∧ Claims.within s t dt [2] ∧
        t.blk.resp = .error

/-- No enabled Sprue link names the lane. -/
def Claims.unnamed (b : Block) (l : Nat) : Prop :=
  ∀ k, k < 3 → b.on F.SPR_K_CTL_EN k = true → ∀ j, j < 4 → linkLane b k j ≠ l

/-- LANE_UP, LANE_DOWN (R320), PLL_UNLOCKED, PLL_LOCKED (R317), CAGE_SCAN (R346, R347). -/
def Obligations.LanesRiseAndFall : Prop :=
  ∀ (dt : Nat) (s : State), s.blk.hold = .none → s.blk.quiet = true → Claims.noShares s.blk →
    let b := s.blk
    (∀ lane : Lane,
      let l := lane.val
      let q := l / 4
      let i := l % 4
      let sat (f : Fld) (x : Nat) : Nat := min (2 ^ f.width - 1) x
      (b.laneUp l = false → laneReady b l = true →
        ∃ t : State, exec (.laneUp dt lane) s = .next t ∧ Claims.within s t dt [64 + q] ∧ t.blk.out = b.out ∧ t.blk.laneUp l = true ∧
          t.blk.get F.LNK_L_STAT_CAUSE q i = 0 ∧ laneInEffect t.blk l = (b.laneMode l, laneRate b l) ∧ t.blk.on F.LNK_EVT_LANE_UP q = true ∧ Claims.records s t [0x4001]) ∧
      ((b.laneUp l = true ∨ laneReady b l = false) → ∃ t : State, exec (.laneUp dt lane) s = .next t ∧ Claims.only s t dt []) ∧
      (Claims.unnamed b l → ∀ cause : BitVec 6,
        let old := b.get F.LNK_L_STAT_CAUSE q i
        let new := (if cause.getLsbD 5 then cause.toNat % 32 ||| 1 else cause.toNat % 32)
        let lost := (bit new 0 || bit new 4) && !bit old 0 && !bit old 4
        ∃ t : State, exec (.laneDown dt lane cause) s = .next t ∧ Claims.within s t dt [64 + q] ∧ t.blk.out = b.out ∧
          t.blk.laneUp l = false ∧ t.blk.get F.LNK_L_STAT_CAUSE q i = new ∧
          t.blk.get F.LNK_L_CNT_LOSS q i = sat F.LNK_L_CNT_LOSS (b.get F.LNK_L_CNT_LOSS q i + b2n lost) ∧
          t.blk.get F.LNK_L_CNT_DOWNS q i = sat F.LNK_L_CNT_DOWNS (b.get F.LNK_L_CNT_DOWNS q i + b2n (b.laneUp l)) ∧
          (b.laneUp l = true → t.blk.on F.LNK_EVT_LANE_DOWN q = true) ∧
          Claims.records s t (if b.laneUp l then [0x4002] else []))) ∧
    (∀ quad : Fin 12,
      let q := quad.val
      (∀ ref : Bool, (∀ i, i < 4 → Claims.unnamed b (4 * q + i)) →
        (b.on F.LNK_Q_STAT_PLL_LOCK q = true →
          ∃ t : State, exec (.pllUnlocked dt quad ref) s = .next t ∧ Claims.within s t dt [64 + q] ∧ t.blk.out = b.out ∧
            t.blk.on F.LNK_Q_STAT_PLL_LOCK q = false ∧ t.blk.on F.LNK_Q_STAT_REF_ACT q = ref ∧
            t.blk.on F.LNK_EVT_PLL q = true ∧ (∀ i, i < 4 → t.blk.laneUp (4 * q + i) = false) ∧
            Claims.records s t (0x4003 :: List.replicate ((List.range 4).filter fun i => b.laneUp (4 * q + i)).length 0x4002)) ∧
        (b.on F.LNK_Q_STAT_PLL_LOCK q = false →
          ∃ t : State, exec (.pllUnlocked dt quad ref) s = .next t ∧ Claims.only s t dt [64 + q] ∧
            t.blk.on F.LNK_Q_STAT_PLL_LOCK q = false ∧ t.blk.on F.LNK_Q_STAT_REF_ACT q = ref)) ∧
      (b.quadOn q = true →
        ∃ t : State, exec (.pllLocked dt quad) s = .next t ∧ Claims.only s t dt [64 + q] ∧ t.blk.on F.LNK_Q_STAT_PLL_LOCK q = true ∧
          t.blk.on F.LNK_Q_STAT_REF_ACT q = true) ∧
      (b.quadOn q = false → ∃ t : State, exec (.pllLocked dt quad) s = .next t ∧ Claims.only s t dt [])) ∧
    (∀ inputs : BitVec 64,
      let due := ∀ at_, b.lanes.scanAt = some at_ → at_ + b.get F.LNK_CAGE_CTL_PERIOD 0 * usTick ≤ (s.pass dt).clk.steady
      ((b.on F.LNK_CAGE_CTL_EN 0 = false ∨ ¬ due) →
        ∃ t : State, exec (.cageScan dt inputs) s = .next t ∧ Claims.only s t dt []) ∧
      (b.on F.LNK_CAGE_CTL_EN 0 = true → due → (∀ l : Lane, b.laneUp l.val = false) →
        let a := inputs.toNat % 2 ^ b.get F.LNK_CAGE_CTL_LEN 0
        ∃ t : State, exec (.cageScan dt inputs) s = .next t ∧ Claims.within s t dt ((List.range 12).map (64 + ·)) ∧
          t.blk.out = b.out ∧
          t.blk.lanes.scans = a :: b.lanes.scans.take 1 ∧
          (∀ x y rest, b.lanes.scans = x :: y :: rest → ∀ i, i < 64 →
            bit (cageInputs t.blk) i =
              (if bit a i = bit x i ∧ bit x i = bit y i then bit a i else bit (cageInputs b) i)) ∧
          (b.lanes.scans.length < 2 → cageInputs t.blk = cageInputs b) ∧
          t.blk.get F.LNK_CAGE_OUT_LO_OUT 0 + 2 ^ 32 * t.blk.get F.LNK_CAGE_OUT_HI_OUT 0 = cageOutputs b ∧
          (∀ l : Lane, t.blk.laneUp l.val = false ∧ t.blk.get F.LNK_L_STAT_CAUSE (l.val / 4) (l.val % 4) =
            ((b.get F.LNK_L_STAT_CAUSE (l.val / 4) (l.val % 4) % 16 + if moduleLos t.blk l.val then 16 else 0) |||
              if cagePresent t.blk l.val then 0 else 1)) ∧
          ∃ l, Claims.records s t l ∧ ∀ k ∈ l, k = 0x4004 ∨ k = 0x4005))

/-- A frame is counted as a drop in a field of ETH_M_RXERR. -/
def Claims.dropsFrame (s t : State) (dt l : Nat) (f : Fld) : Prop :=
  Claims.within s t dt [80 + l / 4] ∧ t.blk.out = s.blk.out ∧ t.blk.on F.ETH_EVT_DROPS (l / 4) = true ∧
    t.blk.get f (l / 4) (l % 4) = min (2 ^ f.width - 1) (s.blk.get f (l / 4) (l % 4) + 1)

/-- MAC_FRAME_RECEIVE (R323-R326, R348), FILTER_ENTRY_APPLY (R327), MAC_TRANSMIT (R328). -/
def Obligations.EthernetMacsFilterAndSend : Prop :=
  ∀ (dt : Nat) (s : State), s.blk.quiet = true →
    let b := s.blk
    (s.blk.hold = .none → Claims.noShares b → ∀ (lane : Lane) (frame : List Byte) (ok : Bool),
      let l := lane.val
      let n := frame.length + 4
      let receive : Instr := .macFrameReceive dt lane frame ok
      let pause := fieldAt frame (etherAt 8 frame 12) 2 = 0x8808
      let counts (t : State) : Prop :=
        t.blk.get F.ETH_M_RXCNT_RX (l / 4) (l % 4) = (b.get F.ETH_M_RXCNT_RX (l / 4) (l % 4) + 1) % 2 ^ 32
      (macUp b l = false → ∃ t : State, exec receive s = .next t ∧ Claims.only s t dt []) ∧
      (macUp b l = true →
        (ok = false → ∃ t : State, exec receive s = .next t ∧ Claims.dropsFrame s t dt l F.ETH_M_RXERR_FCS) ∧
        (ok = true →
          ((n < 64 ∨ 9216 < n) → ∃ t : State, exec receive s = .next t ∧ Claims.dropsFrame s t dt l F.ETH_M_RXERR_SIZE) ∧
          (64 ≤ n → n ≤ 9216 →
            (pause → ∃ t : State, exec receive s = .next t ∧ Claims.dropsFrame s t dt l F.ETH_M_RXERR_PAUSE) ∧
            (¬ pause →
              (frameForUs b l frame = false → ∃ t : State, exec receive s = .next t ∧ Claims.only s t dt []) ∧
              (frameForUs b l frame = true →
                ((frameAction b l frame).1 = 0 →
                  ∃ t : State, exec receive s = .next t ∧ Claims.dropsFrame s t dt l F.ETH_M_RXERR_FILT ∧ counts t) ∧
                ((frameAction b l frame).1 = 1 →
                  let src := (frameAction b l frame).2.1
                  let path := (frameAction b l frame).2.2
                  let counted := b.wrap F.ETH_M_RXCNT_RX (l / 4) (l % 4)
                  let handed := handedOf counted src path (udpPayload frame).1 (udpPayload frame).2
                  ((ladOn b = false ∨ handed = none) →
                    ∃ t : State, exec receive s = .next t ∧ Claims.only s t dt [80 + l / 4] ∧ counts t) ∧
                  (∀ (source : Src) (x : LadleInput), source.val = src → ladOn b = true → handed = some x →
                    ∃ t : State, exec receive s = .next t ∧ exec (.ladlePacket dt source x) { s with blk := counted } = .next t)) ∧
                ((frameAction b l frame).1 = 2 → ∃ t : State, exec receive s = .next t ∧ t.clk = (s.pass dt).clk ∧ counts t))))))) ∧
    (∀ (cls : Cls) (quad : Fin 12) (entry : Fin 128) (v : Word),
      let q := quad.val
      let e := entry.val
      let p := F.ETH_F_CFG_ACTION.at q e
      let low (i : Nat) : Word := (b.stage.lookup (p - 4 * (3 - i))).getD (b.reg (p - 4 * (3 - i)))
      Writable s cls p → Calm s (80 + q) →
      (filterRefusal b q v = 0 →
        ∃ t : State, exec (.filterEntryApply dt cls quad entry v) s = .next t ∧ Claims.only s t dt [80 + q, 2] ∧
          (∀ i, i < 3 → t.blk.reg (p - 4 * (3 - i)) = low i) ∧
          (∀ f ∈ [F.ETH_F_CFG_EN, F.ETH_F_CFG_ACTION, F.ETH_F_CFG_PATH, F.ETH_F_CFG_LANES, F.ETH_F_CFG_TARGET],
            t.blk.get f q e = f.of v) ∧
          ∀ a, (a < p - 12 ∨ p < a) → a / 0x10000 ≠ 2 → t.blk.reg a = b.reg a) ∧
      (filterRefusal b q v ≠ 0 →
        ∃ t : State, exec (.filterEntryApply dt cls quad entry v) s = .next t ∧ Claims.within s t dt [80 + q, 2] ∧
          (∀ i, i < 4 → t.blk.reg (p - 4 * i) = b.reg (p - 4 * i)) ∧ t.blk.on F.ETH_EVT_CFG_ERR q = true ∧
          Claims.records s t [0x5001])) ∧
    (s.blk.hold = .none → ∀ lane : Lane,
      let l := lane.val
      let due := packetDue (s.pass dt).clk b l
      ((macUp b l = false ∨ due = true) → ∃ t : State, exec (.macTransmit dt lane) s = .next t ∧ Claims.only s t dt []) ∧
      (macUp b l = true → due = false →
        (∀ r, r < 240 → txPending b r = true → txServed b r false = true ∨ txServed b r true = true) →
        b.jtag.instr ≠ .extest → ∀ (n r : Nat) (path : Bool), tget 0 b.lanes.turn l = n → n < 8 →
        txSlot b l n = (true, r, path) → txPending b r = true →
        let h := b.get F.LAD_RING_HEAD_HEAD r
        let part := b.get F.LAD_RING_PART_PART r
        let x := b.ringBase r + 32 * h
        let e := txEntry s.mem b r
        let flags := (e.getD 10 0).toNat
        let a := ofLe (e.take 8)
        let len := ofLe ((e.drop 8).take 2)
        bit flags 1 = path → 60 ≤ len → len ≤ 9212 → dramFails b 5 part x 32 false = false →
        dramFails b 5 part a len false = false → dramFails b 5 part x 32 true = false →
        ∃ t : State, exec (.macTransmit dt lane) s = .next t ∧ t.clk = (s.pass dt).clk ∧ t.blk.evq = b.evq ∧
          t.blk.out = b.out ++ [.frame l (s.mem.bytes a len)] ∧
          t.blk.get F.ETH_M_TXCNT_TX (l / 4) (l % 4) = (b.get F.ETH_M_TXCNT_TX (l / 4) (l % 4) + 1) % 2 ^ 32 ∧
          t.blk.get F.LAD_RING_HEAD_HEAD r = (h + 1) % b.ringSize r % 2 ^ 16 ∧ tget 0 t.blk.lanes.turn l = (n + 1) % 8 ∧
          bit (t.mem.byte (x + 11)).toNat 7 = true ∧
          (bit flags 0 = true → ofLe (t.mem.bytes (x + 12) 4) = (s.pass dt).clk.stamp.toNat) ∧
          (∀ y, y < x + 11 ∨ x + 16 ≤ y ∨ (bit flags 0 = false ∧ y ≠ x + 11) → t.mem.byte y = s.mem.byte y) ∧
          ∀ y, y / 0x10000 ≠ 24 → y / 0x10000 ≠ 80 + l / 4 → t.blk.reg y = b.reg y))

/-- Nothing in the links' transmit rings can be sent, and no peer frame is under way. -/
def Claims.idleRings (b : Block) : Prop :=
  (∀ k, k < 3 → b.get F.SPR_K_RING_TXR k / 16 ≠ 15) ∧ ∀ s, s < 384 → (b.src s).peer = none

/-- A link is started in a state at a rate and a version (R334). -/
def Claims.started (b t : Block) (now : Clk) (k st rate ver : Nat) : Prop :=
  t.sprState k = st ∧ t.get F.SPR_K_STAT_RATE k = rate ∧ t.get F.SPR_K_STAT_VER k = ver ∧ t.get F.SPR_K_STAT_MASK k = 0 ∧
    t.get F.SPR_K_STAT_ACTIVE k = 0 ∧ (t.spr k).since = now.steady ∧ (t.spr k).aligned = 0 ∧
    ∀ a, a / 0x10000 = 76 → a ≠ F.SPR_K_STAT_STATE.at k → a ∉ [F.SPR_EVT_UP.addr, F.SPR_K_CNT2_DOWNS.at k, F.SPR_K_CTL_EN.at k,
      F.SPR_TIME_STAT_OK.addr] → t.reg a = b.reg a

/-- CAP has been sent on some lanes of a link (R332). -/
def Claims.capsSent (b t : Block) (k lanes : Nat) : Prop :=
  t.out = b.out ++ ((List.range 4).filter (bit lanes)).map fun j => Output.cap k j (ownCap t k j)

/-- A link that changes its active lanes makes the records `l`; in PAIR mode PAIR_STAT.LINK follows the lanes of link 0, with what
that records (R283, R339). -/
def Claims.linkEvent (s t : State) (dt k : Nat) (l : List Nat) : Prop :=
  Claims.within s t dt (if k = 0 ∧ s.blk.pairMode = true then [76, 5] else [76]) ∧
    (∃ e, Claims.records s t (l ++ e) ∧ ((k ≠ 0 ∨ s.blk.pairMode = false) → e = [])) ∧
    (k = 0 → s.blk.pairMode = true →
      t.blk.linkUp = decide (2 ≤ if t.blk.sprUp 0 then t.blk.get F.SPR_K_STAT_ACTIVE 0 else 0))

/-- A link is at the top of the loop of R334. -/
def Claims.bringsUp (b t : Block) (now : Clk) (k : Nat) : Prop :=
  Claims.capsSent b t k (allLanes b k) ∧
  (t.spr k).excl = 0 ∧ (t.spr k).seen = 0 ∧ (t.spr k).acked = 0 ∧ (t.spr k).lanes = allLanes b k ∧
    (b.get F.SPR_K_CTL_VER_ST k = 3 → Claims.started b t now k sprNeg 0 0) ∧
    (b.get F.SPR_K_CTL_VER_ST k ≠ 3 →
      Claims.started b t now k sprBlind (b.get F.SPR_K_CTL_RATE_ST k) (b.get F.SPR_K_CTL_VER_ST k))

/-- SPRUE_LINK_ENABLE (R330, R335), CAP (R332, R333), GO, BLIND_TIMEOUT, NEGOTIATION_TIMEOUT, RATE_STEP_FAILED (R334),
REFUSED_RETRY (R333), LANE_ALIGN_CHANGE (R336), SPRUE_LINK_DOWN, SPRUE_LANE_DOWN, SPRUE_LANE_UP (R339). -/
def Obligations.SprueLinksAreBroughtUp : Prop :=
  ∀ (dt : Nat) (link : Fin 3) (s : State), s.blk.quiet = true → Claims.idleRings s.blk → Claims.noPeerFrames s.blk →
    s.blk.jtag.instr ≠ .extest →
    let b := s.blk
    let k := link.val
    let x := b.spr k
    let now := (s.pass dt).clk
    let st := b.sprState k
    let changed (t : State) (ws : List Nat) : Prop := Claims.within s t dt ws ∧ t.blk.evq = b.evq
    (∀ cls : Cls, Writable s cls (F.SPR_K_CTL_EN.at k) → Calm s 76 → b.on F.SPR_K_CTL_EN k = false →
      (linkRefusal b k ≠ 0 →
        ∃ t : State, exec (.sprueLinkEnable dt cls link) s = .next t ∧ Claims.within s t dt [76, 2] ∧
          t.blk.on F.SPR_K_CTL_EN k = false ∧ t.blk.on F.SPR_EVT_CFG_ERR = true ∧ Claims.records s t [0x4C08]) ∧
      (linkRefusal b k = 0 → (b.get F.XSP_STAT_STAGE = 0 ∨ st ≠ sprDown) →
        ∃ t : State, exec (.sprueLinkEnable dt cls link) s = .next t ∧ Claims.only s t dt [76, 2] ∧
          t.blk.on F.SPR_K_CTL_EN k = true ∧ t.blk.sprState k = st) ∧
      (linkRefusal b k = 0 → b.get F.XSP_STAT_STAGE ≠ 0 → st = sprDown →
        ∃ t : State, exec (.sprueLinkEnable dt cls link) s = .next t ∧ changed t [76, 2] ∧
          t.blk.on F.SPR_K_CTL_EN k = true ∧ Claims.bringsUp b t.blk now k)) ∧
    (s.blk.hold = .none →
      (∀ (lane : Fin 4) (cap : List Byte),
        let j := lane.val
        let enough := minLanes k ≤ count4 (x.aligned &&& x.lanes)
        ((st = sprDown ∨ st = sprRefused ∨ capByte cap 0 ≠ 1) →
          ∃ t : State, exec (.cap dt link lane cap) s = .next t ∧ Claims.only s t dt []) ∧
        (st ∈ [sprBlind, sprNeg, sprStep] → capByte cap 0 = 1 →
          (capRefusal b k cap ≠ 0 →
            ∃ t : State, exec (.cap dt link lane cap) s = .next t ∧ Claims.within s t dt [76] ∧ t.blk.out = b.out ∧
              t.blk.sprState k = sprRefused ∧ t.blk.get F.SPR_K_STAT_REASON k = capRefusal b k cap ∧
              t.blk.get F.SPR_K_STAT_MASK k = 0 ∧ (t.blk.spr k).since = now.steady ∧ Claims.records s t [0x4C03]) ∧
          (capRefusal b k cap = 0 →
            ((st = sprNeg ∨ ¬ enough) →
              ∃ t : State, exec (.cap dt link lane cap) s = .next t ∧ changed t [76] ∧ t.blk.sprState k = st ∧
                Claims.capsSent b t.blk k (if sendsCap now b k then 2 ^ j else 0) ∧
                (t.blk.spr k).seen = x.seen ||| 2 ^ j ∧
                (t.blk.spr k).acked = (if bit (capByte cap 5) 7 then x.acked ||| 2 ^ j else x.acked) ∧
                t.blk.get F.SPR_K_PEER_VERMAX k = capByte cap 1) ∧
            (st ≠ sprNeg → enough →
              ∃ t l, exec (.cap dt link lane cap) s = .next t ∧ Claims.linkEvent s t dt k (0x4C01 :: l) ∧
                Claims.capsSent b t.blk k (if sendsCap now b k then 2 ^ j else 0) ∧ t.blk.sprState k = sprUpState ∧ t.blk.get F.SPR_K_STAT_MASK k = (x.aligned &&& x.lanes) % 16 ∧
                (t.blk.spr k).nextTx = 0 ∧ (t.blk.spr k).nextRx = 0 ∧ (t.blk.spr k).unacked = [])))) ∧
      (let lanes := x.seen &&& x.acked
       ((st ≠ sprNeg ∨ count4 lanes < minLanes k) → ∃ t : State, exec (.go dt link) s = .next t ∧ Claims.only s t dt []) ∧
       (st = sprNeg → minLanes k ≤ count4 lanes →
         ∃ t : State, exec (.go dt link) s = .next t ∧ changed t [76] ∧
           Claims.started b t.blk now k sprStep (agreedRate b k) (agreedVersion x.peerVer) ∧ (t.blk.spr k).lanes = lanes ∧
           t.blk.out = b.out ++ ((List.range 4).filter (bit lanes)).flatMap fun j => List.replicate 16 (.manage k 2 j))) ∧
      (let due := x.since + b.get F.SPR_K_CTL_BLIND_MS k * msTick ≤ now.steady
       (st = sprBlind → due → b.on F.SPR_K_CTL_BRING k = true →
         ∃ t : State, exec (.blindTimeout dt link) s = .next t ∧ changed t [76] ∧ Claims.bringsUp b t.blk now k) ∧
       (st = sprBlind → due → b.on F.SPR_K_CTL_BRING k = false →
         ∃ t : State, exec (.blindTimeout dt link) s = .next t ∧ changed t [76] ∧
           Claims.capsSent b t.blk k (allLanes b k) ∧ Claims.started b t.blk now k sprNeg 0 0 ∧ (t.blk.spr k).excl = 0) ∧
       ((st ≠ sprBlind ∨ ¬ due) → ∃ t : State, exec (.blindTimeout dt link) s = .next t ∧ Claims.only s t dt [])) ∧
      (let due := x.since + b.get F.SPR_K_NEG_NEG_MS k * msTick ≤ now.steady
       (st = sprNeg → due →
         ∃ t : State, exec (.negotiationTimeout dt link) s = .next t ∧ changed t [76] ∧ Claims.bringsUp b t.blk now k) ∧
       ((st ≠ sprNeg ∨ ¬ due) → ∃ t : State, exec (.negotiationTimeout dt link) s = .next t ∧ Claims.only s t dt [])) ∧
      (let due := x.since + 10 * msTick ≤ now.steady
       let rate := b.get F.SPR_K_STAT_RATE k
       (st = sprStep → due →
         ∃ t : State, exec (.rateStepFailed dt link) s = .next t ∧ Claims.within s t dt [76] ∧
           Claims.capsSent b t.blk k (allLanes b k) ∧
           Claims.records s t [0x4C04] ∧
           t.blk.get F.SPR_K_CNT2_FALLBACKS k = min (2 ^ F.SPR_K_CNT2_FALLBACKS.width - 1) (b.get F.SPR_K_CNT2_FALLBACKS k + 1) ∧
           (rate ≠ 0 → t.blk.sprState k = sprNeg ∧ (t.blk.spr k).excl = x.excl ||| 2 ^ rate) ∧
           (rate = 0 → t.blk.sprState k = (if b.get F.SPR_K_CTL_VER_ST k = 3 then sprNeg else sprBlind))) ∧
       ((st ≠ sprStep ∨ ¬ due) → ∃ t : State, exec (.rateStepFailed dt link) s = .next t ∧ Claims.only s t dt [])) ∧
      (let due := x.since + sTick ≤ now.steady
       (st = sprRefused → due →
         ∃ t : State, exec (.refusedRetry dt link) s = .next t ∧ changed t [76] ∧ Claims.bringsUp b t.blk now k) ∧
       ((st ≠ sprRefused ∨ ¬ due) → ∃ t : State, exec (.refusedRetry dt link) s = .next t ∧ Claims.only s t dt [])) ∧
      (∀ lane : Fin 4,
        let j := lane.val
        let rest := (x.aligned - 2 ^ j) &&& x.lanes
        let mask := b.get F.SPR_K_STAT_MASK k
        (st ∈ [sprBlind, sprNeg, sprStep] → bit x.lanes j = true → bit x.aligned j = false → x.seen = 0 →
          b.laneUp (linkLane b k j) = true → ∃ t : State, exec (.laneAlignChange dt link lane true) s = .next t ∧ Claims.only s t dt [] ∧ t.blk.sprState k = st ∧
            (t.blk.spr k).aligned = x.aligned + 2 ^ j) ∧
        (b.laneUp (linkLane b k j) = false → bit x.aligned j = false →
          ∃ t : State, exec (.laneAlignChange dt link lane true) s = .next t ∧ Claims.only s t dt []) ∧
        (st = sprUpState → b.get F.SPR_K_STAT_VER k = 2 → bit x.lanes j = true → bit x.aligned j = true →
          minLanes k ≤ count4 rest → bit mask j = true → minLanes k ≤ count4 (mask - 2 ^ j) →
          ∃ t : State, exec (.laneAlignChange dt link lane false) s = .next t ∧ Claims.linkEvent s t dt k [0x4C05] ∧
            t.blk.sprState k = sprUpState ∧ t.blk.get F.SPR_K_STAT_MASK k = mask - 2 ^ j ∧
            t.blk.out = b.out ++ [.manage k 5 j]) ∧
        (st = sprUpState → b.get F.SPR_K_STAT_VER k = 2 → b.on F.SPR_K_CTL_EN k = true → bit x.lanes j = true →
          bit x.aligned j = true → count4 rest < minLanes k →
          ∃ t : State, exec (.laneAlignChange dt link lane false) s = .next t ∧ Claims.linkEvent s t dt k [0x4C02] ∧
            Claims.bringsUp b t.blk now k ∧ (t.blk.spr k).unacked = []) ∧
        (st = sprUpState → b.get F.SPR_K_STAT_VER k = 2 →
          (bit mask j = true → minLanes k ≤ count4 (mask - 2 ^ j) →
            ∃ t : State, exec (.sprueLaneDown dt link lane) s = .next t ∧ Claims.linkEvent s t dt k [0x4C05] ∧ t.blk.out = b.out ∧
              t.blk.get F.SPR_K_STAT_MASK k = mask - 2 ^ j ∧
              t.blk.on (if k = 0 then F.SPR_EVT_P_LANE else F.SPR_EVT_LANE) = true) ∧
          (bit mask j = true → count4 (mask - 2 ^ j) < minLanes k → b.on F.SPR_K_CTL_EN k = true →
            ∃ t : State, exec (.sprueLaneDown dt link lane) s = .next t ∧ Claims.linkEvent s t dt k [0x4C02] ∧
              Claims.bringsUp b t.blk now k) ∧
          (bit mask j = false → bit x.lanes j = true →
            (bit x.aligned j = true →
              ∃ t : State, exec (.sprueLaneUp dt link lane) s = .next t ∧ Claims.linkEvent s t dt k [0x4C05] ∧
                t.blk.out = b.out ++ (if bit x.told j then [] else [.manage k 6 j]) ∧
                t.blk.get F.SPR_K_STAT_MASK k = mask + 2 ^ j) ∧
            (bit x.aligned j = false →
              ∃ t : State, exec (.sprueLaneUp dt link lane) s = .next t ∧ Claims.only s t dt [] ∧
                (t.blk.spr k).crossed = x.crossed ||| 2 ^ j)))) ∧
      (st = sprUpState → b.on F.SPR_K_CTL_EN k = true →
        let few := count4 (x.aligned &&& x.lanes) < minLanes k
        ((few ∨ 8 ≤ x.resends) →
          ∃ t : State, exec (.sprueLinkDown dt link) s = .next t ∧ Claims.linkEvent s t dt k [0x4C02] ∧
            t.blk.get F.SPR_K_CNT2_DOWNS k = min (2 ^ F.SPR_K_CNT2_DOWNS.width - 1) (b.get F.SPR_K_CNT2_DOWNS k + 1) ∧
            t.blk.on (if k = 0 then F.SPR_EVT_P_DOWN else F.SPR_EVT_DOWN) = true ∧
            Claims.bringsUp b t.blk now k ∧ (t.blk.spr k).unacked = [] ∧ (t.blk.spr k).waiting = []) ∧
        (¬ few → x.resends < 8 → ∃ t : State, exec (.sprueLinkDown dt link) s = .next t ∧ Claims.only s t dt [])))

/-- What is left of the unacknowledged frames after an acknowledgement of `n`. -/
def Claims.leftAfter (l : List SprFrame) (n : Nat) : List SprFrame :=
  match l.findIdx? fun f => f.seq = n with
  | some i => l.drop (i + 1)
  | none => l

/-- A body that is no message of its channel (R282, R340). -/
def Claims.noMessage (chan : Nat) (body : SprBody) : Prop :=
  match body with
  | .pair msg => chan ≠ 5 ∧ chan < 9 ∧ msgClass msg ≠ chan
  | .octets _ => chan ≠ 5 ∧ chan < 9
  | .followUp _ _ _ _ => chan < 5
  | .vote _ _ _ _ _ => chan < 5 ∨ chan = 8
  | _ => chan < 5

/-- SPRUE_FRAME_RECEIVE, NAK, ACK, REPLAY_TIMEOUT (R337, R338, R340). -/
def Obligations.SprueFramesArriveInOrderOrAreResent : Prop :=
  ∀ (dt : Nat) (link : Fin 3) (s : State), s.blk.hold = .none → s.blk.quiet = true → Claims.idleRings s.blk →
    Claims.noPeerFrames s.blk →
    let b := s.blk
    let k := link.val
    let x := b.spr k
    let now := (s.pass dt).clk
    let sat (f : Fld) (n : Nat) : Nat := min (2 ^ f.width - 1) n
    (b.sprUp k = false → ∀ (ok : Bool) (chan : Byte) (seq n : BitVec 16) (dest : Fin 16) (body : SprBody),
      ∀ i ∈ [Instr.sprueFrameReceive dt link ok chan seq n dest body, .nak dt link n, .ack dt link n, .replayTimeout dt link],
        ∃ t : State, exec i s = .next t ∧ Claims.only s t dt []) ∧
    (b.sprUp k = true → x.waiting = [] → b.jtag.instr ≠ .extest →
      (∀ (ok : Bool) (chan : Byte) (seq n : BitVec 16) (dest : Fin 16) (body : SprBody),
        let receive : Instr := .sprueFrameReceive dt link ok chan seq n dest body
        (chan = 15 → ∃ t : State, exec receive s = .next t ∧ Claims.only s t dt [76] ∧
          t.blk.get F.SPR_K_CNT_CRC k = sat F.SPR_K_CNT_CRC (b.get F.SPR_K_CNT_CRC k + b2n (!ok)) ∧
          (t.blk.spr k).nextRx = x.nextRx ∧ (t.blk.spr k).nak = x.nak) ∧
        (ok = true → seq.toNat = x.nextRx → chan ≠ 15 → (Claims.noMessage chan.toNat body ∨ chanKnown k chan.toNat = false) →
          ∃ t : State, exec receive s = .next t ∧ Claims.within s t dt [76] ∧ t.blk.evq = b.evq ∧
            t.blk.out = b.out ++ [.manage k 4 seq.toNat] ∧ (t.blk.spr k).nextRx = (x.nextRx + 1) % 65536 ∧
            (t.blk.spr k).nak = false ∧ (t.blk.spr k).unacked = Claims.leftAfter x.unacked n.toNat ∧
            t.blk.get F.SPR_K_CNT2_UNKNOWN k =
              sat F.SPR_K_CNT2_UNKNOWN (b.get F.SPR_K_CNT2_UNKNOWN k + b2n (!chanKnown k chan.toNat)) ∧
            t.blk.get F.SPR_K_CNT_CRC k = b.get F.SPR_K_CNT_CRC k) ∧
        (chan ≠ 15 → (ok = false ∨ seq.toNat ≠ x.nextRx) →
          ∃ t : State, exec receive s = .next t ∧ Claims.within s t dt [76] ∧ t.blk.evq = b.evq ∧
            t.blk.out = b.out ++ (if x.nak then [] else [.manage k 3 x.nextRx]) ∧ (t.blk.spr k).nextRx = x.nextRx ∧
            (t.blk.spr k).nak = true ∧ (t.blk.spr k).unacked = x.unacked ∧
            t.blk.get F.SPR_K_CNT_CRC k = sat F.SPR_K_CNT_CRC (b.get F.SPR_K_CNT_CRC k + 1))) ∧
      (∀ n : BitVec 16,
        ∃ t : State, exec (.ack dt link n) s = .next t ∧ Claims.only s t dt [] ∧
          (t.blk.spr k).unacked = Claims.leftAfter x.unacked n.toNat) ∧
      (let resends (t : State) (rest : List SprFrame) : Prop :=
         Claims.within s t dt [76] ∧ t.blk.evq = b.evq ∧ t.blk.out = b.out ++ rest.map (fun f => .sprue k f true x.ack (frameOctets f true x.ack)) ∧
           (t.blk.spr k).unacked = rest ∧ t.blk.get F.SPR_K_CNT_RESENT k = sat F.SPR_K_CNT_RESENT (b.get F.SPR_K_CNT_RESENT k + rest.length)
       (∀ n : BitVec 16,
         let rest := Claims.leftAfter x.unacked ((n.toNat + 65535) % 65536)
         (rest = [] → ∃ t : State, exec (.nak dt link n) s = .next t ∧ Claims.only s t dt [] ∧ (t.blk.spr k).unacked = []) ∧
         (rest ≠ [] → x.resends < 8 → ∃ t : State, exec (.nak dt link n) s = .next t ∧ resends t rest)) ∧
       (x.unacked ≠ [] → x.ackAt + 20 * usTick ≤ now.steady →
         (x.resends < 8 → ∃ t : State, exec (.replayTimeout dt link) s = .next t ∧ resends t x.unacked ∧
           (t.blk.spr k).resends = x.resends + 1) ∧
         (8 ≤ x.resends → b.on F.SPR_K_CTL_EN k = true →
           ∃ t : State, exec (.replayTimeout dt link) s = .next t ∧ Claims.linkEvent s t dt k [0x4C02] ∧
             Claims.bringsUp b t.blk now k ∧ (t.blk.spr k).unacked = [])) ∧
       (now.steady < x.ackAt + 20 * usTick → ∃ t : State, exec (.replayTimeout dt link) s = .next t ∧ Claims.only s t dt [])))

/-- SHARE_ENABLE (R342), PEER_HEAD, PEER_DATA, PEER_END, PEER_ABANDON (R119-R121, R343), TIME_EXCHANGE, TIME_BLOCK,
TIME_FOLLOW_UP (R345). -/
def Obligations.PeersShareFramesAndTime : Prop :=
  ∀ (dt : Nat) (s : State), s.blk.quiet = true →
    let b := s.blk
    let now := (s.pass dt).clk
    (∀ (cls : Cls) (share : Fin 64), Writable s cls (F.SPR_SH_CFG_EN.at share.val) → Calm s 76 →
      b.on F.SPR_SH_CFG_EN share.val = false →
      (shareRefusal b share.val = 0 →
        ∃ t : State, exec (.shareEnable dt cls share) s = .next t ∧ Claims.only s t dt [76, 2] ∧
          t.blk.on F.SPR_SH_CFG_EN share.val = true ∧ t.blk.share share.val = {}) ∧
      (shareRefusal b share.val ≠ 0 →
        ∃ t : State, exec (.shareEnable dt cls share) s = .next t ∧ Claims.within s t dt [76, 2] ∧
          t.blk.on F.SPR_SH_CFG_EN share.val = false ∧ t.blk.on F.SPR_EVT_CFG_ERR = true ∧ Claims.records s t [0x4C08])) ∧
    (s.blk.hold = .none →
      (∀ (link : Fin 3) (pos : Fin 4) (src : Fin 512) (frame off : Word) (header octets : List Byte) (sec : BitVec 48)
          (ns age : Word) (rows : BitVec 16) (mark : BitVec 256),
        let k := link.val
        let head : Instr := .peerHead dt link pos src frame header sec ns age
        let data : Instr := .peerData dt link pos src frame off rows mark octets
        let end_ : Instr := .peerEnd dt link pos src frame header
        let abandon : Instr := .peerAbandon dt link pos src frame
        (peerLink b k = false → Claims.noShares b →
          ∀ i ∈ [head, data, end_, abandon], ∃ t : State, exec i s = .next t ∧ Claims.only s t dt []) ∧
        (peerLink b k = true → peerSource b pos.val src.val = none → Claims.noShares b →
          ∀ i ∈ [head, data, end_, abandon], ∃ t : State, exec i s = .next t ∧ Claims.only s t dt [76] ∧
            t.blk.get F.SPR_K_CNT2_UNKNOWN k = min (2 ^ F.SPR_K_CNT2_UNKNOWN.width - 1) (b.get F.SPR_K_CNT2_UNKNOWN k + 1)) ∧
        ∀ src' : Nat, peerLink b k = true → peerSource b pos.val src.val = some src' →
          let p := b.poolOf src'
          ((b.src src').peer = none → bit (ofLe ((header.drop 25).take 1)) 3 = b.on F.LAD_SRC_DEC_LAYOUT src' →
            b.freeCount p ≠ 0 → b.poolCount p ≤ 16 →
            ∃ (i : Nat) (t : State), exec head s = .next t ∧ i < b.poolCount p ∧ (b.buf (bufKey p i)).state = .free ∧ Claims.only s t dt [] ∧ (t.blk.src src').peer = some (i, frame.toNat, k) ∧
              (t.blk.buf (bufKey p i)).state = .filling ∧ (t.blk.buf (bufKey p i)).frame = frame.toNat ∧
              (t.blk.buf (bufKey p i)).src = src' ∧
              (t.blk.buf (bufKey p i)).ageBase =
                peerAgeBase now b src' (sec.toNat * 1000000000 + ns.toNat) age.toNat) ∧
          (∀ i n l, (b.src src').peer = some (i, n, l) → n = frame.toNat → i < 16 →
            let size := peerRowSize b src'
            let a := b.rowAddr p i 0 + off.toNat / size * b.poolPitch p + off.toNat % size
            (0 < octets.length → off.toNat % size + octets.length ≤ size →
              off.toNat + octets.length ≤ size * b.srcHeight src' →
              dramFails b 5 (b.poolPart p) a octets.length true = false →
              ∃ t : State, exec data s = .next t ∧ t.clk = now ∧ t.blk.regs = b.regs ∧ t.blk.evq = b.evq ∧ t.blk.out = b.out ∧
                t.mem.bytes a octets.length = octets ∧
                (∀ y, y < a ∨ a + octets.length ≤ y → t.mem.byte y = s.mem.byte y) ∧
                (t.blk.buf (bufKey p i)).rowsReady = rows.toNat ∧ (t.blk.buf (bufKey p i)).rowmark = mark.toNat) ∧
            (Claims.noShares b → b.paired = false → (b.src src').frames = [] →
              ∃ t : State, exec end_ s = .next t ∧ t.clk = now ∧ (t.blk.src src').peer = none ∧
                (t.blk.buf (bufKey p i)).state = .ready ∧ (t.blk.buf (bufKey p i)).src = src' ∧
                (t.blk.buf (bufKey p i)).frame = frame.toNat ∧ t.blk.get F.LAD_SRC_STAT_NEWEST src' = i) ∧
            ((b.buf (bufKey p i)).state = .filling → b.bufUsers (bufKey p i) = 0 →
              ∃ t : State, exec abandon s = .next t ∧ Claims.within s t dt [76] ∧ t.blk.out = b.out ∧
                (t.blk.src src').peer = none ∧ (t.blk.buf (bufKey p i)).state = .free ∧ t.blk.on F.SPR_EVT_DROP = true ∧
                Claims.records s t [0x4C06]))) ∧
      (∀ link : Fin 3, b.sprUp link.val = true → timeFit b link.val = true →
        let k := link.val
        let x := b.spr k
        (timeServer b k = true → (∀ at_, x.timeAt = some at_ → at_ + sTick / 64 ≤ now.steady) → b.jtag.instr ≠ .extest →
          ∃ t : State, exec (.timeExchange dt link) s = .next t ∧ Claims.within s t dt [] ∧ t.blk.evq = b.evq ∧
            (t.blk.spr k).count = (x.count + 1) % 256 ∧ (t.blk.spr k).t1 = now.ptpNs ∧
            t.blk.out = b.out ++ [.timeBlock k (timeLane b k) ((x.count + 1) % 256)]) ∧
        ((∃ at_, x.timeAt = some at_ ∧ now.steady < at_ + sTick / 64) →
          ∃ t : State, exec (.timeExchange dt link) s = .next t ∧ Claims.only s t dt []) ∧
        (timeClient b k = false → timeServer b k = true → x.waiting = [] → x.unacked = [] → b.jtag.instr ≠ .extest →
          ∀ n : Byte, n.toNat = x.count →
          ∃ t f, exec (.timeBlock dt link n) s = .next t ∧ Claims.within s t dt [] ∧ t.blk.evq = b.evq ∧
            t.blk.out = b.out ++ [.sprue k f false x.ack (frameOctets f false x.ack)] ∧ f.chan = 8 ∧ f.seq = x.nextTx ∧
            f.body = .followUp n x.t1 now.ptpNs (Fin.ofNat 4 (b.get F.TIM_STAT_SRV))) ∧
        (timeClient b k = true → b.jtag.instr ≠ .extest → ∀ n : Byte,
          ∃ t : State, exec (.timeBlock dt link n) s = .next t ∧ Claims.within s t dt [] ∧ t.blk.evq = b.evq ∧
            (t.blk.spr k).count = n.toNat ∧ (t.blk.spr k).t2 = now.ptpNs ∧ (t.blk.spr k).t3 = now.ptpNs ∧
            t.blk.out = b.out ++ [.timeBlock k (timeLane b k) n.toNat]) ∧
        (timeClient b k = true → ∀ (n : Byte) (t1 t4 : Nat) (srv : Fin 4), n.toNat = x.count →
          let delta : Int := (((x.t2 : Int) - t1) - ((t4 : Int) - x.t3)) * 1000 - b.geti F.SPR_TIME_CFG_ASYM
          ∃ t : State, exec (.timeFollowUp dt link n t1 t4 srv) s = .next t ∧ Claims.only s t dt [76] ∧
            t.blk.get2 F.SPR_TIME_OFS_LO_OFS_LO F.SPR_TIME_OFS_HI_OFS_HI = ofSigned 64 (delta / 2000) ∧
            t.blk.get F.SPR_TIME_DLY_DLY = ofSigned 32 ((((x.t2 : Int) - t1) + ((t4 : Int) - x.t3)) / 2) ∧
            t.blk.on F.SPR_TIME_STAT_OK = true ∧ t.blk.get F.SPR_TIME_STAT_SRV = srv.val)))

/-- The address map of R351 is one-to-one. -/
def Obligations.DramAddressMapIsOneToOne : Prop :=
  ∀ (b : Block) (x y : Nat), b.get F.MEM_CFG_DENSITY ≤ 2 → dramBase ≤ x → x < dramBase + dramCapacity b → dramBase ≤ y →
    y < dramBase + dramCapacity b →
    (dramSub x < 16 ∧ dramBankOf x < 16 ∧ dramRow b x < 2 ^ (15 + b.get F.MEM_CFG_DENSITY)) ∧
    (x % 2048 = y % 2048 → dramSub x = dramSub y → dramBankOf x = dramBankOf y → dramRow b x = dramRow b y → x = y)

/-- The urgency of R355: 3 up to the bound, else by quarters of the target. -/
def Claims.urgency (c : Clk) (b : Block) (q : DramReq) : Nat :=
  let r : Int := (q.deadline : Int) - c.steady
  if r ≤ (u3Ticks b : Int) then 3
  else if r ≤ (q.target : Int) / 4 then 2
  else if r ≤ (q.target : Int) / 2 then 1 else 0

/-- DRAM_REQUEST (R352-R354), URGENCY_EVAL (R355, R356), DRAM_REQUEST_COMPLETE (R356, R357, R359, R373). -/
def Obligations.DramRequestsAreServedByUrgency : Prop :=
  ∀ (dt : Nat) (s : State), s.blk.hold = .none → s.blk.quiet = true → (∀ q ∈ s.blk.dram.reqs, q.port < 24) →
    let b := s.blk
    let now := (s.pass dt).clk
    (∀ (port : Fin 24) (part : Fin 32) (h : Head) (addr : BitVec 40) (op : DramOp),
      let wr := dramBytes op
      let p := port.val
      let size := if portSmall b p then 64 else 2048
      let a := addr.toNat - addr.toNat % size
      (portRoom b p = false → ∃ t : State, exec (.dramRequest dt port part h addr op) s = .next t ∧ Claims.only s t dt [] ∧
        t.blk.dram = b.dram) ∧
      (portRoom b p = true → dramFails b (portClass p) part.val a size wr.isSome = false →
        ∃ t q, exec (.dramRequest dt port part h addr op) s = .next t ∧ t.clk = now ∧ t.mem = s.mem ∧ t.blk.out = b.out ∧
          (∀ x, x / 0x10000 ≠ 9 → t.blk.reg x = b.reg x) ∧ q ∈ t.blk.dram.reqs ∧ q.port = p ∧ q.addr = a ∧ q.len = size ∧
          q.wr = wr ∧ q.bursts = enabledBursts (portSmall b p) (dramEnables op) wr ∧ q.deadline = now.steady + portTarget b p h.val ∧ q.target = portTarget b p h.val ∧ q.served = false) ∧
      (portRoom b p = true → dramFails b (portClass p) part.val a size wr.isSome = true →
        ∃ t : State, exec (.dramRequest dt port part h addr op) s = .next t ∧ Claims.within s t dt [3, 9] ∧
          t.blk.dram.reqs = b.dram.reqs ∧ t.blk.resp = .error)) ∧
    (∃ t : State, exec (.urgencyEval dt) s = .next t ∧ Claims.within s t dt [9] ∧ t.blk.out = b.out ∧
      t.blk.dram.reqs.map (fun q => (q.port, q.addr, q.wr, q.deadline, q.served)) =
        b.dram.reqs.map (fun q => (q.port, q.addr, q.wr, q.deadline, q.served)) ∧
      (∀ q ∈ t.blk.dram.reqs, q.served = false → q.urg = Claims.urgency now b q) ∧
      ∀ sub, u3Count b.dram.reqs sub ≤ 8 → u3Count t.blk.dram.reqs sub ≤ 8) ∧
    (∀ (sub : Fin 16) (corrected : Fin 33) (bad : Option (Fin 32)) (sampled : Bool),
      let complete : Instr := .dramRequestComplete dt sub corrected bad sampled
      (nextServed now b sub.val = none → ∃ t : State, exec complete s = .next t ∧ Claims.only s t dt []) ∧
      (refreshDue now b = true ∨ refreshStall now b = true → nextServed now b sub.val = none) ∧
      (∀ q, nextServed now b sub.val = some q →
        let mine := b.dram.reqs.filter fun r => dramSub r.addr = sub.val && !r.served
        let held := ((inIssueOrder [] mine).filter fun r => !r.waits).take 32
        q ∈ held ∧ (∃ l₁ l₂, mine = l₁ ++ q :: l₂ ∧ ∀ r ∈ l₁, r.port = q.port →
          q.addr + q.len ≤ r.addr ∨ r.addr + r.len ≤ q.addr) ∧
        ∀ r ∈ held, throttled now b r = false → r.urg ≤ q.urg ∧ (r.urg = q.urg → q.deadline ≤ r.deadline ∧ (r.deadline = q.deadline → q.port ≤ r.port))) ∧
      (∀ q, b.dram.reqs = [q] → nextServed now b sub.val = some q → sampled = false → b.on F.MEM_CTL_EN = true →
        let key := 16 * sub.val + dramBankOf q.addr
        let bank := tget {} b.dram.banks key
        let row := dramRow b q.addr
        let hit := bank.row = some row
        let ctr := if portSmall b q.port = true ∧ bank.row.isSome = true then (if hit then min 3 (bank.ctr + 1) else bank.ctr - 1) else bank.ctr
        let core := 18 ≤ q.port ∧ q.port ≤ 22
        let served (t : State) : Prop :=
          t.clk = now ∧ t.blk.out = b.out ∧ t.blk.dram.reqs = [] ∧
            (∀ x, x / 0x10000 ≠ 9 → x / 0x10000 ≠ 10 + sub.val / 2 → t.blk.reg x = b.reg x) ∧
            (b.on F.MEM_CFG_LINK_ECC = true → t.blk.get F.MEM_C_ERR_CORR (sub.val / 2) = min (2 ^ F.MEM_C_ERR_CORR.width - 1)
              (b.get F.MEM_C_ERR_CORR (sub.val / 2) + min corrected.val q.bursts.length)) ∧
            t.blk.get F.MEM_P_CNT_LATE q.port = min (2 ^ F.MEM_P_CNT_LATE.width - 1)
              (b.get F.MEM_P_CNT_LATE q.port + b2n (decide (q.deadline < now.steady))) ∧
            tget {} t.blk.dram.banks key = { row := if portSmall b q.port = true ∧ 2 ≤ ctr then some row else none,
                                             ctr := ctr, last := now.steady }
        (((∀ k ∈ bad, k.val ∉ q.bursts) ∨ b.on F.MEM_CFG_LINK_ECC = false) →
          (q.wr = none → ∃ t : State, exec complete s = .next t ∧ served t ∧ t.mem = s.mem ∧ t.blk.evq = b.evq ∧
            (core → t.blk.resp = .data (BitVec.ofNat 32 (ofLe (s.mem.bytes q.addr 4))))) ∧
          (∀ l, q.wr = some l → ∃ t : State, exec complete s = .next t ∧ served t ∧ t.blk.evq = b.evq ∧
            (core → t.blk.resp = .done) ∧
            (∀ i, i < l.length → t.mem.byte (q.addr + i) = ((l.getD i none).getD (s.mem.byte (q.addr + i)))) ∧
            ∀ x, (x < q.addr ∨ q.addr + l.length ≤ x) → t.mem.byte x = s.mem.byte x)) ∧
        (∀ k : Fin 32, bad = some k → b.on F.MEM_CFG_LINK_ECC = true → k.val ∈ q.bursts → 64 * k.val < q.len → q.len ∈ [64, 2048] →
          q.addr % q.len = 0 → q.wr = none →
          ∃ t : State, exec complete s = .next t ∧ served t ∧ t.mem = s.mem ∧ Claims.records s t [0x0906] ∧
            t.blk.on F.MEM_EVT_UNCORR = true ∧ (core → t.blk.resp = .error) ∧
            t.blk.get2 F.MEM_ERR_ADDR_LO_ADDR_LO F.MEM_ERR_ADDR_HI_ADDR_HI = (q.addr + 64 * k.val) % 2 ^ 40)))

/-- REFRESH (R359, R360), MR4_READ (R361), PAGE_IDLE_CLOSE (R359), RDG_WINDOW_END (R364), THROTTLE_END (R365),
DRAM_SCRUB_READ (R374), SRAM_SCRUB (R376, R377). -/
def Obligations.DramIsRefreshedGuardedAndScrubbed : Prop :=
  ∀ (dt : Nat) (s : State), s.blk.hold = .none → s.blk.quiet = true →
    let b := s.blk
    let now := (s.pass dt).clk
    (refreshDue now b = false → ∃ t : State, exec (.refresh dt) s = .next t ∧ Claims.only s t dt [] ∧ t.blk.dram = b.dram) ∧
    (refreshDue now b = true → ∃ t : State, exec (.refresh dt) s = .next t ∧ Claims.only s t dt [] ∧
      (∀ k, (tget {} t.blk.dram.banks k).row = none) ∧ t.blk.dram.refreshAt ≤ now.steady ∧
      now.steady < t.blk.dram.refreshAt + refreshTicks b ∧
      refreshTicks b ∣ t.blk.dram.refreshAt - b.dram.refreshAt ∧ refreshDue now t.blk = false ∧
      refreshStall now t.blk = decide (now.steady < t.blk.dram.refreshAt + tRfcNs b * nsTick) ∧
      (refreshStall now t.blk = true → ∀ sub, nextServed now t.blk sub = none)) ∧
    (∀ l : List (Fin 8 × Fin 3),
      let worst := ((l.take 16).map fun q => q.2.val).foldl max 0
      let der := b.get F.MEM_REF_DERATE
      let turn := b.on F.MEM_STAT_READY = true ∧ refreshStall now b = true ∧ now.steady / (16 * msTick) ≠ b.dram.mr4
      (¬ turn → ∃ t : State, exec (.mr4Read dt l) s = .next t ∧ Claims.only s t dt [] ∧ t.blk.dram = b.dram) ∧
      (turn →
        ∃ t : State, exec (.mr4Read dt l) s = .next t ∧ Claims.within s t dt (List.range' 9 9) ∧ t.blk.out = b.out ∧
          t.blk.dram.clean = (if worst = 0 then min 4 (b.dram.clean + 1) else 0) ∧
          t.blk.get F.MEM_REF_DERATE = (if worst ≠ 0 then worst else if 3 ≤ b.dram.clean then 0 else der) ∧
          Claims.records s t (if t.blk.get F.MEM_REF_DERATE = der then [] else [0x0904]) ∧
          (t.blk.get F.MEM_REF_DERATE ≠ der → t.blk.on F.MEM_EVT_DERATE = true) ∧
          ∀ ch : Fin 8, (let x := l.getD (2 * ch.val) (0, 0)
            let y := l.getD (2 * ch.val + 1) (0, 0)
            t.blk.get F.MEM_C_STAT_MR4 ch.val = (if x.2 < y.2 then y.1.val else x.1.val)))) ∧
    (∀ sub bank : Fin 16,
      let key := 16 * sub.val + bank.val
      let k := tget {} b.dram.banks key
      let idle := k.row.isSome = true ∧ k.last + b.get F.MEM_PAGE_IDLE_NS * nsTick ≤ now.steady
      ∃ t : State, exec (.pageIdleClose dt sub bank) s = .next t ∧ Claims.only s t dt [] ∧
        (idle → tget {} t.blk.dram.banks key = { k with row := none }) ∧ (¬ idle → t.blk.dram.banks = b.dram.banks) ∧
        ∀ j, j ≠ key → tget {} t.blk.dram.banks j = tget {} b.dram.banks j) ∧
    (∃ t : State, exec (.rdgWindowEnd dt) s = .next t ∧ Claims.only s t dt [] ∧
      t.blk.dram.guard = (if b.dram.window = now.steady / (32 * msTick) then b.dram.guard else []) ∧
      t.blk.dram.window = now.steady / (32 * msTick)) ∧
    (∀ port : Fin 24,
      ∃ t : State, exec (.throttleEnd dt port) s = .next t ∧ Claims.only s t dt [9] ∧
        t.blk.dram.throttles = b.dram.throttles.filter (fun x => !(x.port = port.val && x.until_ ≤ now.steady)) ∧
        t.blk.on F.MEM_P_STAT_THROT port.val = t.blk.dram.throttles.any fun x => x.port = port.val) ∧
    (∀ (corrected : Fin 33) (bad : Option (Fin 32)),
      let a := dramBase + b.dram.scrub
      let ch := dramSub a / 2
      (scrubTurn now b = false → ∃ t : State, exec (.dramScrubRead dt corrected bad) s = .next t ∧ Claims.only s t dt [] ∧
        t.blk.dram = b.dram) ∧
      (scrubTurn now b = true → b.on F.MEM_STAT_READY = true) ∧
      (scrubTurn now b = true → b.on F.MEM_CFG_LINK_ECC = true → b.dram.scrub % 2048 = 0 →
        ∃ t : State, exec (.dramScrubRead dt corrected bad) s = .next t ∧ Claims.within s t dt [9, 10 + ch] ∧ t.blk.out = b.out ∧
          t.blk.dram.scrub = (b.dram.scrub + 2048) % dramCapacity b ∧ t.blk.dram.scrubAt = now.steady ∧
          (tget {} t.blk.dram.banks (16 * dramSub a + dramBankOf a)).row = none ∧
          t.blk.get F.MEM_C_ERR_CORR ch = min (2 ^ F.MEM_C_ERR_CORR.width - 1) (b.get F.MEM_C_ERR_CORR ch + corrected.val) ∧
          t.blk.get F.MEM_C_ERR_UNCORR ch =
            min (2 ^ F.MEM_C_ERR_UNCORR.width - 1) (b.get F.MEM_C_ERR_UNCORR ch + b2n bad.isSome) ∧
          Claims.records s t (if bad.isSome then [0x0906] else []))) ∧
    (∀ corrected bad, now.steady < b.dram.sramAt + b.get F.MEM_SCRUB_SRAM_S * sTick →
      ∃ t : State, exec (.sramScrub dt corrected bad) s = .next t ∧ Claims.only s t dt [] ∧ t.blk.dram = b.dram) ∧
    (b.dram.sramAt + b.get F.MEM_SCRUB_SRAM_S * sTick ≤ now.steady →
    (∃ t : State, exec (.sramScrub dt [] []) s = .next t ∧ Claims.only s t dt [] ∧ t.blk.dram.sramAt = now.steady) ∧
    (∀ w : Word,
      let recent := (b.dram.words.filter fun e => now.steady < e.2 + 60 * sTick).filter fun e => e.1 = w.toNat
      ∃ t : State, exec (.sramScrub dt [w] []) s = .next t ∧ Claims.only s t dt [9] ∧ (w.toNat, now.steady) ∈ t.blk.dram.words ∧
        (1, now.steady) ∈ t.blk.dram.sramCorr ∧
        (recent.length = 3 → t.blk.on F.MEM_EVT_HOT = true ∧ t.blk.get F.MEM_SRAM_HOT_ADDR = w.toNat) ∧
        (recent.length ≠ 3 → t.blk.regs = b.regs)) ∧
    ∀ (u : Byte) (w : Word),
      ∃ t : State, exec (.sramScrub dt [] [(u, w)]) s = .next t ∧ Claims.within s t dt [9] ∧ t.blk.on F.MEM_EVT_SRAM_UE = true ∧
        Claims.records s t [0x0907] ∧ t.blk.uncorrectable = b.uncorrectable + 1)

/-- CHANNEL_SERVICE, TRAINED_SET, MEM_CONTROLLER_DISABLE (R367, R372), COMPARATOR_RUN, COMPARATOR_DONE (R369),
MODE_REGISTER_ACCESS (R366), TAMPER, SECURE_WIPE_DONE (R380). -/
def Obligations.ChannelsAreTrainedAndTheScratchpadWiped : Prop :=
  ∀ (dt : Nat) (s : State), s.blk.quiet = true →
    let b := s.blk
    let now := (s.pass dt).clk
    (∀ (cls : Cls) (channel : Fin 8),
      let ch := channel.val
      let w := 10 + ch
      let inService := b.on F.MEM_C_STAT_IN_SERVICE ch
      let wigns (i : Instr) : Prop := ∃ t : State, exec i s = .next t ∧ Claims.only s t dt [9, 2] ∧ t.blk.on F.MEM_EVT_WIGN = true ∧
        t.blk.dram = b.dram
      Calm s w →
      (Writable s cls (F.MEM_C_CTL_SVC.at ch) →
        (b.on F.MEM_C_STAT_TRAINED ch = true →
          ∃ t : State, exec (.channelService dt cls channel) s = .next t ∧ Claims.only s t dt [9, w, 2] ∧
            t.blk.on F.MEM_C_STAT_IN_SERVICE ch = true ∧ t.blk.get F.MEM_STAT_SVC = b.get F.MEM_STAT_SVC ||| 2 ^ ch ∧
            t.blk.on F.MEM_STAT_READY = (b.on F.MEM_CTL_EN && decide (b.get F.MEM_STAT_SVC ||| 2 ^ ch = 255))) ∧
        (b.on F.MEM_C_STAT_TRAINED ch = false → wigns (.channelService dt cls channel)) ∧
        (inService = false →
          ∃ t : State, exec (.trainedSet dt cls channel) s = .next t ∧ Claims.within s t dt [9, w, 2] ∧ t.blk.out = b.out ∧
            t.blk.on F.MEM_C_STAT_TRAINED ch = true ∧ t.blk.get F.MEM_STAT_TRAINED = b.get F.MEM_STAT_TRAINED ||| 2 ^ ch ∧
            t.blk.on F.MEM_EVT_TRN_DONE = true ∧ Claims.records s t [0x0901]) ∧
        (inService = true → wigns (.trainedSet dt cls channel))) ∧
      (Writable s cls (F.MEM_C_TRN_CTL_GO.at ch) →
        (inService = false →
          ∃ t : State, exec (.comparatorRun dt cls channel) s = .next t ∧ Claims.only s t dt [w, 2] ∧
            t.blk.on F.MEM_C_TRN_STAT_DONE ch = false ∧ t.blk.get F.MEM_C_TRN_STAT_FAIL ch = 0 ∧
            t.blk.get F.MEM_C_TRN_ERR_ERRS ch = 0 ∧ ch ∈ t.blk.dram.runs) ∧
        (inService = true → wigns (.comparatorRun dt cls channel))) ∧
      (Writable s cls (F.MEM_C_MR_GO.at ch) → ∀ (data : Byte) (rfm : Bool),
        let managed := b.get F.MEM_C_MR_MR ch = 27 ∧ rfm = true
        (inService = false → b.on F.MEM_C_MR_WR ch = false →
          ∃ t : State, exec (.modeRegisterAccess dt cls channel data rfm) s = .next t ∧ Claims.within s t dt [w, 2] ∧
            t.blk.out = b.out ∧ t.blk.get F.MEM_C_MR_DATA ch = data.toNat ∧
            tget 0 t.blk.dram.mrs (256 * (2 * ch + b.get F.MEM_C_MR_SUB ch) + b.get F.MEM_C_MR_MR ch) = data ∧
            (managed → t.blk.on F.MEM_C_STAT_RFM_REQ ch = true ∧ Claims.records s t [0x090A]) ∧
            (¬ managed → t.blk.evq = b.evq)) ∧
        (inService = false → b.on F.MEM_C_MR_WR ch = true →
          ∃ t : State, exec (.modeRegisterAccess dt cls channel data rfm) s = .next t ∧ Claims.only s t dt [2] ∧
            tget 0 t.blk.dram.mrs (256 * (2 * ch + b.get F.MEM_C_MR_SUB ch) + b.get F.MEM_C_MR_MR ch) =
              BitVec.ofNat 8 (b.get F.MEM_C_MR_DATA ch)) ∧
        (inService = true → wigns (.modeRegisterAccess dt cls channel data rfm)))) ∧
    (s.blk.hold = .none → ∀ (channel : Fin 8) (fail : BitVec 16) (errs : Nat),
      let ch := channel.val
      (ch ∈ b.dram.runs →
        ∃ t : State, exec (.comparatorDone dt channel fail errs) s = .next t ∧ Claims.only s t dt [10 + ch] ∧
          t.blk.on F.MEM_C_TRN_STAT_DONE ch = true ∧ t.blk.get F.MEM_C_TRN_STAT_FAIL ch = fail.toNat ∧
          t.blk.get F.MEM_C_TRN_ERR_ERRS ch = min 65535 errs) ∧
      (ch ∉ b.dram.runs → ∃ t : State, exec (.comparatorDone dt channel fail errs) s = .next t ∧ Claims.only s t dt [])) ∧
    (∀ cls : Cls, Writable s cls F.MEM_CTL_EN.addr → Calm s 9 →
      ∃ t : State, exec (.memControllerDisable dt cls) s = .next t ∧ Claims.only s t dt (2 :: List.range' 9 9) ∧
        t.blk.on F.MEM_CTL_EN = false ∧ t.blk.on F.MEM_STAT_READY = false ∧
        (b.dram.reqs = [] → t.blk.get F.MEM_STAT_SVC = 0 ∧ ∀ ch : Fin 8, t.blk.on F.MEM_C_STAT_IN_SERVICE ch.val = false) ∧
        (b.dram.reqs ≠ [] → t.blk.get F.MEM_STAT_SVC = b.get F.MEM_STAT_SVC ∧
          ∀ ch : Fin 8, t.blk.on F.MEM_C_STAT_IN_SERVICE ch.val = b.on F.MEM_C_STAT_IN_SERVICE ch.val)) ∧
    (s.blk.hold = .none →
      (∃ t : State, exec (.tamper dt) s = .next t ∧ t.clk = now ∧ t.blk.on F.SPD_STAT_WIPING = true ∧ t.blk.dram.wipe.isSome = true ∧
        (∀ a, a / 0x10000 ≠ 8 → t.blk.reg a = b.reg a) ∧ t.blk.evq = b.evq ∧ t.blk.out = b.out ∧
        (∀ off, off < 0x800000 → t.mem.byte (scratchBase + off) = (if secure off then 0 else s.mem.byte (scratchBase + off))) ∧
        (∀ a, a < scratchBase ∨ scratchBase + 0x800000 ≤ a → t.mem.byte a = s.mem.byte a) ∧
        ∀ a, t.mem.flashByte a = s.mem.flashByte a) ∧
      (b.dram.wipe = none → ∃ t : State, exec (.secureWipeDone dt) s = .next t ∧ Claims.only s t dt []) ∧
      (b.dram.wipe.isSome = true → b.shop.sessions = [] →
        ∃ t : State, exec (.secureWipeDone dt) s = .next t ∧ Claims.within s t dt [8, 21] ∧ t.blk.out = b.out ∧
          t.blk.on F.SPD_STAT_WIPING = false ∧ t.blk.on F.SPD_STAT_WIPED = true ∧ t.blk.on F.SPD_EVT_WIPE = true ∧
          t.blk.dram.wipe = none ∧ Claims.records s t [0x0801] ∧ t.blk.shop.keys = []))

/-- CLUSTER_RUN_WRITE (R388), CLUSTER_WATCHDOG_KICK, CLUSTER_WATCHDOG_EXPIRY (R389), LOCKSTEP_MISMATCH (R392),
SELF_CHECK_PERIOD, SELF_CHECK_GO, SELF_CHECK_DONE (R393), PORT_GATE (R403). -/
def Obligations.ClustersAndTheWardenAreWatched : Prop :=
  ∀ (dt : Nat) (s : State), s.blk.quiet = true →
    let b := s.blk
    let now := (s.pass dt).clk
    (∀ (cluster : Fin 4) (run : Bool), Writable s 0 (F.WDN_CL_CTL_RUN.at cluster.val) → Calm s 56 →
      let k := cluster.val
      ∃ t : State, exec (.clusterRunWrite dt 0 cluster run) s = .next t ∧ Claims.only s t dt [56, 2] ∧
        t.blk.on F.WDN_CL_CTL_RUN k = run ∧ t.blk.on F.WDN_CL_STAT_RUN k = run ∧
        t.blk.on (clusterBit F.WDN_STAT_CL_RUN k) = run ∧
        (run = true → b.on F.WDN_CL_STAT_RUN k = false →
          t.blk.on (clusterBit F.WDN_STAT_CL_STOPPED k) = false ∧ tget 0 t.blk.ctl.kicks k = now.steady)) ∧
    (∀ (cls : Cls) (cluster : Fin 4), Writable s cls (F.WDN_CL_WDOG_KICK.at cluster.val) → Calm s 56 →
      let k := cluster.val
      ∃ t : State, exec (.clusterWatchdogKick dt cls cluster) s = .next t ∧ Claims.only s t dt [2] ∧
        tget 0 t.blk.ctl.kicks k = (if cls.val = k + 1 then now.steady else tget 0 b.ctl.kicks k)) ∧
    (s.blk.hold = .none →
      (∀ cluster : Fin 4,
        let k := cluster.val
        let due := b.on F.WDN_CL_STAT_RUN k = true ∧ tget 0 b.ctl.kicks k + b.get F.WDN_CL_WDOG_MS k * msTick ≤ now.steady
        let n := ((b.ctl.expiries.filter fun e => now.steady < e.2 + 600 * sTick).filter fun e => e.1 = k).length + 1
        let again := fihusIntact s.mem b = true ∧ n ≤ 2
        (¬ due → ∃ t : State, exec (.clusterWatchdogExpiry dt cluster) s = .next t ∧ Claims.only s t dt []) ∧
        (due →
          ∃ t : State, exec (.clusterWatchdogExpiry dt cluster) s = .next t ∧ Claims.within s t dt [56] ∧ t.blk.out = b.out ∧
            t.blk.on F.WDN_CL_STAT_EXPIRED k = true ∧ t.blk.on F.WDN_EVT_EXPIRE = true ∧
            (issues b 0 = false → t.blk.on F.WDN_CL_STAT_RUN k = false ∧ Claims.records s t [0x3803]) ∧
            (issues b 0 = true → again → t.blk.on F.WDN_CL_STAT_RUN k = true ∧ Claims.records s t [0x3803, 0x3804] ∧
              t.blk.get F.WDN_CL_STAT_RESTARTS k =
                min (2 ^ F.WDN_CL_STAT_RESTARTS.width - 1) (b.get F.WDN_CL_STAT_RESTARTS k + 1)) ∧
            (issues b 0 = true → ¬ again → t.blk.on F.WDN_CL_STAT_RUN k = false ∧
              t.blk.on (clusterBit F.WDN_STAT_CL_STOPPED k) = true ∧ Claims.records s t [0x3803, 0x3805]))) ∧
      (∀ (group : Byte) (count : Word),
        (issues b 0 = false → ∃ t : State, exec (.lockstepMismatch dt group count) s = .next t ∧ Claims.only s t dt []) ∧
        (issues b 0 = true →
          ∃ t : State, exec (.lockstepMismatch dt group count) s = .next t ∧ Claims.within s t dt [5, 56] ∧ t.blk.out = b.out ∧
            t.blk.on F.WDN_STAT_LOCKSTEP = true ∧ t.blk.on F.PAIR_ST_FAILED = true ∧ Claims.records s t [0x3801] ∧
            issues t.blk 0 = false)) ∧
      (let due := b.ctl.checkAt + max 1 (b.get F.PAIR_ST_PERIOD) * sTick ≤ now.steady
       let idle := issues b 0 = true ∧ b.selfCheck = none
       (due → idle → ∃ t : State, exec (.selfCheckPeriod dt) s = .next t ∧ Claims.only s t dt [] ∧
         t.blk.selfCheck = some now.steady ∧ t.blk.ctl.checkAt = now.steady) ∧
       ((¬ due ∨ ¬ idle) → ∃ t : State, exec (.selfCheckPeriod dt) s = .next t ∧ Claims.only s t dt [] ∧
         t.blk.selfCheck = b.selfCheck)) ∧
      (∀ mask : Fin 8,
        ((b.selfCheck = none ∨ issues b 0 = false) → ∃ t : State, exec (.selfCheckDone dt mask) s = .next t ∧ Claims.only s t dt []) ∧
        (b.selfCheck.isSome = true → issues b 0 = true → b.pair.selfVotes = [] → b.ctl.checkFor = [] →
          let bad := mask.val + 8 * b2n (decide ((ruleCrc b).toNat ≠ b.get F.FLK_RULE_CRC_CRC)) +
            16 * b2n (!(checkHeads b).2) + 32 * b2n (!(b.ctl.fihus.isNone || fihusIntact s.mem b))
          (bad = 0 → ∃ t : State, exec (.selfCheckDone dt mask) s = .next t ∧ Claims.only s t dt [56] ∧ t.blk.selfCheck = none ∧
            t.blk.get F.WDN_SC_STAT_PASSED =
              min (2 ^ F.WDN_SC_STAT_PASSED.width - 1) (b.get F.WDN_SC_STAT_PASSED + 1)) ∧
          (bad ≠ 0 → ∃ t : State, exec (.selfCheckDone dt mask) s = .next t ∧ Claims.within s t dt [5, 56] ∧ t.blk.out = b.out ∧
            t.blk.selfCheck = none ∧ t.blk.get F.WDN_SC_STAT_FAIL = b.get F.WDN_SC_STAT_FAIL ||| bad ∧
            t.blk.on F.WDN_STAT_SC_FAIL = true ∧ t.blk.on F.PAIR_ST_FAILED = true ∧ t.blk.on F.WDN_EVT_SC_FAIL = true ∧
            Claims.records s t [0x3802]))) ∧
      (∀ port : Fin 6,
        let idle := tget 0 b.ctl.carried port.val + cyclesTick (b.get F.MTX_GATE_IDLE) ≤ now.steady
        ∃ t : State, exec (.portGate dt port) s = .next t ∧ Claims.only s t dt [2] ∧ ∀ p, p < 6 →
          bit (t.blk.get F.MTX_STAT_GATED) p = (bit (b.get F.MTX_STAT_GATED) p || decide (p = port.val ∧ idle)))) ∧
    (Writable s 0 F.WDN_SC_CTL_GO.addr → Calm s 56 →
      ∃ t : State, exec (.selfCheckGo dt 0) s = .next t ∧ Claims.only s t dt [2] ∧
        t.blk.selfCheck = (if b.selfCheck.isSome then b.selfCheck else some now.steady))

/-- The request of cluster `k` is answered: header, status and result in the response words (R395). -/
def Claims.answered (b t : Block) (k status : Nat) (result : List Nat) : Prop :=
  t.on F.WDN_MB_STAT_BUSY k = false ∧ t.on F.WDN_MB_STAT_DONE k = true ∧
    t.get F.WDN_MB_RSP_RSP k 0 =
      b.get F.WDN_ABI_MAJOR * 2 ^ 24 + b.get F.WDN_ABI_MINOR * 2 ^ 16 + mbOpcode b k * 256 + mbSeq b k ∧
    t.get F.WDN_MB_RSP_RSP k 1 = status + 2 ^ 16 * result.length ∧
    ∀ i, i < result.length → t.get F.WDN_MB_RSP_RSP k (i + 2) = result.getD i 0 % 2 ^ 32

/-- Only the response of one mailbox is written, with status 0, or with another and its record. -/
def Claims.replies (s t : State) (dt k status : Nat) (result : List Nat) : Prop :=
  Claims.within s t dt [56] ∧ t.blk.out = s.blk.out ∧ Claims.answered s.blk t.blk k status result ∧
    Claims.records s t (if status = 0 then [] else [0x3806])

/-- MAILBOX_RING (R395), MB_HELLO, MB_RELEASE, MB_SWITCH, MB_FLASK, MB_LOG_CLEAR, MB_SELF_CHECK, MB_REPOUR (R397). -/
def Obligations.TheWardenServesItsMailboxes : Prop :=
  ∀ (dt : Nat) (s : State), s.blk.quiet = true →
    let b := s.blk
    let now := (s.pass dt).clk
    (∀ (cls : Cls) (cluster : Fin 4), Writable s cls (F.WDN_MB_DB_RING.at cluster.val) → Calm s 56 →
      let k := cluster.val
      (b.on F.WDN_MB_STAT_BUSY k = true →
        ∃ t : State, exec (.mailboxRing dt cls cluster) s = .next t ∧ Claims.only s t dt [56, 2] ∧
          t.blk.on F.WDN_MB_STAT_OVR k = true ∧ t.blk.on F.WDN_MB_STAT_BUSY k = true) ∧
      (b.on F.WDN_MB_STAT_BUSY k = false →
        ((issues b 0 = false ∨ mbEarly b k = none) →
          ∃ t : State, exec (.mailboxRing dt cls cluster) s = .next t ∧ Claims.only s t dt [56, 2] ∧
            t.blk.on F.WDN_MB_STAT_BUSY k = true ∧ t.blk.on F.WDN_EVT_MB = true) ∧
        (issues b 0 = true → ∀ st, mbEarly b k = some st →
          ∃ t : State, exec (.mailboxRing dt cls cluster) s = .next t ∧ Claims.within s t dt [56, 2] ∧ t.blk.out = b.out ∧
            Claims.answered b t.blk k st [] ∧ t.blk.on F.WDN_EVT_MB = true ∧ Claims.records s t [0x3806]))) ∧
    (s.blk.hold = .none →
      let first := (List.range 4).find? (mbWaits b)
      let serves (op k : Nat) : Prop := first = some k ∧ issues b 0 = true ∧ mbOpcode b k = op ∧ mbEarly b k = none
      (∀ rules, ∀ i ∈ [(1, Instr.mbHello dt), (2, .mbRelease dt), (3, .mbSwitch dt), (4, .mbFlask dt rules),
          (5, .mbLogClear dt), (6, .mbSelfCheck dt), (7, .mbRepour dt)],
        ((first = none ∨ issues b 0 = false ∨ ∀ k, first = some k → mbOpcode b k ≠ i.1) →
          ∃ t : State, exec i.2 s = .next t ∧ Claims.only s t dt []) ∧
        ∀ k st, first = some k → issues b 0 = true → mbOpcode b k = i.1 → mbEarly b k = some st →
          ∃ t : State, exec i.2 s = .next t ∧ Claims.replies s t dt k st []) ∧
      ∀ k : Nat,
        (serves 1 k → ∃ t : State, exec (.mbHello dt) s = .next t ∧ Claims.replies s t dt k 0
          [b.get F.WDN_ABI_MAJOR * 2 ^ 24 + b.get F.WDN_ABI_MINOR * 2 ^ 16, b.get F.WDN_ABI_ROM, b.get F.SYS_ID_STEP]) ∧
        (serves 2 k →
          let ready := b.on F.MEM_STAT_READY = true ∧ 2 ≤ b.get F.XSP_STAT_STAGE ∧ b.start.apps = []
          (¬ ready → ∃ t : State, exec (.mbRelease dt) s = .next t ∧ Claims.replies s t dt k 5 []) ∧
          (ready → ∃ t : State, exec (.mbRelease dt) s = .next t ∧ Claims.only s t dt [36, 56] ∧ Claims.answered b t.blk k 0 [] ∧
            t.blk.on F.FET_PKT_GSTAT_RELEASED = true ∧ ∀ h : Head,
              (b.fetRuns h.val = false →
                t.blk.on F.FET_HEAD_CTL_SLAGFRAME h.val = (b.fet h.val).imgSlag ∧ (t.blk.fet h.val).rel = 3) ∧
              (b.fetRuns h.val = true → (t.blk.fet h.val).rel = 1))) ∧
        (serves 3 k →
          let cmd := mbReq b k 2
          let may := b.pairMode = true ∧ ((cmd = 1 ∧ takeOk b = true) ∨ (cmd = 2 ∧ b.role = roleActive ∧ b.linkUp = true))
          let at_ := (refTarget b 2).toNat
          (cmd ≠ 1 → cmd ≠ 2 → ∃ t : State, exec (.mbSwitch dt) s = .next t ∧ Claims.replies s t dt k 4 []) ∧
          (may → ∃ t : State, exec (.mbSwitch dt) s = .next t ∧ t.clk = now ∧ t.mem = s.mem ∧
            Claims.answered b t.blk k 0 [at_ % 2 ^ 32, at_ / 2 ^ 32] ∧
            t.blk.pair.due = some (b.pair.count + 2, decide (cmd = 1), if cmd = 1 then 2 else 3)) ∧
          ((cmd = 1 ∨ cmd = 2) → ¬ may → ∃ t : State, exec (.mbSwitch dt) s = .next t ∧ t.clk = now ∧ t.mem = s.mem ∧
            Claims.answered b t.blk k 5 [] ∧ t.blk.pair.due = b.pair.due)) ∧
        (serves 4 k → ∀ rules : Option (List (BitVec 16 × Word)),
          (∀ l, rules = some l → ruleSetBad b (ruleWrites l) = false →
            ∃ t : State, exec (.mbFlask dt rules) s = .next t ∧ Claims.only s t dt [3] ∧ t.blk.on F.FLK_STAT_PENDING = true ∧
              t.blk.ctl.flaskFor = some k ∧
              (b.on F.FLK_STAT_PENDING = false → t.blk.ctl.goAt = now.steady ∧ t.blk.ctl.goFrame = refAwaits now b) ∧ t.blk.pendF.length = b.pendF.length + l.length) ∧
          ((∀ l, rules = some l → ruleSetBad b (ruleWrites l) = true) →
            ∃ t : State, exec (.mbFlask dt rules) s = .next t ∧ Claims.replies s t dt k 4 [])) ∧
        (serves 5 k →
          let keyed := mbReq b k 2 = 0x5AF00C1E ∧ mbReq b k 3 = 0xA50FF3E1
          let free := b.on F.LOG_STAT_NOSTORE = false ∧ b.on F.LOG_STAT_CLEARING = false ∧ b.log.stopped = false
          (¬ keyed → ∃ t : State, exec (.mbLogClear dt) s = .next t ∧ Claims.replies s t dt k 4 []) ∧
          (keyed → ¬ free → ∃ t : State, exec (.mbLogClear dt) s = .next t ∧ Claims.replies s t dt k 5 []) ∧
          (keyed → free → ∃ t : State, exec (.mbLogClear dt) s = .next t ∧ Claims.only s t dt [6] ∧
            t.blk.on F.LOG_STAT_CLEARING = true ∧ t.blk.ctl.clearFor = some k)) ∧
        (serves 6 k → ∃ t : State, exec (.mbSelfCheck dt) s = .next t ∧ Claims.only s t dt [] ∧
          t.blk.ctl.checkFor = b.ctl.checkFor ++ [k] ∧
          t.blk.selfCheck = (if b.selfCheck.isSome then b.selfCheck else some now.steady)) ∧
        (serves 7 k →
          let copy := mbReq b k 2 % 2
          let force := bit (mbReq b k 2) 8
          (repourRefused b copy force = true → ∃ t : State, exec (.mbRepour dt) s = .next t ∧ Claims.replies s t dt k 5 []) ∧
          (repourRefused b copy force = false →
            ∃ t : State, exec (.mbRepour dt) s = .next t ∧ Claims.only s t dt [22, 56] ∧ Claims.answered b t.blk k 0 [] ∧
              t.blk.on F.XSP_STAT_REPOUR = true ∧ ∃ q, t.blk.start.repour = some q ∧ q.copy = copy ∧ q.force = force)))

/-- FLK_COMMIT, FLASK_COMMIT_INSTANT (R407, R412, R417, R419), FLASK_EPOCH_ADVANCE (R418). -/
def Obligations.FlaskRulesCommitTogether : Prop :=
  ∀ (dt : Nat) (s : State), s.blk.quiet = true →
    let b := s.blk
    let now := (s.pass dt).clk
    (Writable s 0 F.FLK_COMMIT_GO.addr → Calm s 3 →
      (b.on F.FLK_STAT_PENDING = false → ∃ t : State, exec (.flkCommit dt 0) s = .next t ∧ Claims.only s t dt [3, 2] ∧
        t.blk.on F.FLK_STAT_PENDING = true ∧ t.blk.ctl.goAt = now.steady ∧ t.blk.ctl.goFrame = refAwaits now b ∧
        flaskDue now t.blk = false) ∧
      (b.on F.FLK_STAT_PENDING = true → ∃ t : State, exec (.flkCommit dt 0) s = .next t ∧ Claims.only s t dt [3, 2] ∧
        t.blk.on F.FLK_EVT_WIGN = true ∧ t.blk.on F.FLK_STAT_PENDING = true)) ∧
    (b.refRuns = false → flaskDue now b = decide (b.ctl.goAt + 64 * nsTick ≤ now.steady)) ∧
    (∀ n, b.refRuns = true → b.ctl.goFrame = some n → flaskDue now b =
      (decide (n < b.frameOf b.refHead) || decide (n = b.frameOf b.refHead) &&
        lineReached (b.fmt b.refHead) (b.ras b.refHead) now.steady (b.fmt b.refHead).act)) ∧
    (s.blk.hold = .none →
      (∀ inflight : Bool,
        ((b.on F.FLK_STAT_PENDING = false ∨ flaskDue now b = false) →
          ∃ t : State, exec (.flaskCommitInstant dt inflight) s = .next t ∧ Claims.only s t dt []) ∧
        (b.on F.FLK_STAT_PENDING = true → flaskDue now b = true → (∀ q ∈ b.pendL, q.addr / 0x10000 ≠ 3) →
          b.ctl.flaskFor = none →
          ∃ (t : State) (l : List Nat), exec (.flaskCommitInstant dt inflight) s = .next t ∧ Claims.within s t dt [3] ∧ t.blk.out = b.out ∧
            (∀ a, isRule a = true → t.blk.reg a = b.written a) ∧
            t.blk.pendF = b.pendF.filter (fun q => !isRule q.addr) ∧
            t.blk.get F.FLK_STAT_COMMITS = (b.get F.FLK_STAT_COMMITS + 1) % 2 ^ 16 ∧
            t.blk.on F.FLK_STAT_PENDING = false ∧ t.blk.get F.FLK_RULE_CRC_CRC = (ruleCrc t.blk).toNat ∧
            (∀ d : Fin 32,
              let clash := (List.range 32).any fun e => slotsOverlap t.blk d.val e
              t.blk.on F.FLK_D_STAT_FAULT d.val = clash ∧ t.blk.on F.FLK_D_STAT_INVALID d.val = slotInvalid t.blk d.val ∧
              t.blk.on F.FLK_D_STAT_ACTIVE d.val = (t.blk.on F.FLK_D_CFG_EN d.val && !slotInvalid t.blk d.val && !clash)) ∧
            t.blk.on F.FLK_EVT_COMMIT = true ∧ Claims.records s t (l ++ [0x0304]) ∧ (∀ k ∈ l, k = 0x0302) ∧
            (inflight = true → t.blk.on F.FLK_STAT_DRAIN = true ∧ t.blk.get F.FLK_EPOCH_EPOCH = b.get F.FLK_EPOCH_EPOCH) ∧
            (inflight = false → t.blk.on F.FLK_STAT_DRAIN = false ∧ t.blk.get F.FLK_EPOCH_EPOCH = t.blk.get F.FLK_STAT_COMMITS ∧
              t.blk.on F.FLK_EVT_EPOCH = true))) ∧
      (b.get F.FLK_EPOCH_EPOCH = b.get F.FLK_STAT_COMMITS →
        ∃ t : State, exec (.flaskEpochAdvance dt) s = .next t ∧ Claims.only s t dt []) ∧
      (b.get F.FLK_EPOCH_EPOCH ≠ b.get F.FLK_STAT_COMMITS →
        ∃ t : State, exec (.flaskEpochAdvance dt) s = .next t ∧ Claims.only s t dt [3] ∧
          t.blk.get F.FLK_EPOCH_EPOCH = (b.get F.FLK_EPOCH_EPOCH + 1) % 2 ^ 16 ∧ t.blk.on F.FLK_EVT_EPOCH = true ∧
          t.blk.on F.FLK_STAT_DRAIN = decide (t.blk.get F.FLK_EPOCH_EPOCH ≠ b.get F.FLK_STAT_COMMITS)))

/-- The bytes of the report ring are the only ones that change (R442). -/
def Claims.reports (s t : State) (dt : Nat) (ws : List Nat) : Prop :=
  let ring := scratchBase + 16 * s.blk.get F.DSK_RPT_BASE_BASE
  t.clk = (s.pass dt).clk ∧ (∀ a, a / 0x10000 ∉ ws → t.blk.reg a = s.blk.reg a) ∧
    ∀ y, (y < ring ∨ ring + 16 * 2 ^ s.blk.get F.DSK_RPT_CFG_SIZE_LOG2 ≤ y) → t.mem.byte y = s.mem.byte y

/-- A key of a panel is a candidate in a scan with the counts `n` finds (R429). -/
def Claims.keyCandidate (b : Block) (p : Nat) (down : Nat → Bool) (count : Nat → Nat) (n : Nat) : Prop :=
  let delta : Int := (baseline b n : Int) - count n
  (down n = false ∧ (b.get F.DSK_P_TH_TOUCH_TH p : Int) ≤ delta) ∨ (down n = true ∧ (b.get F.DSK_P_TH_REL_TH p : Int) ≤ delta)

/-- A candidate counts: every one of group 15, of another group only the one with the largest delta, the lowest node of
a tie (R430). -/
def Claims.keyCounts (b : Block) (p : Nat) (down : Nat → Bool) (count : Nat → Nat) (n : Nat) : Prop :=
  let delta (m : Nat) : Int := (baseline b m : Int) - count m
  Claims.keyCandidate b p down count n ∧ (nodeGroup b n = 15 ∨
    ∀ m ∈ panelNodes b p, Claims.keyCandidate b p down count m → nodeGroup b m = nodeGroup b n → m ≠ n →
      delta m < delta n ∨ (delta m = delta n ∧ n < m))

/-- PANEL_ENABLE (R421), DESK_SCAN (R425, R429, R430, R433, R435), DESK_IDLE_STEP (R428), STUCK (R439),
OCCLUSION_TIMEOUT (R438), SNAPSHOT_DUE (R441), UNPLUG, PLUG (R446). -/
def Obligations.DeskPanelsAreScannedAndReported : Prop :=
  ∀ (dt : Nat) (panel : Fin 4) (s : State), s.blk.quiet = true →
    let b := s.blk
    let p := panel.val
    let now := (s.pass dt).clk.steady
    let x := b.panel p
    (∀ cls : Cls, Writable s cls (F.DSK_P_CTL_EN.at p) → Calm s 20 → x.enabled = false → b.on F.DSK_P_STAT_RUN p = false →
      let fault := drivePins b p = [] ∨ sensePins b p = [] ∨ 32 < (drivePins b p).length ∨ 2 ≤ b.get F.DSK_P_CTL_KIND p ∨
        reportRingOk b = false ∨ ∃ q, q < 4 ∧ q ≠ p ∧ (b.panel q).enabled = true ∧
          ((∃ d ∈ drivePins b q, d ∈ drivePins b p) ∨ ∃ d ∈ sensePins b q, d ∈ sensePins b p)
      (¬ fault →
        ∃ t : State, exec (.panelEnable dt cls panel) s = .next t ∧ Claims.only s t dt [20, 2] ∧ t.blk.on F.DSK_P_CTL_EN p = true ∧
          (t.blk.panel p).enabled = true ∧
          t.blk.on F.DSK_P_STAT_RUN p = (b.on F.DSK_CTL_EN && b.domOn 30 && panelPresent b p && b.driving)) ∧
      (fault →
        ∃ t : State, exec (.panelEnable dt cls panel) s = .next t ∧ Claims.within s t dt [20, 2] ∧ t.blk.on F.DSK_P_CTL_EN p = false ∧
          (t.blk.panel p).enabled = false ∧ t.blk.on F.DSK_EVT_CFG_ERR = true ∧ Claims.records s t [0x1408])) ∧
    (s.blk.hold = .none →
      (∀ counts : List (BitVec 16),
        let ends := x.burst + (x.scans + 1) * scanTicks b
        (b.on F.DSK_P_STAT_RUN p = false ∨ x.due = 0 ∨ now < ends ∨ b.jtag.instr = .extest →
          ∃ t : State, exec (.deskScan dt panel counts) s = .next t ∧ Claims.only s t dt []) ∧
        (b.on F.DSK_P_STAT_RUN p = true → 0 < x.due → ends ≤ now → b.jtag.instr ≠ .extest → b.paired = false →
          b.get F.DSK_RPT_HEAD_HEAD < 2 ^ b.get F.DSK_RPT_CFG_SIZE_LOG2 →
          let nodes := panelNodes b p
          let count (n : Nat) : Nat := (counts.getD (nodes.idxOf n) 0).toNat
          ∃ t : State, exec (.deskScan dt panel counts) s = .next t ∧ Claims.reports s t dt [20, 4] ∧
            (∀ n ∈ nodes, nodeGet t.blk F.DSK_CNT_CNT0 n = count n) ∧ (t.blk.panel p).due = x.due - 1 ∧
            (t.blk.panel p).scans = x.scans + 1 ∧ t.blk.get F.DSK_P_STAT_STEP p = b.get F.DSK_P_STAT_STEP p ∧
            (0 < touches t.blk p → (t.blk.panel p).zero = true ∧ (t.blk.panel p).idle = none) ∧
            (touches t.blk p = 0 → (t.blk.panel p).idle.isSome = true) ∧
            t.blk.get F.DSK_P_STAT_CONTACTS p = min 15 (touches t.blk p) ∧
            (b.get F.DSK_P_CTL_KIND p = 1 →
              (t.blk.panel p).contacts.length ≤ max (b.get F.DSK_P_SURF_NMAX p) x.contacts.length) ∧
            (b.get F.DSK_P_CTL_KIND p = 0 → x.start = none → x.barred = [] → (∀ n ∈ nodes, nodeOcc b n = false) →
              (x.keys.map (·.node)).Nodup →
              let key (n : Nat) : KeySt := (x.keys.find? (·.node = n)).getD { node := n }
              let down (n : Nat) : Bool := (key n).down
              (∀ n ∈ nodes, ∀ counted : Bool, (counted = true ↔ Claims.keyCounts b p down count n) →
                let run := if counted = down n then 0 else (key n).run + 1
                ((t.blk.panel p).keys.any fun q => q.node = n && q.down) =
                  (if run ≠ 0 ∧ b.get F.DSK_P_KEY_DEB p ≤ run then !down n else down n)) ∧
              (x.keys = [] → x.contacts = [] → (∀ n ∈ nodes, ¬ Claims.keyCandidate b p down count n) →
                ∀ n ∈ nodes, -(b.get F.DSK_P_TH_TOUCH_TH p : Int) ≤ (baseline b n : Int) - count n →
                  (baseline t.blk n : Int) =
                    baseline b n + ((count n : Int) - baseline b n) / 2 ^ b.get F.DSK_P_BLCFG_TRACK_SHIFT p)))) ∧
      (let k := b.get F.DSK_P_STAT_STEP p
       let due := b.on F.DSK_P_STAT_RUN p = true ∧ ∃ t0 lim, x.idle = some t0 ∧ t0 + lim * sTick ≤ now ∧
         ((k = 0 ∧ lim = b.get F.DSK_P_IDLE_A_IDLE1 p) ∨ (k = 1 ∧ lim = b.get F.DSK_P_IDLE_A_IDLE2 p) ∨
          (k = 2 ∧ lim = b.get F.DSK_P_IDLE_B_IDLE3 p) ∨ (k = 3 ∧ lim = b.get F.DSK_P_IDLE_B_IDLE4 p))
       (due → ∃ t : State, exec (.deskIdleStep dt panel) s = .next t ∧ t.clk = (s.pass dt).clk ∧ t.mem = s.mem ∧
         (∀ a, a / 0x10000 ≠ 20 → a / 0x10000 ≠ 4 → t.blk.reg a = b.reg a) ∧ t.blk.get F.DSK_P_STAT_STEP p = k + 1) ∧
       (¬ due → ∃ t : State, exec (.deskIdleStep dt panel) s = .next t ∧ Claims.only s t dt [])) ∧
      (b.get F.DSK_RPT_HEAD_HEAD < 2 ^ b.get F.DSK_RPT_CFG_SIZE_LOG2 →
        (let limit := b.get F.DSK_P_HOLD_HOLD_S p * sTick
         let cs := x.contacts.filter fun k => decide (k.since + limit ≤ now)
         let ks := x.keys.filter fun k => k.down && decide (k.since + limit ≤ now)
         (cs = [] → ks = [] → ∃ t : State, exec (.stuck dt panel) s = .next t ∧ Claims.only s t dt []) ∧
         ((cs ≠ [] ∨ ks ≠ []) → (∀ k ∈ ks, k.node < 960) →
           ∃ t : State, exec (.stuck dt panel) s = .next t ∧ Claims.reports s t dt [20] ∧ t.blk.on F.DSK_EVT_STUCK = true ∧
             (t.blk.panel p).contacts = x.contacts.filter (fun k => !decide (k.since + limit ≤ now)) ∧
             (t.blk.panel p).keys = x.keys.filter (fun k => !(k.down && decide (k.since + limit ≤ now))) ∧
             t.blk.get F.DSK_P_CNT_STUCK p =
               min (2 ^ F.DSK_P_CNT_STUCK.width - 1) (b.get F.DSK_P_CNT_STUCK p + cs.length + ks.length) ∧
             ∀ k ∈ ks, baseline t.blk k.node = nodeGet b F.DSK_CNT_CNT0 k.node ∧ k.node ∈ (t.blk.panel p).barred)) ∧
        (let due (q : Nat × Tick) : Bool := decide (q.2 + b.get F.DSK_P_BLCFG_OCC_S p * sTick ≤ now)
         (b.on F.DSK_P_STAT_RUN p = false → ∃ t : State, exec (.occlusionTimeout dt panel) s = .next t ∧ Claims.only s t dt []) ∧
         (b.on F.DSK_P_STAT_RUN p = true → (∀ q ∈ x.occ, q.1 < 960) →
           ∃ t : State, exec (.occlusionTimeout dt panel) s = .next t ∧ Claims.reports s t dt [20] ∧
             (t.blk.panel p).occ = x.occ.filter (fun q => !due q) ∧
             t.blk.get F.DSK_P_STAT_OCCLUDED p = (t.blk.panel p).occ.length % 2 ^ F.DSK_P_STAT_OCCLUDED.width ∧
             (∀ q ∈ x.occ, due q = true →
               baseline t.blk q.1 = nodeGet b F.DSK_CNT_CNT0 q.1 ∧ nodeOcc t.blk q.1 = false) ∧
             ∃ l, Claims.records s t l ∧ (l.filter (· = 0x1404)).length = (x.occ.filter due).length)) ∧
        (panelPresent b p = true →
          ∃ (t : State) (l : List Nat), exec (.unplug dt panel) s = .next t ∧ Claims.reports s t dt [20] ∧ panelPresent t.blk p = false ∧
            t.blk.on F.DSK_P_STAT_RUN p = false ∧ touches t.blk p = 0 ∧ t.blk.on F.DSK_EVT_PLUG = true ∧
            Claims.records s t (l ++ [0x1402]) ∧ ∀ k ∈ l, k = 0x1407) ∧
        (panelPresent b p = false →
          ∃ (t : State) (l : List Nat), exec (.plug dt panel) s = .next t ∧ Claims.reports s t dt [20] ∧ panelPresent t.blk p = true ∧
            t.blk.on F.DSK_P_STAT_RUN p = (b.on F.DSK_CTL_EN && b.domOn 30 && x.enabled && b.driving) ∧
            (t.blk.panel p).start = some 1 ∧ t.blk.on F.DSK_EVT_PLUG = true ∧
            Claims.records s t (l ++ [0x1401]) ∧ ∀ k ∈ l, k = 0x1407)) ∧
      (panelPresent b p = false → ∃ t : State, exec (.unplug dt panel) s = .next t ∧ Claims.only s t dt []) ∧
      (panelPresent b p = true → ∃ t : State, exec (.plug dt panel) s = .next t ∧ Claims.only s t dt []) ∧
      let due := decide (b.get F.DSK_BLCFG_SAVE_H ≠ 0) && b.driving && decide (b.snapAt + b.get F.DSK_BLCFG_SAVE_H * 3600 * sTick ≤ now)
      ∃ t : State, exec (.snapshotDue dt) s = .next t ∧ Claims.only s t dt [] ∧ t.blk.snapAt = (if due then now else b.snapAt) ∧
        ∀ q, q < 4 → (t.blk.panel q).snap = ((b.panel q).snap || (due && b.on F.DSK_P_STAT_RUN q)))

/-- An ingot's fields fit the layout of R450. -/
def Claims.fits (i : Ingot) : Prop :=
  i.code < 0xFFFF ∧ i.sev < 2 ^ 8 ∧ i.origin < 2 ^ 8 ∧ i.optime < 2 ^ 32 ∧ i.pcyc < 2 ^ 24 ∧ i.seq < 2 ^ 8

/-- The layout of R450 reads back, and the order is that of R452 and R456. -/
def Obligations.IngotsReadBackAsWritten : Prop :=
  (∀ i : Ingot, Claims.fits i →
    let l := i.bytes
    let num (o n : Nat) : Nat := ofLe ((l.drop o).take n)
    l.length = 32 ∧ num 0 2 = i.code ∧ num 2 1 = i.sev ∧ num 3 1 = i.origin ∧ num 4 4 = i.optime ∧ num 8 3 = i.pcyc ∧
      num 11 1 = i.seq ∧ num 12 4 = i.p0.toNat ∧ num 16 4 = i.p1.toNat ∧ num 20 4 = i.p2.toNat ∧ num 24 4 = i.p3.toNat ∧
      num 28 4 = (crc32c (l.take 28)).toNat ∧ l ≠ List.replicate 32 0xFF ∧ readIngot l = some i) ∧
  (∀ i j : Ingot, Claims.fits i → Claims.fits j →
    (i.rank < j.rank ↔ i.pcyc < j.pcyc ∨ (i.pcyc = j.pcyc ∧ (i.optime < j.optime ∨ (i.optime = j.optime ∧ i.seq < j.seq))))) ∧
  ∀ (l : List Byte) (k : Nat), readIngot l = none → k < 65536 → slotSeverity l = 0 ∧ ∀ i : Ingot, slotRank k l < i.rank

/-- The ingot of an event (R450, R453). -/
def Claims.ingotOf (b : Block) (e : Event) (optime seq : Nat) : Ingot :=
  { code := e.code, sev := e.sev % 8 + 8 * b.get F.SYS_STRAP_UNIT + 16 * b.get F.SYS_STRAP_POS, origin := e.origin,
    optime := optime, pcyc := b.get F.LOG_PCYC_PCYC, seq := seq, p0 := e.p0, p1 := e.p1, p2 := e.p2, p3 := e.p3 }

/-- What follows from the buffer: PENDING, the flush wanted and FLUSHING (R459); `wanted`: a reason beside BATCH_N. -/
def Claims.flushes (b t : Block) (wanted : Bool) : Prop :=
  let n := (pendings t).length
  t.get F.LOG_CNT_PENDING = min 2047 n ∧ t.on F.LOG_STAT_FLUSHING = (t.log.flush && storeWritable t) ∧
    t.log.flush = ((b.log.flush || wanted || decide (max 1 (b.get F.LOG_CFG_BATCH_N) ≤ n)) && decide (0 < n))

/-- INGOT_STAGE, BATCH_TIMEOUT (R459), OPTIME_TICK (R453), PFAIL_RISE (R461), STORE_REBUILD (R454, R456, R458, R462). -/
def Obligations.IngotsAreStagedInKeyOrder : Prop :=
  ∀ (dt : Nat) (s : State), s.blk.hold ≠ .all → s.blk.quiet = true →
    let b := s.blk
    let now := (s.pass dt).clk.steady
    let dropped (t : State) : Prop :=
      t.blk.get F.LOG_CNT_STAGE_DROP =
        min (2 ^ F.LOG_CNT_STAGE_DROP.width - 1) (b.get F.LOG_CNT_STAGE_DROP + 1) ∧ t.blk.on F.LOG_EVT_DROP = true
    (b.evq = [] → ∃ t : State, exec (.ingotStage dt) s = .next t ∧ Claims.only s t dt []) ∧
    (∀ e rest, b.evq = e :: rest →
      ((pendings b).length < 1024 →
        let full := 4096 ≤ b.log.buf.length
        let op := if b.log.seqNext < 256 then b.get F.LOG_OPTIME_OPTIME else (b.get F.LOG_OPTIME_OPTIME + 1) % 2 ^ 32
        let sq := if b.log.seqNext < 256 then b.log.seqNext else 0
        ∃ t : State, exec (.ingotStage dt) s = .next t ∧ Claims.within s t dt [6] ∧ t.blk.out = b.out ∧ t.blk.evq = rest ∧
          t.blk.log.buf = (if full then b.log.buf.drop 1 else b.log.buf) ++ [{ ing := Claims.ingotOf b e op sq, since := now }] ∧
          t.blk.log.seqNext = sq + 1 ∧ t.blk.get F.LOG_OPTIME_OPTIME = op ∧
          t.blk.log.lead = b.log.lead + b2n (decide (256 ≤ b.log.seqNext)) ∧
          Claims.flushes b t.blk (decide (5 ≤ e.sev)) ∧ (5 ≤ e.sev → t.blk.on F.LOG_EVT_SEV5 = true) ∧
          (full → b.on F.LOG_STAT_NOSTORE = true → dropped t)) ∧
      (1024 ≤ (pendings b).length → b.log.buf.length ≤ 4096 →
        ((∀ q ∈ pendings b, e.sev % 8 ≤ q.ing.severity) →
          ∃ t : State, exec (.ingotStage dt) s = .next t ∧ Claims.within s t dt [6] ∧ t.blk.out = b.out ∧ t.blk.evq = rest ∧
            t.blk.log.buf = b.log.buf ∧ dropped t) ∧
        ((∃ q ∈ pendings b, q.ing.severity < e.sev % 8) →
          ∃ (t : State) (x : List Staged) (q : Staged) (y : List Staged) (i : Staged), exec (.ingotStage dt) s = .next t ∧ Claims.within s t dt [6] ∧ t.blk.out = b.out ∧ t.blk.evq = rest ∧
            b.log.buf = x ++ q :: y ∧ q.pending = true ∧ (∀ r ∈ pendings b, q.ing.severity ≤ r.ing.severity) ∧
            (∀ r ∈ y, r.pending = true → r.ing.severity ≠ q.ing.severity) ∧
            t.blk.log.buf = x ++ y ++ [i] ∧ i.pending = true ∧ i.ing.code = e.code ∧ dropped t))) ∧
    (let due := ∃ q rest, pendings b = q :: rest ∧ q.since + ((max 1 (b.get F.LOG_CFG_BATCH_MS) * msTick : Nat) : Int) ≤ now
     (due → ∃ t : State, exec (.batchTimeout dt) s = .next t ∧ Claims.only s t dt [6] ∧ t.blk.log.flush = true ∧
       t.blk.on F.LOG_STAT_FLUSHING = storeWritable b) ∧
     (¬ due → ∃ t : State, exec (.batchTimeout dt) s = .next t ∧ Claims.only s t dt [])) ∧
    (now < b.log.opNext → ∃ t : State, exec (.optimeTick dt) s = .next t ∧ Claims.only s t dt []) ∧
    (b.log.opNext ≤ now → ∃ t : State, exec (.optimeTick dt) s = .next t ∧ Claims.only s t dt [6] ∧
      t.blk.log.opNext = b.log.opNext + 878906250 * nsTick ∧
      (b.log.lead = 0 → t.blk.get F.LOG_OPTIME_OPTIME = (b.get F.LOG_OPTIME_OPTIME + 1) % 2 ^ 32 ∧ t.blk.log.seqNext = 0) ∧
      (0 < b.log.lead → t.blk.get F.LOG_OPTIME_OPTIME = b.get F.LOG_OPTIME_OPTIME ∧
        t.blk.log.lead = b.log.lead - 1 ∧ t.blk.log.seqNext = b.log.seqNext)) ∧
    (∃ t : State, exec (.pfailRise dt) s = .next t ∧ Claims.only s t dt []) ∧
    ∀ ident : BitVec 16,
      ((b.on F.LOG_STAT_READY = true ∨ b.on F.LOG_STAT_NOSTORE = true ∨ b.log.stopped = true) →
        ∃ t : State, exec (.storeRebuild dt ident) s = .next t ∧ Claims.only s t dt []) ∧
      (b.on F.LOG_STAT_READY = false → b.on F.LOG_STAT_NOSTORE = false → b.log.stopped = false → b.evq = [] → b.log.buf.length < 1024 →
        b.log.seqNext < 256 →
        (ident.toNat ≠ b.get F.MRS_ID_EXPECT →
          ∃ (t : State) (l : List Staged) (q : Staged), exec (.storeRebuild dt ident) s = .next t ∧ Claims.only s t dt [6, 23] ∧
            t.blk.on F.LOG_STAT_NOSTORE = true ∧ t.blk.on F.LOG_STAT_READY = false ∧ t.blk.get F.MRS_ID_READ = ident.toNat ∧
            t.blk.log.buf = l ++ [q] ∧ q.ing.code = 0x0605 ∧ q.ing.p0.toNat = ident.toNat ∧ q.ing.p1 = 0xFFFFFFFF) ∧
        (ident.toNat = b.get F.MRS_ID_EXPECT →
          let good := b.log.store.filterMap fun q => readIngot q.2
          let marks := good.filter fun i => i.code = 0x0601 || i.code = 0x0603 || i.code = 0x0604
          ∃ (t : State) (op : Nat) (q : Staged), exec (.storeRebuild dt ident) s = .next t ∧ Claims.only s t dt [6, 23] ∧
            t.blk.on F.LOG_STAT_READY = true ∧ t.blk.get F.MRS_ID_READ = ident.toNat ∧ t.blk.log.store = b.log.store ∧
            (good = [] → t.blk.get F.LOG_PCYC_PCYC = 1 ∧ op = 0) ∧
            (∀ i ∈ good, (∀ j ∈ good, j.pcyc ≤ i.pcyc) → t.blk.get F.LOG_PCYC_PCYC = (i.pcyc + 1) % 2 ^ 24) ∧
            (∀ i ∈ good, (∀ j ∈ good, j.rank ≤ i.rank) → op = i.optime) ∧
            t.blk.get F.LOG_OPTIME_OPTIME = (b.get F.LOG_OPTIME_OPTIME + op) % 2 ^ 32 ∧
            (marks = [] → t.blk.get F.LOG_DROP_COUNT = 0) ∧
            (∀ i ∈ marks, (∀ j ∈ marks, j ≠ i → j.rank < i.rank) → t.blk.get F.LOG_DROP_COUNT = i.p3.toNat) ∧
            t.blk.log.buf = (b.log.buf.map fun q => { q with
              ing := { q.ing with pcyc := t.blk.get F.LOG_PCYC_PCYC, optime := (q.ing.optime + op) % 2 ^ 32 } }) ++ [q] ∧
            q.ing.code = 0x0601 ∧ q.ing.p0.toNat = t.blk.get F.LOG_PCYC_PCYC ∧
            q.ing.p1 = BitVec.ofNat 32 good.length ∧ q.ing.p2 = BitVec.ofNat 32 (b.log.store.length - good.length) ∧
            q.ing.p3.toNat = t.blk.get F.LOG_DROP_COUNT))

/-- INGOT_WRITE (R457, R459, R462), POWER_FAIL_FLUSH (R460, R461), CLEAR_KEY_WRITE (R465), BLACK_BOX_CLEAR (R466). -/
def Obligations.TheStoreIsWrittenFlushedAndCleared : Prop :=
  ∀ (dt : Nat) (s : State), s.blk.quiet = true →
    let b := s.blk
    let now := (s.pass dt).clk.steady
    (s.blk.hold ≠ .all →
      (∀ ok : Bool,
        let due := b.log.flush = true ∨ max 1 (b.get F.LOG_CFG_BATCH_N) ≤ (pendings b).length
        ((storeWritable b = false ∨ ¬ due ∨ pendings b = []) →
          ∃ t : State, exec (.ingotWrite dt ok) s = .next t ∧ Claims.only s t dt [] ∧ t.blk.log.store = b.log.store) ∧
        (storeWritable b = true → due → ∀ x q y, b.log.buf = x ++ q :: y → q.pending = true → (∀ r ∈ x, r.pending = false) →
          let sev := q.ing.severity
          let written (t : State) (k : Nat) : Prop :=
            Claims.only s t dt [6] ∧ t.blk.log.store = sparsePut emptySlot b.log.store k q.ing.bytes ∧
              t.blk.log.buf = x ++ { q with pending := false } :: y ∧
              t.blk.get F.LOG_CNT_PENDING = min 2047 ((pendings b).length - 1)
          let failed (t : State) (k : Nat) : Prop :=
            Claims.only s t dt [6, 23] ∧ t.blk.on F.LOG_STAT_NOSTORE = true ∧
              t.blk.get F.MRS_STAT_WFAIL = min (2 ^ F.MRS_STAT_WFAIL.width - 1) (b.get F.MRS_STAT_WFAIL + 1) ∧
              t.blk.get F.LOG_CNT_PENDING = 0 ∧
              ∃ (l : List Staged) (r : Staged), t.blk.log.buf = l ++ [r] ∧ r.ing.code = 0x0605 ∧ r.ing.p1 = BitVec.ofNat 32 k
          (b.log.store.length < 65536 →
            ∃ (t : State) (k : Nat), exec (.ingotWrite dt ok) s = .next t ∧ k < 65536 ∧ b.log.store.lookup k = none ∧
              (if ok then written t k else failed t k)) ∧
          (65536 ≤ b.log.store.length →
            ((∃ r ∈ b.log.store, slotSeverity r.2 ≤ sev) →
              ∃ (t : State) (k : Nat) (l : List Byte), exec (.ingotWrite dt ok) s = .next t ∧ (k, l) ∈ b.log.store ∧ slotSeverity l ≤ sev ∧
                (∀ r ∈ b.log.store, slotSeverity r.2 ≤ sev → slotRank k l ≤ slotRank r.1 r.2) ∧
                (if ok then written t k else failed t k)) ∧
            ((∀ r ∈ b.log.store, sev < slotSeverity r.2) →
              ∃ t : State, exec (.ingotWrite dt ok) s = .next t ∧ Claims.only s t dt [6] ∧ t.blk.log.store = b.log.store ∧
                t.blk.log.buf = x ++ y ∧ t.blk.on F.LOG_EVT_DROP = true ∧
                t.blk.get F.LOG_DROP_COUNT = min (2 ^ 32 - 1) (b.get F.LOG_DROP_COUNT + 1))))) ∧
      (∀ good : Option Nat, b.ctl.clearFor = none →
        (b.log.stopped = true → ∃ t : State, exec (.powerFailFlush dt good) s = .next t ∧ Claims.only s t dt [1] ∧
          t.blk.on F.PWR_STAT_PFAIL = true ∧ t.blk.log.store = b.log.store) ∧
        (b.log.stopped = false → b.evq = [] → storeWritable b = true → good = none → b.log.seqNext < 256 →
          b.log.buf.length < 4096 → b.log.store.length + (pendings b).length < 65536 →
          ∃ t : State, exec (.powerFailFlush dt good) s = .next t ∧ Claims.only s t dt [1, 6] ∧ t.blk.on F.PWR_STAT_PFAIL = true ∧
            t.blk.log.stopped = true ∧ t.blk.log.move = none ∧ t.blk.on F.LOG_CUR_STAT_BUSY = false ∧ pendings t.blk = [] ∧
            t.blk.log.store.length = b.log.store.length + (pendings b).length + 1 ∧
            (∀ k l, b.log.store.lookup k = some l → t.blk.log.store.lookup k = some l) ∧
            (∀ q ∈ pendings b, ∃ k, k < 65536 ∧
              t.blk.log.store.lookup k = some { q.ing with sev := q.ing.sev % 64 + 64 }.bytes) ∧
            ∃ (k : Nat) (i : Ingot), t.blk.log.store.lookup k = some (Ingot.bytes i) ∧ i.code = 0x0603 ∧ i.severity = 5 ∧ bit i.sev 6 = true ∧
              i.p0 = BitVec.ofNat 32 (pendings b).length ∧ i.p3.toNat = b.get F.LOG_DROP_COUNT)) ∧
      (let on := b.on F.LOG_STAT_CLEARING = true ∧ b.on F.LOG_STAT_READY = true
       (¬ on → (b.on F.LOG_STAT_CLEARING = true ∨ b.ctl.clearFor = none) →
         ∃ t : State, exec (.blackBoxClear dt) s = .next t ∧ Claims.only s t dt [] ∧ t.blk.log.store = b.log.store) ∧
       (on → b.evq = [] → b.log.seqNext < 256 → (pendings b).length < 1024 → b.log.buf.length < 4096 →
         (∀ k, b.ctl.clearFor = some k → k < 4) →
         let field := b.get F.SYS_LC_STATE = 1
         let kept := b.log.store.filter fun q => decide field && (readIngot q.2).isSome && decide (slotSeverity q.2 = 7)
         ∃ (t : State) (q : Staged), exec (.blackBoxClear dt) s = .next t ∧ Claims.only s t dt [6, 56] ∧ t.blk.log.store = kept ∧
           t.blk.log.buf = b.log.buf ++ [q] ∧ q.ing.code = 0x0604 ∧
           q.ing.p0 = BitVec.ofNat 32 (b.log.store.length - kept.length) ∧ q.ing.p1 = BitVec.ofNat 32 kept.length ∧
           t.blk.on F.LOG_STAT_CLEARING = false ∧ t.blk.get F.LOG_DROP_COUNT = 0 ∧ t.blk.on F.LOG_EVT_CLEARED = true ∧
           (∀ k, b.ctl.clearFor = some k → Claims.answered b t.blk k 0 []) ∧
           (b.ctl.clearFor = none → ∀ a, a / 0x10000 = 56 → t.blk.reg a = b.reg a)))) ∧
    (∀ v : Word, Writable s 0 F.LOG_CLR_KEY_KEY.addr → Calm s 6 →
      let first := v = 0x5AF00C1E
      let second := v = 0xA50FF3E1 ∧ ∃ t0, b.log.key = some t0 ∧ now ≤ t0 + msTick
      let free := b.on F.LOG_STAT_NOSTORE = false ∧ b.on F.LOG_STAT_CLEARING = false ∧ b.log.stopped = false
      (first → b.log.key = none → ∃ t : State, exec (.clearKeyWrite dt 0 v) s = .next t ∧ Claims.only s t dt [2] ∧
        t.blk.log.key = some now) ∧
      (second → free → ∃ t : State, exec (.clearKeyWrite dt 0 v) s = .next t ∧ Claims.only s t dt [6, 2] ∧ t.blk.log.key = none ∧
        t.blk.on F.LOG_STAT_CLEARING = true) ∧
      ((¬ first ∨ b.log.key ≠ none) → (¬ second ∨ ¬ free) →
        ∃ t : State, exec (.clearKeyWrite dt 0 v) s = .next t ∧ Claims.only s t dt [6, 2] ∧ t.blk.on F.LOG_EVT_WIGN = true ∧
          t.blk.on F.LOG_STAT_CLEARING = b.on F.LOG_STAT_CLEARING))

/-- An ingot qualifies for a move (R463). -/
def Claims.qualifies (b : Block) (mv : LogMove) (q : LogItem) : Prop :=
  match mv with
  | .oldest | .newest => True
  | .firstOf p => q.pcyc = some p
  | .newer => ∃ k, b.log.cur = some k ∧ k < q.rank
  | .older => ∃ k, b.log.cur = some k ∧ q.rank < k

/-- Of two ingots that qualify, a move prefers the newer for a placement on the newest and a step to the older. -/
def Claims.prefers (mv : LogMove) (q r : LogItem) : Prop :=
  match mv with
  | .newest | .older => r.rank ≤ q.rank
  | _ => q.rank ≤ r.rank

/-- CURSOR_OLDEST, CURSOR_NEWEST, CURSOR_FIRST_OF_PCYC, STEP_NEWER, STEP_OLDER, CURSOR_MOVE_DONE (R463, R464),
LOG_SUBMIT (R467). -/
def Obligations.TheCursorReadsInKeyOrder : Prop :=
  ∀ (dt : Nat) (s : State), s.blk.quiet = true →
    let b := s.blk
    (∀ (cls : Cls) (pcyc : BitVec 24), Calm s 6 → b.log.move = none →
      ∀ q ∈ [(Instr.cursorOldest dt cls, LogMove.oldest, F.LOG_CURSOR_CMD.addr),
          (.cursorNewest dt cls, .newest, F.LOG_CURSOR_CMD.addr),
          (.cursorFirstOfPcyc dt cls pcyc, .firstOf pcyc.toNat, F.LOG_CURSOR_CMD.addr),
          (.stepNewer dt cls, .newer, F.LOG_STEP_DIR.addr), (.stepOlder dt cls, .older, F.LOG_STEP_DIR.addr)],
        Writable s cls q.2.2 →
        ∃ t : State, exec q.1 s = .next t ∧ Claims.only s t dt [6, 2] ∧ t.blk.on F.LOG_CUR_STAT_BUSY = true ∧
          t.blk.on F.LOG_CUR_STAT_END = false ∧ t.blk.log.move = some q.2.1 ∧ t.blk.log.cur = b.log.cur ∧
          ∀ w, w < 8 → t.blk.get F.LOG_WIN_WIN w = b.get F.LOG_WIN_WIN w) ∧
    (s.blk.hold ≠ .all →
      (b.log.move = none → ∃ t : State, exec (.cursorMoveDone dt) s = .next t ∧ Claims.only s t dt []) ∧
      ∀ mv, b.log.move = some mv →
        ((∀ q ∈ logItems b, ¬ Claims.qualifies b mv q) →
          ∃ t : State, exec (.cursorMoveDone dt) s = .next t ∧ Claims.only s t dt [6] ∧ t.blk.on F.LOG_CUR_STAT_BUSY = false ∧
            t.blk.on F.LOG_CUR_STAT_END = true ∧ t.blk.log.cur = b.log.cur ∧
            (∀ f ∈ [F.LOG_CUR_STAT_VALID, F.LOG_CUR_STAT_DAMAGED, F.LOG_CUR_STAT_PENDING, F.LOG_CUR_STAT_SLOT],
              t.blk.get f = b.get f) ∧
            ∀ w, w < 8 → t.blk.get F.LOG_WIN_WIN w = b.get F.LOG_WIN_WIN w) ∧
        ((∃ q ∈ logItems b, Claims.qualifies b mv q) →
          ∃ (t : State) (q : LogItem), exec (.cursorMoveDone dt) s = .next t ∧ Claims.only s t dt [6] ∧ t.blk.on F.LOG_CUR_STAT_BUSY = false ∧
            q ∈ logItems b ∧ Claims.qualifies b mv q ∧
            (∀ r ∈ logItems b, Claims.qualifies b mv r → Claims.prefers mv q r) ∧
            t.blk.log.cur = some q.rank ∧ t.blk.on F.LOG_CUR_STAT_VALID = true ∧
            t.blk.on F.LOG_CUR_STAT_DAMAGED = q.damaged ∧ t.blk.on F.LOG_CUR_STAT_PENDING = q.pending ∧
            t.blk.get F.LOG_CUR_STAT_SLOT = q.slot % 2 ^ 16 ∧ t.blk.on F.LOG_CUR_STAT_END = b.on F.LOG_CUR_STAT_END ∧
            ∀ w, w < 8 → t.blk.get F.LOG_WIN_WIN w = ofLe ((q.bytes.drop (4 * w)).take 4))) ∧
    ∀ (cls : Cls) (k : Fin 5), Writable s cls (F.LOG_SUB_GO_GO.at k.val) → Calm s 6 →
      let code := b.get F.LOG_SUB_HDR_CODE k.val
      let sev := b.get F.LOG_SUB_HDR_SEV k.val
      let legal := 0xF000 ≤ code ∧ code ≤ 0xFFFE ∧ (k.val < 4 → sev < 7)
      (legal → b.evq = [] → b.log.seqNext < 256 → (pendings b).length < 1024 → b.log.buf.length < 4096 →
        ∃ (t : State) (q : Staged), exec (.logSubmit dt cls k) s = .next t ∧ Claims.only s t dt [6, 2] ∧ t.blk.log.buf = b.log.buf ++ [q] ∧
          q.ing.code = code ∧ q.ing.severity = sev ∧ q.ing.origin = (if k.val < 4 then 0xF0 + k.val else 0xF8) ∧
          q.ing.p0 = b.reg (F.LOG_SUB_P_P.at k.val 0) ∧ q.ing.p1 = b.reg (F.LOG_SUB_P_P.at k.val 1) ∧
          q.ing.p2 = b.reg (F.LOG_SUB_P_P.at k.val 2) ∧ q.ing.p3 = b.reg (F.LOG_SUB_P_P.at k.val 3)) ∧
      (¬ legal → ∃ t : State, exec (.logSubmit dt cls k) s = .next t ∧ Claims.only s t dt [6, 2] ∧
        t.blk.on F.LOG_EVT_WIGN = true ∧ t.blk.log.buf = b.log.buf) ∧
      ∀ other : Cls, s.blk.hold = .none → issues b other = true → periphOk b other 6 true = true →
        other.val ≠ (if k.val < 4 then k.val + 1 else 0) →
        ∃ t : State, exec (.logSubmit dt other k) s = .next t ∧ Claims.only s t dt [2] ∧ t.blk.log = b.log ∧
          t.blk.resp = failResp (periphPosted b 6)

/-- A unit's register after the bytes `f 0`, `f 1`, … -/
def Claims.scanned (g : AsyCfg) (r : Nat) (f : Nat → Byte) (n : Nat) : Nat := ((List.range n).map f).foldl (asyByte g) r

/-- ASSAY_SCAN (R470, R471), ASSAY_SCAN_DONE (R469, R470, R472). -/
def Obligations.AssayUnitsScanMemory : Prop :=
  (let g : AsyCfg := { w := 32, poly := 0x1EDC6F41, init := 0xFFFFFFFF, refin := true, refout := true, inv := true }
   ∀ l : List Byte, asyResult g (l.foldl (asyByte g) g.init) = (crc32c l).toNat) ∧
  ∀ (dt : Nat) (unit : Fin 4) (s : State), s.blk.quiet = true →
    let b := s.blk
    let u := unit.val
    let g := asyCfg b u
    let len := b.get F.ASY_U_LEN_LEN u
    let a := b.get2 F.ASY_U_ADDR_LO_ADDR F.ASY_U_ADDR_HI_ADDR u
    let val (t : State) : Nat := t.blk.get2 F.ASY_U_VAL_LO_VAL F.ASY_U_VAL_HI_VAL u
    let done (t : State) : Prop := t.blk.on F.ASY_U_STAT_BUSY u = false ∧ t.blk.on F.ASY_U_STAT_DONE u = true ∧
      bit (t.blk.reg 0x70000).toNat u = true ∧
      t.blk.get2 F.ASY_U_RES_LO_RES F.ASY_U_RES_HI_RES u = asyResult g (val t) % 2 ^ 64
    (∀ (cls : Cls) (cont : Bool), Writable s cls (F.ASY_U_CTL_GO.at u) → Calm s 7 →
      (b.on F.ASY_U_STAT_BUSY u = true → ∃ t : State, exec (.assayScan dt cls unit cont) s = .next t ∧ Claims.only s t dt [7, 2] ∧
        t.blk.on F.ASY_EVT_WIGN = true ∧ t.blk.on F.ASY_U_STAT_BUSY u = true ∧ val t = val s) ∧
      (b.on F.ASY_U_STAT_BUSY u = false → 8 ≤ g.w → g.w ≤ 64 → ∃ t : State, exec (.assayScan dt cls unit cont) s = .next t ∧
        Claims.only s t dt [7, 2] ∧ val t = (if cont then val s else g.init) % 2 ^ g.w ∧
        t.blk.on F.ASY_U_CTL_MODE u = cont ∧ t.blk.on F.ASY_U_STAT_ERR u = false ∧ t.blk.get F.ASY_U_DONE_DONE u = 0 ∧
        (len = 0 → done t) ∧
        (len ≠ 0 → t.blk.on F.ASY_U_STAT_BUSY u = true ∧ t.blk.on F.ASY_U_STAT_DONE u = false))) ∧
    (s.blk.hold = .none →
      (∀ bad : Option Word, b.on F.ASY_U_STAT_BUSY u = false →
        ∃ t : State, exec (.assayScanDone dt unit bad) s = .next t ∧ Claims.only s t dt []) ∧
      (b.on F.ASY_U_STAT_BUSY u = true → 8 ≤ g.w → g.w ≤ 64 → val s < 2 ^ g.w →
        (∀ f : Nat → Byte, (∀ i, i < len → serviceByte s.mem b (a + i) = some (f i)) →
          ∃ t : State, exec (.assayScanDone dt unit none) s = .next t ∧ Claims.only s t dt [7] ∧
            val t = Claims.scanned g (val s) f len ∧ t.blk.get F.ASY_U_DONE_DONE u = len ∧ done t) ∧
        (∀ (k : Word) (f : Nat → Byte), k.toNat < len → (∀ i, i < k.toNat → serviceByte s.mem b (a + i) = some (f i)) →
          ∃ t : State, exec (.assayScanDone dt unit (some k)) s = .next t ∧ Claims.within s t dt [7] ∧ t.blk.out = b.out ∧
            val t = Claims.scanned g (val s) f k.toNat ∧ t.blk.get F.ASY_U_DONE_DONE u = k.toNat ∧
            t.blk.on F.ASY_U_STAT_BUSY u = false ∧ t.blk.on F.ASY_U_STAT_ERR u = true ∧
            bit (t.blk.reg 0x70000).toNat (4 + u) = true ∧ Claims.records s t [0x0701])))

/-- The fabric region and the switched domains restart at ROM (R492): the recorder, the black-box port and the straps run
on, everything else is at reset. -/
def Claims.fabricRestarted (s t : State) (cause : Nat) : Prop :=
  t.clk = {} ∧ t.blk.hold = .none ∧ t.blk.get F.SYS_RST_CAUSE = cause ∧
    t.blk.get F.SYS_LC_STATE = s.blk.get F.SYS_LC_STATE ∧
    (∀ a, a / 0x10000 = 6 ∨ a / 0x10000 = 23 ∨ a = F.SYS_STRAP_UNIT.addr → t.blk.reg a = s.blk.reg a) ∧
    (∀ a, a / 0x10000 ≠ 6 → a / 0x10000 ≠ 23 → a ∉ [F.SYS_STRAP_UNIT.addr, F.SYS_RST_CAUSE.addr, F.SYS_LC_STATE.addr] →
      t.blk.reg a = State.reset.blk.reg a) ∧
    t.blk.log.store = s.blk.log.store ∧ t.blk.out = s.blk.out ∧ (∀ y, y < 2 ^ 40 → t.mem.byte y = 0) ∧
    Claims.records s t (List.replicate s.blk.shop.sessions.length 0x1502 ++ [0x0001])

/-- A new boot-state record is in effect (R475, R493); no byte below the boot state changes. -/
def Claims.bootWritten (s t : State) (prefer trial : Nat) : Prop :=
  let seq := (bootState s.mem s.blk).1.seq
  (seq + 1 < 2 ^ 32 → (bootState t.mem s.blk).1 = { seq := seq + 1, prefer := prefer, trial := trial }) ∧
    ∀ y, y < bootOffset s.blk 0 → t.mem.flashByte y = s.mem.flashByte y

/-- While RESET_N is low (R507) every command but its release and the JTAG port's leaves the whole state as it is (that the
JTAG port acts in reset is the model's reading of R503, log 32). RESET_ASSERT, RESET_RELEASE (R507, R514), BROWNOUT (R509, R460), REPOUR_BEGIN (R491-R493), THERMAL_RESTART (R522). -/
def Obligations.ResetsRestartThePart : Prop :=
  (∀ (i : Instr) (s : State), s.blk.hold = .all →
    (∀ dt, i ≠ .resetAssert dt) → (∀ dt u p o, i ≠ .resetRelease dt u p o) → (∀ dt, i ≠ .jtagBypass dt) →
    (∀ dt, i ≠ .jtagIdcode dt) → (∀ dt p l, i ≠ .jtagSamplePreload dt p l) → (∀ dt, i ≠ .jtagExtest dt) →
    exec i s = .next s) ∧
  ∀ (dt : Nat) (s : State), s.blk.quiet = true →
    let b := s.blk
    let now := (s.pass dt).clk
    (b.hold = .all → ∃ t : State, exec (.resetAssert dt) s = .next t ∧ Claims.only s t dt [] ∧ t.blk.hold = .all) ∧
    (b.hold ≠ .all → ∃ t : State, exec (.resetAssert dt) s = .next t ∧ Claims.only s t dt [0, 5] ∧ t.blk.hold = .all ∧
      t.blk.on F.PAIR_STAT_TOKEN_DRV = false ∧ t.blk.get F.SYS_RST_CAUSE = (if b.hold = .fabric then 2 else 1)) ∧
    (∀ (unit : Bool) (pos : Fin 4) (powerOn : Bool),
      let release : Instr := .resetRelease dt unit pos powerOn
      (b.hold ≠ .all → ∃ t : State, exec release s = .next t ∧ Claims.only s t dt [] ∧ t.blk.hold = b.hold) ∧
      (b.hold = .all →
        let cause := if b.get F.SYS_RST_CAUSE = 2 then 2 else if powerOn then 0 else 1
        ∃ t : State, exec release s = .next t ∧ t.clk = {} ∧ t.blk.hold = .none ∧ t.blk.get F.SYS_RST_CAUSE = cause ∧
          t.blk.get F.SYS_STRAP_UNIT = b2n unit ∧ t.blk.get F.SYS_STRAP_POS = pos.val ∧
          t.blk.get F.SYS_LC_STATE = b.get F.SYS_LC_STATE ∧
          (∀ a, a ∉ [F.SYS_STRAP_UNIT.addr, F.SYS_RST_CAUSE.addr, F.SYS_LC_STATE.addr] →
            t.blk.reg a = State.reset.blk.reg a) ∧
          t.blk.log = { store := b.log.store } ∧ t.blk.out = b.out ∧ (∀ y, y < 2 ^ 40 → t.mem.byte y = 0) ∧
          t.mem.flash = s.mem.flash ∧
          t.blk.evq = [{ code := 0x0001, sev := 2, origin := 0, p0 := BitVec.ofNat 32 cause,
                         p1 := BitVec.ofNat 32 (b.get F.SYS_LC_STATE), p2 := t.blk.reg F.SYS_STRAP_UNIT.addr }])) ∧
    (b.hold = .none →
      (∀ good : Option Nat,
        (b.on F.PWR_STAT_PFAIL = true → ∃ t : State, exec (.brownout dt good) s = .next t ∧ Claims.only s t dt []) ∧
        (b.on F.PWR_STAT_PFAIL = false → ∃ t : State, exec (.brownout dt good) s = .next t ∧ Claims.within s t dt [1, 5, 6, 23] ∧
          t.blk.out = b.out ∧ t.blk.hold = .fabric ∧ t.blk.on F.PWR_STAT_PFAIL = true ∧ t.blk.log.stopped = true ∧
          t.blk.on F.PAIR_STAT_TOKEN_DRV = false)) ∧
      (let ready := issues b 0 = true ∧ ∃ q, b.start.repour = some q ∧ q.verified = true ∧ refInstant now q.since q.frame b = true
       (¬ ready → ∃ t : State, exec (.repourBegin dt) s = .next t ∧ Claims.only s t dt []) ∧
       (∀ q, issues b 0 = true → b.start.repour = some q → q.verified = true → refInstant now q.since q.frame b = true → q.copy < 2 →
         let prefer := (bootState s.mem b).1.prefer
         ∃ t : State, exec (.repourBegin dt) s = .next t ∧ Claims.fabricRestarted s t 4 ∧ t.blk.start.named = some q.copy ∧
           (q.copy = prefer % 2 → t.mem.flash = s.mem.flash) ∧
           (q.copy ≠ prefer % 2 → Claims.bootWritten s t prefer (q.copy + 1)))) ∧
      (let cool := b.hot = true ∧ b.geti F.SYS_TEMP_TJ ≤ shutdownTj - 160
       (¬ cool → ∃ t : State, exec (.thermalRestart dt) s = .next t ∧ Claims.only s t dt []) ∧
       (cool → ∃ t : State, exec (.thermalRestart dt) s = .next t ∧ Claims.fabricRestarted s t 3 ∧ t.mem.flash = s.mem.flash)))

/-- A header passes the checks 1 to 7 and 10 of the table Copy rejection reasons. -/
def Claims.headerPasses (m : Mem) (b : Block) (k : Nat) (err : Bool) : Prop :=
  let at_ (o n : Nat) : List Byte := m.flashBytes (copyBase b k + o) n
  let num (o n : Nat) : Nat := ofLe (at_ o n)
  err = false ∧ at_ 0 4 = [0x4E, 0x4B, 0x50, 0x49] ∧ num 22 2 = 0x7240 ∧ num 4 1 = 1 ∧ num 7 1 ≤ 3 ∧
    Config.fusedKey (num 7 1) = some (sha256 (at_ 1600 64)) ∧
    ecdsaOk (at_ 1600 64) (at_ 4032 64) (at_ 0 4032) = true ∧ Config.minSvn ≤ num 12 4 ∧
    num 6 1 = b.get F.WDN_ABI_MAJOR ∧ tableOk m b k = true

/-- A copy is rejected with reason `r` in section `t`; `more`: the records behind 0x1602. -/
def Claims.rejects (s t : State) (k r sect : Nat) (more : List Nat) : Prop :=
  t.blk.get (if k = 0 then F.XSP_REJ_REJ_A else F.XSP_REJ_REJ_B) = r ∧
    t.blk.get (if k = 0 then F.XSP_REJ_SECT_A else F.XSP_REJ_SECT_B) = sect ∧ t.blk.on F.XSP_EVT_REJECT = true ∧
    t.blk.start.rejected.lookup k = some r ∧ Claims.records s t (0x1602 :: more)

/-- COPY_VERIFY (R479-R482, R491). -/
def Obligations.CopiesAreVerifiedBeforeUse : Prop :=
  (∀ (m : Mem) (b : Block) (k : Nat) (err : Bool), headerBad m b k err = none ↔ Claims.headerPasses m b k err) ∧
  ∀ (dt : Nat) (size : Fin 3) (octal : Bool) (err : Option (Fin 12)) (s : State), s.blk.hold = .none → s.blk.quiet = true →
    let b := s.blk
    let m := s.mem
    let read := err.map (·.val)
    let verify : Instr := .copyVerify dt size octal err
    let other := b.start.rejected.length
    let now := (s.pass dt).clk
    let idle := issues b 0 = false ∨ (∃ q, b.start.repour = some q ∧ q.verified = true) ∨
      (b.start.repour = none ∧ b.start.chosen = none ∧ (b.get F.SYS_LC_STATE = 2 ∨ b.start.stay = true)) ∨
      (b.start.repour = none ∧ b.start.chosen ≠ none ∧
        (b.get F.XSP_STAT_STAGE = 0 ∨ b.start.later = true ∨ b.start.stay = true))
    (idle → ∃ t : State, exec verify s = .next t ∧ Claims.only s t dt []) ∧
    (issues b 0 = true → b.start.repour = none → b.start.chosen = none → b.get F.SYS_LC_STATE ≠ 2 → b.start.stay = false →
      let d := (b.put F.XSP_STAT_SIZE_LOG2 (24 + size.val)).flag F.XSP_STAT_MODE octal
      let trial := (bootState m d).1.trial
      ∀ k, (copyOrder m d).find? (fun k => (b.start.rejected.lookup k).isNone) = some k → k < 2 →
        (headerBad m d k (read = some 0) = none → sectionsBad m d k read [8, 9, 11, 1, 4] = none →
          ∃ (t : State) (x : Applying), exec verify s = .next t ∧ t.clk = (s.pass dt).clk ∧ (∀ a, a / 0x10000 ≠ 22 → t.blk.reg a = b.reg a) ∧
            t.mem.cells = m.cells ∧ t.blk.start.chosen = some k ∧ t.blk.get F.XSP_STAT_COPY = k ∧
            t.blk.get F.XSP_IMG_SEQ = hdrNum m d k 16 4 ∧ t.blk.start.apps = b.start.apps ++ [x] ∧ x.sect = 8 ∧
            (trial = 0 → t.mem.flash = m.flash ∧ Claims.records s t []) ∧
            (trial = k + 1 → t.mem.flash = m.flash ∧ Claims.records s t [] ∧ t.blk.on F.XSP_STAT_TRIAL = true) ∧
            (trial ≠ 0 → trial ≠ k + 1 → Claims.records s t [0x1605])) ∧
        (∀ r sect, (headerBad m d k (read = some 0) = some r ∧ sect = 0 ∨
            headerBad m d k (read = some 0) = none ∧ sectionsBad m d k read [8, 9, 11, 1, 4] = some (r, sect)) →
          ∃ t : State, exec verify s = .next t ∧ Claims.within s t dt [21, 22] ∧ t.blk.out = b.out ∧ t.blk.start.chosen = none ∧
            Claims.rejects s t k r sect (if other = 0 then [] else [0x1603]) ∧
            t.blk.on F.XSP_STAT_RECOVERY = (decide (other ≠ 0) || b.on F.XSP_STAT_RECOVERY))) ∧
    (∀ k, issues b 0 = true → b.start.repour = none → b.start.chosen = some k → k < 2 → b.get F.XSP_STAT_STAGE ≠ 0 → b.start.later = false →
      b.start.stay = false → b.start.rejected.lookup k = none →
      (sectionsBad m b k read [2, 6, 3, 5, 7, 10] = none →
        ∃ t : State, exec verify s = .next t ∧ Claims.within s t dt [] ∧ t.blk.out = b.out ∧ t.blk.start.later = true ∧
          Claims.records s t [0x1601] ∧
          ((sectionOf m b k 2).isSome = true → ∃ x, t.blk.start.apps = b.start.apps ++ [x] ∧ x.sect = 2)) ∧
      (∀ r sect, sectionsBad m b k read [2, 6, 3, 5, 7, 10] = some (r, sect) →
        ∃ t : State, exec verify s = .next t ∧ Claims.within s t dt [21, 22] ∧ t.blk.out = b.out ∧ t.blk.start.later = false ∧
          Claims.rejects s t k r sect (if other = 0 then [] else [0x1603]) ∧
          t.blk.start.repour = (if other = 0 then some { copy := 1 - k, force := false } else none))) ∧
    ∀ q, issues b 0 = true → b.start.repour = some q → q.verified = false →
      let bad := match headerBad m b q.copy (read = some 0) with
        | some r => some (r, 0)
        | none => sectionsBad m b q.copy read [8, 9, 11, 1, 4, 2, 6, 3, 5, 7, 10]
      (bad = none → ∃ t : State, exec verify s = .next t ∧ Claims.within s t dt [] ∧ t.blk.out = b.out ∧
        t.blk.start.repour = some { q with verified := true, since := now.steady, frame := refAwaits now b } ∧ Claims.records s t [0x1606]) ∧
      (∀ r sect, bad = some (r, sect) → (∀ k, b.start.chosen = some k → b.start.rejected.lookup k = none) →
        ∃ t : State, exec verify s = .next t ∧ Claims.within s t dt [22] ∧ t.blk.out = b.out ∧ t.blk.start.repour = none ∧
          t.blk.on F.XSP_STAT_REPOUR_FAIL = true ∧ t.blk.on F.XSP_STAT_REPOUR = false ∧ Claims.rejects s t q.copy r sect [])

/-- Every record command for a section. -/
def Claims.recordCommands (dt : Nat) (sect : Fin 12) : List (Instr × Nat) :=
  [(.imageRun dt sect, 1), (.imagePoll dt sect, 2), (.imageDelay dt sect, 3), (.imageKeys dt sect, 0x10), (.sectionEnd dt sect, 0xFF)]

/-- IMAGE_RUN, IMAGE_POLL, POLL_TIMEOUT, IMAGE_DELAY, DELAY_END, IMAGE_KEYS, SECTION_END (R477, R484). -/
def Obligations.ImageRecordsApplyInOrder : Prop :=
  ∀ (dt : Nat) (sect : Fin 12) (s : State), s.blk.hold = .none → s.blk.quiet = true → s.blk.shop.commit = none →
    let b := s.blk
    let m := s.mem
    let now := (s.pass dt).clk.steady
    ((∀ y ∈ b.start.apps, y.sect = sect.val → issues b y.cls = false) →
      (∀ i ∈ Claims.recordCommands dt sect, ∃ t : State, exec i.1 s = .next t ∧ Claims.only s t dt [] ∧ t.blk.start = b.start) ∧
      (∃ t : State, exec (.pollTimeout dt sect) s = .next t ∧ Claims.only s t dt [] ∧ t.blk.start = b.start) ∧
      ∃ t : State, exec (.delayEnd dt sect) s = .next t ∧ Claims.only s t dt [] ∧ t.blk.start = b.start) ∧
    ∀ x, b.start.apps.find? (·.sect = sect.val) = some x → issues b x.cls = true →
      let word (i : Nat) : Nat := ofLe (m.flashBytes (x.next + 4 * i) 4)
      let kind := word 0 % 256
      let n := word 0 / 256
      let addr : BitVec 40 := BitVec.ofNat 40 (word 1)
      let moved (t : State) (next : Nat) (wait : RecordWait) : Prop :=
        t.blk.start.apps.find? (·.sect = sect.val) = some { x with next := next, wait := wait }
      (∀ i ∈ Claims.recordCommands dt sect, x.wait = .none → kind ≠ i.2 →
        ∃ t : State, exec i.1 s = .next t ∧ Claims.only s t dt [] ∧ t.blk.start = b.start) ∧
      (x.wait = .none → kind = 1 → n = 1 → ∀ cls : Cls, cls.val = x.cls →
        ∃ t : State, exec (.registerWrite dt cls addr (BitVec.ofNat 32 (word 2)) none) s = .next t ∧
          exec (.imageRun dt sect) s = .next { t with blk := setApplying { x with next := x.next + 12, wait := .none } t.blk }) ∧
      (∀ cls : Cls, cls.val = x.cls → ∀ u,
        ((x.wait = .none ∧ kind = 2) ∨ x.wait = .poll u) →
        ∃ t : State, exec (.registerRead dt cls addr 0) { s with blk := { b with resp := .none } } = .next t ∧
          let met := ∃ v, t.blk.resp = .data v ∧ v &&& BitVec.ofNat 32 (word 2) = BitVec.ofNat 32 (word 3)
          let pass : State := { t with
            blk := setApplying { x with next := x.next + 4 + 4 * (recordWords x.sect (word 0)).getD 0, wait := .none } t.blk }
          (met → exec (.imagePoll dt sect) s = .next pass) ∧
          (¬ met → x.wait = .none → exec (.imagePoll dt sect) s =
            .next { t with blk := setApplying { x with wait := .poll (now + n * usTick) } t.blk }) ∧
          (¬ met → x.wait ≠ .none → exec (.imagePoll dt sect) s = .next t) ∧
          (x.wait = .poll u → u ≤ now → met → exec (.pollTimeout dt sect) s = .next pass) ∧
          (x.wait = .poll u → u ≤ now → ¬ met →
            ∃ (t' : State) (p : Event), exec (.pollTimeout dt sect) s = .next t' ∧ t'.clk = t.clk ∧ t'.mem = t.mem ∧ t'.blk.regs = t.blk.regs ∧
              t'.blk.evq = t.blk.evq ++ [p] ∧ p.code = 0x1607 ∧ p.sev = 4 ∧ p.p0 = BitVec.ofNat 32 sect.val ∧
              p.p1 = BitVec.ofNat 32 ((x.next - x.base) / 4) ∧ p.p2 = BitVec.ofNat 32 (word 1) ∧
              ∀ v, t.blk.resp = .data v → p.p3 = v)) ∧
      ((∀ u, x.wait ≠ .poll u) ∨ (∃ u, x.wait = .poll u ∧ now < u) →
        ∃ t : State, exec (.pollTimeout dt sect) s = .next t ∧ Claims.only s t dt [] ∧ t.blk.start = b.start) ∧
      (x.wait = .none → kind = 3 →
        ∃ t : State, exec (.imageDelay dt sect) s = .next t ∧ Claims.only s t dt [] ∧ moved t x.next (.delay (now + n * usTick))) ∧
      (∀ u, x.wait = .delay u → u ≤ now → kind = 3 →
        ∃ t : State, exec (.delayEnd dt sect) s = .next t ∧ Claims.only s t dt [] ∧ moved t (x.next + 4) .none) ∧
      ((∀ u, x.wait ≠ .delay u) ∨ (∃ u, x.wait = .delay u ∧ now < u) →
        ∃ t : State, exec (.delayEnd dt sect) s = .next t ∧ Claims.only s t dt [] ∧ t.blk.start = b.start) ∧
      (x.wait = .none → kind = 0x10 → sect.val = 11 →
        ∃ t : State, exec (.imageKeys dt sect) s = .next t ∧ Claims.only s t dt [] ∧ moved t (x.next + 4 + 36 * n) .none ∧
          t.blk.shop.keys = b.shop.keys ++ (List.range n).map fun i =>
            { role := ofLe (m.flashBytes (x.next + 4 + 36 * i) 4), key := m.flashBytes (x.next + 4 + 36 * i + 4) 32 }) ∧
      (x.wait = .none → kind = 0xFF →
        let rest := replaceFirst (fun y => decide (y.sect = sect.val)) (fun _ => []) b.start.apps
        ∃ t : State, exec (.sectionEnd dt sect) s = .next t ∧ Claims.within s t dt [3, 36] ∧ t.blk.out = b.out ∧
          (sect.val ∈ [2, 3, 5, 6, 7, 10] → Claims.only s t dt [] ∧ t.blk.start.apps = rest ∧
            t.blk.start.dramDone = (b.start.dramDone || decide (sect.val = 2))) ∧
          (sect.val = 9 → b.on F.FLK_STAT_PENDING = false → t.blk.on F.FLK_STAT_PENDING = true) ∧
          (sect.val ∈ [8, 9, 11, 1, 4] → ∀ k, b.start.chosen = some k →
            (b.start.early = [] → t.blk.start.apps = rest) ∧
            ∀ e l sec, b.start.early = e :: l → e ≠ 5 → sectionOf m b k e = some sec →
              t.blk.start.early = l ∧ t.blk.start.apps = rest ++ [{ sect := e, cls := 0, base := copyBase b k + sec.off,
                                                                    next := copyBase b k + sec.off }]))

/-- FIRST_LIGHT (R484, R486), DRAM_STAGE (R486), SEAL_START (R487, R488), TRIAL_END (R493). -/
def Obligations.StagesAreReachedInOrder : Prop :=
  ∀ (dt : Nat) (s : State), s.blk.quiet = true →
    let b := s.blk
    let m := s.mem
    let now := (s.pass dt).clk.steady
    let ms := now / msTick
    (b.hold = .none →
      (let ready := issues b 0 = true ∧ b.get F.XSP_STAT_STAGE = 0 ∧ b.start.chosen ≠ none ∧ b.start.early = [] ∧ b.start.apps = []
       (¬ ready → ∃ t : State, exec (.firstLight dt) s = .next t ∧ Claims.only s t dt []) ∧
       (ready → ∃ (t : State) (l : List Nat), exec (.firstLight dt) s = .next t ∧ t.clk = (s.pass dt).clk ∧ t.blk.get F.XSP_STAT_STAGE = 1 ∧
         t.blk.get F.XSP_TIME_T_FL = min 65535 ms ∧ t.blk.on F.XSP_EVT_STAGE = true ∧ Claims.records s t (0x1604 :: l) ∧
         (∀ h : Head, t.blk.on F.FET_HEAD_CTL_SLAGFRAME h.val = true) ∧
         t.blk.get F.PWR_DOM_REQ_REQ = b.get F.PWR_DOM_REQ_REQ ||| 0x30000 ∧
         ∀ a, a / 0x10000 ∈ [0, 2, 6, 7, 8, 21, 23] → t.blk.reg a = b.reg a)) ∧
      (∀ (rejected : List (Fin 8 × Fin 4)) (failed : List (Fin 8 × Fin 16 × Word)),
        let stage : Instr := .dramStage dt rejected failed
        let due := issues b 0 = true ∧ b.get F.XSP_STAT_STAGE = 1 ∧ b.start.dramDone = true ∧ b.start.stay = false
        let held := rejected.filter fun q => rejectionHolds m b q.2.val
        (¬ due → ∃ t : State, exec stage s = .next t ∧ Claims.only s t dt []) ∧
        (due → b.start.chosen ≠ none → failed = [] → b.on F.MEM_STAT_READY = false →
          ∃ t : State, exec stage s = .next t ∧ Claims.within s t dt [] ∧ t.blk.out = b.out ∧
            Claims.records s t (List.replicate held.length 0x0902)) ∧
        (due → failed ≠ [] → ∃ t : State, exec stage s = .next t ∧ t.clk = (s.pass dt).clk ∧ t.mem = m ∧
          t.blk.get F.XSP_STAT_STAGE = 1 ∧ ∀ a, a / 0x10000 < 9 ∨ 17 < a / 0x10000 → t.blk.reg a = b.reg a) ∧
        (due → failed = [] → b.on F.MEM_STAT_READY = true → ∀ k sec, b.start.chosen = some k → sectionOf m b k 6 = some sec →
          let l := m.flashBytes (copyBase b k + sec.off) sec.len
          ∃ t : State, exec stage s = .next t ∧ t.clk = (s.pass dt).clk ∧ t.blk.out = b.out ∧
            (∀ a, a / 0x10000 ∉ [0, 22, 56] → t.blk.reg a = b.reg a) ∧ t.blk.get F.XSP_STAT_STAGE = 2 ∧
            t.blk.on F.SYS_REMAP_SWAP = true ∧ (∀ c, c < 4 → t.blk.on F.WDN_CL_STAT_RUN c = true) ∧
            t.blk.ctl.fihus = some { load := sec.load, len := sec.len, crc := crc32c l } ∧
            t.mem.bytes (workingBase + sec.load) sec.len = l ∧
            (∀ y, y < workingBase + sec.load ∨ workingBase + sec.load + sec.len ≤ y → t.mem.byte y = m.byte y) ∧
            (held = [] → fastStart m b = true → t.mem.flash = m.flash) ∧
            (held ≠ [] ∨ fastStart m b = false → ∃ i n, storedRecord t.mem b i = some (n, trainingKey b) ∧
              (∀ j p, newestRecord m b = some (j, p) → i ≠ j ∧ n = (p.1 + 1) % 2 ^ 32) ∧
              ∀ y, (y < trainingOffset b i ∨ trainingOffset b i + 4096 ≤ y) → t.mem.flashByte y = m.flashByte y) ∧
            Claims.records s t (List.replicate held.length 0x0902 ++ [0x1604]))) ∧
      (let held := issues b 0 = true ∧ b.on F.XSP_STAT_TRIAL = true ∧ b.get F.XSP_STAT_STAGE = 3 ∧
         b.get F.XSP_TRIAL_TRIAL_S ≤ (now - b.start.fullAt) / sTick
       (¬ held → ∃ t : State, exec (.trialEnd dt) s = .next t ∧ Claims.only s t dt []) ∧
       (held → ∃ t : State, exec (.trialEnd dt) s = .next t ∧ t.clk = (s.pass dt).clk ∧ t.blk.out = b.out ∧
         (∀ a, a / 0x10000 ≠ 22 → t.blk.reg a = b.reg a) ∧ t.mem.cells = m.cells ∧ t.blk.on F.XSP_STAT_TRIAL = false ∧
         Claims.records s t [0x1605] ∧ Claims.bootWritten s t (b.get F.XSP_STAT_COPY) 0))) ∧
    (Writable s 0 F.XSP_SEAL_GO.addr → Calm s 22 →
      (b.on F.XSP_STAT_SEALED = true → ∃ t : State, exec (.sealStart dt 0) s = .next t ∧ Claims.only s t dt [2]) ∧
      (b.on F.XSP_STAT_SEALED = false → ∃ (t : State) (l : List Nat), exec (.sealStart dt 0) s = .next t ∧ Claims.within s t dt [22, 36, 2] ∧
        t.blk.out = b.out ∧ t.blk.on F.XSP_STAT_SEALED = true ∧ t.blk.get F.XSP_STAT_STAGE = 3 ∧
        t.blk.get F.XSP_TIME_T_FULL = min 65535 ms ∧ t.blk.on F.XSP_EVT_STAGE = true ∧ t.blk.start.fullAt = now ∧
        Claims.records s t (l ++ [0x1604]) ∧ ∀ k ∈ l, k = 0x2409))

/-- A write of `n` bytes at flash offset `a` lies in one region that the class may write (R475, R497). -/
def Claims.mayProgram (b : Block) (cls a n : Nat) : Prop :=
  let size := flashSize b
  let half := size / 2
  let copy (k : Nat) : Prop := (cls = 4 ∨ (cls = 0 ∧ b.on F.XSP_STAT_RECOVERY = true)) ∧ b.start.chosen ≠ some k
  (a + n ≤ half - 0x100000 ∧ copy 0) ∨ (half - 0x100000 ≤ a ∧ a + n ≤ half ∧ cls = 1) ∨
    (half ≤ a ∧ a + n ≤ size - 0x100000 ∧ copy 1) ∨ (size - 0x100000 ≤ a ∧ a + n ≤ size ∧ cls = 0)

/-- XSP_READ, XSP_PROGRAM, XSP_ERASE_4K, XSP_ERASE_64K, FLASH_OP_DONE (R475). -/
def Obligations.FlashOperationsKeepToTheirRegions : Prop :=
  ∀ (dt : Nat) (s : State), s.blk.quiet = true →
    let b := s.blk
    let len := b.get F.XSP_LEN_LEN
    let addr := b.get F.XSP_ADDR_ADDR
    (∀ cls : Cls, ∀ q ∈ [(1, Instr.xspRead dt cls), (2, .xspProgram dt cls), (3, .xspErase4k dt cls), (4, .xspErase64k dt cls)],
      Writable s cls F.XSP_OP_GO.addr → Calm s 22 → 0x200000 < flashSize b →
      let op := q.1
      let legal := (op = 1 → len ≤ 65536) ∧ (op = 2 → 1 ≤ len ∧ len ≤ 256 ∧ addr % 256 + len ≤ 256)
      let unit := if op = 3 then 4096 else 65536
      let a := if op ≤ 2 then addr else addr / unit * unit
      let may := op = 1 ∨ Claims.mayProgram b cls.val a (if op = 2 then len else unit)
      ((b.on F.XSP_OP_STAT_BUSY = true ∨ ¬ legal) → ∃ t : State, exec q.2 s = .next t ∧ Claims.only s t dt [22, 2] ∧
        t.blk.on F.XSP_EVT_WIGN = true ∧ t.blk.start.op = b.start.op) ∧
      (b.on F.XSP_OP_STAT_BUSY = false → legal → ¬ may → ∃ t : State, exec q.2 s = .next t ∧ Claims.within s t dt [22, 2] ∧
        t.blk.out = b.out ∧ t.blk.on F.XSP_OP_STAT_REFUSED = true ∧ t.blk.start.op = b.start.op ∧ Claims.records s t [0x1608]) ∧
      (b.on F.XSP_OP_STAT_BUSY = false → legal → may → ∃ t : State, exec q.2 s = .next t ∧ Claims.only s t dt [22, 2] ∧
        t.blk.on F.XSP_OP_STAT_BUSY = true ∧ t.blk.on F.XSP_OP_STAT_REFUSED = false ∧
        t.blk.start.op = some { op := op, addr := a, len := len, buf := b.get F.XSP_BUF_BUF, cls := cls.val })) ∧
    (b.hold = .none → ∀ err : Bool,
      (b.start.op = none → ∃ t : State, exec (.flashOpDone dt err) s = .next t ∧ Claims.only s t dt []) ∧
      ∀ q, b.start.op = some q → q.op ≤ 4 → 1 ≤ q.op → (q.op ≤ 2 → onDieOk b 9 (.scratch (0x40000 + 4 * q.buf)) false = true) →
        let spd := scratchBase + 0x40000 + 4 * q.buf
        let n := if q.op = 2 then q.len else if q.op = 3 then 4096 else 65536
        ∃ t : State, exec (.flashOpDone dt err) s = .next t ∧ t.clk = (s.pass dt).clk ∧ t.blk.evq = b.evq ∧ t.blk.out = b.out ∧
          (∀ a, a / 0x10000 ≠ 22 → t.blk.reg a = b.reg a) ∧ t.blk.start.op = none ∧ t.blk.on F.XSP_OP_STAT_BUSY = false ∧
          t.blk.on F.XSP_OP_STAT_DONE = true ∧ t.blk.on F.XSP_EVT_OP_DONE = true ∧
          (err = true → t.blk.on F.XSP_OP_STAT_ERR = true ∧ t.mem = s.mem) ∧
          (err = false → t.blk.on F.XSP_OP_STAT_ERR = b.on F.XSP_OP_STAT_ERR ∧
            (∀ y, t.mem.byte y = (if q.op = 1 ∧ spd ≤ y ∧ y < spd + q.len then s.mem.flashByte (q.addr + (y - spd))
              else s.mem.byte y)) ∧
            ∀ y, t.mem.flashByte y =
              (if q.op = 1 ∨ y < q.addr ∨ q.addr + n ≤ y then s.mem.flashByte y
               else if q.op = 2 then s.mem.flashByte y &&& s.mem.byte (spd + (y - q.addr)) else 0xFF)))

/-- A receive ring of group 0 takes a datagram (R109, R110). -/
def Claims.ringTakes (b : Block) (r : Nat) (bytes : List Byte) : Prop :=
  let head := b.get F.LAD_RING_HEAD_HEAD r
  let part := b.get F.LAD_RING_PART_PART r
  let data := bytes.take (b.slotBytes r)
  ladOn b = true ∧ r < 16 ∧ b.on F.LAD_RING_CFG_EN r = true ∧ b.on F.LAD_RING_CFG_DIR r = false ∧
    (head + 1) % b.ringSize r ≠ b.get F.LAD_RING_TAIL_TAIL r ∧ dramFails b 5 part (b.ringBase r + 32 * head) 32 true = false ∧
    (data ≠ [] → dramFails b 5 part (b.slotAddr r head) data.length true = false)

/-- A shop message of the form of R496 from the client. -/
def Claims.shopForm (l : List Byte) : Prop :=
  fieldAt l 0 2 = 0x4E53 ∧ fieldAt l 16 2 ≤ 1376 ∧ l.length = 36 + fieldAt l 16 2 ∧ bit (fieldAt l 5 1) 0 = false

/-- The tag of a message is that of R496 under a key. -/
def Claims.tagged (key l : List Byte) : Prop :=
  l.drop (20 + fieldAt l 16 2) = (hmac key (l.take (20 + fieldAt l 16 2))).take 16

/-- The response to an OPEN under its shop key (R496, R497), and what it records. -/
def Claims.openAnswer (s t : State) (k : ShopKey) (q : ShopMsg) (version status : Nat) (r : ShopResult) (codes : List Nat) : Prop :=
  t.blk.out = s.blk.out ++ [.shop q.ip q.port (shopMessage k.key version 1 1 status 0 1 (Config.shopOctets r)) r] ∧
    Claims.records s t codes

/-- MGT_FRAME_RECEIVE (R495-R498), MGT_LINK_CHANGE, SHOP_OPEN (R497, R498), SHOP_CLOSE, SESSION_IDLE_TIMEOUT (R498). -/
def Obligations.ShopMessagesAreAuthenticated : Prop :=
  ∀ (dt : Nat) (s : State), s.blk.hold = .none → s.blk.quiet = true → s.blk.jtag.instr ≠ .extest →
    let b := s.blk
    let now := (s.pass dt).clk
    (∀ (bytes : List Byte) (slot : Byte),
      let receive : Instr := .mgtFrameReceive dt bytes slot
      let arp := arpRequest bytes (mgtAddr b)
      let echo := echoRequest bytes (mgtAddr b)
      (mgtOn b = false → ∃ t : State, exec receive s = .next t ∧ Claims.only s t dt []) ∧
      (mgtOn b = true →
        (∀ mac from_, arp = some (mac, from_) → ∃ t : State, exec receive s = .next t ∧ Claims.within s t dt [] ∧ t.blk.evq = b.evq ∧
          t.blk.out = b.out ++ (if mgtSpeaks b then [.arp mac from_] else [])) ∧
        (∀ from_ body, arp = none → echo = some (from_, body) → ∃ t : State, exec receive s = .next t ∧ Claims.within s t dt [] ∧
          t.blk.evq = b.evq ∧ t.blk.out = b.out ++ (if mgtSpeaks b then [.echo from_ body] else [])) ∧
        (arp = none → echo = none → (∀ src dst, udpOf bytes ≠ some (src, dst, mgtPort b)) →
          ∃ t : State, exec receive s = .next t ∧ Claims.only s t dt [21] ∧ t.blk.shop = b.shop ∧
            t.blk.get F.MGT_CNT_DROP = min (2 ^ F.MGT_CNT_DROP.width - 1) (b.get F.MGT_CNT_DROP + 1)) ∧
        (∀ src dst, arp = none → echo = none → udpOf bytes = some (src, dst, mgtPort b) →
          let r := b.get F.MGT_RING_RXR
          let head := b.get F.LAD_RING_HEAD_HEAD r
          let l := (datagram bytes).2
          let session := fieldAt l 8 4
          let payload := (l.drop 20).take (fieldAt l 16 2)
          mgtRecovery b = true ∨ Claims.ringTakes b r bytes → shopServed b = true → mgtSpeaks b = true →
          ∃ t : State, exec receive s = .next t ∧ t.clk = now ∧
            (∀ a, a / 0x10000 ≠ 21 → a / 0x10000 ≠ 24 → t.blk.reg a = b.reg a) ∧ (mgtRecovery b = true → t.mem = s.mem) ∧
            (mgtRecovery b = false → ∀ y,
              (y < b.ringBase r + 32 * head ∨ b.ringBase r + 32 * head + 32 ≤ y) →
              (y < b.slotAddr r head ∨ b.slotAddr r head + (bytes.take (b.slotBytes r)).length ≤ y) →
              t.mem.byte y = s.mem.byte y) ∧
            (let fails : Prop := t.blk.shop = b.shop ∧ t.blk.out = b.out ∧ t.blk.on F.MGT_EVT_AUTH = true ∧
               t.blk.get F.MGT_CNT_AUTH = min (2 ^ F.MGT_CNT_AUTH.width - 1) (b.get F.MGT_CNT_AUTH + 1)
             (¬ Claims.shopForm l → t.blk.shop = b.shop ∧ t.blk.out = b.out ∧ t.blk.evq = b.evq ∧
               t.blk.get F.MGT_CNT_AUTH = b.get F.MGT_CNT_AUTH) ∧
             (Claims.shopForm l → fieldAt l 4 1 = 1 →
               (shopKeyOf b slot.toNat = none → fails) ∧
               ∀ k, shopKeyOf b slot.toNat = some k →
                 (¬ Claims.tagged k.key l → fails) ∧
                 (Claims.tagged k.key l → t.blk.out = b.out ∧ t.blk.shop = { b.shop with
                   msgs := b.shop.msgs ++ [{ type := 1, session := 0, payload := payload, slot := slot.toNat, ip := src,
                                             port := (datagram bytes).1 }] })) ∧
             (Claims.shopForm l → fieldAt l 4 1 ≠ 1 →
               (sessionOf b session = none → fails) ∧
               ∀ x, sessionOf b session = some x →
                 (¬ Claims.tagged x.key l ∨ fieldAt l 12 4 ≤ x.lastIn → fails) ∧
                 (Claims.tagged x.key l → x.lastIn < fieldAt l 12 4 →
                   (∃ (x' : Session), sessionOf t.blk session = some x' ∧ x'.lastIn = fieldAt l 12 4 ∧ x'.lastAt = now.steady ∧
                     x'.count = x.count + 1 ∧ x'.key = x.key ∧ x'.role = x.role) ∧
                   (fieldAt l 4 1 ∈ [2, 3, 0x10, 0x11, 0x20, 0x30, 0x31, 0x40, 0x41, 0x42, 0x43] → t.blk.out = b.out ∧
                     t.blk.shop.msgs = b.shop.msgs ++ [{ type := fieldAt l 4 1, session := session,
                                                         partner := bit (fieldAt l 5 1) 1, payload := payload }]) ∧
                   (fieldAt l 4 1 ∉ shopTypes → t.blk.shop.msgs = b.shop.msgs ∧ Claims.records s t [0x1504]))))))) ∧
    (∀ (up : Bool) (speed : Fin 3),
      let same := b.on F.MGT_STAT_LINK = up ∧ b.get F.MGT_STAT_SPEED = speed.val
      (same → ∃ t : State, exec (.mgtLinkChange dt up speed) s = .next t ∧ Claims.only s t dt []) ∧
      (¬ same → ∃ t : State, exec (.mgtLinkChange dt up speed) s = .next t ∧ Claims.only s t dt [21] ∧
        t.blk.on F.MGT_STAT_LINK = up ∧ t.blk.get F.MGT_STAT_SPEED = speed.val ∧ t.blk.on F.MGT_EVT_LINK = true)) ∧
    (∀ (req : Option (BitVec 16 × BitVec 16 × BitVec 128)) (nonce : BitVec 128) (session : Word),
      let openIt : Instr := .shopOpen dt req nonce session
      ((∀ q rest, b.shop.msgs = q :: rest → q.type ≠ 1) ∨ shopServed b = false →
        ∃ t : State, exec openIt s = .next t ∧ Claims.only s t dt [] ∧ t.blk.shop = b.shop) ∧
      ∀ q rest, b.shop.msgs = q :: rest → q.type = 1 → shopServed b = true → mgtSpeaks b = true →
        let own := if mgtRecovery b then 0x100 else 0x101
        (shopKeyOf b q.slot = none → ∃ t : State, exec openIt s = .next t ∧ Claims.only s t dt [] ∧ t.blk.shop.msgs = rest) ∧
        ∀ k, shopKeyOf b q.slot = some k →
          (req = none → ∃ t : State, exec openIt s = .next t ∧ Claims.within s t dt [] ∧
            Claims.openAnswer s t k q own 4 .empty [0x1504]) ∧
          ∀ low high client, req = some (low, high, client) →
            let v := min high.toNat own
            (v < max low.toNat 0x100 → ∃ t : State, exec openIt s = .next t ∧ Claims.within s t dt [] ∧
              t.blk.shop.sessions = b.shop.sessions ∧ Claims.openAnswer s t k q own 2 (.versions 0x100 own) [0x1504]) ∧
            (max low.toNat 0x100 ≤ v → 4 ≤ b.shop.sessions.length → ∃ t : State, exec openIt s = .next t ∧ Claims.within s t dt [] ∧
              t.blk.shop.sessions = b.shop.sessions ∧ Claims.openAnswer s t k q own 8 .empty [0x1504]) ∧
            (max low.toNat 0x100 ≤ v → b.shop.sessions.length < 4 →
              ∃ (t : State) (x : Session), exec openIt s = .next t ∧ Claims.within s t dt [21] ∧ t.blk.shop.sessions = b.shop.sessions ++ [x] ∧
                t.blk.shop.msgs = rest ∧ x.id = session.toNat ∧ x.role = k.role ∧ x.minor = v - 0x100 ∧ x.lastIn = 0 ∧
                x.key = hmac k.key ([0x4E, 0x4B, 0x53, 0x4B] ++ beBytes 16 client.toNat ++ beBytes 16 nonce.toNat ++
                  beBytes 4 session.toNat) ∧ x.lastAt = now.steady ∧
                t.blk.get F.MGT_STAT_SESSIONS = b.shop.sessions.length + 1 ∧
                Claims.openAnswer s t k q v 0 (.opened v nonce session) [0x1501])) ∧
    (∀ q rest x, b.shop.msgs = q :: rest → q.type = 2 → q.relayed = none → q.partner = false → sessionOf b q.session = some x →
      1 ≤ x.role → shopServed b = true → mgtSpeaks b = true →
      ∃ t : State, exec (.shopClose dt) s = .next t ∧ Claims.within s t dt [21] ∧ Claims.records s t [0x1502] ∧
        t.blk.out = b.out ++ [.shop x.ip x.port (shopMessage x.key x.version 2 1 0 x.id x.nextOut (Config.shopOctets .empty)) .empty] ∧
        t.blk.shop.sessions = b.shop.sessions.filter (fun y => !decide (y.id = x.id)) ∧
        t.blk.get F.MGT_STAT_SESSIONS = t.blk.shop.sessions.length % 2 ^ F.MGT_STAT_SESSIONS.width) ∧
    ((b.shop.sessions.map (·.id)).Nodup →
      let idle (x : Session) : Bool := decide (x.lastAt + b.get F.MGT_IDLE_IDLE_S * sTick ≤ now.steady)
      ∃ t : State, exec (.sessionIdleTimeout dt) s = .next t ∧ Claims.within s t dt [21] ∧ t.blk.out = b.out ∧
        t.blk.shop.sessions = b.shop.sessions.filter (fun x => !idle x) ∧
        Claims.records s t (List.replicate (b.shop.sessions.filter idle).length 0x1502))

/-- The message at the front is a session's own, and may be served. -/
def Claims.front (b : Block) (q : ShopMsg) (x : Session) : Prop :=
  (∃ rest, b.shop.msgs = q :: rest) ∧ q.relayed = none ∧ q.partner = false ∧ sessionOf b q.session = some x ∧
    shopServed b = true ∧ mgtSpeaks b = true ∧ mgtRecovery b = false ∧ b.jtag.instr ≠ .extest

/-- The response that a session's client gets (R496). -/
def Claims.response (q : ShopMsg) (x : Session) (status : Nat) (r : ShopResult) : Output :=
  .shop x.ip x.port (shopMessage x.key x.version q.type 1 status x.id x.nextOut (Config.shopOctets r)) r

/-- The message is answered, registers outside `ws` and memory stay, and the records are `codes`. -/
def Claims.answers (s t : State) (dt : Nat) (ws : List Nat) (q : ShopMsg) (x : Session) (status : Nat) (r : ShopResult)
    (codes : List Nat) : Prop :=
  Claims.within s t dt ws ∧ Claims.records s t codes ∧ t.blk.out = s.blk.out ++ [Claims.response q x status r] ∧
    t.blk.shop.msgs = s.blk.shop.msgs.drop 1

/-- SHOP_HEALTH, SHOP_REG_READ, SHOP_REG_WRITE, SHOP_COMMIT, SHOP_LOG_READ, SHOP_LOG_CLEAR, SHOP_FLASH_ERASE,
SHOP_FLASH_WRITE, SHOP_FLASH_READ, SHOP_REPOUR (R499). -/
def Obligations.ShopOperationsFollowTheRole : Prop :=
  ∀ (dt : Nat) (s : State), s.blk.hold = .none → s.blk.quiet = true →
    let b := s.blk
    let m := s.mem
    let now := (s.pass dt).clk
    let half := flashSize b / 2
    (∀ reads writes scene logs keys erase program bytes pour, ∀ i ∈ [(Instr.shopHealth dt, 0x03, 1),
        (.shopRegRead dt reads, 0x10, 1), (.shopRegWrite dt writes, 0x11, 2), (.shopCommit dt scene, 0x20, 2),
        (.shopLogRead dt logs, 0x30, 1), (.shopLogClear dt keys, 0x31, 3), (.shopFlashErase dt erase, 0x40, 3),
        (.shopFlashWrite dt program, 0x41, 3), (.shopFlashRead dt bytes, 0x42, 1), (.shopRepour dt pour, 0x43, 3),
        (.shopClose dt, 0x02, 1)],
      ((∀ q rest, b.shop.msgs = q :: rest → q.type ≠ i.2.1) ∨ shopServed b = false →
        ∃ t : State, exec i.1 s = .next t ∧ Claims.only s t dt [] ∧ t.blk.shop = b.shop) ∧
      ∀ q x, Claims.front b q x → q.type = i.2.1 → x.role < i.2.2 →
        ∃ t : State, exec i.1 s = .next t ∧ Claims.answers s t dt [] q x 3 .empty [0x1504]) ∧
    ∀ q x, Claims.front b q x →
      (∀ i ∈ [(Instr.shopRegRead dt none, 0x10, 1), (.shopRegWrite dt none, 0x11, 2), (.shopCommit dt none, 0x20, 2),
          (.shopLogRead dt none, 0x30, 1), (.shopLogClear dt none, 0x31, 3), (.shopFlashErase dt none, 0x40, 3),
          (.shopFlashWrite dt none, 0x41, 3), (.shopFlashRead dt none, 0x42, 1), (.shopRepour dt none, 0x43, 3)],
        q.type = i.2.1 → i.2.2 ≤ x.role → ∃ t : State, exec i.1 s = .next t ∧ Claims.answers s t dt [] q x 4 .empty [0x1504]) ∧
      (q.type = 0x03 → 1 ≤ x.role →
        let b' := { b.begun now.steady with shop := { b.shop with msgs := b.shop.msgs.drop 1 } }
        ∃ t : State, exec (.shopHealth dt) s = .next t ∧ Claims.answers s t dt [] q x 0
          (.health (healthReport now b') (regView now b' F.XSP_STAT_STAGE.addr) (regView now b' F.PAIR_STAT_ROLE.addr)) []) ∧
      (let served : State := { s with blk := { b with resp := .none, shop := { b.shop with msgs := b.shop.msgs.drop 1 } } }
       ∀ a : BitVec 40,
        let status (p : Resp) : Nat := if a.toNat % 4 ≠ 0 then 4 else if p = .none ∨ p = .error then 6 else 0
        let answered (u t : State) (r : ShopResult) : Prop :=
          t.clk = u.clk ∧ t.mem = u.mem ∧ t.blk.regs = u.blk.regs ∧ t.blk.evq = u.blk.evq ∧
            (sessionOf u.blk q.session = some x → mgtSpeaks u.blk = true → u.blk.jtag.instr ≠ .extest →
              t.blk.out = u.blk.out ++ [Claims.response q x 0 r])
        (q.type = 0x10 → 1 ≤ x.role → ∃ u t w, exec (.registerRead dt 9 a 0) served = .next u ∧
          exec (.shopRegRead dt (some [a])) s = .next t ∧ answered u t (.values [(status u.blk.resp, w)]) ∧
          ∀ v, u.blk.resp = .data v → w = v) ∧
        (q.type = 0x11 → 2 ≤ x.role → ∀ v : Word, ∃ (u t : State), exec (.registerWrite dt 9 a v none) served = .next u ∧
          exec (.shopRegWrite dt (some [(a, v)])) s = .next t ∧ answered u t (.statuses [status u.blk.resp]))) ∧
      (q.type = 0x20 → 2 ≤ x.role → ∀ n : Byte,
        let legal := 0 < n.toNat ∧ n.toNat < sceneCount m b
        let ready := b.start.later = true ∧ 2 ≤ b.get F.XSP_STAT_STAGE
        let free := b.start.apps.find? (·.sect = 5) = none ∧ b.shop.commit = none
        let commit : Instr := .shopCommit dt (some n)
        (¬ legal → ∃ t : State, exec commit s = .next t ∧ Claims.answers s t dt [] q x 4 .empty [0x1504]) ∧
        (legal → ¬ ready → ∃ t : State, exec commit s = .next t ∧ Claims.answers s t dt [] q x 5 .empty [0x1504]) ∧
        (legal → ready → ¬ free → ∃ t : State, exec commit s = .next t ∧ Claims.answers s t dt [] q x 8 .empty [0x1504]) ∧
        (legal → ready → free → ∃ (t : State) (y : Applying), exec commit s = .next t ∧ Claims.only s t dt [] ∧ t.blk.shop.commit = some q ∧
          t.blk.start.apps = b.start.apps ++ [y] ∧ y.sect = 5 ∧ y.cls = 9 ∧
          y.next = y.base + ((scenes m y.base).getD n.toNat (0, 0)).1)) ∧
      (q.type = 0x30 → 1 ≤ x.role → Writable s 9 F.LOG_CURSOR_CMD.addr → (∀ w, w < 8 → Readable s 9 (F.LOG_WIN_WIN.at w)) →
        Calm s 6 → b.log.move = none →
        (logItems b = [] → ∃ t : State, exec (.shopLogRead dt (some (false, 2, 1))) s = .next t ∧
          Claims.answers s t dt [2, 6] q x 0 (.ingots []) []) ∧
        (logItems b ≠ [] → ∃ (t : State) (i : LogItem) (st : Word), exec (.shopLogRead dt (some (false, 2, 1))) s = .next t ∧ i ∈ logItems b ∧
          (∀ j ∈ logItems b, j.rank ≤ i.rank) ∧ Claims.answers s t dt [2, 6] q x 0
            (.ingots [((List.range 8).map fun w => BitVec.ofNat 32 (ofLe ((i.bytes.drop (4 * w)).take 4)), st)]) [])) ∧
      (q.type = 0x31 → 3 ≤ x.role → ∀ k1 k2 : Word,
        let free := b.on F.WDN_MB_STAT_BUSY 0 = false ∧ issues b 1 = true
        (¬ free → ∃ t : State, exec (.shopLogClear dt (some (k1, k2))) s = .next t ∧
          Claims.answers s t dt [] q x 8 .empty [0x1504]) ∧
        (free → ∃ (t : State) (l : List Nat), exec (.shopLogClear dt (some (k1, k2))) s = .next t ∧
          Claims.answers s t dt [56] q x 0 .empty l ∧ (∀ k ∈ l, k = 0x3806) ∧
          t.blk.get F.WDN_MB_REQ_REQ 0 1 = 2 ∧ t.blk.get F.WDN_MB_REQ_REQ 0 2 = k1.toNat ∧ t.blk.get F.WDN_MB_REQ_REQ 0 3 = k2.toNat ∧
          mbOpcode t.blk 0 = 5 ∧ t.blk.on F.WDN_EVT_MB = true)) ∧
      (0x200000 < flashSize b → ∀ (copy : Fin 2) (off : BitVec 26),
        let base := copy.val * half + off.toNat
        let busy := b.on F.XSP_OP_STAT_BUSY = true
        let refused (t : State) : Prop := Claims.answers s t dt [] q x 6 .empty [0x1608, 0x1504]
        let changed (t : State) (a n : Nat) (f : Nat → Byte) : Prop :=
          t.clk = now ∧ t.blk.evq = b.evq ∧ t.blk.out = b.out ++ [Claims.response q x 0 .empty] ∧
            (∀ r, t.blk.reg r = b.reg r) ∧ t.mem.cells = m.cells ∧
            ∀ y, t.mem.flashByte y = (if a ≤ y ∧ y < a + n then f y else m.flashByte y)
        (q.type = 0x40 → 3 ≤ x.role → ∀ big : Bool,
          let n := if big then 65536 else 4096
          let a := base / n * n
          (busy → ∃ t : State, exec (.shopFlashErase dt (some (copy, off, big))) s = .next t ∧
            Claims.answers s t dt [] q x 8 .empty [0x1504]) ∧
          (¬ busy → ¬ Claims.mayProgram b 4 a n →
            ∃ t : State, exec (.shopFlashErase dt (some (copy, off, big))) s = .next t ∧ refused t) ∧
          (¬ busy → Claims.mayProgram b 4 a n →
            ∃ t : State, exec (.shopFlashErase dt (some (copy, off, big))) s = .next t ∧ changed t a n fun _ => 0xFF)) ∧
        (q.type = 0x41 → 3 ≤ x.role → ∀ l : List Byte, 1 ≤ l.length → l.length ≤ 1024 →
          (busy → ∃ t : State, exec (.shopFlashWrite dt (some (copy, off, l))) s = .next t ∧
            Claims.answers s t dt [] q x 8 .empty [0x1504]) ∧
          (¬ busy → ¬ Claims.mayProgram b 4 base l.length →
            ∃ t : State, exec (.shopFlashWrite dt (some (copy, off, l))) s = .next t ∧ refused t) ∧
          (¬ busy → Claims.mayProgram b 4 base l.length →
            ∃ t : State, exec (.shopFlashWrite dt (some (copy, off, l))) s = .next t ∧
              changed t base l.length fun y => m.flashByte y &&& l.getD (y - base) 0)) ∧
        (q.type = 0x42 → 1 ≤ x.role → ∀ n : BitVec 11,
          let legal := n.toNat ≤ 1024 ∧ off.toNat + n.toNat ≤ half - 0x100000
          let read : Instr := .shopFlashRead dt (some (copy, off, n))
          (¬ legal → ∃ t : State, exec read s = .next t ∧ Claims.answers s t dt [] q x 4 .empty [0x1504]) ∧
          (legal → busy → ∃ t : State, exec read s = .next t ∧ Claims.answers s t dt [] q x 8 .empty [0x1504]) ∧
          (legal → ¬ busy → ∃ t : State, exec read s = .next t ∧
            Claims.answers s t dt [] q x 0 (.bytes (m.flashBytes base n.toNat)) []))) ∧
      (q.type = 0x43 → 3 ≤ x.role → ∀ copy force : Bool,
        let pour : Instr := .shopRepour dt (some (copy, force))
        ((issues b 0 = false ∨ b.selfCheck ≠ none) → ∃ t : State, exec pour s = .next t ∧ Claims.answers s t dt [] q x 8 .empty [0x1504]) ∧
        (issues b 0 = true → b.selfCheck = none →
          (repourRefused b (b2n copy) force = true → ∃ t : State, exec pour s = .next t ∧
            Claims.answers s t dt [] q x 5 .empty [0x1504]) ∧
          (repourRefused b (b2n copy) force = false → ∃ t : State, exec pour s = .next t ∧ Claims.answers s t dt [22] q x 0 .empty [] ∧
            t.blk.start.repour = some { copy := b2n copy, force := force } ∧ t.blk.on F.XSP_STAT_REPOUR = true)))

/-- SMBUS_IDENTITY, SMBUS_STATUS, SMBUS_TEMPERATURE, SMBUS_LAST_FAULT, SMBUS_HEALTH_REPORT, SMBUS_WRITE (R501), UART_INPUT (R502),
JTAG_BYPASS, JTAG_IDCODE, JTAG_SAMPLE_PRELOAD, JTAG_EXTEST (R503). -/
def Obligations.BoardPortsReadAndTestThePart : Prop :=
  ∀ (dt : Nat) (s : State), s.blk.quiet = true →
    let b := s.blk
    let now := (s.pass dt).clk.steady
    (b.hold ≠ .all → b.jtag.instr ≠ .extest →
      (now < 5 * msTick → ∀ i ∈ [Instr.smbusIdentity dt, .smbusStatus dt, .smbusTemperature dt, .smbusLastFault dt,
          .smbusHealthReport dt, .smbusWrite dt],
        ∃ t : State, exec i s = .next t ∧ Claims.only s t dt []) ∧
      (5 * msTick ≤ now →
        let reads (i : Instr) (cmd : Nat) (block : SmbusBlock) (l : List Byte) : Prop :=
          ∃ t : State, exec i s = .next t ∧ Claims.within s t dt [] ∧ t.blk.evq = b.evq ∧
            t.blk.out = b.out ++ [.smbus block l (smbusPec b cmd l)]
        let identity : SmbusBlock := .identity (b.get F.SYS_ID_STEP) (b.get F.SYS_STRAP_UNIT) (b.get F.SYS_STRAP_POS) Config.serial
        let status : SmbusBlock := .status (b.get F.XSP_STAT_STAGE) (b.get F.XSP_STAT_COPY)
          (b.reg F.XSP_REJ_REJ_A.addr).toNat (b.get F.PAIR_STAT_ROLE) (b.get F.PAIR_SCORE_OWN)
        let health := (List.range 16).flatMap fun k => beBytes 4 (b.get F.PAIR_HR_OWN_HR k)
        (∃ l, l.length = 12 ∧ reads (.smbusIdentity dt) 1 identity (l ++ [0, 0, 0, 0])) ∧
        (∃ l, l.length = 6 ∧ reads (.smbusStatus dt) 2 status (l ++ [0, 0])) ∧
        reads (.smbusTemperature dt) 3 (.temperature (BitVec.ofNat 16 (b.get F.SYS_TEMP_TJ))) (leBytes 2 (b.get F.SYS_TEMP_TJ)) ∧
        (let faults := (logItems b).filter fun q => !q.damaged && decide (4 ≤ slotSeverity q.bytes)
         (∀ q ∈ faults, (∀ r ∈ faults, r ≠ q → r.rank < q.rank) → reads (.smbusLastFault dt) 4 (.lastFault q.bytes) q.bytes) ∧
         (faults = [] → ∃ l, l.length = 32 ∧ reads (.smbusLastFault dt) 4 (.lastFault l) l)) ∧
        reads (.smbusHealthReport dt) 5 (.health health) health ∧
        ∃ t : State, exec (.smbusWrite dt) s = .next t ∧ Claims.within s t dt [] ∧ t.blk.evq = b.evq ∧ t.blk.out = b.out ++ [.nack])) ∧
    (b.hold = .none → ∀ l : List Byte,
      ∃ t : State, exec (.uartInput dt l) s = .next t ∧ Claims.only s t dt [] ∧
        t.blk.shop.console = (if b.get F.SYS_LC_STATE = 1 then b.shop.console else b.shop.console ++ l)) ∧
    ∀ pins load : List Bool,
      let idcode : Word := 0#1 ++ BitVec.ofNat 3 (b.get F.SYS_ID_STEP) ++ 0x7240#16 ++ Config.jedecId ++ 1#1
      ∀ q ∈ [(Instr.jtagBypass dt, ({ b.jtag with instr := .bypass } : Jtag), ([] : List Output)),
          (.jtagIdcode dt, { b.jtag with instr := .idcode }, [.idcode idcode]),
          (.jtagSamplePreload dt pins load, { instr := .sample, boundary := load }, [.capture pins]),
          (.jtagExtest dt, { b.jtag with instr := .extest }, [.pins b.jtag.boundary])],
        ∃ t : State, exec q.1 s = .next t ∧ t.clk = (if b.hold = .all then s.clk else (s.pass dt).clk) ∧ t.mem = s.mem ∧
          (∀ a, t.blk.reg a = b.reg a) ∧ t.blk.evq = b.evq ∧ t.blk.jtag = q.2.1 ∧ t.blk.out = b.out ++ q.2.2

/-- A requested change of domain `d` to bit `d` of `v` is refused (R512, R381). -/
def Claims.domainRefused (b : Block) (v d : Nat) : Prop :=
  let on := bit v d
  on ≠ b.domOn d ∧
    ((d = 0 ∧ on = false) ∨ (1 ≤ d ∧ d ≤ 4 ∧ on = false ∧ b.on F.WDN_CL_CTL_RUN (d - 1) = true) ∨
      ((d = 16 ∨ d = 17) ∧ (bit v 16 ≠ bit v 17 ∨ (on = false ∧ (b.on F.MEM_STAT_READY = true ∨ b.on F.MEM_CTL_EN = true)))))

/-- DOMAIN_REQUEST (R512), DOMAIN_SWITCH_OFF, DOMAIN_SWITCH_ON (R513, R511, R381), TEMPERATURE_SAMPLE (R522),
LIFE_CYCLE_ADVANCE (R380, R508). -/
def Obligations.DomainsSwitchInOrderAndHeatShutsDown : Prop :=
  ∀ (dt : Nat) (s : State), s.blk.quiet = true →
    let b := s.blk
    let differs (d : Nat) : Prop := bit (b.get F.PWR_DOM_REQ_REQ) d ≠ b.domOn d
    let othersStay (t : State) (d : Nat) : Prop := ∀ e, e < 32 → e ≠ d → t.blk.domOn e = b.domOn e
    (∀ (cls : Cls) (v : Word), (cls = 0 ∨ cls = 4) → Writable s cls F.PWR_DOM_REQ_REQ.addr → Calm s 1 →
      let old := b.get F.PWR_DOM_REQ_REQ
      let w := if cls = 0 then v.toNat else v.toNat / 32 * 32 + old % 32
      ∃ (t : State) (n : Nat), exec (.domainRequest dt cls v) s = .next t ∧ Claims.within s t dt [1, 2] ∧ t.blk.out = b.out ∧
        (∀ d, d < 32 → (Claims.domainRefused b w d → bit (t.blk.get F.PWR_DOM_REQ_REQ) d = b.domOn d) ∧
          (¬ Claims.domainRefused b w d → bit (t.blk.get F.PWR_DOM_REQ_REQ) d = bit w d)) ∧
        Claims.records s t (List.replicate n 0x0102) ∧
        (0 < n ↔ ∃ d, d < 32 ∧ Claims.domainRefused b w d) ∧ (0 < n → t.blk.on F.PWR_EVT_REFUSED = true) ∧
        (w % 32 ≠ v.toNat % 32 → t.blk.on F.PWR_EVT_WIGN = true)) ∧
    (b.hold = .none →
      (∀ (domain : Fin 32) (took : Byte),
        let d := domain.val
        let busy := b.on F.PWR_STAT_BUSY
        let next := differs d ∧ ∀ e, e < d → ¬ differs e
        let goesOff := (busy = true ∧ b.get F.PWR_STAT_CUR = d) ∨ (busy = false ∧ next ∧ b.domOn d = true)
        let goesOn := busy = false ∧ next ∧ b.domOn d = false ∧ b.hot = false
        let lone := Claims.noShares b
        let off : Instr := .domainSwitchOff dt domain took
        let on : Instr := .domainSwitchOn dt domain took
        (¬ goesOff → ∃ t : State, exec off s = .next t ∧ t.clk = (s.pass dt).clk ∧ t.blk.domOn d = b.domOn d ∧
          (lone → Claims.only s t dt [])) ∧
        (goesOff → domainBusy b d = true → ∃ t : State, exec off s = .next t ∧ t.clk = (s.pass dt).clk ∧
          (lone → Claims.only s t dt (if d < 14 then [1, 24, 20 + 2 * d, 21 + 2 * d] else [1])) ∧
          t.blk.domOn d = b.domOn d ∧ othersStay t d ∧ t.blk.on F.PWR_STAT_BUSY = true ∧ t.blk.get F.PWR_STAT_CUR = d ∧
          (d < 14 → ∀ e, e / 2 + 10 = d → t.blk.on F.DEC_STAT_RUN e = (b.on F.DEC_STAT_RUN e && b.on F.DEC_STAT_BUSY e))) ∧
        (goesOff → domainBusy b d = false →
          ∃ (t : State) (l : List Nat), exec off s = .next t ∧ t.clk = (s.pass dt).clk ∧ t.blk.domOn d = false ∧ othersStay t d ∧
            t.blk.on F.PWR_STAT_BUSY = false ∧ t.blk.on F.PWR_EVT_DONE = true ∧ Claims.records s t (l ++ [0x0101]) ∧
            (d < 16 ∨ 30 ≤ d ∨ (18 ≤ d ∧ b.pairMode = false) → t.mem = s.mem) ∧
            (d ≤ 8 ∨ d = 30 → l = []) ∧
            (lone → d ≤ 8 ∨ 30 ≤ d → t.blk.out = b.out ∧
              ∀ a, a / 0x10000 ∉ (if d = 31 then [1, 20, 76] else [1, 20]) → t.blk.reg a = b.reg a) ∧
            (d = 31 → (∀ k ∈ l, k = 0x4C06) ∧ ∀ x, (t.blk.src x).peer = none ∧ (t.blk.src x).frames = []) ∧
            (d = 9 → ∀ h : Head, t.blk.get F.FET_PKT_STAT_STATE h.val = 0) ∧
            ((d = 14 ∨ d = 15) → t.blk.on F.ENC_STAT_RUN (d - 14) = false) ∧
            ((d = 16 ∨ d = 17) → t.blk.on F.MEM_STAT_READY = false ∧ t.blk.dram.reqs = [] ∧
              (∀ i, i < 4 → t.blk.on F.MEM_C_STAT_TRAINED (4 * (d - 16) + i) = false) ∧
              (∀ y, dramBase ≤ y → y < dramBase + 0x1000000000 → t.mem.byte y = 0) ∧
              ∀ y, y < dramBase → t.mem.byte y = s.mem.byte y) ∧
            (18 ≤ d → d ≤ 29 → t.blk.on F.LNK_Q_STAT_PLL_LOCK (d - 18) = false ∧
              ∀ i, i < 4 → t.blk.laneUp (4 * (d - 18) + i) = false)) ∧
        (¬ goesOn → ∃ t : State, exec on s = .next t ∧ Claims.only s t dt []) ∧
        (goesOn → ∃ t : State, exec on s = .next t ∧ Claims.within s t dt [1, 20] ∧
          t.blk.out = b.out ∧ t.blk.domOn d = true ∧ othersStay t d ∧ t.blk.on F.PWR_STAT_BUSY = false ∧
          t.blk.get F.PWR_STAT_CUR = d ∧ t.blk.on F.PWR_EVT_DONE = true ∧ Claims.records s t [0x0101])) ∧
      (∀ tj : BitVec 16,
        let warm := b.geti F.SYS_TEMP_LIM_WARN ≤ tj.toInt
        (tj.toInt < shutdownTj ∨ b.hot = true → ∃ (t : State) (l : List Nat), exec (.temperatureSample dt tj) s = .next t ∧
          Claims.within s t dt [0, 76] ∧ (Claims.noShares b → Claims.within s t dt [0] ∧ t.blk.out = b.out) ∧
          t.blk.get F.SYS_TEMP_TJ = tj.toNat ∧ t.blk.hot = b.hot ∧
          (warm → t.blk.on F.SYS_EVT_WARN = true) ∧ Claims.records s t l ∧ (∀ k ∈ l, k = 0x0003) ∧ (¬ warm → l = [])) ∧
        (shutdownTj ≤ tj.toInt → b.hot = false → ∃ (t : State) (l : List Nat), exec (.temperatureSample dt tj) s = .next t ∧
          t.clk = (s.pass dt).clk ∧ t.blk.get F.SYS_TEMP_TJ = tj.toNat ∧ t.blk.hot = true ∧
          t.blk.get F.PWR_DOM_STAT_ON = 0 ∧ Claims.records s t (l ++ [0x0004]) ∧
          ∀ a, a / 0x10000 ∈ [2, 4, 6, 7, 8, 21, 22, 23, 56] ∨ (a / 0x10000 = 3 ∧ b.pairMode = false) →
            t.blk.reg a = b.reg a))) ∧
    ∀ cls : Cls, Writable s cls F.SYS_LC_ADVANCE.addr → Calm s 0 →
      let old := b.get F.SYS_LC_STATE
      (2 ≤ old → ∃ t : State, exec (.lifeCycleAdvance dt cls) s = .next t ∧ Claims.only s t dt [0, 2] ∧
        t.blk.on F.SYS_EVT_WIGN = true ∧ t.blk.get F.SYS_LC_STATE = old) ∧
      (old < 2 → ∃ t : State, exec (.lifeCycleAdvance dt cls) s = .next t ∧ t.clk = (s.pass dt).clk ∧ t.blk.out = b.out ∧
        (∀ a, a / 0x10000 ∉ [0, 2, 8] → t.blk.reg a = b.reg a) ∧ t.blk.get F.SYS_LC_STATE = old + 1 ∧
        t.blk.on F.SPD_STAT_WIPING = true ∧ Claims.records s t [0x0002] ∧
        ∀ y, t.mem.byte y = (if scratchBase + 0x780000 ≤ y ∧ y < scratchBase + 0x800000 then 0 else s.mem.byte y))
end

