-- ==== Sys2Proof/Laws/Sparse.lean ====
section
/-! SUPPORT. Sparse data by key: what a read gives after a write, and that every write keeps the canonical form. -/

namespace Sys2Proof.Machine

open Sys2Proof

variable {α : Type}

theorem sparseGet_insert (d : Nat → α) (m : List (Nat × α)) (k j : Nat) (v : α) :
    sparseGet d (sparseInsert k v m) j = if k = j then v else sparseGet d m j := by
  induction m with
  | nil => simp [sparseInsert, sparseGet]
  | cons q t ih =>
    obtain ⟨i, w⟩ := q
    simp only [sparseInsert]
    split
    · simp [sparseGet]
    · split
      · subst k; by_cases h : i = j <;> simp [sparseGet, h]
      · simp only [sparseGet, ih]
        split <;> rename_i h
        · have : k ≠ j := by omega
          simp [this]
        · rfl

theorem sparseGet_erase (d : Nat → α) (m : List (Nat × α)) (k j : Nat) :
    sparseGet d (sparseErase k m) j = if k = j then d j else sparseGet d m j := by
  induction m with
  | nil => simp [sparseErase, sparseGet]
  | cons q t ih =>
    obtain ⟨i, w⟩ := q
    simp only [sparseErase]
    split
    · rw [ih]; subst i; by_cases h : k = j <;> simp [sparseGet, h]
    · simp only [sparseGet, ih]
      split <;> rename_i h
      · have : k ≠ j := by omega
        simp [this]
      · rfl

/-- A read after a write gives the value written, and every other key reads as before. -/
theorem sparseGet_put [DecidableEq α] (d : Nat → α) (m : List (Nat × α)) (k j : Nat) (v : α) :
    sparseGet d (sparsePut d m k v) j = if k = j then v else sparseGet d m j := by
  unfold sparsePut
  split
  · rw [sparseGet_erase]; subst v; by_cases h : k = j <;> simp [h]
  · exact sparseGet_insert d m k j v

/-- The canonical form, by entries: no entry holds its default, and the keys rise from entry to entry. -/
theorem sparseWf_iff [DecidableEq α] (d : Nat → α) (m : List (Nat × α)) :
    sparseWf d m = true ↔ (∀ q ∈ m, q.2 ≠ d q.1) ∧ m.Pairwise (fun p q => p.1 < q.1) := by
  induction m with
  | nil => simp [sparseWf]
  | cons q t ih =>
    obtain ⟨i, v⟩ := q
    cases t with
    | nil => simp [sparseWf]
    | cons r t =>
      obtain ⟨j, w⟩ := r
      simp only [sparseWf, Bool.and_eq_true, decide_eq_true_eq, ih, List.mem_cons, List.pairwise_cons]
      constructor
      · rintro ⟨⟨h1, h2⟩, h3, h4, h5⟩
        refine ⟨?_, ?_, h4, h5⟩
        · rintro q (rfl | h)
          · exact h1
          · exact h3 q h
        · rintro q (rfl | h)
          · exact h2
          · exact lt_trans h2 (h4 q h)
      · rintro ⟨h1, h2, h4, h5⟩
        exact ⟨⟨h1 _ (Or.inl rfl), h2 _ (Or.inl rfl)⟩, fun q h => h1 q (Or.inr h), h4, h5⟩

theorem mem_sparseErase {k : Nat} {m : List (Nat × α)} {q : Nat × α} (h : q ∈ sparseErase k m) : q ∈ m := by
  induction m with
  | nil => simp [sparseErase] at h
  | cons p t ih =>
    obtain ⟨i, w⟩ := p
    simp only [sparseErase] at h
    split at h
    · exact List.mem_cons_of_mem _ (ih h)
    · rcases List.mem_cons.1 h with rfl | h
      · simp
      · exact List.mem_cons_of_mem _ (ih h)

theorem mem_sparseInsert {k : Nat} {v : α} {m : List (Nat × α)} {q : Nat × α} (h : q ∈ sparseInsert k v m) :
    q = (k, v) ∨ q ∈ m := by
  induction m with
  | nil => simp_all [sparseInsert]
  | cons p t ih =>
    obtain ⟨i, w⟩ := p
    simp only [sparseInsert] at h
    split at h
    · simpa using h
    · split at h
      · rcases List.mem_cons.1 h with rfl | h
        · exact .inl rfl
        · exact .inr (List.mem_cons_of_mem _ h)
      · rcases List.mem_cons.1 h with rfl | h
        · exact .inr (by simp)
        · rcases ih h with h | h
          · exact .inl h
          · exact .inr (List.mem_cons_of_mem _ h)

theorem pairwise_sparseErase (k : Nat) {m : List (Nat × α)} (h : m.Pairwise (fun p q => p.1 < q.1)) :
    (sparseErase k m).Pairwise (fun p q => p.1 < q.1) := by
  induction m with
  | nil => simpa [sparseErase] using h
  | cons p t ih =>
    obtain ⟨i, w⟩ := p
    rw [List.pairwise_cons] at h
    simp only [sparseErase]
    split
    · exact ih h.2
    · exact List.pairwise_cons.2 ⟨fun q hq => h.1 q (mem_sparseErase hq), ih h.2⟩

theorem pairwise_sparseInsert (k : Nat) (v : α) {m : List (Nat × α)} (h : m.Pairwise (fun p q => p.1 < q.1)) :
    (sparseInsert k v m).Pairwise (fun p q => p.1 < q.1) := by
  induction m with
  | nil => simp [sparseInsert]
  | cons p t ih =>
    obtain ⟨i, w⟩ := p
    have h' := List.pairwise_cons.1 h
    simp only [sparseInsert]
    split
    · rename_i hk
      refine List.pairwise_cons.2 ⟨fun q hq => ?_, h⟩
      rcases List.mem_cons.1 hq with rfl | hq
      · exact hk
      · exact lt_trans hk (h'.1 q hq)
    · split
      · rename_i hk; subst hk
        exact List.pairwise_cons.2 ⟨fun q hq => h'.1 q hq, h'.2⟩
      · refine List.pairwise_cons.2 ⟨fun q hq => ?_, ih h'.2⟩
        rcases mem_sparseInsert hq with rfl | hq
        · show i < k; omega
        · exact h'.1 q hq

/-- A write keeps the canonical form. -/
theorem sparsePut_wf [DecidableEq α] (d : Nat → α) (m : List (Nat × α)) (k : Nat) (v : α)
    (h : sparseWf d m = true) : sparseWf d (sparsePut d m k v) = true := by
  rw [sparseWf_iff] at *
  unfold sparsePut
  split
  · exact ⟨fun q hq => h.1 q (mem_sparseErase hq), pairwise_sparseErase k h.2⟩
  · refine ⟨fun q hq => ?_, pairwise_sparseInsert k v h.2⟩
    rcases mem_sparseInsert hq with rfl | hq
    · assumption
    · exact h.1 q hq

/-- Two canonical lists that read alike are equal: equal memories are equal data. -/
theorem sparse_ext [DecidableEq α] (d : Nat → α) (m n : List (Nat × α)) (hm : sparseWf d m = true)
    (hn : sparseWf d n = true) (h : ∀ k, sparseGet d m k = sparseGet d n k) : m = n := by
  have away : ∀ (l : List (Nat × α)) (k : Nat), (∀ q ∈ l, k < q.1) → sparseGet d l k = d k := by
    intro l
    induction l with
    | nil => intros; rfl
    | cons q t ih =>
      intro k hk
      obtain ⟨i, v⟩ := q
      have : i ≠ k := by have := hk (i, v) (by simp); simp at this; omega
      simp only [sparseGet, this, if_false]
      exact ih k fun q hq => hk q (List.mem_cons_of_mem _ hq)
  rw [sparseWf_iff] at hm hn
  induction m generalizing n with
  | nil =>
    cases n with
    | nil => rfl
    | cons q t =>
      have := h q.1
      simp only [sparseGet, if_true] at this
      exact absurd this.symm (hn.1 q (by simp))
  | cons p s ih =>
    cases n with
    | nil =>
      have := h p.1
      simp only [sparseGet, if_true] at this
      exact absurd this (hm.1 p (by simp))
    | cons q t =>
      obtain ⟨i, v⟩ := p
      obtain ⟨j, w⟩ := q
      have hm' := List.pairwise_cons.1 hm.2
      have hn' := List.pairwise_cons.1 hn.2
      rcases lt_trichotomy i j with hij | hij | hij
      · have e := h i
        rw [away ((j, w) :: t) i (by
          intro q hq
          rcases List.mem_cons.1 hq with rfl | hq
          · exact hij
          · exact lt_trans hij (hn'.1 q hq))] at e
        simp only [sparseGet, if_true] at e
        exact absurd e (hm.1 (i, v) (by simp))
      · subst hij
        have e := h i
        simp only [sparseGet, if_true] at e
        subst e
        congr 1
        refine ih t ⟨fun q hq => hm.1 q (by simp [hq]), hm'.2⟩
          ⟨fun q hq => hn.1 q (by simp [hq]), hn'.2⟩ (fun k => ?_)
        have e := h k
        by_cases hk : i = k
        · subst hk
          rw [away s i fun q hq => hm'.1 q hq, away t i fun q hq => hn'.1 q hq]
        · simpa [sparseGet, hk] using e
      · have e := h j
        rw [away ((i, v) :: s) j (by
          intro q hq
          rcases List.mem_cons.1 hq with rfl | hq
          · exact hij
          · exact lt_trans hij (hm'.1 q hq))] at e
        simp only [sparseGet, if_true] at e
        exact absurd e.symm (hn.1 (j, w) (by simp))

end Sys2Proof.Machine
end

