-- ==== Sys2Proof/Laws/Field.lean ====
section
/-! SUPPORT. Fields of registers: what a field reads after a field is put into effect. -/

namespace Sys2Proof.Machine

open Sys2Proof

/-- A field lies within its word. -/
def Fld.fits (f : Fld) : Prop := f.lsb + f.width ≤ 32

/-- Two fields share no bit. -/
def Fld.apart (f g : Fld) : Prop := f.lsb + f.width ≤ g.lsb ∨ g.lsb + g.width ≤ f.lsb

/-- A number cut at a field: what lies above it, the field, what lies below it. -/
theorem bits_split (v l w : Nat) : v = (v / 2 ^ (l + w) * 2 ^ w + bits v l w) * 2 ^ l + v % 2 ^ l := by
  have h1 := Nat.div_add_mod v (2 ^ l)
  have h2 := Nat.div_add_mod (v / 2 ^ l) (2 ^ w)
  rw [Nat.div_div_eq_div_mul, ← pow_add] at h2
  unfold bits
  calc v = 2 ^ l * (v / 2 ^ l) + v % 2 ^ l := h1.symm
    _ = 2 ^ l * (2 ^ w * (v / 2 ^ (l + w)) + v / 2 ^ l % 2 ^ w) + v % 2 ^ l := by rw [h2]
    _ = _ := by ring

theorem bits_lt (v l w : Nat) : bits v l w < 2 ^ w := Nat.mod_lt _ (by positivity)

/-- The number that `Fld.into` makes. -/
theorem Fld.toNat_into (f : Fld) (hf : f.fits) (v : Word) (x : Nat) :
    (f.into v x).toNat =
      (v.toNat / 2 ^ (f.lsb + f.width) * 2 ^ f.width + x % 2 ^ f.width) * 2 ^ f.lsb + v.toNat % 2 ^ f.lsb := by
  have hs := bits_split v.toNat f.lsb f.width
  have hx : x % 2 ^ f.width < 2 ^ f.width := Nat.mod_lt _ (by positivity)
  set A := 2 ^ f.lsb
  set B := 2 ^ f.width
  set H := v.toNat / 2 ^ (f.lsb + f.width)
  set m := bits v.toNat f.lsb f.width with hm
  have hlo : v.toNat % A < A := Nat.mod_lt _ (by positivity)
  have hcut : v.toNat - m * A + x % B * A = (H * B + x % B) * A + v.toNat % A := by
    have e : v.toNat = H * B * A + m * A + v.toNat % A := by
      calc v.toNat = (H * B + m) * A + v.toNat % A := hs
        _ = _ := by ring
    have e2 : (H * B + x % B) * A + v.toNat % A = H * B * A + v.toNat % A + x % B * A := by ring
    omega
  have hAB : A * B * 2 ^ (32 - (f.lsb + f.width)) = 2 ^ 32 := by
    rw [← pow_add, ← pow_add]; congr 1; unfold Fld.fits at hf; omega
  have hH : H < 2 ^ (32 - (f.lsb + f.width)) := by
    apply Nat.div_lt_of_lt_mul
    rw [show (2 : Nat) ^ (f.lsb + f.width) = A * B from pow_add _ _ _, hAB]
    exact v.isLt
  have hlt : (H * B + x % B) * A + v.toNat % A < 2 ^ 32 := by
    rw [← hAB]
    have h1 : H * B + x % B + 1 ≤ B * 2 ^ (32 - (f.lsb + f.width)) := by
      calc H * B + x % B + 1 ≤ H * B + B := by omega
        _ = (H + 1) * B := by ring
        _ ≤ 2 ^ (32 - (f.lsb + f.width)) * B := Nat.mul_le_mul_right _ hH
        _ = _ := by ring
    calc (H * B + x % B) * A + v.toNat % A < (H * B + x % B) * A + A := by omega
      _ = (H * B + x % B + 1) * A := by ring
      _ ≤ B * 2 ^ (32 - (f.lsb + f.width)) * A := Nat.mul_le_mul_right _ h1
      _ = _ := by ring
  show (BitVec.ofNat 32 (v.toNat - f.of v * 2 ^ f.lsb + x % 2 ^ f.width * 2 ^ f.lsb)).toNat = _
  rw [BitVec.toNat_ofNat, show f.of v = m from rfl, hcut, Nat.mod_eq_of_lt hlt]

/-- A field reads the low bits of the number that was put into it. -/
theorem Fld.of_into (f : Fld) (hf : f.fits) (v : Word) (x : Nat) : f.of (f.into v x) = x % 2 ^ f.width := by
  show bits (f.into v x).toNat f.lsb f.width = _
  rw [f.toNat_into hf]
  unfold bits
  rw [Nat.mul_comm _ (2 ^ f.lsb), Nat.mul_add_div (by positivity),
    Nat.div_eq_of_lt (Nat.mod_lt _ (by positivity)), Nat.add_zero, Nat.mul_comm, Nat.mul_add_mod, Nat.mod_mod]

/-- A field reads as before when another field of its word is replaced. -/
theorem Fld.of_into_apart (f g : Fld) (hf : f.fits) (h : f.apart g) (v : Word) (x : Nat) :
    g.of (f.into v x) = g.of v := by
  show bits (f.into v x).toNat g.lsb g.width = bits v.toNat g.lsb g.width
  rw [f.toNat_into hf]
  have hs := bits_split v.toNat f.lsb f.width
  have hx : x % 2 ^ f.width < 2 ^ f.width := Nat.mod_lt _ (by positivity)
  have hm := bits_lt v.toNat f.lsb f.width
  have hlo : v.toNat % 2 ^ f.lsb < 2 ^ f.lsb := Nat.mod_lt _ (by positivity)
  have key : ∀ y, y < 2 ^ f.width → bits ((v.toNat / 2 ^ (f.lsb + f.width) * 2 ^ f.width + y) * 2 ^ f.lsb +
      v.toNat % 2 ^ f.lsb) g.lsb g.width =
        if f.lsb + f.width ≤ g.lsb then v.toNat / 2 ^ (f.lsb + f.width) / 2 ^ (g.lsb - (f.lsb + f.width)) % 2 ^ g.width
        else v.toNat % 2 ^ f.lsb / 2 ^ g.lsb % 2 ^ g.width := by
    intro y hy
    unfold bits
    split
    · rename_i hg
      rw [show (2 : Nat) ^ g.lsb = 2 ^ f.lsb * 2 ^ f.width * 2 ^ (g.lsb - (f.lsb + f.width)) by
        rw [← pow_add, ← pow_add]; congr 1; omega]
      rw [← Nat.div_div_eq_div_mul, ← Nat.div_div_eq_div_mul, Nat.mul_comm _ (2 ^ f.lsb),
        Nat.mul_add_div (by positivity), Nat.div_eq_of_lt hlo, Nat.add_zero, Nat.mul_comm _ (2 ^ f.width),
        Nat.mul_add_div (by positivity), Nat.div_eq_of_lt hy, Nat.add_zero]
    · rename_i hg
      have hg' : g.lsb + g.width ≤ f.lsb := by rcases h with h | h <;> omega
      have : (2 : Nat) ^ f.lsb = 2 ^ g.lsb * (2 ^ g.width * 2 ^ (f.lsb - (g.lsb + g.width))) := by
        rw [← pow_add, ← pow_add]; congr 1; omega
      rw [Nat.mul_comm _ (2 ^ f.lsb)]
      nth_rewrite 1 [this]
      rw [Nat.mul_assoc, Nat.mul_add_div (by positivity), Nat.mul_assoc, Nat.mul_add_mod]
  have h1 := key _ hx
  have h2 := key _ hm
  rw [← hs] at h2
  rw [h1, h2]

/-! ## Registers in effect -/

@[simp] theorem Block.reg_setReg (b : Block) (a a' : Nat) (v : Word) :
    (b.setReg a v).reg a' = if a = a' then v else b.reg a' := sparseGet_put resetAt b.regs a a' v

theorem Block.reg_setReg_same (b : Block) (a : Nat) (v : Word) : (b.setReg a v).reg a = v := by simp

theorem Block.reg_setReg_of_ne (b : Block) {a a' : Nat} (v : Word) (h : a ≠ a') : (b.setReg a v).reg a' = b.reg a' := by
  simp [h]

/-- A put changes the register that holds the field, and no other. -/
theorem Block.reg_put (b : Block) (f : Fld) (x i j k a : Nat) :
    (b.put f x i j k).reg a = if f.at i j k = a then f.into (b.reg (f.at i j k)) x else b.reg a := by
  simp [Block.put]

/-- A field reads what was put into it, cut to its width. -/
theorem Block.get_put_same (b : Block) (f : Fld) (hf : f.fits) (x i j k : Nat) :
    (b.put f x i j k).get f i j k = x % 2 ^ f.width := by
  simp [Block.get, Block.put, f.of_into hf]

/-- A field of another register reads as before. -/
theorem Block.get_put_other (b : Block) (f g : Fld) (x i j k i' j' k' : Nat) (h : f.at i j k ≠ g.at i' j' k') :
    (b.put f x i j k).get g i' j' k' = b.get g i' j' k' := by
  simp [Block.get, Block.put, h]

/-- A field that shares no bit with the one that was put reads as before, in whatever register it lies. -/
theorem Block.get_put_apart (b : Block) (f g : Fld) (hf : f.fits) (ha : f.apart g) (x i j k i' j' k' : Nat) :
    (b.put f x i j k).get g i' j' k' = b.get g i' j' k' := by
  by_cases h : f.at i j k = g.at i' j' k'
  · simp [Block.get, Block.put, h, f.of_into_apart g hf ha]
  · exact b.get_put_other f g x i j k i' j' k' h

theorem Block.on_flag_same (b : Block) (f : Fld) (hf : f.fits) (hw : f.width = 1) (x : Bool) (i j k : Nat) :
    (b.flag f x i j k).on f i j k = x := by
  unfold Block.on Block.flag
  rw [b.get_put_same f hf, hw]
  cases x <;> rfl

end Sys2Proof.Machine
end

