-- ==== Sys2Proof/Laws/State.lean ====
section
/-! SUPPORT. One lemma for each field of the state and each basic update of it, so that no proof unfolds a record update. -/

namespace Sys2Proof.Machine

open Sys2Proof

variable (s : State) (b : Block)

/-! ### Block.setReg -/

@[simp] theorem Block.setReg_stage (a : Nat) (v : Word) : (b.setReg a v).stage = b.stage := rfl
@[simp] theorem Block.setReg_pendL (a : Nat) (v : Word) : (b.setReg a v).pendL = b.pendL := rfl
@[simp] theorem Block.setReg_pendF (a : Nat) (v : Word) : (b.setReg a v).pendF = b.pendF := rfl
@[simp] theorem Block.setReg_latch (a : Nat) (v : Word) : (b.setReg a v).latch = b.latch := rfl
@[simp] theorem Block.setReg_evq (a : Nat) (v : Word) : (b.setReg a v).evq = b.evq := rfl
@[simp] theorem Block.setReg_limits (a : Nat) (v : Word) : (b.setReg a v).limits = b.limits := rfl
@[simp] theorem Block.setReg_resp (a : Nat) (v : Word) : (b.setReg a v).resp = b.resp := rfl
@[simp] theorem Block.setReg_out (a : Nat) (v : Word) : (b.setReg a v).out = b.out := rfl
@[simp] theorem Block.setReg_stores (a : Nat) (v : Word) : (b.setReg a v).stores = b.stores := rfl
@[simp] theorem Block.setReg_newPtp (a : Nat) (v : Word) : (b.setReg a v).newPtp = b.newPtp := rfl
@[simp] theorem Block.setReg_clkReset (a : Nat) (v : Word) : (b.setReg a v).clkReset = b.clkReset := rfl
@[simp] theorem Block.setReg_free (a : Nat) (v : Word) : (b.setReg a v).free = b.free := rfl
@[simp] theorem Block.setReg_hold (a : Nat) (v : Word) : (b.setReg a v).hold = b.hold := rfl
@[simp] theorem Block.setReg_tim (a : Nat) (v : Word) : (b.setReg a v).tim = b.tim := rfl
@[simp] theorem Block.setReg_flkPend (a : Nat) (v : Word) : (b.setReg a v).flkPend = b.flkPend := rfl
@[simp] theorem Block.setReg_lad (a : Nat) (v : Word) : (b.setReg a v).lad = b.lad := rfl
@[simp] theorem Block.setReg_ctxs (a : Nat) (v : Word) : (b.setReg a v).ctxs = b.ctxs := rfl
@[simp] theorem Block.setReg_engs (a : Nat) (v : Word) : (b.setReg a v).engs = b.engs := rfl
@[simp] theorem Block.setReg_moulds (a : Nat) (v : Word) : (b.setReg a v).moulds = b.moulds := rfl
@[simp] theorem Block.setReg_comps (a : Nat) (v : Word) : (b.setReg a v).comps = b.comps := rfl
@[simp] theorem Block.setReg_handed (a : Nat) (v : Word) : (b.setReg a v).handed = b.handed := rfl
@[simp] theorem Block.setReg_wbs (a : Nat) (v : Word) : (b.setReg a v).wbs = b.wbs := rfl
@[simp] theorem Block.setReg_slotSince (a : Nat) (v : Word) : (b.setReg a v).slotSince = b.slotSince := rfl
@[simp] theorem Block.setReg_cruSince (a : Nat) (v : Word) : (b.setReg a v).cruSince = b.cruSince := rfl
@[simp] theorem Block.setReg_frz (a : Nat) (v : Word) : (b.setReg a v).frz = b.frz := rfl
@[simp] theorem Block.setReg_fets (a : Nat) (v : Word) : (b.setReg a v).fets = b.fets := rfl
@[simp] theorem Block.setReg_rsws (a : Nat) (v : Word) : (b.setReg a v).rsws = b.rsws := rfl
@[simp] theorem Block.setReg_macSince (a : Nat) (v : Word) : (b.setReg a v).macSince = b.macSince := rfl
@[simp] theorem Block.setReg_panels (a : Nat) (v : Word) : (b.setReg a v).panels = b.panels := rfl
@[simp] theorem Block.setReg_snapSerial (a : Nat) (v : Word) : (b.setReg a v).snapSerial = b.snapSerial := rfl
@[simp] theorem Block.setReg_snapAt (a : Nat) (v : Word) : (b.setReg a v).snapAt = b.snapAt := rfl
@[simp] theorem Block.setReg_encs (a : Nat) (v : Word) : (b.setReg a v).encs = b.encs := rfl
@[simp] theorem Block.setReg_encSs (a : Nat) (v : Word) : (b.setReg a v).encSs = b.encSs := rfl
@[simp] theorem Block.setReg_pair (a : Nat) (v : Word) : (b.setReg a v).pair = b.pair := rfl
@[simp] theorem Block.setReg_heatGen (a : Nat) (v : Word) : (b.setReg a v).heatGen = b.heatGen := rfl
@[simp] theorem Block.setReg_heatCorr (a : Nat) (v : Word) : (b.setReg a v).heatCorr = b.heatCorr := rfl
@[simp] theorem Block.setReg_peerReadys (a : Nat) (v : Word) : (b.setReg a v).peerReadys = b.peerReadys := rfl
@[simp] theorem Block.setReg_peerLosses (a : Nat) (v : Word) : (b.setReg a v).peerLosses = b.peerLosses := rfl
@[simp] theorem Block.setReg_recent (a : Nat) (v : Word) : (b.setReg a v).recent = b.recent := rfl
@[simp] theorem Block.setReg_uncorrectable (a : Nat) (v : Word) : (b.setReg a v).uncorrectable = b.uncorrectable := rfl
@[simp] theorem Block.setReg_selfCheck (a : Nat) (v : Word) : (b.setReg a v).selfCheck = b.selfCheck := rfl
@[simp] theorem Block.setReg_sprs (a : Nat) (v : Word) : (b.setReg a v).sprs = b.sprs := rfl
@[simp] theorem Block.setReg_shares (a : Nat) (v : Word) : (b.setReg a v).shares = b.shares := rfl
@[simp] theorem Block.setReg_lanes (a : Nat) (v : Word) : (b.setReg a v).lanes = b.lanes := rfl
@[simp] theorem Block.setReg_readied (a : Nat) (v : Word) : (b.setReg a v).readied = b.readied := rfl
@[simp] theorem Block.setReg_now (a : Nat) (v : Word) : (b.setReg a v).now = b.now := rfl
@[simp] theorem Block.setReg_raised (a : Nat) (v : Word) : (b.setReg a v).raised = b.raised := rfl
@[simp] theorem Block.setReg_dram (a : Nat) (v : Word) : (b.setReg a v).dram = b.dram := rfl
@[simp] theorem Block.setReg_ctl (a : Nat) (v : Word) : (b.setReg a v).ctl = b.ctl := rfl
@[simp] theorem Block.setReg_log (a : Nat) (v : Word) : (b.setReg a v).log = b.log := rfl
@[simp] theorem Block.setReg_start (a : Nat) (v : Word) : (b.setReg a v).start = b.start := rfl
@[simp] theorem Block.setReg_shop (a : Nat) (v : Word) : (b.setReg a v).shop = b.shop := rfl
@[simp] theorem Block.setReg_jtag (a : Nat) (v : Word) : (b.setReg a v).jtag = b.jtag := rfl
@[simp] theorem Block.setReg_hot (a : Nat) (v : Word) : (b.setReg a v).hot = b.hot := rfl

/-! ### Block.put -/

@[simp] theorem Block.put_stage (f : Fld) (x i j k : Nat) : (b.put f x i j k).stage = b.stage := rfl
@[simp] theorem Block.put_pendL (f : Fld) (x i j k : Nat) : (b.put f x i j k).pendL = b.pendL := rfl
@[simp] theorem Block.put_pendF (f : Fld) (x i j k : Nat) : (b.put f x i j k).pendF = b.pendF := rfl
@[simp] theorem Block.put_latch (f : Fld) (x i j k : Nat) : (b.put f x i j k).latch = b.latch := rfl
@[simp] theorem Block.put_evq (f : Fld) (x i j k : Nat) : (b.put f x i j k).evq = b.evq := rfl
@[simp] theorem Block.put_limits (f : Fld) (x i j k : Nat) : (b.put f x i j k).limits = b.limits := rfl
@[simp] theorem Block.put_resp (f : Fld) (x i j k : Nat) : (b.put f x i j k).resp = b.resp := rfl
@[simp] theorem Block.put_out (f : Fld) (x i j k : Nat) : (b.put f x i j k).out = b.out := rfl
@[simp] theorem Block.put_stores (f : Fld) (x i j k : Nat) : (b.put f x i j k).stores = b.stores := rfl
@[simp] theorem Block.put_newPtp (f : Fld) (x i j k : Nat) : (b.put f x i j k).newPtp = b.newPtp := rfl
@[simp] theorem Block.put_clkReset (f : Fld) (x i j k : Nat) : (b.put f x i j k).clkReset = b.clkReset := rfl
@[simp] theorem Block.put_free (f : Fld) (x i j k : Nat) : (b.put f x i j k).free = b.free := rfl
@[simp] theorem Block.put_hold (f : Fld) (x i j k : Nat) : (b.put f x i j k).hold = b.hold := rfl
@[simp] theorem Block.put_tim (f : Fld) (x i j k : Nat) : (b.put f x i j k).tim = b.tim := rfl
@[simp] theorem Block.put_flkPend (f : Fld) (x i j k : Nat) : (b.put f x i j k).flkPend = b.flkPend := rfl
@[simp] theorem Block.put_lad (f : Fld) (x i j k : Nat) : (b.put f x i j k).lad = b.lad := rfl
@[simp] theorem Block.put_ctxs (f : Fld) (x i j k : Nat) : (b.put f x i j k).ctxs = b.ctxs := rfl
@[simp] theorem Block.put_engs (f : Fld) (x i j k : Nat) : (b.put f x i j k).engs = b.engs := rfl
@[simp] theorem Block.put_moulds (f : Fld) (x i j k : Nat) : (b.put f x i j k).moulds = b.moulds := rfl
@[simp] theorem Block.put_comps (f : Fld) (x i j k : Nat) : (b.put f x i j k).comps = b.comps := rfl
@[simp] theorem Block.put_handed (f : Fld) (x i j k : Nat) : (b.put f x i j k).handed = b.handed := rfl
@[simp] theorem Block.put_wbs (f : Fld) (x i j k : Nat) : (b.put f x i j k).wbs = b.wbs := rfl
@[simp] theorem Block.put_slotSince (f : Fld) (x i j k : Nat) : (b.put f x i j k).slotSince = b.slotSince := rfl
@[simp] theorem Block.put_cruSince (f : Fld) (x i j k : Nat) : (b.put f x i j k).cruSince = b.cruSince := rfl
@[simp] theorem Block.put_frz (f : Fld) (x i j k : Nat) : (b.put f x i j k).frz = b.frz := rfl
@[simp] theorem Block.put_fets (f : Fld) (x i j k : Nat) : (b.put f x i j k).fets = b.fets := rfl
@[simp] theorem Block.put_rsws (f : Fld) (x i j k : Nat) : (b.put f x i j k).rsws = b.rsws := rfl
@[simp] theorem Block.put_macSince (f : Fld) (x i j k : Nat) : (b.put f x i j k).macSince = b.macSince := rfl
@[simp] theorem Block.put_panels (f : Fld) (x i j k : Nat) : (b.put f x i j k).panels = b.panels := rfl
@[simp] theorem Block.put_snapSerial (f : Fld) (x i j k : Nat) : (b.put f x i j k).snapSerial = b.snapSerial := rfl
@[simp] theorem Block.put_snapAt (f : Fld) (x i j k : Nat) : (b.put f x i j k).snapAt = b.snapAt := rfl
@[simp] theorem Block.put_encs (f : Fld) (x i j k : Nat) : (b.put f x i j k).encs = b.encs := rfl
@[simp] theorem Block.put_encSs (f : Fld) (x i j k : Nat) : (b.put f x i j k).encSs = b.encSs := rfl
@[simp] theorem Block.put_pair (f : Fld) (x i j k : Nat) : (b.put f x i j k).pair = b.pair := rfl
@[simp] theorem Block.put_heatGen (f : Fld) (x i j k : Nat) : (b.put f x i j k).heatGen = b.heatGen := rfl
@[simp] theorem Block.put_heatCorr (f : Fld) (x i j k : Nat) : (b.put f x i j k).heatCorr = b.heatCorr := rfl
@[simp] theorem Block.put_peerReadys (f : Fld) (x i j k : Nat) : (b.put f x i j k).peerReadys = b.peerReadys := rfl
@[simp] theorem Block.put_peerLosses (f : Fld) (x i j k : Nat) : (b.put f x i j k).peerLosses = b.peerLosses := rfl
@[simp] theorem Block.put_recent (f : Fld) (x i j k : Nat) : (b.put f x i j k).recent = b.recent := rfl
@[simp] theorem Block.put_uncorrectable (f : Fld) (x i j k : Nat) : (b.put f x i j k).uncorrectable = b.uncorrectable := rfl
@[simp] theorem Block.put_selfCheck (f : Fld) (x i j k : Nat) : (b.put f x i j k).selfCheck = b.selfCheck := rfl
@[simp] theorem Block.put_sprs (f : Fld) (x i j k : Nat) : (b.put f x i j k).sprs = b.sprs := rfl
@[simp] theorem Block.put_shares (f : Fld) (x i j k : Nat) : (b.put f x i j k).shares = b.shares := rfl
@[simp] theorem Block.put_lanes (f : Fld) (x i j k : Nat) : (b.put f x i j k).lanes = b.lanes := rfl
@[simp] theorem Block.put_readied (f : Fld) (x i j k : Nat) : (b.put f x i j k).readied = b.readied := rfl
@[simp] theorem Block.put_now (f : Fld) (x i j k : Nat) : (b.put f x i j k).now = b.now := rfl
@[simp] theorem Block.put_raised (f : Fld) (x i j k : Nat) : (b.put f x i j k).raised = b.raised := rfl
@[simp] theorem Block.put_dram (f : Fld) (x i j k : Nat) : (b.put f x i j k).dram = b.dram := rfl
@[simp] theorem Block.put_ctl (f : Fld) (x i j k : Nat) : (b.put f x i j k).ctl = b.ctl := rfl
@[simp] theorem Block.put_log (f : Fld) (x i j k : Nat) : (b.put f x i j k).log = b.log := rfl
@[simp] theorem Block.put_start (f : Fld) (x i j k : Nat) : (b.put f x i j k).start = b.start := rfl
@[simp] theorem Block.put_shop (f : Fld) (x i j k : Nat) : (b.put f x i j k).shop = b.shop := rfl
@[simp] theorem Block.put_jtag (f : Fld) (x i j k : Nat) : (b.put f x i j k).jtag = b.jtag := rfl
@[simp] theorem Block.put_hot (f : Fld) (x i j k : Nat) : (b.put f x i j k).hot = b.hot := rfl

/-! ### Block.flag -/

@[simp] theorem Block.flag_stage (f : Fld) (x : Bool) (i j k : Nat) : (b.flag f x i j k).stage = b.stage := rfl
@[simp] theorem Block.flag_pendL (f : Fld) (x : Bool) (i j k : Nat) : (b.flag f x i j k).pendL = b.pendL := rfl
@[simp] theorem Block.flag_pendF (f : Fld) (x : Bool) (i j k : Nat) : (b.flag f x i j k).pendF = b.pendF := rfl
@[simp] theorem Block.flag_latch (f : Fld) (x : Bool) (i j k : Nat) : (b.flag f x i j k).latch = b.latch := rfl
@[simp] theorem Block.flag_evq (f : Fld) (x : Bool) (i j k : Nat) : (b.flag f x i j k).evq = b.evq := rfl
@[simp] theorem Block.flag_limits (f : Fld) (x : Bool) (i j k : Nat) : (b.flag f x i j k).limits = b.limits := rfl
@[simp] theorem Block.flag_resp (f : Fld) (x : Bool) (i j k : Nat) : (b.flag f x i j k).resp = b.resp := rfl
@[simp] theorem Block.flag_out (f : Fld) (x : Bool) (i j k : Nat) : (b.flag f x i j k).out = b.out := rfl
@[simp] theorem Block.flag_stores (f : Fld) (x : Bool) (i j k : Nat) : (b.flag f x i j k).stores = b.stores := rfl
@[simp] theorem Block.flag_newPtp (f : Fld) (x : Bool) (i j k : Nat) : (b.flag f x i j k).newPtp = b.newPtp := rfl
@[simp] theorem Block.flag_clkReset (f : Fld) (x : Bool) (i j k : Nat) : (b.flag f x i j k).clkReset = b.clkReset := rfl
@[simp] theorem Block.flag_free (f : Fld) (x : Bool) (i j k : Nat) : (b.flag f x i j k).free = b.free := rfl
@[simp] theorem Block.flag_hold (f : Fld) (x : Bool) (i j k : Nat) : (b.flag f x i j k).hold = b.hold := rfl
@[simp] theorem Block.flag_tim (f : Fld) (x : Bool) (i j k : Nat) : (b.flag f x i j k).tim = b.tim := rfl
@[simp] theorem Block.flag_flkPend (f : Fld) (x : Bool) (i j k : Nat) : (b.flag f x i j k).flkPend = b.flkPend := rfl
@[simp] theorem Block.flag_lad (f : Fld) (x : Bool) (i j k : Nat) : (b.flag f x i j k).lad = b.lad := rfl
@[simp] theorem Block.flag_ctxs (f : Fld) (x : Bool) (i j k : Nat) : (b.flag f x i j k).ctxs = b.ctxs := rfl
@[simp] theorem Block.flag_engs (f : Fld) (x : Bool) (i j k : Nat) : (b.flag f x i j k).engs = b.engs := rfl
@[simp] theorem Block.flag_moulds (f : Fld) (x : Bool) (i j k : Nat) : (b.flag f x i j k).moulds = b.moulds := rfl
@[simp] theorem Block.flag_comps (f : Fld) (x : Bool) (i j k : Nat) : (b.flag f x i j k).comps = b.comps := rfl
@[simp] theorem Block.flag_handed (f : Fld) (x : Bool) (i j k : Nat) : (b.flag f x i j k).handed = b.handed := rfl
@[simp] theorem Block.flag_wbs (f : Fld) (x : Bool) (i j k : Nat) : (b.flag f x i j k).wbs = b.wbs := rfl
@[simp] theorem Block.flag_slotSince (f : Fld) (x : Bool) (i j k : Nat) : (b.flag f x i j k).slotSince = b.slotSince := rfl
@[simp] theorem Block.flag_cruSince (f : Fld) (x : Bool) (i j k : Nat) : (b.flag f x i j k).cruSince = b.cruSince := rfl
@[simp] theorem Block.flag_frz (f : Fld) (x : Bool) (i j k : Nat) : (b.flag f x i j k).frz = b.frz := rfl
@[simp] theorem Block.flag_fets (f : Fld) (x : Bool) (i j k : Nat) : (b.flag f x i j k).fets = b.fets := rfl
@[simp] theorem Block.flag_rsws (f : Fld) (x : Bool) (i j k : Nat) : (b.flag f x i j k).rsws = b.rsws := rfl
@[simp] theorem Block.flag_macSince (f : Fld) (x : Bool) (i j k : Nat) : (b.flag f x i j k).macSince = b.macSince := rfl
@[simp] theorem Block.flag_panels (f : Fld) (x : Bool) (i j k : Nat) : (b.flag f x i j k).panels = b.panels := rfl
@[simp] theorem Block.flag_snapSerial (f : Fld) (x : Bool) (i j k : Nat) : (b.flag f x i j k).snapSerial = b.snapSerial := rfl
@[simp] theorem Block.flag_snapAt (f : Fld) (x : Bool) (i j k : Nat) : (b.flag f x i j k).snapAt = b.snapAt := rfl
@[simp] theorem Block.flag_encs (f : Fld) (x : Bool) (i j k : Nat) : (b.flag f x i j k).encs = b.encs := rfl
@[simp] theorem Block.flag_encSs (f : Fld) (x : Bool) (i j k : Nat) : (b.flag f x i j k).encSs = b.encSs := rfl
@[simp] theorem Block.flag_pair (f : Fld) (x : Bool) (i j k : Nat) : (b.flag f x i j k).pair = b.pair := rfl
@[simp] theorem Block.flag_heatGen (f : Fld) (x : Bool) (i j k : Nat) : (b.flag f x i j k).heatGen = b.heatGen := rfl
@[simp] theorem Block.flag_heatCorr (f : Fld) (x : Bool) (i j k : Nat) : (b.flag f x i j k).heatCorr = b.heatCorr := rfl
@[simp] theorem Block.flag_peerReadys (f : Fld) (x : Bool) (i j k : Nat) : (b.flag f x i j k).peerReadys = b.peerReadys := rfl
@[simp] theorem Block.flag_peerLosses (f : Fld) (x : Bool) (i j k : Nat) : (b.flag f x i j k).peerLosses = b.peerLosses := rfl
@[simp] theorem Block.flag_recent (f : Fld) (x : Bool) (i j k : Nat) : (b.flag f x i j k).recent = b.recent := rfl
@[simp] theorem Block.flag_uncorrectable (f : Fld) (x : Bool) (i j k : Nat) : (b.flag f x i j k).uncorrectable = b.uncorrectable := rfl
@[simp] theorem Block.flag_selfCheck (f : Fld) (x : Bool) (i j k : Nat) : (b.flag f x i j k).selfCheck = b.selfCheck := rfl
@[simp] theorem Block.flag_sprs (f : Fld) (x : Bool) (i j k : Nat) : (b.flag f x i j k).sprs = b.sprs := rfl
@[simp] theorem Block.flag_shares (f : Fld) (x : Bool) (i j k : Nat) : (b.flag f x i j k).shares = b.shares := rfl
@[simp] theorem Block.flag_lanes (f : Fld) (x : Bool) (i j k : Nat) : (b.flag f x i j k).lanes = b.lanes := rfl
@[simp] theorem Block.flag_readied (f : Fld) (x : Bool) (i j k : Nat) : (b.flag f x i j k).readied = b.readied := rfl
@[simp] theorem Block.flag_now (f : Fld) (x : Bool) (i j k : Nat) : (b.flag f x i j k).now = b.now := rfl
@[simp] theorem Block.flag_raised (f : Fld) (x : Bool) (i j k : Nat) : (b.flag f x i j k).raised = b.raised := rfl
@[simp] theorem Block.flag_dram (f : Fld) (x : Bool) (i j k : Nat) : (b.flag f x i j k).dram = b.dram := rfl
@[simp] theorem Block.flag_ctl (f : Fld) (x : Bool) (i j k : Nat) : (b.flag f x i j k).ctl = b.ctl := rfl
@[simp] theorem Block.flag_log (f : Fld) (x : Bool) (i j k : Nat) : (b.flag f x i j k).log = b.log := rfl
@[simp] theorem Block.flag_start (f : Fld) (x : Bool) (i j k : Nat) : (b.flag f x i j k).start = b.start := rfl
@[simp] theorem Block.flag_shop (f : Fld) (x : Bool) (i j k : Nat) : (b.flag f x i j k).shop = b.shop := rfl
@[simp] theorem Block.flag_jtag (f : Fld) (x : Bool) (i j k : Nat) : (b.flag f x i j k).jtag = b.jtag := rfl
@[simp] theorem Block.flag_hot (f : Fld) (x : Bool) (i j k : Nat) : (b.flag f x i j k).hot = b.hot := rfl

/-! ### Block.raise -/

@[simp] theorem Block.raise_regs (a : Nat) (v : Word) : (b.raise a v).regs = b.regs := rfl
@[simp] theorem Block.raise_stage (a : Nat) (v : Word) : (b.raise a v).stage = b.stage := rfl
@[simp] theorem Block.raise_pendL (a : Nat) (v : Word) : (b.raise a v).pendL = b.pendL := rfl
@[simp] theorem Block.raise_pendF (a : Nat) (v : Word) : (b.raise a v).pendF = b.pendF := rfl
@[simp] theorem Block.raise_latch (a : Nat) (v : Word) : (b.raise a v).latch = b.latch := rfl
@[simp] theorem Block.raise_evq (a : Nat) (v : Word) : (b.raise a v).evq = b.evq := rfl
@[simp] theorem Block.raise_limits (a : Nat) (v : Word) : (b.raise a v).limits = b.limits := rfl
@[simp] theorem Block.raise_resp (a : Nat) (v : Word) : (b.raise a v).resp = b.resp := rfl
@[simp] theorem Block.raise_out (a : Nat) (v : Word) : (b.raise a v).out = b.out := rfl
@[simp] theorem Block.raise_stores (a : Nat) (v : Word) : (b.raise a v).stores = b.stores := rfl
@[simp] theorem Block.raise_newPtp (a : Nat) (v : Word) : (b.raise a v).newPtp = b.newPtp := rfl
@[simp] theorem Block.raise_clkReset (a : Nat) (v : Word) : (b.raise a v).clkReset = b.clkReset := rfl
@[simp] theorem Block.raise_free (a : Nat) (v : Word) : (b.raise a v).free = b.free := rfl
@[simp] theorem Block.raise_hold (a : Nat) (v : Word) : (b.raise a v).hold = b.hold := rfl
@[simp] theorem Block.raise_tim (a : Nat) (v : Word) : (b.raise a v).tim = b.tim := rfl
@[simp] theorem Block.raise_flkPend (a : Nat) (v : Word) : (b.raise a v).flkPend = b.flkPend := rfl
@[simp] theorem Block.raise_lad (a : Nat) (v : Word) : (b.raise a v).lad = b.lad := rfl
@[simp] theorem Block.raise_ctxs (a : Nat) (v : Word) : (b.raise a v).ctxs = b.ctxs := rfl
@[simp] theorem Block.raise_engs (a : Nat) (v : Word) : (b.raise a v).engs = b.engs := rfl
@[simp] theorem Block.raise_moulds (a : Nat) (v : Word) : (b.raise a v).moulds = b.moulds := rfl
@[simp] theorem Block.raise_comps (a : Nat) (v : Word) : (b.raise a v).comps = b.comps := rfl
@[simp] theorem Block.raise_handed (a : Nat) (v : Word) : (b.raise a v).handed = b.handed := rfl
@[simp] theorem Block.raise_wbs (a : Nat) (v : Word) : (b.raise a v).wbs = b.wbs := rfl
@[simp] theorem Block.raise_slotSince (a : Nat) (v : Word) : (b.raise a v).slotSince = b.slotSince := rfl
@[simp] theorem Block.raise_cruSince (a : Nat) (v : Word) : (b.raise a v).cruSince = b.cruSince := rfl
@[simp] theorem Block.raise_frz (a : Nat) (v : Word) : (b.raise a v).frz = b.frz := rfl
@[simp] theorem Block.raise_fets (a : Nat) (v : Word) : (b.raise a v).fets = b.fets := rfl
@[simp] theorem Block.raise_rsws (a : Nat) (v : Word) : (b.raise a v).rsws = b.rsws := rfl
@[simp] theorem Block.raise_macSince (a : Nat) (v : Word) : (b.raise a v).macSince = b.macSince := rfl
@[simp] theorem Block.raise_panels (a : Nat) (v : Word) : (b.raise a v).panels = b.panels := rfl
@[simp] theorem Block.raise_snapSerial (a : Nat) (v : Word) : (b.raise a v).snapSerial = b.snapSerial := rfl
@[simp] theorem Block.raise_snapAt (a : Nat) (v : Word) : (b.raise a v).snapAt = b.snapAt := rfl
@[simp] theorem Block.raise_encs (a : Nat) (v : Word) : (b.raise a v).encs = b.encs := rfl
@[simp] theorem Block.raise_encSs (a : Nat) (v : Word) : (b.raise a v).encSs = b.encSs := rfl
@[simp] theorem Block.raise_pair (a : Nat) (v : Word) : (b.raise a v).pair = b.pair := rfl
@[simp] theorem Block.raise_heatGen (a : Nat) (v : Word) : (b.raise a v).heatGen = b.heatGen := rfl
@[simp] theorem Block.raise_heatCorr (a : Nat) (v : Word) : (b.raise a v).heatCorr = b.heatCorr := rfl
@[simp] theorem Block.raise_peerReadys (a : Nat) (v : Word) : (b.raise a v).peerReadys = b.peerReadys := rfl
@[simp] theorem Block.raise_peerLosses (a : Nat) (v : Word) : (b.raise a v).peerLosses = b.peerLosses := rfl
@[simp] theorem Block.raise_recent (a : Nat) (v : Word) : (b.raise a v).recent = b.recent := rfl
@[simp] theorem Block.raise_uncorrectable (a : Nat) (v : Word) : (b.raise a v).uncorrectable = b.uncorrectable := rfl
@[simp] theorem Block.raise_selfCheck (a : Nat) (v : Word) : (b.raise a v).selfCheck = b.selfCheck := rfl
@[simp] theorem Block.raise_sprs (a : Nat) (v : Word) : (b.raise a v).sprs = b.sprs := rfl
@[simp] theorem Block.raise_shares (a : Nat) (v : Word) : (b.raise a v).shares = b.shares := rfl
@[simp] theorem Block.raise_lanes (a : Nat) (v : Word) : (b.raise a v).lanes = b.lanes := rfl
@[simp] theorem Block.raise_readied (a : Nat) (v : Word) : (b.raise a v).readied = b.readied := rfl
@[simp] theorem Block.raise_now (a : Nat) (v : Word) : (b.raise a v).now = b.now := rfl
@[simp] theorem Block.raise_dram (a : Nat) (v : Word) : (b.raise a v).dram = b.dram := rfl
@[simp] theorem Block.raise_ctl (a : Nat) (v : Word) : (b.raise a v).ctl = b.ctl := rfl
@[simp] theorem Block.raise_log (a : Nat) (v : Word) : (b.raise a v).log = b.log := rfl
@[simp] theorem Block.raise_start (a : Nat) (v : Word) : (b.raise a v).start = b.start := rfl
@[simp] theorem Block.raise_shop (a : Nat) (v : Word) : (b.raise a v).shop = b.shop := rfl
@[simp] theorem Block.raise_jtag (a : Nat) (v : Word) : (b.raise a v).jtag = b.jtag := rfl
@[simp] theorem Block.raise_hot (a : Nat) (v : Word) : (b.raise a v).hot = b.hot := rfl

/-! ### Block.evt -/

@[simp] theorem Block.evt_stage (f : Fld) (i j : Nat) : (b.evt f i j).stage = b.stage := rfl
@[simp] theorem Block.evt_pendL (f : Fld) (i j : Nat) : (b.evt f i j).pendL = b.pendL := rfl
@[simp] theorem Block.evt_pendF (f : Fld) (i j : Nat) : (b.evt f i j).pendF = b.pendF := rfl
@[simp] theorem Block.evt_latch (f : Fld) (i j : Nat) : (b.evt f i j).latch = b.latch := rfl
@[simp] theorem Block.evt_evq (f : Fld) (i j : Nat) : (b.evt f i j).evq = b.evq := rfl
@[simp] theorem Block.evt_limits (f : Fld) (i j : Nat) : (b.evt f i j).limits = b.limits := rfl
@[simp] theorem Block.evt_resp (f : Fld) (i j : Nat) : (b.evt f i j).resp = b.resp := rfl
@[simp] theorem Block.evt_out (f : Fld) (i j : Nat) : (b.evt f i j).out = b.out := rfl
@[simp] theorem Block.evt_stores (f : Fld) (i j : Nat) : (b.evt f i j).stores = b.stores := rfl
@[simp] theorem Block.evt_newPtp (f : Fld) (i j : Nat) : (b.evt f i j).newPtp = b.newPtp := rfl
@[simp] theorem Block.evt_clkReset (f : Fld) (i j : Nat) : (b.evt f i j).clkReset = b.clkReset := rfl
@[simp] theorem Block.evt_free (f : Fld) (i j : Nat) : (b.evt f i j).free = b.free := rfl
@[simp] theorem Block.evt_hold (f : Fld) (i j : Nat) : (b.evt f i j).hold = b.hold := rfl
@[simp] theorem Block.evt_tim (f : Fld) (i j : Nat) : (b.evt f i j).tim = b.tim := rfl
@[simp] theorem Block.evt_flkPend (f : Fld) (i j : Nat) : (b.evt f i j).flkPend = b.flkPend := rfl
@[simp] theorem Block.evt_lad (f : Fld) (i j : Nat) : (b.evt f i j).lad = b.lad := rfl
@[simp] theorem Block.evt_ctxs (f : Fld) (i j : Nat) : (b.evt f i j).ctxs = b.ctxs := rfl
@[simp] theorem Block.evt_engs (f : Fld) (i j : Nat) : (b.evt f i j).engs = b.engs := rfl
@[simp] theorem Block.evt_moulds (f : Fld) (i j : Nat) : (b.evt f i j).moulds = b.moulds := rfl
@[simp] theorem Block.evt_comps (f : Fld) (i j : Nat) : (b.evt f i j).comps = b.comps := rfl
@[simp] theorem Block.evt_handed (f : Fld) (i j : Nat) : (b.evt f i j).handed = b.handed := rfl
@[simp] theorem Block.evt_wbs (f : Fld) (i j : Nat) : (b.evt f i j).wbs = b.wbs := rfl
@[simp] theorem Block.evt_slotSince (f : Fld) (i j : Nat) : (b.evt f i j).slotSince = b.slotSince := rfl
@[simp] theorem Block.evt_cruSince (f : Fld) (i j : Nat) : (b.evt f i j).cruSince = b.cruSince := rfl
@[simp] theorem Block.evt_frz (f : Fld) (i j : Nat) : (b.evt f i j).frz = b.frz := rfl
@[simp] theorem Block.evt_fets (f : Fld) (i j : Nat) : (b.evt f i j).fets = b.fets := rfl
@[simp] theorem Block.evt_rsws (f : Fld) (i j : Nat) : (b.evt f i j).rsws = b.rsws := rfl
@[simp] theorem Block.evt_macSince (f : Fld) (i j : Nat) : (b.evt f i j).macSince = b.macSince := rfl
@[simp] theorem Block.evt_panels (f : Fld) (i j : Nat) : (b.evt f i j).panels = b.panels := rfl
@[simp] theorem Block.evt_snapSerial (f : Fld) (i j : Nat) : (b.evt f i j).snapSerial = b.snapSerial := rfl
@[simp] theorem Block.evt_snapAt (f : Fld) (i j : Nat) : (b.evt f i j).snapAt = b.snapAt := rfl
@[simp] theorem Block.evt_encs (f : Fld) (i j : Nat) : (b.evt f i j).encs = b.encs := rfl
@[simp] theorem Block.evt_encSs (f : Fld) (i j : Nat) : (b.evt f i j).encSs = b.encSs := rfl
@[simp] theorem Block.evt_pair (f : Fld) (i j : Nat) : (b.evt f i j).pair = b.pair := rfl
@[simp] theorem Block.evt_heatGen (f : Fld) (i j : Nat) : (b.evt f i j).heatGen = b.heatGen := rfl
@[simp] theorem Block.evt_heatCorr (f : Fld) (i j : Nat) : (b.evt f i j).heatCorr = b.heatCorr := rfl
@[simp] theorem Block.evt_peerReadys (f : Fld) (i j : Nat) : (b.evt f i j).peerReadys = b.peerReadys := rfl
@[simp] theorem Block.evt_peerLosses (f : Fld) (i j : Nat) : (b.evt f i j).peerLosses = b.peerLosses := rfl
@[simp] theorem Block.evt_recent (f : Fld) (i j : Nat) : (b.evt f i j).recent = b.recent := rfl
@[simp] theorem Block.evt_uncorrectable (f : Fld) (i j : Nat) : (b.evt f i j).uncorrectable = b.uncorrectable := rfl
@[simp] theorem Block.evt_selfCheck (f : Fld) (i j : Nat) : (b.evt f i j).selfCheck = b.selfCheck := rfl
@[simp] theorem Block.evt_sprs (f : Fld) (i j : Nat) : (b.evt f i j).sprs = b.sprs := rfl
@[simp] theorem Block.evt_shares (f : Fld) (i j : Nat) : (b.evt f i j).shares = b.shares := rfl
@[simp] theorem Block.evt_lanes (f : Fld) (i j : Nat) : (b.evt f i j).lanes = b.lanes := rfl
@[simp] theorem Block.evt_readied (f : Fld) (i j : Nat) : (b.evt f i j).readied = b.readied := rfl
@[simp] theorem Block.evt_now (f : Fld) (i j : Nat) : (b.evt f i j).now = b.now := rfl
@[simp] theorem Block.evt_dram (f : Fld) (i j : Nat) : (b.evt f i j).dram = b.dram := rfl
@[simp] theorem Block.evt_ctl (f : Fld) (i j : Nat) : (b.evt f i j).ctl = b.ctl := rfl
@[simp] theorem Block.evt_log (f : Fld) (i j : Nat) : (b.evt f i j).log = b.log := rfl
@[simp] theorem Block.evt_start (f : Fld) (i j : Nat) : (b.evt f i j).start = b.start := rfl
@[simp] theorem Block.evt_shop (f : Fld) (i j : Nat) : (b.evt f i j).shop = b.shop := rfl
@[simp] theorem Block.evt_jtag (f : Fld) (i j : Nat) : (b.evt f i j).jtag = b.jtag := rfl
@[simp] theorem Block.evt_hot (f : Fld) (i j : Nat) : (b.evt f i j).hot = b.hot := rfl

/-! ### Block.record -/

@[simp] theorem Block.record_regs (code sev p0 p1 p2 p3 inst : Nat) : (b.record code sev p0 p1 p2 p3 inst).regs = b.regs := rfl
@[simp] theorem Block.record_stage (code sev p0 p1 p2 p3 inst : Nat) : (b.record code sev p0 p1 p2 p3 inst).stage = b.stage := rfl
@[simp] theorem Block.record_pendL (code sev p0 p1 p2 p3 inst : Nat) : (b.record code sev p0 p1 p2 p3 inst).pendL = b.pendL := rfl
@[simp] theorem Block.record_pendF (code sev p0 p1 p2 p3 inst : Nat) : (b.record code sev p0 p1 p2 p3 inst).pendF = b.pendF := rfl
@[simp] theorem Block.record_latch (code sev p0 p1 p2 p3 inst : Nat) : (b.record code sev p0 p1 p2 p3 inst).latch = b.latch := rfl
@[simp] theorem Block.record_limits (code sev p0 p1 p2 p3 inst : Nat) : (b.record code sev p0 p1 p2 p3 inst).limits = b.limits := rfl
@[simp] theorem Block.record_resp (code sev p0 p1 p2 p3 inst : Nat) : (b.record code sev p0 p1 p2 p3 inst).resp = b.resp := rfl
@[simp] theorem Block.record_out (code sev p0 p1 p2 p3 inst : Nat) : (b.record code sev p0 p1 p2 p3 inst).out = b.out := rfl
@[simp] theorem Block.record_stores (code sev p0 p1 p2 p3 inst : Nat) : (b.record code sev p0 p1 p2 p3 inst).stores = b.stores := rfl
@[simp] theorem Block.record_newPtp (code sev p0 p1 p2 p3 inst : Nat) : (b.record code sev p0 p1 p2 p3 inst).newPtp = b.newPtp := rfl
@[simp] theorem Block.record_clkReset (code sev p0 p1 p2 p3 inst : Nat) : (b.record code sev p0 p1 p2 p3 inst).clkReset = b.clkReset := rfl
@[simp] theorem Block.record_free (code sev p0 p1 p2 p3 inst : Nat) : (b.record code sev p0 p1 p2 p3 inst).free = b.free := rfl
@[simp] theorem Block.record_hold (code sev p0 p1 p2 p3 inst : Nat) : (b.record code sev p0 p1 p2 p3 inst).hold = b.hold := rfl
@[simp] theorem Block.record_tim (code sev p0 p1 p2 p3 inst : Nat) : (b.record code sev p0 p1 p2 p3 inst).tim = b.tim := rfl
@[simp] theorem Block.record_flkPend (code sev p0 p1 p2 p3 inst : Nat) : (b.record code sev p0 p1 p2 p3 inst).flkPend = b.flkPend := rfl
@[simp] theorem Block.record_lad (code sev p0 p1 p2 p3 inst : Nat) : (b.record code sev p0 p1 p2 p3 inst).lad = b.lad := rfl
@[simp] theorem Block.record_ctxs (code sev p0 p1 p2 p3 inst : Nat) : (b.record code sev p0 p1 p2 p3 inst).ctxs = b.ctxs := rfl
@[simp] theorem Block.record_engs (code sev p0 p1 p2 p3 inst : Nat) : (b.record code sev p0 p1 p2 p3 inst).engs = b.engs := rfl
@[simp] theorem Block.record_moulds (code sev p0 p1 p2 p3 inst : Nat) : (b.record code sev p0 p1 p2 p3 inst).moulds = b.moulds := rfl
@[simp] theorem Block.record_comps (code sev p0 p1 p2 p3 inst : Nat) : (b.record code sev p0 p1 p2 p3 inst).comps = b.comps := rfl
@[simp] theorem Block.record_handed (code sev p0 p1 p2 p3 inst : Nat) : (b.record code sev p0 p1 p2 p3 inst).handed = b.handed := rfl
@[simp] theorem Block.record_wbs (code sev p0 p1 p2 p3 inst : Nat) : (b.record code sev p0 p1 p2 p3 inst).wbs = b.wbs := rfl
@[simp] theorem Block.record_slotSince (code sev p0 p1 p2 p3 inst : Nat) : (b.record code sev p0 p1 p2 p3 inst).slotSince = b.slotSince := rfl
@[simp] theorem Block.record_cruSince (code sev p0 p1 p2 p3 inst : Nat) : (b.record code sev p0 p1 p2 p3 inst).cruSince = b.cruSince := rfl
@[simp] theorem Block.record_frz (code sev p0 p1 p2 p3 inst : Nat) : (b.record code sev p0 p1 p2 p3 inst).frz = b.frz := rfl
@[simp] theorem Block.record_fets (code sev p0 p1 p2 p3 inst : Nat) : (b.record code sev p0 p1 p2 p3 inst).fets = b.fets := rfl
@[simp] theorem Block.record_rsws (code sev p0 p1 p2 p3 inst : Nat) : (b.record code sev p0 p1 p2 p3 inst).rsws = b.rsws := rfl
@[simp] theorem Block.record_macSince (code sev p0 p1 p2 p3 inst : Nat) : (b.record code sev p0 p1 p2 p3 inst).macSince = b.macSince := rfl
@[simp] theorem Block.record_panels (code sev p0 p1 p2 p3 inst : Nat) : (b.record code sev p0 p1 p2 p3 inst).panels = b.panels := rfl
@[simp] theorem Block.record_snapSerial (code sev p0 p1 p2 p3 inst : Nat) : (b.record code sev p0 p1 p2 p3 inst).snapSerial = b.snapSerial := rfl
@[simp] theorem Block.record_snapAt (code sev p0 p1 p2 p3 inst : Nat) : (b.record code sev p0 p1 p2 p3 inst).snapAt = b.snapAt := rfl
@[simp] theorem Block.record_encs (code sev p0 p1 p2 p3 inst : Nat) : (b.record code sev p0 p1 p2 p3 inst).encs = b.encs := rfl
@[simp] theorem Block.record_encSs (code sev p0 p1 p2 p3 inst : Nat) : (b.record code sev p0 p1 p2 p3 inst).encSs = b.encSs := rfl
@[simp] theorem Block.record_pair (code sev p0 p1 p2 p3 inst : Nat) : (b.record code sev p0 p1 p2 p3 inst).pair = b.pair := rfl
@[simp] theorem Block.record_heatGen (code sev p0 p1 p2 p3 inst : Nat) : (b.record code sev p0 p1 p2 p3 inst).heatGen = b.heatGen := rfl
@[simp] theorem Block.record_heatCorr (code sev p0 p1 p2 p3 inst : Nat) : (b.record code sev p0 p1 p2 p3 inst).heatCorr = b.heatCorr := rfl
@[simp] theorem Block.record_peerReadys (code sev p0 p1 p2 p3 inst : Nat) : (b.record code sev p0 p1 p2 p3 inst).peerReadys = b.peerReadys := rfl
@[simp] theorem Block.record_peerLosses (code sev p0 p1 p2 p3 inst : Nat) : (b.record code sev p0 p1 p2 p3 inst).peerLosses = b.peerLosses := rfl
@[simp] theorem Block.record_recent (code sev p0 p1 p2 p3 inst : Nat) : (b.record code sev p0 p1 p2 p3 inst).recent = b.recent := rfl
@[simp] theorem Block.record_uncorrectable (code sev p0 p1 p2 p3 inst : Nat) : (b.record code sev p0 p1 p2 p3 inst).uncorrectable = b.uncorrectable := rfl
@[simp] theorem Block.record_selfCheck (code sev p0 p1 p2 p3 inst : Nat) : (b.record code sev p0 p1 p2 p3 inst).selfCheck = b.selfCheck := rfl
@[simp] theorem Block.record_sprs (code sev p0 p1 p2 p3 inst : Nat) : (b.record code sev p0 p1 p2 p3 inst).sprs = b.sprs := rfl
@[simp] theorem Block.record_shares (code sev p0 p1 p2 p3 inst : Nat) : (b.record code sev p0 p1 p2 p3 inst).shares = b.shares := rfl
@[simp] theorem Block.record_lanes (code sev p0 p1 p2 p3 inst : Nat) : (b.record code sev p0 p1 p2 p3 inst).lanes = b.lanes := rfl
@[simp] theorem Block.record_readied (code sev p0 p1 p2 p3 inst : Nat) : (b.record code sev p0 p1 p2 p3 inst).readied = b.readied := rfl
@[simp] theorem Block.record_now (code sev p0 p1 p2 p3 inst : Nat) : (b.record code sev p0 p1 p2 p3 inst).now = b.now := rfl
@[simp] theorem Block.record_raised (code sev p0 p1 p2 p3 inst : Nat) : (b.record code sev p0 p1 p2 p3 inst).raised = b.raised := rfl
@[simp] theorem Block.record_dram (code sev p0 p1 p2 p3 inst : Nat) : (b.record code sev p0 p1 p2 p3 inst).dram = b.dram := rfl
@[simp] theorem Block.record_ctl (code sev p0 p1 p2 p3 inst : Nat) : (b.record code sev p0 p1 p2 p3 inst).ctl = b.ctl := rfl
@[simp] theorem Block.record_log (code sev p0 p1 p2 p3 inst : Nat) : (b.record code sev p0 p1 p2 p3 inst).log = b.log := rfl
@[simp] theorem Block.record_start (code sev p0 p1 p2 p3 inst : Nat) : (b.record code sev p0 p1 p2 p3 inst).start = b.start := rfl
@[simp] theorem Block.record_shop (code sev p0 p1 p2 p3 inst : Nat) : (b.record code sev p0 p1 p2 p3 inst).shop = b.shop := rfl
@[simp] theorem Block.record_jtag (code sev p0 p1 p2 p3 inst : Nat) : (b.record code sev p0 p1 p2 p3 inst).jtag = b.jtag := rfl
@[simp] theorem Block.record_hot (code sev p0 p1 p2 p3 inst : Nat) : (b.record code sev p0 p1 p2 p3 inst).hot = b.hot := rfl

/-! ### Block.store -/

@[simp] theorem Block.store_regs (a : Nat) (l : List Byte) : (b.store a l).regs = b.regs := rfl
@[simp] theorem Block.store_stage (a : Nat) (l : List Byte) : (b.store a l).stage = b.stage := rfl
@[simp] theorem Block.store_pendL (a : Nat) (l : List Byte) : (b.store a l).pendL = b.pendL := rfl
@[simp] theorem Block.store_pendF (a : Nat) (l : List Byte) : (b.store a l).pendF = b.pendF := rfl
@[simp] theorem Block.store_latch (a : Nat) (l : List Byte) : (b.store a l).latch = b.latch := rfl
@[simp] theorem Block.store_evq (a : Nat) (l : List Byte) : (b.store a l).evq = b.evq := rfl
@[simp] theorem Block.store_limits (a : Nat) (l : List Byte) : (b.store a l).limits = b.limits := rfl
@[simp] theorem Block.store_resp (a : Nat) (l : List Byte) : (b.store a l).resp = b.resp := rfl
@[simp] theorem Block.store_out (a : Nat) (l : List Byte) : (b.store a l).out = b.out := rfl
@[simp] theorem Block.store_newPtp (a : Nat) (l : List Byte) : (b.store a l).newPtp = b.newPtp := rfl
@[simp] theorem Block.store_clkReset (a : Nat) (l : List Byte) : (b.store a l).clkReset = b.clkReset := rfl
@[simp] theorem Block.store_free (a : Nat) (l : List Byte) : (b.store a l).free = b.free := rfl
@[simp] theorem Block.store_hold (a : Nat) (l : List Byte) : (b.store a l).hold = b.hold := rfl
@[simp] theorem Block.store_tim (a : Nat) (l : List Byte) : (b.store a l).tim = b.tim := rfl
@[simp] theorem Block.store_flkPend (a : Nat) (l : List Byte) : (b.store a l).flkPend = b.flkPend := rfl
@[simp] theorem Block.store_lad (a : Nat) (l : List Byte) : (b.store a l).lad = b.lad := rfl
@[simp] theorem Block.store_ctxs (a : Nat) (l : List Byte) : (b.store a l).ctxs = b.ctxs := rfl
@[simp] theorem Block.store_engs (a : Nat) (l : List Byte) : (b.store a l).engs = b.engs := rfl
@[simp] theorem Block.store_moulds (a : Nat) (l : List Byte) : (b.store a l).moulds = b.moulds := rfl
@[simp] theorem Block.store_comps (a : Nat) (l : List Byte) : (b.store a l).comps = b.comps := rfl
@[simp] theorem Block.store_handed (a : Nat) (l : List Byte) : (b.store a l).handed = b.handed := rfl
@[simp] theorem Block.store_wbs (a : Nat) (l : List Byte) : (b.store a l).wbs = b.wbs := rfl
@[simp] theorem Block.store_slotSince (a : Nat) (l : List Byte) : (b.store a l).slotSince = b.slotSince := rfl
@[simp] theorem Block.store_cruSince (a : Nat) (l : List Byte) : (b.store a l).cruSince = b.cruSince := rfl
@[simp] theorem Block.store_frz (a : Nat) (l : List Byte) : (b.store a l).frz = b.frz := rfl
@[simp] theorem Block.store_fets (a : Nat) (l : List Byte) : (b.store a l).fets = b.fets := rfl
@[simp] theorem Block.store_rsws (a : Nat) (l : List Byte) : (b.store a l).rsws = b.rsws := rfl
@[simp] theorem Block.store_macSince (a : Nat) (l : List Byte) : (b.store a l).macSince = b.macSince := rfl
@[simp] theorem Block.store_panels (a : Nat) (l : List Byte) : (b.store a l).panels = b.panels := rfl
@[simp] theorem Block.store_snapSerial (a : Nat) (l : List Byte) : (b.store a l).snapSerial = b.snapSerial := rfl
@[simp] theorem Block.store_snapAt (a : Nat) (l : List Byte) : (b.store a l).snapAt = b.snapAt := rfl
@[simp] theorem Block.store_encs (a : Nat) (l : List Byte) : (b.store a l).encs = b.encs := rfl
@[simp] theorem Block.store_encSs (a : Nat) (l : List Byte) : (b.store a l).encSs = b.encSs := rfl
@[simp] theorem Block.store_pair (a : Nat) (l : List Byte) : (b.store a l).pair = b.pair := rfl
@[simp] theorem Block.store_heatGen (a : Nat) (l : List Byte) : (b.store a l).heatGen = b.heatGen := rfl
@[simp] theorem Block.store_heatCorr (a : Nat) (l : List Byte) : (b.store a l).heatCorr = b.heatCorr := rfl
@[simp] theorem Block.store_peerReadys (a : Nat) (l : List Byte) : (b.store a l).peerReadys = b.peerReadys := rfl
@[simp] theorem Block.store_peerLosses (a : Nat) (l : List Byte) : (b.store a l).peerLosses = b.peerLosses := rfl
@[simp] theorem Block.store_recent (a : Nat) (l : List Byte) : (b.store a l).recent = b.recent := rfl
@[simp] theorem Block.store_uncorrectable (a : Nat) (l : List Byte) : (b.store a l).uncorrectable = b.uncorrectable := rfl
@[simp] theorem Block.store_selfCheck (a : Nat) (l : List Byte) : (b.store a l).selfCheck = b.selfCheck := rfl
@[simp] theorem Block.store_sprs (a : Nat) (l : List Byte) : (b.store a l).sprs = b.sprs := rfl
@[simp] theorem Block.store_shares (a : Nat) (l : List Byte) : (b.store a l).shares = b.shares := rfl
@[simp] theorem Block.store_lanes (a : Nat) (l : List Byte) : (b.store a l).lanes = b.lanes := rfl
@[simp] theorem Block.store_readied (a : Nat) (l : List Byte) : (b.store a l).readied = b.readied := rfl
@[simp] theorem Block.store_now (a : Nat) (l : List Byte) : (b.store a l).now = b.now := rfl
@[simp] theorem Block.store_raised (a : Nat) (l : List Byte) : (b.store a l).raised = b.raised := rfl
@[simp] theorem Block.store_dram (a : Nat) (l : List Byte) : (b.store a l).dram = b.dram := rfl
@[simp] theorem Block.store_ctl (a : Nat) (l : List Byte) : (b.store a l).ctl = b.ctl := rfl
@[simp] theorem Block.store_log (a : Nat) (l : List Byte) : (b.store a l).log = b.log := rfl
@[simp] theorem Block.store_start (a : Nat) (l : List Byte) : (b.store a l).start = b.start := rfl
@[simp] theorem Block.store_shop (a : Nat) (l : List Byte) : (b.store a l).shop = b.shop := rfl
@[simp] theorem Block.store_jtag (a : Nat) (l : List Byte) : (b.store a l).jtag = b.jtag := rfl
@[simp] theorem Block.store_hot (a : Nat) (l : List Byte) : (b.store a l).hot = b.hot := rfl

/-! ### Block.unstore -/

@[simp] theorem Block.unstore_regs (a n : Nat) : (b.unstore a n).regs = b.regs := rfl
@[simp] theorem Block.unstore_stage (a n : Nat) : (b.unstore a n).stage = b.stage := rfl
@[simp] theorem Block.unstore_pendL (a n : Nat) : (b.unstore a n).pendL = b.pendL := rfl
@[simp] theorem Block.unstore_pendF (a n : Nat) : (b.unstore a n).pendF = b.pendF := rfl
@[simp] theorem Block.unstore_latch (a n : Nat) : (b.unstore a n).latch = b.latch := rfl
@[simp] theorem Block.unstore_evq (a n : Nat) : (b.unstore a n).evq = b.evq := rfl
@[simp] theorem Block.unstore_limits (a n : Nat) : (b.unstore a n).limits = b.limits := rfl
@[simp] theorem Block.unstore_resp (a n : Nat) : (b.unstore a n).resp = b.resp := rfl
@[simp] theorem Block.unstore_out (a n : Nat) : (b.unstore a n).out = b.out := rfl
@[simp] theorem Block.unstore_newPtp (a n : Nat) : (b.unstore a n).newPtp = b.newPtp := rfl
@[simp] theorem Block.unstore_clkReset (a n : Nat) : (b.unstore a n).clkReset = b.clkReset := rfl
@[simp] theorem Block.unstore_free (a n : Nat) : (b.unstore a n).free = b.free := rfl
@[simp] theorem Block.unstore_hold (a n : Nat) : (b.unstore a n).hold = b.hold := rfl
@[simp] theorem Block.unstore_tim (a n : Nat) : (b.unstore a n).tim = b.tim := rfl
@[simp] theorem Block.unstore_flkPend (a n : Nat) : (b.unstore a n).flkPend = b.flkPend := rfl
@[simp] theorem Block.unstore_lad (a n : Nat) : (b.unstore a n).lad = b.lad := rfl
@[simp] theorem Block.unstore_ctxs (a n : Nat) : (b.unstore a n).ctxs = b.ctxs := rfl
@[simp] theorem Block.unstore_engs (a n : Nat) : (b.unstore a n).engs = b.engs := rfl
@[simp] theorem Block.unstore_moulds (a n : Nat) : (b.unstore a n).moulds = b.moulds := rfl
@[simp] theorem Block.unstore_comps (a n : Nat) : (b.unstore a n).comps = b.comps := rfl
@[simp] theorem Block.unstore_handed (a n : Nat) : (b.unstore a n).handed = b.handed := rfl
@[simp] theorem Block.unstore_wbs (a n : Nat) : (b.unstore a n).wbs = b.wbs := rfl
@[simp] theorem Block.unstore_slotSince (a n : Nat) : (b.unstore a n).slotSince = b.slotSince := rfl
@[simp] theorem Block.unstore_cruSince (a n : Nat) : (b.unstore a n).cruSince = b.cruSince := rfl
@[simp] theorem Block.unstore_frz (a n : Nat) : (b.unstore a n).frz = b.frz := rfl
@[simp] theorem Block.unstore_fets (a n : Nat) : (b.unstore a n).fets = b.fets := rfl
@[simp] theorem Block.unstore_rsws (a n : Nat) : (b.unstore a n).rsws = b.rsws := rfl
@[simp] theorem Block.unstore_macSince (a n : Nat) : (b.unstore a n).macSince = b.macSince := rfl
@[simp] theorem Block.unstore_panels (a n : Nat) : (b.unstore a n).panels = b.panels := rfl
@[simp] theorem Block.unstore_snapSerial (a n : Nat) : (b.unstore a n).snapSerial = b.snapSerial := rfl
@[simp] theorem Block.unstore_snapAt (a n : Nat) : (b.unstore a n).snapAt = b.snapAt := rfl
@[simp] theorem Block.unstore_encs (a n : Nat) : (b.unstore a n).encs = b.encs := rfl
@[simp] theorem Block.unstore_encSs (a n : Nat) : (b.unstore a n).encSs = b.encSs := rfl
@[simp] theorem Block.unstore_pair (a n : Nat) : (b.unstore a n).pair = b.pair := rfl
@[simp] theorem Block.unstore_heatGen (a n : Nat) : (b.unstore a n).heatGen = b.heatGen := rfl
@[simp] theorem Block.unstore_heatCorr (a n : Nat) : (b.unstore a n).heatCorr = b.heatCorr := rfl
@[simp] theorem Block.unstore_peerReadys (a n : Nat) : (b.unstore a n).peerReadys = b.peerReadys := rfl
@[simp] theorem Block.unstore_peerLosses (a n : Nat) : (b.unstore a n).peerLosses = b.peerLosses := rfl
@[simp] theorem Block.unstore_recent (a n : Nat) : (b.unstore a n).recent = b.recent := rfl
@[simp] theorem Block.unstore_uncorrectable (a n : Nat) : (b.unstore a n).uncorrectable = b.uncorrectable := rfl
@[simp] theorem Block.unstore_selfCheck (a n : Nat) : (b.unstore a n).selfCheck = b.selfCheck := rfl
@[simp] theorem Block.unstore_sprs (a n : Nat) : (b.unstore a n).sprs = b.sprs := rfl
@[simp] theorem Block.unstore_shares (a n : Nat) : (b.unstore a n).shares = b.shares := rfl
@[simp] theorem Block.unstore_lanes (a n : Nat) : (b.unstore a n).lanes = b.lanes := rfl
@[simp] theorem Block.unstore_readied (a n : Nat) : (b.unstore a n).readied = b.readied := rfl
@[simp] theorem Block.unstore_now (a n : Nat) : (b.unstore a n).now = b.now := rfl
@[simp] theorem Block.unstore_raised (a n : Nat) : (b.unstore a n).raised = b.raised := rfl
@[simp] theorem Block.unstore_dram (a n : Nat) : (b.unstore a n).dram = b.dram := rfl
@[simp] theorem Block.unstore_ctl (a n : Nat) : (b.unstore a n).ctl = b.ctl := rfl
@[simp] theorem Block.unstore_log (a n : Nat) : (b.unstore a n).log = b.log := rfl
@[simp] theorem Block.unstore_start (a n : Nat) : (b.unstore a n).start = b.start := rfl
@[simp] theorem Block.unstore_shop (a n : Nat) : (b.unstore a n).shop = b.shop := rfl
@[simp] theorem Block.unstore_jtag (a n : Nat) : (b.unstore a n).jtag = b.jtag := rfl
@[simp] theorem Block.unstore_hot (a n : Nat) : (b.unstore a n).hot = b.hot := rfl

/-! ### Block.begun -/

@[simp] theorem Block.begun_regs (t : Tick) : (b.begun t).regs = b.regs := rfl
@[simp] theorem Block.begun_stage (t : Tick) : (b.begun t).stage = b.stage := rfl
@[simp] theorem Block.begun_pendL (t : Tick) : (b.begun t).pendL = b.pendL := rfl
@[simp] theorem Block.begun_pendF (t : Tick) : (b.begun t).pendF = b.pendF := rfl
@[simp] theorem Block.begun_latch (t : Tick) : (b.begun t).latch = b.latch := rfl
@[simp] theorem Block.begun_evq (t : Tick) : (b.begun t).evq = b.evq := rfl
@[simp] theorem Block.begun_limits (t : Tick) : (b.begun t).limits = b.limits := rfl
@[simp] theorem Block.begun_resp (t : Tick) : (b.begun t).resp = b.resp := rfl
@[simp] theorem Block.begun_out (t : Tick) : (b.begun t).out = b.out := rfl
@[simp] theorem Block.begun_stores (t : Tick) : (b.begun t).stores = b.stores := rfl
@[simp] theorem Block.begun_newPtp (t : Tick) : (b.begun t).newPtp = b.newPtp := rfl
@[simp] theorem Block.begun_clkReset (t : Tick) : (b.begun t).clkReset = b.clkReset := rfl
@[simp] theorem Block.begun_free (t : Tick) : (b.begun t).free = b.free := rfl
@[simp] theorem Block.begun_hold (t : Tick) : (b.begun t).hold = b.hold := rfl
@[simp] theorem Block.begun_tim (t : Tick) : (b.begun t).tim = b.tim := rfl
@[simp] theorem Block.begun_flkPend (t : Tick) : (b.begun t).flkPend = b.flkPend := rfl
@[simp] theorem Block.begun_lad (t : Tick) : (b.begun t).lad = b.lad := rfl
@[simp] theorem Block.begun_ctxs (t : Tick) : (b.begun t).ctxs = b.ctxs := rfl
@[simp] theorem Block.begun_engs (t : Tick) : (b.begun t).engs = b.engs := rfl
@[simp] theorem Block.begun_moulds (t : Tick) : (b.begun t).moulds = b.moulds := rfl
@[simp] theorem Block.begun_comps (t : Tick) : (b.begun t).comps = b.comps := rfl
@[simp] theorem Block.begun_handed (t : Tick) : (b.begun t).handed = b.handed := rfl
@[simp] theorem Block.begun_wbs (t : Tick) : (b.begun t).wbs = b.wbs := rfl
@[simp] theorem Block.begun_slotSince (t : Tick) : (b.begun t).slotSince = b.slotSince := rfl
@[simp] theorem Block.begun_cruSince (t : Tick) : (b.begun t).cruSince = b.cruSince := rfl
@[simp] theorem Block.begun_frz (t : Tick) : (b.begun t).frz = b.frz := rfl
@[simp] theorem Block.begun_fets (t : Tick) : (b.begun t).fets = b.fets := rfl
@[simp] theorem Block.begun_rsws (t : Tick) : (b.begun t).rsws = b.rsws := rfl
@[simp] theorem Block.begun_macSince (t : Tick) : (b.begun t).macSince = b.macSince := rfl
@[simp] theorem Block.begun_panels (t : Tick) : (b.begun t).panels = b.panels := rfl
@[simp] theorem Block.begun_snapSerial (t : Tick) : (b.begun t).snapSerial = b.snapSerial := rfl
@[simp] theorem Block.begun_snapAt (t : Tick) : (b.begun t).snapAt = b.snapAt := rfl
@[simp] theorem Block.begun_encs (t : Tick) : (b.begun t).encs = b.encs := rfl
@[simp] theorem Block.begun_encSs (t : Tick) : (b.begun t).encSs = b.encSs := rfl
@[simp] theorem Block.begun_pair (t : Tick) : (b.begun t).pair = b.pair := rfl
@[simp] theorem Block.begun_heatGen (t : Tick) : (b.begun t).heatGen = b.heatGen := rfl
@[simp] theorem Block.begun_heatCorr (t : Tick) : (b.begun t).heatCorr = b.heatCorr := rfl
@[simp] theorem Block.begun_peerReadys (t : Tick) : (b.begun t).peerReadys = b.peerReadys := rfl
@[simp] theorem Block.begun_peerLosses (t : Tick) : (b.begun t).peerLosses = b.peerLosses := rfl
@[simp] theorem Block.begun_recent (t : Tick) : (b.begun t).recent = b.recent := rfl
@[simp] theorem Block.begun_uncorrectable (t : Tick) : (b.begun t).uncorrectable = b.uncorrectable := rfl
@[simp] theorem Block.begun_selfCheck (t : Tick) : (b.begun t).selfCheck = b.selfCheck := rfl
@[simp] theorem Block.begun_sprs (t : Tick) : (b.begun t).sprs = b.sprs := rfl
@[simp] theorem Block.begun_shares (t : Tick) : (b.begun t).shares = b.shares := rfl
@[simp] theorem Block.begun_lanes (t : Tick) : (b.begun t).lanes = b.lanes := rfl
@[simp] theorem Block.begun_readied (t : Tick) : (b.begun t).readied = b.readied := rfl
@[simp] theorem Block.begun_dram (t : Tick) : (b.begun t).dram = b.dram := rfl
@[simp] theorem Block.begun_ctl (t : Tick) : (b.begun t).ctl = b.ctl := rfl
@[simp] theorem Block.begun_log (t : Tick) : (b.begun t).log = b.log := rfl
@[simp] theorem Block.begun_start (t : Tick) : (b.begun t).start = b.start := rfl
@[simp] theorem Block.begun_shop (t : Tick) : (b.begun t).shop = b.shop := rfl
@[simp] theorem Block.begun_jtag (t : Tick) : (b.begun t).jtag = b.jtag := rfl
@[simp] theorem Block.begun_hot (t : Tick) : (b.begun t).hot = b.hot := rfl

@[simp] theorem Block.begun_now (t : Tick) : (b.begun t).now = t := rfl
theorem Block.begun_raised (t : Tick) : (b.begun t).raised = if b.now = t then b.raised else [] := rfl
@[simp] theorem Block.reg_begun (t : Tick) (a : Nat) : (b.begun t).reg a = b.reg a := rfl
@[simp] theorem Block.get_begun (t : Tick) (f : Fld) (i j k : Nat) : (b.begun t).get f i j k = b.get f i j k := rfl
@[simp] theorem Block.raise_raised (a : Nat) (v : Word) : (b.raise a v).raised = (a, v) :: b.raised := rfl
@[simp] theorem Block.reg_raise (a : Nat) (v : Word) (x : Nat) : (b.raise a v).reg x = b.reg x := rfl
/-- Setting an event flag sets its bit and remembers that it was set in this cycle (R12). -/
theorem Block.evt_eq (f : Fld) (i j : Nat) :
    b.evt f i j = (b.put f 1 i j).raise (f.at i j) (BitVec.ofNat 32 (2 ^ f.lsb)) := rfl
@[simp] theorem Block.reg_evt (f : Fld) (i j a : Nat) : (b.evt f i j).reg a = (b.put f 1 i j).reg a := rfl
@[simp] theorem Block.get_evt (f g : Fld) (i j x y z : Nat) : (b.evt f i j).get g x y z = (b.put f 1 i j).get g x y z := rfl
@[simp] theorem Block.record_evq (code sev p0 p1 p2 p3 inst : Nat) :
    (b.record code sev p0 p1 p2 p3 inst).evq =
      b.evq ++ [{ code, sev, origin := code / 256 + inst, p0 := BitVec.ofNat 32 p0, p1 := BitVec.ofNat 32 p1,
                  p2 := BitVec.ofNat 32 p2, p3 := BitVec.ofNat 32 p3 }] := rfl
@[simp] theorem Block.store_stores (a : Nat) (l : List Byte) :
    (b.store a l).stores = b.stores ++ [{ addr := a, bytes := l }] := rfl
@[simp] theorem Block.unstore_stores (a n : Nat) :
    (b.unstore a n).stores = b.stores ++ [{ addr := a, erase := n, bytes := [] }] := rfl

/-- Records and stores leave every register as it is. -/
@[simp] theorem Block.reg_record (code sev p0 p1 p2 p3 inst a : Nat) :
    (b.record code sev p0 p1 p2 p3 inst).reg a = b.reg a := rfl
@[simp] theorem Block.get_record (code sev p0 p1 p2 p3 inst : Nat) (f : Fld) (i j k : Nat) :
    (b.record code sev p0 p1 p2 p3 inst).get f i j k = b.get f i j k := rfl
@[simp] theorem Block.reg_store (a : Nat) (l : List Byte) (x : Nat) : (b.store a l).reg x = b.reg x := rfl
@[simp] theorem Block.get_store (a : Nat) (l : List Byte) (f : Fld) (i j k : Nat) :
    (b.store a l).get f i j k = b.get f i j k := rfl

/-! ### Outputs -/

@[simp] theorem Block.emit_regs (o : Output) : (b.emit o).regs = b.regs := by unfold Block.emit; split <;> rfl
@[simp] theorem Block.reg_emit (o : Output) (a : Nat) : (b.emit o).reg a = b.reg a := by simp [Block.reg]
theorem Block.emit_out (o : Output) (h : b.jtag.instr ≠ .extest) : (b.emit o).out = b.out ++ [o] := by
  simp [Block.emit, h]

/-! ### Time passes, and a command acts -/

variable (n : Nat) (f : Clk → Mem → Block → Block)

@[simp] theorem State.pass_mem : (s.pass n).mem = s.mem := by rw [State.pass]
@[simp] theorem State.pass_blk : (s.pass n).blk = s.blk := by rw [State.pass]
@[simp] theorem State.pass_pending : (s.pass n).pending = s.pending := by rw [State.pass]
@[simp] theorem State.act_pending : (s.act f).pending = s.pending := rfl
@[simp] theorem State.act_stores : (s.act f).blk.stores = [] := rfl
@[simp] theorem State.act_newPtp : (s.act f).blk.newPtp = none := rfl
@[simp] theorem State.act_clkReset : (s.act f).blk.clkReset = false := rfl
@[simp] theorem State.act_readied : (s.act f).blk.readied = [] := rfl
theorem State.act_regs : (s.act f).blk.regs = (f s.clk s.mem (s.blk.begun s.clk.steady)).regs := rfl
theorem State.act_reg (a : Nat) :
    (s.act f).blk.reg a = (f s.clk s.mem (s.blk.begun s.clk.steady)).reg a := rfl
theorem State.act_get (x : Fld) (i j k : Nat) :
    (s.act f).blk.get x i j k = (f s.clk s.mem (s.blk.begun s.clk.steady)).get x i j k := rfl
theorem State.act_mem :
    (s.act f).mem = s.mem.puts (f s.clk s.mem (s.blk.begun s.clk.steady)).stores := rfl

/-- Out of reset a command is time passing and then its effect. -/
theorem State.run_live (h : s.blk.hold = .none) : s.run n f = .next ((s.pass n).act f) := by simp [State.run, h]
/-- In reset it does nothing. -/
theorem State.run_held (h : s.blk.hold ≠ .none) : s.run n f = .next s := by simp [State.run, h]
theorem State.runAon_live (h : s.blk.hold ≠ .all) : s.runAon n f = .next ((s.pass n).act f) := by
  simp [State.runAon, h]
theorem State.runAon_held (h : s.blk.hold = .all) : s.runAon n f = .next s := by simp [State.runAon, h]

end Sys2Proof.Machine
end

