-- ==== Sys2Proof/Laws/Access.lean ====
section
/-! SUPPORT. What a write that is let through comes to: the write of one register, and for a register that triggers
something, the trigger. -/

namespace Sys2Proof.Machine

open Sys2Proof

theorem decodeAddr_periph (swap : Bool) (p : Nat) (hp : p < 0x600000) (hw : windowAssigned (p / 0x10000) = true) :
    decodeAddr swap (periphBase + p) = .periph p := by
  have h1 : ¬ periphBase + p < 0x400000 := by unfold periphBase; omega
  have h2 : ¬ (0x10000000 ≤ periphBase + p ∧ periphBase + p < 0x10400000) := by unfold periphBase; omega
  have h3 : ¬ (0x20000000 ≤ periphBase + p ∧ periphBase + p < 0x20800000) := by unfold periphBase; omega
  have h4 : ¬ (0x24000000 ≤ periphBase + p ∧ periphBase + p < 0x24800000) := by unfold periphBase; omega
  have h5 : ¬ (0x28000000 ≤ periphBase + p ∧ periphBase + p < 0x28800000) := by unfold periphBase; omega
  have h6 : 0x40000000 ≤ periphBase + p ∧ periphBase + p < 0x40600000 := by unfold periphBase; omega
  have h7 : periphBase + p - 0x40000000 = p := by unfold periphBase; omega
  simp only [decodeAddr, Bool.and_eq_true, decide_eq_true_eq, if_neg h1, if_neg h2, if_neg h3, if_neg h4, if_neg h5,
    if_pos h6, h7, hw, if_true]

theorem foreignSubmit_of_mayWrite (cls p : Nat) (h : mayWrite cls p = true) : foreignSubmit cls p = false := by
  simp only [mayWrite, Bool.and_eq_true, Bool.not_eq_true'] at h
  exact h.1

theorem writeBarred_of_mayWrite (cls p : Nat) (v : Word) (h : mayWrite cls p = true) : writeBarred cls p v = false := by
  unfold mayWrite at h
  unfold writeBarred wardenField
  by_cases h0 : cls = 0
  · simp [h0]
  · simp only [h0, decide_false, Bool.false_or, Bool.and_eq_true, Bool.not_eq_true', Bool.or_eq_true,
      decide_eq_true_eq] at h
    obtain ⟨-, ⟨h1, h2⟩, h3⟩ := h
    have h4 : (decide (p = F.PWR_DOM_REQ_REQ.addr) && decide (cls ≠ 4)) = false := by
      rcases h3 with h3 | h3
      · simp [h3]
      · simp [h3]
    rw [h1, h4]
    cases hr : regAt p with
    | none => simp
    | some q =>
      obtain ⟨r, ix⟩ := q
      rw [hr] at h2
      have : r.warden = false := by simpa using h2
      simp [this]

/-- Opening a matrix port touches MTX_STAT and the time of the port's last access alone. -/
theorem portOpen_reg (c : Clk) (cls a : Nat) (b : Block) (h : a ≠ F.MTX_STAT_GATED.addr) :
    (portOpen c cls b).reg a = b.reg a := by
  change (b.flag _ _).reg a = _
  simp only [Block.flag, Block.put, Block.reg_setReg, Fld.at, Nat.zero_mul, Nat.add_zero]
  rw [if_neg (Ne.symm h)]

theorem periphOk_portOpen (c : Clk) (b : Block) (k cls w : Nat) (wr : Bool) :
    periphOk (portOpen c k b) cls w wr = periphOk b cls w wr := by
  unfold periphOk Block.get
  rw [portOpen_reg]
  simp only [Fld.at, F.FLK_P_PERM_PERM, F.MTX_STAT_GATED]
  omega

/-- A write that is let through is the write of the register. -/
theorem busWrite_open (c : Clk) (m : Mem) (cls p : Nat) (v : Word) (mr : Option (Byte × Bool)) (w : PortB) (b : Block)
    (hp : p < 0x600000) (hw : windowAssigned (p / 0x10000) = true) (h4 : p % 4 = 0) (hi : issues b cls = true)
    (hok : periphOk b cls (p / 0x10000) true = true) (hm : mayWrite cls p = true) :
    busWrite c m cls (periphBase + p) v mr w b = { regWrite c m cls p v mr (portOpen c cls b) with resp := .done } := by
  have ha : (periphBase + p) % 4 = 0 := by unfold periphBase; omega
  simp only [busWrite, hi, Bool.not_true, Bool.false_eq_true, if_false, decodeAddr_periph _ p hp hw, ha, ne_eq,
    not_true_eq_false, periphWrite, periphOk_portOpen, hok, writeBarred_of_mayWrite cls p v hm, foreignSubmit_of_mayWrite cls p hm]

/-- What a register's row must be for its write to be its trigger and nothing else. -/
def RegRow.triggers (r : RegRow) : Bool :=
  r.act ≠ .plain && r.multi = .none && r.w1c = 0 && r.f = 0 && r.s = 0 && r.o = 0 &&
    BitVec.ofNat 32 (r.rw ||| r.wo) ≠ 0 && r.addr ≠ F.ENC_S_QP_QI.addr && r.addr ≠ F.PAIR_TOKEN_WAIT_PREF.addr &&
    r.addr ≠ F.ETH_DEF_ACTION.addr && r.addr ≠ F.DEC_CTX_CFG_ENTRY.addr && r.addr ≠ F.MEM_CFG_DENSITY.addr &&
    r.addr ≠ F.FET_HEAD_DIM_LEVEL.addr && r.addr ≠ F.CRU_M_CTL_INPUT.addr && r.addr ≠ Rg.DSK_KMAP.addr &&
    r.addr ≠ Rg.DSK_BL.addr

/-- Nothing to flush: the block takes its trigger at once. -/
theorem takeWindow_calm (c : Clk) (m : Mem) (w : Nat) (b : Block) (hw : w ≠ 24)
    (h : ∀ q ∈ b.pendL, q.addr / 0x10000 ≠ w) : takeWindow c m w b = b := by
  have hs : ∀ q ∈ b.pendL, pendFree b w q = false := by
    intro q hq
    have : (q.addr / 0x10000 == w) = false := by simpa using h q hq
    simp [pendFree, this]
  have h1 : b.pendL.filter (pendFree b w) = [] := by
    rw [List.filter_eq_nil_iff]; intro q hq; simp [hs q hq]
  have h2 : (b.pendL.filter fun p => !pendFree b w p) = b.pendL := by
    rw [List.filter_eq_self]; intro q hq; simp [hs q hq]
  simp only [takeWindow, hw, if_false, takePends, h1, h2, lastWrites, List.foldl_nil]

/-- The write of a register that triggers something, with nothing waiting in its window, is the trigger. -/
theorem regWrite_trigger (c : Clk) (m : Mem) (cls p : Nat) (v : Word) (mr : Option (Byte × Bool)) (b : Block)
    (r : RegRow) (ix : List Nat) (hr : regAt p = some (r, ix)) (ht : r.triggers = true) (h6 : p / 0x10000 ≠ 6)
    (h24 : p / 0x10000 ≠ 24) (hpan : isPanelField p = false) (hg : r.l = 0 ∨ governor b p = none)
    (hc : ∀ q ∈ b.pendL, q.addr / 0x10000 ≠ p / 0x10000) :
    regWrite c m cls p v mr b =
      actWrite c m cls r ix p [] (BitVec.ofNat 32 r.l) v mr (b.setReg p (b.reg p)) := by
  simp only [RegRow.triggers, Bool.and_eq_true, decide_eq_true_eq] at ht
  obtain ⟨⟨⟨⟨⟨⟨⟨⟨⟨⟨⟨⟨⟨⟨⟨ha, hm⟩, hw1⟩, hf⟩, hs⟩, ho⟩, hmask⟩, n1⟩, n2⟩, n3⟩, n4⟩, n5⟩, n6⟩, n7⟩, n8⟩, n9⟩ := ht
  have hlock : lockedBits b r ix = 0 := by
    simp [lockedBits, n8, n9, hs, ho]
  have hclear : clearBits r p v b = b := by simp [clearBits, hw1]
  have hign : writeIgnored r v = false := by simp [writeIgnored, n1, n2]
  have hrules : fieldRules r ix p v b = (v, b) := by simp [fieldRules, n4, n5, n6, n7]
  have hmerge : ∀ x y : Word, merge x 0#32 y = x := by
    intro x y
    unfold merge
    rw [show (~~~(0#32 : Word)) = BitVec.allOnes 32 from rfl, BitVec.and_allOnes, BitVec.and_zero, BitVec.or_zero]
  have hflush : flushFor c m p (b.setReg p (b.reg p)) = b.setReg p (b.reg p) := by
    simp only [flushFor, hpan, Bool.false_eq_true, if_false]
    exact takeWindow_calm _ _ _ _ h24 hc
  have hgov : (if r.l = 0 then none else governor b p) = none := by
    rcases hg with hg | hg <;> simp [hg]
  have hlows : lowWords b r p = [] := by simp [lowWords, hm]
  have hfm : fieldMask r = 0 := by simp [fieldMask, hm]
  have h6' : decide (p / 0x10000 = 6) = false := decide_eq_false h6
  have n3' : decide (r.addr = F.ETH_DEF_ACTION.addr) = false := decide_eq_false n3
  have hl' : lockedBits b r ix &&& BitVec.ofNat 32 (r.rw ||| r.wo) = 0#32 := by rw [hlock]; simp
  have hx : ∀ x : Word, decide (x &&& 0#32 ≠ 0) = false := by intro x; simp
  have hz : decide ((0#32 : Word).toNat &&& 0 ≠ 0) = false := rfl
  have hst : (b.stage.filter fun q => !([] : List (Nat × Word)).any fun p => p.1 = q.1) = b.stage := by simp
  have hb : ({ b with stage := b.stage } : Block) = b := rfl
  have hst1 : BitVec.ofNat 32 0 &&& storeMask r = 0#32 := by simp
  have hfm0 : ¬(fieldMask r &&& 0 ≠ 0) := by simp
  have hfl : ¬(fieldMask r &&& r.l ≠ 0) := by simp [hfm]
  have hph : ∀ x : Block, panelHolds x p = false := fun x => by simp [panelHolds, hpan]
  have hact : (decide (r.act = .plain) || (none : Option Nat).isSome) = false := by simp [ha]
  unfold regWrite
  simp only [h6', Bool.false_and, Bool.false_eq_true, if_false, hr, hclear, if_neg hmask, hign, n3', hrules, hl', hm, hfm,
    hlows, hmerge, hx, hz, ite_self, Bool.or_self, hst]
  unfold writeWord
  simp only [hs, ho, Nat.or_zero, if_neg hfm0, if_neg hfl, hst1, Block.store32, hmerge, if_pos hf]
  refine Eq.trans (if_neg ?_) ?_
  · have := hgov
    simp only [hact, hph, Bool.or_self, Bool.false_eq_true, not_false_eq_true, this]
  · exact congrArg _ hflush

/-! ## The commands that write one register -/

/-- A command's effect is determined by what it does at the state it acts on. -/
theorem State.act_congr (s : State) (f g : Clk → Mem → Block → Block)
    (h : f s.clk s.mem (s.blk.begun s.clk.steady) = g s.clk s.mem (s.blk.begun s.clk.steady)) :
    s.act f = s.act g := by
  unfold State.act
  rw [h]

theorem issues_begun (b : Block) (t cls : Nat) : issues (b.begun t) cls = issues b cls := rfl
theorem periphOk_begun (b : Block) (t cls w : Nat) (wr : Bool) :
    periphOk (b.begun t) cls w wr = periphOk b cls w wr := rfl

/-- A write of one register that is let through. -/
theorem State.writeAt_open (s : State) (dt : Nat) (cls : Cls) (p : Nat) (v : Clk → Mem → Block → Word)
    (hw : Writable s cls p) (hp : p < 0x600000) (ha : windowAssigned (p / 0x10000) = true) (h4 : p % 4 = 0) :
    s.run dt (fun c m b => writeAt c m cls p (v c m b) b) =
      .next ((s.pass dt).act fun c m b => { regWrite c m cls p (v c m b) none (portOpen c cls b) with resp := .done }) := by
  obtain ⟨h1, h2, h3, h5⟩ := hw
  rw [State.run_live _ _ _ h1]
  congr 1
  apply State.act_congr
  rw [State.pass_blk]
  exact busWrite_open _ _ _ _ _ _ _ _ hp ha h4 ((issues_begun _ _ _).trans h2) ((periphOk_begun _ _ _ _ _).trans h3) h5

/-- A write of one field that is let through. -/
theorem State.writeField_open (s : State) (dt : Nat) (cls : Cls) (f : Fld) (x i j : Nat) (hw : Writable s cls (f.at i j))
    (hp : f.at i j < 0x600000) (ha : windowAssigned (f.at i j / 0x10000) = true) (h4 : f.at i j % 4 = 0) :
    s.writeField dt cls f x i j =
      .next ((s.pass dt).act fun c m b =>
        { regWrite c m cls (f.at i j) (f.into (rwWord b (f.at i j)) x) none (portOpen c cls b) with resp := .done }) :=
  s.writeAt_open dt cls (f.at i j) (fun _ _ b => f.into (rwWord b (f.at i j)) x) hw hp ha h4

end Sys2Proof.Machine
end

