-- ==== Sys2Proof/Laws/Memory.lean ====
section
/-! SUPPORT. The memories: what a byte reads after a store, and that every store keeps the canonical form. -/

namespace Sys2Proof.Machine

open Sys2Proof

/-- After bytes are written at `a`, an address among them reads its byte, and every other address as before. -/
theorem sparseGet_putBytes (d : Nat → Byte) (m : List Host.Cell) (a : Nat) (l : List Byte) (x : Nat) :
    sparseGet d (putBytes d m a l) x = if a ≤ x ∧ x < a + l.length then l.getD (x - a) 0 else sparseGet d m x := by
  induction l generalizing m a with
  | nil =>
    have : ¬(a ≤ x ∧ x < a + ([] : List Byte).length) := by simp
    simp only [this, if_false]; rfl
  | cons b t ih =>
    simp only [putBytes, ih, sparseGet_put, List.length_cons]
    by_cases h1 : a + 1 ≤ x ∧ x < a + 1 + t.length
    · have h2 : a ≤ x ∧ x < a + (t.length + 1) := by omega
      have h3 : x - a = (x - (a + 1)) + 1 := by omega
      simp [h1, h2, h3]
    · by_cases h2 : a = x
      · subst h2; simp
      · have h3 : ¬(a ≤ x ∧ x < a + (t.length + 1)) := by omega
        rw [if_neg h1, if_neg h2, if_neg h3]

/-- After `n` bytes from `a` are unlisted, they read as an unlisted byte does, and every other address as before. -/
theorem sparseGet_unlist (d : Nat → Byte) (m : List Host.Cell) (a n x : Nat) :
    sparseGet d (unlist m a n) x = if a ≤ x ∧ x < a + n then d x else sparseGet d m x := by
  unfold unlist
  induction m with
  | nil => simp [sparseGet]
  | cons q t ih =>
    obtain ⟨i, v⟩ := q
    rw [List.filter_cons]
    by_cases hi : a ≤ i ∧ i < a + n
    · simp only [hi.1, hi.2, decide_true, Bool.and_self, Bool.not_true, Bool.false_eq_true, if_false, ih, sparseGet]
      by_cases hx : a ≤ x ∧ x < a + n
      · simp [hx]
      · have : i ≠ x := by rintro rfl; exact hx hi
        simp [hx, this]
    · have hb : (!(decide (a ≤ i) && decide (i < a + n))) = true := by
        simp only [Bool.not_eq_true', Bool.and_eq_false_iff, decide_eq_false_iff_not]
        by_cases h : a ≤ i
        · exact .inr fun h' => hi ⟨h, h'⟩
        · exact .inl h
      simp only [hb, if_true, sparseGet, ih]
      by_cases hx : a ≤ x ∧ x < a + n
      · have : i ≠ x := by rintro rfl; exact hi hx
        simp [hx, this]
      · simp [hx]

/-- One byte of the address map after a store. -/
theorem Mem.byte_put (m : Mem) (st : Store) (x : Nat) :
    (m.put st).byte x =
      if st.flash then m.byte x
      else if st.addr ≤ x ∧ x < st.addr + st.bytes.length then st.bytes.getD (x - st.addr) 0
      else if st.addr ≤ x ∧ x < st.addr + st.erase then cellDefault x
      else m.byte x := by
  unfold Mem.put Mem.byte
  split
  · rfl
  · simp only [sparseGet_putBytes, sparseGet_unlist]

/-- One byte of the flash after a store. -/
theorem Mem.flashByte_put (m : Mem) (st : Store) (x : Nat) :
    (m.put st).flashByte x =
      if !st.flash then m.flashByte x
      else if st.addr ≤ x ∧ x < st.addr + st.bytes.length then st.bytes.getD (x - st.addr) 0
      else if st.addr ≤ x ∧ x < st.addr + st.erase then flashDefault x
      else m.flashByte x := by
  unfold Mem.put Mem.flashByte
  cases hf : st.flash
  · simp
  · simp only [sparseGet_putBytes, sparseGet_unlist, if_true, Bool.not_true, Bool.false_eq_true, if_false]

@[simp] theorem Mem.puts_nil (m : Mem) : m.puts [] = m := rfl

theorem Mem.puts_cons (m : Mem) (st : Store) (l : List Store) : m.puts (st :: l) = (m.put st).puts l := rfl

/-- Bytes outside every store of a list read as before. -/
theorem Mem.byte_puts_away (l : List Store) (m : Mem) (x : Nat)
    (h : ∀ st ∈ l, st.flash = false → x < st.addr ∨ st.addr + max st.bytes.length st.erase ≤ x) :
    (m.puts l).byte x = m.byte x := by
  induction l generalizing m with
  | nil => rfl
  | cons st t ih =>
    rw [Mem.puts_cons, ih _ fun q hq => h q (List.mem_cons_of_mem _ hq), Mem.byte_put]
    split
    · rfl
    · have h1 := h st (by simp) (by simp_all)
      have h2 : ¬(st.addr ≤ x ∧ x < st.addr + st.bytes.length) := by omega
      have h3 : ¬(st.addr ≤ x ∧ x < st.addr + st.erase) := by omega
      simp [h2, h3]

theorem putBytes_wf (d : Nat → Byte) (m : List Host.Cell) (a : Nat) (l : List Byte) (h : sparseWf d m = true) :
    sparseWf d (putBytes d m a l) = true := by
  induction l generalizing m a with
  | nil => exact h
  | cons b t ih => exact ih _ _ (sparsePut_wf d m a b h)

theorem unlist_wf (d : Nat → Byte) (m : List Host.Cell) (a n : Nat) (h : sparseWf d m = true) :
    sparseWf d (unlist m a n) = true := by
  rw [sparseWf_iff] at *
  exact ⟨fun q hq => h.1 q (List.mem_filter.1 hq).1, h.2.filter _⟩

/-- A store keeps the canonical form of both memories. -/
theorem Memory.wf_put (m : Mem) (st : Store) (h : Memory.wf m = true) : Memory.wf (m.put st) = true := by
  simp only [Memory.wf, Bool.and_eq_true] at *
  unfold Mem.put
  split
  · exact ⟨h.1, putBytes_wf _ _ _ _ (unlist_wf _ _ _ _ h.2)⟩
  · exact ⟨putBytes_wf _ _ _ _ (unlist_wf _ _ _ _ h.1), h.2⟩

/-- So does a list of stores, and with it every command: a command changes memory by stores only. -/
theorem Memory.wf_puts (l : List Store) (m : Mem) (h : Memory.wf m = true) : Memory.wf (m.puts l) = true := by
  induction l generalizing m with
  | nil => exact h
  | cons st t ih => exact ih _ (Memory.wf_put m st h)

/-- Reset memory has the canonical form. -/
theorem Memory.wf_reset : Memory.wf State.reset.mem = true := rfl

/-- A command's effect on memory is the list of stores that its effect on the blocks made. -/
theorem Memory.wf_act (s : State) (f : Clk → Mem → Block → Block) (h : Memory.wf s.mem = true) :
    Memory.wf (s.act f).mem = true := Memory.wf_puts _ _ h

/-! ## Byte order -/

@[simp] theorem leBytes_length (n v : Nat) : (leBytes n v).length = n := by
  induction n generalizing v with
  | zero => rfl
  | succ n ih => simp [leBytes, ih]

/-- The bytes of a number spell it. -/
theorem ofLe_leBytes (n v : Nat) : ofLe (leBytes n v) = v % 256 ^ n := by
  induction n generalizing v with
  | zero => simp [leBytes, ofLe, Nat.mod_one]
  | succ n ih =>
    simp only [leBytes, ofLe, ih, BitVec.toNat_ofNat]
    rw [show (256 : Nat) ^ (n + 1) = 256 * 256 ^ n from pow_succ' _ _, Nat.mod_mul]

@[simp] theorem beBytes_length (n v : Nat) : (beBytes n v).length = n := by simp [beBytes]

theorem ofBe_beBytes (n v : Nat) : ofBe (beBytes n v) = v % 256 ^ n := by
  simp [ofBe, beBytes, ofLe_leBytes]

end Sys2Proof.Machine
end

