-- ==== Sys2Proof/WellFormed.lean ====
section
/-! DEFINITION. What the medium that carries a command fixes about its operands, beyond what their types say. -/

namespace Sys2Proof

/-- Octets that fit a Sprue frame: at most 9216 (R337). -/
def bodyWf : SprBody → Bool
  | .octets l => l.length ≤ 9216
  | _ => true

/-- A command's operands have the sizes that its medium gives them: a health report of 64 bytes (R300), frames with an
Ethernet header (R323, R495), a source's header of 96 bytes and PTP nanoseconds (R342), Sprue payloads (R337), DRAM writes of
at most 2 KiB (R411), a boundary register of one length (R503). The other rows' operands are bounded by their types. -/
def Instr.wf : Instr → Bool
  | .pairHealth _ report => report.length = 64
  | .macFrameReceive _ _ frame _ => 14 ≤ frame.length
  | .mgtFrameReceive _ bytes _ => 14 ≤ bytes.length
  | .sprueFrameReceive _ _ _ _ _ _ _ body => bodyWf body
  | .peerHead _ _ _ _ _ header _ ns _ => header.length = 96 && ns.toNat < 1000000000
  | .peerEnd _ _ _ _ _ header => header.length = 96
  | .dramRequest _ _ _ _ _ (.write l) => 1 ≤ l.length && l.length ≤ 2048
  | .jtagSamplePreload _ pins load => pins.length = load.length
  | _ => true

end Sys2Proof
end

