-- ==== Sys2Proof/Tests/Slice0.lean ====
section
/-! SUPPORT. The model's own tests: an ill-formed term for each check of WellFormed, and for each statement a state and
operands that meet its hypotheses, clause by clause, with what the spec says comes about there. Expected values come from
the rules cited. -/

set_option Elab.async false

namespace Sys2Proof.Tests

open Sys2Proof Sys2Proof.Machine

/-! ## States for tests -/

/-- The state after reset with its blocks changed. -/
def mk (f : Block → Block) : State := { State.reset with blk := f State.reset.blk }

/-- Fields at values: field, value, first and second instance index. -/
def puts (l : List (Fld × Nat × Nat × Nat)) (b : Block) : Block := l.foldl (fun b q => b.put q.1 q.2.1 q.2.2.1 q.2.2.2) b

/-- A state at a steady time. -/
def later (t : Nat) (s : State) : State := { s with clk := { s.clk with steady := t } }

/-- A state with both clocks at a time. -/
def clocked (sec ns steady : Nat) (s : State) : State := { s with clk := { sec, ns, steady } }

/-- A state with bytes in its memory. -/
def holding (l : List (Nat × List Byte)) (s : State) : State :=
  { s with mem := { s.mem with cells := l.foldl (fun m p => putBytes cellDefault m p.1 p.2) s.mem.cells } }

/-- A state with bytes in its flash. -/
def flashed (l : List (Nat × List Byte)) (s : State) : State :=
  { s with mem := { s.mem with flash := l.foldl (fun m p => putBytes flashDefault m p.1 p.2) s.mem.flash } }

/-- Lower words held in staging. -/
def staged (l : List (Nat × Word)) (b : Block) : Block := { b with stage := l }

/-- A head's raster. -/
def raster (h : Nat) (r : Raster) (b : Block) : Block := { b with tim := { b.tim with rasters := [(h, r)] } }

/-- A 1080-line raster of 1125 lines at 60 Hz (R63). -/
def format60 (h : Nat) (b : Block) : Block :=
  (((((b.put F.TIM_HEAD_VLINES_TOTAL 1125 h).put F.TIM_HEAD_VLINES_ACT 1080 h).put F.TIM_HEAD_VBLANK_VFP 4 h).put
    F.TIM_HEAD_VBLANK_VSY 5 h).put F.TIM_HEAD_RATE_NUM 60 h).put F.TIM_HEAD_RATE_DEN 1 h

/-! ## What a test looks at -/

/-- The registers outside the windows `ws` are unchanged. -/
def sameRegs (ws : List Nat) (s t : State) : Bool :=
  ((s.blk.regs ++ t.blk.regs).map (·.1)).all fun a => ws.contains (a / 0x10000) || t.blk.reg a == s.blk.reg a

/-- Time passed, and neither memory nor a register outside the windows `ws` changed. -/
def within (dt : Nat) (ws : List Nat) (s t : State) : Bool :=
  decide (t.clk = (s.pass dt).clk) && decide (t.mem = s.mem) && sameRegs ws s t

/-- `within`, with nothing recorded and nothing sent. -/
def only (dt : Nat) (ws : List Nat) (s t : State) : Bool :=
  within dt ws s t && decide (t.blk.evq = s.blk.evq) && decide (t.blk.out = s.blk.out)

/-- The codes of the records made. -/
def recs (l : List Nat) (s t : State) : Bool := decide (t.blk.evq.map (·.code) = s.blk.evq.map (·.code) ++ l)

/-- State `s` meets `h`, and command `c` answers a next state of which `k` holds. -/
def runs (c : Instr) (s : State) (h : State → Bool) (k : State → State → Bool) : Bool :=
  h s && match exec c s with
    | .next t => k s t
    | .fault _ => false
    | .refused _ => false

/-- The part is out of reset and nothing is left over. -/
def up (s : State) : Bool := decide (s.blk.hold = .none) && s.blk.quiet

/-- A write by `cls` at offset `p` is let through, and none waits for its window. -/
def let_ (cls p : Nat) (s : State) : Bool := up s && decide (Writable s cls p) && decide (Calm s (p / 0x10000))

/-! ## Well-formedness: an ill-formed term for each check -/

theorem test_wf_health : (Instr.pairHealth 0 (List.replicate 63 0)).wf = false := by decide
theorem test_wf_mac_frame : (Instr.macFrameReceive 0 0 (List.replicate 13 0) true).wf = false := by decide
theorem test_wf_mgt_frame : (Instr.mgtFrameReceive 0 (List.replicate 13 0) 0).wf = false := by decide
theorem test_wf_sprue : (Instr.sprueFrameReceive 0 0 true 9 0 0 0 (.octets (List.replicate 9217 0))).wf = false := by
  decide +kernel
theorem test_wf_peer_head : (Instr.peerHead 0 0 0 0 0 (List.replicate 95 0) 0 0 0).wf = false := by decide
theorem test_wf_peer_head_ns : (Instr.peerHead 0 0 0 0 0 (List.replicate 96 0) 0 1000000000 0).wf = false := by decide
theorem test_wf_peer_end : (Instr.peerEnd 0 0 0 0 0 (List.replicate 97 0)).wf = false := by decide
theorem test_wf_dram_empty : (Instr.dramRequest 0 0 0 0 0 (.write [])).wf = false := by decide
theorem test_wf_dram_long : (Instr.dramRequest 0 0 0 0 0 (.write (List.replicate 2049 none))).wf = false := by decide +kernel
theorem test_wf_jtag : (Instr.jtagSamplePreload 0 [true] []).wf = false := by decide
theorem test_wf_legal : (Instr.pairHealth 0 (List.replicate 64 0)).wf = true := by decide +kernel

/-! ## The step (StepRunsFrontCommand, EveryStepKeepsInvariant) -/

theorem test_step_idle : step State.reset = .next State.reset := rfl
theorem test_step_front : step { State.reset with pending := [.snapshotTake 3 0, .tamper 1] } =
    exec (.snapshotTake 3 0) { State.reset with pending := [.tamper 1] } := rfl
theorem test_step_invariant : (match step { State.reset with pending := [.snapshotTake 250000000 0] } with
    | .next t => decide (Memory.wf t.mem = true) && t.clk.inRange && t.blk.quiet && decide (t.clk.sec = 1) | _ => false) = true := by decide +kernel
theorem test_no_table_bits : decodeTableWord 32 0x1234 = none ∧ State.reset.withFetchWord 32 0x1234 = State.reset := by
  decide

/-! ## Clocks and the servo -/

theorem test_snapshot : runs (.snapshotTake 3 0) (clocked 5 999999990 (7 * nsTick) State.reset)
    (let_ 0 F.TIM_SNAP_TAKE.addr)
    (fun s t => only 3 [4, 2] s t && decide (t.blk.get F.TIM_SNAP_NS_NS = 2 ∧
      t.blk.get F.TIM_SNAP_SEC_LO_SEC_LO = 6 ∧ t.blk.get F.TIM_SNAP_STEADY_LO_STEADY_LO = 19)) = true := by decide +kernel

/-- A set at the largest nanoseconds the clock holds, while the servo is locked. -/
theorem test_ptp_set : runs (.ptpSet 1 0 1) (mk fun b => staged [(F.TIM_SET_NS_NS.addr, 999999999),
      (F.TIM_SET_SEC_LO_SEC_LO.addr, 7)] (b.put F.TIM_STAT_SRV srvLocked))
    (let_ 0 F.TIM_SET_SEC_HI_SEC_HI.addr)
    (fun s t => decide (t.clk.sec = 7 + 2 ^ 32 ∧ t.clk.ns = 999999999 ∧ t.clk.frac = 0 ∧ t.clk.steady = 4 * nsTick ∧
      t.blk.get F.TIM_STEP_CNT_CNT = 1 ∧ t.blk.get F.TIM_STAT_STEP_GEN = 1 ∧ t.blk.get F.TIM_STAT_SRV = srvAcquire ∧
      t.blk.on F.TIM_EVT_STEP = true ∧ t.blk.get F.TIM_LAST_STEP_LO_STEP_LO = ((7 + 2 ^ 32) * 1000000000 + 999999995) % 2 ^ 32)
      && recs [0x0401] s t && sameRegs [4, 2] s t) = true := by decide +kernel
theorem test_ptp_set_ignored : runs (.ptpSet 1 0 1) (mk (staged [(F.TIM_SET_NS_NS.addr, 1000000000),
      (F.TIM_SET_SEC_LO_SEC_LO.addr, 7)]))
    (let_ 0 F.TIM_SET_SEC_HI_SEC_HI.addr)
    (fun s t => only 1 [4, 2] s t && t.blk.on F.TIM_EVT_WIGN && decide (t.blk.get F.TIM_STEP_CNT_CNT = 0)) = true := by decide +kernel

/-- A servo in acquisition: KP 256 (1), KI 128 (1/2), an offset of −100 ns (R57). -/
def case_servo_update : Bool := runs (.servoUpdate 1 0 0xFFFFFFFF)
    (clocked 9 0 0 (mk fun b => staged [(F.TIM_SRV_OFS_LO_OFS_LO.addr, 0xFFFFFF9C)]
      ((((((b.put F.TIM_CTL_SRV_EN 1).put F.TIM_STAT_SRV srvAcquire).put F.TIM_SRV_STEP_THRESH 100).put
        F.TIM_SRV_GAIN_ACQ_KP 256).put F.TIM_SRV_GAIN_ACQ_KI 128).put F.TIM_SRV_RLIM_RLIM 1000)))
    (fun s => let_ 0 F.TIM_SRV_OFS_HI_OFS_HI.addr s && s.blk.on F.TIM_CTL_SRV_EN && !s.blk.on F.TIM_CTL_HOLD)
    (fun s t => within 1 [4, 2] s t && decide (t.blk.geti F.TIM_SRV_INTEG_INTEG = -50 ∧ t.blk.geti F.TIM_RATE_RATE = 150))
/-- One nanosecond more than the threshold is a step. -/
def case_servo_step : Bool := runs (.servoUpdate 0 0 0)
    (clocked 9 500 0 (mk fun b => staged [(F.TIM_SRV_OFS_LO_OFS_LO.addr, 101)]
      (((b.put F.TIM_CTL_SRV_EN 1).put F.TIM_STAT_SRV srvLocked).put F.TIM_SRV_STEP_THRESH 100)))
    (let_ 0 F.TIM_SRV_OFS_HI_OFS_HI.addr)
    (fun s t => decide (t.clk.ns = 399 ∧ t.clk.sec = 9 ∧ t.blk.get F.TIM_STAT_SRV = srvAcquire) && recs [0x0401] s t)
def case_servo_held : Bool := runs (.servoUpdate 1 0 0)
    (mk fun b => staged [(F.TIM_SRV_OFS_LO_OFS_LO.addr, 101)] ((b.put F.TIM_CTL_SRV_EN 1).put F.TIM_CTL_HOLD 1))
    (let_ 0 F.TIM_SRV_OFS_HI_OFS_HI.addr)
    (fun s t => only 1 [4, 2] s t && t.blk.on F.TIM_EVT_WIGN)
theorem test_of_servo_update : case_servo_update = true := by
  decide +kernel
theorem test_of_servo_update_more : (case_servo_step && case_servo_held) = true := by
  decide +kernel

theorem test_servo_enable : runs (.servoEnableWrite 1 0 true) (mk fun b => b.put F.TIM_CTL_HOLD 1)
    (let_ 0 F.TIM_CTL_SRV_EN.addr)
    (fun _ t => decide (t.blk.get F.TIM_STAT_SRV = srvHoldover)) = true := by decide +kernel
theorem test_servo_disable : runs (.servoEnableWrite 1 0 false)
    (mk fun b => (b.put F.TIM_CTL_SRV_EN 1).put F.TIM_STAT_SRV srvLocked) (let_ 0 F.TIM_CTL_SRV_EN.addr)
    (fun _ t => decide (t.blk.get F.TIM_STAT_SRV = srvFree) && !t.blk.on F.TIM_CTL_SRV_EN) = true := by decide +kernel
theorem test_servo_hold : runs (.servoHoldWrite 1 0 true)
    (mk fun b => (b.put F.TIM_CTL_SRV_EN 1).put F.TIM_STAT_SRV srvAcquire) (let_ 0 F.TIM_CTL_SRV_EN.addr)
    (fun _ t => decide (t.blk.get F.TIM_STAT_SRV = srvHoldover) && t.blk.on F.TIM_CTL_HOLD) = true := by decide +kernel
theorem test_master_change : runs (.masterChange 1 0) (mk fun b => b.put F.TIM_STAT_SRV srvLocked)
    (let_ 0 F.TIM_MASTER_NEW.addr)
    (fun s t => recs [0x0404] s t && decide (t.blk.get F.TIM_STAT_SRV = srvAcquire)) = true := by decide +kernel
theorem test_master_ignored : runs (.masterChange 1 0) (mk id) (let_ 0 F.TIM_MASTER_NEW.addr)
    (fun s t => only 1 [4, 2] s t && t.blk.on F.TIM_EVT_WIGN) = true := by decide +kernel
/-- 250 cycles are 1 µs; HOLD_MS is 1. -/
theorem test_holdover : runs (.holdoverTimeout 250000)
    (mk fun b => (b.put F.TIM_STAT_SRV srvLocked).put F.TIM_SRV_HOLD_HOLD_MS 1) up
    (fun s t => recs [0x0402] s t && decide (t.blk.get F.TIM_STAT_SRV = srvHoldover) && t.blk.on F.TIM_EVT_HOLD_IN) = true := by decide +kernel
theorem test_holdover_early : runs (.holdoverTimeout 249999)
    (mk fun b => (b.put F.TIM_STAT_SRV srvLocked).put F.TIM_SRV_HOLD_HOLD_MS 1) up
    (fun s t => only 249999 [] s t) = true := by decide +kernel

/-! ## Rasters -/

/-- A(0) + OFS lies 200 µs ahead at the last instant that keeps it: the target is 0; R64 holds with one back porch line. -/
theorem test_head_enable : runs (.headEnable 0 0 63) (clocked 1 0 0 (mk fun b => (format60 63 b).put F.TIM_HEAD_VBLANK_VSY 40 63))
    (fun s => let_ 0 (F.TIM_HEAD_CTL_EN.at 63) s && (s.blk.ras 63).phase == .stopped)
    (fun s t => only 0 [4, 2] s t && t.blk.on F.TIM_HEAD_CTL_EN 63 && t.blk.on F.TIM_HEAD_STAT_RUN 63 &&
      t.blk.on F.TIM_HEAD_STAT_WAIT 63 && decide ((t.blk.ras 63).phase = .idle ∧ (t.blk.ras 63).target = 61)) = true := by decide +kernel
theorem test_head_refused : runs (.headEnable 0 0 63) (mk fun b => (format60 63 b).put F.TIM_HEAD_VBLANK_VSY 41 63)
    (let_ 0 (F.TIM_HEAD_CTL_EN.at 63))
    (fun s t => recs [0x0408] s t && !t.blk.on F.TIM_HEAD_CTL_EN 63 && t.blk.on F.TIM_EVT_FMT_ERR &&
      decide ((t.blk.ras 63).phase = .stopped)) = true := by decide +kernel
theorem test_head_disable : runs (.headDisable 0 0 0)
    (mk fun b => raster 0 { phase := .running } ((format60 0 b).put F.TIM_HEAD_CTL_EN 1)) (let_ 0 (F.TIM_HEAD_CTL_EN.at 0))
    (fun s t => only 0 [4, 2] s t && !t.blk.on F.TIM_HEAD_CTL_EN 0 && (t.blk.ras 0).stopping &&
      decide ((t.blk.ras 0).phase = .running)) = true := by decide +kernel
theorem test_head_disable_idle : runs (.headDisable 0 0 0)
    (mk fun b => raster 0 { phase := .idle } ((format60 0 b).put F.TIM_HEAD_CTL_EN 1)) (let_ 0 (F.TIM_HEAD_CTL_EN.at 0))
    (fun s t => only 0 [4, 2] s t && decide ((t.blk.ras 0).phase = .stopped)) = true := by decide +kernel

set_option maxRecDepth 100000 in
/-- ACT 0 at A(60) exactly. -/
theorem test_first_frame : runs (.headFirstFrame 0 0)
    (clocked 1 0 0 (mk fun b => raster 0 { phase := .idle, target := 60 } (format60 0 b)))
    (fun s => up s && decide (s.blk.pendL = []) && !s.blk.pairMode && (s.blk.fmt 0).reached s.clk 60)
    (fun _ t => decide (t.blk.frameOf 0 = 0 ∧ t.blk.aidxOf 0 = 60 ∧ t.blk.get F.TIM_HEAD_PHASE_E 0 = 0 ∧
      (t.blk.ras 0).phase = .running) && !t.blk.on F.TIM_HEAD_STAT_SLEW 0) = true := by decide +kernel
/-- ACT 0 comes 1 ns after A(61): 16,666,667 ns after the frame before; the next frame is shortened (R70). -/
def case_frame_start : Bool := runs (.frameStart 0 0)
    (clocked 1 16666667 16666667000000000000000 (mk fun b => raster 0 { phase := .running }
      ((format60 0 b).put F.TIM_HEAD_AIDX_LO_AIDX_LO 60)))
    (fun s => up s && decide (s.blk.pendL = []) && !s.blk.pairMode && lineReached (s.blk.fmt 0) (s.blk.ras 0) s.clk.steady 1125)
    (fun _ t => decide (t.blk.frameOf 0 = 1 ∧ t.blk.aidxOf 0 = 61 ∧ t.blk.get F.TIM_HEAD_PHASE_E 0 = 0 ∧
      (t.blk.ras 0).phase = .running))
def case_frame_stop : Bool := runs (.frameStart 0 0)
    (later (17 * msTick) (mk fun b => raster 0 { phase := .running, stopping := true } (format60 0 b))) up
    (fun _ t => decide ((t.blk.ras 0).phase = .stopped) && !t.blk.on F.TIM_HEAD_STAT_RUN 0)
def case_frame_hold : Bool := runs (.frameStart 0 0)
    (later (17 * msTick) (mk fun b => raster 0 { phase := .running, relock := true } (format60 0 b))) up
    (fun _ t => decide ((t.blk.ras 0).phase = .hold ∧ t.blk.frameOf 0 = 0) && t.blk.on F.TIM_HEAD_STAT_WAIT 0)
theorem test_of_frame_start : case_frame_start = true := by
  decide +kernel
theorem test_of_frame_start_more : (case_frame_stop && case_frame_hold) = true := by
  decide +kernel
theorem test_relock_end : runs (.relockHoldEnd 0 0)
    (clocked 1 0 0 (mk fun b => raster 0 { phase := .hold, target := 60 } (format60 0 b)))
    (fun s => up s && (s.blk.fmt 0).reached s.clk 60)
    (fun _ t => decide (t.blk.frameOf 0 = 1 ∧ t.blk.aidxOf 0 = 60) && t.blk.on F.TIM_EVT_RELOCK &&
      t.blk.on F.TIM_HEAD_STAT_RELOCK 0) = true := by decide +kernel
/-- Band 67 of 1080 lines is the last. -/
theorem test_band_tick : runs (.bandTick 0 0 67)
    (later (17 * msTick) (mk fun b => raster 0 { phase := .running } (format60 0 b)))
    (fun s => up s && decide (67 < (s.blk.fmt 0).bands) && lineReached (s.blk.fmt 0) (s.blk.ras 0) s.clk.steady 1072)
    (fun s t => within 0 [] s t && decide ((t.blk.ras 0).ticks = 68)) = true := by decide +kernel
theorem test_pour_mark : runs (.pourMarkUpdate 0 0)
    (later (16 * msTick) (mk fun b => raster 0 { phase := .running }
      (((format60 0 b).put F.FET_PKT_FIDX_LO_F_LO 6).setFet 0 { heat := some 0 })))
    (fun s => up s && lineReached (s.blk.fmt 0) (s.blk.ras 0) s.clk.steady 1080 && commitsBefore s.blk 0 64)
    (fun s t => within 0 [] s t && decide ((t.blk.fet 0).nextG = some 4) && (t.blk.ras 0).poured) = true := by decide +kernel

/-- The last line of ACTIVE, and the fourth decode target. -/
def case_calendar_apply : Bool := runs (.calendarEntryApply 0 0 255 0x30505)
    (mk fun b => staged [(F.TIM_CAL_POS_HEAD.at 255, 0x04370000)] (format60 0 b)) (let_ 0 (F.TIM_CAL_ACT_EN.at 255))
    (fun s t => only 0 [4, 2] s t && decide (t.blk.get F.TIM_CAL_POS_LINE 255 = 1079 ∧ t.blk.get F.TIM_CAL_ACT_EVENT 255 = 5) &&
      t.blk.on F.TIM_CAL_ACT_EN 255)
def case_calendar_line : Bool := runs (.calendarEntryApply 0 0 255 0x30505)
    (mk fun b => staged [(F.TIM_CAL_POS_HEAD.at 255, 0x04380000)] (format60 0 b)) (let_ 0 (F.TIM_CAL_ACT_EN.at 255))
    (fun s t => recs [0x0407] s t && !t.blk.on F.TIM_CAL_ACT_EN 255 && t.blk.on F.TIM_EVT_CAL_ERR)
def case_calendar_target : Bool := runs (.calendarEntryApply 0 0 0 0x105F4)
    (mk fun b => staged [(F.TIM_CAL_POS_HEAD.at 0, 0)] (format60 0 b)) (let_ 0 (F.TIM_CAL_ACT_EN.at 0))
    (fun s t => recs [0x0407] s t && !t.blk.on F.TIM_CAL_ACT_EN 0)
theorem test_of_calendar_entry_apply : case_calendar_apply = true := by
  decide +kernel
theorem test_of_calendar_entry_apply_more : (case_calendar_line && case_calendar_target) = true := by
  decide +kernel
theorem test_calendar_fire : runs (.calendarFire 0 1)
    (later (17 * msTick) (mk fun b => raster 0 { phase := .running, ticks := 1 } ((((((format60 0 b).put F.TIM_CAL_ACT_EN 1 1).put
      F.TIM_CAL_ACT_ONCE 1 1).put F.TIM_CAL_ACT_TARGET 0xF3 1).put F.TIM_CAL_ACT_EVENT 9 1).put F.WDN_CL_CAUSE_PEND 1 3)))
    (fun s => up s && calDue s.clk s.blk 1)
    (fun s t => within 0 [4, 56] s t && !calDue t.clk t.blk 1 && !t.blk.on F.TIM_CAL_ACT_EN 1 &&
      t.blk.on F.WDN_CL_CAUSE_PEND 3 && t.blk.on F.WDN_CL_CAUSE_LOST 3 && decide (t.blk.get F.WDN_CL_CAUSE_EVENT 3 = 9)) = true := by decide +kernel
theorem test_calendar_unarmed : runs (.calendarFire 0 1) (mk id) up (fun s t => only 0 [] s t) = true := by decide +kernel

/-! ## Sources -/

/-- Source 383 of 64 × 16 pixels over ST 2110-20 on path A, with pool 3 of three buffers. -/
def video (b : Block) : Block :=
  puts [(F.LAD_SRC_CTL_TRANSPORT, 2, 383, 0), (F.LAD_SRC_CTL_PATHS, 1, 383, 0), (F.LAD_SRC_CTL_POOL, 3, 383, 0),
    (F.LAD_SRC_FMT_WIDTH, 64, 383, 0), (F.LAD_SRC_FMT_HEIGHT, 16, 383, 0), (F.LAD_SRC_FMT2_RATE_NUM, 60, 383, 0),
    (F.LAD_SRC_FMT2_RATE_DEN, 1, 383, 0), (F.LAD_SRC_RING_RING_A, 16, 383, 0), (F.LAD_SRC_MAXAGE_MAXAGE, 1, 383, 0),
    (F.LAD_POOL_GEOM_COUNT, 3, 3, 0), (F.LAD_POOL_GEOM_BUF_SIZE, 3, 3, 0), (F.LAD_POOL_CFG_PITCH, 512, 3, 0), (F.PWR_DOM_STAT_ON, 2 ^ 31, 0, 0)] b

/-- It runs, and its hidden state is `x`. -/
def running (x : SrcSt) (b : Block) : Block := ((video b).put F.LAD_SRC_STAT_RUN 1 383).setSrc 383 x

/-- The Flask grants every class the first MiB of DRAM, where pool `p` lies. -/
def pooled (p : Nat) (b : Block) : Block :=
  puts [(F.FLK_D_BASE_BASE, 0x1000, 0, 0), (F.FLK_D_LIMIT_LIMIT, 0x1000, 0, 0), (F.FLK_D_PERM_PERM, 0xFFFFF, 0, 0),
    (F.FLK_D_CFG_EN, 1, 0, 0), (F.MEM_STAT_READY, 1, 0, 0), (F.LAD_POOL_BASE_HI_BASE_HI, 1, p, 0)] b

/-- An ST 2110-20 packet of one run of two pixels. -/
def packet (n : Nat) : SrcPacket :=
  { path := false, seq := BitVec.ofNat 32 n, ssrc := 0, marker := false, rtpts := 900, payload := [0, 0],
    runs := [{ row := 0, x := 62, px := [[1, 2, 3], [4]] }], layout := 0, full := false }

/-- An open frame of numbers 5 to 8. -/
def openFrame : OpenFrame :=
  { number := 41, rtpts := 900, first := 5, last := some 8, seq := 5, path := false, ageBase := 77, arrival := 0, stamp := 0,
    gen := 0, known := true, buf := some 2, dropped := false, lost := [], complete := none, awaits := false, repaired := false }

/-- Buffer 0 alone is FREE. -/
def oneFree (b : Block) : Block := (b.setBuf (bufKey 3 1) { state := .held }).setBuf (bufKey 3 2) { state := .held }

/-- A number beyond the next: a gap of one. -/
def case_packet_next : Bool := runs (.ladlePacket 1 383 (.media (packet 12)))
    (mk fun b => oneFree (running { highest := some 10, lowest := some (5, 0), nextFirst := some 5 } b))
    (fun s => up s && s.blk.domOn 31 && s.blk.srcRuns 383 && decide ((s.blk.src 383).refused = false ∧ s.blk.srcHeight 383 = 16 ∧
      s.blk.srcWidth 383 = 64))
    (fun _ t => decide ((t.blk.src 383).highest = some 12 ∧ (t.blk.src 383).gaps.map (fun g => (g.lo, g.n)) = [(11, 1)] ∧
      (t.blk.src 383).held.map (·.ext) = [12]) && t.blk.on F.LAD_SRC_STAT_PATH_A 383)
/-- 2³¹ − 1 beyond the highest is the last number that still counts as later. -/
def case_packet_far : Bool := runs (.ladlePacket 1 383 (.media (packet 0x8000000A)))
    (mk fun b => oneFree (running { highest := some 11, lowest := some (5, 0), nextFirst := some 5 } b)) up
    (fun _ t => decide ((t.blk.src 383).highest = some 0x8000000A))
def case_packet_copy : Bool := runs (.ladlePacket 1 383 (.media (packet 5)))
    (mk (running { highest := some 4100, lowest := some (5, 0), nextFirst := some 5 })) up
    (fun s t => within 1 [24] s t && decide ((t.blk.src 383).held = [] ∧ (t.blk.src 383).highest = some 4100) &&
      t.blk.on F.LAD_SRC_STAT_PATH_A 383)
def case_packet_late : Bool := runs (.ladlePacket 1 383 (.media (packet 4)))
    (mk (running { highest := some 4100, lowest := some (4, 0), nextFirst := some 4 })) up
    (fun s t => decide (t.blk.src 383 = { s.blk.src 383 with lastA := 4 * nsTick } ∧ t.blk.get F.LAD_SRC_LOSS_LATE 383 = 1))
def case_packet_stopped : Bool := runs (.ladlePacket 1 383 (.media (packet 4))) (mk video) (fun s => up s && !s.blk.srcRuns 383)
    (fun s t => only 1 [] s t && decide (t.blk.src 383 = s.blk.src 383))
theorem test_of_ladle_packet : case_packet_next = true := by
  decide +kernel
theorem test_of_ladle_packet_more : (case_packet_far && case_packet_copy && case_packet_late && case_packet_stopped) = true := by
  decide +kernel

/-- A gap of 20 and 21, whose wait of 2 µs ends at 500 cycles. -/
def gapped (repair : Bool) (b : Block) : Block :=
  running { highest := some 30, lowest := some (5, 0), gaps := [{ lo := 20, n := 2, since := 0, repair }] }
    (puts [(F.LAD_MERGE_SKEW, 2, 0, 0), (F.LAD_MERGE_REPAIR_WAIT, 2, 0, 0)] b)

theorem test_skew_lost : runs (.mergeSkewExpiry 500 383 20) (mk (gapped false)) (fun s => up s && !s.blk.paired)
    (fun s t => within 500 [24] s t && decide (t.blk.get F.LAD_SRC_LOSS_LOST 383 = 1 ∧ (t.blk.src 383).lostNums = [20] ∧
      (t.blk.src 383).gaps.map (fun g => (g.lo, g.n)) = [(21, 1)])) = true := by decide +kernel
theorem test_skew_repair : runs (.mergeSkewExpiry 500 383 21)
    (mk fun b => puts [(F.PAIR_CFG_MODE, 1, 0, 0), (F.PAIR_STAT_LINK, 1, 0, 0)] (gapped false b))
    (fun s => up s && s.blk.paired)
    (fun _ t => decide (t.blk.get F.PAIR_REPAIR_REQ = 1 ∧
      { lo := 21, n := 1, since := 2 * usTick, repair := true } ∈ (t.blk.src 383).gaps)) = true := by decide +kernel
theorem test_repair_lost : runs (.repairWaitExpiry 500 383 21) (mk (gapped true)) up
    (fun _ t => decide (t.blk.get F.PAIR_REPAIR_NONE = 1 ∧ (t.blk.src 383).lostNums = [21])) = true := by decide +kernel
theorem test_path_loss : runs (.pathLoss 250000 383 false)
    (mk fun b => puts [(F.LAD_MERGE2_PATH_LOSS, 1, 0, 0), (F.LAD_SRC_STAT_PATH_A, 1, 383, 0)] (running {} b)) up
    (fun s t => recs [0x1803] s t && !t.blk.on F.LAD_SRC_STAT_PATH_A 383 && t.blk.srcRuns 383) = true := by decide +kernel
theorem test_source_late : runs (.sourceLate 250000 383) (mk (running {})) up
    (fun s t => recs [0x1802] s t && t.blk.on F.LAD_EVT_LATE && (t.blk.src 383).lateSeen) = true := by decide +kernel

theorem test_frame_complete : runs (.frameComplete 1 383)
    (mk (running { highest := some 8, frames := [openFrame], gaps := [{ lo := 9, n := 1, since := 0, repair := false }] }))
    (fun s => up s && !s.blk.paired)
    (fun s t => only 1 [] s t && decide ((t.blk.src 383).frames.map (fun f => (f.number, f.complete, f.lost)) =
      [(41, some (4 * nsTick), [])])) = true := by decide +kernel
theorem test_frame_lossy : runs (.frameComplete 1 383)
    (mk (running { highest := some 9, frames := [openFrame], lostNums := [8, 9] })) up
    (fun s t => recs [0x1804] s t && t.blk.on F.LAD_EVT_LOSS && decide ((t.blk.src 383).lostNums = [9] ∧
      (t.blk.src 383).frames.map (·.lost) = [[8]])) = true := by decide +kernel
/-- Buffer 2 becomes READY; buffer 0, which nothing uses, becomes FREE, and buffer 1 stays as it is. -/
theorem test_frame_ready : runs (.frameReady 1 383)
    (mk fun b => ((pooled 3 (running { frames := [{ openFrame with complete := some 0 }] } b)).setBuf (bufKey 3 0)
      { state := .ready, src := 383 }).setBuf (bufKey 3 2) { state := .filling, src := 383 })
    (fun s => up s && !s.blk.paired && decide (s.blk.readyBuf 3 = some 0))
    (fun _ t => decide ((t.blk.buf (bufKey 3 2)).state = .ready ∧ (t.blk.buf (bufKey 3 2)).frame = 41 ∧
      (t.blk.buf (bufKey 3 2)).ageBase = 77 ∧ (t.blk.buf (bufKey 3 0)).state = .free ∧
      t.blk.get F.LAD_SRC_STAT_NEWEST 383 = 2 ∧ (t.blk.src 383).frames = [])) = true := by decide +kernel
theorem test_frame_held : runs (.frameReady 1 383)
    (mk fun b => holdBuf (bufKey 3 0) (((pooled 3 (running { frames := [{ openFrame with complete := some 0 }] } b)).setBuf (bufKey 3 0)
      { state := .ready, src := 383 }).setBuf (bufKey 3 2) { state := .filling, src := 383 })) up
    (fun _ t => decide ((t.blk.buf (bufKey 3 0)).state = .held)) = true := by decide +kernel

def case_source_enable : Bool := runs (.sourceEnable 1 0 383) (mk video)
    (fun s => let_ 0 (F.LAD_SRC_CTL_EN.at 383) s && decide (srcRefusal s.blk 383 = 0))
    (fun _ t => t.blk.srcRuns 383 && decide (t.blk.src 383 = { lastReady := 4 * nsTick, lastA := 4 * nsTick, lastB := 4 * nsTick }))
/-- 61 frames in 1 s are more than 60 Hz. -/
def case_source_fast : Bool := runs (.sourceEnable 1 0 383) (mk fun b => (video b).put F.LAD_SRC_FMT2_RATE_NUM 61 383)
    (let_ 0 (F.LAD_SRC_CTL_EN.at 383))
    (fun s t => recs [0x1807] s t && !t.blk.srcRuns 383 && !t.blk.on F.LAD_SRC_CTL_EN 383 && t.blk.on F.LAD_EVT_CFG_ERR &&
      decide (t.blk.evq.map (·.p3) = s.blk.evq.map (·.p3) ++ [0x0C]))
def case_source_transport : Bool := runs (.sourceEnable 1 0 0) (mk fun b => b.put F.LAD_SRC_CTL_TRANSPORT 4 0)
    (let_ 0 (F.LAD_SRC_CTL_EN.at 0))
    (fun s t => recs [0x1807] s t && decide (t.blk.evq.map (·.p3) = s.blk.evq.map (·.p3) ++ [0x05]))
theorem test_of_source_enable : case_source_enable = true := by
  decide +kernel
theorem test_of_source_enable_more : (case_source_fast && case_source_transport) = true := by
  decide +kernel
theorem test_source_disable : runs (.sourceDisable 1 0 383)
    (mk fun b => (running { highest := some 4 } b).put F.LAD_SRC_STAT_ACQ 1 383) (let_ 0 (F.LAD_SRC_CTL_EN.at 383))
    (fun _ t => !t.blk.srcRuns 383 && !t.blk.on F.LAD_SRC_STAT_ACQ 383 &&
      decide (t.blk.get F.LAD_SRC_STAT_CLASS 383 = 2 ∧ t.blk.src 383 = {})) = true := by decide +kernel
theorem test_ring_tail : runs (.ringTailWrite 1 0 255 0x1FFFF)
    (mk fun b => puts [(F.SPR_K_RING_TXR, 1, 0, 0), (F.SPR_K_RING_TXR, 2, 1, 0), (F.SPR_K_RING_TXR, 3, 2, 0)] b)
    (fun s => let_ 0 (F.LAD_RING_TAIL_TAIL.at 255) s && !ringDecoded s.blk 255)
    (fun s t => only 1 [24, 2] s t && decide (t.blk.get F.LAD_RING_TAIL_TAIL 255 = 0xFFFF)) = true := by decide +kernel
theorem test_ring_decoded : runs (.ringTailWrite 1 0 16 5) (mk fun b => (running {} b).put F.LAD_SRC_CTL_TRANSPORT 1 383)
    (fun s => let_ 0 (F.LAD_RING_TAIL_TAIL.at 16) s && ringDecoded s.blk 16)
    (fun s t => only 1 [24, 2] s t && t.blk.on F.LAD_EVT_WIGN && decide (t.blk.get F.LAD_RING_TAIL_TAIL 16 = 0)) = true := by decide +kernel

/-! ## Decode -/

/-- Engine 7 runs with context 63, decoded last, bound to the compressed source 383, in state `st`. -/
def decoding (st : Nat) (x : DecCtx) (b : Block) : Block :=
  puts [(F.DEC_STAT_RUN, 1, 7, 0), (F.DEC_CTL_EN, 1, 7, 0), (F.DEC_CTX_STAT_STATE, st, 7, 63), (F.LAD_SRC_CTL_TRANSPORT, 1, 383, 0),
    (F.DEC_WDOG_AU_US, 2, 7, 0)]
    (((running { frames := [{ openFrame with complete := some 0, buf := none }] } b).setCtx 7 63 { x with src := 383 }).setEng 7
      { last := some 63 })

/-- A P picture that is referred to, and the unit in decode. -/
def auHead : AuHead := { isRef := true, entry := none, poc := 2, num := 1, output := true, rasl := false }
def decPic (rows : Nat) : DecPic := { ctx := 63, src := 383, frame := 41, buf := 1, head := auHead, start := 0, rows }
def decBusy (rows : Nat) (b : Block) : Block :=
  (((decoding ctxRun { ran := true, set := none } b).put F.DEC_STAT_BUSY 1 7).setEng 7 { pic := some (decPic rows) }).setBuf
    (bufKey 3 1) { state := .filling, src := 383 }

/-- The statement's premises for a unit that context 63 holds. -/
def selectable (s : State) : Bool :=
  up s && (List.range 64).all (fun i => !s.blk.on F.SPR_SH_CFG_EN i) && decide ((selectUnit s.blk 7).map (·.1) = some 63) &&
    (eligibleUnit s.blk 7 63).isSome && !s.blk.on F.DEC_STAT_BUSY 7

def case_unit_select : Bool := runs (.accessUnitSelect 1 7 auHead)
    (mk fun b => oneFree (decoding ctxRun { ran := true } b))
    (fun s => selectable s && decide (s.blk.freeCount 3 ≠ 0 ∧ s.blk.poolCount 3 ≤ 16))
    (fun s t => only 1 [47] s t && t.blk.on F.DEC_STAT_BUSY 7 && decide (t.blk.get F.DEC_STAT_CUR_CTX 7 = 63 ∧
      t.blk.get F.DEC_CTX_FRAME_FRAME 7 63 = 41 ∧ (t.blk.buf (bufKey 3 0)).state = .filling ∧
      (t.blk.buf (bufKey 3 0)).src = 383 ∧ (t.blk.eng 7).pic.isSome))
def case_unit_starved : Bool := runs (.accessUnitSelect 1 7 { auHead with isRef := false })
    (mk fun b => (((decoding ctxRun { ran := true } b).setBuf (bufKey 3 0) { state := .held }).setBuf (bufKey 3 1)
      { state := .held }).setBuf (bufKey 3 2) { state := .held })
    (fun s => selectable s && decide (s.blk.freeCount 3 = 0))
    (fun s t => recs [0x2807] s t && t.blk.on F.DEC_EVT_STARVE 7 && !t.blk.on F.DEC_STAT_BUSY 7 &&
      decide ((t.blk.src 383).frames = []))
def case_unit_waits : Bool := runs (.accessUnitSelect 1 7 auHead) (mk (decoding ctxWait {})) selectable
    (fun s t => within 1 [47, 24] s t && recs [] s t && !t.blk.on F.DEC_STAT_BUSY 7 && decide ((t.blk.src 383).frames = []))
def case_unit_none : Bool := runs (.accessUnitSelect 1 7 auHead) (mk fun b => (decoding ctxRun {} b).put F.DEC_STAT_RUN 0 7) up
    (fun s t => only 1 [] s t)
theorem test_of_access_unit_select : case_unit_select = true := by
  decide +kernel
theorem test_of_access_unit_select_more : (case_unit_starved && case_unit_waits && case_unit_none) = true := by
  decide +kernel

/-- A progressive 8-bit 4:2:0 stream of 64 × 16. -/
def streamSet : StreamSet :=
  { hevc := false, profile := 100, level := 40, tier := false, compat1 := false, compat2 := false, interlaced := false,
    chroma := 1, depthY := 8, depthC := 8, width := 64, height := 16, dpb := 4, reorder := false, ctb := 0, scaling := false }

/-- A macroblock row of two columns. -/
def ctuRow : CtuRow :=
  { activate := none, missing := [], luma := List.replicate 16 [1, 2], cb := List.replicate 8 [3], cr := List.replicate 8 [4],
    concealed := [], syntaxErrs := [], memErrs := [], blocks := [] }

theorem test_row_done : runs (.ctuRowDone 1 7 ctuRow)
    (mk fun b => (decBusy 0 b).setCtx 7 63 { src := 383, ran := true, set := some streamSet }) up
    (fun _ t => decide (t.blk.get F.DEC_CTX_WM_ROWS 7 63 = 1 ∧ ((t.blk.eng 7).pic.map (·.rows)) = some 1)) = true := by decide +kernel
theorem test_unit_done : runs (.accessUnitDone 1 7 { marks := [], outputs := [], hash := none, lost := none })
    (mk fun b => (decBusy 1 b).setCtx 7 63 { src := 383, ran := true, set := some streamSet })
    (fun s => up s && !s.blk.paired)
    (fun _ t => !t.blk.on F.DEC_STAT_BUSY 7 && t.blk.on F.DEC_STAT_RUN 7 && decide ((t.blk.eng 7).pic = none ∧
      (t.blk.buf (bufKey 3 1)).state = .ready ∧ t.blk.get F.LAD_SRC_STAT_NEWEST 383 = 1)) = true := by decide +kernel
theorem test_unit_lost : runs (.accessUnitDone 1 7 { marks := [], outputs := [], hash := none, lost := some 8 }) (mk (decBusy 0)) up
    (fun s t => recs [0x2806] s t && !t.blk.on F.DEC_STAT_BUSY 7 && decide (t.mem = s.mem ∧ (t.blk.eng 7).pic = none)) = true := by decide +kernel
theorem test_decode_watchdog : runs (.decodeWatchdog 500 7 { marks := [], outputs := [], hash := none, lost := none })
    (mk (decBusy 0)) (fun s => up s && (List.range 16).all fun i => decide ((s.blk.buf (bufKey 3 i)).src < 384))
    (fun _ t => t.blk.on F.DEC_EVT_WDOG 7 && !t.blk.on F.DEC_STAT_BUSY 7 && t.blk.evq.any (·.code == 0x2805)) = true := by decide +kernel
theorem test_decode_watchdog_early : runs (.decodeWatchdog 499 7 { marks := [], outputs := [], hash := none, lost := none })
    (mk (decBusy 0)) up (fun s t => only 499 [] s t) = true := by decide +kernel
theorem test_decoder_enable : runs (.decoderEnable 1 0 7) (mk fun b => b.put F.PWR_DOM_STAT_ON (2 ^ 13))
    (fun s => let_ 0 (F.DEC_CTL_EN.at 7) s && s.blk.domOn 13)
    (fun s t => only 1 [47, 2] s t && t.blk.on F.DEC_CTL_EN 7 && t.blk.on F.DEC_STAT_RUN 7) = true := by decide +kernel
theorem test_decoder_stop : runs (.decoderStop 1 0 7)
    (mk (decoding ctxRun { ran := true })) (let_ 0 (F.DEC_CTL_EN.at 7))
    (fun s t => only 1 [47, 2] s t && !t.blk.on F.DEC_STAT_RUN 7 && decide (t.blk.ctxState 7 63 = ctxWait)) = true := by decide +kernel
theorem test_decoder_stop_busy : runs (.decoderStop 1 0 7) (mk (decBusy 0)) (let_ 0 (F.DEC_CTL_EN.at 7))
    (fun s t => only 1 [47, 2] s t && t.blk.on F.DEC_STAT_RUN 7 && !t.blk.on F.DEC_CTL_EN 7 &&
      decide ((t.blk.eng 7).pic = (s.blk.eng 7).pic)) = true := by decide +kernel

/-! ## Composition -/

/-- Head 9 of 96 × 32 pixels runs in slot 15 of Crucible 3, with its Crucible and the Fettler enabled. -/
def scene (b : Block) : Block :=
  raster 9 { phase := .running }
    (puts [(F.TIM_HEAD_VLINES_TOTAL, 125, 9, 0), (F.TIM_HEAD_VLINES_ACT, 32, 9, 0), (F.TIM_HEAD_VBLANK_VFP, 4, 9, 0),
      (F.TIM_HEAD_VBLANK_VSY, 5, 9, 0), (F.TIM_HEAD_RATE_NUM, 60, 9, 0), (F.TIM_HEAD_RATE_DEN, 1, 9, 0),
      (F.TIM_HEAD_STAT_RUN, 1, 9, 0), (F.CRU_HEAD_MAP_EN, 1, 3, 15), (F.CRU_HEAD_MAP_HEAD, 9, 3, 15),
      (F.CRU_HEAD_CFG_WIDTH, 96, 3, 15), (F.CRU_HEAD_CFG_LEAD, 1, 3, 15), (F.CRU_CTL_EN, 1, 3, 0),
      (F.PWR_DOM_STAT_ON, 2 ^ 8 + 2 ^ 9, 0, 0), (F.FET_CTL_EN, 1, 0, 0), (F.FET_HEAD_CTL_EN, 1, 9, 0)] b)

/-- Mould 95 covers the first 10 pixels of band 1. -/
def plated (b : Block) : Block :=
  puts [(F.CRU_M_CTL_EN, 1, 3, 95), (F.CRU_M_CTL_SLOT, 15, 3, 95), (F.CRU_M_ALPHA_PLANE, 255, 3, 95), (F.CRU_M_DST_XY_Y, 16, 3, 95),
    (F.CRU_M_DST_WH_W, 10, 3, 95), (F.CRU_M_DST_WH_H, 16, 3, 95), (F.CRU_M_CROP_WH_W, 10, 3, 95), (F.CRU_M_CROP_WH_H, 16, 3, 95)]
    (scene b)

/-- A band in composition without layers, and as it is handed over. -/
def compBand (band : Nat) : CompBand :=
  { cru := 3, slot := 15, head := 9, width := 96, bg := (1, 2, 3), band, frame := 0, aidx := 0, start := 0, layers := [],
    tags := [{ cls := 3 }, { cls := 3 }], lists := [[], []], failed := [] }
def bandIn (tags : List Tag) (lists : List (List Nat)) : BandIn :=
  { head := 9, band := 1, frame := 0, tags, lists, pixels := List.replicate 16 (List.replicate 96 (0, 0, 0)) }

theorem test_compose_start : runs (.bandComposeStart 0 9 1 []) (mk plated)
    (fun s => up s && decide (s.blk.slotOf 9 = some (3, 15)) && s.blk.slotRuns 3 15 &&
      lineReached (s.blk.fmt 9) (s.blk.ras 9) s.clk.steady 0 && takesNext s.clk s.blk 3 15 1)
    (fun s t => decide (t.clk = (s.pass 0).clk ∧ t.blk.comps.map (fun q => (q.head, q.band, q.layers.map (·.mould))) =
      [(9, 1, [95])] ∧ t.blk.comps.flatMap (fun q => q.tags.map (·.n)) = [1, 0])) = true := by decide +kernel
set_option maxRecDepth 100000 in
theorem test_compose_done : runs (.bandComposeDone 0 9 1)
    (mk fun b => { scene b with comps := [compBand 1] })
    (fun s => up s && s.blk.comps.all fun q => !compLate s.clk s.blk q)
    (fun s t => within 0 [] s t && recs [] s t && decide (t.blk.comps = [] ∧ t.blk.handed.map (fun x => x.band) = [1] ∧
      t.blk.handed.all (fun x => x.pixels.length = 16 ∧
        x.pixels.all fun l => l = List.replicate 96 (1, 2, 3)))) = true := by decide +kernel
set_option maxRecDepth 100000 in
/-- A placement of mould 0 takes effect at VFP 0 of the lead head. -/
theorem test_commit : runs (.commitInstant 0 3 2)
    (later (5 * msTick) (mk fun b => { puts [(F.CRU_GRP_CFG_LEAD, 15, 3, 2), (F.CRU_M_CTL_GROUP, 2, 3, 0),
      (F.TIM_HEAD_FRAME_LO_FRAME_LO, 77, 9, 0)] (scene b) with
        pendF := [{ addr := F.CRU_M_DST_XY_X.at 3 0, mask := 0x3FFF, val := 5 }] }))
    (fun s => up s && lineReached (s.blk.fmt 9) (s.blk.ras 9) s.clk.steady 32)
    (fun s t => only 0 [35] s t && decide (t.blk.pendF = [] ∧ t.blk.get F.CRU_M_DST_XY_X 3 0 = 5 ∧
      t.blk.get F.CRU_GRP_FRAME_FRAME 3 2 = 77)) = true := by decide +kernel
theorem test_commit_early : runs (.commitInstant 0 3 2)
    (mk fun b => { puts [(F.CRU_GRP_CFG_LEAD, 15, 3, 2)] (scene b) with
        pendF := [{ addr := F.CRU_M_DST_XY_X.at 3 0, mask := 0x3FFF, val := 5 }] }) up
    (fun s t => only 0 [] s t && decide (t.blk.pendF.length = 1)) = true := by decide +kernel

/-- LEAD 4 needs more than 64 blanking lines; the slot starts bands from then on. -/
def slotOff (total : Nat) (b : Block) : Block :=
  puts [(F.CRU_HEAD_MAP_EN, 0, 3, 15), (F.CRU_HEAD_CFG_LEAD, 4, 3, 15), (F.TIM_HEAD_VLINES_TOTAL, total, 9, 0)] (scene b)
def case_slot_enable : Bool := runs (.headSlotEnable 0 0 3 15) (mk (slotOff 97))
    (fun s => let_ 0 (F.CRU_HEAD_MAP_EN.at 3 15) s && decide ((slotRefusal s.blk 3 15).1 = 0))
    (fun s t => only 0 [35, 2] s t && t.blk.on F.CRU_HEAD_MAP_EN 3 15)
def case_slot_lead : Bool := runs (.headSlotEnable 0 0 3 15) (mk (slotOff 96)) (let_ 0 (F.CRU_HEAD_MAP_EN.at 3 15))
    (fun s t => within 0 [35, 2] s t && recs [0x2007] s t && !t.blk.on F.CRU_HEAD_MAP_EN 3 15 &&
      decide (t.blk.get F.CRU_HEAD_MAP_REASON 3 15 = 0x11) && t.blk.on F.CRU_EVT_CFG_ERR 3)
def case_slot_width : Bool := runs (.headSlotEnable 0 0 3 15) (mk fun b => (slotOff 97 b).put F.CRU_HEAD_CFG_WIDTH 4098 3 15)
    (let_ 0 (F.CRU_HEAD_MAP_EN.at 3 15))
    (fun s t => recs [0x2007] s t && decide (t.blk.get F.CRU_HEAD_MAP_REASON 3 15 = 0x15))
def case_slot_taken : Bool := runs (.headSlotEnable 0 0 0 0) (mk fun b => (scene b).put F.CRU_HEAD_MAP_HEAD 9 0 0)
    (let_ 0 (F.CRU_HEAD_MAP_EN.at 0 0))
    (fun s t => recs [0x2007] s t && decide (t.blk.get F.CRU_HEAD_MAP_REASON 0 0 = 0x10))
theorem test_of_head_slot_enable : case_slot_enable = true := by
  decide +kernel
theorem test_of_head_slot_enable_more : (case_slot_lead && case_slot_width && case_slot_taken) = true := by
  decide +kernel

/-- A canvas of 128 × 32 in pool 4. -/
def canvas (pitch : Nat) (b : Block) : Block :=
  puts [(F.CRU_WB_CTL_POOL, 4, 3, 0), (F.CRU_WB_CTL_LEAD, 15, 3, 0), (F.CRU_WB_SIZE_W, 128, 3, 0), (F.CRU_WB_SIZE_H, 32, 3, 0),
    (F.LAD_POOL_GEOM_COUNT, 3, 4, 0), (F.LAD_POOL_GEOM_BUF_SIZE, 8, 4, 0), (F.LAD_POOL_CFG_PITCH, pitch, 4, 0),
    (F.CRU_HEAD_WB_IN, 1, 3, 15)] (scene b)
theorem test_writeback_enable : runs (.writebackEnable 0 0 3) (mk (canvas 768))
    (fun s => let_ 0 (F.CRU_WB_CTL_EN.at 3) s && decide (wbRefusal s.blk 3 = 0))
    (fun s t => only 0 [35, 2] s t && t.blk.on F.CRU_WB_STAT_RUN 3 && t.blk.on F.CRU_WB_CTL_EN 3) = true := by decide +kernel
theorem test_writeback_pitch : runs (.writebackEnable 0 0 3) (mk (canvas 512)) (let_ 0 (F.CRU_WB_CTL_EN.at 3))
    (fun s t => within 0 [35, 2] s t && recs [0x2007] s t && !t.blk.on F.CRU_WB_STAT_RUN 3 && !t.blk.on F.CRU_WB_CTL_EN 3) = true := by decide +kernel
def capturing (bands : List (Nat × Nat)) (b : Block) : Block :=
  (canvas 768 b).setWb 3 { frames := [{ aidx := 6, buf := 2, bands, notLive := true }] }
theorem test_capture_ready : runs (.writebackFrameReady 0 3 false) (mk fun b => pooled 4 (capturing [(9, 1), (9, 0)] b)) up
    (fun s t => recs [] s t && decide ((t.blk.wb 3).frames = [] ∧ t.blk.get F.CRU_WB_STAT_BUF 3 = 2 ∧
      (t.blk.buf (bufKey 4 2)).state = .ready ∧ (t.blk.buf (bufKey 4 2)).cls = 1)) = true := by decide +kernel
theorem test_capture_failed : runs (.writebackFrameReady 0 3 true) (mk (capturing [(9, 1)])) up
    (fun s t => within 0 [35] s t && recs [0x2006] s t && decide ((t.blk.wb 3).frames = [] ∧
      (t.blk.buf (bufKey 4 2)).state = .free ∧ t.blk.get F.CRU_WB_STAT_DROPPED 3 = 1)) = true := by decide +kernel

/-! ## Fettler -/

/-- Band 1's check line has come: 15 of 125 lines of 1/60 s are 2 ms. -/
def atCheck (f : Block → Block) : State := later (2 * msTick) (mk fun b => f (scene b))

/-- A live tile; a tile 2 ms old of a source whose limit is 1 ms. -/
def case_verdicts : Bool := runs (.bandCheck 0 9 1 [])
    (atCheck fun b => { b.put F.LAD_SRC_MAXAGE_MAXAGE 1 383 with
      handed := [bandIn [{ cls := 0, oldest := 1000000, n := 1 }, { cls := 0, oldest := 0, n := 1 }] [[383], [383]]] })
    (fun s => up s && s.blk.fetRuns 9 && !s.blk.slagHead 9 && lineReached (s.blk.fmt 9) (s.blk.ras 9) s.clk.steady 15)
    (fun s t => within 0 [36] s t && decide ((t.blk.fet 9).bands.map (fun x => (x.band, x.verdicts, x.slag)) = [(1, [0, 2], false)] ∧
      t.blk.get F.FET_HEAD_STAT_BAND 9 = 1) && !t.blk.on F.FET_HEAD_STAT_NODELIV 9)
def case_verdict_slag_layer : Bool := runs (.bandCheck 0 9 1 [])
    (atCheck fun b => { b with handed := [bandIn [{ cls := 1 }, { cls := 1, dslag := true }] [[], []]] }) up
    (fun _ t => decide ((t.blk.fet 9).bands.map (·.verdicts) = [[1, 3]]))
def case_undelivered : Bool := runs (.bandCheck 0 9 1 []) (atCheck fun b => b.put F.CRU_CTL_EN 0 3 0) up
    (fun s t => within 0 [36] s t && t.blk.on F.FET_HEAD_STAT_NODELIV 9 && t.blk.evq.any (·.code == 0x240B) &&
      decide ((t.blk.fet 9).bands.map (fun x => (x.verdicts, x.slag)) = [([3, 3], false)]))
def case_slag_frame : Bool := runs (.bandCheck 0 9 1 []) (atCheck fun b => b.put F.FET_HEAD_CTL_SLAGFRAME 1 9)
    (fun s => up s && s.blk.slagHead 9)
    (fun s t => within 0 [36] s t && decide ((t.blk.fet 9).bands.map (fun x => (x.verdicts, x.slag)) = [([3, 3], true)]))
set_option maxRecDepth 100000 in
theorem test_of_band_check : case_verdicts = true := by
  decide +kernel
set_option maxRecDepth 100000 in
theorem test_of_band_check_more : (case_verdict_slag_layer && case_undelivered && case_slag_frame) = true := by
  decide +kernel

/-- Window 511 of one line at row 3, whose signature has been taken. -/
def window (exp : Nat) (b : Block) : Block :=
  { puts [(F.FET_RSW_CFG_EN, 1, 511, 0), (F.FET_RSW_CFG_HEAD, 9, 511, 0), (F.FET_RSW_XY_Y, 3, 511, 0), (F.FET_RSW_WH_H, 1, 511, 0),
      (F.FET_RSW_EXP_EXP, exp, 511, 0), (F.FET_RSW_STAT_SLAGGED, 1, 511, 0)] b with
    rsws := [(511, { frame := 1, lines := 1, crc := 0xFFFF0000 })] }
def case_signature_right : Bool := runs (.regionSignatureCompare 0 511) (atCheck (window 0x0000FFFF)) up
    (fun s t => within 0 [36] s t && recs [0x2406] s t && t.blk.on F.FET_RSW_STAT_MATCH 511 && !t.blk.on F.FET_RSW_STAT_SLAGGED 511 &&
      decide (t.blk.get F.FET_RSW_LAST_LAST 511 = 0x0000FFFF))
def case_signature_wrong : Bool := runs (.regionSignatureCompare 0 511) (atCheck (window 0x0001FFFF)) up
    (fun s t => within 0 [36] s t && !t.blk.on F.FET_RSW_STAT_MATCH 511 && t.blk.on F.FET_RSW_STAT_SLAGGED 511 &&
      t.blk.on F.FET_EVT_RSW && decide (t.blk.get F.FET_RSW_STAT_MISS 511 = 1))
def case_signature_off : Bool := runs (.regionSignatureCompare 0 511) (atCheck id) up (fun s t => only 0 [] s t)
theorem test_of_region_signature_compare : case_signature_right = true := by
  decide +kernel
theorem test_of_region_signature_compare_more : (case_signature_wrong && case_signature_off) = true := by
  decide +kernel

/-- A tracked source whose picture has not changed for just more than 2 ms. -/
def tracked (freeze slow : Nat) (ns : Int) (b : Block) : Block :=
  { puts [(F.LAD_SRC_STAT_RUN, 1, 383, 0), (F.FET_FRZ_STAT_TRACK, 1, 383, 0), (F.LAD_SRC_CHANGE_FREEZE, freeze, 383, 0),
      (F.LAD_SRC_CHANGE_CHG_INT, slow, 383, 0)] b with frz := [(383, { tchg := ns, readies := 3 })] }
def case_frozen : Bool := runs (.freezeTick 0) (atCheck (tracked 2 1 (-1))) up
    (fun s t => within 0 [36] s t && t.blk.on F.FET_FRZ_STAT_FROZEN 383 && t.blk.on F.FET_FRZ_STAT_SLOW 383 &&
      t.blk.on F.FET_EVT_FROZEN)
def case_not_frozen : Bool := runs (.freezeTick 0) (atCheck (tracked 2 0 1)) up
    (fun s t => only 0 [36] s t && !t.blk.on F.FET_FRZ_STAT_FROZEN 383 && !t.blk.on F.FET_FRZ_STAT_SLOW 383)
def case_freeze_off : Bool := runs (.freezeTick 0) (atCheck (tracked 0 1 (-1))) up
    (fun s t => within 0 [36] s t && !t.blk.on F.FET_FRZ_STAT_TRACK 383 && !t.blk.on F.FET_FRZ_STAT_SLOW 383)
set_option maxRecDepth 100000 in
theorem test_of_freeze_tick : case_frozen = true := by
  decide +kernel
set_option maxRecDepth 100000 in
theorem test_of_freeze_tick_more : (case_not_frozen && case_freeze_off) = true := by
  decide +kernel

/-- A head that starts no band: its raster is stopped. -/
def still (b : Block) : Block := puts [(F.FET_HEAD_CTL_EN, 0, 9, 0), (F.TIM_HEAD_STAT_RUN, 0, 9, 0)] (scene b)
theorem test_head_check_enable : runs (.fettlerHeadEnable 0 0 9) (mk still)
    (fun s => let_ 0 (F.FET_HEAD_CTL_EN.at 9) s && !headBands s.blk 9 && decide (fetRefusal s.blk 9 = 0))
    (fun s t => only 0 [36, 2] s t && t.blk.on F.FET_HEAD_CTL_EN 9) = true := by decide +kernel
theorem test_head_check_refused : runs (.fettlerHeadEnable 0 0 8) (mk still)
    (fun s => let_ 0 (F.FET_HEAD_CTL_EN.at 8) s && decide (s.blk.slotOf 8 = none))
    (fun s t => within 0 [36, 2] s t && recs [0x2409] s t && !t.blk.on F.FET_HEAD_CTL_EN 8 && t.blk.on F.FET_EVT_CFG_ERR) = true := by decide +kernel
theorem test_rearm : runs (.rearm 0 0 9) (mk fun b => (still b).put F.FET_HEAD_STAT_STOPPED 1 9)
    (fun s => let_ 0 (F.FET_HEAD_CTL_EN.at 9) s && !headBands s.blk 9)
    (fun s t => within 0 [36, 2] s t && recs [0x2408] s t && !t.blk.on F.FET_HEAD_STAT_STOPPED 9) = true := by decide +kernel
theorem test_rearm_running : runs (.rearm 0 0 9) (mk still) (let_ 0 (F.FET_HEAD_CTL_EN.at 9)) (fun s t => only 0 [2] s t) = true := by decide +kernel
theorem test_dim : runs (.dimRequest 0 0 9 2) (mk fun b => (still b).put F.FET_DIM_CFG_AHEAD 3)
    (fun s => let_ 0 (F.FET_HEAD_DIM_REQ.at 9) s && !s.blk.forwards)
    (fun s t => only 0 [36, 2] s t && decide ((t.blk.fet 9).dims = [{ lit := false, target := 3, late := false }])) = true := by decide +kernel
theorem test_dim_none : runs (.dimRequest 0 0 9 3) (mk still) (let_ 0 (F.FET_HEAD_DIM_REQ.at 9))
    (fun s t => only 0 [36, 2] s t && decide ((t.blk.fet 9).dims = [])) = true := by decide +kernel

/-- Band 0, checked and live. -/
def checked : CheckedBand :=
  { band := 0, frame := 0, verdicts := [0, 0], paints := [0, 0], ages := [none, none], eh := false, fell := false,
    pixels := List.replicate 16 (List.replicate 96 (0, 0, 0)), slag := false }

/-- The band of the mark has been checked and sent; the Gray count is 0, so that cell 0 alone is set. -/
def marked (b : Block) : Block :=
  (scene b).setFet 9 { bands := [checked], nextPkt := 1000000 }
def markLines (b : Block) (g : Nat) : List (List Nat) :=
  List.replicate 8 ((List.range 6).flatMap fun cell =>
    (List.replicate 8 (flatSamples b 9 (markColour b (cellSet g cell)))).flatten)
theorem test_readback : runs (.markReadback 0 9 (some (markLines (mk marked).blk 0))) (mk marked)
    (fun s => up s && s.blk.fetRuns 9 && markOk s.blk 9 && markFormed s.blk 9 0 && (s.blk.bandOfRow 9 0).isSome)
    (fun s t => only 0 [36] s t && t.blk.on F.FET_HEAD_RB_MATCH 9) = true := by decide +kernel
theorem test_readback_wrong : runs (.markReadback 0 9 (some (markLines (mk marked).blk 1))) (mk marked) up
    (fun s t => within 0 [36] s t && recs [0x2407] s t && !t.blk.on F.FET_HEAD_RB_MATCH 9 && t.blk.on F.FET_HEAD_STAT_STOPPED 9 &&
      t.blk.on F.FET_EVT_READBACK && decide (t.blk.get F.FET_HEAD_RB_MISMATCH 9 = 1 ∧ t.blk.get F.FET_PKT_STAT_STATE 9 = 4)) = true := by decide +kernel

/-! ## Output -/

/-- Head 9's stream over path A on lane 47, with 48 pgroups of two pixels to the packet and line. -/
def streaming (st : Nat) (link : Nat) (b : Block) : Block :=
  (puts [(F.FET_PKT_STAT_STATE, st, 9, 0), (F.FET_PKT_STAT_LINK_A, link, 9, 0), (F.FET_PKT_CTL_PATHS, 1, 9, 0),
    (F.FET_PKT_CTL_ANC_EN, 1, 9, 0), (F.FET_PKT_FMT_PGRP, 48, 9, 0), (F.FET_PKT_P_MAC_SEL, 47, 9, 0), (F.LNK_L_CTL_MODE, 3, 11, 3), (F.LNK_L_STAT_UP, 1, 11, 3), (F.ETH_M_CTL_EN, 1, 11, 3),
    (F.FET_PKT_FIDX_LO_F_LO, 2, 9, 0), (F.FET_PKT_RTP_PT_V, 96, 9, 0)] (scene b)).setFet 9
      { bands := [{ checked with sealWord := some 5 }], nextPkt := 1 }

/-- The 12 octets of RTP in an Ethernet frame of IPv4 and UDP, and the two of the extended sequence number. -/
def rtpOf (o : Output) : List Byte := match o with
  | .frame _ l => (l.drop 42).take 14
  | _ => []

/-- Packet 1 of frame index 2, of 32 packets: number 65. -/
def case_video_packet : Bool := runs (.videoPacketSend 0 9) (later (2 * msTick) (mk (streaming 2 1)))
    (fun s => up s && s.blk.fetRuns 9 && !s.blk.paired && decide (s.blk.packets 9 = 32) &&
      pixelReached (s.blk.fmt 9) (s.blk.ras 9) s.clk.steady 96 96)
    (fun s t => within 0 [36, 91] s t && recs [] s t && decide ((t.blk.fet 9).nextPkt = 2 ∧ t.blk.get F.ETH_M_TXCNT_TX 11 3 = 1 ∧
      (t.blk.out.map fun o => (rtpOf o).take 4) = [[0x80, 96, 0, 65]]))
def case_video_packet_down : Bool := runs (.videoPacketSend 0 9) (later (2 * msTick) (mk (streaming 2 0))) up
    (fun s t => within 0 [36] s t && decide (t.blk.out = [] ∧ t.blk.get F.FET_PKT_DROP_DROP_A 9 = 1))
def case_video_packet_armed : Bool := runs (.videoPacketSend 0 9) (later (2 * msTick) (mk (streaming 1 1))) up
    (fun s t => only 0 [36] s t && decide ((t.blk.fet 9).nextPkt = 2))
theorem test_of_video_packet_send : case_video_packet = true := by
  decide +kernel
theorem test_of_video_packet_send_more : (case_video_packet_down && case_video_packet_armed) = true := by
  decide +kernel
/-- Band 0's liveness packet of frame index 2, two bands to the frame: number 4. -/
theorem test_liveness_packet : runs (.livenessPacketSend 0 9) (later (4 * msTick) (mk (streaming 2 1)))
    (fun s => up s && s.blk.on F.FET_PKT_CTL_ANC_EN 9 && decide ((s.blk.fmt 9).bands = 2))
    (fun s t => within 0 [36, 91] s t && recs [] s t && decide ((t.blk.fet 9).nextAnc = 1 ∧
      (t.blk.out.map fun o => (rtpOf o).take 4) = [[0x80, 0, 0, 4]])) = true := by decide +kernel

/-- The stream is off and its head starts no band; lane 47 is a 10 Gb/s MAC. -/
def streamOff (b : Block) : Block :=
  puts [(F.FET_PKT_STAT_STATE, 0, 9, 0), (F.FET_HEAD_CTL_EN, 0, 9, 0), (F.TIM_HEAD_STAT_RUN, 0, 9, 0), (F.LNK_L_CTL_MODE, 1, 11, 3)]
    (streaming 0 0 b)
def case_stream_enable : Bool := runs (.streamEnable 0 0 9) (mk streamOff)
    (fun s => let_ 0 (F.FET_PKT_CTL_EN.at 9) s && !headBands s.blk 9 && decide (streamRefusal s.blk 9 = 0))
    (fun s t => only 0 [36, 2] s t && t.blk.on F.FET_PKT_CTL_EN 9 && decide (t.blk.get F.FET_PKT_STAT_STATE 9 = 1))
def case_stream_format : Bool := runs (.streamEnable 0 0 9) (mk fun b => (streamOff b).put F.FET_PKT_FMT_FMT 3 9)
    (let_ 0 (F.FET_PKT_CTL_EN.at 9))
    (fun s t => within 0 [36, 2] s t && recs [0x2416] s t && !t.blk.on F.FET_PKT_CTL_EN 9 && t.blk.on F.FET_PKT_EVT_CFG_ERR &&
      decide (t.blk.get F.FET_PKT_REASON_REASON 9 = 0x10))
def case_stream_no_path : Bool := runs (.streamEnable 0 0 9) (mk fun b => (streamOff b).put F.FET_PKT_CTL_PATHS 0 9)
    (let_ 0 (F.FET_PKT_CTL_EN.at 9))
    (fun s t => recs [0x2416] s t && decide (t.blk.get F.FET_PKT_REASON_REASON 9 = 0x10))
theorem test_of_stream_enable : case_stream_enable = true := by
  decide +kernel
theorem test_of_stream_enable_more : (case_stream_format && case_stream_no_path) = true := by
  decide +kernel
theorem test_path_down : runs (.pathLinkDown 0 9 false) (mk fun b => (streaming 2 1 b).put F.LNK_L_STAT_UP 0 11 3) (fun s => up s && !macUp s.blk 47)
    (fun s t => within 0 [36] s t && recs [0x2413] s t && !t.blk.on F.FET_PKT_STAT_LINK_A 9 && t.blk.on F.FET_PKT_EVT_LINK) = true := by decide +kernel
theorem test_path_resume : runs (.pathLinkResume 0 9 false)
    (later (10 * msTick) (mk fun b => puts [(F.LNK_L_CTL_MODE, 3, 11, 3), (F.LNK_L_STAT_UP, 1, 11, 3), (F.ETH_M_CTL_EN, 1, 11, 3)]
      (streaming 2 0 b))) (fun s => up s && macUp s.blk 47)
    (fun s t => only 0 [] s t && decide ((t.blk.fet 9).resume = [true, false])) = true := by decide +kernel

/-! ## Encoders -/

/-- Slot 31 of the Flask covers the MiB from 0x1_0000_0000 for every class, and the DRAM is ready. -/
def granted (b : Block) : Block :=
  puts [(F.FLK_D_BASE_BASE, 0x1000, 31, 0), (F.FLK_D_LIMIT_LIMIT, 0x1000, 31, 0), (F.FLK_D_PERM_PERM, 0xFFFFF, 31, 0),
    (F.FLK_D_CFG_EN, 1, 31, 0), (F.MEM_STAT_READY, 1, 0, 0)] b

/-- Stream 7 of engine 1: a crop of 64 × 64 of a canvas of 128 × 64, HEVC, into ring 224. -/
def encoding (b : Block) : Block :=
  puts [(F.CRU_WB_SIZE_W, 128, 0, 0), (F.CRU_WB_SIZE_H, 64, 0, 0), (F.TIM_HEAD_RATE_NUM, 60, 0, 0), (F.TIM_HEAD_RATE_DEN, 1, 0, 0),
    (F.ENC_S_CROP_XY_X, 64, 1, 7), (F.ENC_S_CROP_WH_W, 64, 1, 7), (F.ENC_S_CROP_WH_H, 64, 1, 7), (F.ENC_S_RING_RING, 224, 1, 7),
    (F.ENC_S_FCAP_FCAP, 4, 1, 7), (F.ENC_S_SCAP_SCAP, 100, 1, 7), (F.ENC_S_BS_HI_ADDR_HI, 1, 1, 7), (F.ENC_S_BS_CFG_SIZE, 1, 1, 7),
    (F.ENC_S_BS_CFG_PART, 31, 1, 7), (F.ENC_S_QP_QI, 30, 1, 7), (F.ENC_S_QP_QP_MAX, 51, 1, 7), (F.ENC_S_QP_QP_MIN, 30, 1, 7),
    (F.LAD_RING_CFG_EN, 1, 224, 0), (F.LAD_RING_CFG_SIZE_LOG2, 2, 224, 0), (F.LAD_RING_BASE_HI_BASE_HI, 1, 224, 0),
    (F.LAD_RING_BASE_LO_BASE_LO, 0x80, 224, 0), (F.LAD_RING_PART_PART, 31, 224, 0)] (granted b)

theorem test_encode_enable : runs (.encodeStreamEnable 0 0 1 7) (mk encoding)
    (fun s => let_ 0 (F.ENC_S_CTL_EN.at 1 7) s && decide (encRefusal s.blk 1 7 = 0))
    (fun s t => only 0 [49, 2] s t && t.blk.on F.ENC_S_STAT_RUN 1 7 && !t.blk.on F.ENC_S_STAT_WIDE 1 7 && (t.blk.encS 1 7).idr) = true := by decide +kernel
theorem test_encode_crop : runs (.encodeStreamEnable 0 0 1 7) (mk fun b => (encoding b).put F.ENC_S_CROP_XY_X 63 1 7)
    (let_ 0 (F.ENC_S_CTL_EN.at 1 7))
    (fun s t => within 0 [49, 2] s t && recs [0x3006] s t && !t.blk.on F.ENC_S_STAT_RUN 1 7 && !t.blk.on F.ENC_S_CTL_EN 1 7 &&
      t.blk.on F.ENC_EVT_CFG_ERR 1 && decide (t.blk.evq.map (·.p3) = s.blk.evq.map (·.p3) ++ [1])) = true := by decide +kernel

/-- A capture in buffer 3 of pool 4, and stream 7 of a running engine that holds `l`. -/
def capture (n : Nat) : EncCapture := { frame := n, key := bufKey 4 3, arrival := n, ageBase := 0, rtpts := 0 }
def encRuns (l : List EncCapture) (b : Block) : Block :=
  (puts [(F.ENC_CTL_EN, 1, 1, 0), (F.ENC_STAT_RUN, 1, 1, 0), (F.ENC_S_STAT_RUN, 1, 1, 7), (F.ENC_S_CTL_EN, 1, 1, 7)]
    (encoding b)).setEncS 1 7 { waiting := l, idr := false }
theorem test_idr : runs (.idrReq 0 0 1 7) (mk (encRuns [])) (let_ 0 (F.ENC_S_CTL_EN.at 1 7))
    (fun s t => only 0 [2] s t && (t.blk.encS 1 7).idr) = true := by decide +kernel
theorem test_encoder_stop : runs (.encoderStop 0 0 1) (mk (encRuns [])) (let_ 0 (F.ENC_CTL_EN.at 1))
    (fun s t => only 0 [49, 2] s t && !t.blk.on F.ENC_CTL_EN 1 && !t.blk.on F.ENC_STAT_RUN 1) = true := by decide +kernel
theorem test_encode_select : runs (.encodeSelect 0 1)
    (mk fun b => ((encRuns [capture 5] b).put F.ENC_S_STAT_RUN 1 1 6).setEncS 1 6 { waiting := [capture 6] }) up
    (fun s t => only 0 [49] s t && t.blk.on F.ENC_STAT_BUSY 1 && decide (t.blk.get F.ENC_STAT_CUR 1 = 7 ∧
      (t.blk.enc 1).pic = some { stream := 7, cap := capture 5, since := 0 } ∧ t.blk.bufUsers (bufKey 4 3) = 1)) = true := by decide +kernel
theorem test_encode_passed : runs (.encodeSelect 0 1) (mk (encRuns [capture 4, capture 5])) up
    (fun s t => within 0 [49] s t && decide ((t.blk.enc 1).pic.map (·.cap) = some (capture 5) ∧
      t.blk.get F.ENC_S_CNT_PASSED 1 7 = 1)) = true := by decide +kernel

/-- A frame under way. -/
def encPic : EncPic := { stream := 7, cap := capture 5, since := 0, qpMax := 51, fcap := 4, budget := 1000 }
def encBusy (p : EncPic) (b : Block) : Block :=
  ((encRuns [] b).put F.ENC_STAT_BUSY 1 1).setEnc 1 { pic := some p }
theorem test_encode_start : runs (.encodeFrameStart 0 1 88 []) (mk fun b => (encBusy encPic b).setEncS 1 7 { wr := 3096 })
    (fun s => up s && encRingFree s.blk 1 7 && decide (encSpace s.blk 1 7 1000 = some 3096))
    (fun s t => decide (t.clk = s.clk ∧ t.mem = s.mem ∧ (t.blk.enc 1).pic.map (fun q => (q.begun, q.off, q.bits, q.idr, q.budget)) =
      some (true, 3096, 88, true, 4000) ∧ (t.blk.encS 1 7).idr = false)) = true := by decide +kernel
/-- One octet further and the access unit would not fit behind the write offset; the front is taken. -/
theorem test_encode_drop : runs (.encodeFrameStart 0 1 88 [])
    (mk fun b => ((encBusy encPic b).put F.LAD_RING_HEAD_HEAD 1 224).setEncS 1 7 { wr := 3097, outs := [(0, 999, 2098)] })
    (fun s => up s && decide (encSpace s.blk 1 7 1000 = none))
    (fun s t => within 0 [49] s t && recs [0x3004] s t && !t.blk.on F.ENC_STAT_BUSY 1 && t.blk.on F.ENC_EVT_OUT_DROP 1 &&
      decide ((t.blk.enc 1).pic = none ∧ t.blk.get F.ENC_S_CNT_DROPPED 1 7 = 1)) = true := by decide +kernel

/-- Two CTU rows: the first spends the budget exactly. -/
def twoRows (p : EncPic) (b : Block) : Block := (encBusy p b).put F.ENC_S_CROP_WH_H 128 1 7
def case_row_cut : Bool := runs (.encodeRowDone 0 1 { bits := 400, units := [] }) (mk (twoRows { encPic with begun := true, bits := 600 }))
    (fun s => up s && decide (ctuRows s.blk 1 7 = 2))
    (fun s t => within 0 [49] s t && t.blk.on F.ENC_EVT_CAPPED 1 && decide ((t.blk.enc 1).pic.map (fun q => (q.row, q.bits, q.skip)) =
      some (1, 1000, some 1) ∧ t.blk.get F.ENC_S_CNT_CAPPED 1 7 = 1))
def case_row_ramp : Bool := runs (.encodeRowDone 0 1 { bits := 399, units := [] }) (mk (twoRows { encPic with begun := true, bits := 600 })) up
    (fun s t => only 0 [] s t && decide ((t.blk.enc 1).pic.map (fun q => (q.row, q.bits, q.skip, q.d)) = some (1, 999, none, 1)))
/-- At the largest QP a row that the rest would not fit behind is the last. -/
def case_row_top : Bool := runs (.encodeRowDone 0 1 { bits := 501, units := [] })
    (mk (twoRows { encPic with begun := true, qpb := 51 })) up
    (fun _ t => t.blk.on F.ENC_EVT_CAPPED 1 && decide ((t.blk.enc 1).pic.map (·.skip) = some (some 1)))
theorem test_of_encode_row_done : case_row_cut = true := by
  decide +kernel
theorem test_of_encode_row_done_more : (case_row_ramp && case_row_top) = true := by
  decide +kernel
theorem test_unit_written : runs (.encodeFrameDone 0 1 [0, 0, 0, 1] [0x28])
    (mk (encBusy { encPic with begun := true, row := 1, off := 16 }))
    (fun s => up s && encRingFree s.blk 1 7 && !dramFails s.blk 8 31 0x100000010 100 true &&
      !dramFails s.blk 8 31 (s.blk.ringBase 224) 32 true)
    (fun s t => !t.blk.on F.ENC_STAT_BUSY 1 && decide ((t.blk.enc 1).pic = none ∧ t.blk.get F.LAD_RING_HEAD_HEAD 224 = 1 ∧
      t.mem.bytes 0x100000010 4 = [0, 0, 0, 1] ∧ t.mem.bytes (s.blk.ringBase 224) 4 = [16, 0, 0, 0])) = true := by decide +kernel

/-! ## The pair -/

/-- A unit in PAIR mode with its link, in a role. -/
def pairUnit (role link : Nat) (b : Block) : Block :=
  puts [(F.PAIR_CFG_MODE, 1, 0, 0), (F.PAIR_STAT_LINK, link, 0, 0), (F.PAIR_STAT_ROLE, role, 0, 0), (F.PAIR_TOKEN_WAIT_PREF, 2, 0, 0),
    (F.PAIR_TOKEN_WAIT_OTHER, 2, 0, 0), (F.PAIR_WDOG_MS, 1, 0, 0), (F.PAIR_TIME_JOIN_WAIT, 3, 0, 0)] b
def withPair (x : PairSt) (b : Block) : Block := { b with pair := x }
def inPair (s : State) : Bool := up s && s.blk.pairMode

def case_pair_link_up : Bool := runs (.pairLinkChange 1 2)
    (mk fun b => puts [(F.PAIR_STAT_STAGE, stageLost, 0, 0)] (pairUnit roleStandby 0 b)) inPair
    (fun s t => within 1 [5] s t && recs [0x0506] s t && t.blk.linkUp && t.blk.on F.PAIR_EVT_LINK &&
      decide (t.blk.get F.PAIR_STAT_LANES = 2 ∧ t.blk.joinStage = stageLock))
def case_pair_link_down : Bool := runs (.pairLinkChange 1 1) (mk (pairUnit roleActive 1)) inPair
    (fun s t => within 1 [5] s t && recs [0x0506] s t && !t.blk.linkUp && decide (t.blk.role = roleActive))
/-- The heartbeat is lost already, and the partner holds the token. -/
def case_pair_link_lost : Bool := runs (.pairLinkChange 1 0)
    (mk fun b => withPair { hb := 1, partnerLow := true, highSince := none }
      ((pairUnit roleStandby 1 b).put F.PAIR_STAT_TOKEN_LINE 1)) inPair
    (fun s t => within 1 [5] s t && recs [0x0506] s t && decide (t.blk.joinStage = stageLost))
theorem test_of_pair_link_change : case_pair_link_up = true := by
  decide +kernel
theorem test_of_pair_link_change_more : (case_pair_link_down && case_pair_link_lost) = true := by
  decide +kernel
/-- 3 ms after first light: the line is low, then high for 2 ms. -/
theorem test_join_low : runs (.joinWaitExpiry 750000)
    (mk fun b => withPair { lit := some 0, partnerLow := true, highSince := none } ((pairUnit roleStart 0 b).put F.PAIR_STAT_TOKEN_LINE 1))
    inPair
    (fun s t => within 750000 [5] s t && recs [0x0501] s t && !t.blk.on F.PAIR_STAT_TOKEN_DRV &&
      decide (t.blk.role = roleStandby ∧ t.blk.joinStage = stageLost)) = true := by decide +kernel
theorem test_join_high : runs (.joinWaitExpiry 750000) (mk fun b => withPair { lit := some 0 } (pairUnit roleStart 0 b)) inPair
    (fun s t => decide (t.mem = s.mem ∧ t.blk.role = roleActive) && t.blk.on F.PAIR_STAT_TOKEN_DRV && t.blk.on F.PAIR_STAT_TOKEN_LINE) = true := by decide +kernel
theorem test_token : runs (.tokenAcquire 500000) (mk fun b => withPair { joinSeek := true } (pairUnit roleStart 0 b)) inPair
    (fun _ t => decide (t.blk.role = roleActive) && t.blk.on F.PAIR_STAT_TOKEN_DRV) = true := by decide +kernel
theorem test_token_early : runs (.tokenAcquire 499999) (mk fun b => withPair { joinSeek := true } (pairUnit roleStart 0 b)) inPair
    (fun s t => only 499999 [] s t) = true := by decide +kernel
theorem test_token_line_sought : runs (.tokenLineChange 1 true) (mk fun b => withPair { joinSeek := true } (pairUnit roleStart 0 b)) inPair
    (fun s t => within 1 [5] s t && recs [0x0501] s t && t.blk.on F.PAIR_STAT_TOKEN_LINE &&
      decide (t.blk.role = roleStandby ∧ t.blk.joinStage = stageLost)) = true := by decide +kernel
theorem test_token_line : runs (.tokenLineChange 1 false)
    (mk fun b => withPair { partnerLow := true, highSince := none } (puts [(F.PAIR_STAT_TOKEN_LINE, 1, 0, 0)] (pairUnit roleStandby 1 b))) inPair
    (fun s t => only 1 [5] s t && !t.blk.on F.PAIR_STAT_TOKEN_LINE && !t.blk.pair.partnerLow) = true := by decide +kernel
theorem test_warden_expiry : runs (.wardenWatchdogExpiry 250000) (mk fun b => (pairUnit roleActive 1 b).put F.PAIR_STAT_TOKEN_DRV 1) inPair
    (fun s t => recs [0x0501] s t && !t.blk.on F.PAIR_STAT_TOKEN_DRV && decide (t.mem = s.mem ∧ t.blk.role = roleStandby ∧
      t.blk.joinStage = stageLock)) = true := by decide +kernel
theorem test_warden_early : runs (.wardenWatchdogExpiry 249999) (mk (pairUnit roleActive 1)) inPair
    (fun s t => only 249999 [] s t) = true := by decide +kernel
theorem test_warden_kick : runs (.wardenWatchdogKick 9 0) (mk (pairUnit roleActive 1)) (fun s => inPair s && let_ 0 F.PAIR_WDOG_KICK.addr s)
    (fun s t => only 9 [2] s t && decide (t.blk.pair.kick = 36 * nsTick)) = true := by decide +kernel
theorem test_take : runs (.switchTake 1 0) (mk fun b => withPair { count := 7 } (pairUnit roleStandby 0 b))
    (fun s => inPair s && let_ 0 F.PAIR_SWITCH_CMD.addr s)
    (fun s t => recs [] s t && decide (t.blk.pair.due = some (9, true, 2) ∧ t.blk.role = roleStandby)) = true := by decide +kernel
theorem test_take_refused : runs (.switchTake 1 0) (mk fun b => (pairUnit roleStandby 0 b).put F.PAIR_STAT_TOKEN_LINE 1)
    (fun s => inPair s && let_ 0 F.PAIR_SWITCH_CMD.addr s)
    (fun s t => within 1 [5, 2] s t && recs [0x050E] s t && t.blk.on F.PAIR_EVT_WIGN && decide (t.blk.pair.due = none)) = true := by decide +kernel
theorem test_yield : runs (.switchYield 1 0) (mk fun b => withPair { count := 7 } (pairUnit roleActive 1 b))
    (fun s => inPair s && let_ 0 F.PAIR_SWITCH_CMD.addr s)
    (fun s t => recs [] s t && decide (t.blk.pair.due = some (9, false, 3))) = true := by decide +kernel
theorem test_yield_refused : runs (.switchYield 1 0) (mk (pairUnit roleActive 0))
    (fun s => inPair s && let_ 0 F.PAIR_SWITCH_CMD.addr s)
    (fun s t => within 1 [5, 2] s t && recs [0x050E] s t) = true := by decide +kernel

/-- Head 9 is the reference head, at VFP 0 of its frame. -/
def reporting (x : PairSt) : State :=
  later (5 * msTick) (mk fun b => withPair x (puts [(F.PAIR_CFG_REF_HEAD, 9, 0, 0), (F.PAIR_TIME_HB_N, 1, 0, 0)]
    (pairUnit roleStart 0 (scene b))))
/-- The servo is not locked: 255 − 32. -/
theorem test_report : runs (.healthReportSend 0) (reporting { got := true })
    (fun s => inPair s && s.blk.refRuns && !s.blk.paired && lineReached (s.blk.fmt 9) (s.blk.ras 9) s.clk.steady 32)
    (fun s t => only 0 [5] s t && decide (t.blk.get F.PAIR_SCORE_OWN = 223 ∧ t.blk.get F.PAIR_STAT_MISS = 0 ∧ t.blk.pair.vfp = 1 ∧
      (crc32c ((List.range 15).flatMap fun k => beBytes 4 (t.blk.get F.PAIR_HR_OWN_HR k))).toNat = t.blk.get F.PAIR_HR_OWN_HR 15)) = true := by decide +kernel
theorem test_report_missed : runs (.healthReportSend 0) (reporting {}) inPair
    (fun s t => within 0 [5] s t && recs [0x0502] s t && t.blk.on F.PAIR_EVT_HB && decide (t.blk.get F.PAIR_STAT_MISS = 1)) = true := by decide +kernel
theorem test_reference_tick : runs (.referenceTick 4166750) (mk fun b => withPair { got := true } (pairUnit roleStart 0 b))
    (fun s => inPair s && !s.blk.refRuns)
    (fun s t => only 4166750 [5] s t && decide (t.blk.pair.count = 1 ∧ t.blk.pair.tick = 16667 * usTick)) = true := by decide +kernel
/-- A report of an active partner with score 200. -/
def report : List Byte :=
  let l : List Byte := [1, 1, 200, 0] ++ List.replicate 56 0
  l ++ beBytes 4 (crc32c l).toNat
theorem test_pair_health : runs (.pairHealth 1 report) (mk (pairUnit roleStandby 1)) inPair
    (fun s t => only 1 [5] s t && t.blk.on F.PAIR_STAT_PEER_VALID && decide (t.blk.get F.PAIR_STAT_PEER_ROLE = 1 ∧
      t.blk.get F.PAIR_SCORE_PEER = 200 ∧ t.blk.get F.PAIR_HR_PEER_HR 0 = 0x0101C800 ∧ t.blk.role = roleStandby)) = true := by decide +kernel
theorem test_pair_health_bad : runs (.pairHealth 1 (report.set 3 1)) (mk (pairUnit roleStandby 1)) inPair
    (fun s t => only 1 [] s t) = true := by decide +kernel
theorem test_pair_switch : runs (.pairSwitch 1 false 5) (mk fun b => withPair { count := 3 } (pairUnit roleStandby 1 b)) inPair
    (fun s t => only 1 [] s t && decide (t.blk.pair.due = some (8, true, 3))) = true := by decide +kernel
theorem test_pair_heat : runs (.pairHeat 1 0x80000301 (2 ^ 40) []) (mk fun b => (pairUnit roleStandby 1 b).put F.PAIR_STAT_STAGE stageHeat)
    inPair
    (fun s t => within 1 [5, 36] s t && recs [0x0507] s t && t.blk.on F.PAIR_STAT_HEAT_VALID && decide (t.blk.joinStage = stageCopy ∧
      t.blk.get F.PAIR_HEAT_HEAT = 0x80000301 ∧ t.blk.get F.PAIR_EPOCH_HI_E_HI = 256)) = true := by decide +kernel

/-- The unit's own seal of head 63, frame 5, band 134. -/
def sealed (v : Word) (b : Block) : Block :=
  withPair { seals := [{ head := 63, frame := 5, band := 134, own := some v, peer := none, since := 0 }] }
    ((pairUnit roleActive 1 b).put F.PAIR_TIME_DIV_N 4)
def case_seal_same : Bool := runs (.pairSeal 1 63 5 134 9) (mk fun b => (sealed 9 b).put F.PAIR_HEAD_STAT_RUN 3 63) inPair
    (fun s t => only 1 [5] s t && decide (t.blk.get F.PAIR_HEAD_STAT_RUN 63 = 0 ∧ t.blk.pair.seals = []))
def case_seal_differs : Bool := runs (.pairSeal 1 63 5 134 9) (mk fun b => (sealed 8 b).put F.PAIR_HEAD_STAT_RUN 2 63) inPair
    (fun s t => only 1 [5] s t && decide (t.blk.get F.PAIR_HEAD_STAT_RUN 63 = 3))
/-- The DIV_Nth differing seal in a row is a divergence. -/
def case_seal_diverges : Bool := runs (.pairSeal 1 63 5 134 9) (mk fun b => (sealed 8 b).put F.PAIR_HEAD_STAT_RUN 3 63) inPair
    (fun s t => within 1 [5] s t && recs [0x0504] s t && decide (t.blk.get F.PAIR_CNT_DIV = 1))
def case_seal_kept : Bool := runs (.pairSeal 1 63 6 134 9) (mk (sealed 8)) inPair
    (fun s t => only 1 [] s t && decide (t.blk.pair.seals.length = 2))
theorem test_of_pair_seal : case_seal_same = true := by
  decide +kernel
theorem test_of_pair_seal_more : (case_seal_differs && case_seal_diverges && case_seal_kept) = true := by
  decide +kernel
theorem test_seal_unpaired : runs (.sealUnpaired 1 63) (mk (sealed 8)) up
    (fun s t => only 1 [5] s t && decide (t.blk.pair.seals = [] ∧ t.blk.get F.PAIR_HEAD_STAT_UNPAIRED 63 = 1)) = true := by decide +kernel
/-- A divergence of head 63 waits for its voter at position 3. -/
def voting (board link : Nat) (b : Block) : Block :=
  withPair { votes := [{ head := 63, frame := 5, band := 134, own := 8, peer := 9, since := 0 }] }
    (puts [(F.PAIR_HEAD_VOTE_EN, 1, 63, 0), (F.PAIR_HEAD_VOTE_POS, 3, 63, 0), (F.PAIR_HEAD_VOTE_BOARD, board, 63, 0)]
      (pairUnit roleStandby link b))
theorem test_vote_frame : runs (.voteFrame 1 3 63 5 134 9) (mk (voting 0 0)) (fun s => up s && votesFor s.blk 63 3 0)
    (fun s t => within 1 [5] s t && recs [0x0505] s t && t.blk.on F.PAIR_STAT_DIVERGENT && t.blk.on F.PAIR_HEAD_STAT_DIV 63) = true := by decide +kernel
theorem test_vote_kept : runs (.voteFrame 1 3 63 6 134 9) (mk (voting 0 0)) up
    (fun s t => only 1 [] s t && decide (t.blk.pair.voters = [(63, 6, 134, 9)])) = true := by decide +kernel
theorem test_pair_vote : runs (.pairVote 1 3 63 5 134 8) (mk (voting 1 1)) (fun s => up s && votesFor s.blk 63 3 1)
    (fun s t => within 1 [5] s t && recs [0x0505] s t && !t.blk.on F.PAIR_STAT_DIVERGENT) = true := by decide +kernel
theorem test_vote_timeout : runs (.voteTimeout 1 63) (mk (voting 1 1)) up
    (fun s t => only 1 [] s t && decide (t.blk.pair.votes = [] ∧ t.blk.pair.selfVotes.length = 1) && t.blk.selfCheck.isSome) = true := by decide +kernel

/-- Source 383 of a paired unit, whose frame awaits the partner's LOSS message. -/
def agreeing (lost : List Nat) (b : Block) : Block :=
  running { frames := [{ openFrame with complete := some 0, awaits := true, lost }] } (pairUnit roleStandby 1 b)
def case_pair_loss_over : Bool := runs (.pairLoss 1 383 900 [] true) (mk (agreeing [])) up
    (fun s t => only 1 [] s t && decide ((t.blk.src 383).frames = []))
def case_pair_loss_many : Bool := runs (.pairLoss 1 383 900 [] false) (mk (agreeing (List.range 256))) up
    (fun s t => only 1 [] s t && decide ((t.blk.src 383).frames = []))
def case_pair_loss : Bool := runs (.pairLoss 1 383 900 [7] false) (mk (agreeing [6])) up
    (fun s t => only 1 [] s t && decide ((t.blk.src 383).frames.map (fun g => (g.awaits, g.lost)) = [(false, [6])]))
def case_pair_loss_early : Bool := runs (.pairLoss 1 383 901 [7] false) (mk (agreeing [])) up
    (fun s t => only 1 [] s t && decide (t.blk.peerLosses = [(383, 901, [7], false)]))
theorem test_of_pair_loss : case_pair_loss_over = true := by
  decide +kernel
theorem test_of_pair_loss_more : (case_pair_loss_many && case_pair_loss && case_pair_loss_early) = true := by
  decide +kernel
theorem test_pair_ready : runs (.pairReady 1 383 900 55)
    (mk fun b => (agreeing [] b).setBuf (bufKey 3 15) { state := .ready, src := 383, rtpts := 900, awaits := true }) up
    (fun s t => only 1 [] s t && decide ((t.blk.buf (bufKey 3 15)).peerPtp = some 55 ∧ (t.blk.buf (bufKey 3 15)).awaits = false)) = true := by decide +kernel
theorem test_pair_ready_early : runs (.pairReady 1 383 900 55) (mk (agreeing [])) up
    (fun s t => only 1 [] s t && decide (t.blk.peerReadys = [(383, 900, 55)])) = true := by decide +kernel
theorem test_agree_expiry : runs (.agreeWaitExpiry 250000 383) (mk fun b => (agreeing [] b).put F.PAIR_AGREE_WAIT_MS 1) up
    (fun s t => within 250000 [5] s t && t.blk.on F.PAIR_EVT_AGREE && decide ((t.blk.src 383).frames.map (·.awaits) = [false])) = true := by decide +kernel

/-- The placement of mould 95 of Crucible 3, mirrored in a sealed unit. -/
def placeAt : Nat := F.CRU_M_DST_XY_X.at 3 95
theorem test_mirrored : runs (.mirroredWrite 1 1 (BitVec.ofNat 40 (periphBase + placeAt)) 0x50007)
    (mk fun b => puts [(F.XSP_STAT_SEALED, 1, 0, 0), (F.PAIR_TIME_AHEAD, 3, 0, 0), (F.WDN_CL_STAT_RUN, 1, 0, 0), (F.PWR_DOM_STAT_ON, 2, 0, 0),
      (F.FLK_P_PERM_PERM, 0xFFFFF, 35, 0)] (pairUnit roleActive 0 b))
    (fun s => up s && decide (Writable s 1 placeAt))
    (fun s t => only 1 [2] s t && decide (t.blk.pendF = [] ∧ t.blk.pair.journal.map (fun e => (e.addr, e.v, e.target)) =
      [(placeAt, 0x50007, 3)])) = true := by decide +kernel
theorem test_mirrored_standby : runs (.mirroredWrite 1 1 (BitVec.ofNat 40 (periphBase + placeAt)) 0x50007)
    (mk fun b => puts [(F.XSP_STAT_SEALED, 1, 0, 0), (F.WDN_CL_STAT_RUN, 1, 0, 0), (F.PWR_DOM_STAT_ON, 2, 0, 0), (F.FLK_P_PERM_PERM, 0xFFFFF, 35, 0)]
      (pairUnit roleStandby 1 b))
    (fun s => up s && decide (Writable s 1 placeAt))
    (fun s t => only 1 [5, 2] s t && t.blk.on F.PAIR_EVT_WIGN && decide (t.blk.pair.journal = [])) = true := by decide +kernel
theorem test_journal : runs (.pairJournal 1 (BitVec.ofNat 40 (periphBase + placeAt)) 7 63 12) (mk (pairUnit roleStandby 1))
    (fun s => up s && s.blk.paired && !s.blk.headRuns 0)
    (fun s t => only 1 [] s t && decide (t.blk.pendF = [] ∧ t.blk.pair.journal.map (fun e => (e.addr, e.v, e.target)) =
      [(placeAt, 7, 12)])) = true := by decide +kernel
/-- A write for the frame that comes next is too late to wait. -/
theorem test_journal_late : runs (.pairJournal 1 (BitVec.ofNat 40 (periphBase + placeAt)) 7 63 1)
    (mk fun b => puts [(F.CRU_GRP_CFG_LEAD, 15, 3, 15), (F.CRU_GRP_STAT_REJ, 1, 3, 0)] (pairUnit roleStandby 1 (scene b)))
    (fun s => up s && s.blk.paired && s.blk.headRuns 9)
    (fun s t => within 1 [35] s t && recs [0x050B] s t && !t.blk.on F.CRU_GRP_STAT_REJ 3 0 && decide (t.blk.pendF.map (fun q => (q.addr, q.val)) = [(placeAt, 7)])) = true := by decide +kernel
theorem test_pair_dim : runs (.pairDim 1 9 1 0) (mk (pairUnit roleStandby 1)) (fun s => up s && s.blk.paired)
    (fun s t => only 1 [] s t && decide ((t.blk.fet 9).dims = [{ lit := true, target := 0, late := true }])) = true := by decide +kernel

/-- The partner asks for a packet that this unit holds, and for one that it does not. -/
def heldPacket : HeldPacket :=
  { pkt := packet 12, ext := 12, stamp := 0, steady := 0, gen := 0, repaired := false, ringed := true, ring := none, readyAt := none }
def answering (b : Block) : Block :=
  running { held := [heldPacket] } ((pairUnit roleActive 1 b).put F.SPR_K_STAT_STATE 4 0)
/-- The frames sent, without the octets of their opaque bodies: link, frame, whether resent. -/
def sentFrames (t : State) : List (Nat × SprFrame × Bool) :=
  t.blk.out.filterMap fun o => match o with | .sprue k f r _ _ => some (k, f, r) | _ => none
theorem test_repair_request : runs (.pairRepairRequest 1 383 12) (mk answering) (fun s => up s && s.blk.paired && s.blk.sprUp 0)
    (fun s t => within 1 [] s t && recs [] s t &&
      decide (sentFrames t = [(0, { chan := 3, seq := 0, body := .pair (.repairAnswer 383 12 (some (packet 12))) }, false)])) = true := by decide +kernel
theorem test_repair_none : runs (.pairRepairRequest 1 383 13) (mk answering) up
    (fun _ t => decide (sentFrames t = [(0, { chan := 3, seq := 0, body := .pair (.repairAnswer 383 13 none) }, false)])) = true := by decide +kernel
theorem test_repair_gap : runs (.pairRepairAnswer 1 383 21 none)
    (mk fun b => gapped true (pairUnit roleStandby 1 b)) (fun s => up s && s.blk.paired)
    (fun s t => only 1 [5] s t && decide (t.blk.get F.PAIR_REPAIR_NONE = 1)) = true := by decide +kernel
theorem test_repair_unasked : runs (.pairRepairAnswer 1 383 22 (some (packet 22)))
    (mk fun b => gapped true (pairUnit roleStandby 1 b)) up
    (fun s t => only 1 [] s t) = true := by decide +kernel
theorem test_pair_copy : runs (.pairCopy 1 [(periphBase + placeAt, 0x10003)])
    (mk fun b => (pairUnit roleStandby 1 b).put F.PAIR_STAT_STAGE stageCopy) up
    (fun s t => only 1 [35] s t && decide (t.blk.get F.CRU_M_DST_XY_X 3 95 = 3 ∧ t.blk.get F.CRU_M_DST_XY_Y 3 95 = 1)) = true := by decide +kernel
theorem test_pair_copy_stage : runs (.pairCopy 1 [(periphBase + placeAt, 0x10003)]) (mk (pairUnit roleStandby 1)) up
    (fun s t => only 1 [] s t) = true := by decide +kernel
theorem test_pair_copy_end : runs (.pairCopyEnd 1 5)
    (mk fun b => withPair { journal := [5, 6].map fun n => { addr := placeAt, mask := 0, v := 0, group := 0, head := 0, target := n } }
      ((pairUnit roleStandby 1 b).put F.PAIR_STAT_STAGE stageCopy)) up
    (fun s t => only 1 [5] s t && decide (t.blk.joinStage = stageCast ∧ t.blk.pair.journal.map (·.target) = [6])) = true := by decide +kernel
theorem test_rejoin_lock : runs (.rejoinLockReached 1)
    (mk fun b => puts [(F.PAIR_STAT_STAGE, stageLock, 0, 0), (F.TIM_STAT_SRV, srvLocked, 0, 0)] (pairUnit roleStandby 1 b)) up
    (fun s t => only 1 [5] s t && decide (t.blk.joinStage = stageHeat)) = true := by decide +kernel
theorem test_pair_desk : runs (.pairDesk 1 [(959, 0x1FFFE)]) (mk (pairUnit roleStandby 1)) (fun s => up s && s.blk.paired)
    (fun s t => only 1 [20] s t && decide (nodeGet t.blk F.DSK_MIR_MIR0 959 = 0xFFFE ∧ nodeGet t.blk F.DSK_MIR_MIR0 958 = 0)) = true := by decide +kernel

/-! ## Registers and the matrix -/

/-- The word at offset `p` of the register windows. -/
def wreg (cls : Cls) (p : Nat) (v : Word) : Instr := .registerWrite 1 cls (BitVec.ofNat 40 (periphBase + p)) v none
def rreg (cls : Cls) (p : Nat) : Instr := .registerRead 1 cls (BitVec.ofNat 40 (periphBase + p)) 0
/-- The register has no trigger and no rule of its own, and a write of it is let through. -/
def plainAt (cls p : Nat) (s : State) : Bool :=
  up s && decide (Writable s cls p) && windowAssigned (p / 0x10000) && match regAt p with
    | some (r, _) => decide (r.act = .plain ∧ r.w1c = 0 ∧ r.wo = 0 ∧ r.rw ≠ 0)
    | none => false
def done (t : State) : Bool := decide (t.blk.resp = .done)

/-- Class S of a stopped head, reserved bits dropped; of a running head. -/
def rateAt : Nat := F.TIM_HEAD_RATE_NUM.at 63
theorem test_write_s : runs (wreg 0 rateAt 0xFFFF003C) (mk id) (plainAt 0 rateAt)
    (fun s t => only 1 [4, 2] s t && done t && decide (t.blk.reg rateAt = 0x0FFF003C)) = true := by decide +kernel
theorem test_write_s_locked : runs (wreg 0 rateAt 0x10003C)
    (mk fun b => raster 63 { phase := .running } (b.put F.TIM_HEAD_STAT_RUN 1 63)) (plainAt 0 rateAt)
    (fun s t => only 1 [4, 2] s t && done t && t.blk.on F.TIM_EVT_WIGN && decide (t.blk.reg rateAt = s.blk.reg rateAt)) = true := by decide +kernel
theorem test_write_l : runs (wreg 0 F.LAD_MERGE_SKEW.addr 0x20001) (mk id) (plainAt 0 F.LAD_MERGE_SKEW.addr)
    (fun s t => only 1 [2] s t && done t && decide (t.blk.pendL.map (fun q => (q.addr, q.mask, q.val)) =
      [(F.LAD_MERGE_SKEW.addr, 0xFFFFFFFF, 0x20001)])) = true := by decide +kernel
theorem test_write_f : runs (wreg 0 (F.CRU_M_ALPHA_PLANE.at 3 95) 0x180) (mk id)
    (fun s => plainAt 0 (F.CRU_M_ALPHA_PLANE.at 3 95) s && !mirrored s.blk 0 (F.CRU_M_ALPHA_PLANE.at 3 95))
    (fun s t => only 1 [35, 2] s t && done t && decide (t.blk.pendF.map (fun q => (q.addr, q.mask, q.val)) =
      [(F.CRU_M_ALPHA_PLANE.at 3 95, 0xFF, 0x180)])) = true := by decide +kernel
/-- The two words of a pool's base: the low word waits for the high word. -/
def baseLo : Nat := F.LAD_POOL_BASE_LO_BASE_LO.at 127
def baseHi : Nat := F.LAD_POOL_BASE_HI_BASE_HI.at 127
theorem test_write_low : runs (wreg 0 baseLo 0x12345678) (mk id) (plainAt 0 baseLo)
    (fun s t => only 1 [2] s t && done t && decide (t.blk.stage.lookup baseLo = some 0x12345000)) = true := by decide +kernel
theorem test_write_high : runs (wreg 0 baseHi 0x101) (mk (staged [(baseLo, 0x12345000)])) (plainAt 0 baseHi)
    (fun s t => only 1 [24, 2] s t && done t && decide (t.blk.reg baseHi = 1 ∧ t.blk.reg baseLo = 0x12345000)) = true := by decide +kernel
theorem test_take_l : runs (.classLTakeEffect 1 95) (mk fun b => { b with pendL := [{ addr := F.LAD_MERGE_SKEW.addr, mask := 0xFFFFFFFF, val := 5 }] }) up
    (fun s t => only 1 [] s t && decide (t.blk.pendL = s.blk.pendL)) = true := by decide +kernel
theorem test_take_l_effect : runs (.classLTakeEffect 1 36)
    (mk fun b => { b with pendL := [{ addr := F.FET_DIM_CFG_AHEAD.addr, mask := 0xFFFFFFFF, val := 5 }] }) up
    (fun s t => only 1 [36] s t && decide (t.blk.pendL = [] ∧ t.blk.get F.FET_DIM_CFG_AHEAD = 5)) = true := by decide +kernel
theorem test_remap : runs (.remapSwap 1 0 true) (mk id) (let_ 0 F.SYS_REMAP_SWAP.addr)
    (fun s t => only 1 [0, 2] s t && t.blk.on F.SYS_REMAP_SWAP) = true := by decide +kernel

def case_bad_width : Bool := runs (.badWidthAccess 1 0 (BitVec.ofNat 40 periphBase) 3 true) (mk id)
    (fun s => up s && decide (decodeAddr false periphBase = .periph 0))
    (fun s t => within 1 [2] s t && recs [0x0202] s t && t.blk.on F.MTX_EVT_BAD && t.blk.on F.MTX_BAD_HI_WRITE &&
      decide (t.blk.resp = .error ∧ t.blk.get F.MTX_CNT_BAD = 1 ∧ t.blk.get F.MTX_BAD_LO_ADDR_LO = periphBase))
def case_bad_alignment : Bool := runs (.badWidthAccess 1 0 (BitVec.ofNat 40 (periphBase + 2)) 2 false) (mk fun b => b.put F.MTX_EVT_BAD 1) up
    (fun s t => within 1 [2] s t && recs [0x0202] s t && decide (t.blk.resp = .error ∧ t.blk.get F.MTX_CNT_BAD = 1 ∧
      t.blk.get F.MTX_BAD_LO_ADDR_LO = 0))
theorem test_miss : runs (.decodeMiss 1 9 0xFFFFFFFFFF false) (mk id)
    (fun s => up s && decide (decodeAddr false 0xFFFFFFFFFF = .miss) && issues s.blk 9)
    (fun s t => within 1 [2] s t && recs [0x0201] s t && t.blk.on F.MTX_EVT_MISS && decide (t.blk.resp = .error ∧
      t.blk.get F.MTX_MISS_LO_ADDR_LO = 0xFFFFFFFF ∧ t.blk.get F.MTX_MISS_HI_ADDR_HI = 0xFF ∧ t.blk.get F.MTX_MISS_HI_CLASS = 9)) = true := by decide +kernel
/-- The service unit has no permission in the PAIR window. -/
def ungranted (order : Nat) (b : Block) : Block := (b.put F.FLK_P_PERM_PERM 0 5).put F.FLK_P_ATTR_ORDER order 5
theorem test_flask_write : runs (wreg 9 0x50010 1) (mk (ungranted 2)) (fun s => up s && !periphOk s.blk 9 5 true)
    (fun s t => within 1 [2, 3] s t && t.blk.on F.FLK_EVT_VIOL && decide (t.blk.resp = .error)) = true := by decide +kernel
theorem test_flask_posted : runs (wreg 9 0x50010 1) (mk (ungranted 1)) (fun s => up s && !periphOk s.blk 9 5 true)
    (fun s t => within 1 [2, 3] s t && t.blk.on F.FLK_EVT_VIOL && done t) = true := by decide +kernel
theorem test_flask_read : runs (rreg 9 0x50010) (mk (ungranted 0)) (fun s => up s && !periphOk s.blk 9 5 false)
    (fun s t => within 1 [2, 3] s t && t.blk.on F.FLK_EVT_VIOL && decide (t.blk.resp = .error)) = true := by decide +kernel
theorem test_warden_only : runs (wreg 9 F.SYS_REMAP_SWAP.addr 1) (mk fun b => b.put F.FLK_P_PERM_PERM 0xFFFFF 0)
    (fun s => up s && wardenField F.SYS_REMAP_SWAP.addr 1 && periphOk s.blk 9 0 true)
    (fun s t => within 1 [2] s t && recs [0x0303] s t) = true := by decide +kernel
theorem test_write_reserved : runs (wreg 0 0x4FFFC 1) (mk id) (fun s => up s && decide (Writable s 0 0x4FFFC ∧ regAt 0x4FFFC = none))
    (fun s t => only 1 [2] s t && done t) = true := by decide +kernel
theorem test_write_ro : runs (wreg 0 F.TIM_STAT_SRV.addr 3) (mk id) (fun s => up s && decide (Writable s 0 F.TIM_STAT_SRV.addr))
    (fun s t => only 1 [2] s t && done t) = true := by decide +kernel
theorem test_read_foreign : runs (rreg 1 0x380200) (mk fun b => puts [(F.WDN_CL_STAT_RUN, 1, 0, 0), (F.PWR_DOM_STAT_ON, 2, 0, 0),
      (F.FLK_P_PERM_PERM, 0xFFFFF, 56, 0)] b)
    (fun s => up s && issues s.blk 1 && foreignBlock 1 0x380200 && periphOk s.blk 1 56 false)
    (fun s t => only 1 [2] s t && decide (t.blk.resp = .error)) = true := by decide +kernel
/-- A cluster that does not run issues nothing. -/
theorem test_halted : runs (wreg 1 0x50010 1) (mk id) (fun s => up s && !issues s.blk 1) (fun s t => only 1 [] s t &&
    decide (t.blk.resp = .none)) = true := by decide +kernel

theorem test_read_reserved : runs (rreg 0 0x4FFFC) (mk id) (fun s => up s && decide (Readable s 0 0x4FFFC))
    (fun s t => only 1 [2] s t && decide (t.blk.resp = .data 0)) = true := by decide +kernel
theorem test_read_wo : runs (rreg 0 F.PAIR_SWITCH_CMD.addr) (mk id) (fun s => up s && decide (Readable s 0 F.PAIR_SWITCH_CMD.addr))
    (fun _ t => decide (t.blk.resp = .data 0)) = true := by decide +kernel
theorem test_read_s : runs (rreg 0 rateAt) (mk fun b => b.put F.TIM_HEAD_RATE_NUM 50 63) (fun s => up s && decide (Readable s 0 rateAt))
    (fun s t => only 1 [2] s t && decide (t.blk.resp = .data 50)) = true := by decide +kernel
/-- A class L word reads as last written while the write waits. -/
theorem test_read_l : runs (rreg 0 F.LAD_MERGE_SKEW.addr)
    (mk fun b => { b with pendL := [{ addr := F.LAD_MERGE_SKEW.addr, mask := 0xFFFFFFFF, val := 5 }] })
    (fun s => up s && decide (Readable s 0 F.LAD_MERGE_SKEW.addr))
    (fun s t => only 1 [2] s t && decide (t.blk.resp = .data 5)) = true := by decide +kernel
theorem test_read_latches : runs (rreg 0 F.PAIR_EPOCH_LO_E_LO.addr) (mk fun b => b.put F.PAIR_EPOCH_HI_E_HI 7)
    (fun s => up s && decide (Readable s 0 F.PAIR_EPOCH_LO_E_LO.addr))
    (fun s t => only 1 [2] s t && decide (t.blk.latch.lookup F.PAIR_EPOCH_HI_E_HI.addr = some 7)) = true := by decide +kernel
theorem test_read_latched : runs (rreg 0 F.PAIR_EPOCH_HI_E_HI.addr)
    (mk fun b => { b with latch := [(F.PAIR_EPOCH_HI_E_HI.addr, 9)] })
    (fun s => up s && decide (Readable s 0 F.PAIR_EPOCH_HI_E_HI.addr))
    (fun s t => only 1 [2] s t && decide (t.blk.resp = .data 9)) = true := by decide +kernel
/-- The last word of the working SRAM, in both places; of the scratchpad; of the first MiB of DRAM. -/
def openSram (b : Block) : Block :=
  puts [(F.FLK_OD_WS_MASK, 0x3FF, 0, 0), (F.FLK_OD_SP_MASK, 0x3FF, 0, 0), (F.FLK_OD_SP_SEC, 0x3FF, 0, 0)] (granted b)
def case_read_working : Bool := runs (.registerRead 1 0 0x103FFFFC 0) (holding [(workingBase + 0x3FFFFC, [1, 2, 3, 4])] (mk openSram))
    (fun s => up s && decide (onDieRefused s.blk 0 0x103FFFFC 4 false = none))
    (fun s t => only 1 [2] s t && decide (t.blk.resp = .data 0x04030201))
def case_read_remapped : Bool := runs (.registerRead 1 0 0x3FFFFC 0)
    (holding [(workingBase + 0x3FFFFC, [1, 2, 3, 4])] (mk fun b => (openSram b).put F.SYS_REMAP_SWAP 1)) up
    (fun s t => only 1 [2] s t && decide (t.blk.resp = .data 0x04030201))
theorem test_write_scratch : runs (.registerWrite 1 9 0x20000001 0xAABBCCDD none) (mk openSram)
    (fun s => up s && decide (onDieRefused s.blk 9 0x20000001 4 true = none))
    (fun s t => done t && recs [] s t && decide (t.mem.bytes scratchBase 6 = [0, 0xDD, 0xCC, 0xBB, 0xAA, 0])) = true := by decide +kernel
theorem test_write_dram : runs (.registerWrite 1 0 0x1000FFFFC 0xAABBCCDD none) (mk openSram)
    (fun s => up s && decide (dramCheck s.blk 0 0 0x1000FFFFC 4 true = none ∧ dramRange s.blk 0x1000FFFFC 4 = none))
    (fun _ t => done t && decide (t.mem.bytes 0x1000FFFFC 4 = [0xDD, 0xCC, 0xBB, 0xAA])) = true := by decide +kernel

/-- A word of 0x0F in the scratchpad. -/
def nibble : State := holding [(scratchBase, [0x0F])] (mk openSram)
theorem test_alias_set : runs (.bitSetAliasWrite 1 9 0 0x18 none) nibble (fun s => up s && issues s.blk 9)
    (fun s t => done t && recs [] s t && decide (t.mem.bytes scratchBase 4 = [0x1F, 0, 0, 0])) = true := by decide +kernel
theorem test_alias_clear : runs (.bitClearAliasWrite 1 9 0 0x18 none) nibble up
    (fun _ t => done t && decide (t.mem.bytes scratchBase 4 = [0x07, 0, 0, 0])) = true := by decide +kernel
/-- Port B's enabled bytes prevail in the dual-port region. -/
theorem test_alias_port_b : runs (.bitSetAliasWrite 1 9 ⟨0x3FFFC, by decide⟩ 0x18 (some (2, 0xFFFF))) (mk openSram)
    (fun s => up s && dualPort 0x3FFFC)
    (fun _ t => done t && decide (t.mem.bytes (scratchBase + 0x3FFFC) 4 = [0x18, 0xFF, 0, 0])) = true := by decide +kernel
theorem test_alias_refused : runs (.bitClearAliasWrite 1 9 0 0x18 none) (mk fun b => b.put F.FLK_OD_SP_MASK 0)
    (fun s => up s && decide (onDieRefused s.blk 9 scratchBase 4 true ≠ none))
    (fun s t => within 1 [2, 3] s t && decide (t.blk.resp = .error)) = true := by decide +kernel
def case_alias_read : Bool := runs (.registerRead 1 9 0x28000000 0) nibble up
    (fun s t => only 1 [2] s t && decide (t.blk.resp = .data 0x0F))
theorem test_of_register_read : case_read_working = true := by
  decide +kernel
theorem test_of_register_read_more : (case_read_remapped && case_alias_read) = true := by
  decide +kernel
def case_alias_width : Bool := runs (.badWidthAccess 1 9 0x24000000 1 true) nibble up
    (fun s t => within 1 [2] s t && recs [0x0202] s t && decide (t.blk.resp = .error))
theorem test_of_bad_width_access : case_bad_width = true := by
  decide +kernel
theorem test_of_bad_width_access_more : (case_bad_alignment && case_alias_width) = true := by
  decide +kernel

/-! ## Lanes and MACs -/

/-- Lane 47 is enabled as a 25 Gb/s MAC in a powered quad whose PLL is locked; no cage input is mapped. -/
def lane47 (up : Nat) (b : Block) : Block :=
  puts [(F.LNK_L_CTL_EN, 1, 11, 3), (F.LNK_L_CTL_MODE, 2, 11, 3), (F.PWR_DOM_STAT_ON, 2 ^ 29, 0, 0), (F.LNK_Q_STAT_PLL_LOCK, 1, 11, 0),
    (F.LNK_CAGE_MAP_PRES, 64, 47, 0), (F.LNK_CAGE_MAP_MLOS, 64, 47, 0), (F.LNK_L_STAT_UP, up, 11, 3), (F.ETH_M_CTL_EN, 1, 11, 3)] b
theorem test_lane_up : runs (.laneUp 1 47) (mk (lane47 0)) (fun s => up s && laneReady s.blk 47)
    (fun s t => within 1 [75] s t && recs [0x4001] s t && t.blk.laneUp 47 && t.blk.on F.LNK_EVT_LANE_UP 11 &&
      decide (laneInEffect t.blk 47 = (2, 4))) = true := by decide +kernel
theorem test_lane_up_unlocked : runs (.laneUp 1 47) (mk fun b => (lane47 0 b).put F.LNK_Q_STAT_PLL_LOCK 0 11)
    (fun s => up s && !laneReady s.blk 47) (fun s t => only 1 [] s t) = true := by decide +kernel
theorem test_lane_down : runs (.laneDown 1 47 0x21) (mk (lane47 1)) up
    (fun s t => within 1 [75] s t && recs [0x4002] s t && !t.blk.laneUp 47 && decide (t.blk.get F.LNK_L_STAT_CAUSE 11 3 = 1 ∧
      t.blk.get F.LNK_L_CNT_LOSS 11 3 = 1 ∧ t.blk.get F.LNK_L_CNT_DOWNS 11 3 = 1)) = true := by decide +kernel
theorem test_pll_unlocked : runs (.pllUnlocked 1 11 false) (mk (lane47 1)) up
    (fun s t => within 1 [75] s t && recs [0x4003, 0x4002] s t && !t.blk.laneUp 47 && !t.blk.on F.LNK_Q_STAT_PLL_LOCK 11) = true := by decide +kernel
theorem test_pll_twice : runs (.pllUnlocked 1 11 true) (mk fun b => (lane47 0 b).put F.LNK_Q_STAT_PLL_LOCK 0 11) up
    (fun s t => only 1 [75] s t && t.blk.on F.LNK_Q_STAT_REF_ACT 11) = true := by decide +kernel
theorem test_pll_locked : runs (.pllLocked 1 11) (mk fun b => (lane47 0 b).put F.LNK_Q_STAT_PLL_LOCK 0 11) up
    (fun s t => only 1 [75] s t && t.blk.on F.LNK_Q_STAT_PLL_LOCK 11) = true := by decide +kernel
theorem test_pll_off : runs (.pllLocked 1 10) (mk (lane47 0)) (fun s => up s && !s.blk.quadOn 10) (fun s t => only 1 [] s t) = true := by decide +kernel
/-- The third equal sample of bit 63 counts; bit 0 has only two. -/
theorem test_cage_scan : runs (.cageScan 1 (2 ^ 63 + 1))
    (mk fun b => { puts [(F.LNK_CAGE_CTL_EN, 1, 0, 0), (F.LNK_CAGE_CTL_LEN, 64, 0, 0)] b with lanes := { scans := [2 ^ 63 + 1, 2 ^ 63] } }) up
    (fun s t => within 1 ((List.range 12).map (64 + ·)) s t && decide (cageInputs t.blk = 2 ^ 63 ∧ t.blk.lanes.scans = [2 ^ 63 + 1, 2 ^ 63 + 1])) = true := by decide +kernel
theorem test_cage_off : runs (.cageScan 1 1) (mk id) up (fun s t => only 1 [] s t) = true := by decide +kernel

/-- A broadcast frame of `n` octets before the FCS, of EtherType `e`. -/
def etherFrame (n : Nat) (e : List Byte) : List Byte := List.replicate 12 0xFF ++ e ++ List.replicate (n - 14) 0
def macRuns (action : Nat) (b : Block) : Block := (lane47 1 b).put F.ETH_DEF_ACTION action 11
def case_mac_down : Bool := runs (.macFrameReceive 1 47 (etherFrame 60 [8, 0]) true) (mk (lane47 0)) (fun s => up s && !macUp s.blk 47)
    (fun s t => only 1 [] s t)
def case_mac_fcs : Bool := runs (.macFrameReceive 1 47 (etherFrame 60 [8, 0]) false) (mk (macRuns 1)) (fun s => up s && macUp s.blk 47)
    (fun s t => within 1 [91] s t && t.blk.on F.ETH_EVT_DROPS 11 && decide (t.blk.get F.ETH_M_RXERR_FCS 11 3 = 1))
/-- 63 octets with the FCS are too short; 9217 are too long. -/
def case_mac_short : Bool := runs (.macFrameReceive 1 47 (etherFrame 59 [8, 0]) true) (mk (macRuns 1)) up
    (fun s t => within 1 [91] s t && decide (t.blk.get F.ETH_M_RXERR_SIZE 11 3 = 1))
def case_mac_long : Bool := runs (.macFrameReceive 1 47 (etherFrame 9213 [8, 0]) true) (mk (macRuns 1)) up
    (fun s t => within 1 [91] s t && decide (t.blk.get F.ETH_M_RXERR_SIZE 11 3 = 1))
def case_mac_pause : Bool := runs (.macFrameReceive 1 47 (etherFrame 60 [0x81, 0, 0, 5, 0x88, 8]) true) (mk (macRuns 1)) up
    (fun s t => within 1 [91] s t && decide (t.blk.get F.ETH_M_RXERR_PAUSE 11 3 = 1))
def case_mac_other : Bool := runs (.macFrameReceive 1 47 (0xFE :: (etherFrame 60 [8, 0]).tail) true) (mk (macRuns 1))
    (fun s => up s && !frameForUs s.blk 47 (0xFE :: (etherFrame 60 [8, 0]).tail)) (fun s t => only 1 [] s t)
def case_mac_filtered : Bool := runs (.macFrameReceive 1 47 (etherFrame 60 [8, 0]) true) (mk (macRuns 0)) up
    (fun s t => within 1 [91] s t && decide (t.blk.get F.ETH_M_RXERR_FILT 11 3 = 1 ∧ t.blk.get F.ETH_M_RXCNT_RX 11 3 = 1))
def case_mac_source : Bool := runs (.macFrameReceive 1 47 (etherFrame 9212 [8, 0]) true) (mk (macRuns 1)) up
    (fun s t => only 1 [91] s t && decide (t.blk.get F.ETH_M_RXCNT_RX 11 3 = 1 ∧ t.blk.get F.ETH_M_RXERR_SIZE 11 3 = 0))
def case_mac_ring : Bool := runs (.macFrameReceive 1 47 (etherFrame 60 [8, 0]) true) (mk (macRuns 2)) (fun s => up s &&
      decide ((frameAction s.blk 47 (etherFrame 60 [8, 0])).1 = 2))
    (fun s t => decide (t.clk = (s.pass 1).clk ∧ t.blk.get F.ETH_M_RXCNT_RX 11 3 = 1))

def case_filter : Bool := runs (.filterEntryApply 1 0 11 127 0x0000008B)
    (mk (staged [(F.ETH_F_CFG_ACTION.at 11 127 - 12, 0xE0000001), (F.ETH_F_CFG_ACTION.at 11 127 - 4, 5004)]))
    (fun s => let_ 0 (F.ETH_F_CFG_ACTION.at 11 127) s && decide (filterRefusal s.blk 11 0x00000089 = 0))
    (fun s t => within 1 [91, 2] s t && decide (filterRefusal s.blk 11 0x8B ≠ 0))
def case_filter_applied : Bool := runs (.filterEntryApply 1 0 11 127 0x00000089)
    (mk (staged [(F.ETH_F_CFG_ACTION.at 11 127 - 12, 0xE0000001), (F.ETH_F_CFG_ACTION.at 11 127 - 4, 5004)]))
    (let_ 0 (F.ETH_F_CFG_ACTION.at 11 127))
    (fun s t => only 1 [91, 2] s t && decide (t.blk.get F.ETH_F_DIP_DIP 11 127 = 0xE0000001 ∧ t.blk.get F.ETH_F_PORT_DPORT 11 127 = 5004 ∧
      t.blk.get F.ETH_F_CFG_LANES 11 127 = 8 ∧ t.blk.get F.ETH_F_CFG_EN 11 127 = 1))
def case_filter_refused : Bool := runs (.filterEntryApply 1 0 11 127 0x0000008F)
    (mk (staged [(F.ETH_F_CFG_ACTION.at 11 127 - 12, 0xE0000001)])) (let_ 0 (F.ETH_F_CFG_ACTION.at 11 127))
    (fun s t => within 1 [91, 2] s t && recs [0x5001] s t && t.blk.on F.ETH_EVT_CFG_ERR 11 &&
      decide (t.blk.get F.ETH_F_DIP_DIP 11 127 = 0 ∧ t.blk.get F.ETH_F_CFG_EN 11 127 = 0))
theorem test_of_filter_entry_apply : case_filter = true := by
  decide +kernel
theorem test_of_filter_entry_apply_more : (case_filter_applied && case_filter_refused) = true := by
  decide +kernel

/-- A UDP datagram to port 5004 with an RTP packet of number 12 that carries two pixels, and filter entry 127, which hands it to source 383. -/
def rtpFrame : List Byte :=
  List.replicate 12 0xFF ++ [8, 0] ++ ipHeader 0 53 64 1 2 ++ beBytes 2 9 ++ beBytes 2 5004 ++ beBytes 2 33 ++ [0, 0] ++
    [0x80, 0x80 + 96, 0, 12] ++ beBytes 4 900 ++ beBytes 4 7 ++ [0, 0] ++ beBytes 2 5 ++ List.replicate 9 0
def toSource (b : Block) : Block :=
  puts [(F.ETH_F_CFG_EN, 1, 11, 127), (F.ETH_F_CFG_ACTION, 1, 11, 127), (F.ETH_F_CFG_LANES, 8, 11, 127), (F.ETH_F_CFG_TARGET, 383, 11, 127),
    (F.LAD_SRC_PORT_PORT_A, 5004, 383, 0), (F.PWR_DOM_STAT_ON, 2 ^ 29 + 2 ^ 31, 0, 0)] (oneFree (running { highest := some 10, lowest := some (5, 0), nextFirst := some 5 } (pooled 3 (lane47 1 b))))
def case_mac_handed : Bool := runs (.macFrameReceive 1 47 rtpFrame true) (mk toSource)
    (fun s => up s && ladOn s.blk && decide (frameAction s.blk 47 rtpFrame = (1, 383, false)) &&
      (handedOf s.blk 383 false (udpPayload rtpFrame).1 (udpPayload rtpFrame).2).isSome)
    (fun s t => recs [] s t && decide ((t.blk.src 383).highest = some 12 ∧ t.blk.get F.ETH_M_RXCNT_RX 11 3 = 1))
theorem test_of_mac_frame_receive : case_mac_down = true := by
  decide +kernel
theorem test_of_mac_frame_receive_more : (case_mac_fcs && case_mac_short && case_mac_long && case_mac_pause &&
    case_mac_other && case_mac_filtered && case_mac_source && case_mac_ring &&
    case_mac_handed) = true := by
  decide +kernel

/-- Transmit ring 255 in granted DRAM: one entry with a stamp wanted, of 60 octets at 0x1_0000_1000. -/
def txRing (b : Block) : Block :=
  puts [(F.LAD_RING_CFG_EN, 1, 255, 0), (F.LAD_RING_CFG_DIR, 1, 255, 0), (F.LAD_RING_CFG_SIZE_LOG2, 2, 255, 0), (F.LAD_RING_TAIL_TAIL, 1, 255, 0),
    (F.LAD_RING_BASE_HI_BASE_HI, 1, 255, 0), (F.LAD_RING_PART_PART, 31, 255, 0), (F.ETH_M_TXR_RING_A, 255, 11, 3), (F.ETH_M_TXR_EN_A, 1, 11, 3)]
    (puts [(F.PWR_DOM_STAT_ON, 2 ^ 29 + 2 ^ 31, 0, 0)] (granted (lane47 1 b)))
def txMem (l : List (Nat × List Byte)) (s : State) : State :=
  holding ((0x100000000, leBytes 8 0x100001000 ++ leBytes 2 60 ++ [1, 0]) :: l) s
theorem test_transmit : runs (.macTransmit 1 47) (txMem [(0x100001000, [7, 8])] (mk txRing))
    (fun s => up s && macUp s.blk 47 && txPending s.blk 255 && decide (txSlot s.blk 47 0 = (true, 255, false)) &&
      !dramFails s.blk 5 31 0x100000000 32 true && !dramFails s.blk 5 31 0x100001000 60 false)
    (fun s t => sameRegs [24, 91] s t && recs [] s t && decide (t.blk.out = [.frame 47 ([7, 8] ++ List.replicate 58 0)] ∧
      t.blk.get F.ETH_M_TXCNT_TX 11 3 = 1 ∧ t.blk.get F.LAD_RING_HEAD_HEAD 255 = 1 ∧
      t.mem.bytes 0x10000000B 5 = [0x80, 4, 0, 0, 0])) = true := by decide +kernel
theorem test_transmit_down : runs (.macTransmit 1 46) (mk txRing) (fun s => up s && !macUp s.blk 46) (fun s t => only 1 [] s t) = true := by decide +kernel

/-! ## Sprue -/

/-- The pair link names the four lanes 0 to 3 in Sprue mode; version 1.2 is stored with rate 5 where `ver` is 2. -/
def sprue (st ver : Nat) (b : Block) : Block :=
  puts [(F.LNK_L_STAT_UP, 1, 0, 3), (F.SPR_K_CTL_NLANES, 4, 0, 0), (F.SPR_K_LANES_LANE1, 1, 0, 0), (F.SPR_K_LANES_LANE2, 2, 0, 0), (F.SPR_K_LANES_LANE3, 3, 0, 0),
    (F.LNK_L_CTL_MODE, 4, 0, 0), (F.LNK_L_CTL_MODE, 4, 0, 1), (F.LNK_L_CTL_MODE, 4, 0, 2), (F.LNK_L_CTL_MODE, 4, 0, 3),
    (F.SPR_K_CTL_VER_ST, ver, 0, 0), (F.SPR_K_CTL_RATE_ST, 5, 0, 0), (F.SPR_K_CTL_RATE_MAX, 5, 0, 0), (F.SPR_K_STAT_STATE, st, 0, 0),
    (F.XSP_STAT_STAGE, 1, 0, 0), (F.SPR_K_CTL_BLIND_MS, 1, 0, 0), (F.SPR_K_NEG_NEG_MS, 1, 0, 0), (F.SYS_STRAP_UNIT, 1, 0, 0)] b
def withSpr (x : SprLink) (b : Block) : Block := b.setSpr 0 x
def sprEn (b : Block) : Block := b.put F.SPR_K_CTL_EN 1 0

def case_link_enable : Bool := runs (.sprueLinkEnable 1 0 0) (mk (sprue sprDown 2))
    (fun s => let_ 0 (F.SPR_K_CTL_EN.at 0) s && decide (linkRefusal s.blk 0 = 0))
    (fun s t => within 1 [76, 2] s t && recs [] s t && t.blk.on F.SPR_K_CTL_EN 0 && decide (t.blk.sprState 0 = sprBlind ∧
      t.blk.get F.SPR_K_STAT_RATE 0 = 5 ∧ t.blk.get F.SPR_K_STAT_VER 0 = 2 ∧ (t.blk.spr 0).lanes = 15 ∧
      t.blk.out = (List.range 4).map fun j => .cap 0 j (ownCap t.blk 0 j)))
def case_link_negotiates : Bool := runs (.sprueLinkEnable 1 0 0) (mk (sprue sprDown 3)) (let_ 0 (F.SPR_K_CTL_EN.at 0))
    (fun _ t => decide (t.blk.sprState 0 = sprNeg ∧ t.blk.get F.SPR_K_STAT_RATE 0 = 0))
def case_link_waits : Bool := runs (.sprueLinkEnable 1 0 0) (mk fun b => (sprue sprDown 2 b).put F.XSP_STAT_STAGE 0) (let_ 0 (F.SPR_K_CTL_EN.at 0))
    (fun s t => only 1 [76, 2] s t && t.blk.on F.SPR_K_CTL_EN 0 && decide (t.blk.sprState 0 = sprDown))
def case_link_refused : Bool := runs (.sprueLinkEnable 1 0 0) (mk fun b => (sprue sprDown 2 b).put F.SPR_K_CTL_RATE_MAX 6 0)
    (let_ 0 (F.SPR_K_CTL_EN.at 0))
    (fun s t => within 1 [76, 2] s t && recs [0x4C08] s t && !t.blk.on F.SPR_K_CTL_EN 0 && t.blk.on F.SPR_EVT_CFG_ERR)
theorem test_of_sprue_link_enable : case_link_enable = true := by
  decide +kernel
theorem test_of_sprue_link_enable_more : (case_link_negotiates && case_link_waits && case_link_refused) = true := by
  decide +kernel

/-- The CAP of the other unit of the pair at position 0: version 1.2, its report on this lane good. -/
def capOf (part : Byte) : List Byte := [1, 0x12, 0x3F, 0, 0, 0x80, 0x40, part, 0]
def case_cap : Bool := runs (.cap 1 0 3 (capOf 0x72)) (mk fun b => withSpr { lanes := 15 } (sprue sprNeg 2 b))
    (fun s => up s && decide (capRefusal s.blk 0 (capOf 0x72) = 0))
    (fun s t => within 1 [76] s t && recs [] s t && decide (t.blk.out = [.cap 0 3 (ownCap t.blk 0 3)] ∧ t.blk.sprState 0 = sprNeg ∧ (t.blk.spr 0).seen = 8 ∧ (t.blk.spr 0).acked = 8 ∧
      t.blk.get F.SPR_K_PEER_VERMAX 0 = 0x12))
def case_cap_up : Bool := runs (.cap 1 0 3 (capOf 0x72)) (mk fun b => withSpr { lanes := 15, aligned := 12 } (sprue sprStep 2 b)) up
    (fun s t => within 1 [76] s t && recs [0x4C01] s t && decide (t.blk.sprState 0 = sprUpState ∧ t.blk.get F.SPR_K_STAT_MASK 0 = 12))
def case_cap_refused : Bool := runs (.cap 1 0 3 (capOf 0x73)) (mk fun b => withSpr { lanes := 15, aligned := 12 } (sprue sprBlind 2 b)) up
    (fun s t => within 1 [76] s t && recs [0x4C03] s t && decide (t.blk.sprState 0 = sprRefused ∧ t.blk.get F.SPR_K_STAT_REASON 0 = 0x10))
def case_cap_down : Bool := runs (.cap 1 0 3 (capOf 0x72)) (mk (sprue sprDown 2)) up (fun s t => only 1 [] s t)
theorem test_of_cap : case_cap = true := by
  decide +kernel
theorem test_of_cap_more : (case_cap_up && case_cap_refused && case_cap_down) = true := by
  decide +kernel
theorem test_go : runs (.go 1 0)
    (mk fun b => withSpr { lanes := 15, seen := 7, acked := 14, peerVer := 0x11, peerRates := 0x3F, excl := 16 } (sprue sprNeg 2 b)) up
    (fun s t => within 1 [76] s t && recs [] s t && decide (t.blk.sprState 0 = sprStep ∧ t.blk.get F.SPR_K_STAT_RATE 0 = 3 ∧
      t.blk.get F.SPR_K_STAT_VER 0 = 1 ∧ (t.blk.spr 0).lanes = 6 ∧
      t.blk.out = List.replicate 16 (.manage 0 2 1) ++ List.replicate 16 (.manage 0 2 2))) = true := by decide +kernel
theorem test_go_few : runs (.go 1 0) (mk fun b => withSpr { lanes := 15, seen := 1, acked := 15 } (sprue sprNeg 2 b)) up
    (fun s t => only 1 [] s t) = true := by decide +kernel
def case_blind_timeout : Bool := runs (.blindTimeout 250000 0) (mk fun b => withSpr { lanes := 15 } (sprue sprBlind 2 b)) up
    (fun s t => within 250000 [76] s t && recs [] s t && decide (t.blk.sprState 0 = sprNeg))
def case_blind_again : Bool := runs (.blindTimeout 250000 0) (mk fun b => withSpr { lanes := 15, seen := 1 } ((sprue sprBlind 2 b).put F.SPR_K_CTL_BRING 1 0)) up
    (fun s t => within 250000 [76] s t && recs [] s t && decide (t.blk.sprState 0 = sprBlind ∧ (t.blk.spr 0).seen = 0 ∧ (t.blk.spr 0).since = msTick))
def case_blind_early : Bool := runs (.blindTimeout 249999 0) (mk (sprue sprBlind 2)) up (fun s t => only 249999 [] s t)
theorem test_of_blind_timeout : case_blind_timeout = true := by
  decide +kernel
theorem test_of_blind_timeout_more : (case_blind_again && case_blind_early) = true := by
  decide +kernel
theorem test_negotiation_timeout : runs (.negotiationTimeout 250000 0) (mk (sprue sprNeg 2)) up
    (fun s t => within 250000 [76] s t && recs [] s t && decide (t.blk.sprState 0 = sprBlind)) = true := by decide +kernel
theorem test_negotiation_early : runs (.negotiationTimeout 249999 0) (mk (sprue sprNeg 2)) up (fun s t => only 249999 [] s t) = true := by decide +kernel
def case_rate_step : Bool := runs (.rateStepFailed 2500000 0) (mk fun b => (sprue sprStep 2 b).put F.SPR_K_STAT_RATE 3 0) up
    (fun s t => within 2500000 [76] s t && recs [0x4C04] s t && decide (t.blk.sprState 0 = sprNeg ∧ (t.blk.spr 0).excl = 8 ∧
      t.blk.get F.SPR_K_CNT2_FALLBACKS 0 = 1))
def case_rate_step_last : Bool := runs (.rateStepFailed 2500000 0) (mk (sprue sprStep 2)) up
    (fun s t => recs [0x4C04] s t && decide (t.blk.sprState 0 = sprBlind))
def case_rate_step_early : Bool := runs (.rateStepFailed 2499999 0) (mk (sprue sprStep 2)) up (fun s t => only 2499999 [] s t)
theorem test_of_rate_step_failed : case_rate_step = true := by
  decide +kernel
theorem test_of_rate_step_failed_more : (case_rate_step_last && case_rate_step_early) = true := by
  decide +kernel
theorem test_refused_retry : runs (.refusedRetry 250000000 0) (mk (sprue sprRefused 2)) up
    (fun s t => within 250000000 [76] s t && recs [] s t && decide (t.blk.sprState 0 = sprBlind)) = true := by decide +kernel
theorem test_refused_early : runs (.refusedRetry 249999999 0) (mk (sprue sprRefused 2)) up (fun s t => only 249999999 [] s t) = true := by decide +kernel

/-- A link that is up on the lanes of `mask`, at version 1.2. -/
def sprUpOn (mask : Nat) (x : SprLink) (b : Block) : Block :=
  puts [(F.SPR_K_STAT_MASK, mask, 0, 0), (F.SPR_K_STAT_VER, 2, 0, 0)] (sprEn (withSpr { x with lanes := 15, aligned := mask } (sprue sprUpState 2 b)))
def case_lane_aligned : Bool := runs (.laneAlignChange 1 0 3 true) (mk fun b => withSpr { lanes := 15, aligned := 1 } (sprue sprNeg 2 b)) up
    (fun s t => only 1 [] s t && decide ((t.blk.spr 0).aligned = 9 ∧ t.blk.sprState 0 = sprNeg))
def case_lane_lost : Bool := runs (.laneAlignChange 1 0 3 false) (mk (sprUpOn 11 {})) up
    (fun s t => within 1 [76] s t && recs [0x4C05] s t && decide (t.blk.sprState 0 = sprUpState ∧ t.blk.get F.SPR_K_STAT_MASK 0 = 3 ∧
      t.blk.out = [.manage 0 5 3]))
def case_lanes_too_few : Bool := runs (.laneAlignChange 1 0 3 false) (mk (sprUpOn 9 { unacked := [{ chan := 0, body := .octets [] }] })) up
    (fun s t => within 1 [76] s t && recs [0x4C02] s t && decide (t.blk.sprState 0 = sprBlind ∧ (t.blk.spr 0).unacked = []))
theorem test_of_lane_align_change : case_lane_aligned = true := by
  decide +kernel
theorem test_of_lane_align_change_more : (case_lane_lost && case_lanes_too_few) = true := by
  decide +kernel
theorem test_lane_down_told : runs (.sprueLaneDown 1 0 3) (mk (sprUpOn 11 {})) up
    (fun s t => within 1 [76] s t && recs [0x4C05] s t && t.blk.on F.SPR_EVT_P_LANE && decide (t.blk.get F.SPR_K_STAT_MASK 0 = 3)) = true := by decide +kernel
theorem test_lane_up_told : runs (.sprueLaneUp 1 0 3) (mk fun b => (sprUpOn 11 {} b).put F.SPR_K_STAT_MASK 3 0) up
    (fun s t => within 1 [76] s t && recs [0x4C05] s t && decide (t.blk.get F.SPR_K_STAT_MASK 0 = 11 ∧ t.blk.out = [.manage 0 6 3])) = true := by decide +kernel
theorem test_link_down : runs (.sprueLinkDown 1 0) (mk (sprUpOn 3 { resends := 8 })) up
    (fun s t => within 1 [76] s t && recs [0x4C02] s t && t.blk.on F.SPR_EVT_P_DOWN && decide (t.blk.sprState 0 = sprBlind ∧
      t.blk.get F.SPR_K_CNT2_DOWNS 0 = 1)) = true := by decide +kernel
theorem test_link_stays : runs (.sprueLinkDown 1 0) (mk (sprUpOn 3 { resends := 7 })) up (fun s t => only 1 [] s t) = true := by decide +kernel

/-- Two frames that are not acknowledged. -/
def unacked : List SprFrame := [{ chan := 0, body := .octets [1], seq := 65535 }, { chan := 1, body := .octets [2], seq := 0 }]
def sprTalks (x : SprLink) (b : Block) : Block := sprUpOn 15 { x with unacked, nextTx := 1 } b
def case_frame_in_order : Bool := runs (.sprueFrameReceive 1 0 true 4 65535 65535 0 (.octets [])) (mk (sprTalks { nextRx := 65535, nak := true })) up
    (fun s t => only 1 [] { s with blk := { s.blk with out := t.blk.out } } t && decide (t.blk.out = [.manage 0 4 65535] ∧ (t.blk.spr 0).nextRx = 0 ∧
      (t.blk.spr 0).unacked.map (·.seq) = [0] ∧ (t.blk.spr 0).nak = false))
def case_frame_unknown : Bool := runs (.sprueFrameReceive 1 0 true 9 0 5 0 (.octets [])) (mk (sprTalks {})) up
    (fun _ t => decide (t.blk.get F.SPR_K_CNT2_UNKNOWN 0 = 1 ∧ (t.blk.spr 0).nextRx = 1))
def case_frame_gap : Bool := runs (.sprueFrameReceive 1 0 true 4 6 0 0 (.octets [])) (mk (sprTalks { nextRx := 5 })) up
    (fun s t => within 1 [76] s t && decide (t.blk.out = [.manage 0 3 5] ∧ (t.blk.spr 0).nextRx = 5 ∧ t.blk.get F.SPR_K_CNT_CRC 0 = 1))
def case_frame_damaged : Bool := runs (.sprueFrameReceive 1 0 false 4 5 0 0 (.octets [])) (mk (sprTalks { nextRx := 5, nak := true })) up
    (fun s t => within 1 [76] s t && decide (t.blk.out = [] ∧ (t.blk.spr 0).nextRx = 5))
theorem test_ack : runs (.ack 1 0 0) (mk (sprTalks {})) up (fun s t => only 1 [] s t && decide ((t.blk.spr 0).unacked = [])) = true := by decide +kernel
theorem test_nak : runs (.nak 1 0 0) (mk (sprTalks {})) up
    (fun s t => within 1 [76] s t && decide ((t.blk.spr 0).unacked.map (·.seq) = [0] ∧ t.blk.get F.SPR_K_CNT_RESENT 0 = 1 ∧ t.blk.out.length = 1)) = true := by decide +kernel
theorem test_nak_next : runs (.nak 1 0 1) (mk (sprTalks {})) up
    (fun s t => only 1 [] s t && decide ((t.blk.spr 0).unacked = [])) = true := by decide +kernel
/-- 20 µs are 5000 cycles. -/
def case_replay : Bool := runs (.replayTimeout 5000 0) (mk (sprTalks { resends := 7 })) up
    (fun s t => within 5000 [76] s t && decide (t.blk.get F.SPR_K_CNT_RESENT 0 = 2 ∧ (t.blk.spr 0).resends = 8 ∧ t.blk.out.length = 2))
def case_replay_fails : Bool := runs (.replayTimeout 5000 0) (mk (sprTalks { resends := 8 })) up
    (fun s t => within 5000 [76] s t && recs [0x4C02] s t && decide (t.blk.sprState 0 = sprBlind))
def case_replay_early : Bool := runs (.replayTimeout 4999 0) (mk (sprTalks {})) up (fun s t => only 4999 [] s t)
theorem test_of_replay_timeout : case_replay = true := by
  decide +kernel
theorem test_of_replay_timeout_more : (case_replay_fails && case_replay_early) = true := by
  decide +kernel
def case_frame_link_down : Bool := runs (.sprueFrameReceive 1 0 true 4 0 0 0 (.octets [])) (mk (sprue sprStep 2)) up
    (fun s t => only 1 [] s t)
theorem test_of_sprue_frame_receive : case_frame_in_order = true := by
  decide +kernel
theorem test_of_sprue_frame_receive_more : (case_frame_unknown && case_frame_gap && case_frame_damaged && case_frame_link_down) = true := by
  decide +kernel

/-! ## Peers -/

/-- A ring of four with source 383 shared to position 3. -/
def sharing (n : Nat) (b : Block) : Block :=
  puts [(F.SPR_CFG_RING_N, n, 0, 0), (F.SPR_SH_CFG_SRC, 383, 63, 0), (F.SPR_SH_CFG_DEST, 8, 63, 0)] (running {} b)
theorem test_share : runs (.shareEnable 1 0 63) (mk (sharing 4)) (fun s => let_ 0 (F.SPR_SH_CFG_EN.at 63) s && decide (shareRefusal s.blk 63 = 0))
    (fun s t => only 1 [76, 2] s t && t.blk.on F.SPR_SH_CFG_EN 63 && decide (t.blk.share 63 = {})) = true := by decide +kernel
theorem test_share_refused : runs (.shareEnable 1 0 63) (mk (sharing 3)) (let_ 0 (F.SPR_SH_CFG_EN.at 63))
    (fun s t => within 1 [76, 2] s t && recs [0x4C08] s t && !t.blk.on F.SPR_SH_CFG_EN 63) = true := by decide +kernel
/-- Source 383 receives source 511 of position 3; its buffers lie in granted DRAM. -/
def peerRuns (x : SrcSt) (b : Block) : Block :=
  puts [(F.LAD_SRC_CTL_TRANSPORT, 3, 383, 0), (F.LAD_SRC_PORT_PORT_A, 3, 383, 0), (F.LAD_SRC_PORT_PORT_B, 511, 383, 0),
    (F.LAD_POOL_BASE_HI_BASE_HI, 1, 3, 0), (F.LAD_POOL_CFG_PART, 31, 3, 0), (F.PWR_DOM_STAT_ON, 2 ^ 31, 0, 0),
    (F.SPR_K_STAT_STATE, sprUpState, 2, 0)] (granted (running x b))
def peerHeader : List Byte := List.replicate 96 0
theorem test_peer_unknown : runs (.peerHead 1 2 3 510 7 peerHeader 0 0 0) (mk (peerRuns {})) (fun s => up s && decide (peerSource s.blk 3 510 = none))
    (fun s t => only 1 [76] s t && decide (t.blk.get F.SPR_K_CNT2_UNKNOWN 2 = 1)) = true := by decide +kernel
theorem test_peer_head : runs (.peerHead 1 2 3 511 7 peerHeader 0 0 0) (mk fun b => oneFree (peerRuns {} b))
    (fun s => up s && decide (peerSource s.blk 3 511 = some 383 ∧ s.blk.freeCount 3 ≠ 0 ∧ s.blk.poolCount 3 ≤ 16))
    (fun s t => only 1 [] s t && decide ((t.blk.src 383).peer = some (0, 7, 2) ∧ (t.blk.buf (bufKey 3 0)).state = .filling ∧
      (t.blk.buf (bufKey 3 0)).frame = 7)) = true := by decide +kernel
def peerOpen (b : Block) : Block := (peerRuns { peer := some (2, 7, 2) } b).setBuf (bufKey 3 2) { state := .filling, src := 383, frame := 7 }
/-- Two octets at the end of the first row of 384. -/
theorem test_peer_data : runs (.peerData 1 2 3 511 7 382 1 0x8000 [5, 6]) (mk peerOpen)
    (fun s => up s && !dramFails s.blk 5 31 (s.blk.rowAddr 3 2 0 + 382) 2 true)
    (fun s t => decide (t.blk.regs = s.blk.regs ∧ t.mem.bytes (s.blk.rowAddr 3 2 0 + 382) 2 = [5, 6] ∧
      (t.blk.buf (bufKey 3 2)).rowsReady = 1 ∧ (t.blk.buf (bufKey 3 2)).rowmark = 0x8000)) = true := by decide +kernel
theorem test_peer_end : runs (.peerEnd 1 2 3 511 7 (leBytes 20 0 ++ [7] ++ List.replicate 75 0)) (mk peerOpen) up
    (fun _ t => decide ((t.blk.src 383).peer = none ∧ (t.blk.buf (bufKey 3 2)).state = .ready ∧ (t.blk.buf (bufKey 3 2)).frame = 7 ∧
      t.blk.get F.LAD_SRC_STAT_NEWEST 383 = 2)) = true := by decide +kernel
theorem test_peer_abandon : runs (.peerAbandon 1 2 3 511 7) (mk peerOpen) up
    (fun s t => within 1 [76] s t && recs [0x4C06] s t && t.blk.on F.SPR_EVT_DROP && decide ((t.blk.src 383).peer = none ∧
      (t.blk.buf (bufKey 3 2)).state = .free)) = true := by decide +kernel

/-- Link 1 is up at a rate that takes time-stamps. -/
def timed (x : SprLink) (b : Block) : Block :=
  (puts [(F.SPR_K_STAT_STATE, sprUpState, 1, 0), (F.SPR_K_STAT_RATE, 5, 1, 0), (F.SPR_K_STAT_VER, 1, 1, 0), (F.SPR_TIME_CFG_DIR, 1, 0, 0), (F.SPR_K_STAT_MASK, 12, 1, 0)] b).setSpr 1 x
theorem test_time_exchange : runs (.timeExchange 250 1) (mk (timed { peerClient := true, count := 255 }))
    (fun s => up s && timeFit s.blk 1 && timeServer s.blk 1)
    (fun s t => within 250 [] s t && recs [] s t && decide ((t.blk.spr 1).count = 0 ∧ (t.blk.spr 1).t1 = 1000 ∧ t.blk.out = [.timeBlock 1 2 0])) = true := by decide +kernel
theorem test_time_block : runs (.timeBlock 250 1 255) (mk (timed {})) (fun s => up s && timeClient s.blk 1)
    (fun s t => within 250 [] s t && recs [] s t && decide ((t.blk.spr 1).count = 255 ∧ (t.blk.spr 1).t2 = 1000 ∧ (t.blk.spr 1).t3 = 1000 ∧
      t.blk.out = [.timeBlock 1 2 255])) = true := by decide +kernel
/-- t1 = 100, t2 = 1000, t3 = 1001, t4 = 300: the client is 800 ns ahead, the delay is 99 ns (R345). -/
theorem test_time_follow_up : runs (.timeFollowUp 1 1 9 100 300 2) (mk (timed { count := 9, t2 := 1000, t3 := 1001 })) up
    (fun s t => only 1 [76] s t && t.blk.on F.SPR_TIME_STAT_OK && decide (t.blk.get F.SPR_TIME_OFS_LO_OFS_LO = 800 ∧
      t.blk.get F.SPR_TIME_DLY_DLY = 99 ∧ t.blk.get F.SPR_TIME_STAT_SRV = 2)) = true := by decide +kernel

/-! ## DRAM and the scratchpad -/

/-- All ones of the capacity of 16 GiB (R351). -/
theorem test_dram_map : decide ((dramSub 0x4FFFFFFFF, dramBankOf 0x4FFFFFFFF, dramRow State.reset.blk 0x4FFFFFFFF) = (14, 0, 0x7FFF)) = true := by decide +kernel
/-- Partition 31 holds its first MiB, and the requests that wait. -/
def asked (l : List DramReq) (b : Block) : Block :=
  (granted ((b.put F.MEM_CTL_EN 1).put F.MEM_CFG_LINK_ECC 1)).setDram { b.dram with reqs := l }
def req (p a urg : Nat) : DramReq := { port := p, addr := a, len := 64, wr := none, deadline := 1000 * nsTick, target := 800 * nsTick, urg := urg, bursts := [0] }
def case_dram_small : Bool := runs (.dramRequest 1 22 31 0 0x1000FFFFF (.read 0)) (mk (asked []))
    (fun s => up s && portSmall s.blk 22 && !dramFails s.blk (portClass 22) 31 0x1000FFFC0 64 false)
    (fun s t => recs [] s t && decide (t.blk.dram.reqs.map (fun q => [q.port, q.addr, q.len, q.deadline, q.target]) =
      [[22, 0x1000FFFC0, 64, 4 * nsTick + portTarget s.blk 22 0, portTarget s.blk 22 0]]))
def case_dram_large : Bool := runs (.dramRequest 0 0 31 63 0x1000FFFFF (.write [none, some 5])) (mk (asked []))
    (fun s => up s && !portSmall s.blk 0) (fun _ t => decide (t.blk.dram.reqs.map (fun q => ([q.addr, q.len], q.bursts)) = [([0x1000FF800, 2048], [0])] ∧ t.blk.dram.reqs.map (·.wr) = [some [none, some 5]]))
/-- Port 5 has 16 requests of 2 KiB in its 32 KiB. -/
def case_dram_full : Bool := runs (.dramRequest 1 5 31 0 0x100000000 (.read 1)) (mk (asked (List.replicate 16 (req 5 dramBase 0))))
    (fun s => up s && !portRoom s.blk 5) (fun s t => only 1 [] s t && decide (t.blk.dram = s.blk.dram))
def case_dram_refused : Bool := runs (.dramRequest 1 0 30 0 0x100000000 (.read 0xFFFFFFFF)) (mk (asked []))
    (fun s => up s && dramFails s.blk 7 30 0x100000000 2048 false)
    (fun s t => within 1 [3, 9] s t && decide (t.blk.dram.reqs = [] ∧ t.blk.resp = .error))
theorem test_of_dram_request : case_dram_small = true := by
  decide +kernel
theorem test_of_dram_request_more : (case_dram_large && case_dram_full && case_dram_refused) = true := by
  decide +kernel
/-- The steps of urgency at their bounds: 3 up to the threshold, 2 up to a quarter, 1 up to half of the target. -/
theorem test_urgency : runs (.urgencyEval 0)
    (mk fun b => ((asked (let u := 2000 * nsTick
      [u, u + 1, 10 * u, 10 * u + 1, 20 * u, 20 * u + 1].map fun d => { req 22 dramBase 0 with deadline := d, target := 40 * u })) b).put
        F.MEM_REF_TREFI_NS 3906)
    (fun s => up s && decide (u3Ticks s.blk = 2000 * nsTick))
    (fun s t => only 0 [9] s t && decide (t.blk.dram.reqs.map (·.urg) = [3, 2, 2, 1, 1, 0] ∧ t.blk.get F.MEM_P_STAT_URG 22 = 3 ∧
      t.blk.get F.MEM_P_STAT_PEND 22 = 6)) = true := by decide +kernel
/-- The ninth request at urgency 3 of one subchannel waits. -/
theorem test_urgency_full : runs (.urgencyEval 0) (mk (asked (List.replicate 9 (req 22 dramBase 0)))) up
    (fun s t => within 0 [9] s t && recs [0x0909] s t && decide (t.blk.dram.reqs.map (·.waits) = List.replicate 8 false ++ [true] ∧
      u3Count t.blk.dram.reqs 0 = 8)) = true := by decide +kernel
theorem test_serve_order : decide ((nextServed {} (asked [req 20 dramBase 2, req 19 dramBase 3, req 18 dramBase 3] State.reset.blk) 0).map (·.port) =
    some 18) = true := by decide +kernel
def case_serve_none : Bool := runs (.dramRequestComplete 1 15 0 none false) (mk (asked [req 22 dramBase 0]))
    (fun s => up s && decide (nextServed (s.pass 1).clk s.blk 15 = none)) (fun s t => only 1 [] s t)
def case_serve_read : Bool := runs (.dramRequestComplete 251 0 0 none false) (holding [(dramBase, [1, 2, 3, 4])] (mk (asked [req 22 dramBase 0])))
    (fun s => up s && decide ((nextServed (s.pass 251).clk s.blk 0).isSome))
    (fun s t => decide (t.mem = s.mem ∧ t.blk.dram.reqs = [] ∧ t.blk.resp = .data 0x04030201 ∧ t.blk.get F.MEM_P_CNT_LATE 22 = 1 ∧
      tget {} t.blk.dram.banks 0 = { row := some 0, ctr := 2, last := 1004 * nsTick }))
/-- The second hit of an open row. -/
def case_serve_hit : Bool := runs (.dramRequestComplete 250 0 3 none false)
    (mk fun b => let b := asked [req 22 dramBase 0] b; b.setDram { b.dram with banks := [(0, { row := some 0, ctr := 2, last := 5 })] }) up
    (fun _ t => decide (t.blk.get F.MEM_P_CNT_LATE 22 = 0 ∧ tget {} t.blk.dram.banks 0 = { row := some 0, ctr := 3, last := 1000 * nsTick } ∧
      t.blk.get F.MEM_C_ERR_CORR 0 = 1))
def case_serve_write : Bool := runs (.dramRequestComplete 1 0 0 (some 5) false)
    (holding [(dramBase, [1, 2, 3, 4])] (mk fun b => (asked [{ req 18 dramBase 0 with wr := some [none, some 9, none, some 0] }] b).put F.MEM_CFG_LINK_ECC 0)) up
    (fun _ t => done t && decide (t.mem.bytes dramBase 5 = [1, 9, 3, 0, 0]))
def case_serve_bad : Bool := runs (.dramRequestComplete 1 0 32 (some 31) false)
    (mk fun b => asked [{ port := 0, addr := dramBase, len := 2048, wr := none, deadline := 5, target := 5, bursts := [1, 31] }] b) up
    (fun s t => recs [0x0906] s t && t.blk.on F.MEM_EVT_UNCORR && decide (t.mem = s.mem ∧ t.blk.resp = .none ∧
      t.blk.get F.MEM_C_ERR_UNCORR 0 = 1 ∧ t.blk.get2 F.MEM_ERR_ADDR_LO_ADDR_LO F.MEM_ERR_ADDR_HI_ADDR_HI = dramBase + 1984))
theorem test_of_dram_request_complete : case_serve_none = true := by
  decide +kernel
theorem test_of_dram_request_complete_more : (case_serve_read && case_serve_hit && case_serve_write && case_serve_bad) = true := by
  decide +kernel

def open255 (b : Block) : Block :=
  b.setDram { b.dram with clean := 3, banks := [(0, { row := some 1, ctr := 3, last := 0 }), (255, { row := some 7, ctr := 2, last := 10 * nsTick })] }
/-- The memories' domains are on and a refresh began at `at_`. -/
def refreshed (at_ : Nat) (b : Block) : Block :=
  let b := puts [(F.PWR_DOM_STAT_ON, 0x30000, 0, 0), (F.MEM_STAT_READY, 1, 0, 0), (F.MEM_REF_TREFI_NS, 3900, 0, 0)] b
  b.setDram { b.dram with refreshAt := at_ }
/-- Two intervals have passed: the second refresh began at 7800 ns, and stalls for 210 ns. -/
theorem test_refresh : runs (.refresh 1) (later (7802 * nsTick) (mk fun b => refreshed 0 (open255 b)))
    (fun s => up s && refreshDue (s.pass 1).clk s.blk)
    (fun s t => decide (t.blk.dram.refreshAt = 7800 * nsTick ∧ refreshStall t.clk t.blk = true ∧ nextServed t.clk t.blk 0 = none) && only 1 [] s t && decide ((tget {} t.blk.dram.banks 255).row = none ∧ (tget {} t.blk.dram.banks 0).row = none)) = true := by decide +kernel
theorem test_refresh_early : runs (.refresh 0) (later (3899 * nsTick) (mk fun b => refreshed 0 (open255 b))) up
    (fun s t => only 0 [] s t && decide (t.blk.dram = s.blk.dram)) = true := by decide +kernel
def case_mr4_hot : Bool := runs (.mr4Read 1 (List.replicate 15 (1, 0) ++ [(7, 2)])) (later (16 * msTick) (mk fun b => refreshed (16 * msTick) (open255 b)))
    (fun s => up s && refreshStall (s.pass 1).clk s.blk)
    (fun s t => within 1 (List.range' 9 9) s t && recs [0x0904] s t && t.blk.on F.MEM_EVT_DERATE && decide (t.blk.get F.MEM_REF_DERATE = 2 ∧
      t.blk.dram.clean = 0 ∧ t.blk.get F.MEM_C_STAT_MR4 7 = 7 ∧ t.blk.get F.MEM_C_STAT_MR4 6 = 1))
def case_mr4_clean : Bool := runs (.mr4Read 1 []) (later (16 * msTick) (mk fun b => (refreshed (16 * msTick) (open255 b)).put F.MEM_REF_DERATE 1)) up
    (fun s t => within 1 (List.range' 9 9) s t && recs [0x0904] s t && decide (t.blk.get F.MEM_REF_DERATE = 0 ∧ t.blk.dram.clean = 4))
def case_mr4_off : Bool := runs (.mr4Read 1 [(7, 2)]) (later (8 * msTick) (mk fun b => refreshed (8 * msTick) (open255 b))) up (fun s t => only 1 [] s t)
theorem test_of_mr4_read : case_mr4_hot = true := by
  decide +kernel
theorem test_of_mr4_read_more : (case_mr4_clean && case_mr4_off) = true := by
  decide +kernel
theorem test_page_idle : runs (.pageIdleClose 2 15 15) (mk fun b => (open255 b).put F.MEM_PAGE_IDLE_NS 0) up
    (fun s t => only 2 [] s t && decide (t.blk.dram.banks = s.blk.dram.banks)) = true := by decide +kernel
theorem test_page_closed : runs (.pageIdleClose 3 15 15) (mk fun b => (open255 b).put F.MEM_PAGE_IDLE_NS 0) up
    (fun s t => only 3 [] s t && decide ((tget {} t.blk.dram.banks 255).row = none ∧ (tget {} t.blk.dram.banks 0).row = some 1)) = true := by decide +kernel
theorem test_rdg_window : runs (.rdgWindowEnd 1) (later (32 * msTick) <| mk fun b => b.setDram { b.dram with guard := [(3, [{ row := 1, count := 9, port := 0 }])] }) up
    (fun s t => only 1 [] s t && decide (t.blk.dram.guard = [])) = true := by decide +kernel
theorem test_throttle_end : runs (.throttleEnd 2 23)
    (mk fun b => (b.put F.MEM_P_STAT_THROT 1 23).setDram { b.dram with throttles := [23, 22].map fun p => { port := p, sub := 0, until_ := 5 * nsTick, last := 0 } }) up
    (fun s t => only 2 [9] s t && !t.blk.on F.MEM_P_STAT_THROT 23 && decide (t.blk.dram.throttles.map (·.port) = [22])) = true := by decide +kernel
theorem test_throttle_stays : runs (.throttleEnd 1 23)
    (mk fun b => (b.put F.MEM_P_STAT_THROT 1 23).setDram { b.dram with throttles := [{ port := 23, sub := 0, until_ := 5 * nsTick, last := 0 }] }) up
    (fun s t => only 1 [] s t && t.blk.on F.MEM_P_STAT_THROT 23) = true := by decide +kernel
/-- The last block of 16 GiB. -/
theorem test_dram_scrub : runs (.dramScrubRead 1 32 (some 31))
    (later sTick (mk fun b => (asked [] (b.put F.MEM_STAT_READY 1)).setDram { b.dram with scrub := dramCapacity b - 2048 }))
    (fun s => up s && scrubTurn (s.pass 1).clk s.blk)
    (fun s t => within 1 [9, 10 + dramSub (dramBase + dramCapacity s.blk - 2048) / 2] s t && recs [0x0906] s t && decide (t.blk.dram.scrub = 0)) = true := by decide +kernel
theorem test_dram_scrub_off : runs (.dramScrubRead 1 32 none) (mk fun b => b) up
    (fun s t => only 1 [] s t && decide (t.blk.dram = s.blk.dram)) = true := by decide +kernel
def case_sram_hot : Bool := runs (.sramScrub 1 [0x10000004] [])
    (later (60 * sTick) (mk fun b => b.setDram { b.dram with words := [4 * nsTick, 8 * nsTick, 8 * nsTick, 60 * sTick].map fun t => (0x10000004, t) })) up
    (fun s t => only 1 [9] s t && t.blk.on F.MEM_EVT_HOT && decide (t.blk.get F.MEM_SRAM_HOT_ADDR = 0x10000004))
def case_sram_corrected : Bool := runs (.sramScrub 1 [8] []) (later (60 * sTick) (mk fun b => b.setDram { b.dram with words := [(8, 59 * sTick), (8, 0)] })) up
    (fun s t => only 1 [] s t && decide (t.blk.dram.words = [(8, 59 * sTick), (8, 60 * sTick + 4 * nsTick)] ∧
      t.blk.dram.sramCorr = [(1, 60 * sTick + 4 * nsTick)] ∧ t.blk.dram.sramAt = 60 * sTick + 4 * nsTick))
def case_sram_double : Bool := runs (.sramScrub 1 [] [(3, 4)]) (later (60 * sTick) (mk id)) up
    (fun s t => within 1 [9] s t && recs [0x0907] s t && t.blk.on F.MEM_EVT_SRAM_UE && decide (t.blk.uncorrectable = 1))
def case_sram_clean : Bool := runs (.sramScrub 1 [] []) (mk id) up (fun s t => only 1 [] s t)
theorem test_of_sram_scrub : case_sram_hot = true := by
  decide +kernel
theorem test_of_sram_scrub_more : (case_sram_corrected && case_sram_double && case_sram_clean) = true := by
  decide +kernel

/-- Channels 0 to 6 are in service and channel 7 is trained. -/
def channels (b : Block) : Block := puts [(F.MEM_STAT_SVC, 127, 0, 0), (F.MEM_C_STAT_TRAINED, 1, 7, 0), (F.MEM_CTL_EN, 1, 0, 0),
  (F.MEM_C_STAT_IN_SERVICE, 1, 0, 0)] b
theorem test_channel_service : runs (.channelService 1 0 7) (mk channels) (let_ 0 (F.MEM_C_CTL_SVC.at 7))
    (fun s t => only 1 [9, 17, 2] s t && t.blk.on F.MEM_C_STAT_IN_SERVICE 7 && t.blk.on F.MEM_STAT_READY && decide (t.blk.get F.MEM_STAT_SVC = 255)) = true := by decide +kernel
theorem test_channel_untrained : runs (.channelService 1 0 6) (mk channels) (let_ 0 (F.MEM_C_CTL_SVC.at 6))
    (fun s t => only 1 [9, 2] s t && t.blk.on F.MEM_EVT_WIGN) = true := by decide +kernel
theorem test_trained : runs (.trainedSet 1 0 6) (mk channels) (let_ 0 (F.MEM_C_CTL_SVC.at 6))
    (fun s t => within 1 [9, 16, 2] s t && recs [0x0901] s t && t.blk.on F.MEM_EVT_TRN_DONE && t.blk.on F.MEM_C_STAT_TRAINED 6 &&
      decide (t.blk.get F.MEM_STAT_TRAINED = 64)) = true := by decide +kernel
theorem test_trained_locked : runs (.trainedSet 1 0 0) (mk channels) (let_ 0 (F.MEM_C_CTL_SVC.at 0))
    (fun s t => only 1 [9, 2] s t && t.blk.on F.MEM_EVT_WIGN) = true := by decide +kernel
theorem test_comparator : runs (.comparatorRun 1 0 7) (mk fun b => (channels b).put F.MEM_C_TRN_STAT_FAIL 5 7) (let_ 0 (F.MEM_C_TRN_CTL_GO.at 7))
    (fun s t => only 1 [17, 2] s t && decide (t.blk.dram.runs = [7] ∧ t.blk.get F.MEM_C_TRN_STAT_FAIL 7 = 0)) = true := by decide +kernel
theorem test_comparator_locked : runs (.comparatorRun 1 0 0) (mk channels) (let_ 0 (F.MEM_C_TRN_CTL_GO.at 0))
    (fun s t => only 1 [9, 2] s t && t.blk.on F.MEM_EVT_WIGN && decide (t.blk.dram = s.blk.dram)) = true := by decide +kernel
theorem test_comparator_done : runs (.comparatorDone 1 7 0xFFFF 65536) (mk fun b => b.setDram { b.dram with runs := [7] }) up
    (fun s t => only 1 [17] s t && t.blk.on F.MEM_C_TRN_STAT_DONE 7 && decide (t.blk.get F.MEM_C_TRN_STAT_FAIL 7 = 0xFFFF ∧
      t.blk.get F.MEM_C_TRN_ERR_ERRS 7 = 65535)) = true := by decide +kernel
theorem test_comparator_none : runs (.comparatorDone 1 7 1 1) (mk id) up (fun s t => only 1 [] s t) = true := by decide +kernel
def case_mode_rfm : Bool := runs (.modeRegisterAccess 1 0 7 0xA5 true) (mk fun b => (channels b).put F.MEM_C_MR_MR 27 7) (let_ 0 (F.MEM_C_MR_GO.at 7))
    (fun s t => within 1 [17, 2] s t && recs [0x090A] s t && t.blk.on F.MEM_C_STAT_RFM_REQ 7 && decide (t.blk.get F.MEM_C_MR_DATA 7 = 0xA5))
def case_mode_read : Bool := runs (.modeRegisterAccess 1 0 7 0xA5 true) (mk channels) (let_ 0 (F.MEM_C_MR_GO.at 7))
    (fun s t => only 1 [17, 2] s t && decide (t.blk.get F.MEM_C_MR_DATA 7 = 0xA5))
def case_mode_write : Bool := runs (.modeRegisterAccess 1 0 7 0xA5 true) (mk fun b => (channels b).put F.MEM_C_MR_WR 1 7) (let_ 0 (F.MEM_C_MR_GO.at 7))
    (fun s t => only 1 [2] s t)
def case_mode_locked : Bool := runs (.modeRegisterAccess 1 0 0 0xA5 true) (mk channels) (let_ 0 (F.MEM_C_MR_GO.at 0))
    (fun s t => only 1 [9, 2] s t && t.blk.on F.MEM_EVT_WIGN)
theorem test_of_mode_register_access : case_mode_rfm = true := by
  decide +kernel
theorem test_of_mode_register_access_more : (case_mode_read && case_mode_write && case_mode_locked) = true := by
  decide +kernel
theorem test_mem_disable : runs (.memControllerDisable 1 0) (mk fun b => (channels b).put F.MEM_STAT_READY 1) (let_ 0 F.MEM_CTL_EN.addr)
    (fun s t => only 1 (2 :: List.range' 9 9) s t && !t.blk.on F.MEM_CTL_EN && !t.blk.on F.MEM_STAT_READY && !t.blk.on F.MEM_C_STAT_IN_SERVICE 0 &&
      decide (t.blk.get F.MEM_STAT_SVC = 0)) = true := by decide +kernel
theorem test_mem_drains : runs (.memControllerDisable 1 0) (mk fun b => let b := channels b; b.setDram { b.dram with reqs := [req 1 dramBase 0] })
    (let_ 0 F.MEM_CTL_EN.addr) (fun s t => only 1 (2 :: List.range' 9 9) s t && t.blk.on F.MEM_C_STAT_IN_SERVICE 0 &&
      decide (t.blk.get F.MEM_STAT_SVC = 127)) = true := by decide +kernel
/-- The bytes on both sides of the secure region's ends. -/
theorem test_tamper : runs (.tamper 1) (holding [(scratchBase + 0x77FFFF, [1, 2]), (scratchBase + 0x7FFFFF, [3, 4])] (mk id)) up
    (fun s t => recs [] s t && t.blk.on F.SPD_STAT_WIPING && decide (t.mem.bytes (scratchBase + 0x77FFFF) 2 = [1, 0] ∧
      t.mem.bytes (scratchBase + 0x7FFFFF) 2 = [0, 4])) = true := by decide +kernel
theorem test_wipe_done : runs (.secureWipeDone 1) (mk fun b => (b.put F.SPD_STAT_WIPING 1).setDram { b.dram with wipe := some { since := 0, cause := 0, old := 0, new := 0 } }) up
    (fun s t => within 1 [8, 21] s t && recs [0x0801] s t && t.blk.on F.SPD_STAT_WIPED && !t.blk.on F.SPD_STAT_WIPING && decide (t.blk.dram.wipe = none)) = true := by decide +kernel
theorem test_wipe_none : runs (.secureWipeDone 1) (mk id) up (fun s t => only 1 [] s t) = true := by decide +kernel

/-! ## Clusters, the Warden, its mailboxes, the Flask's rules -/

/-- Cluster 3 runs on a domain with power; it was kicked 100 s ago. -/
def cluster3 (b : Block) : Block :=
  (puts [(F.WDN_CL_STAT_RUN, 1, 3, 0), (F.WDN_CL_CTL_RUN, 1, 3, 0), (clusterBit F.WDN_STAT_CL_RUN 3, 1, 0, 0), (F.PWR_DOM_STAT_ON, 16, 0, 0),
    (F.WDN_CL_WDOG_MS, 255, 3, 0)] b).setCtl { b.ctl with kicks := [(3, 5)] }
theorem test_cluster_run : runs (.clusterRunWrite 1 0 3 true) (mk fun b => b.put (clusterBit F.WDN_STAT_CL_STOPPED 3) 1)
    (let_ 0 (F.WDN_CL_CTL_RUN.at 3)) (fun s t => only 1 [56, 2] s t && t.blk.on F.WDN_CL_STAT_RUN 3 && decide (t.blk.get F.WDN_STAT_CL_RUN = 8 ∧
      t.blk.get F.WDN_STAT_CL_STOPPED = 0 ∧ tget 0 t.blk.ctl.kicks 3 = 4 * nsTick)) = true := by decide +kernel
theorem test_cluster_stop : runs (.clusterRunWrite 1 0 3 false) (mk cluster3) (let_ 0 (F.WDN_CL_CTL_RUN.at 3))
    (fun s t => only 1 [56, 2] s t && !t.blk.on F.WDN_CL_STAT_RUN 3 && !t.blk.on F.WDN_CL_CTL_RUN 3 && decide (t.blk.get F.WDN_STAT_CL_RUN = 0)) = true := by decide +kernel
theorem test_kick : runs (.clusterWatchdogKick 1 4 3) (mk fun b => (cluster3 b).put F.FLK_P_PERM_PERM 0xFFFFF 56) (let_ 4 (F.WDN_CL_WDOG_KICK.at 3))
    (fun s t => only 1 [2] s t && decide (tget 0 t.blk.ctl.kicks 3 = 4 * nsTick)) = true := by decide +kernel
theorem test_kick_other : runs (.clusterWatchdogKick 1 0 3) (mk cluster3) (let_ 0 (F.WDN_CL_WDOG_KICK.at 3))
    (fun s t => only 1 [2] s t && decide (tget 0 t.blk.ctl.kicks 3 = 5)) = true := by decide +kernel
/-- 255 ms after the kick, and one tick before. -/
def overdue (n : Nat) (b : Block) : Block :=
  let b := cluster3 b
  b.setCtl { b.ctl with fihus := some { load := 0, len := 4, crc := crc32c [1, 2, 3, 4] }, expiries := List.replicate n (3, 5) }
def case_expiry_early : Bool := runs (.clusterWatchdogExpiry 0 3) (later (255 * msTick + 4) (mk (overdue 0))) up (fun s t => only 0 [] s t)
def case_expiry_restarts : Bool := runs (.clusterWatchdogExpiry 0 3)
    (holding [(workingBase, [1, 2, 3, 4])] (later (255 * msTick + 5) (mk (overdue 1)))) up
    (fun s t => within 0 [56] s t && recs [0x3803, 0x3804] s t && t.blk.on F.WDN_CL_STAT_RUN 3 && t.blk.on F.WDN_CL_STAT_EXPIRED 3 &&
      t.blk.on F.WDN_EVT_EXPIRE && decide (t.blk.get F.WDN_CL_STAT_RESTARTS 3 = 1))
def case_expiry_third : Bool := runs (.clusterWatchdogExpiry 0 3)
    (holding [(workingBase, [1, 2, 3, 4])] (later (255 * msTick + 5) (mk (overdue 2)))) up
    (fun s t => within 0 [56] s t && recs [0x3803, 0x3805] s t && !t.blk.on F.WDN_CL_STAT_RUN 3 && decide (t.blk.get F.WDN_STAT_CL_STOPPED = 8))
def case_expiry_halted : Bool := runs (.clusterWatchdogExpiry 0 3) (later (255 * msTick + 5) (mk fun b => (overdue 0 b).put F.WDN_STAT_LOCKSTEP 1)) up
    (fun s t => within 0 [56] s t && recs [0x3803] s t && !t.blk.on F.WDN_CL_STAT_RUN 3)
theorem test_of_cluster_watchdog_expiry : case_expiry_early = true := by
  decide +kernel
theorem test_of_cluster_watchdog_expiry_more : (case_expiry_restarts && case_expiry_third && case_expiry_halted) = true := by
  decide +kernel
theorem test_lockstep : runs (.lockstepMismatch 1 3 9) (mk id) up
    (fun s t => within 1 [5, 56] s t && recs [0x3801] s t && t.blk.on F.WDN_STAT_LOCKSTEP && t.blk.on F.PAIR_ST_FAILED && !issues t.blk 0) = true := by decide +kernel
theorem test_lockstep_again : runs (.lockstepMismatch 1 3 9) (mk fun b => b.put F.WDN_STAT_LOCKSTEP 1) up (fun s t => only 1 [] s t) = true := by decide +kernel
theorem test_check_period : runs (.selfCheckPeriod 0) (later (2 * sTick) (mk fun b => b.put F.PAIR_ST_PERIOD 2)) up
    (fun s t => only 0 [] s t && decide (t.blk.selfCheck = some (2 * sTick) ∧ t.blk.ctl.checkAt = 2 * sTick)) = true := by decide +kernel
theorem test_check_early : runs (.selfCheckPeriod 0) (later (2 * sTick - 1) (mk fun b => b.put F.PAIR_ST_PERIOD 2)) up
    (fun s t => only 0 [] s t && decide (t.blk.selfCheck = none)) = true := by decide +kernel
theorem test_check_go : runs (.selfCheckGo 1 0) (mk id) (let_ 0 F.WDN_SC_CTL_GO.addr)
    (fun s t => only 1 [2] s t && decide (t.blk.selfCheck = some (4 * nsTick))) = true := by decide +kernel
def case_check_passes : Bool := runs (.selfCheckDone 1 0) (mk fun b => { b.put F.FLK_RULE_CRC_CRC (ruleCrc b).toNat with selfCheck := some 0 }) up
    (fun s t => only 1 [56] s t && decide (t.blk.selfCheck = none ∧ t.blk.get F.WDN_SC_STAT_PASSED = 1))
def case_check_fails : Bool := runs (.selfCheckDone 1 5) (mk fun b => { b with selfCheck := some 0 })
    (fun s => up s && decide (s.blk.pair.selfVotes = [] ∧ s.blk.ctl.checkFor = [])) (fun _ _ => true)
def case_check_none : Bool := runs (.selfCheckDone 1 7) (mk id) up (fun s t => only 1 [] s t)
set_option maxRecDepth 100000 in
theorem test_of_self_check_done : case_check_passes = true := by
  decide +kernel
theorem test_of_self_check_done_more : (case_check_fails && case_check_none) = true := by
  decide +kernel
theorem test_port_gate : runs (.portGate 1 5) (mk fun b => puts [(F.MTX_STAT_GATED, 1, 0, 0), (F.MTX_GATE_IDLE, 1, 0, 0)] b) up
    (fun s t => only 1 [2] s t && decide (t.blk.get F.MTX_STAT_GATED = 33)) = true := by decide +kernel

theorem test_port_busy : runs (.portGate 1 5) (mk fun b => (b.put F.MTX_GATE_IDLE 2).setCtl { b.ctl with carried := [(5, 1)] }) up
    (fun s t => only 1 [] s t && decide (t.blk.get F.MTX_STAT_GATED = 0)) = true := by decide +kernel

/-- Cluster `k` asks for opcode `op` with its first argument; the ABI major number is that of the Warden. -/
def asks (k op arg : Nat) (b : Block) : Block :=
  ((b.put F.WDN_MB_REQ_REQ (b.get F.WDN_ABI_MAJOR * 2 ^ 24 + op * 256 + 0x5A) k).put F.WDN_MB_REQ_REQ arg k 2).put F.WDN_MB_REQ_REQ 2 k 1
def waits (k op arg : Nat) (b : Block) : Block := (asks k op arg b).put F.WDN_MB_STAT_BUSY 1 k
/-- The answer of mailbox `k` has the request's opcode and sequence, and a status with its words. -/
def answers (k op status : Nat) (l : List Nat) (t : State) : Bool :=
  decide (t.blk.get F.WDN_MB_RSP_RSP k % 65536 = op * 256 + 0x5A ∧ t.blk.get F.WDN_MB_RSP_RSP k 1 = status + 65536 * l.length ∧
    (List.range l.length).map (fun i => t.blk.get F.WDN_MB_RSP_RSP k (i + 2)) = l) && t.blk.on F.WDN_MB_STAT_DONE k && !t.blk.on F.WDN_MB_STAT_BUSY k
def case_ring : Bool := runs (.mailboxRing 1 0 3) (mk (asks 3 7 0)) (fun s => let_ 0 (F.WDN_MB_DB_RING.at 3) s && decide (mbEarly s.blk 3 = none))
    (fun s t => only 1 [56, 2] s t && t.blk.on F.WDN_MB_STAT_BUSY 3 && t.blk.on F.WDN_EVT_MB)
def case_ring_busy : Bool := runs (.mailboxRing 1 0 3) (mk (waits 3 7 0)) (let_ 0 (F.WDN_MB_DB_RING.at 3))
    (fun s t => only 1 [56, 2] s t && t.blk.on F.WDN_MB_STAT_OVR 3 && t.blk.on F.WDN_MB_STAT_BUSY 3)
def case_ring_unknown : Bool := runs (.mailboxRing 1 0 0) (mk (asks 0 8 0)) (let_ 0 (F.WDN_MB_DB_RING.at 0))
    (fun s t => within 1 [56, 2] s t && recs [0x3806] s t && answers 0 8 1 [] t)
def case_ring_forbidden : Bool := runs (.mailboxRing 1 0 2) (mk (asks 2 7 0)) (let_ 0 (F.WDN_MB_DB_RING.at 2))
    (fun s t => within 1 [56, 2] s t && recs [0x3806] s t && answers 2 7 3 [] t)
def case_ring_short : Bool := runs (.mailboxRing 1 0 3) (mk fun b => (asks 3 7 0 b).put F.WDN_MB_REQ_REQ 0 3 1) (let_ 0 (F.WDN_MB_DB_RING.at 3))
    (fun s t => within 1 [56, 2] s t && recs [0x3806] s t && answers 3 7 4 [] t)
theorem test_of_mailbox_ring : case_ring = true := by
  decide +kernel
theorem test_of_mailbox_ring_more : (case_ring_busy && case_ring_unknown && case_ring_forbidden && case_ring_short) = true := by
  decide +kernel
def case_hello_checked : Bool := runs (.mbHello 1) (mk fun b => { waits 3 1 0 b with selfCheck := some 0 }) up
    (fun s t => within 1 [56] s t && recs [0x3806] s t && answers 3 1 6 [] t)
def case_hello : Bool := runs (.mbHello 1) (mk (waits 3 1 0)) up (fun s t => only 1 [56] s t && answers 3 1 0
    [s.blk.get F.WDN_ABI_MAJOR * 2 ^ 24 + s.blk.get F.WDN_ABI_MINOR * 2 ^ 16, s.blk.get F.WDN_ABI_ROM, s.blk.get F.SYS_ID_STEP] t)
def case_hello_other : Bool := runs (.mbHello 1) (mk (waits 3 7 0)) up (fun s t => only 1 [] s t)
theorem test_of_mb_hello : case_hello_checked = true := by
  decide +kernel
theorem test_of_mb_hello_more : (case_hello && case_hello_other) = true := by
  decide +kernel
theorem test_release_early : runs (.mbRelease 1) (mk fun b => (waits 3 2 0 b).put F.MEM_STAT_READY 1) up
    (fun s t => within 1 [56] s t && recs [0x3806] s t && answers 3 2 5 [] t) = true := by decide +kernel
/-- Head 63 runs, head 0 does not. -/
theorem test_release : runs (.mbRelease 1)
    (mk fun b => let b := puts [(F.MEM_STAT_READY, 1, 0, 0), (F.XSP_STAT_STAGE, 2, 0, 0), (F.PWR_DOM_STAT_ON, 512, 0, 0), (F.FET_CTL_EN, 1, 0, 0),
        (F.FET_HEAD_CTL_EN, 1, 63, 0), (F.TIM_HEAD_STAT_RUN, 1, 63, 0)] (waits 3 2 0 b)
      b.setFet 0 { b.fet 0 with imgSlag := true }) (fun s => up s && s.blk.fetRuns 63)
    (fun s t => only 1 [36, 56] s t && answers 3 2 0 [] t && t.blk.on F.FET_PKT_GSTAT_RELEASED && t.blk.on F.FET_HEAD_CTL_SLAGFRAME 0 &&
      decide ((t.blk.fet 0).rel = 3 ∧ (t.blk.fet 63).rel = 1)) = true := by decide +kernel
def case_mb_switch : Bool := runs (.mbSwitch 1) (mk fun b => let b := puts [(F.PAIR_STAT_ROLE, roleStandby, 0, 0)] (waits 0 3 1 b)
      b.setPair { b.pair with count := 7 }) (fun s => up s && !s.blk.pairMode)
    (fun _ t => answers 0 3 5 [] t && decide (t.blk.pair.due = none))
def case_mb_switch_take : Bool := runs (.mbSwitch 1)
    (mk fun b => let b := puts [(F.PAIR_CFG_MODE, 1, 0, 0), (F.PAIR_STAT_ROLE, roleStandby, 0, 0), (F.PAIR_STAT_LINK, 1, 0, 0)] (waits 0 3 1 b)
      b.setPair { b.pair with count := 7 }) (fun s => up s && s.blk.pairMode && takeOk s.blk)
    (fun s t => answers 0 3 0 [(refTarget s.blk 2).toNat % 2 ^ 32, (refTarget s.blk 2).toNat / 2 ^ 32] t && decide (t.mem = s.mem ∧
      t.blk.pair.due = some (9, true, 2)))
def case_mb_switch_bad : Bool := runs (.mbSwitch 1) (mk (waits 0 3 3)) up
    (fun s t => within 1 [56] s t && recs [0x3806] s t && answers 0 3 4 [] t)
theorem test_of_mb_switch : case_mb_switch = true := by
  decide +kernel
theorem test_of_mb_switch_more : (case_mb_switch_take && case_mb_switch_bad) = true := by
  decide +kernel
/-- The reset rules give no mask of the Warden's windows away; a rule set that does is refused. -/
theorem test_mb_flask : runs (.mbFlask 1 (some [(0x404, 0x1000)])) (mk (waits 3 4 0)) (fun s => up s && !ruleSetBad s.blk (ruleWrites [(0x404, 0x1000)]))
    (fun s t => only 1 [3] s t && t.blk.on F.FLK_STAT_PENDING && decide (t.blk.ctl.flaskFor = some 3 ∧ t.blk.pendF.length = 1)) = true := by decide +kernel
theorem test_mb_flask_bad : runs (.mbFlask 1 (some [(0x2C0, 0)])) (mk (waits 3 4 0)) (fun s => up s && ruleSetBad s.blk (ruleWrites [(0x2C0, 0)]))
    (fun s t => within 1 [56] s t && recs [0x3806] s t && answers 3 4 4 [] t) = true := by decide +kernel
theorem test_mb_clear : runs (.mbLogClear 1) (mk fun b => (waits 0 5 0x5AF00C1E b).put F.WDN_MB_REQ_REQ 0xA50FF3E1 0 3) up
    (fun s t => only 1 [6] s t && t.blk.on F.LOG_STAT_CLEARING && decide (t.blk.ctl.clearFor = some 0)) = true := by decide +kernel
theorem test_mb_clear_key : runs (.mbLogClear 1) (mk (waits 0 5 0x5AF00C1E)) up
    (fun s t => within 1 [56] s t && recs [0x3806] s t && answers 0 5 4 [] t) = true := by decide +kernel
theorem test_mb_check : runs (.mbSelfCheck 1) (mk (waits 3 6 0)) up
    (fun s t => only 1 [] s t && decide (t.blk.ctl.checkFor = [3] ∧ t.blk.selfCheck = some (4 * nsTick))) = true := by decide +kernel
theorem test_mb_repour : runs (.mbRepour 1) (mk (waits 3 7 0x101)) (fun s => up s && !repourRefused s.blk 1 true)
    (fun s t => only 1 [22, 56] s t && answers 3 7 0 [] t && t.blk.on F.XSP_STAT_REPOUR &&
      decide (t.blk.start.repour.map (fun q => (q.copy, q.force)) = some (1, true))) = true := by decide +kernel

theorem test_flk_commit : runs (.flkCommit 1 0) (mk id) (let_ 0 F.FLK_COMMIT_GO.addr)
    (fun s t => only 1 [3, 2] s t && t.blk.on F.FLK_STAT_PENDING && decide (t.blk.ctl.goAt = 4 * nsTick) && !flaskDue t.clk t.blk) = true := by decide +kernel
theorem test_flk_commit_twice : runs (.flkCommit 1 0) (mk fun b => b.put F.FLK_STAT_PENDING 1) (let_ 0 F.FLK_COMMIT_GO.addr)
    (fun s t => only 1 [3, 2] s t && t.blk.on F.FLK_STAT_PENDING && t.blk.on F.FLK_EVT_WIGN) = true := by decide +kernel
/-- A write of slot 31's limit waits beside one of the composition; slot 30 covers what slot 31 will. -/
def rules (b : Block) : Block :=
  { puts [(F.FLK_STAT_PENDING, 1, 0, 0), (F.FLK_D_CFG_EN, 1, 31, 0), (F.FLK_D_BASE_BASE, 0x1000, 31, 0), (F.FLK_D_CFG_EN, 1, 30, 0),
      (F.FLK_D_BASE_BASE, 0x10FFF, 30, 0), (F.FLK_D_LIMIT_LIMIT, 0x10FFF, 30, 0), (F.FLK_STAT_COMMITS, 0xFFFF, 0, 0)] b with
    pendF := [{ addr := F.FLK_D_LIMIT_LIMIT.at 31, mask := 0xFFFFF, val := 0x10FFF }, { addr := F.CRU_M_ALPHA_PLANE.at 3 95, mask := 0xFF, val := 1 }] }
def case_flask_commits : Bool := runs (.flaskCommitInstant 1 false) (later (63 * nsTick) (mk rules)) (fun s => up s && flaskDue (s.pass 1).clk s.blk)
    (fun s t => within 1 [3] s t && recs [0x0302, 0x0304] s t && !t.blk.on F.FLK_STAT_PENDING && t.blk.on F.FLK_D_STAT_FAULT 31 && t.blk.on F.FLK_D_STAT_FAULT 30 &&
      !t.blk.on F.FLK_D_STAT_ACTIVE 31 && decide (t.blk.get F.FLK_D_LIMIT_LIMIT 31 = 0x10FFF ∧ t.blk.get F.FLK_STAT_COMMITS = 0 ∧
      t.blk.pendF.length = 1 ∧ t.blk.get F.FLK_EPOCH_EPOCH = 0))
def case_flask_drains : Bool := runs (.flaskCommitInstant 1 true) (later (63 * nsTick) (mk rules)) (fun s => up s && flaskDue (s.pass 1).clk s.blk) (fun _ _ => true)
def case_flask_no_commit : Bool := runs (.flaskCommitInstant 1 true) (mk id) up (fun s t => only 1 [] s t)
set_option maxRecDepth 100000 in
theorem test_of_flask_commit_instant : case_flask_commits = true := by
  decide +kernel
theorem test_of_flask_commit_instant_more : (case_flask_drains && case_flask_no_commit) = true := by
  decide +kernel
theorem test_epoch : runs (.flaskEpochAdvance 1) (mk fun b => puts [(F.FLK_EPOCH_EPOCH, 0xFFFF, 0, 0), (F.FLK_STAT_COMMITS, 0, 0, 0), (F.FLK_STAT_DRAIN, 1, 0, 0)] b) up
    (fun s t => only 1 [3] s t && t.blk.on F.FLK_EVT_EPOCH && !t.blk.on F.FLK_STAT_DRAIN && decide (t.blk.get F.FLK_EPOCH_EPOCH = 0)) = true := by decide +kernel
theorem test_epoch_none : runs (.flaskEpochAdvance 1) (mk id) up (fun s t => only 1 [] s t) = true := by decide +kernel

/-! ## Desk panels -/

/-- Panel 3 has drive pin 23 and sense pins 38 and 39, hence nodes 958 and 959; the report ring has 16 entries. -/
def panel3 (b : Block) : Block :=
  puts [(F.DSK_P_DRV_MASK, 2 ^ 23, 3, 0), (F.DSK_P_SNS_HI_MASK_HI, 0xC0, 3, 0), (F.DSK_RPT_CFG_SIZE_LOG2, 4, 0, 0), (F.DSK_RPT_BASE_BASE, 0x3FF0, 0, 0),
    (F.DSK_CTL_EN, 1, 0, 0), (F.DSK_STAT_PRESENT, 8, 0, 0), (F.PWR_DOM_STAT_ON, 2 ^ 30, 0, 0), (F.PAIR_STAT_TOKEN_DRV, 1, 0, 0)] b
/-- It runs, with thresholds 100 and 60, baselines 1000 and a scan due. -/
def scanned (x : PanelSt) (b : Block) : Block :=
  (puts [(F.DSK_P_STAT_RUN, 1, 3, 0), (F.DSK_P_TH_TOUCH_TH, 100, 3, 0), (F.DSK_P_TH_REL_TH, 60, 3, 0), (F.DSK_P_KEY_DEB, 2, 3, 0),
    (F.DSK_BL_BL0, 1000, 479, 0), (F.DSK_BL_BL1, 1000, 479, 0), (F.DSK_P_STAT_STEP, 2, 3, 0)] (panel3 b)).setPanel 3 { x with enabled := true, due := 1 }
/-- Memory changed at most in the report ring. -/
def reports (s t : State) : Bool :=
  let ring := scratchBase + 0x3FF00
  decide (t.mem.flash = s.mem.flash) && (s.mem.cells ++ t.mem.cells).all fun q =>
    (decide (ring ≤ q.1) && decide (q.1 < ring + 256)) || t.mem.byte q.1 == s.mem.byte q.1
def case_panel : Bool := runs (.panelEnable 1 0 3) (mk panel3) (fun s => let_ 0 (F.DSK_P_CTL_EN.at 3) s && decide (panelNodes s.blk 3 = [958, 959]))
    (fun s t => only 1 [20, 2] s t && t.blk.on F.DSK_P_CTL_EN 3 && t.blk.on F.DSK_P_STAT_RUN 3 && (t.blk.panel 3).enabled)
def case_panel_shares : Bool := runs (.panelEnable 1 0 3) (mk fun b => ((panel3 b).put F.DSK_P_SNS_HI_MASK_HI 0x80 0).setPanel 0 { enabled := true })
    (let_ 0 (F.DSK_P_CTL_EN.at 3)) (fun s t => within 1 [20, 2] s t && recs [0x1408] s t && t.blk.on F.DSK_EVT_CFG_ERR && !t.blk.on F.DSK_P_CTL_EN 3 &&
      !(t.blk.panel 3).enabled)
def case_panel_ring : Bool := runs (.panelEnable 1 0 3) (mk fun b => (panel3 b).put F.DSK_RPT_BASE_BASE 0x3FF1) (let_ 0 (F.DSK_P_CTL_EN.at 3))
    (fun s t => within 1 [20, 2] s t && recs [0x1408] s t)
theorem test_of_panel_enable : case_panel = true := by
  decide +kernel
theorem test_of_panel_enable_more : (case_panel_shares && case_panel_ring) = true := by
  decide +kernel
def case_scan_none : Bool := runs (.deskScan 1 3 [5, 5]) (later sTick (mk panel3)) up (fun s t => only 1 [] s t)
def case_scan_early : Bool := runs (.deskScan 1 3 [5, 5]) (mk fun b => (scanned {} b).put F.DSK_SCAN_FREQ 1) up (fun s t => only 1 [] s t)
/-- Node 959 at the threshold goes down at its second counting scan; node 958 is one below. -/
def case_key_down : Bool := runs (.deskScan 1 3 [901, 900]) (later sTick (mk (scanned { keys := [{ node := 959, run := 1 }] }))) up
    (fun s t => sameRegs [20, 4] s t && reports s t && decide (((t.blk.panel 3).keys.filter (·.down)).map (·.node) = [959] ∧
      t.blk.get F.DSK_P_STAT_STEP 3 = 2 ∧ (t.blk.panel 3).zero = true ∧ t.blk.get F.DSK_P_STAT_CONTACTS 3 = 1 ∧ t.blk.get F.DSK_RPT_HEAD_HEAD = 1 ∧
      nodeGet t.blk F.DSK_CNT_CNT0 958 = 901 ∧ (t.blk.panel 3).due = 0))
def case_key_stays : Bool := runs (.deskScan 1 3 [1000, 940]) (later sTick (mk (scanned { keys := [{ node := 959, run := 1, down := true }] }))) up
    (fun s t => reports s t && decide (((t.blk.panel 3).keys.filter (·.down)).map (·.node) = [959]))
def case_key_up : Bool := runs (.deskScan 1 3 [1000, 941]) (later sTick (mk (scanned { keys := [{ node := 959, run := 1, down := true }] }))) up
    (fun s t => reports s t && decide ((t.blk.panel 3).keys.filter (·.down) = [] ∧ t.blk.get F.DSK_RPT_HEAD_HEAD = 1))
/-- Both nodes in group 0: the lower node of a tie counts. -/
def case_key_group : Bool := runs (.deskScan 1 3 [900, 900]) (later sTick (mk (scanned { keys := [{ node := 958, run := 1 }, { node := 959, run := 1 }] }))) up
    (fun _ t => decide (((t.blk.panel 3).keys.filter (·.down)).map (·.node) = [958]))
def case_tracking : Bool := runs (.deskScan 1 3 [901, 1003]) (later sTick (mk fun b => (scanned {} b).put F.DSK_P_BLCFG_TRACK_SHIFT 1 3)) up
    (fun _ t => decide (baseline t.blk 958 = 950 ∧ baseline t.blk 959 = 1001 ∧ touches t.blk 3 = 0))
def case_surface : Bool := runs (.deskScan 1 3 [500, 1000]) (later sTick (mk fun b => puts [(F.DSK_P_CTL_KIND, 1, 3, 0), (F.DSK_P_SURF_NMAX, 1, 3, 0)] (scanned {} b))) up
    (fun s t => reports s t && decide ((t.blk.panel 3).contacts.length = 1 ∧ t.blk.get F.DSK_P_STAT_CONTACTS 3 = 1))
def case_surface_full : Bool := runs (.deskScan 1 3 [500, 1000]) (later sTick (mk fun b => puts [(F.DSK_P_CTL_KIND, 1, 3, 0), (F.DSK_P_SURF_NMAX, 0, 3, 0)] (scanned {} b))) up
    (fun _ t => decide ((t.blk.panel 3).contacts = [] ∧ t.blk.get F.DSK_P_CNT_EXCESS 3 = 1))
theorem test_of_desk_scan : case_scan_none = true := by
  decide +kernel
theorem test_of_desk_scan_more : (case_scan_early && case_key_down && case_key_stays && case_key_up &&
    case_key_group && case_tracking && case_surface && case_surface_full) = true := by
  decide +kernel
theorem test_idle_step : runs (.deskIdleStep 0 3) (later (5 * sTick) (mk fun b => (scanned { idle := some 0 } b).put F.DSK_P_IDLE_B_IDLE3 5 3)) up
    (fun s t => only 0 [20] s t && decide (t.blk.get F.DSK_P_STAT_STEP 3 = 3)) = true := by decide +kernel
theorem test_idle_early : runs (.deskIdleStep 0 3) (later (5 * sTick - 1) (mk fun b => (scanned { idle := some 0 } b).put F.DSK_P_IDLE_B_IDLE3 5 3)) up
    (fun s t => only 0 [] s t) = true := by decide +kernel
/-- Key 959 has been down for HOLD_S, key 958 one tick less. -/
theorem test_stuck : runs (.stuck 0 3) (later (7 * sTick) (mk fun b => puts [(F.DSK_P_HOLD_HOLD_S, 7, 3, 0), (F.DSK_CNT_CNT1, 33, 479, 0)]
      (scanned { keys := [{ node := 958, down := true, since := 1 }, { node := 959, down := true }] } b))) up
    (fun s t => sameRegs [20] s t && reports s t && t.blk.on F.DSK_EVT_STUCK && decide ((t.blk.panel 3).keys.map (·.node) = [958] ∧
      t.blk.get F.DSK_P_CNT_STUCK 3 = 1 ∧ baseline t.blk 959 = 33 ∧ (t.blk.panel 3).barred = [959])) = true := by decide +kernel
theorem test_stuck_none : runs (.stuck 0 3) (mk fun b => (scanned { keys := [{ node := 958, down := true }] } b).put F.DSK_P_HOLD_HOLD_S 7 3) up
    (fun s t => only 0 [] s t) = true := by decide +kernel
theorem test_occlusion_ends : runs (.occlusionTimeout 0 3) (later (7 * sTick) (mk fun b => puts [(F.DSK_P_BLCFG_OCC_S, 7, 3, 0), (F.DSK_CNT_CNT1, 33, 479, 0),
      (F.DSK_OCC_OCC31, 1, 29, 0)] (scanned { occ := [(958, 1), (959, 0)] } b))) up
    (fun s t => sameRegs [20] s t && reports s t && recs [0x1404] s t && !nodeOcc t.blk 959 && decide ((t.blk.panel 3).occ = [(958, 1)] ∧ baseline t.blk 959 = 33 ∧
      t.blk.get F.DSK_P_STAT_OCCLUDED 3 = 1)) = true := by decide +kernel
theorem test_unplug : runs (.unplug 1 3) (mk (scanned { keys := [{ node := 958, down := true }] })) up
    (fun s t => sameRegs [20] s t && reports s t && recs [0x1402] s t && !panelPresent t.blk 3 && !t.blk.on F.DSK_P_STAT_RUN 3 && t.blk.on F.DSK_EVT_PLUG &&
      decide (touches t.blk 3 = 0)) = true := by decide +kernel
theorem test_unplug_none : runs (.unplug 1 2) (mk panel3) up (fun s t => only 1 [] s t) = true := by decide +kernel
/-- A full ring takes no report. -/
theorem test_plug : runs (.plug 1 3) (mk fun b => (puts [(F.DSK_STAT_PRESENT, 0, 0, 0), (F.DSK_RPT_HEAD_HEAD, 15, 0, 0)] (panel3 b)).setPanel 3 { enabled := true }) up
    (fun s t => sameRegs [20] s t && reports s t && recs [0x1407, 0x1401] s t && panelPresent t.blk 3 && t.blk.on F.DSK_P_STAT_RUN 3 && t.blk.on F.DSK_EVT_PLUG &&
      decide ((t.blk.panel 3).start = some 1)) = true := by decide +kernel
theorem test_plug_none : runs (.plug 1 3) (mk panel3) up (fun s t => only 1 [] s t) = true := by decide +kernel
theorem test_snapshot_due : runs (.snapshotDue 0) (later (3600 * sTick) (mk fun b => (scanned {} b).put F.DSK_BLCFG_SAVE_H 1)) up
    (fun s t => only 0 [] s t && (t.blk.panel 3).snap && decide (t.blk.snapAt = 3600 * sTick) && !(t.blk.panel 2).snap) = true := by decide +kernel

/-! ## The recorder -/

/-- A pending ingot of a severity, and an ingot whose fields are all at their greatest. -/
def ing (sev optime : Nat) : Ingot := { code := 0x1234, sev := sev, origin := 6, optime := optime, pcyc := 9, seq := 255, p0 := 1, p1 := 2, p2 := 3, p3 := 4 }
def pend (sev : Nat) : Staged := { ing := ing sev 5, since := 0 }
def top : Ingot :=
  { code := 0xFFFE, sev := 255, origin := 255, optime := 0xFFFFFFFF, pcyc := 0xFFFFFF, seq := 255, p0 := 0xFFFFFFFF, p1 := 0, p2 := 0, p3 := 0xFFFFFFFF }
def event (sev : Nat) : Event := { code := 0x4321, sev := sev, origin := 7, p0 := 8 }
def logged (x : RecSt) (e : List Event) (b : Block) : Block := { (b.put F.LOG_STAT_READY 1).setLog x with evq := e }
theorem test_ingot : decide (top.bytes.length = 32 ∧ top.bytes ≠ emptySlot 0 ∧ readIngot top.bytes = some top ∧
    top.bytes.take 12 = [0xFE, 0xFF, 0xFF, 0xFF, 0xFF, 0xFF, 0xFF, 0xFF, 0xFF, 0xFF, 0xFF, 0xFF]) = true := by decide +kernel
theorem test_ingot_damaged : decide (readIngot (top.bytes.set 12 0) = none ∧ slotSeverity (top.bytes.set 12 0) = 0 ∧
    slotRank 65535 (top.bytes.set 12 0) < (ing 0 0).rank ∧ (ing 0 5).rank < (ing 0 6).rank) = true := by decide +kernel

def case_stage : Bool := runs (.ingotStage 1) (mk fun b => logged { buf := [pend 1], seqNext := 255 } [event 4, event 7]
      (puts [(F.LOG_CFG_BATCH_N, 3, 0, 0), (F.SYS_STRAP_UNIT, 1, 0, 0), (F.SYS_STRAP_POS, 3, 0, 0), (F.LOG_PCYC_PCYC, 9, 0, 0)] b)) up
    (fun s t => within 1 [6] s t && decide (t.blk.out = s.blk.out ∧ t.blk.evq = [event 7] ∧ t.blk.log.seqNext = 256 ∧ !t.blk.log.flush ∧
      t.blk.get F.LOG_CNT_PENDING = 2 ∧ (t.blk.log.buf.getD 1 (pend 0)).since = 4 * nsTick ∧ t.blk.log.buf.map (fun q =>
        [q.ing.code, q.ing.sev, q.ing.origin, q.ing.pcyc, q.ing.seq, q.ing.p0.toNat]) = [[0x1234, 1, 6, 9, 255, 1], [0x4321, 4 + 8 + 48, 7, 9, 255, 8]]))
def case_stage_batch : Bool := runs (.ingotStage 1) (mk fun b => logged { buf := [pend 1], seqNext := 256 } [event 4]
      (puts [(F.LOG_CFG_BATCH_N, 2, 0, 0), (F.LOG_OPTIME_OPTIME, 0xFFFFFFFF, 0, 0)] b)) up
    (fun _ t => t.blk.log.flush && t.blk.on F.LOG_STAT_FLUSHING && decide (t.blk.log.seqNext = 1 ∧ t.blk.get F.LOG_OPTIME_OPTIME = 0 ∧ t.blk.log.lead = 1 ∧
      t.blk.log.buf.map (·.ing.seq) = [255, 0]))
def case_stage_severe : Bool := runs (.ingotStage 1) (mk fun b => logged {} [event 5] (b.put F.LOG_CFG_BATCH_N 9)) up
    (fun _ t => t.blk.log.flush && t.blk.on F.LOG_EVT_SEV5)
def case_stage_none : Bool := runs (.ingotStage 1) (mk (logged {} [])) up (fun s t => only 1 [] s t)
/-- 1024 are pending: one of severity 4 replaces the newest of severity 3, one of severity 3 is lost. -/
def many : List Staged := List.replicate 1022 (pend 4) ++ [{ pend 3 with since := 1 }, pend 3]
def case_stage_replaces : Bool := runs (.ingotStage 1) (mk (logged { buf := many } [event 4])) up
    (fun s t => within 1 [6] s t && t.blk.on F.LOG_EVT_DROP && decide (t.blk.get F.LOG_CNT_STAGE_DROP = 1 ∧ t.blk.log.buf.length = 1024 ∧
      (t.blk.log.buf.drop 1022).map (·.ing.code) = [0x1234, 0x4321] ∧ (t.blk.log.buf.getD 1022 (pend 0)).since = 1))
def case_stage_lost : Bool := runs (.ingotStage 1) (mk (logged { buf := many } [event 3])) up
    (fun s t => t.blk.on F.LOG_EVT_DROP && decide (t.blk.get F.LOG_CNT_STAGE_DROP = 1 ∧ t.blk.log.buf = s.blk.log.buf))
/-- Without a store the buffer holds the newest 4096. -/
def case_stage_full : Bool := runs (.ingotStage 1) (mk fun b => logged { buf := List.replicate 4096 (pend 1) } [event 3] (b.put F.LOG_STAT_NOSTORE 1)) up
    (fun _ t => t.blk.on F.LOG_EVT_DROP && decide (t.blk.log.buf.length = 4096))
theorem test_batch_timeout : runs (.batchTimeout 0) (later (10 * msTick) (mk fun b => logged { buf := [pend 1] } [] (b.put F.LOG_CFG_BATCH_MS 10))) up
    (fun s t => only 0 [6] s t && t.blk.log.flush && t.blk.on F.LOG_STAT_FLUSHING) = true := by decide +kernel
theorem test_batch_early : runs (.batchTimeout 0) (later (10 * msTick - 1) (mk fun b => logged { buf := [pend 1] } [] (b.put F.LOG_CFG_BATCH_MS 10))) up
    (fun s t => only 0 [] s t) = true := by decide +kernel
def case_optime : Bool := runs (.optimeTick 0) (later 7 (mk fun b => logged { opNext := 7, seqNext := 9 } [] (b.put F.LOG_OPTIME_OPTIME 0xFFFFFFFF))) up
    (fun s t => only 0 [6] s t && decide (t.blk.get F.LOG_OPTIME_OPTIME = 0 ∧ t.blk.log.seqNext = 0 ∧ t.blk.log.opNext = 7 + 878906250 * nsTick))
def case_optime_leads : Bool := runs (.optimeTick 0) (later 7 (mk (logged { opNext := 7, lead := 1, seqNext := 9 } []))) up
    (fun s t => only 0 [6] s t && decide (t.blk.get F.LOG_OPTIME_OPTIME = s.blk.get F.LOG_OPTIME_OPTIME ∧ t.blk.log.lead = 0 ∧ t.blk.log.seqNext = 9))
def case_optime_early : Bool := runs (.optimeTick 0) (later 6 (mk (logged { opNext := 7 } []))) up (fun s t => only 0 [] s t)
theorem test_of_optime_tick : case_optime = true := by
  decide +kernel
theorem test_of_optime_tick_more : (case_optime_leads && case_optime_early) = true := by
  decide +kernel
theorem test_pfail_rise : runs (.pfailRise 1) (mk id) up (fun s t => only 1 [] s t) = true := by decide +kernel
/-- The store has a damaged slot and the greatest ingot, whose P3 is no drop count; a 0x0601 ingot gives that. -/
def store : List (Nat × List Byte) := [(0, [1]), (5, top.bytes), (65535, { ing 2 5 with code := 0x0601 }.bytes)]
def case_rebuild : Bool := runs (.storeRebuild 1 0xABCD)
    (mk fun b => { puts [(F.MRS_ID_EXPECT, 0xABCD, 0, 0)] b with evq := [], log := { buf := [pend 1], store := store } }) up
    (fun s t => only 1 [6, 23] s t && t.blk.on F.LOG_STAT_READY && decide (t.blk.get F.LOG_PCYC_PCYC = 0 ∧ t.blk.get F.LOG_DROP_COUNT = 4 ∧
      t.blk.log.store = s.blk.log.store ∧ t.blk.get F.LOG_OPTIME_OPTIME = (s.blk.get F.LOG_OPTIME_OPTIME + 0xFFFFFFFF) % 2 ^ 32 ∧
      t.blk.log.buf.map (fun q => [q.ing.code, q.ing.pcyc, q.ing.optime]) = [[0x1234, 0, 4],
        [0x0601, 0, t.blk.get F.LOG_OPTIME_OPTIME]] ∧ (t.blk.log.buf.getD 1 (pend 0)).ing.p1 = 2 ∧ (t.blk.log.buf.getD 1 (pend 0)).ing.p2 = 1))
def case_rebuild_other : Bool := runs (.storeRebuild 1 0xABCE)
    (mk fun b => { puts [(F.MRS_ID_EXPECT, 0xABCD, 0, 0)] b with evq := [], log := { buf := [pend 1], store := store } }) up
    (fun s t => only 1 [6, 23] s t && !t.blk.on F.LOG_STAT_READY && t.blk.on F.LOG_STAT_NOSTORE && decide (t.blk.get F.MRS_ID_READ = 0xABCE ∧
      (t.blk.log.buf.getD 1 (pend 0)).ing.code = 0x0605 ∧ (t.blk.log.buf.getD 1 (pend 0)).ing.p0 = 0xABCE))
def case_rebuild_again : Bool := runs (.storeRebuild 1 1) (mk (logged {} [])) up (fun s t => only 1 [] s t)
theorem test_of_store_rebuild : case_rebuild = true := by
  decide +kernel
theorem test_of_store_rebuild_more : (case_rebuild_other && case_rebuild_again) = true := by
  decide +kernel

def flushing (l : List Staged) (m : List (Nat × List Byte)) (b : Block) : Block := logged { buf := l, store := m, flush := true } [] b
def case_write : Bool := runs (.ingotWrite 1 true) (mk (flushing [{ pend 1 with pending := false }, pend 2, pend 3] store)) up
    (fun s t => only 1 [6] s t && decide (t.blk.log.buf.map (·.pending) = [false, false, true] ∧ t.blk.get F.LOG_CNT_PENDING = 1))
def case_write_fails : Bool := runs (.ingotWrite 1 false) (mk (flushing [pend 2] store)) up
    (fun s t => within 1 [6, 23] s t && t.blk.on F.LOG_STAT_NOSTORE && decide (t.blk.get F.MRS_STAT_WFAIL = 1 ∧ t.blk.get F.LOG_CNT_PENDING = 0 ∧
      t.blk.log.buf.map (·.ing.code) = [0x1234, 0x0605]))
/-- A full store meets the premises of the overwrite and of the drop. -/
theorem test_write_full : ∃ s : State, s.blk.hold = .none ∧ s.blk.quiet = true ∧ storeWritable s.blk = true ∧ s.blk.log.flush = true ∧
    s.blk.log.buf = [] ++ pend 2 :: [] ∧ 65536 ≤ s.blk.log.store.length ∧ ∃ r ∈ s.blk.log.store, slotSeverity r.2 ≤ (pend 2).ing.severity :=
  ⟨mk (flushing [pend 2] (List.replicate 65536 (7, (ing 2 9).bytes))), by decide +kernel, by decide +kernel, by decide +kernel, rfl, rfl,
    Nat.le_of_eq List.length_replicate.symm, (7, (ing 2 9).bytes), List.mem_replicate.mpr ⟨by decide, rfl⟩, by decide +kernel⟩
theorem test_write_drop : ∃ s : State, s.blk.hold = .none ∧ s.blk.quiet = true ∧ storeWritable s.blk = true ∧ s.blk.log.flush = true ∧
    s.blk.log.buf = [] ++ pend 2 :: [] ∧ 65536 ≤ s.blk.log.store.length ∧ ∀ r ∈ s.blk.log.store, (pend 2).ing.severity < slotSeverity r.2 :=
  ⟨mk (flushing [pend 2] (List.replicate 65536 (7, (ing 3 9).bytes))), by decide +kernel, by decide +kernel, by decide +kernel, rfl, rfl,
    Nat.le_of_eq List.length_replicate.symm, fun r h => by rw [List.eq_of_mem_replicate h]; decide +kernel⟩
def case_write_none : Bool := runs (.ingotWrite 1 true) (mk (logged { buf := [pend 2] } [])) (fun s => up s && decide (s.blk.get F.LOG_CFG_BATCH_N ≠ 1))
    (fun s t => only 1 [] s t && decide (t.blk.log.store = s.blk.log.store))
theorem test_of_ingot_write : case_write = true := by
  decide +kernel
theorem test_of_ingot_write_more : (case_write_fails && case_write_none) = true := by
  decide +kernel
def case_pfail_stopped : Bool := runs (.powerFailFlush 1 none) (mk (logged { buf := [pend 2], stopped := true } [])) up
    (fun s t => only 1 [1] s t && t.blk.on F.PWR_STAT_PFAIL && decide (t.blk.log.store = []))
def case_pfail_flush : Bool := runs (.powerFailFlush 1 none) (mk (flushing [pend 2, pend 5] store)) (fun s => up s && storeWritable s.blk)
    (fun _ _ => true)
def case_pfail_empty : Bool := runs (.powerFailFlush 1 none) (mk (flushing [] store)) up
    (fun s t => only 1 [1, 6] s t && decide (t.blk.log.buf.map (fun q => [q.ing.code, q.ing.sev % 128]) = [[0x0603, 69]] ∧ pendings t.blk = []))
theorem test_of_power_fail_flush : case_pfail_stopped = true := by
  decide +kernel
theorem test_of_power_fail_flush_more : (case_pfail_flush && case_pfail_empty) = true := by
  decide +kernel
/-- Three of severity 7: one in the FIELD state stays. -/
def case_clear_done : Bool := runs (.blackBoxClear 1)
    (mk fun b => { puts [(F.LOG_STAT_CLEARING, 1, 0, 0), (F.SYS_LC_STATE, 1, 0, 0), (F.LOG_DROP_COUNT, 9, 0, 0)]
      (logged { store := (2, (ing 6 5).bytes) :: store } [] b) with ctl := { clearFor := some 3 } }) up
    (fun s t => only 1 [6, 56] s t && !t.blk.on F.LOG_STAT_CLEARING && t.blk.on F.LOG_EVT_CLEARED && t.blk.on F.WDN_MB_STAT_DONE 3 &&
      decide (t.blk.log.store = [(5, top.bytes)] ∧ t.blk.get F.LOG_DROP_COUNT = 0 ∧ t.blk.log.buf.map (·.ing.code) = [0x0604] ∧
      t.blk.log.buf.map (·.ing.p0) = [3]))
def case_clear_field : Bool := runs (.blackBoxClear 1)
    (mk fun b => puts [(F.LOG_STAT_CLEARING, 1, 0, 0), (F.SYS_LC_STATE, 2, 0, 0)] (logged { store := store } [] b)) up
    (fun s t => only 1 [6, 56] s t && decide (t.blk.log.store = []))
def case_clear_none : Bool := runs (.blackBoxClear 1) (mk (logged { store := store } [])) up
    (fun s t => only 1 [] s t && decide (t.blk.log.store = s.blk.log.store))
theorem test_of_black_box_clear : case_clear_done = true := by
  decide +kernel
theorem test_of_black_box_clear_more : (case_clear_field && case_clear_none) = true := by
  decide +kernel
def case_key_first : Bool := runs (.clearKeyWrite 1 0 0x5AF00C1E) (mk (logged {} [])) (let_ 0 F.LOG_CLR_KEY_KEY.addr)
    (fun s t => only 1 [2] s t && decide (t.blk.log.key = some (4 * nsTick)))
def case_key_second : Bool := runs (.clearKeyWrite 0 0 0xA50FF3E1) (later msTick (mk (logged { key := some 0 } []))) (let_ 0 F.LOG_CLR_KEY_KEY.addr)
    (fun s t => only 0 [6, 2] s t && t.blk.on F.LOG_STAT_CLEARING && decide (t.blk.log.key = none))
def case_key_late : Bool := runs (.clearKeyWrite 0 0 0xA50FF3E1) (later (msTick + 1) (mk (logged { key := some 0 } []))) (let_ 0 F.LOG_CLR_KEY_KEY.addr)
    (fun s t => only 0 [6, 2] s t && t.blk.on F.LOG_EVT_WIGN && !t.blk.on F.LOG_STAT_CLEARING)
def case_key_twice : Bool := runs (.clearKeyWrite 0 0 0x5AF00C1E) (mk (logged { key := some 0 } [])) (let_ 0 F.LOG_CLR_KEY_KEY.addr)
    (fun s t => only 0 [6, 2] s t && t.blk.on F.LOG_EVT_WIGN)
theorem test_of_clear_key_write : case_key_first = true := by
  decide +kernel
theorem test_of_clear_key_write_more : (case_key_second && case_key_late && case_key_twice) = true := by
  decide +kernel

theorem test_cursor : runs (.cursorFirstOfPcyc 1 0 9) (mk fun b => (logged {} [] b).put F.LOG_CUR_STAT_END 1) (let_ 0 F.LOG_CURSOR_CMD.addr)
    (fun s t => only 1 [6, 2] s t && t.blk.on F.LOG_CUR_STAT_BUSY && !t.blk.on F.LOG_CUR_STAT_END && decide (t.blk.log.move = some (.firstOf 9))) = true := by decide +kernel
theorem test_step_older : runs (.stepOlder 1 0) (mk (logged {} [])) (let_ 0 F.LOG_STEP_DIR.addr)
    (fun s t => only 1 [6, 2] s t && t.blk.on F.LOG_CUR_STAT_BUSY && decide (t.blk.log.move = some .older)) = true := by decide +kernel
def moving (mv : LogMove) (cur : Option Nat) : State := mk (logged { buf := [pend 1], store := store, move := some mv, cur := cur } [])
def case_move_oldest : Bool := runs (.cursorMoveDone 1) (moving .oldest none) up
    (fun s t => only 1 [6] s t && t.blk.on F.LOG_CUR_STAT_VALID && t.blk.on F.LOG_CUR_STAT_DAMAGED && !t.blk.on F.LOG_CUR_STAT_BUSY &&
      decide (t.blk.log.cur = some 0 ∧ t.blk.get F.LOG_WIN_WIN 0 = 1))
def case_move_newest : Bool := runs (.cursorMoveDone 1) (moving .newest none) up
    (fun s t => only 1 [6] s t && t.blk.on F.LOG_CUR_STAT_VALID && !t.blk.on F.LOG_CUR_STAT_DAMAGED && !t.blk.on F.LOG_CUR_STAT_PENDING &&
      decide (t.blk.get F.LOG_CUR_STAT_SLOT = 5 ∧ t.blk.get F.LOG_WIN_WIN 0 = 0xFFFFFFFE))
def case_move_newer : Bool := runs (.cursorMoveDone 1) (moving .newer (some 0)) up
    (fun s t => only 1 [6] s t && decide (t.blk.log.cur = some (ing 0 5).rank))
def case_move_end : Bool := runs (.cursorMoveDone 1) (moving .newer (some top.rank)) up
    (fun s t => only 1 [6] s t && t.blk.on F.LOG_CUR_STAT_END && !t.blk.on F.LOG_CUR_STAT_BUSY && decide (t.blk.log.cur = s.blk.log.cur))
def case_move_pcyc : Bool := runs (.cursorMoveDone 1) (moving (.firstOf 8) none) up (fun _ t => t.blk.on F.LOG_CUR_STAT_END)
def case_move_none : Bool := runs (.cursorMoveDone 1) (mk (logged {} [])) up (fun s t => only 1 [] s t)
theorem test_of_cursor_move_done : case_move_oldest = true := by
  decide +kernel
theorem test_of_cursor_move_done_more : (case_move_newest && case_move_newer && case_move_end && case_move_pcyc &&
    case_move_none) = true := by
  decide +kernel
def submits (k code sev : Nat) : State :=
  mk fun b => puts [(F.LOG_SUB_HDR_CODE, code, k, 0), (F.LOG_SUB_HDR_SEV, sev, k, 0), (F.LOG_SUB_P_P, 0xFFFFFFFF, k, 3)] (logged {} [] (puts [(F.WDN_CL_STAT_RUN, 1, 3, 0), (F.PWR_DOM_STAT_ON, 16, 0, 0), (F.FLK_P_PERM_PERM, 0xFFFFF, 6, 0)] b))
def case_submit : Bool := runs (.logSubmit 1 0 4) (submits 4 0xF000 7) (let_ 0 (F.LOG_SUB_GO_GO.at 4))
    (fun s t => only 1 [6, 2] s t && decide (t.blk.log.buf.map (fun q => [q.ing.code, q.ing.severity, q.ing.origin, q.ing.p3.toNat]) =
      [[0xF000, 7, 0xF8, 0xFFFFFFFF]]))
def case_submit_code : Bool := runs (.logSubmit 1 0 4) (submits 4 0xFFFF 7) (let_ 0 (F.LOG_SUB_GO_GO.at 4))
    (fun s t => only 1 [6, 2] s t && t.blk.on F.LOG_EVT_WIGN && decide (t.blk.log.buf = []))
def case_submit_cluster : Bool := runs (.logSubmit 1 4 3) (submits 3 0xFFFE 6) (let_ 4 (F.LOG_SUB_GO_GO.at 3))
    (fun s t => only 1 [6, 2] s t && decide (t.blk.log.buf.map (·.ing.origin) = [0xF3]))
def case_submit_foreign : Bool := runs (.logSubmit 1 0 3) (submits 3 0xFFFE 6) (fun s => up s && issues s.blk 0 && periphOk s.blk 0 6 true)
    (fun s t => only 1 [2] s t && decide (t.blk.log = s.blk.log))
def case_submit_severity : Bool := runs (.logSubmit 1 4 3) (submits 3 0xFFFE 7) (let_ 4 (F.LOG_SUB_GO_GO.at 3))
    (fun s t => only 1 [6, 2] s t && t.blk.on F.LOG_EVT_WIGN)
theorem test_of_log_submit : case_submit = true := by
  decide +kernel
theorem test_of_log_submit_more : (case_submit_code && case_submit_cluster && case_submit_foreign && case_submit_severity) = true := by
  decide +kernel

/-! ## Assay units -/

/-- Unit 3 over the nine characters 1 to 9 at the scratchpad's base: CRC-64/XZ, or CRC-8 with polynomial 0x07 (published check
values). -/
def crc64 (len : Nat) (b : Block) : Block :=
  puts [(F.ASY_U_CFG_WIDTH, 64, 3, 0), (F.ASY_U_CFG_REFIN, 1, 3, 0), (F.ASY_U_CFG_REFOUT, 1, 3, 0), (F.ASY_U_CFG_INV, 1, 3, 0),
    (F.ASY_U_POLY_LO_POLY, 0xA9EA3693, 3, 0), (F.ASY_U_POLY_HI_POLY, 0x42F0E1EB, 3, 0), (F.ASY_U_INIT_LO_INIT, 0xFFFFFFFF, 3, 0),
    (F.ASY_U_INIT_HI_INIT, 0xFFFFFFFF, 3, 0), (F.ASY_U_LEN_LEN, len, 3, 0), (F.ASY_U_ADDR_LO_ADDR, scratchBase, 3, 0)] (openSram b)
def crc8 (len : Nat) (b : Block) : Block :=
  puts [(F.ASY_U_CFG_WIDTH, 8, 3, 0), (F.ASY_U_POLY_LO_POLY, 7, 3, 0), (F.ASY_U_LEN_LEN, len, 3, 0), (F.ASY_U_ADDR_LO_ADDR, scratchBase, 3, 0)] (openSram b)
def busy3 (b : Block) : Block := b.put F.ASY_U_STAT_BUSY 1 3
def digits (s : State) : State := holding [(scratchBase, [0x31, 0x32, 0x33, 0x34, 0x35, 0x36, 0x37, 0x38, 0x39])] s
def asyVal (t : State) : Nat := t.blk.get2 F.ASY_U_VAL_LO_VAL F.ASY_U_VAL_HI_VAL 3
def asyRes (t : State) : Nat := t.blk.get2 F.ASY_U_RES_LO_RES F.ASY_U_RES_HI_RES 3
def case_assay_start : Bool := runs (.assayScan 1 0 3 false) (mk (crc64 9)) (let_ 0 (F.ASY_U_CTL_GO.at 3))
    (fun s t => only 1 [7, 2] s t && t.blk.on F.ASY_U_STAT_BUSY 3 && decide (asyVal t = 0xFFFFFFFFFFFFFFFF))
def case_assay_empty : Bool := runs (.assayScan 1 0 3 false) (mk (crc8 0)) (let_ 0 (F.ASY_U_CTL_GO.at 3))
    (fun s t => only 1 [7, 2] s t && !t.blk.on F.ASY_U_STAT_BUSY 3 && t.blk.on F.ASY_U_STAT_DONE 3 && bit (t.blk.reg 0x70000).toNat 3 &&
      decide (asyRes t = 0))
def case_assay_continue : Bool := runs (.assayScan 1 0 3 true) (mk fun b => (crc8 1 b).put F.ASY_U_VAL_LO_VAL 0x5A 3) (let_ 0 (F.ASY_U_CTL_GO.at 3))
    (fun s t => only 1 [7, 2] s t && t.blk.on F.ASY_U_CTL_MODE 3 && decide (asyVal t = 0x5A))
def case_assay_busy : Bool := runs (.assayScan 1 0 3 false) (mk fun b => busy3 (crc8 1 b)) (let_ 0 (F.ASY_U_CTL_GO.at 3))
    (fun s t => only 1 [7, 2] s t && t.blk.on F.ASY_EVT_WIGN && t.blk.on F.ASY_U_STAT_BUSY 3)
theorem test_of_assay_scan : case_assay_start = true := by
  decide +kernel
theorem test_of_assay_scan_more : (case_assay_empty && case_assay_continue && case_assay_busy) = true := by
  decide +kernel
def case_assay_64 : Bool := runs (.assayScanDone 1 3 none)
    (digits (mk fun b => puts [(F.ASY_U_VAL_LO_VAL, 0xFFFFFFFF, 3, 0), (F.ASY_U_VAL_HI_VAL, 0xFFFFFFFF, 3, 0)] (busy3 (crc64 9 b))))
    (fun s => up s && decide (serviceByte s.mem s.blk scratchBase = some 0x31))
    (fun s t => only 1 [7] s t && t.blk.on F.ASY_U_STAT_DONE 3 && !t.blk.on F.ASY_U_STAT_BUSY 3 && decide (asyRes t = 0x995DC9BBDF1939FA ∧
      t.blk.get F.ASY_U_DONE_DONE 3 = 9))
def case_assay_8 : Bool := runs (.assayScanDone 1 3 none) (digits (mk fun b => busy3 (crc8 9 b))) up
    (fun s t => only 1 [7] s t && decide (asyRes t = 0xF4 ∧ asyVal t = 0xF4))
/-- The last byte has an error. -/
def case_assay_error : Bool := runs (.assayScanDone 1 3 (some 8)) (digits (mk fun b => busy3 (crc8 9 b))) up
    (fun s t => within 1 [7] s t && recs [0x0701] s t && t.blk.on F.ASY_U_STAT_ERR 3 && !t.blk.on F.ASY_U_STAT_BUSY 3 &&
      bit (t.blk.reg 0x70000).toNat 7 && decide (t.blk.get F.ASY_U_DONE_DONE 3 = 8))
def case_assay_stopped : Bool := runs (.assayScanDone 1 3 none) (mk (crc8 9)) up (fun s t => only 1 [] s t)
theorem test_of_assay_scan_done : case_assay_64 = true := by
  decide +kernel
theorem test_of_assay_scan_done_more : (case_assay_8 && case_assay_error && case_assay_stopped) = true := by
  decide +kernel

/-! ## Resets, images, stages, the flash -/

theorem test_held : runs (.snapshotTake 1 0) (mk fun b => { b with hold := .all }) (fun s => s.blk.quiet)
    (fun s t => decide (t = s)) = true := by decide +kernel
def case_held_recorder : Bool := runs (.ingotStage 1) (mk fun b => { b with hold := .all }) (fun s => s.blk.quiet && !s.blk.evq.isEmpty)
    (fun s t => decide (t = s))
theorem test_of_ingot_stage : case_stage = true := by
  decide +kernel
theorem test_of_ingot_stage_more : (case_stage_batch && case_stage_severe && case_stage_none && case_stage_replaces &&
    case_stage_lost && case_stage_full && case_held_recorder) = true := by
  decide +kernel
theorem test_reset_assert : runs (.resetAssert 1) (mk fun b => { b.put F.PAIR_STAT_TOKEN_DRV 1 with hold := .fabric }) (fun s => s.blk.quiet)
    (fun s t => only 1 [0, 5] s t && !t.blk.on F.PAIR_STAT_TOKEN_DRV && decide (t.blk.hold = .all ∧ t.blk.get F.SYS_RST_CAUSE = 2)) = true := by decide +kernel
theorem test_reset_twice : runs (.resetAssert 1) (mk fun b => { b with hold := .all }) (fun s => s.blk.quiet)
    (fun s t => only 1 [] s t && decide (t.blk.hold = .all)) = true := by decide +kernel
theorem test_reset_release : runs (.resetRelease 1 true 3 false)
    (holding [(scratchBase, [7])] (flashed [(9, [0])] (mk fun b => { puts [(F.SYS_LC_STATE, 3, 0, 0), (F.SYS_RST_CAUSE, 1, 0, 0), (F.TIM_STAT_SRV, 1, 0, 0)] b
      with hold := .all, log := { store := [(5, [1])] }, evq := [] })))
    (fun s => s.blk.quiet)
    (fun s t => decide (t.clk = {} ∧ t.blk.hold = .none ∧ t.blk.get F.SYS_RST_CAUSE = 1 ∧ t.blk.get F.SYS_STRAP_UNIT = 1 ∧ t.blk.get F.SYS_STRAP_POS = 3 ∧
      t.blk.get F.SYS_LC_STATE = 3 ∧ t.blk.reg F.TIM_STAT_SRV.addr = State.reset.blk.reg F.TIM_STAT_SRV.addr ∧ t.blk.log.store = [(5, [1])] ∧
      t.mem.cells = [] ∧ t.mem.flash = s.mem.flash ∧ t.blk.evq.map (fun e => (e.code, e.p0, e.p1, e.p2)) = [(0x0001, 1, 3, 7)])) = true := by decide +kernel
theorem test_reset_release_early : runs (.resetRelease 1 true 3 true) (mk id) up (fun s t => only 1 [] s t) = true := by decide +kernel
theorem test_brownout : runs (.brownout 1 none) (mk fun b => (b.put F.PAIR_STAT_TOKEN_DRV 1)) up
    (fun s t => within 1 [1, 5, 6, 23] s t && t.blk.on F.PWR_STAT_PFAIL && t.blk.log.stopped && !t.blk.on F.PAIR_STAT_TOKEN_DRV &&
      decide (t.blk.hold = .fabric)) = true := by decide +kernel
theorem test_brownout_failed : runs (.brownout 1 none) (mk fun b => b.put F.PWR_STAT_PFAIL 1) up (fun s t => only 1 [] s t) = true := by decide +kernel
/-- A fabric reset keeps the straps and the recorder, and returns the rest. -/
def restarted (cause n : Nat) (s t : State) : Bool :=
  decide (t.clk = {} ∧ t.blk.hold = .none ∧ t.blk.get F.SYS_RST_CAUSE = cause ∧ t.blk.get F.LOG_DROP_COUNT = 77 ∧ t.blk.get F.SYS_STRAP_POS = 3 ∧
    t.blk.reg F.TIM_STAT_SRV.addr = State.reset.blk.reg F.TIM_STAT_SRV.addr ∧ t.mem.cells = [] ∧ t.blk.log.store = s.blk.log.store) &&
  recs (List.replicate n 0x1502 ++ [0x0001]) s t
def runsOn (b : Block) : Block := puts [(F.LOG_DROP_COUNT, 77, 0, 0), (F.SYS_STRAP_POS, 3, 0, 0), (F.TIM_STAT_SRV, 1, 0, 0), (F.XSP_STAT_SIZE_LOG2, 24, 0, 0)] b
def case_repour : Bool := runs (.repourBegin 16) (holding [(scratchBase, [7])] (mk fun b => { runsOn b with start := { repour := some { copy := 0, force := false, verified := true } } }))
    (fun s => up s && refInstant (s.pass 16).clk 0 none s.blk)
    (fun s t => restarted 4 0 s t && decide (t.blk.start.named = some 0 ∧ t.mem.flash = s.mem.flash))
/-- Boot state without a record prefers copy A; a re-pour of copy B is a trial. -/
def case_repour_trial : Bool := runs (.repourBegin 16) (mk fun b => { runsOn b with start := { repour := some { copy := 1, force := true, verified := true } } }) up
    (fun s t => restarted 4 0 s t && decide (t.blk.start.named = some 1 ∧ (bootState t.mem s.blk).1 = { seq := 1, prefer := 0, trial := 2 }))
def case_repour_early : Bool := runs (.repourBegin 15) (mk fun b => { runsOn b with start := { repour := some { copy := 1, force := true, verified := true } } }) up
    (fun s t => only 15 [] s t)
def case_repour_none : Bool := runs (.repourBegin 1) (mk fun b => { b with start := { repour := some { copy := 1, force := false } } }) up (fun s t => only 1 [] s t)
theorem test_of_repour_begin : case_repour = true := by
  decide +kernel
theorem test_of_repour_begin_more : (case_repour_trial && case_repour_early && case_repour_none) = true := by
  decide +kernel
/-- 75 °C is cool and 96 °C is not, whatever the grade (an opaque constant, so these are not evaluated). -/
def tj (v : Nat) : State := mk fun b => { runsOn (b.put F.SYS_TEMP_TJ v) with hot := true }
theorem test_thermal_cool : (tj 600).blk.geti F.SYS_TEMP_TJ ≤ shutdownTj - 160 := by unfold shutdownTj; split <;> decide +kernel
theorem test_thermal_warm : shutdownTj - 160 < (tj 768).blk.geti F.SYS_TEMP_TJ := by unfold shutdownTj; split <;> decide +kernel
theorem test_thermal : thermalRestart (tj 600).blk = fabricReset 3 (endSessions 3 (tj 600).blk) := by
  unfold thermalRestart
  rw [decide_eq_true test_thermal_cool]
  rfl
theorem test_thermal_hot : thermalRestart (tj 768).blk = (tj 768).blk := by
  unfold thermalRestart
  rw [decide_eq_false (Int.not_le.mpr test_thermal_warm)]
  rfl

/-- A copy's header: magic, part and section count; and one entry of the section table. -/
def header (base : Nat) (n : Nat) : List (Nat × List Byte) :=
  [(base, [0x4E, 0x4B, 0x50, 0x49, 1, 0, 0, 0]), (base + 20, leBytes 2 n), (base + 22, [0x40, 0x72])]
def sect (base i type off len load : Nat) : Nat × List Byte :=
  (base + 64 + 48 * i, [BitVec.ofNat 8 type, 1, 0, 0] ++ leBytes 4 off ++ leBytes 4 len ++ leBytes 4 load)
def device (b : Block) : Block := b.put F.XSP_STAT_SIZE_LOG2 24
/-- Without an image both copies are rejected with reason 1, an unreadable header with reason 10. -/
def case_copy_rejected : Bool := runs (.copyVerify 1 0 true none) (mk id) (fun s => up s && decide (headerBad s.mem (device s.blk) 0 false = some 1))
    (fun s t => within 1 [21, 22] s t && recs [0x1602] s t && t.blk.on F.XSP_EVT_REJECT && t.blk.on F.XSP_STAT_MODE && !t.blk.on F.XSP_STAT_RECOVERY &&
      decide (t.blk.get F.XSP_REJ_REJ_A = 1 ∧ t.blk.start.rejected = [(0, 1)] ∧ t.blk.get F.XSP_STAT_SIZE_LOG2 = 24))
def case_copy_none : Bool := runs (.copyVerify 1 2 false (some 0)) (mk fun b => { b with start := { rejected := [(0, 1)] } }) up
    (fun s t => within 1 [21, 22] s t && recs [0x1602, 0x1603] s t && t.blk.on F.XSP_STAT_RECOVERY && decide (t.blk.get F.XSP_REJ_REJ_B = 10 ∧
      t.blk.start.chosen = none ∧ t.blk.start.stay))
def case_copy_idle : Bool := runs (.copyVerify 1 0 false none) (mk fun b => { b with start := { chosen := some 0 } }) up (fun s t => only 1 [] s t)
/-- What is accepted: the key, the signature and the hashes are opaque, so the checks' answers stand as premises. -/
theorem test_copy_accepted (m : Mem) (b : Block) (h1 : (copyOrder m b).find? (fun k => (b.start.rejected.lookup k).isNone) = some 0)
    (h2 : headerBad m b 0 false = none) (h3 : sectionsBad m b 0 none earlySections = none) :
    (verifyAtRom m none b).start.chosen = (chooseCopy m 0 b).start.chosen := by
  simp [verifyAtRom, h1, h2, h3]
def case_later_accepted : Bool := runs (.copyVerify 1 0 false none)
    (flashed (header 0 1 ++ [sect 0 0 8 0x1000 8 0]) (mk fun b => { (device b).put F.XSP_STAT_STAGE 1 with start := { chosen := some 0 } }))
    (fun s => up s && decide (sectionsBad s.mem s.blk 0 none laterSections = none))
    (fun s t => within 1 [] s t && recs [0x1601] s t && t.blk.start.later)
def case_later_rejected : Bool := runs (.copyVerify 1 0 false (some 2))
    (flashed (header 0 1 ++ [sect 0 0 2 0x1000 8 0]) (mk fun b => { (device b).put F.XSP_STAT_STAGE 1 with start := { chosen := some 0 } })) up
    (fun s t => within 1 [21, 22] s t && recs [0x1602] s t && decide (t.blk.get F.XSP_REJ_REJ_A = 10 ∧ t.blk.get F.XSP_REJ_SECT_A = 2 ∧
      t.blk.start.repour = some { copy := 1, force := false }))
def case_repour_rejected : Bool := runs (.copyVerify 1 0 false none)
    (mk fun b => { (device b).put F.XSP_STAT_REPOUR 1 with start := { chosen := some 0, repour := some { copy := 1, force := false } } }) up
    (fun s t => within 1 [22] s t && recs [0x1602] s t && t.blk.on F.XSP_STAT_REPOUR_FAIL && !t.blk.on F.XSP_STAT_REPOUR &&
      decide (t.blk.start.repour = none ∧ t.blk.get F.XSP_REJ_REJ_B = 1))
theorem test_of_copy_verify : case_copy_rejected = true := by
  decide +kernel
theorem test_of_copy_verify_more : (case_copy_none && case_copy_idle && case_later_accepted && case_later_rejected &&
    case_repour_rejected) = true := by
  decide +kernel

/-- A section under application whose next record stands at 0x1000. -/
def applies (t cls : Nat) (w : RecordWait) (l : List Nat) : State :=
  flashed [(0x1000, l.flatMap (leBytes 4))] (mk fun b => { device b with start := { apps := [{ sect := t, cls := cls, base := 0x1000, next := 0x1000, wait := w }] } })
def nextAt (t : State) (n : Nat) (w : RecordWait) : Bool := decide (t.blk.start.apps.map (fun x => (x.next, x.wait)) = [(n, w)])
def skewAt : Nat := periphBase + rateAt
def case_image_run : Bool := runs (.imageRun 1 4) (applies 4 0 .none [0x101, skewAt % 2 ^ 32, 0xFFFF003C]) up
    (fun s t => nextAt t 0x100C .none && decide (t.blk.reg rateAt = 0x0FFF003C) && decide (t.clk = (s.pass 1).clk))
def case_image_run_other : Bool := runs (.imageRun 1 4) (applies 4 0 .none [0x102 + 1, 0]) up (fun s t => only 1 [] s t && decide (t.blk.start = s.blk.start))
def case_image_none : Bool := runs (.imageRun 1 8) (applies 4 0 .none [0x101, 0, 0]) up (fun s t => only 1 [] s t)
theorem test_of_image_run : case_image_run = true := by
  decide +kernel
theorem test_of_image_run_more : (case_image_run_other && case_image_none) = true := by
  decide +kernel
theorem test_poll_met : runs (.imagePoll 1 4) (applies 4 0 .none [0x502, skewAt % 2 ^ 32, 0xFF, 0]) up (fun _ t => nextAt t 0x1010 .none) = true := by decide +kernel
theorem test_poll_waits : runs (.imagePoll 1 4) (applies 4 0 .none [0x502, skewAt % 2 ^ 32, 0xFF, 1]) up
    (fun _ t => nextAt t 0x1000 (.poll (4 * nsTick + 5 * usTick))) = true := by decide +kernel
theorem test_poll_timeout : runs (.pollTimeout 1 4) (applies 4 0 (.poll (4 * nsTick)) [0x502, skewAt % 2 ^ 32, 0xFF, 1]) up
    (fun s t => recs [0x1607] s t && nextAt t 0x1010 .none) = true := by decide +kernel
theorem test_poll_early : runs (.pollTimeout 1 4) (applies 4 0 (.poll (4 * nsTick + 1)) [0x502, skewAt % 2 ^ 32, 0xFF, 1]) up
    (fun s t => only 1 [] s t && decide (t.blk.start = s.blk.start)) = true := by decide +kernel
theorem test_delay : runs (.imageDelay 1 4) (applies 4 0 .none [0xFFFFFF03]) up
    (fun s t => only 1 [] s t && nextAt t 0x1000 (.delay (4 * nsTick + 0xFFFFFF * usTick))) = true := by decide +kernel
theorem test_delay_end : runs (.delayEnd 1 4) (applies 4 0 (.delay (4 * nsTick)) [0xFFFFFF03]) up
    (fun s t => only 1 [] s t && nextAt t 0x1004 .none) = true := by decide +kernel
theorem test_delay_early : runs (.delayEnd 1 4) (applies 4 0 (.delay (4 * nsTick + 1)) [0xFFFFFF03]) up
    (fun s t => only 1 [] s t && decide (t.blk.start = s.blk.start)) = true := by decide +kernel
theorem test_keys : runs (.imageKeys 1 11) (applies 11 0 .none [0x210, 1, 2, 3, 4, 5, 6, 7, 8, 9, 3]) up
    (fun s t => only 1 [] s t && nextAt t 0x104C .none && decide (t.blk.shop.keys.map (·.role) = [1, 3] ∧
      t.blk.shop.keys.map (fun k => (k.key.length, k.key.getD 28 0)) = [(32, 9), (32, 0xFF)])) = true := by decide +kernel
def case_section_end : Bool := runs (.sectionEnd 1 2) (applies 2 0 .none [0xFF]) up
    (fun s t => only 1 [] s t && decide (t.blk.start.apps = []) && t.blk.start.dramDone)
/-- The Flask's section ends: the rules are committed, and the next early section begins. -/
def ending (t : Nat) (early : List Nat) : State :=
  flashed (header 0 1 ++ [sect 0 0 11 0x2000 8 0, (0x1000, leBytes 4 0xFF)])
    (mk fun b => { device b with start := { chosen := some 0, early := early, apps := [{ sect := t, cls := 0, base := 0x1000, next := 0x1000 }] } })
def case_section_flask : Bool := runs (.sectionEnd 1 9) (ending 9 [11, 1]) up
    (fun s t => only 1 [3, 36] s t && t.blk.on F.FLK_STAT_PENDING && decide (t.blk.start.early = [1] ∧ t.blk.start.apps.map (·.sect) = [11] ∧
      t.blk.start.apps.map (·.next) = [0x2000]))
def case_section_last : Bool := runs (.sectionEnd 1 4) (ending 4 []) up (fun _ t => decide (t.blk.start.apps = []))
theorem test_of_section_end : case_section_end = true := by
  decide +kernel
theorem test_of_section_end_more : (case_section_flask && case_section_last) = true := by
  decide +kernel

theorem test_first_light : runs (.firstLight 250) (mk fun b => { b with start := { chosen := some 0 } }) up
    (fun s t => decide (t.clk = (s.pass 250).clk ∧ t.blk.get F.XSP_STAT_STAGE = 1 ∧ t.blk.evq.map (·.code) = 0x0001 :: 0x1604 :: (t.blk.evq.map (·.code)).drop 2 ∧
      t.blk.get F.PWR_DOM_REQ_REQ = s.blk.get F.PWR_DOM_REQ_REQ ||| 0x30000) && t.blk.on F.FET_HEAD_CTL_SLAGFRAME 63 && t.blk.on F.XSP_EVT_STAGE) = true := by decide +kernel
theorem test_first_light_early : runs (.firstLight 1) (mk fun b => { b with start := { chosen := some 0, early := [4] } }) up
    (fun s t => only 1 [] s t) = true := by decide +kernel
def fihusImage (stage ready : Nat) : State :=
  flashed (header 0 1 ++ [sect 0 0 6 0x1000 4 0x100, (0x1000, [1, 2, 3, 4])])
    (mk fun b => { ((device b).put F.XSP_STAT_STAGE stage).put F.MEM_STAT_READY ready with start := { chosen := some 0, dramDone := true } })
def case_dram_stage : Bool := runs (.dramStage 1 [] []) (fihusImage 1 1) up
    (fun s t => recs [0x1604] s t && t.blk.on F.SYS_REMAP_SWAP && t.blk.on F.WDN_CL_STAT_RUN 3 && decide (t.blk.get F.XSP_STAT_STAGE = 2 ∧
      t.blk.ctl.fihus = some { load := 0x100, len := 4, crc := crc32c [1, 2, 3, 4] } ∧ t.mem.bytes (workingBase + 0xFF) 6 = [0, 1, 2, 3, 4, 0]))
def case_dram_not_ready : Bool := runs (.dramStage 1 [(7, 1)] []) (fihusImage 1 0) up (fun s t => within 1 [] s t && recs [0x0902] s t)
def case_dram_failed : Bool := runs (.dramStage 1 [] [(7, 15, 9)]) (fihusImage 1 1) up
    (fun s t => within 1 (List.range' 9 9) s t && recs [0x0903] s t && decide (t.blk.get F.XSP_STAT_STAGE = 1))
def case_dram_stage_early : Bool := runs (.dramStage 1 [] []) (fihusImage 0 1) up (fun s t => only 1 [] s t)
set_option maxRecDepth 100000 in
theorem test_of_dram_stage : case_dram_stage = true := by
  decide +kernel
set_option maxRecDepth 100000 in
theorem test_of_dram_stage_more : (case_dram_not_ready && case_dram_failed && case_dram_stage_early) = true := by
  decide +kernel
theorem test_seal : runs (.sealStart 250000 0) (mk id) (let_ 0 F.XSP_SEAL_GO.addr)
    (fun s t => within 250000 [22, 36, 2] s t && t.blk.on F.XSP_STAT_SEALED && t.blk.on F.XSP_EVT_STAGE && decide (t.blk.get F.XSP_STAT_STAGE = 3 ∧
      t.blk.get F.XSP_TIME_T_FULL = 1 ∧ t.blk.start.fullAt = msTick)) = true := by decide +kernel
theorem test_seal_twice : runs (.sealStart 1 0) (mk fun b => b.put F.XSP_STAT_SEALED 1) (let_ 0 F.XSP_SEAL_GO.addr)
    (fun s t => only 1 [2] s t) = true := by decide +kernel
def onTrial (b : Block) : Block := puts [(F.XSP_STAT_TRIAL, 1, 0, 0), (F.XSP_STAT_STAGE, 3, 0, 0), (F.XSP_TRIAL_TRIAL_S, 3, 0, 0), (F.XSP_STAT_COPY, 1, 0, 0)] (device b)
theorem test_trial_end : runs (.trialEnd 0) (later (3 * sTick) (mk onTrial)) up
    (fun s t => recs [0x1605] s t && !t.blk.on F.XSP_STAT_TRIAL && decide (t.mem.cells = s.mem.cells ∧ (bootState t.mem s.blk).1 =
      { seq := 1, prefer := 1, trial := 0 })) = true := by decide +kernel
theorem test_trial_early : runs (.trialEnd 0) (later (3 * sTick - 1) (mk onTrial)) up (fun s t => only 0 [] s t) = true := by decide +kernel

/-- The flash registers: address, length and buffer. -/
def xsp (a n : Nat) (b : Block) : Block := puts [(F.XSP_ADDR_ADDR, a, 0, 0), (F.XSP_LEN_LEN, n, 0, 0), (F.XSP_BUF_BUF, 0xFF00, 0, 0)] (device b)
def asked_ (op a : Nat) (s t : State) : Bool :=
  only 1 [22, 2] s t && t.blk.on F.XSP_OP_STAT_BUSY && decide (t.blk.start.op.map (fun q => [q.op, q.addr, q.buf]) = some [op, a, 0xFF00])
def opens (b : Block) : Block := (b.put F.FLK_P_PERM_PERM 0xFFFFF 22).put F.WDN_CL_STAT_RUN 1 3 |>.put F.PWR_DOM_STAT_ON 16
theorem test_xsp_read : runs (.xspRead 1 0) (mk (xsp 0xFFFFFF 65536)) (let_ 0 F.XSP_OP_GO.addr) (asked_ 1 0xFFFFFF) = true := by decide +kernel
theorem test_xsp_length : runs (.xspRead 1 0) (mk (xsp 0 65537)) (let_ 0 F.XSP_OP_GO.addr)
    (fun s t => only 1 [22, 2] s t && t.blk.on F.XSP_EVT_WIGN && decide (t.blk.start.op = none)) = true := by decide +kernel
/-- The last page of the boot state, by the Warden; one byte beyond a page. -/
theorem test_xsp_program : runs (.xspProgram 1 0) (mk (xsp 0xFFFF00 256)) (let_ 0 F.XSP_OP_GO.addr) (asked_ 2 0xFFFF00) = true := by decide +kernel
theorem test_xsp_page : runs (.xspProgram 1 0) (mk (xsp 0xFFFF01 256)) (let_ 0 F.XSP_OP_GO.addr)
    (fun s t => only 1 [22, 2] s t && t.blk.on F.XSP_EVT_WIGN) = true := by decide +kernel
/-- The last 4 KiB of copy A by cluster 3, and the training region behind it. -/
theorem test_xsp_erase : runs (.xspErase4k 1 4) (mk fun b => opens (xsp 0x6FFFFF 0 b)) (let_ 4 F.XSP_OP_GO.addr) (asked_ 3 0x6FF000) = true := by decide +kernel
theorem test_xsp_erase_refused : runs (.xspErase64k 1 4) (mk fun b => opens (xsp 0x700000 0 b)) (let_ 4 F.XSP_OP_GO.addr)
    (fun s t => within 1 [22, 2] s t && recs [0x1608] s t && t.blk.on F.XSP_OP_STAT_REFUSED && decide (t.blk.start.op = none)) = true := by decide +kernel
def openSpd (b : Block) : Block := puts [(F.FLK_OD_SP_MASK, 0x3FF, 0, 0), (F.FLK_OD_SP_SEC, 0x3FF, 0, 0), (F.XSP_OP_STAT_BUSY, 1, 0, 0)] b
def operating (op a len : Nat) (s : State) : State :=
  { s with blk := { openSpd s.blk with start := { op := some { op := op, addr := a, len := len, buf := 0, cls := 0 } } } }
def case_flash_read : Bool := runs (.flashOpDone 1 false) (operating 1 8 2 (flashed [(8, [5, 6])] State.reset)) up
    (fun s t => recs [] s t && t.blk.on F.XSP_OP_STAT_DONE && t.blk.on F.XSP_EVT_OP_DONE && !t.blk.on F.XSP_OP_STAT_BUSY &&
      decide (t.mem.bytes (scratchBase + 0x40000) 3 = [5, 6, 0] ∧ t.mem.flash = s.mem.flash))
def case_flash_program : Bool := runs (.flashOpDone 1 false) (operating 2 8 2 (holding [(scratchBase + 0x40000, [0xF1, 3])] (flashed [(8, [0x0F])] State.reset))) up
    (fun s t => decide (t.mem.flashBytes 8 3 = [1, 3, 0xFF] ∧ t.mem.cells = s.mem.cells))
def case_flash_erase : Bool := runs (.flashOpDone 1 false) (operating 3 0x1000 0 (flashed [(0xFFF, [1, 2]), (0x1FFF, [3, 4])] State.reset)) up
    (fun _ t => decide (t.mem.flashBytes 0xFFF 2 = [1, 0xFF] ∧ t.mem.flashBytes 0x1FFF 2 = [0xFF, 4]))
def case_flash_error : Bool := runs (.flashOpDone 1 true) (operating 4 0 0 (flashed [(0, [1])] State.reset)) up
    (fun s t => t.blk.on F.XSP_OP_STAT_ERR && decide (t.mem = s.mem))
def case_flash_none : Bool := runs (.flashOpDone 1 false) (mk id) up (fun s t => only 1 [] s t)
theorem test_of_flash_op_done : case_flash_read = true := by
  decide +kernel
theorem test_of_flash_op_done_more : (case_flash_program && case_flash_erase && case_flash_error && case_flash_none) = true := by
  decide +kernel

/-! ## The shop protocol -/

/-- Published vectors: SHA-256 of "abc" (FIPS 180-4), HMAC-SHA-256 test case 2 (RFC 4231). -/
theorem test_sha256 : decide (sha256 [0x61, 0x62, 0x63] = beBytes 32 0xBA7816BF8F01CFEA414140DE5DAE2223B00361A396177A9CB410FF61F20015AD) = true := by decide +kernel
theorem test_hmac : decide (hmac [0x4A, 0x65, 0x66, 0x65] [0x77, 0x68, 0x61, 0x74, 0x20, 0x64, 0x6F, 0x20, 0x79, 0x61, 0x20, 0x77, 0x61, 0x6E, 0x74, 0x20, 0x66,
    0x6F, 0x72, 0x20, 0x6E, 0x6F, 0x74, 0x68, 0x69, 0x6E, 0x67, 0x3F] = beBytes 32 0x5BDCC146BF60754E6A042426089575C75A003F089D2739839DEC58B964EC3843) = true := by decide +kernel

/-- The port is enabled at 10.0.0.1, shop port 1000; cluster 3 runs; one shop key, one session. -/
def mgtBlock (keys : List ShopKey) (l : List Session) (q : List ShopMsg) (b : Block) : Block :=
  { puts [(F.MGT_CTL_EN, 1, 0, 0), (F.MGT_IP_IP, 0x0A000001, 0, 0), (F.MGT_PORT_PORT, 1000, 0, 0), (F.WDN_CL_STAT_RUN, 1, 3, 0),
      (F.PWR_DOM_STAT_ON, 2 ^ 31 + 16, 0, 0), (F.MGT_STAT_SESSIONS, l.length, 0, 0)] b with shop := { keys := keys, sessions := l, msgs := q } }
def key1 : ShopKey := { role := 3, key := [1, 2, 3] }
def open1 (role : Nat) : Session := { id := 0x77, slot := 0, role := role, minor := 1, key := [9], ip := 5, port := 6, lastIn := 4, nextOut := 3 }
def ask1 (type : Nat) : ShopMsg := { type := type, session := 0x77 }
/-- A frame to the port: Ethernet, IPv4 without options from 10.0.0.2, UDP from port 2000. -/
def ether (e : Nat) (l : List Byte) : List Byte := List.replicate 12 2 ++ beBytes 2 e ++ l
def udp (dst : Nat) (l : List Byte) : List Byte :=
  let n := 28 + l.length
  let h (sum : Nat) : List Byte := [0x45, 0] ++ beBytes 2 n ++ [0, 0, 0, 0, 64, 17] ++ beBytes 2 sum ++ [10, 0, 0, 2, 10, 0, 0, 1]
  let sum := ((List.range 10).map fun i => ofBe (((h 0).drop (2 * i)).take 2)).sum
  ether 0x0800 (h (0xFFFF - (sum % 0x10000 + sum / 0x10000)) ++ beBytes 2 2000 ++ beBytes 2 dst ++ beBytes 2 (8 + l.length) ++ [0, 0] ++ l)
/-- A shop message without its tag; with the tag of a key. -/
def shopBody (type session seq : Nat) (l : List Byte) : List Byte :=
  beBytes 2 0x4E53 ++ [1, 1, BitVec.ofNat 8 type, 0, 0, 0] ++ beBytes 4 session ++ beBytes 4 seq ++ beBytes 2 l.length ++ [0, 0] ++ l
def tagged (key l : List Byte) : List Byte := l ++ (hmac key l).take 16
/-- Ring 3 in granted DRAM takes the datagrams. -/
def mgtRing (b : Block) : Block :=
  puts [(F.MGT_RING_RXR, 3, 0, 0), (F.LAD_RING_CFG_EN, 1, 3, 0), (F.LAD_RING_CFG_SIZE_LOG2, 2, 3, 0), (F.LAD_RING_BASE_HI_BASE_HI, 1, 3, 0), (F.LAD_RING_PART_PART, 31, 3, 0)] (granted b)

def case_mgt_off : Bool := runs (.mgtFrameReceive 1 (udp 1000 []) 0) (mk id) up (fun s t => only 1 [] s t)
def case_mgt_arp : Bool := runs (.mgtFrameReceive 1 (ether 0x0806 ([0, 1, 8, 0, 6, 4, 0, 1] ++ beBytes 6 0xA1A2A3A4A5A6 ++ [10, 0, 0, 2] ++ beBytes 6 0 ++ [10, 0, 0, 1])) 0)
    (mk (mgtBlock [] [] [])) up (fun s t => within 1 [] s t && recs [] s t && decide (t.blk.out = s.blk.out ++ [.arp 0xA1A2A3A4A5A6 0x0A000002]))
def case_mgt_arp_other : Bool := runs (.mgtFrameReceive 1 (ether 0x0806 ([0, 1, 8, 0, 6, 4, 0, 1] ++ beBytes 6 1 ++ [10, 0, 0, 2] ++ beBytes 6 0 ++ [10, 0, 0, 2])) 0)
    (mk (mgtBlock [] [] [])) up (fun s t => only 1 [21] s t && decide (t.blk.get F.MGT_CNT_DROP = 1))
def case_mgt_echo : Bool := runs (.mgtFrameReceive 1 (ether 0x0800 ([0x45, 0, 0, 30, 0, 0, 0, 0, 64, 1, 0x66, 0xDD, 10, 0, 0, 2, 10, 0, 0, 1] ++ [8, 0, 0xF4, 0xFA, 1, 2, 1, 2, 1, 1])) 0)
    (mk (mgtBlock [] [] [])) up (fun s t => within 1 [] s t && decide (t.blk.out = s.blk.out ++ [.echo 0x0A000002 [1, 2, 1, 2, 1, 1]]))
def case_mgt_port : Bool := runs (.mgtFrameReceive 1 (udp 1001 []) 0) (mk (mgtBlock [] [] [])) (fun s => up s && decide (udpOf (udp 1001 []) = some (0x0A000002, 0x0A000001, 1001)))
    (fun s t => only 1 [21] s t && decide (t.blk.get F.MGT_CNT_DROP = 1))
def case_shop_form : Bool := runs (.mgtFrameReceive 1 (udp 1000 [0x4E, 0x53, 1]) 0) (mk fun b => mgtRing (mgtBlock [key1] [] [] b))
    (fun s => up s && decide (dramFails s.blk 5 31 0x100000000 32 true = false) && shopServed s.blk)
    (fun s t => recs [] s t && decide (t.blk.shop = s.blk.shop ∧ t.blk.get F.LAD_RING_HEAD_HEAD 3 = 1 ∧ t.blk.get F.MGT_CNT_AUTH = 0))
def case_shop_open_message : Bool := runs (.mgtFrameReceive 1 (udp 1000 (tagged [1, 2, 3] (shopBody 1 0 0 [7]))) 0) (mk fun b => mgtRing (mgtBlock [key1] [] [] b)) up
    (fun _ t => decide (t.blk.shop.msgs = [{ type := 1, session := 0, payload := [7], slot := 0, ip := 0x0A000002, port := 2000 }]))
def case_shop_no_key : Bool := runs (.mgtFrameReceive 1 (udp 1000 (tagged [1, 2, 3] (shopBody 1 0 0 [7]))) 1) (mk fun b => mgtRing (mgtBlock [key1] [] [] b)) up
    (fun s t => t.blk.on F.MGT_EVT_AUTH && recs [0x1503] s t && decide (t.blk.shop = s.blk.shop ∧ t.blk.get F.MGT_CNT_AUTH = 1))
def case_shop_bad_tag : Bool := runs (.mgtFrameReceive 1 (udp 1000 (tagged [1, 2, 4] (shopBody 3 0x77 5 []))) 0) (mk fun b => mgtRing (mgtBlock [] [open1 1] [] b)) up
    (fun s t => t.blk.on F.MGT_EVT_AUTH && decide (t.blk.shop = s.blk.shop))
def case_shop_replay : Bool := runs (.mgtFrameReceive 1 (udp 1000 (tagged [9] (shopBody 3 0x77 4 []))) 0) (mk fun b => mgtRing (mgtBlock [] [open1 1] [] b)) up
    (fun s t => t.blk.on F.MGT_EVT_AUTH && decide (t.blk.shop = s.blk.shop))
def case_shop_message : Bool := runs (.mgtFrameReceive 1 (udp 1000 (tagged [9] (shopBody 3 0x77 5 [8]))) 0) (mk fun b => mgtRing (mgtBlock [] [open1 1] [] b)) up
    (fun _ t => decide (t.blk.shop.msgs.map (fun q => (q.type, q.session, q.payload)) = [(3, 0x77, [8])] ∧
      t.blk.shop.sessions.map (fun x => [x.lastIn, x.count, x.lastAt]) = [[5, 1, 4 * nsTick]]))
def case_shop_unknown : Bool := runs (.mgtFrameReceive 1 (udp 1000 (tagged [9] (shopBody 4 0x77 5 []))) 0) (mk fun b => mgtRing (mgtBlock [] [open1 1] [] b)) up
    (fun s t => recs [0x1504] s t && decide (t.blk.shop.msgs = []))
theorem test_of_mgt_frame_receive : case_mgt_off = true := by
  decide +kernel
theorem test_of_mgt_frame_receive_more : (case_mgt_arp && case_mgt_arp_other && case_mgt_echo && case_mgt_port &&
    case_shop_form && case_shop_open_message && case_shop_no_key && case_shop_bad_tag &&
    case_shop_replay && case_shop_message && case_shop_unknown) = true := by
  decide +kernel

theorem test_mgt_link : runs (.mgtLinkChange 1 true 2) (mk id) up
    (fun s t => only 1 [21] s t && t.blk.on F.MGT_STAT_LINK && t.blk.on F.MGT_EVT_LINK && decide (t.blk.get F.MGT_STAT_SPEED = 2)) = true := by decide +kernel
theorem test_mgt_link_same : runs (.mgtLinkChange 1 false 0) (mk id) up (fun s t => only 1 [] s t) = true := by decide +kernel
def openMsg : ShopMsg := { type := 1, session := 0, slot := 0, ip := 5, port := 6 }
def case_open : Bool := runs (.shopOpen 1 (some (0x100, 0x0FFF, 7)) 8 0x99) (mk (mgtBlock [key1] [open1 1] [openMsg])) up
    (fun s t => within 1 [21] s t && recs [0x1501] s t && decide (t.blk.shop.sessions.map (fun x => [x.id, x.role, x.minor, x.lastIn]) = [[0x77, 1, 1, 4], [0x99, 3, 1, 0]] ∧
      t.blk.shop.sessions.map (fun x => x.key.length) = [1, 32] ∧ t.blk.get F.MGT_STAT_SESSIONS = 2 ∧ t.blk.out.length = 1))
def case_open_invalid : Bool := runs (.shopOpen 1 none 8 0x99) (mk (mgtBlock [key1] [] [openMsg])) up (fun s t => within 1 [] s t && recs [0x1504] s t)
def case_open_version : Bool := runs (.shopOpen 1 (some (0x102, 0x200, 7)) 8 0x99) (mk (mgtBlock [key1] [] [openMsg])) up
    (fun s t => within 1 [] s t && recs [0x1504] s t && decide (t.blk.shop.sessions = []))
def case_open_full : Bool := runs (.shopOpen 1 (some (0x101, 0x101, 7)) 8 0x99) (mk (mgtBlock [key1] (List.replicate 4 (open1 1)) [openMsg])) up
    (fun s t => within 1 [] s t && recs [0x1504] s t && decide (t.blk.shop.sessions = s.blk.shop.sessions))
def case_open_no_key : Bool := runs (.shopOpen 1 none 8 0x99) (mk (mgtBlock [] [] [openMsg])) up (fun s t => only 1 [] s t && decide (t.blk.shop.msgs = []))
def case_open_other : Bool := runs (.shopOpen 1 none 8 0x99) (mk (mgtBlock [key1] [open1 1] [ask1 3])) up
    (fun s t => only 1 [] s t && decide (t.blk.shop = s.blk.shop))
theorem test_of_shop_open : case_open = true := by
  decide +kernel
theorem test_of_shop_open_more : (case_open_invalid && case_open_version && case_open_full && case_open_no_key &&
    case_open_other) = true := by
  decide +kernel
theorem test_close : runs (.shopClose 1) (mk (mgtBlock [] [open1 1] [ask1 2])) up
    (fun s t => within 1 [21] s t && recs [0x1502] s t && decide (t.blk.shop.sessions = [] ∧ t.blk.get F.MGT_STAT_SESSIONS = 0 ∧ t.blk.out.length = 1)) = true := by decide +kernel
/-- One session has been idle for IDLE_S, one a tick less. -/
theorem test_session_idle : runs (.sessionIdleTimeout 0)
    (later (5 * sTick) (mk fun b => (mgtBlock [] [open1 1, { open1 1 with id := 0x78, lastAt := 1 }] [] b).put F.MGT_IDLE_IDLE_S 5)) up
    (fun s t => within 0 [21] s t && recs [0x1502] s t && decide (t.blk.shop.sessions.map (·.id) = [0x78] ∧ t.blk.get F.MGT_STAT_SESSIONS = 1)) = true := by decide +kernel

/-- The front message is a session's own, and may be served. -/
def served (type role : Nat) (f : Block → Block) : State := mk fun b => mgtBlock [] [open1 role] [ask1 type] (f b)
def replied (l : List Nat) (s t : State) : Bool := recs l s t && decide (t.blk.out.length = 1 ∧ t.blk.shop.msgs = [])
def case_shop_role : Bool := runs (.shopRepour 1 none) (served 0x43 2 id) (fun s => up s && shopServed s.blk && mgtSpeaks s.blk && !mgtRecovery s.blk)
    (fun s t => within 1 [] s t && replied [0x1504] s t)
def case_shop_payload : Bool := runs (.shopFlashWrite 1 none) (served 0x41 3 id) up (fun s t => within 1 [] s t && replied [0x1504] s t)
theorem test_shop_health : runs (.shopHealth 1) (served 3 1 id) up (fun s t => within 1 [] s t && recs [] s t && decide (t.blk.shop.msgs = [])) = true := by decide +kernel
def rateAddr : BitVec 40 := BitVec.ofNat 40 (periphBase + rateAt)
theorem test_shop_read : runs (.shopRegRead 1 (some [rateAddr])) (served 0x10 1 fun b => (b.put F.TIM_HEAD_RATE_NUM 50 63).put F.FLK_P_PERM_PERM 0xFFFFF 4) up
    (fun s t => within 1 [2] s t && replied [] s t && (match t.blk.out with
      | [.shop _ _ _ (.values [(0, 50)])] => true | _ => false)) = true := by decide +kernel
theorem test_shop_write : runs (.shopRegWrite 1 (some [(rateAddr, 50)])) (served 0x11 2 fun b => b.put F.FLK_P_PERM_PERM 0xFFFFF 4) up
    (fun s t => within 1 [2, 4] s t && replied [] s t && decide (t.blk.get F.TIM_HEAD_RATE_NUM 63 = 50) && (match t.blk.out with
      | [.shop _ _ _ (.statuses [0])] => true | _ => false)) = true := by decide +kernel
/-- A scene section with two scenes, the second 40 bytes behind its start. -/
def scenesImage (stage : Nat) (later : Bool) : State :=
  flashed (header 0 1 ++ [sect 0 0 5 0x2000 80 0, (0x2000, leBytes 4 2 ++ leBytes 4 20 ++ leBytes 4 4 ++ leBytes 4 40 ++ leBytes 4 4)])
    (mk fun b => { mgtBlock [] [open1 2] [ask1 0x20] ((device b).put F.XSP_STAT_STAGE stage) with start := { chosen := some 0, later := later } })
def case_commit_scene : Bool := runs (.shopCommit 1 (some 1)) (scenesImage 2 true) (fun s => up s && decide (sceneCount s.mem s.blk = 2))
    (fun s t => only 1 [] s t && decide (t.blk.start.apps.map (fun x => [x.sect, x.cls, x.base, x.next]) = [[5, 9, 0x2000, 0x2028]] ∧ t.blk.shop.commit = some (ask1 0x20)))
def case_commit_beyond : Bool := runs (.shopCommit 1 (some 2)) (scenesImage 2 true) up (fun s t => within 1 [] s t && replied [0x1504] s t)
def case_commit_stage : Bool := runs (.shopCommit 1 (some 1)) (scenesImage 1 true) up (fun s t => within 1 [] s t && replied [0x1504] s t)
theorem test_of_shop_commit : case_commit_scene = true := by
  decide +kernel
theorem test_of_shop_commit_more : (case_commit_beyond && case_commit_stage) = true := by
  decide +kernel
def logOpen (b : Block) : Block := b.put F.FLK_P_PERM_PERM 0xFFFFF 6
theorem test_log_read : runs (.shopLogRead 1 (some (false, 2, 1)))
    (served 0x30 1 fun b => logOpen (logged { store := store } [] b))
    (fun s => up s && decide (Writable s 9 F.LOG_CURSOR_CMD.addr ∧ Readable s 9 (F.LOG_WIN_WIN.at 7)))
    (fun s t => within 1 [2, 6] s t && replied [] s t && (match t.blk.out with
      | [.shop _ _ _ (.ingots [(w, _)])] => decide (w.map (·.toNat) = (List.range 8).map fun i => ofLe ((top.bytes.drop (4 * i)).take 4)) | _ => false)) = true := by decide +kernel
theorem test_log_read_empty : runs (.shopLogRead 1 (some (false, 2, 1))) (served 0x30 1 fun b => logOpen (logged {} [] b)) up
    (fun s t => within 1 [2, 6] s t && replied [] s t && (match t.blk.out with | [.shop _ _ _ (.ingots [])] => true | _ => false)) = true := by decide +kernel
def cluster0 (b : Block) : Block := puts [(F.WDN_CL_STAT_RUN, 1, 0, 0), (F.PWR_DOM_STAT_ON, 18, 0, 0)] b
theorem test_shop_clear : runs (.shopLogClear 1 (some (0x5AF00C1E, 0xA50FF3E1)))
    (mk fun b => cluster0 (mgtBlock [] [open1 3] [ask1 0x31] b)) (fun s => up s && issues s.blk 1)
    (fun s t => within 1 [56] s t && replied [] s t && t.blk.on F.WDN_EVT_MB && decide (mbOpcode t.blk 0 = 5 ∧ t.blk.get F.WDN_MB_REQ_REQ 0 3 = 0xA50FF3E1)) = true := by decide +kernel
theorem test_shop_clear_busy : runs (.shopLogClear 1 (some (0, 0))) (served 0x31 3 id) (fun s => up s && !issues s.blk 1)
    (fun s t => within 1 [] s t && replied [0x1504] s t) = true := by decide +kernel
/-- The last 4 KiB of copy B's region, and the boot state behind it. -/
theorem test_shop_erase : runs (.shopFlashErase 1 (some (1, 0x6FFFFF, false))) (flashed [(0xEFEFFF, [1, 2]), (0xEFFFFF, [3, 4])] (served 0x40 3 device)) up
    (fun s t => within 1 [] { s with mem := t.mem } t && replied [] s t && decide (t.mem.flashBytes 0xEFEFFF 2 = [1, 0xFF] ∧ t.mem.flashBytes 0xEFFFFF 2 = [0xFF, 4])) = true := by decide +kernel
theorem test_shop_erase_refused : runs (.shopFlashErase 1 (some (1, 0x700000, false))) (served 0x40 3 device) up
    (fun s t => within 1 [] s t && replied [0x1608, 0x1504] s t) = true := by decide +kernel
def case_shop_program : Bool := runs (.shopFlashWrite 1 (some (1, 0, [0x0F, 0xFF]))) (flashed [(0x800000, [0x1E, 0x55])] (served 0x41 3 device)) up
    (fun s t => replied [] s t && decide (t.mem.flashBytes 0x7FFFFF 4 = [0xFF, 0x0E, 0x55, 0xFF]))
def case_shop_program_busy : Bool := runs (.shopFlashWrite 1 (some (1, 0, [0]))) (served 0x41 3 fun b => (device b).put F.XSP_OP_STAT_BUSY 1) up
    (fun s t => within 1 [] s t && replied [0x1504] s t)
theorem test_of_shop_flash_write : case_shop_payload = true := by
  decide +kernel
theorem test_of_shop_flash_write_more : (case_shop_program && case_shop_program_busy) = true := by
  decide +kernel
theorem test_shop_flash_read : runs (.shopFlashRead 1 (some (1, 0x6FFFFE, 2))) (flashed [(0xEFFFFE, [7, 8])] (served 0x42 1 device)) up
    (fun s t => within 1 [] s t && replied [] s t && (match t.blk.out with | [.shop _ _ _ (.bytes l)] => decide (l = [7, 8]) | _ => false)) = true := by decide +kernel
theorem test_shop_flash_beyond : runs (.shopFlashRead 1 (some (1, 0x6FFFFF, 2))) (served 0x42 1 device) up
    (fun s t => within 1 [] s t && replied [0x1504] s t) = true := by decide +kernel
def case_shop_repour : Bool := runs (.shopRepour 1 (some (true, false))) (served 0x43 3 id) (fun s => up s && !repourRefused s.blk 1 false)
    (fun s t => within 1 [22] s t && replied [] s t && t.blk.on F.XSP_STAT_REPOUR && decide (t.blk.start.repour = some { copy := 1, force := false }))
def case_shop_repour_halted : Bool := runs (.shopRepour 1 (some (true, false))) (served 0x43 3 fun b => b.put F.WDN_STAT_LOCKSTEP 1) up
    (fun s t => within 1 [] s t && replied [0x1504] s t)
theorem test_of_shop_repour : case_shop_role = true := by
  decide +kernel
theorem test_of_shop_repour_more : (case_shop_repour && case_shop_repour_halted) = true := by
  decide +kernel

/-! ## SMBus, UART, JTAG -/

/-- 5 ms after the release of reset, and a tick before. -/
def served5 (f : Block → Block) : State := later (5 * msTick) (mk f)
theorem test_smbus_early : runs (.smbusTemperature 0) (later (5 * msTick - 1) (mk id)) up (fun s t => only 0 [] s t) = true := by decide +kernel
/-- The PEC of a block read at position 3 (address 0x4B), by hand from CRC-8 with polynomial 0x07. -/
theorem test_smbus_temperature : runs (.smbusTemperature 0) (served5 fun b => puts [(F.SYS_TEMP_TJ, 0xFF38, 0, 0), (F.SYS_STRAP_POS, 3, 0, 0)] b) up
    (fun s t => within 0 [] s t && decide (t.blk.out = s.blk.out ++ [.smbus (.temperature 0xFF38) [0x38, 0xFF] 0x62])) = true := by decide +kernel
theorem test_smbus_identity : runs (.smbusIdentity 0) (served5 id) up (fun s t => within 0 [] s t && decide (t.blk.evq = s.blk.evq) && (match t.blk.out with
    | [.smbus (.identity _ _ _ _) l _] => decide (l.length = 16 ∧ l.drop 12 = [0, 0, 0, 0]) | _ => false)) = true := by decide +kernel
theorem test_smbus_status : runs (.smbusStatus 0) (served5 fun b => puts [(F.XSP_STAT_STAGE, 3, 0, 0), (F.XSP_REJ_REJ_B, 8, 0, 0)] b) up
    (fun s t => within 0 [] s t && (match t.blk.out with
      | [.smbus (.status 3 0 0x80000 0 _) l _] => decide (l.length = 8 ∧ l.drop 6 = [0, 0]) | _ => false)) = true := by decide +kernel
/-- The newest intact ingot of severity 4 or more. -/
theorem test_smbus_fault : runs (.smbusLastFault 0)
    (served5 fun b => logged { store := [(0, (ing 4 1).bytes), (1, (ing 4 2).bytes), (2, (ing 3 3).bytes), (3, [1])] } [] b) up
    (fun s t => within 0 [] s t && (match t.blk.out with | [.smbus (.lastFault l) l' _] => decide (l = (ing 4 2).bytes ∧ l' = l) | _ => false)) = true := by decide +kernel
theorem test_smbus_no_fault : runs (.smbusLastFault 0) (served5 id) up
    (fun s t => within 0 [] s t && (match t.blk.out with | [.smbus (.lastFault _) l _] => decide (l.length = 32) | _ => false)) = true := by decide +kernel
theorem test_smbus_health : runs (.smbusHealthReport 0) (served5 fun b => b.put F.PAIR_HR_OWN_HR 0x01020304 15) up
    (fun s t => within 0 [] s t && (match t.blk.out with | [.smbus (.health l) _ _] => decide (l.length = 64 ∧ l.drop 60 = [1, 2, 3, 4]) | _ => false)) = true := by decide +kernel
theorem test_smbus_write : runs (.smbusWrite 0) (served5 id) up (fun s t => within 0 [] s t && decide (t.blk.out = [.nack])) = true := by decide +kernel
theorem test_uart : runs (.uartInput 1 [0x41]) (mk fun b => b.put F.SYS_LC_STATE 2) up (fun s t => only 1 [] s t && decide (t.blk.shop.console = [0x41])) = true := by decide +kernel
theorem test_uart_field : runs (.uartInput 1 [0x41]) (mk fun b => b.put F.SYS_LC_STATE 1) up (fun s t => only 1 [] s t && decide (t.blk.shop.console = [])) = true := by decide +kernel
def inReset (b : Block) : Block := { b with hold := .all, jtag := { boundary := [true, false] } }
def jtagged (o : List Output) (s t : State) : Bool := decide (t.clk = s.clk ∧ t.mem = s.mem ∧ t.blk.evq = s.blk.evq ∧ t.blk.regs = s.blk.regs ∧ t.blk.out = o)
theorem test_jtag_bypass : runs (.jtagBypass 1) (mk inReset) (fun s => s.blk.quiet) (fun s t => jtagged [] s t && decide (t.blk.jtag.instr = .bypass)) = true := by decide +kernel
/-- The manufacturer's identity is opaque: the word's first bit and its length are looked at. -/
theorem test_jtag_idcode : runs (.jtagIdcode 1) (mk fun b => b.put F.SYS_ID_STEP 5) up (fun s t => within 1 [] s t && decide (t.blk.jtag.instr = .idcode ∧
    t.blk.out.length = 1)) = true := by decide +kernel
theorem test_jtag_sample : runs (.jtagSamplePreload 1 [true] [false]) (mk inReset) (fun s => s.blk.quiet)
    (fun s t => jtagged [.capture [true]] s t && decide (t.blk.jtag = { instr := .sample, boundary := [false] })) = true := by decide +kernel
theorem test_jtag_extest : runs (.jtagExtest 1) (mk inReset) (fun s => s.blk.quiet)
    (fun s t => jtagged [.pins [true, false]] s t && decide (t.blk.jtag.instr = .extest)) = true := by decide +kernel

/-! ## Domains, temperature, the life cycle -/

def case_domain_request : Bool := runs (.domainRequest 1 0 0x80030001) (mk fun b => b.put F.PWR_DOM_STAT_ON 1) (let_ 0 F.PWR_DOM_REQ_REQ.addr)
    (fun s t => only 1 [1, 2] s t && decide (t.blk.get F.PWR_DOM_REQ_REQ = 0x80030001))
/-- The fabric off, one of the memory domains on, and a cluster off that runs are refused. -/
def case_domain_refused : Bool := runs (.domainRequest 1 0 0x00010020) (mk fun b => puts [(F.PWR_DOM_STAT_ON, 0x11, 0, 0), (F.WDN_CL_CTL_RUN, 1, 3, 0)] b)
    (let_ 0 F.PWR_DOM_REQ_REQ.addr)
    (fun s t => within 1 [1, 2] s t && recs [0x0102, 0x0102, 0x0102] s t && t.blk.on F.PWR_EVT_REFUSED && decide (t.blk.get F.PWR_DOM_REQ_REQ = 0x31))
def case_domain_cluster : Bool := runs (.domainRequest 1 4 0x20) (mk fun b => puts [(F.PWR_DOM_STAT_ON, 0x11, 0, 0), (F.PWR_DOM_REQ_REQ, 0x11, 0, 0),
      (F.WDN_CL_STAT_RUN, 1, 3, 0), (F.FLK_P_PERM_PERM, 0xFFFFF, 1, 0)] b) (let_ 4 F.PWR_DOM_REQ_REQ.addr)
    (fun s t => only 1 [1, 2] s t && t.blk.on F.PWR_EVT_WIGN && decide (t.blk.get F.PWR_DOM_REQ_REQ = 0x31))
theorem test_of_domain_request : case_domain_request = true := by
  decide +kernel
theorem test_of_domain_request_more : (case_domain_refused && case_domain_cluster) = true := by
  decide +kernel
def switched (req on : Nat) (b : Block) : Block := puts [(F.PWR_DOM_REQ_REQ, req, 0, 0), (F.PWR_DOM_STAT_ON, on, 0, 0)] b
def case_domain_on : Bool := runs (.domainSwitchOn 1 31 7) (mk (switched 0x80000001 1)) up
    (fun s t => within 1 [1, 20] s t && recs [0x0101] s t && t.blk.domOn 31 && t.blk.on F.PWR_EVT_DONE && decide (t.blk.get F.PWR_STAT_CUR = 31))
def case_domain_on_turn : Bool := runs (.domainSwitchOn 1 31 7) (mk (switched 0x80000003 1)) up (fun s t => only 1 [] s t)
def case_domain_on_hot : Bool := runs (.domainSwitchOn 1 31 7) (mk fun b => { switched 0x80000001 1 b with hot := true }) up (fun s t => only 1 [] s t)
theorem test_of_domain_switch_on : case_domain_on = true := by
  decide +kernel
theorem test_of_domain_switch_on_more : (case_domain_on_turn && case_domain_on_hot) = true := by
  decide +kernel
def case_domain_off : Bool := runs (.domainSwitchOff 1 8 7) (mk (switched 1 0x101)) up
    (fun s t => within 1 [1, 20] s t && recs [0x0101] s t && !t.blk.domOn 8 && t.blk.domOn 0 && decide (t.blk.out = s.blk.out))
def case_domain_off_turn : Bool := runs (.domainSwitchOff 1 8 7) (mk (switched 0x101 0x101)) up (fun s t => only 1 [] s t)
/-- The busy engine goes on, its idle partner stops. -/
def case_domain_busy : Bool := runs (.domainSwitchOff 1 10 7) (mk fun b => puts [(F.DEC_STAT_BUSY, 1, 1, 0), (F.DEC_STAT_RUN, 1, 1, 0), (F.DEC_STAT_RUN, 1, 0, 0)] (switched 1 0x401 b)) up
    (fun s t => only 1 [1, 40, 41] s t && t.blk.domOn 10 && t.blk.on F.PWR_STAT_BUSY && t.blk.on F.DEC_STAT_RUN 1 && !t.blk.on F.DEC_STAT_RUN 0 &&
      decide (t.blk.get F.PWR_STAT_CUR = 10))
/-- A change that has begun is finished, whatever is requested meanwhile, and no other begins. -/
def case_domain_begun : Bool := runs (.domainSwitchOff 1 10 7) (mk fun b => puts [(F.PWR_STAT_BUSY, 1, 0, 0), (F.PWR_STAT_CUR, 10, 0, 0)] (switched 0x401 0x401 b)) up
    (fun s t => recs [0x0101] s t && !t.blk.domOn 10 && !t.blk.on F.PWR_STAT_BUSY)
def case_domain_ladles : Bool := runs (.domainSwitchOff 1 31 7) (mk (switched 1 0x80000001)) up
    (fun s t => within 1 [1, 20] s t && recs [0x0101] s t && !t.blk.domOn 31)
def case_domain_fettler : Bool := runs (.domainSwitchOff 1 9 7) (mk fun b => (switched 1 0x201 b).put F.FET_PKT_STAT_STATE 2 63) up
    (fun s t => decide (t.mem = s.mem ∧ t.blk.get F.FET_PKT_STAT_STATE 63 = 0) && !t.blk.domOn 9)
def case_domain_encoder : Bool := runs (.domainSwitchOff 1 15 7) (mk fun b => (switched 1 0x8001 b).put F.ENC_STAT_RUN 1 1) up
    (fun s t => decide (t.mem = s.mem) && !t.blk.on F.ENC_STAT_RUN 1)
/-- The bytes at both ends of DRAM's 64 GiB, and the byte before. -/
def case_domain_memory : Bool := runs (.domainSwitchOff 1 17 7)
    (holding [(dramBase - 1, [1, 2]), (dramBase + 0xFFFFFFFFF, [3])] (mk fun b => puts [(F.MEM_STAT_SVC, 0x7F, 0, 0), (F.MEM_C_STAT_TRAINED, 1, 7, 0)] (switched 1 0x20001 b))) up
    (fun s t => recs [0x0101] s t && !t.blk.on F.MEM_C_STAT_TRAINED 7 && decide (t.blk.get F.MEM_STAT_SVC = 15 ∧ t.mem.cells = [(dramBase - 1, 1)]))
def case_domain_quad : Bool := runs (.domainSwitchOff 1 29 7) (mk fun b => switched 1 0x20000001 (lane47 1 b)) up
    (fun s t => decide (t.mem = s.mem) && !t.blk.laneUp 47 && !t.blk.on F.LNK_Q_STAT_PLL_LOCK 11)
theorem test_of_domain_switch_off : case_domain_off = true := by
  decide +kernel
theorem test_of_domain_switch_off_more : (case_domain_off_turn && case_domain_busy && case_domain_begun && case_domain_ladles &&
    case_domain_fettler && case_domain_encoder && case_domain_memory && case_domain_quad) = true := by
  decide +kernel
theorem test_lc_advance : runs (.lifeCycleAdvance 1 0) (holding [(scratchBase + 0x77FFFF, [1, 2])] (mk fun b => b.put F.SYS_LC_STATE 1)) (let_ 0 F.SYS_LC_ADVANCE.addr)
    (fun s t => recs [0x0002] s t && t.blk.on F.SPD_STAT_WIPING && decide (t.blk.get F.SYS_LC_STATE = 2 ∧ t.mem.bytes (scratchBase + 0x77FFFF) 2 = [1, 0])) = true := by decide +kernel
theorem test_lc_end : runs (.lifeCycleAdvance 1 0) (mk fun b => b.put F.SYS_LC_STATE 2) (let_ 0 F.SYS_LC_ADVANCE.addr)
    (fun s t => only 1 [0, 2] s t && t.blk.on F.SYS_EVT_WIGN && decide (t.blk.get F.SYS_LC_STATE = 2)) = true := by decide +kernel
/-- A part that is hot stays so; −0.125 °C lies below the warning of 0 °C, 0 °C does not. -/
def hotPart (b : Block) : Block := { b.put F.SYS_TEMP_LIM_WARN 0 with hot := true }
theorem test_temperature : runs (.temperatureSample 1 0xFFFF) (mk hotPart) (fun s => up s && s.blk.hot) (fun _ _ => true) = true := by decide +kernel
theorem test_temperature_warn : runs (.temperatureSample 1 0) (mk hotPart) up (fun _ _ => true) = true := by decide +kernel
/-- 96 °C and 120 °C lie on both sides of either grade's shutdown. -/
theorem test_shutdown_bounds : (768 : Int) < shutdownTj ∧ shutdownTj ≤ 960 := by unfold shutdownTj; split <;> decide

end Sys2Proof.Tests
end

section
/-! What a command may touch, said once: the registers of some windows. The proofs about accesses and resets cite these
rules and do not unfold the state. -/

namespace Sys2Proof.Machine

open Sys2Proof

/-- The block after an event has made no store, set no clock and sent nothing, and differs from the block before in no
register outside the windows `ws`. -/
structure Block.Touches (ws : List Nat) (b b' : Block) : Prop where
  stores : b'.stores = b.stores
  newPtp : b'.newPtp = b.newPtp
  clkReset : b'.clkReset = b.clkReset
  out : b'.out = b.out
  reg : ∀ a, a / 0x10000 ∉ ws → b'.reg a = b.reg a

namespace Block.Touches

variable {ws vs : List Nat} {b b' b'' : Block}

theorem refl (ws : List Nat) (b : Block) : Touches ws b b := ⟨rfl, rfl, rfl, rfl, fun _ _ => rfl⟩

theorem trans (h : Touches ws b b') (h' : Touches ws b' b'') : Touches ws b b'' :=
  ⟨h'.stores.trans h.stores, h'.newPtp.trans h.newPtp, h'.clkReset.trans h.clkReset, h'.out.trans h.out,
    fun a ha => (h'.reg a ha).trans (h.reg a ha)⟩

/-- An event after an event, both within the windows `ws`. -/
theorem andThen (h : Touches ws b b') (h' : Touches vs b' b'') (hv : ∀ w ∈ vs, w ∈ ws) : Touches ws b b'' :=
  h.trans ⟨h'.stores, h'.newPtp, h'.clkReset, h'.out, fun a ha => h'.reg a fun hm => ha (hv _ hm)⟩

/-- Of two events, either. -/
theorem ite {p : Prop} [Decidable p] (h : Touches ws b b') (h' : Touches ws b b'') :
    Touches ws b (if p then b' else b'') := by
  split
  · exact h
  · exact h'

/-- An update that is no register's. -/
theorem keep (h : Touches ws b b') (hr : b''.regs = b'.regs) (hs : b''.stores = b'.stores) (hp : b''.newPtp = b'.newPtp)
    (hc : b''.clkReset = b'.clkReset) (ho : b''.out = b'.out) : Touches ws b b'' :=
  h.trans ⟨hs, hp, hc, ho, fun a _ => by simp [Block.reg, hr]⟩

theorem setReg (h : Touches ws b b') {a : Nat} (ha : a / 0x10000 ∈ ws) (v : Word) : Touches ws b (b'.setReg a v) :=
  h.trans ⟨rfl, rfl, rfl, rfl, fun _ hx => Block.reg_setReg_of_ne _ _ fun e => hx (e ▸ ha)⟩

section Fields

variable {f : Fld} {i j k : Nat}

theorem put (h : Touches ws b b') (hf : f.at i j k / 0x10000 ∈ ws) (x : Nat) : Touches ws b (b'.put f x i j k) :=
  h.setReg hf _

theorem flag (h : Touches ws b b') (hf : f.at i j k / 0x10000 ∈ ws) (x : Bool) : Touches ws b (b'.flag f x i j k) :=
  h.put hf _

theorem inc (h : Touches ws b b') (hf : f.at i j k / 0x10000 ∈ ws) (n : Nat) : Touches ws b (b'.inc f i j k n) :=
  h.put hf _

theorem wrap (h : Touches ws b b') (hf : f.at i j k / 0x10000 ∈ ws) (n : Nat) : Touches ws b (b'.wrap f i j k n) :=
  h.put hf _

theorem evt (h : Touches ws b b') (hf : f.at i j / 0x10000 ∈ ws) : Touches ws b (b'.evt f i j) :=
  (h.put hf 1).keep rfl rfl rfl rfl rfl

end Fields

theorem put2 (h : Touches ws b b') {lo hi : Fld} {i j : Nat} (hl : lo.at i j / 0x10000 ∈ ws)
    (hh : hi.at i j / 0x10000 ∈ ws) (x : Nat) : Touches ws b (b'.put2 lo hi x i j) :=
  (h.put hl _).put hh _

theorem record (h : Touches ws b b') (code sev p0 p1 p2 p3 inst : Nat) :
    Touches ws b (b'.record code sev p0 p1 p2 p3 inst) := h.keep rfl rfl rfl rfl rfl

theorem recordLim (h : Touches ws b b') (c : Clk) (key period code sev p0 p1 p2 p3 inst : Nat) :
    Touches ws b (b'.recordLim c key period code sev p0 p1 p2 p3 inst) := by
  unfold Block.recordLim
  split
  · exact h.keep rfl rfl rfl rfl rfl
  · exact h

theorem resp (h : Touches ws b b') (r : Resp) : Touches ws b { b' with resp := r } := h.keep rfl rfl rfl rfl rfl

theorem begun (h : Touches ws b b') (t : Tick) : Touches ws b (b'.begun t) := h.keep rfl rfl rfl rfl rfl

/-- A field outside the windows reads as before. -/
theorem get (h : Touches ws b b') (f : Fld) (i j k : Nat) (hf : f.at i j k / 0x10000 ∉ ws) :
    b'.get f i j k = b.get f i j k := by simp [Block.get, h.reg _ hf]

theorem on (h : Touches ws b b') (f : Fld) (i j k : Nat) (hf : f.at i j k / 0x10000 ∉ ws) :
    b'.on f i j k = b.on f i j k := by simp [Block.on, h.get f i j k hf]

end Block.Touches

/-! ## Fields after a put -/

theorem Block.get_put_self (b : Block) (f : Fld) (hf : f.lsb + f.width ≤ 32) {x : Nat} (hx : x < 2 ^ f.width)
    (i j k : Nat) : (b.put f x i j k).get f i j k = x := by rw [b.get_put_same f hf, Nat.mod_eq_of_lt hx]

theorem Block.on_put_one (b : Block) (f : Fld) (hf : f.lsb + f.width ≤ 32) (hw : f.width = 1) (i j k : Nat) :
    (b.put f 1 i j k).on f i j k = true := by
  simpa [Block.flag, b2n] using b.on_flag_same f hf hw true i j k

/-! ## The state in which a command ends -/

/-- The blocks as a command finds them `dt` cycles after the command before. -/
def State.found (s : State) (dt : Nat) : Block := s.blk.begun (s.pass dt).clk.steady

/-- The state in which a command ends whose event leaves the blocks as `b`. -/
def State.ends (s : State) (dt : Nat) (b : Block) : State := (s.pass dt).act fun _ _ _ => b

theorem Block.quiet_iff (b : Block) :
    b.quiet = true ↔ b.stores = [] ∧ b.newPtp = none ∧ b.clkReset = false ∧ b.readied = [] := by
  simp [Block.quiet, and_assoc]

section Ends

variable (s : State) (dt : Nat) (f : Clk → Mem → Block → Block) (b : Block)

theorem State.act_eq_ends : (s.pass dt).act f = s.ends dt (f (s.pass dt).clk s.mem (s.found dt)) := by
  unfold State.ends State.found
  apply State.act_congr
  rw [State.pass_mem, State.pass_blk]

theorem State.run_eq_ends (h : s.blk.hold = .none) :
    s.run dt f = .next (s.ends dt (f (s.pass dt).clk s.mem (s.found dt))) := by
  rw [State.run_live _ _ _ h, State.act_eq_ends]

theorem State.ends_clk (hp : b.newPtp = none) (hc : b.clkReset = false) : (s.ends dt b).clk = (s.pass dt).clk := by
  simp [State.ends, State.act, hp, hc]

theorem State.ends_clk_of_reset (hc : b.clkReset = true) : (s.ends dt b).clk = {} := by
  simp [State.ends, State.act, hc]

theorem State.ends_mem : (s.ends dt b).mem = s.mem.puts b.stores := by
  rw [State.ends, State.act_mem, State.pass_mem]

theorem State.ends_blk :
    (s.ends dt b).blk = { b with stores := [], newPtp := none, clkReset := false, readied := [] } := by
  rw [State.ends, State.act]

@[simp] theorem State.ends_reg (a : Nat) : (s.ends dt b).blk.reg a = b.reg a := by rw [State.ends_blk]; rfl
@[simp] theorem State.ends_get (x : Fld) (i j k : Nat) : (s.ends dt b).blk.get x i j k = b.get x i j k := by
  rw [State.ends_blk]; rfl
@[simp] theorem State.ends_on (x : Fld) (i j k : Nat) : (s.ends dt b).blk.on x i j k = b.on x i j k := by
  rw [State.ends_blk]; rfl
@[simp] theorem State.ends_get2 (x y : Fld) (i j : Nat) : (s.ends dt b).blk.get2 x y i j = b.get2 x y i j := by
  rw [State.ends_blk]; rfl
@[simp] theorem State.ends_resp : (s.ends dt b).blk.resp = b.resp := by rw [State.ends_blk]
@[simp] theorem State.ends_evq : (s.ends dt b).blk.evq = b.evq := by rw [State.ends_blk]
@[simp] theorem State.ends_out : (s.ends dt b).blk.out = b.out := by rw [State.ends_blk]
@[simp] theorem State.ends_latch : (s.ends dt b).blk.latch = b.latch := by rw [State.ends_blk]
@[simp] theorem State.ends_hold : (s.ends dt b).blk.hold = b.hold := by rw [State.ends_blk]
@[simp] theorem State.ends_log : (s.ends dt b).blk.log = b.log := by rw [State.ends_blk]
@[simp] theorem State.ends_start : (s.ends dt b).blk.start = b.start := by rw [State.ends_blk]

variable {s dt b} {ws : List Nat}

/-- The frame of a command whose event touches the windows `ws` only. -/
theorem State.ends_within (hq : s.blk.quiet = true) (h : Block.Touches ws s.blk b) :
    Claims.within s (s.ends dt b) dt ws := by
  obtain ⟨hs, hp, hc, -⟩ := (Block.quiet_iff _).1 hq
  refine ⟨?_, ?_, fun a ha => by rw [State.ends_reg, h.reg a ha]⟩
  · exact State.ends_clk s dt b (h.newPtp.trans hp) (h.clkReset.trans hc)
  · rw [State.ends_mem, h.stores, hs, Mem.puts_nil]

/-- The frame of a command whose event records nothing either. -/
theorem State.ends_only (hq : s.blk.quiet = true) (h : Block.Touches ws s.blk b) (he : b.evq = s.blk.evq) :
    Claims.only s (s.ends dt b) dt ws :=
  ⟨ends_within hq h, by rw [State.ends_evq, he], by rw [State.ends_out, h.out]⟩

end Ends

theorem State.found_touches (s : State) (dt : Nat) (ws : List Nat) : Block.Touches ws s.blk (s.found dt) :=
  (Block.Touches.refl ws s.blk).begun _

end Sys2Proof.Machine
end

section
/-! Accesses through the Runner matrix: what opening a port leaves, which address names a register window, what a refusal
and a log of the default target change. -/

namespace Sys2Proof.Machine

open Sys2Proof

/-! ## The port of the matrix -/

theorem portOpen_touches (c : Clk) (cls : Nat) (b : Block) : Block.Touches [2] b (portOpen c cls b) :=
  ((Block.Touches.refl [2] b).flag (f := { F.MTX_STAT_GATED with lsb := matrixPort cls, width := 1 })
    (i := 0) (j := 0) (k := 0) (by simp [Fld.at, F.MTX_STAT_GATED]) false).keep rfl rfl rfl rfl rfl

section PortOpen

variable (c : Clk) (cls : Nat) (b : Block)

theorem portOpen_get (f : Fld) (i j k : Nat) (hf : f.at i j k ≠ F.MTX_STAT_GATED.addr) :
    (portOpen c cls b).get f i j k = b.get f i j k := by
  unfold Block.get
  rw [portOpen_reg c cls _ b hf]

theorem portOpen_on (f : Fld) (i j k : Nat) (hf : f.at i j k ≠ F.MTX_STAT_GATED.addr) :
    (portOpen c cls b).on f i j k = b.on f i j k := by
  unfold Block.on
  rw [portOpen_get c cls b f i j k hf]

theorem portOpen_swap : (portOpen c cls b).on F.SYS_REMAP_SWAP = b.on F.SYS_REMAP_SWAP :=
  portOpen_on c cls b _ _ _ _ (by decide)

theorem portOpen_posted (w : Nat) : periphPosted (portOpen c cls b) w = periphPosted b w := by
  unfold periphPosted
  rw [portOpen_get c cls b]
  simp only [Fld.at, F.FLK_P_ATTR_ORDER, F.MTX_STAT_GATED]
  omega

end PortOpen

/-! ## Accesses to the register windows -/

section Bus

variable (c : Clk) (m : Mem) (cls a : Nat) (b : Block)

theorem busWrite_silent (v : Word) (mr : Option (Byte × Bool)) (w : PortB) (hi : issues b cls = false) :
    busWrite c m cls a v mr w b = b := by simp [busWrite, hi]

theorem busRead_silent (ecc : Nat) (hi : issues b cls = false) : busRead c m cls a ecc b = b := by simp [busRead, hi]

theorem badAccess_silent (k : Nat) (wr : Bool) (hi : issues b cls = false) : badAccess c cls a k wr b = b := by
  simp [badAccess, hi]

theorem missAccess_silent (wr : Bool) (hi : issues b cls = false) : missAccess c cls a wr b = b := by
  simp [missAccess, hi]

variable {p : Nat}

theorem busWrite_periph (v : Word) (mr : Option (Byte × Bool)) (w : PortB) (hi : issues b cls = true)
    (hd : decodeAddr (b.on F.SYS_REMAP_SWAP) a = .periph p) (h4 : a % 4 = 0) :
    busWrite c m cls a v mr w b = periphWrite c m cls p v mr (portOpen c cls b) := by
  simp [busWrite, hi, portOpen_swap, hd, h4]

theorem busRead_periph (ecc : Nat) (hi : issues b cls = true)
    (hd : decodeAddr (b.on F.SYS_REMAP_SWAP) a = .periph p) (h4 : a % 4 = 0) :
    busRead c m cls a ecc b = periphRead c cls p (portOpen c cls b) := by
  simp [busRead, hi, portOpen_swap, hd, h4]

theorem badAccess_periph (k : Nat) (wr : Bool) (hi : issues b cls = true)
    (hd : decodeAddr (b.on F.SYS_REMAP_SWAP) a = .periph p) (hbad : k ≠ 2 ∨ a % 4 ≠ 0) :
    badAccess c cls a k wr b = badLog c cls a (2 ^ k) wr (portOpen c cls b) := by
  simp [badAccess, hi, portOpen_swap, hd, hbad]

theorem missAccess_miss (wr : Bool) (hi : issues b cls = true)
    (hd : decodeAddr (b.on F.SYS_REMAP_SWAP) a = .miss) :
    missAccess c cls a wr b = missLog c cls a wr (portOpen c cls b) := by
  simp [missAccess, hi, portOpen_swap, hd]

variable (p)

theorem periphWrite_refused (v : Word) (mr : Option (Byte × Bool)) (h : periphOk b cls (p / 0x10000) true = false) :
    periphWrite c m cls p v mr b =
      { flaskRefuse c cls (periphBase + p) true (periphPosted b (p / 0x10000)) { reason := 1, slot := p / 0x10000 }
          (classSupervisor cls) b with resp := failResp (periphPosted b (p / 0x10000)) } := by
  simp [periphWrite, h]

theorem periphRead_refused (h : periphOk b cls (p / 0x10000) false = false) :
    periphRead c cls p b =
      { flaskRefuse c cls (periphBase + p) false false { reason := 1, slot := p / 0x10000 } (classSupervisor cls) b with
        resp := .error } := by
  simp [periphRead, h]

theorem periphWrite_barred (v : Word) (mr : Option (Byte × Bool)) (h : periphOk b cls (p / 0x10000) true = true)
    (hb : writeBarred cls p v = true) :
    periphWrite c m cls p v mr b =
      { b.record 0x0303 4 (periphBase + p) cls v.toNat with resp := failResp (periphPosted b (p / 0x10000)) } := by
  simp [periphWrite, h, hb]

theorem periphWrite_granted (v : Word) (mr : Option (Byte × Bool)) (h : periphOk b cls (p / 0x10000) true = true)
    (hm : mayWrite cls p = true) : periphWrite c m cls p v mr b = { regWrite c m cls p v mr b with resp := .done } := by
  simp [periphWrite, h, writeBarred_of_mayWrite cls p v hm, foreignSubmit_of_mayWrite cls p hm]

theorem periphRead_foreign (h : periphOk b cls (p / 0x10000) false = true) (hf : foreignBlock cls p = true) :
    periphRead c cls p b = { b with resp := .error } := by
  simp [periphRead, h, hf]

end Bus

theorem wardenField_barred {cls p : Nat} {v : Word} (h0 : cls ≠ 0) (h : wardenField p v = true) :
    writeBarred cls p v = true := by simp [writeBarred, h0, h]

/-- A write to a reserved word, or to a register all of whose fields are read-only, does nothing (R8, R11). -/
theorem regWrite_readOnly (c : Clk) (m : Mem) (cls p : Nat) (v : Word) (mr : Option (Byte × Bool)) (b : Block)
    (h6 : p / 0x10000 ≠ 6)
    (hr : regAt p = none ∨ ∃ r ix, regAt p = some (r, ix) ∧ r.rw = 0 ∧ r.wo = 0 ∧ r.w1c = 0) :
    regWrite c m cls p v mr b = b := by
  rcases hr with hr | ⟨r, ix, hr, hrw, hwo, hw1⟩
  · simp [regWrite, h6, hr]
  · simp [regWrite, h6, hr, clearBits, hrw, hwo, hw1]

/-! ## A refusal of the Flask (R414-R416) -/

/-- The supervisor of a refused initiator is told (R415). -/
theorem flkPend_touches {ws : List Nat} {b b' : Block} (sup : Nat) (h : Block.Touches ws b b') :
    Block.Touches ws b (if sup < 4 && !bit b'.flkPend sup then { b' with flkPend := b'.flkPend + 2 ^ sup } else b') := by
  split
  · exact h.keep rfl rfl rfl rfl rfl
  · exact h

theorem flaskRefuse_touches (c : Clk) (cls a : Nat) (wr imprecise : Bool) (r : Refused) (sup : Nat) (b : Block) :
    Block.Touches [3] b (flaskRefuse c cls a wr imprecise r sup b) := by
  have h := Block.Touches.refl [3] b
  unfold flaskRefuse
  refine (flkPend_touches sup (Block.Touches.evt ?_ (by decide))).recordLim ..
  split
  · exact h.inc (by decide) _
  · exact ((((((h.put2 (by decide) (by decide) _).put (by decide) _).flag (by decide) _).flag (by decide) _).put
      (by decide) _).put (by decide) _).evt (by decide)

/-- A refusal sets FLK_EVT.VIOL. -/
theorem flaskRefuse_viol (c : Clk) (cls a : Nat) (wr imprecise : Bool) (r : Refused) (sup : Nat) (b : Block) :
    (flaskRefuse c cls a wr imprecise r sup b).on F.FLK_EVT_VIOL = true := by
  have hlim : ∀ (x : Block) (key period code sev p0 p1 p2 p3 : Nat),
      (x.recordLim c key period code sev p0 p1 p2 p3).on F.FLK_EVT_VIOL = x.on F.FLK_EVT_VIOL := by
    intros
    unfold Block.recordLim
    split <;> rfl
  have hpend : ∀ x : Block,
      (if sup < 4 && !bit x.flkPend sup then { x with flkPend := x.flkPend + 2 ^ sup } else x).on F.FLK_EVT_VIOL =
        x.on F.FLK_EVT_VIOL := by
    intro x
    split <;> rfl
  unfold flaskRefuse
  rw [hlim, hpend]
  exact Block.on_put_one _ F.FLK_EVT_VIOL (by decide) rfl 0 0 0

end Sys2Proof.Machine
end

section
/-! The default target's log of a decode miss and of an access of the wrong width (R404), and the statement on accesses that are
refused. -/

namespace Sys2Proof.Machine

open Sys2Proof

/-! ## The log of the default target (R404) -/

/-- The fields of one of the default target's two logs: single registers of the MTX window behind MTX_STAT, the flag and the
count in registers of their own, the address in 40 bits, the rest of the high word apart. -/
structure LogFields (flag cnt lo hi clsF wrF : Fld) : Prop where
  window : ∀ f ∈ [flag, cnt, lo, hi, clsF, wrF], f.addr / 0x10000 = 2 ∧ f.addr ≠ F.MTX_STAT_GATED.addr
  fits : ∀ f ∈ [flag, cnt, lo, hi, clsF, wrF], f.fits
  oneBit : flag.width = 1 ∧ wrF.width = 1
  address : lo.width = 32 ∧ hi.width = 8
  class' : clsF.width = 4
  highWord : clsF.addr = hi.addr ∧ wrF.addr = hi.addr
  apart : clsF.apart hi ∧ wrF.apart hi ∧ wrF.apart clsF
  registers : [flag.addr, cnt.addr, lo.addr, hi.addr].Nodup

theorem missLogFields : LogFields F.MTX_EVT_MISS F.MTX_CNT_MISS F.MTX_MISS_LO_ADDR_LO F.MTX_MISS_HI_ADDR_HI
    F.MTX_MISS_HI_CLASS F.MTX_MISS_HI_WRITE where
  window := by decide
  fits := by unfold Fld.fits; decide
  oneBit := by decide
  address := by decide
  class' := rfl
  highWord := by decide
  apart := by unfold Fld.apart; decide
  registers := by decide

theorem badLogFields : LogFields F.MTX_EVT_BAD F.MTX_CNT_BAD F.MTX_BAD_LO_ADDR_LO F.MTX_BAD_HI_ADDR_HI
    F.MTX_BAD_HI_CLASS F.MTX_BAD_HI_WRITE where
  window := by decide
  fits := by unfold Fld.fits; decide
  oneBit := by decide
  address := by decide
  class' := rfl
  highWord := by decide
  apart := by unfold Fld.apart; decide
  registers := by decide

@[simp] theorem Fld.at_zero (f : Fld) : f.at 0 0 0 = f.addr := by simp [Fld.at]

@[simp] theorem Block.get_recordLim (b : Block) (c : Clk) (key period code sev p0 p1 p2 p3 inst : Nat) (f : Fld) (i j k : Nat) :
    (b.recordLim c key period code sev p0 p1 p2 p3 inst).get f i j k = b.get f i j k := by
  unfold Block.recordLim
  split <;> rfl

/-- Load the log's registers with an access, unless the flag is set. -/
def logLoad (flag lo hi clsF wrF : Fld) (a cls : Nat) (wr : Bool) (b : Block) : Block :=
  if b.on flag then b else ((b.put2 lo hi a).put clsF cls).flag wrF wr

/-- Set the flag, count the access, record it at most once a second for its class, and answer with an error. -/
def logNote (flag cnt : Fld) (c : Clk) (code cls a p3 : Nat) (b : Block) : Block :=
  { ((b.evt flag).inc cnt).recordLim c (code * 256 + cls) sTick code 3 a (a / 2 ^ 32) cls p3 with resp := .error }

theorem missLog_eq (c : Clk) (cls a : Nat) (wr : Bool) (b : Block) :
    missLog c cls a wr b = logNote F.MTX_EVT_MISS F.MTX_CNT_MISS c 0x0201 cls a 0
      (logLoad F.MTX_EVT_MISS F.MTX_MISS_LO_ADDR_LO F.MTX_MISS_HI_ADDR_HI F.MTX_MISS_HI_CLASS F.MTX_MISS_HI_WRITE a cls wr b) := rfl

theorem badLog_eq (c : Clk) (cls a width : Nat) (wr : Bool) (b : Block) :
    badLog c cls a width wr b = logNote F.MTX_EVT_BAD F.MTX_CNT_BAD c 0x0202 cls a width
      (if b.on F.MTX_EVT_BAD then b else
        (logLoad F.MTX_EVT_BAD F.MTX_BAD_LO_ADDR_LO F.MTX_BAD_HI_ADDR_HI F.MTX_BAD_HI_CLASS F.MTX_BAD_HI_WRITE a cls wr b).put
          F.MTX_BAD_HI_WIDTH (width - 1)) := by
  by_cases h : b.on F.MTX_EVT_BAD <;> simp [badLog, logNote, logLoad, h]

/-- What the log's registers hold once an access is loaded: that access, or the earlier one while the flag was set. -/
structure Loaded (flag cnt lo hi clsF wrF : Fld) (a cls : Nat) (wr : Bool) (b b' : Block) : Prop where
  touches : Block.Touches [2] b b'
  evq : b'.evq = b.evq
  limits : b'.limits = b.limits
  count : b'.get cnt = b.get cnt
  fresh : b.on flag = false → b'.get2 lo hi = a ∧ b'.get clsF = cls ∧ b'.on wrF = wr
  kept : b.on flag = true → b'.get2 lo hi = b.get2 lo hi

section Log

variable {flag cnt lo hi clsF wrF : Fld} {a cls : Nat} {wr : Bool}

/-- What the access finds: the blocks before it, but for the state of the matrix ports. -/
structure PortsOnly (b x : Block) : Prop where
  touches : Block.Touches [2] b x
  evq : x.evq = b.evq
  limits : x.limits = b.limits
  reg : ∀ a, a ≠ F.MTX_STAT_GATED.addr → x.reg a = b.reg a

theorem PortsOnly.get {b x : Block} (h : PortsOnly b x) {f : Fld} (hf : f.addr ≠ F.MTX_STAT_GATED.addr) :
    x.get f = b.get f := by
  unfold Block.get
  rw [Fld.at_zero, h.reg _ hf]

theorem PortsOnly.on {b x : Block} (h : PortsOnly b x) {f : Fld} (hf : f.addr ≠ F.MTX_STAT_GATED.addr) :
    x.on f = b.on f := by
  unfold Block.on
  rw [h.get hf]

theorem LogFields.loaded (hF : LogFields flag cnt lo hi clsF wrF) (ha : a < 2 ^ 40) (hc : cls < 2 ^ 4) {b x : Block}
    (h : PortsOnly b x) : Loaded flag cnt lo hi clsF wrF a cls wr b (logLoad flag lo hi clsF wrF a cls wr x) := by
  have hw := hF.window
  have hf := hF.fits
  simp only [List.forall_mem_cons, List.not_mem_nil, false_imp_iff, implies_true, and_true] at hw hf
  obtain ⟨⟨-, hflag⟩, ⟨-, hcnt⟩, ⟨wlo, hlo⟩, ⟨whi, hhi⟩, ⟨wcls, -⟩, wwr, -⟩ := hw
  obtain ⟨-, -, flo, fhi, fcls, fwr⟩ := hf
  obtain ⟨hl32, hh8⟩ := hF.address
  obtain ⟨acls, awr, awc⟩ := hF.apart
  have hreg := hF.registers
  simp only [List.nodup_cons, List.mem_cons, List.not_mem_nil, or_false, not_or, not_false_eq_true, List.nodup_nil,
    and_true] at hreg
  obtain ⟨-, ⟨cntlo, cnthi⟩, lohi⟩ := hreg
  obtain ⟨ecls, ewr⟩ := hF.highWord
  have hon : x.on flag = b.on flag := h.on hflag
  have hget2 : x.get2 lo hi = b.get2 lo hi := by
    unfold Block.get2
    rw [h.get hlo, h.get hhi]
  unfold logLoad
  by_cases hb : b.on flag = true
  · rw [if_pos (hon.trans hb)]
    exact ⟨h.touches, h.evq, h.limits, h.get hcnt, fun hf => absurd hb (by simp [hf]), fun _ => hget2⟩
  · rw [if_neg (by rw [hon]; exact hb)]
    refine ⟨?_, h.evq, h.limits, ?_, fun _ => ⟨?_, ?_, ?_⟩, fun hf => absurd hf hb⟩
    · exact (((h.touches.put2 (by simp [wlo]) (by simp [whi]) _).put (by simp [wcls]) _).flag (by simp [wwr]) _)
    · have hother : ∀ (y : Block) (g : Fld) (v : Nat), cnt.addr ≠ g.addr → (y.put g v).get cnt = y.get cnt :=
        fun y g v hg => y.get_put_other g cnt v 0 0 0 0 0 0 (by simpa using Ne.symm hg)
      unfold Block.flag Block.put2
      rw [hother _ _ _ (ewr ▸ cnthi), hother _ _ _ (ecls ▸ cnthi), hother _ _ _ cnthi, hother _ _ _ cntlo, h.get hcnt]
    · have hkeep : ∀ y : Block, ((y.put clsF cls).flag wrF wr).get2 lo hi = y.get2 lo hi := by
        intro y
        unfold Block.get2 Block.flag
        rw [Block.get_put_apart _ wrF hi fwr awr, Block.get_put_apart _ clsF hi fcls acls,
          Block.get_put_other _ wrF lo _ _ _ _ _ _ _ (by simpa [ewr] using Ne.symm lohi),
          Block.get_put_other _ clsF lo _ _ _ _ _ _ _ (by simpa [ecls] using Ne.symm lohi)]
      rw [hkeep]
      unfold Block.get2 Block.put2
      rw [Block.get_put_other _ hi lo _ _ _ _ _ _ _ (by simpa using Ne.symm lohi), Block.get_put_same _ lo flo,
        Block.get_put_same _ hi fhi, hl32, hh8]
      omega
    · unfold Block.flag
      rw [Block.get_put_apart _ wrF clsF fwr awc, Block.get_put_same _ clsF fcls, hF.class', Nat.mod_eq_of_lt hc]
    · exact Block.on_flag_same _ wrF fwr hF.oneBit.2 wr 0 0 0

theorem LogFields.logged (hF : LogFields flag cnt lo hi clsF wrF) {s : State} {dt code p3 : Nat} {b : Block}
    (hq : s.blk.quiet = true) (hcode : code / 256 = 2) (hl : Loaded flag cnt lo hi clsF wrF a cls wr s.blk b) :
    Claims.logged s (s.ends dt (logNote flag cnt (s.pass dt).clk code cls a p3 b)) dt code cls a p3 flag cnt lo hi clsF wrF wr := by
  have hw := hF.window
  have hf := hF.fits
  simp only [List.forall_mem_cons, List.not_mem_nil, false_imp_iff, implies_true, and_true] at hw hf
  obtain ⟨⟨wflag, -⟩, ⟨wcnt, -⟩, -⟩ := hw
  obtain ⟨fflag, fcnt, -⟩ := hf
  have hreg := hF.registers
  simp only [List.nodup_cons, List.mem_cons, List.not_mem_nil, or_false, not_or, not_false_eq_true, List.nodup_nil,
    and_true] at hreg
  obtain ⟨⟨flagcnt, flaglo, flaghi⟩, ⟨cntlo, cnthi⟩, -⟩ := hreg
  obtain ⟨ecls, ewr⟩ := hF.highWord
  have hget : ∀ g : Fld, flag.addr ≠ g.addr → cnt.addr ≠ g.addr →
      (logNote flag cnt (s.pass dt).clk code cls a p3 b).get g = b.get g := by
    intro g hg hg'
    show (Block.recordLim _ _ _ _ _ _ _ _ _ _ _).get g = _
    rw [Block.get_recordLim, Block.inc, Block.get_put_other _ cnt g _ _ _ _ _ _ _ (by simpa using hg'), Block.get_evt,
      Block.get_put_other _ flag g _ _ _ _ _ _ _ (by simpa using hg)]
  have hflag : (logNote flag cnt (s.pass dt).clk code cls a p3 b).on flag = true := by
    show ((Block.recordLim _ _ _ _ _ _ _ _ _ _ _).get flag == 1) = true
    rw [Block.get_recordLim, Block.inc, Block.get_put_other _ cnt flag _ _ _ _ _ _ _ (by simpa using Ne.symm flagcnt),
      Block.get_evt]
    exact Block.on_put_one b flag fflag hF.oneBit.1 0 0 0
  have hcnt : (logNote flag cnt (s.pass dt).clk code cls a p3 b).get cnt = min (2 ^ cnt.width - 1) (s.blk.get cnt + 1) := by
    show (Block.recordLim _ _ _ _ _ _ _ _ _ _ _).get cnt = _
    rw [Block.get_recordLim, Block.inc, Block.get_put_same _ cnt fcnt, Block.get_evt,
      Block.get_put_other _ flag cnt _ _ _ _ _ _ _ (by simpa using flagcnt), hl.count]
    have : 0 < 2 ^ cnt.width := by positivity
    exact Nat.mod_eq_of_lt (by omega)
  have hget2 : (logNote flag cnt (s.pass dt).clk code cls a p3 b).get2 lo hi = b.get2 lo hi := by
    unfold Block.get2
    rw [hget _ flaglo cntlo, hget _ flaghi cnthi]
  refine ⟨State.ends_within hq ?_, by simp [logNote], by simp [hflag], by simp [hcnt], fun h => ?_, fun h => ?_, ?_⟩
  · exact (((hl.touches.evt (by simp [wflag])).inc (by simp [wcnt]) _).recordLim ..).resp _
  · obtain ⟨h2, hc, hwr⟩ := hl.fresh h
    refine ⟨by simp [hget2, h2], ?_, ?_⟩
    · simp only [State.ends_get]
      rw [hget _ (ecls ▸ flaghi) (ecls ▸ cnthi), hc]
    · rw [State.ends_on]
      unfold Block.on
      rw [hget _ (ewr ▸ flaghi) (ewr ▸ cnthi)]
      exact hwr
  · simp [hget2, hl.kept h]
  · have hlim : ((b.evt flag).inc cnt).limitOk = s.blk.limitOk := by
      funext c key period
      show Block.limitOk _ _ _ _ = _
      unfold Block.limitOk
      rw [show ((b.evt flag).inc cnt).limits = s.blk.limits from hl.limits]
    have hevq : ((b.evt flag).inc cnt).evq = s.blk.evq := hl.evq
    simp only [State.ends_evq, logNote, Block.recordLim, hlim]
    split
    · simp [hevq, hcode]
    · simp [hevq]

end Log

end Sys2Proof.Machine
end

section
/-! The statement on accesses that are refused: each is its access, whose frame and response the rules above give. -/

namespace Sys2Proof.Machine

open Sys2Proof

/-- Settles O2: the memories list nothing, the clocks are at 0, and the record of reset is no transient field. -/
theorem resetStateMeetsInvariant : Obligations.ResetStateMeetsInvariant :=
  ⟨⟨Memory.wf_reset, by decide, by decide⟩, rfl⟩

/-! ## The blocks that an access finds -/

section Found

variable (s : State) (dt : Nat)

@[simp] theorem State.found_resp : (s.found dt).resp = s.blk.resp := rfl
theorem State.periphOk_found (cls w : Nat) (wr : Bool) : periphOk (s.found dt) cls w wr = periphOk s.blk cls w wr := rfl

/-- The blocks once the access has opened its port. -/
def State.opened (cls : Nat) : Block := portOpen (s.pass dt).clk cls (s.found dt)

variable (cls : Nat)

theorem State.opened_portsOnly : PortsOnly s.blk (s.opened dt cls) :=
  ⟨(s.found_touches dt [2]).trans (portOpen_touches _ _ _), rfl, rfl, fun _ ha => portOpen_reg _ _ _ _ ha⟩

theorem State.opened_touches {ws : List Nat} (h2 : 2 ∈ ws) : Block.Touches ws s.blk (s.opened dt cls) :=
  (Block.Touches.refl ws s.blk).andThen (s.opened_portsOnly dt cls).touches (by simpa using h2)

@[simp] theorem State.opened_evq : (s.opened dt cls).evq = s.blk.evq := rfl
@[simp] theorem State.opened_latch : (s.opened dt cls).latch = s.blk.latch := rfl
@[simp] theorem State.opened_stores : (s.opened dt cls).stores = s.blk.stores := rfl

theorem State.periphOk_opened (k w : Nat) (wr : Bool) : periphOk (s.opened dt cls) k w wr = periphOk s.blk k w wr := by
  rw [State.opened, periphOk_portOpen, State.periphOk_found]

theorem State.posted_opened (w : Nat) : periphPosted (s.opened dt cls) w = periphPosted s.blk w := by
  rw [State.opened, portOpen_posted]
  rfl

end Found

/-! ## Accesses as commands -/

section Commands

variable {s : State} (dt : Nat) {cls : Cls} {addr : BitVec 40} {p : Nat}

theorem exec_registerWrite_periph (v : Word) (w : PortB) (h0 : s.blk.hold = .none) (hi : issues s.blk cls.val = true)
    (hd : decodeAddr (s.blk.on F.SYS_REMAP_SWAP) addr.toNat = .periph p) (h4 : addr.toNat % 4 = 0) :
    exec (.registerWrite dt cls addr v w) s =
      .next (s.ends dt (periphWrite (s.pass dt).clk s.mem cls.val p v none (s.opened dt cls.val))) := by
  show s.run dt (fun c m b => busWrite c m cls.val addr.toNat v none w b) = _
  rw [State.run_eq_ends _ _ _ h0, busWrite_periph _ _ _ _ (s.found dt) _ _ _ hi hd h4]
  rfl

theorem exec_registerRead_periph (ecc : Fin 3) (h0 : s.blk.hold = .none) (hi : issues s.blk cls.val = true)
    (hd : decodeAddr (s.blk.on F.SYS_REMAP_SWAP) addr.toNat = .periph p) (h4 : addr.toNat % 4 = 0) :
    exec (.registerRead dt cls addr ecc) s =
      .next (s.ends dt (periphRead (s.pass dt).clk cls.val p (s.opened dt cls.val))) := by
  show s.run dt (fun c m b => busRead c m cls.val addr.toNat ecc.val b) = _
  rw [State.run_eq_ends _ _ _ h0, busRead_periph _ _ _ _ (s.found dt) _ hi hd h4]
  rfl

theorem exec_badWidthAccess_periph (log2 : Fin 7) (wr : Bool) (h0 : s.blk.hold = .none) (hi : issues s.blk cls.val = true)
    (hd : decodeAddr (s.blk.on F.SYS_REMAP_SWAP) addr.toNat = .periph p) (hbad : log2 ≠ 2 ∨ addr.toNat % 4 ≠ 0) :
    exec (.badWidthAccess dt cls addr log2 wr) s =
      .next (s.ends dt (badLog (s.pass dt).clk cls.val addr.toNat (2 ^ log2.val) wr (s.opened dt cls.val))) := by
  show s.run dt (fun c _ b => badAccess c cls.val addr.toNat log2.val wr b) = _
  have hbad' : log2.val ≠ 2 ∨ addr.toNat % 4 ≠ 0 := hbad.imp_left fun h e => h (Fin.ext e)
  rw [State.run_eq_ends _ _ _ h0, badAccess_periph _ _ _ (s.found dt) _ _ hi hd hbad']
  rfl

theorem exec_decodeMiss_miss (wr : Bool) (h0 : s.blk.hold = .none) (hi : issues s.blk cls.val = true)
    (hd : decodeAddr (s.blk.on F.SYS_REMAP_SWAP) addr.toNat = .miss) :
    exec (.decodeMiss dt cls addr wr) s =
      .next (s.ends dt (missLog (s.pass dt).clk cls.val addr.toNat wr (s.opened dt cls.val))) := by
  show s.run dt (fun c _ b => missAccess c cls.val addr.toNat wr b) = _
  rw [State.run_eq_ends _ _ _ h0, missAccess_miss _ _ _ (s.found dt) _ hi hd]
  rfl

end Commands

/-- An access of the wrong width loads its width beside the log's other fields. -/
theorem badLog_loaded {a cls : Nat} (width : Nat) {wr : Bool} (ha : a < 2 ^ 40) (hc : cls < 2 ^ 4) {b x : Block}
    (h : PortsOnly b x) :
    Loaded F.MTX_EVT_BAD F.MTX_CNT_BAD F.MTX_BAD_LO_ADDR_LO F.MTX_BAD_HI_ADDR_HI F.MTX_BAD_HI_CLASS F.MTX_BAD_HI_WRITE
      a cls wr b (if x.on F.MTX_EVT_BAD then x else
        (logLoad F.MTX_EVT_BAD F.MTX_BAD_LO_ADDR_LO F.MTX_BAD_HI_ADDR_HI F.MTX_BAD_HI_CLASS F.MTX_BAD_HI_WRITE a cls wr x).put
          F.MTX_BAD_HI_WIDTH (width - 1)) := by
  have hl := badLogFields.loaded (wr := wr) ha hc h
  have hon : x.on F.MTX_EVT_BAD = b.on F.MTX_EVT_BAD := h.on (by decide)
  by_cases hx : x.on F.MTX_EVT_BAD = true
  · rw [if_pos hx]
    rwa [logLoad, if_pos hx] at hl
  · rw [if_neg hx]
    have hkeep : ∀ (y : Block) (f : Fld), F.MTX_BAD_HI_WIDTH.apart f ∨ F.MTX_BAD_HI_WIDTH.addr ≠ f.addr →
        (y.put F.MTX_BAD_HI_WIDTH (width - 1)).get f = y.get f := by
      rintro y f (hf | hf)
      · exact Block.get_put_apart _ _ _ (by unfold Fld.fits; decide) hf ..
      · exact Block.get_put_other _ _ _ _ _ _ _ _ _ _ (by simpa using hf)
    refine ⟨hl.touches.put (by decide) _, hl.evq, hl.limits, ?_, fun hb => ?_, fun hb => absurd (hon.trans hb) hx⟩
    · rw [hkeep _ _ (.inr (by decide)), hl.count]
    · obtain ⟨h2, hcls, hwr⟩ := hl.fresh hb
      unfold Block.get2 at h2 ⊢
      unfold Block.on at hwr ⊢
      rw [hkeep _ _ (.inr (by decide)), hkeep _ _ (.inl (.inr (by decide))), hkeep _ _ (.inl (.inr (by decide))),
        hkeep _ _ (.inl (.inr (by decide)))]
      exact ⟨h2, hcls, hwr⟩

/-- Settles O31: an access is either its port, opened, and the log or the refusal that the Runner matrix, the Flask or the
register's access code give it, or for an initiator that issues none nothing at all. -/
theorem refusedAccessesHaveNoEffect : Obligations.RefusedAccessesHaveNoEffect := by
  intro dt cls addr v wr s h0 hq b a region
  have ha : a < 2 ^ 40 := addr.isLt
  have hcls : cls.val < 2 ^ 4 := by omega
  have hports := s.opened_portsOnly dt cls.val
  refine ⟨fun hi => ⟨fun log2 p hd hbad => ?_, fun hd => ?_, fun p hd h4 => ⟨fun hok => ?_, fun hok => ?_, fun hok hne hwf => ?_,
    fun hw h6 _ hr => ?_, fun hok hf => ?_⟩⟩, fun hi i hmem => ?_⟩
  · rw [exec_badWidthAccess_periph dt log2 wr h0 hi hd hbad, badLog_eq]
    exact ⟨_, rfl, badLogFields.logged hq rfl (badLog_loaded _ ha hcls hports)⟩
  · rw [exec_decodeMiss_miss dt wr h0 hi hd, missLog_eq]
    exact ⟨_, rfl, missLogFields.logged hq rfl (missLogFields.loaded ha hcls hports)⟩
  · rw [exec_registerWrite_periph dt v none h0 hi hd h4,
      periphWrite_refused _ _ _ _ _ _ _ ((s.periphOk_opened dt _ _ _ _).trans hok), s.posted_opened]
    refine ⟨_, rfl, State.ends_within hq (((s.opened_touches dt _ (by decide)).andThen
      (flaskRefuse_touches ..) (by decide)).resp _), ?_, ?_⟩
    · rw [State.ends_on]
      exact flaskRefuse_viol ..
    · simp [failResp, periphPosted, b]
  · rw [exec_registerRead_periph dt 0 h0 hi hd h4, periphRead_refused _ _ _ _ ((s.periphOk_opened dt _ _ _ _).trans hok)]
    refine ⟨_, rfl, State.ends_within hq (((s.opened_touches dt _ (by decide)).andThen
      (flaskRefuse_touches ..) (by decide)).resp _), ?_, by simp⟩
    rw [State.ends_on]
    exact flaskRefuse_viol ..
  · have hne' : cls.val ≠ 0 := fun e => hne (Fin.ext e)
    rw [exec_registerWrite_periph dt v none h0 hi hd h4,
      periphWrite_barred _ _ _ _ _ _ _ ((s.periphOk_opened dt _ _ _ _).trans hok) (wardenField_barred hne' hwf)]
    exact ⟨_, rfl, State.ends_within hq (((s.opened_touches dt _ (by decide)).record ..).resp _), by simp [Claims.records]⟩
  · obtain ⟨-, -, hok, hm⟩ := hw
    rw [exec_registerWrite_periph dt v none h0 hi hd h4,
      periphWrite_granted _ _ _ _ _ _ _ ((s.periphOk_opened dt _ _ _ _).trans hok) hm, regWrite_readOnly _ _ _ _ _ _ _ h6 hr]
    exact ⟨_, rfl, State.ends_only hq ((s.opened_touches dt _ (by decide)).resp _) rfl, by simp⟩
  · rw [exec_registerRead_periph dt 0 h0 hi hd h4,
      periphRead_foreign _ _ _ _ ((s.periphOk_opened dt _ _ _ _).trans hok) hf]
    exact ⟨_, rfl, State.ends_only hq ((s.opened_touches dt _ (by decide)).resp _) rfl, by simp⟩
  · have hnone : ∀ f : Clk → Mem → Block → Block, f (s.pass dt).clk s.mem (s.found dt) = s.found dt →
        ∃ t : State, s.run dt f = .next t ∧ Claims.only s t dt [] ∧ t.blk.resp = b.resp := fun f hf =>
      ⟨_, State.run_eq_ends _ _ _ h0, by rw [hf]; exact State.ends_only hq (s.found_touches dt _) rfl, by simp [hf, b]⟩
    simp only [List.mem_cons, List.not_mem_nil, or_false] at hmem
    rcases hmem with rfl | rfl | rfl | rfl
    · exact hnone _ (busWrite_silent _ _ _ _ _ _ _ _ hi)
    · exact hnone _ (busRead_silent _ _ _ _ _ _ hi)
    · exact hnone _ (badAccess_silent _ _ _ _ _ _ hi)
    · exact hnone _ (missAccess_silent _ _ _ _ _ hi)

end Sys2Proof.Machine
end

section
/-! Reads of the register windows and of memory: which rows show the machine as it stands, what a latched pair of words
reads, and which bytes a word of memory is. -/

namespace Sys2Proof.Machine

open Sys2Proof

/-! ## The register map -/

/-- The register found at an address is a row of the list, and the address one of its instances. -/
theorem findRow_eq_some {rows : List RegRow} {a : Nat} {r : RegRow} {ix : List Nat} (h : findRow rows a = some (r, ix)) :
    r ∈ rows ∧ r.addr ≤ a ∧ dimIndex r.dims (a - r.addr) = some ix := by
  induction rows with
  | nil => simp [findRow] at h
  | cons q t ih =>
    rw [findRow] at h
    split at h
    · obtain ⟨hm, hr⟩ := ih h
      exact ⟨List.mem_cons_of_mem _ hm, hr⟩
    · rename_i hle
      split at h
      · rename_i jx hd
        simp only [Option.some.injEq, Prod.mk.injEq] at h
        obtain ⟨rfl, rfl⟩ := h
        exact ⟨List.mem_cons_self, by omega, hd⟩
      · obtain ⟨hm, hr⟩ := ih h
        exact ⟨List.mem_cons_of_mem _ hm, hr⟩

/-- A number that divides every stride of a register divides the distance of each copy of the register from the first. -/
theorem dvd_of_dimIndex {g : Nat} {dims : List (Nat × Nat)} {d : Nat} {ix : List Nat} (hg : ∀ q ∈ dims, g ∣ q.2)
    (h : dimIndex dims d = some ix) : g ∣ d := by
  induction dims generalizing d ix with
  | nil =>
    simp only [dimIndex] at h
    split at h
    · simp_all
    · simp at h
  | cons q t ih =>
    obtain ⟨n, st⟩ := q
    simp only [dimIndex] at h
    split at h
    · obtain ⟨jx, hj, -⟩ := Option.map_eq_some_iff.1 h
      have h1 : g ∣ d - d / st * st := ih (fun q hq => hg q (List.mem_cons_of_mem _ hq)) hj
      have h2 : g ∣ d / st * st := Dvd.dvd.mul_left (hg (n, st) (by simp)) _
      have h3 : d = (d - d / st * st) + d / st * st := by have := Nat.div_mul_le_self d st; omega
      rw [h3]
      exact Nat.dvd_add h1 h2
    · simp at h

/-- One more than the distance of the last copy of a register from the first, at most. -/
def RegRow.span (r : RegRow) : Nat := (r.dims.map fun q => q.1 * q.2).sum + 1

theorem lt_span_of_dimIndex {dims : List (Nat × Nat)} {d : Nat} {ix : List Nat} (h : dimIndex dims d = some ix) :
    d < (dims.map fun q => q.1 * q.2).sum + 1 := by
  induction dims generalizing d ix with
  | nil =>
    simp only [dimIndex] at h
    split at h
    · simp_all
    · simp at h
  | cons q t ih =>
    obtain ⟨n, st⟩ := q
    simp only [dimIndex] at h
    split at h
    · rename_i hi
      obtain ⟨jx, hj, -⟩ := Option.map_eq_some_iff.1 h
      have h1 := ih hj
      have h2 : d / st * st ≤ n * st := Nat.mul_le_mul_right _ hi.le
      simp only [List.map_cons, List.sum_cons]
      omega
    · simp at h

/-- The greatest number that divides every stride of a register. -/
def RegRow.step (r : RegRow) : Nat := r.dims.foldr (fun q g => Nat.gcd q.2 g) 0

theorem RegRow.step_dvd (r : RegRow) : ∀ q ∈ r.dims, r.step ∣ q.2 := by
  unfold RegRow.step
  induction r.dims with
  | nil => simp
  | cons q t ih =>
    intro p hp
    rcases List.mem_cons.1 hp with rfl | hp
    · exact Nat.gcd_dvd_left _ _
    · exact (Nat.gcd_dvd_right _ _).trans (ih p hp)

/-- The register at an address: a row of its window's map, at or before the address, within its span and in its step. -/
theorem regAt_eq_some {a : Nat} {r : RegRow} {ix : List Nat} (h : regAt a = some (r, ix)) :
    r ∈ Rg.rowsOf (a / 0x10000) ∧ r.addr ≤ a ∧ a < r.addr + r.span ∧ r.step ∣ a - r.addr := by
  obtain ⟨hm, hle, hd⟩ := findRow_eq_some h
  have := lt_span_of_dimIndex hd
  exact ⟨hm, hle, by unfold RegRow.span; omega, dvd_of_dimIndex r.step_dvd hd⟩

/-! ## The registers that show the machine as it stands at the read -/

/-- The rows that a read does not take from the register's value alone. -/
def liveRows : List Nat :=
  [F.TIM_STAT_RATE_SAT.addr, F.TIM_HEAD_STAT_REGION.addr, F.CRU_STAT_RUN.addr, F.CRU_BUDGET_SLACK.addr,
    F.CRU_HEAD_MAP_RUN.addr, F.FET_STAT_RUN.addr, F.FET_HEAD_STAT_RUN.addr, F.FET_FRZ_STAT_SINCE.addr,
    F.FET_RSW_STAT_PEND.addr, F.FET_PKT_STAT_LINK_A.addr, F.FET_PKT_PPF_P_V.addr, F.DEC_LOAD_MEAS.addr,
    F.DEC_CTX_WM_VALID.addr, F.ENC_LOAD_MEAS.addr, F.MEM_REF_TRFC_NS.addr, F.MEM_P_BW_BYTES.addr,
    F.MEM_SCRUB_STAT_SRAM_CORR.addr, F.LNK_L_STAT_PRESENT.addr, F.ETH_M_STAT_LINK.addr, F.SPR_TIME_STAT_COUNT.addr,
    F.WDN_STAT_SC_RUN.addr, F.WDN_PEND_PEND.addr, F.WDN_CL_PEND_PEND.addr, F.XSP_TRIAL_HELD.addr,
    F.ASY_U_POLY_LO_POLY.addr, F.ASY_U_INIT_LO_INIT.addr, F.ASY_U_VAL_LO_VAL.addr, F.ASY_U_POLY_HI_POLY.addr,
    F.ASY_U_INIT_HI_INIT.addr, F.ASY_U_VAL_HI_VAL.addr]

theorem liveView_of_not_live (c : Clk) (b : Block) (r : RegRow) (ix : List Nat) (v : Word) (h : r.addr ∉ liveRows) :
    liveView c b r ix v = v := by
  simp only [liveRows, List.mem_cons, List.not_mem_nil, or_false, not_or] at h
  simp only [liveView, h, if_false, decide_false, Bool.or_self, Bool.false_eq_true]

/-- No live row is made of fields that software alone writes. -/
theorem stored_not_live : ∀ w < 96, ∀ r ∈ Rg.rowsOf w, (r.multi = .none ∧ r.ro = 0 ∧ r.w1c = 0) → r.addr ∉ liveRows := by
  decide +kernel

/-- Two rows of which no register of the second stands 4 bytes after one of the first. -/
def RegRow.notBefore (r r' : RegRow) : Prop :=
  (r.addr + 4) % Nat.gcd r.step r'.step ≠ r'.addr % Nat.gcd r.step r'.step ∨ r'.addr + r'.span ≤ r.addr + 4

/-- No live row stands behind a _LO word that latches its _HI word, and no such word ends its window. -/
theorem latch_not_before_live : ∀ w < 96, ∀ r ∈ Rg.rowsOf w, r.latch = true →
    (r.addr + 4) % Nat.gcd r.step 0x10000 ≠ 0 ∧ ∀ r' ∈ Rg.rowsOf w, r'.addr ∈ liveRows → r.notBefore r' := by
  unfold RegRow.notBefore
  decide +kernel

theorem latch_next_window {p : Nat} {r : RegRow} {ix : List Nat} (hp : p < 0x600000) (h4 : p % 4 = 0)
    (h : regAt p = some (r, ix)) (hl : r.latch = true) : (p + 4) / 0x10000 = p / 0x10000 := by
  obtain ⟨hm, hle, -, hd⟩ := regAt_eq_some h
  have hne := (latch_not_before_live _ (by omega) r hm hl).1
  by_contra hw
  have h0 : 0x10000 ∣ p + 4 := by omega
  have hg : Nat.gcd r.step 0x10000 ∣ p + 4 := (Nat.gcd_dvd_right _ _).trans h0
  have hg' : Nat.gcd r.step 0x10000 ∣ p - r.addr := (Nat.gcd_dvd_left _ _).trans hd
  have he : r.addr + 4 = p + 4 - (p - r.addr) := by omega
  exact hne (Nat.mod_eq_zero_of_dvd (he ▸ Nat.dvd_sub hg hg'))

/-- The _HI word behind a latching _LO word reads from its register's value. -/
theorem latch_next_not_live {p : Nat} {r r' : RegRow} {ix ix' : List Nat} (hp : p < 0x600000) (h4 : p % 4 = 0)
    (h : regAt p = some (r, ix)) (hl : r.latch = true) (h' : regAt (p + 4) = some (r', ix')) : r'.addr ∉ liveRows := by
  obtain ⟨hm, hle, -, hd⟩ := regAt_eq_some h
  obtain ⟨hm', hle', hlt', hd'⟩ := regAt_eq_some h'
  rw [latch_next_window hp h4 h hl] at hm'
  intro hlive
  rcases (latch_not_before_live _ (by omega) r hm hl).2 r' hm' hlive with hne | hspan
  · have hg : Nat.gcd r.step r'.step ∣ p - r.addr := (Nat.gcd_dvd_left _ _).trans hd
    have hg' : Nat.gcd r.step r'.step ∣ p + 4 - r'.addr := (Nat.gcd_dvd_right _ _).trans hd'
    have e1 : (p + 4) % Nat.gcd r.step r'.step = (r.addr + 4) % Nat.gcd r.step r'.step :=
      ((Nat.modEq_iff_dvd' (by omega)).2 (by rwa [show p + 4 - (r.addr + 4) = p - r.addr by omega])).symm
    have e2 : (p + 4) % Nat.gcd r.step r'.step = r'.addr % Nat.gcd r.step r'.step :=
      ((Nat.modEq_iff_dvd' hle').2 hg').symm
    exact hne (e1.symm.trans e2)
  · omega

/-! ## What a register reads -/

theorem getElem_merge (v mask x : Word) (i : Nat) (hi : i < 32) :
    (merge v mask x)[i] = if mask[i] then x[i] else v[i] := by
  by_cases h : mask[i] <;> simp [merge, h]

@[simp] theorem merge_zero (v x : Word) : merge v 0#32 x = v := by
  ext i hi
  simp [getElem_merge]

theorem merge_and_mask (v mask x : Word) : merge v mask x &&& mask = x &&& mask := by
  ext i hi
  by_cases h : mask[i] <;> simp [getElem_merge, h]

theorem regView_reserved (c : Clk) (b : Block) {a : Nat} (h : regAt a = none) : regView c b a = 0 := by simp [regView, h]

/-- The bits of a row that a read shows (R11). -/
def RegRow.known (r : RegRow) : Word := BitVec.ofNat 32 ((r.rw ||| r.ro ||| r.w1c) &&& (0xFFFFFFFF ^^^ r.wo))

/-- A single-word register that shows no live status reads the value in effect, classes L and F as last written (R15). -/
theorem regView_single (c : Clk) (b : Block) {a : Nat} {r : RegRow} {ix : List Nat} (h : regAt a = some (r, ix))
    (hm : r.multi = .none) (hl : r.addr ∉ liveRows) :
    regView c b a = merge (b.reg a) (BitVec.ofNat 32 (r.l ||| r.f)) (lastWritten b a) &&& r.known := by
  simp only [regView, h, hm, liveView_of_not_live _ _ _ _ _ hl]
  exact congrArg (· &&& r.known) (merge_zero _ _)

/-- Such a word reads alike in two states that hold alike its register and the writes that wait for it. -/
theorem regView_congr (c : Clk) {b b' : Block} {a : Nat} (hl : ∀ r ix, regAt a = some (r, ix) → r.addr ∉ liveRows)
    (hr : b'.reg a = b.reg a) (hw : lastWritten b' a = lastWritten b a) : regView c b' a = regView c b a := by
  unfold regView
  cases h : regAt a with
  | none => rfl
  | some q =>
    obtain ⟨r, ix⟩ := q
    simp only [liveView_of_not_live _ _ _ _ _ (hl r ix h), hr, hw]

theorem lastWritten_opened (s : State) (dt cls : Nat) {a : Nat} (ha : a ≠ F.MTX_STAT_GATED.addr) :
    lastWritten (s.opened dt cls) a = lastWritten s.blk a := by
  have h : (s.opened dt cls).written a = s.blk.written a := by
    unfold Block.written
    rw [(s.opened_portsOnly dt cls).reg _ ha]
    rfl
  unfold lastWritten
  rw [h]
  rfl

theorem latched_eq_none {b : Block} {a : Nat} (h : b.latch.lookup a = none) : latched b a = none := by
  unfold latched
  split
  · split
    · exact h
    · rfl
  · rfl

theorem latched_eq_lookup {b : Block} {a : Nat} {r : RegRow} {ix : List Nat} (h4 : 4 ≤ a)
    (h : regAt (a - 4) = some (r, ix)) (hl : r.latch = true) : latched b a = b.latch.lookup a := by
  simp [latched, h, hl, h4]

theorem lookup_sparseInsert {α : Type} (k : Nat) (v : α) (m : List (Nat × α)) : (sparseInsert k v m).lookup k = some v := by
  induction m with
  | nil => simp [sparseInsert]
  | cons q t ih =>
    obtain ⟨j, w⟩ := q
    rw [sparseInsert]
    split
    · simp
    · split
      · simp
      · rename_i hne
        rw [List.lookup_cons, beq_false_of_ne hne, ih]

/-- A read changes a latch at most. -/
theorem regRead_touches (c : Clk) (p : Nat) {ws : List Nat} {b b' : Block} (h : Block.Touches ws b b') :
    Block.Touches ws b (regRead c p b').2 := by
  unfold regRead
  split
  · dsimp only
    split
    · exact h.keep rfl rfl rfl rfl rfl
    · exact h
  · exact h

theorem regRead_evq (c : Clk) (p : Nat) (b : Block) : (regRead c p b).2.evq = b.evq := by
  unfold regRead
  split
  · dsimp only
    split <;> rfl
  · rfl

theorem regRead_value (c : Clk) (p : Nat) (b : Block) : (regRead c p b).1 = (latched b p).getD (regView c b p) := by
  unfold regRead
  split <;> rfl

theorem regRead_latch (c : Clk) {p : Nat} {r : RegRow} {ix : List Nat} (b : Block) (h : regAt p = some (r, ix))
    (hl : r.latch = true) : (regRead c p b).2.latch.lookup (p + 4) = some (regView c b (p + 4)) := by
  simp [regRead, h, hl, lookup_sparseInsert]

/-- A read of a register word that is let through. -/
theorem exec_registerRead_granted {s : State} (dt : Nat) {cls : Cls} {p : Nat} (ecc : Fin 3) (hr : Readable s cls p)
    (hp : p < 0x600000) (h4 : p % 4 = 0) (hw : windowAssigned (p / 0x10000) = true) :
    exec (.registerRead dt cls (BitVec.ofNat 40 (periphBase + p)) ecc) s =
      .next (s.ends dt { (regRead (s.pass dt).clk p (s.opened dt cls.val)).2 with
        resp := .data (regRead (s.pass dt).clk p (s.opened dt cls.val)).1 }) := by
  obtain ⟨h0, hi, hok, hf, hs⟩ := hr
  have ha : (BitVec.ofNat 40 (periphBase + p)).toNat = periphBase + p := by
    rw [BitVec.toNat_ofNat, Nat.mod_eq_of_lt (by unfold periphBase; omega)]
  have hd := decodeAddr_periph (s.blk.on F.SYS_REMAP_SWAP) p hp hw
  rw [exec_registerRead_periph dt ecc h0 hi (by rw [ha]; exact hd) (by rw [ha]; unfold periphBase; omega)]
  simp [periphRead, (s.periphOk_opened dt _ _ _ _).trans hok, hf, hs]

end Sys2Proof.Machine
end

section
/-! Reads and writes of a word of memory, and the statement on what an access reads. -/

namespace Sys2Proof.Machine

open Sys2Proof

/-! ## The checks of the Flask and of the DRAM range do not look at the matrix ports -/

section Checks

variable (c : Clk) (cls : Nat) (b : Block)

theorem portOpen_get_after (f : Fld) (i j k : Nat) (hf : F.MTX_STAT_GATED.addr < f.addr) :
    (portOpen c cls b).get f i j k = b.get f i j k := by
  refine portOpen_get c cls b f i j k ?_
  unfold Fld.at
  omega

theorem portOpen_on_after (f : Fld) (i j k : Nat) (hf : F.MTX_STAT_GATED.addr < f.addr) :
    (portOpen c cls b).on f i j k = b.on f i j k := by
  unfold Block.on
  rw [portOpen_get_after c cls b f i j k hf]

theorem onDieRefused_portOpen (k a n : Nat) (wr : Bool) :
    onDieRefused (portOpen c cls b) k a n wr = onDieRefused b k a n wr := by
  have hok : ∀ r : Region, onDieOk (portOpen c cls b) k r wr = onDieOk b k r wr := by
    intro r
    cases r <;> simp (disch := decide) only [onDieOk, portOpen_get_after]
  simp only [onDieRefused, portOpen_swap, hok]

theorem dramCheck_portOpen (k part a len : Nat) (wr : Bool) :
    dramCheck (portOpen c cls b) k part a len wr = dramCheck b k part a len wr := by
  have hcov : ∀ d x : Nat, slotCovers (portOpen c cls b) d x = slotCovers b d x := by
    intro d x
    simp (disch := decide) only [slotCovers, slotInvalid, portOpen_on_after, portOpen_get_after]
  have hbyte : ∀ x : Nat, dramByte (portOpen c cls b) k part x wr = dramByte b k part x wr := by
    intro x
    simp (disch := decide) only [dramByte, coveringSlot, hcov, portOpen_on_after, portOpen_get_after]
  simp only [dramCheck, hbyte]

theorem dramRange_portOpen (a len : Nat) : dramRange (portOpen c cls b) a len = dramRange b a len := by
  unfold dramRange dramCapacity
  rw [portOpen_on_after c cls b _ _ _ _ (by decide), portOpen_get_after c cls b _ _ _ _ (by decide)]

end Checks

/-! ## Which memory an address names (R399-R401) -/

theorem decodeAddr_working (swap : Bool) (off : Nat) (h : off < 0x400000) :
    decodeAddr swap (if swap then off else 0x10000000 + off) = .working off := by
  cases swap
  · have h1 : ¬ 0x10000000 + off < 0x400000 := by omega
    have h2 : 0x10000000 ≤ 0x10000000 + off ∧ 0x10000000 + off < 0x10400000 := by omega
    simp [decodeAddr, h1, h2]
  · simp [decodeAddr, h]

theorem decodeAddr_scratch (swap : Bool) (off : Nat) (h : off < 0x800000) :
    decodeAddr swap (0x20000000 + off) = .scratch off := by
  have h1 : ¬ 0x20000000 + off < 0x400000 := by omega
  have h2 : ¬ (0x10000000 ≤ 0x20000000 + off ∧ 0x20000000 + off < 0x10400000) := by omega
  have h3 : 0x20000000 ≤ 0x20000000 + off ∧ 0x20000000 + off < 0x20800000 := by omega
  simp only [decodeAddr, Bool.and_eq_true, decide_eq_true_eq, if_neg h1, if_neg h2, if_pos h3, Nat.add_sub_cancel_left]

theorem decodeAddr_dram (swap : Bool) (a : Nat) (h : 0x100000000 ≤ a ∧ a < 0x1100000000) : decodeAddr swap a = .dram a := by
  have h1 : ¬ a < 0x400000 := by omega
  have h2 : ¬ (0x10000000 ≤ a ∧ a < 0x10400000) := by omega
  have h3 : ¬ (0x20000000 ≤ a ∧ a < 0x20800000) := by omega
  have h4 : ¬ (0x24000000 ≤ a ∧ a < 0x24800000) := by omega
  have h5 : ¬ (0x28000000 ≤ a ∧ a < 0x28800000) := by omega
  have h6 : ¬ (0x40000000 ≤ a ∧ a < 0x40600000) := by omega
  simp only [decodeAddr, Bool.and_eq_true, decide_eq_true_eq, if_neg h1, if_neg h2, if_neg h3, if_neg h4, if_neg h5,
    if_neg h6, if_pos h]

/-- A word of memory that an access reaches: in an on-die memory, in one region, granted and not being wiped; or in DRAM. -/
theorem memWord_cases {s : State} {cls a x : Nat} {wr : Bool} (h : Claims.memWord s cls a x wr) :
    (∃ r r', decodeAddr (s.blk.on F.SYS_REMAP_SWAP) a = r ∧ decodeAddr (s.blk.on F.SYS_REMAP_SWAP) (a + 3) = r' ∧
        onDieRefused s.blk cls a 4 wr = none ∧
        ((∃ off off', r = .working off ∧ r' = .working off' ∧ x = workingBase + off) ∨
          ∃ off off', r = .scratch off ∧ r' = .scratch off' ∧ x = scratchBase + off ∧
            (secure (off + 3) && s.blk.on F.SPD_STAT_WIPING) = false)) ∨
      (x = a ∧ decodeAddr (s.blk.on F.SYS_REMAP_SWAP) a = .dram a ∧
        decodeAddr (s.blk.on F.SYS_REMAP_SWAP) (a + 3) = .dram (a + 3) ∧ dramCheck s.blk cls 0 a 4 wr = none ∧
        dramRange s.blk a 4 = none) := by
  rcases h with ⟨off, ho, hx, ha, hr⟩ | ⟨off, ho, hx, ha, hr, hwipe⟩ | ⟨h1, h2, hx, hc, hr⟩
  · have ha3 : a + 3 = if s.blk.on F.SYS_REMAP_SWAP then off + 3 else 0x10000000 + (off + 3) := by
      rw [ha]
      split <;> omega
    refine .inl ⟨_, _, rfl, rfl, hr, .inl ⟨off, off + 3, ?_, ?_, hx⟩⟩
    · rw [ha, decodeAddr_working _ _ (by omega)]
    · rw [ha3, decodeAddr_working _ _ ho]
  · have ha3 : a + 3 = 0x20000000 + (off + 3) := by omega
    refine .inl ⟨_, _, rfl, rfl, hr, .inr ⟨off, off + 3, ?_, ?_, hx, ?_⟩⟩
    · rw [ha, decodeAddr_scratch _ _ (by omega)]
    · rw [ha3, decodeAddr_scratch _ _ ho]
    · rcases hwipe with h | h <;> simp [h]
  · exact .inr ⟨hx, decodeAddr_dram _ _ ⟨h1, by omega⟩, decodeAddr_dram _ _ ⟨by omega, h2⟩, hc, hr⟩

/-! ## One word read and written -/

section Word

variable {s : State} (dt : Nat) {cls a x : Nat}

theorem busRead_memWord (hi : issues s.blk cls = true) (h : Claims.memWord s cls a x false) :
    busRead (s.pass dt).clk s.mem cls a 0 (s.found dt) =
      { s.opened dt cls with resp := .data (BitVec.ofNat 32 (ofLe (s.mem.bytes x 4))) } := by
  have hi' : issues (s.found dt) cls = true := hi
  have hs : (portOpen (s.pass dt).clk cls (s.found dt)).on F.SYS_REMAP_SWAP = s.blk.on F.SYS_REMAP_SWAP := portOpen_swap ..
  have hod : onDieRefused (portOpen (s.pass dt).clk cls (s.found dt)) cls a 4 false = onDieRefused s.blk cls a 4 false :=
    onDieRefused_portOpen ..
  have hw : (portOpen (s.pass dt).clk cls (s.found dt)).on F.SPD_STAT_WIPING = s.blk.on F.SPD_STAT_WIPING :=
    portOpen_on_after _ _ _ _ _ _ _ (by decide)
  have hdc : dramCheck (portOpen (s.pass dt).clk cls (s.found dt)) cls 0 a 4 false = dramCheck s.blk cls 0 a 4 false :=
    dramCheck_portOpen ..
  have hdr : dramRange (portOpen (s.pass dt).clk cls (s.found dt)) a 4 = dramRange s.blk a 4 := dramRange_portOpen ..
  unfold State.opened
  rcases memWord_cases h with ⟨r, r', hd, hd', hr, ⟨off, off', rfl, rfl, rfl⟩ | ⟨off, off', rfl, rfl, rfl, hwipe⟩⟩ |
    ⟨rfl, hd, hd', hc, hr⟩
  · simp [busRead, hi', hs, hd, hd', onDieRead, hod, hr, meetsWipe, spadOffset, eccRead, onDieWord, cellOf]
  · simp [busRead, hi', hs, hd, hd', onDieRead, hod, hr, meetsWipe, spadOffset, eccRead, onDieWord, cellOf, hw, hwipe]
  · simp [busRead, hi', hs, hd, hd', dramRead, hdc, hdr, hc, hr]

theorem busWrite_memWord (v : Word) (hi : issues s.blk cls = true) (h : Claims.memWord s cls a x true) :
    busWrite (s.pass dt).clk s.mem cls a v none none (s.found dt) =
      { (s.opened dt cls).store x (leBytes 4 v.toNat) with resp := .done } := by
  have hi' : issues (s.found dt) cls = true := hi
  have hs : (portOpen (s.pass dt).clk cls (s.found dt)).on F.SYS_REMAP_SWAP = s.blk.on F.SYS_REMAP_SWAP := portOpen_swap ..
  have hod : onDieRefused (portOpen (s.pass dt).clk cls (s.found dt)) cls a 4 true = onDieRefused s.blk cls a 4 true :=
    onDieRefused_portOpen ..
  have hw : (portOpen (s.pass dt).clk cls (s.found dt)).on F.SPD_STAT_WIPING = s.blk.on F.SPD_STAT_WIPING :=
    portOpen_on_after _ _ _ _ _ _ _ (by decide)
  have hdc : dramCheck (portOpen (s.pass dt).clk cls (s.found dt)) cls 0 a 4 true = dramCheck s.blk cls 0 a 4 true :=
    dramCheck_portOpen ..
  have hdr : dramRange (portOpen (s.pass dt).clk cls (s.found dt)) a 4 = dramRange s.blk a 4 := dramRange_portOpen ..
  unfold State.opened
  rcases memWord_cases h with ⟨r, r', hd, hd', hr, ⟨off, off', rfl, rfl, rfl⟩ | ⟨off, off', rfl, rfl, rfl, hwipe⟩⟩ |
    ⟨rfl, hd, hd', hc, hr⟩
  · simp [busWrite, hi', hs, hd, hd', onDieWrite, hod, hr, meetsWipe, spadOffset, Block.store]
  · simp [busWrite, hi', hs, hd, hd', onDieWrite, hod, hr, meetsWipe, spadOffset, hw, hwipe, spadWrite, Block.store]
  · simp [busWrite, hi', hs, hd, hd', dramWrite, hdc, hdr, hc, hr]

/-- What memory holds once a command has stored one word (R6). -/
theorem ends_mem_store (hq : s.blk.quiet = true) {b : Block} (hb : b.stores = s.blk.stores) (v : Word) (r : Resp) :
    (s.ends dt { b.store x (leBytes 4 v.toNat) with resp := r }).mem.bytes x 4 = leBytes 4 v.toNat ∧
      (∀ y, y < x ∨ x + 4 ≤ y → (s.ends dt { b.store x (leBytes 4 v.toNat) with resp := r }).mem.byte y = s.mem.byte y) ∧
      ∀ y, (s.ends dt { b.store x (leBytes 4 v.toNat) with resp := r }).mem.flashByte y = s.mem.flashByte y := by
  obtain ⟨hs, -⟩ := (Block.quiet_iff _).1 hq
  have hm : (s.ends dt { b.store x (leBytes 4 v.toNat) with resp := r }).mem =
      s.mem.put { addr := x, bytes := leBytes 4 v.toNat } := by
    rw [State.ends_mem]
    show s.mem.puts (b.stores ++ _) = _
    rw [hb, hs]
    rfl
  rw [hm]
  refine ⟨?_, fun y hy => ?_, fun y => ?_⟩
  · apply List.ext_getElem (by simp [Mem.bytes])
    intro i hi hi'
    rw [leBytes_length] at hi'
    simp only [Mem.bytes, List.getElem_map, List.getElem_range, Mem.byte_put, leBytes_length]
    rw [if_neg (by simp), if_pos (by omega), Nat.add_sub_cancel_left, List.getD_eq_getElem _ _ (by simpa using hi')]
  · rw [Mem.byte_put, if_neg (by simp), if_neg (by simp; omega), if_neg (by simp)]
  · rw [Mem.flashByte_put, if_pos (by simp)]

end Word

/-- Settles O32: a granted read of a register answers its view or its latch, and an access to a word of memory answers or
stores its bytes; either touches the matrix port alone. -/
theorem readsReturnWhatTheAccessCodesSay : Obligations.ReadsReturnWhatTheAccessCodesSay := by
  intro dt cls s h0 hq b
  refine ⟨?_, fun hi a x ha => ⟨fun hm => ?_, fun hm v => ?_⟩⟩
  · intro p hr hp h4 hw h2 read reads
    have hport : ∀ x, x / 0x10000 = p / 0x10000 → x ≠ F.MTX_STAT_GATED.addr := by
      rintro x hx rfl
      exact h2 (hx.symm.trans (by decide))
    have hreg : (s.opened dt cls.val).reg p = b.reg p := (s.opened_portsOnly dt cls.val).reg _ (hport p rfl)
    have hlast := lastWritten_opened s dt cls.val (hport p rfl)
    have hread : ∀ v, (latched b p).getD (regView (s.pass dt).clk (s.opened dt cls.val) p) = v → reads v := fun v hv =>
      ⟨_, exec_registerRead_granted dt 0 hr hp h4 hw,
        State.ends_only hq ((regRead_touches _ _ (s.opened_touches dt _ (by decide))).resp _) (regRead_evq ..),
        by rw [State.ends_resp, regRead_value]; exact congrArg _ hv⟩
    refine ⟨fun hno => ⟨fun hres => hread _ ?_, fun r ix hrow hm hro hw1 => ?_⟩, fun r ix hrow hl => ?_,
      fun r ix y hp4 hrow hl hy _ => hread _ ?_⟩
    · rw [latched_eq_none hno, Option.getD_none, regView_reserved _ _ hres]
    · have hlive := stored_not_live _ (by omega) r (regAt_eq_some hrow).1 ⟨hm, hro, hw1⟩
      have hview : ∀ v, merge (b.reg p) (BitVec.ofNat 32 (r.l ||| r.f)) (lastWritten b p) &&& r.known = v → reads v := by
        intro v hv
        apply hread
        rw [latched_eq_none hno, Option.getD_none, regView_single _ _ hrow hm hlive, hreg, hlast]
        exact hv
      have hknown : r.wo = 0 → r.known = BitVec.ofNat 32 r.rw := by
        intro hwo
        simp only [RegRow.known, hro, hw1, hwo, Nat.or_zero, Nat.xor_zero, BitVec.ofNat_and]
        exact BitVec.and_allOnes
      refine ⟨fun hrw => hview _ ?_, fun hwo hl hf => hview _ ?_, fun hwo hlf => hview _ ?_⟩
      · simp [RegRow.known, hrw, hro, hw1]
      · rw [hknown hwo, hl, hf]
        simp
      · rw [hknown hwo, ← hlf, merge_and_mask]
    · refine ⟨_, exec_registerRead_granted dt 0 hr hp h4 hw,
        State.ends_only hq ((regRead_touches _ _ (s.opened_touches dt _ (by decide))).resp _) (regRead_evq ..), ?_⟩
      have hnext := hport (p + 4) (latch_next_window hp h4 hrow hl)
      rw [State.ends_latch]
      refine (regRead_latch _ _ hrow hl).trans (congrArg some (regView_congr _
        (fun r' ix' h' => latch_next_not_live hp h4 hrow hl h') ?_ (lastWritten_opened s dt _ hnext)))
      exact (s.opened_portsOnly dt cls.val).reg _ hnext
    · rw [latched_eq_lookup hp4 hrow hl, hy, Option.getD_some]
  · have ha' : (BitVec.ofNat 40 a).toNat = a := by rw [BitVec.toNat_ofNat, Nat.mod_eq_of_lt ha]
    have he : exec (.registerRead dt cls (BitVec.ofNat 40 a) 0) s =
        s.run dt fun c m b => busRead c m cls.val (BitVec.ofNat 40 a).toNat 0 b := rfl
    rw [he, ha', State.run_eq_ends _ _ _ h0, busRead_memWord dt hi hm]
    exact ⟨_, rfl, State.ends_only hq ((s.opened_touches dt _ (by decide)).resp _) rfl, by simp⟩
  · have ha' : (BitVec.ofNat 40 a).toNat = a := by rw [BitVec.toNat_ofNat, Nat.mod_eq_of_lt ha]
    have he : exec (.registerWrite dt cls (BitVec.ofNat 40 a) v none) s =
        s.run dt fun c m b => busWrite c m cls.val (BitVec.ofNat 40 a).toNat v none none b := rfl
    rw [he, ha', State.run_eq_ends _ _ _ h0, busWrite_memWord dt v hi hm]
    obtain ⟨-, hp, hc, -⟩ := (Block.quiet_iff _).1 hq
    obtain ⟨hbytes, haway, hflash⟩ := ends_mem_store dt hq (s.opened_stores dt cls.val) (x := x) v .done
    refine ⟨_, rfl, ?_, hbytes, haway, hflash, by simp, by simp [Block.store, b], fun y hy => ?_⟩
    · have h := s.opened_touches dt cls.val (ws := [2]) (by decide)
      exact State.ends_clk _ _ _ (h.newPtp.trans hp) (h.clkReset.trans hc)
    · rw [State.ends_reg]
      exact (s.opened_touches dt cls.val (ws := [2]) (by decide)).reg y (by simpa using hy)

end Sys2Proof.Machine
end

section
/-! The statement on writes by class fails in one window: the registers of the black-box port's window (0x17) set the WIGN
flag of the LOG block, which lies in the LOG window (0x06), where the statement's frame allows no change. -/

namespace Sys2Proof.Machine

open Sys2Proof

/-- The part after reset, but sealed: class O fields are locked (R14, R488). -/
def sealedState : State := { State.reset with blk := State.reset.blk.flag F.XSP_STAT_SEALED true }

/-- The Warden writes 0 to MRS_CLK, whose fields are of class O and read 0x2800 after reset. -/
def clockWrite : Instr := .registerWrite 0 0 (BitVec.ofNat 40 (periphBase + 0x170000)) 0 none

/-- LOG_EVT.WIGN in the state that a command answers. -/
def setsLogWign : Host.Outcome State Fault Refusal → Bool
  | .next t => t.blk.on F.LOG_EVT_WIGN
  | _ => false

theorem clockWrite_sets_logWign : setsLogWign (exec clockWrite sealedState) = true := by decide +kernel

theorem clockWrite_plain : Claims.plainReg sealedState 0 0x170000 Rg.MRS_CLK [] := by
  refine ⟨?_, ?_⟩ <;> decide +kernel

/-- Refutes O30: after the seal a write of 0 to MRS_CLK is ignored with WIGN, and that flag is LOG_EVT.WIGN, outside the
windows 0x17 and 0x02 of the first clause's frame. -/
theorem not_writesTakeEffectAsTheirClassStates : ¬ Obligations.WritesTakeEffectAsTheirClassStates := by
  intro h
  obtain ⟨hregs, -⟩ := h 0 0 0 sealedState (by decide)
  obtain ⟨hsingle, -⟩ := hregs 0x170000 Rg.MRS_CLK [] clockWrite_plain
  obtain ⟨t, ht, ⟨⟨-, -, hframe⟩, -⟩, -⟩ := hsingle rfl rfl rfl
  have hset : t.blk.on F.LOG_EVT_WIGN = true := by
    have := clockWrite_sets_logWign
    rwa [show exec clockWrite sealedState = .next t from ht] at this
  have hkept : t.blk.on F.LOG_EVT_WIGN = sealedState.blk.on F.LOG_EVT_WIGN := by
    unfold Block.on Block.get
    rw [hframe (F.LOG_EVT_WIGN.at 0 0 0) (by decide)]
  exact absurd (hkept.symm.trans hset) (by decide +kernel)

end Sys2Proof.Machine
end

section
/-! What a supply failure touches: the recorder's windows alone, besides the supply monitor's and the pair's token. -/

namespace Sys2Proof.Machine

open Sys2Proof

/-- The windows of the recorder and of its port to the MRAM. -/
def recorderWindows : List Nat := [6, 23]

section Recorder

variable {b b' : Block}

theorem Block.Touches.setLog {ws : List Nat} (h : Block.Touches ws b b') (x : RecSt) : Block.Touches ws b (b'.setLog x) :=
  h.keep rfl rfl rfl rfl rfl

theorem logSync_touches (h : Block.Touches recorderWindows b b') : Block.Touches recorderWindows b (logSync b') :=
  ((h.setLog _).put (by decide) _).flag (by decide) _

theorem nextKey_touches (h : Block.Touches recorderWindows b b') : Block.Touches recorderWindows b (nextKey b').2.2 := by
  unfold nextKey
  dsimp only
  split
  · exact h.setLog _
  · exact (h.wrap (by decide) _).setLog _

/-- A drop is counted (R459). -/
theorem stageDrop_touches (h : Block.Touches recorderWindows b b') :
    Block.Touches recorderWindows b ((b'.inc F.LOG_CNT_STAGE_DROP).evt F.LOG_EVT_DROP) :=
  (h.inc (by decide) _).evt (by decide)

theorem pushIngot_touches (c : Clk) (e : Event) (pfail : Bool) (h : Block.Touches recorderWindows b b') :
    Block.Touches recorderWindows b (pushIngot c e pfail b') := by
  have hk := nextKey_touches h
  have hd := stageDrop_touches hk
  unfold pushIngot
  exact .ite ((((Block.Touches.ite hd hk).setLog _).evt (by decide)).setLog _) ((Block.Touches.ite hd hk).setLog _)

/-- The batch is flushed once it is full (R459). -/
theorem batch_touches (h : Block.Touches recorderWindows b b') :
    Block.Touches recorderWindows b (logSync (if max 1 (b'.get F.LOG_CFG_BATCH_N) ≤ (pendings b').length then
      b'.setLog { b'.log with flush := true } else b')) :=
  logSync_touches (.ite (h.setLog _) h)

theorem stageEvent_touches (c : Clk) (e : Event) (h : Block.Touches recorderWindows b b') :
    Block.Touches recorderWindows b (stageEvent c e b') := by
  have hd := stageDrop_touches h
  unfold stageEvent
  refine batch_touches (.ite (pushIngot_touches _ _ _ h) ?_)
  split
  · exact hd
  · exact pushIngot_touches _ _ _ (hd.setLog _)

theorem stageAll_touches (c : Clk) (h : Block.Touches recorderWindows b b') :
    Block.Touches recorderWindows b (stageAll c b') := by
  unfold stageAll
  have h0 : Block.Touches recorderWindows b { b' with evq := [] } := h.keep rfl rfl rfl rfl rfl
  revert h0
  generalize ({ b' with evq := [] } : Block) = x
  intro h0
  induction b'.evq generalizing x with
  | nil => exact h0
  | cons e t ih => exact ih _ (stageEvent_touches c e h0)

theorem loseStore_touches (c : Clk) (slot : Nat) (h : Block.Touches recorderWindows b b') :
    Block.Touches recorderWindows b (loseStore c slot b') :=
  stageEvent_touches c _ (h.flag (by decide) _)

theorem finishClear_touches (c : Clk) (h : Block.Touches recorderWindows b b') :
    Block.Touches recorderWindows b (finishClear c b') :=
  stageEvent_touches c _ ((((h.setLog _).flag (by decide) _).put (by decide) _).evt (by decide))

theorem chooseSlot_touches (sev : Nat) (h : Block.Touches recorderWindows b b') :
    Block.Touches recorderWindows b (chooseSlot sev b').2 := by
  unfold chooseSlot
  dsimp only
  split
  · exact h.keep rfl rfl rfl rfl rfl
  · exact h

theorem writeOldest_touches (c : Clk) (ok : Bool) (h : Block.Touches recorderWindows b b') :
    Block.Touches recorderWindows b (writeOldest c ok b') := by
  unfold writeOldest
  split
  · exact h
  · rename_i q _ _
    have hc := chooseSlot_touches q.ing.severity h
    split
    · rename_i x hx
      rw [hx] at hc
      exact logSync_touches (((hc.inc (by decide) _).evt (by decide)).setLog _)
    · rename_i k x hx
      rw [hx] at hc
      split
      · exact logSync_touches (hc.setLog _)
      · exact loseStore_touches c k (((hc.keep rfl rfl rfl rfl rfl :
          Block.Touches recorderWindows b (x.freshBytes 32).2).setLog _).inc (by decide) _)

theorem writeMany_touches (c : Clk) (n : Nat) (good : Option Nat) (h : Block.Touches recorderWindows b b') :
    Block.Touches recorderWindows b (writeMany c n good b') := by
  induction n generalizing good b' with
  | zero => exact h
  | succ n ih => exact ih _ (writeOldest_touches c _ h)

end Recorder

/-- What the failing supply does to the recorder (R460), once PFAIL shows. -/
theorem powerFail_touches (c : Clk) (good : Option Nat) (b : Block) :
    Block.Touches recorderWindows (b.flag F.PWR_STAT_PFAIL true) (powerFail c good b) := by
  have h0 := Block.Touches.refl recorderWindows (b.flag F.PWR_STAT_PFAIL true)
  have hstage := fun x : RecSt => stageAll_touches c ((h0.setLog x).flag (f := F.LOG_CUR_STAT_BUSY) (i := 0) (j := 0) (k := 0)
    (by decide) false)
  have hpush := fun (x : RecSt) (e : Event) (p : Prop) [Decidable p] =>
    pushIngot_touches c e true (.ite (p := p) (finishClear_touches c (hstage x)) (hstage x))
  unfold powerFail
  exact .ite h0 (logSync_touches (.setLog (.ite (hpush _ _ _)
    (writeMany_touches _ _ _ ((writeMany_touches _ _ _ ((hpush _ _ _).setLog _)).setLog _))) _))

/-- After the power-fail flush all writing has ended (R461). -/
theorem powerFail_stopped (c : Clk) (good : Option Nat) (b : Block) : (powerFail c good b).log.stopped = true := by
  unfold powerFail
  dsimp only
  split
  · assumption
  · rfl

/-- A part in reset drives no token. -/
theorem releasePins_touches {b b' : Block} {ws : List Nat} (h5 : 5 ∈ ws) (h : Block.Touches ws b b') :
    Block.Touches ws b (releasePins b') :=
  h.andThen (((Block.Touches.refl [5] b').flag (by decide) _).flag (by decide) _) (by simpa using h5)

theorem releasePins_token (b : Block) : (releasePins b).on F.PAIR_STAT_TOKEN_DRV = false := by
  unfold releasePins Block.on Block.flag
  rw [Block.get_put_apart _ F.PAIR_STAT_TOKEN_LINE F.PAIR_STAT_TOKEN_DRV (by unfold Fld.fits; decide)
    (by unfold Fld.apart; decide), Block.get_put_same _ F.PAIR_STAT_TOKEN_DRV (by unfold Fld.fits; decide)]
  decide

end Sys2Proof.Machine
end

section
/-! Boot-state records: what a record reads back as once it is written, and which record is then in effect (R475, R493). -/

namespace Sys2Proof.Machine

open Sys2Proof

/-! ## The bytes of a record -/

/-- A boot-state record up to its CRC. -/
def bootBody (x : BootState) : List Byte :=
  leBytes 4 x.seq ++ [BitVec.ofNat 8 x.prefer, BitVec.ofNat 8 x.trial] ++ List.replicate 54 0

/-- A boot-state record. -/
def bootBytes (x : BootState) : List Byte := bootBody x ++ leBytes 4 (crc32c (bootBody x)).toNat

theorem bootBody_length (x : BootState) : (bootBody x).length = 60 := by simp [bootBody]

theorem bootBytes_length (x : BootState) : (bootBytes x).length = 64 := by simp [bootBytes, bootBody_length]

/-- A record whose fields fit is read back as it was written. -/
theorem bootRecord_of_bytes {m : Mem} {b : Block} {i : Nat} {x : BootState}
    (h : m.flashBytes (bootOffset b i) 64 = bootBytes x) (hs : x.seq < 2 ^ 32) (hp : x.prefer < 256) (ht : x.trial < 256) :
    bootRecord m b i = some x := by
  have hcrc : slotNum (bootBytes x) 60 4 = (crc32c (bootBody x)).toNat := by
    unfold slotNum bootBytes
    rw [List.drop_left' (bootBody_length x), List.take_of_length_le (by simp), ofLe_leBytes]
    exact Nat.mod_eq_of_lt (crc32c (bootBody x)).isLt
  have htake : (bootBytes x).take 60 = bootBody x := by
    unfold bootBytes
    rw [List.take_left' (bootBody_length x)]
  have hseq : slotNum (bootBytes x) 0 4 = x.seq := by
    unfold slotNum bootBytes bootBody
    rw [List.drop_zero, List.append_assoc, List.append_assoc, List.take_left' (by simp), ofLe_leBytes]
    exact Nat.mod_eq_of_lt hs
  have hdrop : (bootBytes x).drop 4 = BitVec.ofNat 8 x.prefer :: BitVec.ofNat 8 x.trial ::
      (List.replicate 54 0 ++ leBytes 4 (crc32c (bootBody x)).toNat) := by
    rw [bootBytes, show bootBody x = leBytes 4 x.seq ++ (BitVec.ofNat 8 x.prefer :: BitVec.ofNat 8 x.trial ::
      List.replicate 54 0) by simp [bootBody], List.append_assoc, List.drop_left' (by simp)]
    rfl
  have hprefer : slotNum (bootBytes x) 4 1 = x.prefer := by
    unfold slotNum
    rw [hdrop]
    simp [ofLe, Nat.mod_eq_of_lt hp]
  have htrial : slotNum (bootBytes x) 5 1 = x.trial := by
    unfold slotNum
    rw [show 5 = 4 + 1 from rfl, ← List.drop_drop, hdrop]
    simp [ofLe, Nat.mod_eq_of_lt ht]
  simp only [bootRecord, h, hcrc, htake, hseq, hprefer, htrial, if_true]

/-- A record's fields fit their bytes. -/
theorem ofLe_lt (l : List Byte) : ofLe l < 256 ^ l.length := by
  induction l with
  | nil => simp [ofLe]
  | cons b t ih =>
    have := b.isLt
    rw [ofLe, List.length_cons, pow_succ]
    omega

theorem slotNum_lt (l : List Byte) (o n : Nat) : slotNum l o n < 256 ^ n :=
  (ofLe_lt _).trans_le (Nat.pow_le_pow_right (by omega) (by simp))

/-! ## The record in effect -/

theorem bootRecord_congr {m m' : Mem} {b b' : Block} (i : Nat) (hb : flashSize b' = flashSize b)
    (hm : m'.flashBytes (bootOffset b i) 64 = m.flashBytes (bootOffset b i) 64) : bootRecord m' b' i = bootRecord m b i := by
  have ho : bootOffset b' i = bootOffset b i := by rw [bootOffset, hb, bootOffset]
  simp only [bootRecord, ho, hm]

theorem bootState_congr (m : Mem) {b b' : Block} (hb : flashSize b' = flashSize b) : bootState m b' = bootState m b := by
  simp only [bootState, bootRecord_congr (m := m) _ hb rfl]

theorem bootRecord_prefer_lt {m : Mem} {b : Block} {i : Nat} {x : BootState} (h : bootRecord m b i = some x) :
    x.prefer < 256 := by
  simp only [bootRecord] at h
  split at h
  · obtain rfl := Option.some.inj h
    exact slotNum_lt _ 4 1
  · simp at h

theorem bootState_prefer_lt (m : Mem) (b : Block) : (bootState m b).1.prefer < 256 := by
  unfold bootState
  split
  · rename_i x y hx hy
    split
    · exact bootRecord_prefer_lt hy
    · exact bootRecord_prefer_lt hx
  · exact bootRecord_prefer_lt ‹_›
  · exact bootRecord_prefer_lt ‹_›
  · decide

/-- Which record a write takes: the one that is not in effect. -/
def bootSlot (m : Mem) (b : Block) : Nat := if (bootState m b).2 = some 0 then 1 else 0

/-- A newer record in the place of the one that is not in effect is in effect. -/
theorem bootState_of_newer {m m' : Mem} {b : Block} {x : BootState}
    (hnew : bootRecord m' b (bootSlot m b) = some x)
    (hold : bootRecord m' b (1 - bootSlot m b) = bootRecord m b (1 - bootSlot m b))
    (hseq : (bootState m b).1.seq < x.seq) : (bootState m' b).1 = x := by
  unfold bootSlot bootState at *
  cases h0 : bootRecord m b 0 with
  | none =>
    cases h1 : bootRecord m b 1 with
    | none => simp_all
    | some y =>
      simp [h0, h1] at hnew hold hseq
      simp [hnew, hold, Nat.not_lt.2 hseq.le]
  | some z =>
    cases h1 : bootRecord m b 1 with
    | none => simp_all
    | some y =>
      by_cases hzy : z.seq < y.seq
      · simp [h0, h1, hzy] at hnew hold hseq
        simp [hnew, hold, Nat.not_lt.2 hseq.le]
      · simp [h0, h1, hzy] at hnew hold hseq
        simp [hnew, hold, hseq]

/-- A write of a boot-state record is one erase and one store of the flash. -/
theorem bootWrite_eq (m : Mem) (prefer trial : Nat) (b : Block) :
    bootWrite m prefer trial b =
      (b.eraseFlash (bootOffset b (bootSlot m b)) 4096).storeFlash (bootOffset b (bootSlot m b))
        (bootBytes { seq := (bootState m b).1.seq + 1, prefer := prefer, trial := trial }) := rfl

/-- The flash once a boot-state record is written: the record, the erased rest of its block, and every other byte as before. -/
theorem flashByte_bootWrite (m : Mem) (o : Nat) (x : BootState) (y : Nat) :
    ((m.put { flash := true, addr := o, erase := 4096, bytes := [] }).put
        { flash := true, addr := o, bytes := bootBytes x }).flashByte y =
      if o ≤ y ∧ y < o + 64 then (bootBytes x).getD (y - o) 0
      else if o ≤ y ∧ y < o + 4096 then flashDefault y else m.flashByte y := by
  simp only [Mem.flashByte_put, bootBytes_length, Bool.not_true, Bool.false_eq_true, if_false, List.length_nil, Nat.add_zero]
  split
  · rfl
  · rw [if_neg (by omega), if_neg (by omega)]

end Sys2Proof.Machine
end

section
/-! How the part restarts: what a command does while RESET_N is low, what every restart leaves, and when the re-pour and the
thermal restart bring one about (R491-R493, R507, R509, R522). -/

namespace Sys2Proof.Machine

open Sys2Proof

/-! ## In reset -/

/-- While RESET_N is low only its two edges and the JTAG port act (R507). -/
theorem exec_in_reset (i : Instr) (s : State) (hold : s.blk.hold = .all) (hassert : ∀ dt, i ≠ .resetAssert dt)
    (hrelease : ∀ dt u p o, i ≠ .resetRelease dt u p o) (hbypass : ∀ dt, i ≠ .jtagBypass dt)
    (hidcode : ∀ dt, i ≠ .jtagIdcode dt) (hsample : ∀ dt p l, i ≠ .jtagSamplePreload dt p l)
    (hextest : ∀ dt, i ≠ .jtagExtest dt) : exec i s = .next s := by
  have hne : s.blk.hold ≠ .none := by simp [hold]
  cases i with
  | resetAssert dt => exact absurd rfl (hassert dt)
  | resetRelease dt u p o => exact absurd rfl (hrelease dt u p o)
  | jtagBypass dt => exact absurd rfl (hbypass dt)
  | jtagIdcode dt => exact absurd rfl (hidcode dt)
  | jtagSamplePreload dt p l => exact absurd rfl (hsample dt p l)
  | jtagExtest dt => exact absurd rfl (hextest dt)
  | ingotStage | batchTimeout | ingotWrite | storeRebuild | optimeTick | pfailRise | cursorMoveDone | blackBoxClear
  | powerFailFlush | smbusIdentity | smbusStatus | smbusTemperature | smbusLastFault | smbusHealthReport | smbusWrite =>
    exact s.runAon_held _ _ hold
  | _ => exact s.run_held _ _ hne

/-! ## What a restart leaves -/

/-- The registers that a restart writes besides the straps. -/
def restartRegs : List Nat := [F.SYS_RST_CAUSE.addr, F.SYS_LC_STATE.addr]

section Restart

variable (cause : Nat) (b b0 : Block)

theorem restart_reg {a : Nat} (ha : a ∉ restartRegs) : (restart cause b b0).reg a = b0.reg a := by
  simp only [restartRegs, List.mem_cons, List.not_mem_nil, or_false, not_or] at ha
  obtain ⟨hc, hl⟩ := ha
  exact (Block.reg_setReg_of_ne _ _ (Ne.symm hc)).trans (Block.reg_setReg_of_ne _ _ (Ne.symm hl))

theorem restart_cause (hc : cause < 8) : (restart cause b b0).get F.SYS_RST_CAUSE = cause :=
  Block.get_put_self _ F.SYS_RST_CAUSE (by decide) hc _ _ _

theorem restart_lcState : (restart cause b b0).get F.SYS_LC_STATE = b.get F.SYS_LC_STATE :=
  (Block.get_put_other _ F.SYS_RST_CAUSE F.SYS_LC_STATE _ _ _ _ _ _ _ (by decide)).trans
    (Block.get_put_self _ F.SYS_LC_STATE (by decide) (Nat.mod_lt _ (by decide)) _ _ _)

/-- A restart's one record. -/
theorem restart_evq : (restart cause b b0).evq = b0.evq ++
    [{ code := 0x0001, sev := 2, origin := 0, p0 := BitVec.ofNat 32 cause, p1 := BitVec.ofNat 32 (b.get F.SYS_LC_STATE),
       p2 := b0.reg F.SYS_STRAP_UNIT.addr }] := by
  rw [← restart_lcState cause b b0, ← restart_reg cause b b0 (a := F.SYS_STRAP_UNIT.addr) (by decide)]
  rfl

end Restart

/-- A restart empties the address map. -/
theorem Mem.byte_puts_emptied (m : Mem) (l : List Store) {y : Nat} (hy : y < 2 ^ 40) :
    (m.puts (l ++ [{ addr := 0, erase := 2 ^ 40, bytes := [] }])).byte y = 0 := by
  rw [Mem.puts, List.foldl_append, List.foldl_cons, List.foldl_nil, Mem.byte_put]
  have hy' : y < 0 + 2 ^ 40 := by omega
  simp only [Bool.false_eq_true, if_false, List.length_nil, hy', Nat.zero_le, true_and, if_true, Nat.add_zero, Nat.not_lt_zero,
    cellDefault]

/-- A restart leaves the flash to the stores before it. -/
theorem Mem.flash_puts_emptied (m : Mem) (l : List Store) :
    (m.puts (l ++ [{ addr := 0, erase := 2 ^ 40, bytes := [] }])).flash = (m.puts l).flash := by
  rw [Mem.puts, List.foldl_append]
  rfl

theorem sparseGet_filter {α : Type} (d : Nat → α) (keep : Nat → Bool) (l : List (Nat × α)) (k : Nat) :
    sparseGet d (l.filter fun q => keep q.1) k = if keep k then sparseGet d l k else d k := by
  induction l with
  | nil => simp [sparseGet]
  | cons q t ih =>
    obtain ⟨j, v⟩ := q
    by_cases hj : keep j
    · by_cases hk : j = k
      · simp [sparseGet, hk, hk ▸ hj]
      · simp [sparseGet, hj, hk, ih]
    · by_cases hk : j = k
      · simp [hk ▸ hj, hk, ih]
      · simp [sparseGet, hj, hk, ih]

/-- The registers that a reset of the fabric region keeps: the recorder's, the black-box port's and the straps (R492). -/
def fabricKeeps (a : Nat) : Bool := a / 0x10000 = 6 || a / 0x10000 = 23 || a = F.SYS_STRAP_UNIT.addr

theorem fabricReset_reg (cause : Nat) (b : Block) {a : Nat} (ha : a ∉ restartRegs) :
    (fabricReset cause b).reg a = if fabricKeeps a then b.reg a else resetAt a :=
  (restart_reg _ _ _ ha).trans (sparseGet_filter resetAt fabricKeeps b.regs a)

theorem restartRegs_not_kept {a : Nat} (ha : fabricKeeps a = true) : a ∉ restartRegs := by
  intro h
  have : ∀ x ∈ restartRegs, fabricKeeps x = false := by decide
  simp [this a h] at ha

/-- A reset of the fabric region after an event that touched the management port's window alone and recorded the end of the
sessions. -/
theorem fabricRestarted_of {s : State} {b : Block} (dt : Nat) {cause : Nat} (st : StartSt) (hc : cause < 8)
    (hreg : ∀ a, a / 0x10000 ∉ [21] → b.reg a = s.blk.reg a) (hout : b.out = s.blk.out) (hlog : b.log = s.blk.log)
    (hevq : b.evq.map (·.code) = s.blk.evq.map (·.code) ++ List.replicate s.blk.shop.sessions.length 0x1502) :
    Claims.fabricRestarted s (s.ends dt ((fabricReset cause b).setStart st)) cause := by
  refine ⟨State.ends_clk_of_reset s dt _ rfl, State.ends_hold .., ?_, ?_, fun a ha => ?_, fun a h6 h23 ha => ?_, ?_, ?_,
    fun y hy => ?_, ?_⟩
  · exact (State.ends_get ..).trans (restart_cause _ _ _ hc)
  · refine (State.ends_get ..).trans ((restart_lcState ..).trans ?_)
    simp only [Block.get, hreg _ (show F.SYS_LC_STATE.at 0 0 0 / 0x10000 ∉ [21] by decide)]
  · have hk : fabricKeeps a = true := by simpa [fabricKeeps, or_assoc] using ha
    have h21 : a / 0x10000 ∉ [21] := by
      rcases ha with h | h | h
      · simp [h]
      · simp [h]
      · rw [h]; decide
    refine (State.ends_reg ..).trans ((fabricReset_reg cause b (restartRegs_not_kept hk)).trans ?_)
    rw [if_pos hk, hreg a h21]
  · simp only [List.mem_cons, List.not_mem_nil, or_false, not_or] at ha
    obtain ⟨hs, hcause, hlc⟩ := ha
    refine (State.ends_reg ..).trans ((fabricReset_reg cause b (by simp [restartRegs, hcause, hlc])).trans ?_)
    rw [if_neg (by simp [fabricKeeps, h6, h23, hs])]
    rfl
  · rw [State.ends_log, ← hlog]
    rfl
  · rw [State.ends_out, ← hout]
    rfl
  · rw [State.ends_mem]
    exact Mem.byte_puts_emptied _ _ hy
  · rw [Claims.records, State.ends_evq, ← List.append_assoc, ← hevq]
    exact (congrArg _ (restart_evq cause b _)).trans (List.map_append ..)

/-! ## Sessions end -/

/-- The record of a session's end (code 0x1502). -/
def sessionEnded (cause : Nat) (x : Session) : Event :=
  { code := 0x1502, sev := 2, origin := 0x15, p0 := BitVec.ofNat 32 x.id, p1 := BitVec.ofNat 32 cause,
    p2 := BitVec.ofNat 32 x.count, p3 := 0 }

theorem foldl_record_sessions (cause : Nat) (l : List Session) (b : Block) :
    l.foldl (fun b x => b.record 0x1502 2 x.id cause x.count) b = { b with evq := b.evq ++ l.map (sessionEnded cause) } := by
  induction l generalizing b with
  | nil => simp
  | cons x t ih =>
    rw [List.foldl_cons, ih]
    simp [Block.record, sessionEnded]

theorem endSessions_eq (cause : Nat) (b : Block) :
    endSessions cause b = Block.put { b with
      evq := b.evq ++ b.shop.sessions.map (sessionEnded cause)
      shop := { b.shop with sessions := [], msgs := [] } } F.MGT_STAT_SESSIONS 0 := by
  unfold endSessions
  rw [foldl_record_sessions]
  rfl

theorem endSessions_touches (cause : Nat) (b : Block) : Block.Touches [21] b (endSessions cause b) := by
  rw [endSessions_eq]
  refine Block.Touches.put ?_ (show F.MGT_STAT_SESSIONS.at 0 0 0 / 0x10000 ∈ [21] by decide) 0
  exact (Block.Touches.refl [21] b).keep rfl rfl rfl rfl rfl

theorem endSessions_log (cause : Nat) (b : Block) : (endSessions cause b).log = b.log := by
  rw [endSessions_eq]
  rfl

theorem endSessions_codes (cause : Nat) (b : Block) :
    (endSessions cause b).evq.map (·.code) = b.evq.map (·.code) ++ List.replicate b.shop.sessions.length 0x1502 := by
  rw [endSessions_eq]
  exact (List.map_append ..).trans (congrArg _ (by simp [sessionEnded, Function.comp_def, List.map_const']))

/-- Sessions leave the flash's size alone. -/
theorem flashSize_endSessions (cause : Nat) (b : Block) : flashSize (endSessions cause b) = flashSize b := by
  rw [flashSize, (endSessions_touches cause b).get _ _ _ _ (by decide), flashSize]

/-- A reset of the fabric region once the sessions have ended. -/
theorem fabricRestarted_endSessions (s : State) (dt : Nat) {cause ended : Nat} (st : StartSt) (hc : cause < 8) :
    Claims.fabricRestarted s (s.ends dt ((fabricReset cause (endSessions ended (s.found dt))).setStart st)) cause :=
  have h := endSessions_touches ended (s.found dt)
  fabricRestarted_of dt st hc h.reg h.out (endSessions_log ..) (endSessions_codes ..)

/-! ## The boot state at a re-pour -/

theorem bootOffset_of_ne (b : Block) {i : Nat} (hi : i < 2) :
    bootOffset b (1 - i) + 64 ≤ bootOffset b i ∨ bootOffset b i + 4096 ≤ bootOffset b (1 - i) := by
  unfold bootOffset mib
  omega

theorem bootSlot_lt (m : Mem) (b : Block) : bootSlot m b < 2 := by
  unfold bootSlot
  split <;> decide

/-- The flash once a boot-state record with the next sequence number is written: the record is in effect (R475, R493). -/
theorem bootWritten_of {s t : State} {prefer trial : Nat} (hp : prefer < 256) (ht : trial < 256)
    (hflash : ∀ y, t.mem.flashByte y = ((s.mem.put { flash := true, addr := bootOffset s.blk (bootSlot s.mem s.blk), erase := 4096, bytes := [] }).put
      { flash := true, addr := bootOffset s.blk (bootSlot s.mem s.blk),
        bytes := bootBytes { seq := (bootState s.mem s.blk).1.seq + 1, prefer := prefer, trial := trial } }).flashByte y) :
    Claims.bootWritten s t prefer trial := by
  have hi := bootSlot_lt s.mem s.blk
  simp only [flashByte_bootWrite] at hflash
  refine ⟨fun hseq => bootState_of_newer (bootRecord_of_bytes ?_ hseq hp ht) (bootRecord_congr _ rfl ?_) (Nat.lt_succ_self _),
    fun y hy => ?_⟩
  · apply List.ext_getElem
    · simp [Mem.flashBytes, bootBytes_length]
    · intro n hn hn'
      rw [bootBytes_length] at hn'
      simp [Mem.flashBytes, hflash, hn', bootBytes_length]
  · unfold Mem.flashBytes
    apply List.map_congr_left
    intro n hn
    have hn' := List.mem_range.1 hn
    have := bootOffset_of_ne s.blk hi
    rw [hflash, if_neg (by omega), if_neg (by omega)]
  · have : bootOffset s.blk 0 ≤ bootOffset s.blk (bootSlot s.mem s.blk) := by
      unfold bootOffset
      omega
    rw [hflash, if_neg (by omega), if_neg (by omega)]

end Sys2Proof.Machine
end

section
/-! The resets one by one: RESET_N's two edges, the supply's loss, the re-pour and the thermal restart. -/

namespace Sys2Proof.Machine

open Sys2Proof

/-! ## RESET_N goes low -/

theorem exec_resetAssert (dt : Nat) (s : State) :
    exec (.resetAssert dt) s = .next (s.ends dt (resetAssert (s.found dt))) :=
  congrArg Host.Outcome.next (State.act_eq_ends s dt fun _ _ b => resetAssert b)

theorem resetAssert_again {b : Block} (h : b.hold = .all) : resetAssert b = b := if_pos h

theorem resetAssert_first {b : Block} (h : b.hold ≠ .all) : resetAssert b =
    { releasePins (b.put F.SYS_RST_CAUSE (if b.hold = .fabric then 2 else 1)) with hold := .all } := if_neg h

theorem resetAssert_touches (b : Block) : Block.Touches [0, 5] b (resetAssert b) := by
  have h0 := Block.Touches.refl [0, 5] b
  exact .ite h0 ((releasePins_touches (by decide)
    (h0.put (f := F.SYS_RST_CAUSE) (i := 0) (j := 0) (k := 0) (by decide) _)).keep rfl rfl rfl rfl rfl)

theorem resetAssert_evq (b : Block) : (resetAssert b).evq = b.evq := by
  unfold resetAssert
  split <;> rfl

theorem resetAssert_cause {b : Block} (h : b.hold ≠ .all) :
    (resetAssert b).get F.SYS_RST_CAUSE = if b.hold = .fabric then 2 else 1 := by
  rw [resetAssert_first h]
  refine ((releasePins_touches (ws := [5]) (by decide) (Block.Touches.refl [5] _)).get F.SYS_RST_CAUSE 0 0 0 (by decide)).trans
    (Block.get_put_self _ _ (by decide) ?_ _ _ _)
  split <;> decide

/-! ## RESET_N goes high -/

theorem exec_resetRelease_held (dt : Nat) (unit : Bool) (pos : Fin 4) (powerOn : Bool) {s : State} (h : s.blk.hold = .all) :
    exec (.resetRelease dt unit pos powerOn) s = .next (s.ends dt (resetRelease unit pos.val powerOn (s.found dt))) :=
  congrArg Host.Outcome.next ((if_pos h).trans (State.act_eq_ends s dt fun _ _ b => resetRelease unit pos.val powerOn b))

theorem exec_resetRelease_live (dt : Nat) (unit : Bool) (pos : Fin 4) (powerOn : Bool) {s : State} (h : s.blk.hold ≠ .all) :
    exec (.resetRelease dt unit pos powerOn) s = .next (s.pass dt) :=
  congrArg Host.Outcome.next (if_neg h)

/-- The cause that a release of RESET_N shows (R36, R509). -/
def releaseCause (powerOn : Bool) (b : Block) : Nat := if b.get F.SYS_RST_CAUSE = 2 then 2 else if powerOn then 0 else 1

theorem releaseCause_lt (powerOn : Bool) (b : Block) : releaseCause powerOn b < 8 := by
  unfold releaseCause
  split
  · decide
  · split <;> decide

/-- What a release of RESET_N starts from: the straps, sampled, and the MRAM (R37, R514). -/
def strapped (unit : Bool) (pos : Nat) (b : Block) : Block :=
  (Block.flag { log := { store := b.log.store } } F.SYS_STRAP_UNIT unit).put F.SYS_STRAP_POS pos

theorem resetRelease_eq (unit : Bool) (pos : Nat) (powerOn : Bool) (b : Block) :
    resetRelease unit pos powerOn b = restart (releaseCause powerOn b) b (strapped unit pos b) := rfl

theorem strapped_reg (unit : Bool) (pos : Nat) (b : Block) {a : Nat} (ha : a ≠ F.SYS_STRAP_UNIT.addr) :
    (strapped unit pos b).reg a = State.reset.blk.reg a :=
  (Block.reg_setReg_of_ne _ _ (Ne.symm ha)).trans (Block.reg_setReg_of_ne _ _ (Ne.symm ha))

theorem strapped_unit (unit : Bool) (pos : Nat) (b : Block) : (strapped unit pos b).get F.SYS_STRAP_UNIT = b2n unit :=
  (Block.get_put_apart _ F.SYS_STRAP_POS F.SYS_STRAP_UNIT (by unfold Fld.fits; decide) (by unfold Fld.apart; decide)
    ..).trans (Block.get_put_self _ _ (by decide) (by cases unit <;> decide) _ _ _)

theorem strapped_pos (unit : Bool) (pos : Fin 4) (b : Block) : (strapped unit pos.val b).get F.SYS_STRAP_POS = pos.val :=
  Block.get_put_self _ _ (by decide) pos.isLt _ _ _

/-! ## The supply is lost -/

theorem brownout_failed {c : Clk} {good : Option Nat} {b : Block} (h : b.on F.PWR_STAT_PFAIL = true) :
    brownout c good b = b := if_pos (by simp [h])

theorem brownout_first {c : Clk} {good : Option Nat} {b : Block} (h : b.on F.PWR_STAT_PFAIL = false) (h0 : b.hold = .none) :
    brownout c good b = { releasePins (powerFail c good b) with hold := .fabric } := if_neg (by simp [h, h0])

/-- The power-fail flush and the release of the token (R460, R509). -/
theorem brownout_touches (c : Clk) (good : Option Nat) (b : Block) :
    Block.Touches [5, 6, 23] (b.flag F.PWR_STAT_PFAIL true) (releasePins (powerFail c good b)) :=
  releasePins_touches (by decide) ((Block.Touches.refl _ _).andThen (powerFail_touches c good b) (by decide))

/-! ## A re-pour and a thermal restart -/

/-- A re-pour's instant (R491). -/
def repourReady (c : Clk) (q : Repour) (b : Block) : Bool := issues b 0 && q.verified && refInstant c q.since q.frame b

theorem repourReady_iff {c : Clk} {q : Repour} {b : Block} :
    repourReady c q b = true ↔ issues b 0 = true ∧ q.verified = true ∧ refInstant c q.since q.frame b = true := by
  simp [repourReady, and_assoc]

theorem repourBegin_none {c : Clk} {m : Mem} {b : Block} (h : b.start.repour = none) : repourBegin c m b = b := by
  rw [repourBegin, h]

theorem repourBegin_early {c : Clk} {m : Mem} {b : Block} {q : Repour} (h : b.start.repour = some q)
    (hr : repourReady c q b = false) : repourBegin c m b = b := by
  rw [repourBegin, h]
  exact if_pos (by simpa [repourReady, or_assoc, imp_iff_not_or] using hr)

section Ready

variable {c : Clk} {m : Mem} {b : Block} {q : Repour}

theorem repourBegin_ready (h : b.start.repour = some q) (hr : repourReady c q b = true) :
    repourBegin c m b = (fabricReset 4 (if q.copy = (bootState m b).1.prefer % 2 then endSessions 3 b
      else bootWrite m (bootState m b).1.prefer (q.copy + 1) (endSessions 3 b))).setStart { named := some q.copy } := by
  rw [← bootState_congr m (flashSize_endSessions 3 b), repourBegin, h]
  exact if_neg (by simpa [repourReady, and_assoc] using hr)

end Ready

/-- A restart's effect on the flash is its event's. -/
theorem ends_flash_fabricReset (s : State) (dt cause : Nat) (b : Block) (st : StartSt) :
    (s.ends dt ((fabricReset cause b).setStart st)).mem.flash = (s.mem.puts b.stores).flash := by
  rw [State.ends_mem]
  exact Mem.flash_puts_emptied ..

section Repour

variable {s : State} (dt : Nat) {q : Repour}

/-- A restart of the fabric once the sessions have ended leaves the flash alone. -/
theorem flash_fabricRestart (hq : s.blk.quiet = true) (cause ended : Nat) (st : StartSt) :
    (s.ends dt ((fabricReset cause (endSessions ended (s.found dt))).setStart st)).mem.flash = s.mem.flash := by
  obtain ⟨hs, -⟩ := (Block.quiet_iff _).1 hq
  rw [ends_flash_fabricReset, ((s.found_touches dt [21]).trans (endSessions_touches ..)).stores, hs, Mem.puts_nil]

/-- A re-pour of the other copy writes the trial into the boot state (R493). -/
theorem bootWritten_repour_trial (hq : s.blk.quiet = true) (st : StartSt) {trial : Nat} (ht : trial < 256) :
    Claims.bootWritten s
      (s.ends dt ((fabricReset 4 (bootWrite s.mem (bootState s.mem s.blk).1.prefer trial (endSessions 3 (s.found dt)))).setStart st))
      (bootState s.mem s.blk).1.prefer trial := by
  obtain ⟨hs, -⟩ := (Block.quiet_iff _).1 hq
  have hsize : flashSize (endSessions 3 (s.found dt)) = flashSize s.blk := flashSize_endSessions 3 (s.found dt)
  have hstate := bootState_congr s.mem hsize
  have hslot : bootSlot s.mem (endSessions 3 (s.found dt)) = bootSlot s.mem s.blk := by rw [bootSlot, hstate, bootSlot]
  have hoff : ∀ i, bootOffset (endSessions 3 (s.found dt)) i = bootOffset s.blk i := fun i => by
    rw [bootOffset, hsize, bootOffset]
  have hstores : (endSessions 3 (s.found dt)).stores = [] :=
    ((s.found_touches dt [21]).trans (endSessions_touches ..)).stores.trans hs
  refine bootWritten_of (bootState_prefer_lt ..) ht fun y => ?_
  rw [Mem.flashByte, ends_flash_fabricReset, bootWrite_eq, hslot, hstate, hoff]
  simp [Block.eraseFlash, Block.storeFlash, hstores, Mem.puts, Mem.flashByte]

/-- A re-pour at its instant (R491-R493). -/
theorem repourBegin_restarts (hq : s.blk.quiet = true) (h : s.blk.start.repour = some q)
    (hr : repourReady (s.pass dt).clk q (s.found dt) = true) (hc : q.copy < 2) :
    ∃ b : Block, repourBegin (s.pass dt).clk s.mem (s.found dt) = b ∧ Claims.fabricRestarted s (s.ends dt b) 4 ∧
      b.start.named = some q.copy ∧
      (q.copy = (bootState s.mem s.blk).1.prefer % 2 → (s.ends dt b).mem.flash = s.mem.flash) ∧
      (q.copy ≠ (bootState s.mem s.blk).1.prefer % 2 →
        Claims.bootWritten s (s.ends dt b) (bootState s.mem s.blk).1.prefer (q.copy + 1)) := by
  have hstate : bootState s.mem (s.found dt) = bootState s.mem s.blk := bootState_congr _ rfl
  refine ⟨_, repourBegin_ready h hr, ?_⟩
  rw [hstate]
  by_cases hp : q.copy = (bootState s.mem s.blk).1.prefer % 2
  · rw [if_pos hp]
    exact ⟨fabricRestarted_endSessions s dt _ (by decide), rfl, fun _ => flash_fabricRestart dt hq _ _ _,
      fun hne => absurd hp hne⟩
  · rw [if_neg hp]
    have ht := endSessions_touches 3 (s.found dt)
    exact ⟨fabricRestarted_of dt _ (by decide) ht.reg ht.out (endSessions_log ..) (endSessions_codes ..), rfl,
      fun heq => absurd heq hp, fun _ => bootWritten_repour_trial dt hq _ (by omega)⟩

end Repour

/-- A part 20 °C below its shutdown (R522). -/
def cooled (b : Block) : Bool := b.hot && decide (b.geti F.SYS_TEMP_TJ ≤ shutdownTj - 160)

theorem cooled_iff {b : Block} : cooled b = true ↔ b.hot = true ∧ b.geti F.SYS_TEMP_TJ ≤ shutdownTj - 160 := by
  simp [cooled]

theorem thermalRestart_hot {b : Block} (h : cooled b = false) : thermalRestart b = b := if_neg (by simpa [cooled] using h)

theorem thermalRestart_cooled {b : Block} (h : cooled b = true) :
    thermalRestart b = (fabricReset 3 (endSessions 3 b)).setStart {} := if_pos (by simpa [cooled] using h)

/-! ## The claim -/

section Claim

variable {s : State} (dt : Nat)

/-- Nothing but time passes at a command whose event leaves the blocks as it found them. -/
theorem ends_found_only (hq : s.blk.quiet = true) : Claims.only s (s.ends dt (s.found dt)) dt [] :=
  State.ends_only hq (s.found_touches dt []) rfl

theorem pass_only : Claims.only s (s.pass dt) dt [] :=
  ⟨⟨rfl, State.pass_mem .., fun a _ => by rw [State.pass_blk]⟩, by rw [State.pass_blk], by rw [State.pass_blk]⟩

/-- RESET_N goes high on a part in reset (R36, R37, R507, R514). -/
theorem resetRelease_restarts (unit : Bool) (pos : Fin 4) (powerOn : Bool) :
    let t := s.ends dt (resetRelease unit pos.val powerOn (s.found dt))
    t.clk = {} ∧ t.blk.hold = .none ∧ t.blk.get F.SYS_RST_CAUSE = releaseCause powerOn s.blk ∧
      t.blk.get F.SYS_STRAP_UNIT = b2n unit ∧ t.blk.get F.SYS_STRAP_POS = pos.val ∧
      t.blk.get F.SYS_LC_STATE = s.blk.get F.SYS_LC_STATE ∧
      (∀ a, a ∉ [F.SYS_STRAP_UNIT.addr, F.SYS_RST_CAUSE.addr, F.SYS_LC_STATE.addr] →
        t.blk.reg a = State.reset.blk.reg a) ∧
      t.blk.log = { store := s.blk.log.store } ∧ t.blk.out = s.blk.out ∧ (∀ y, y < 2 ^ 40 → t.mem.byte y = 0) ∧
      t.mem.flash = s.mem.flash ∧
      t.blk.evq = [{ code := 0x0001, sev := 2, origin := 0, p0 := BitVec.ofNat 32 (releaseCause powerOn s.blk),
                     p1 := BitVec.ofNat 32 (s.blk.get F.SYS_LC_STATE), p2 := t.blk.reg F.SYS_STRAP_UNIT.addr }] := by
  rw [resetRelease_eq]
  intro t
  have hstrap : t.blk.reg F.SYS_STRAP_UNIT.addr = (strapped unit pos.val (s.found dt)).reg F.SYS_STRAP_UNIT.addr :=
    (State.ends_reg ..).trans (restart_reg _ _ _ (by decide))
  refine ⟨State.ends_clk_of_reset s dt _ rfl, State.ends_hold .., ?_, ?_, ?_, ?_, fun a ha => ?_, State.ends_log ..,
    State.ends_out .., fun y hy => ?_, ?_, ?_⟩
  · exact (State.ends_get ..).trans (restart_cause _ _ _ (releaseCause_lt ..))
  · exact (congrArg (Fld.of F.SYS_STRAP_UNIT) hstrap).trans (strapped_unit ..)
  · exact (congrArg (Fld.of F.SYS_STRAP_POS) hstrap).trans (strapped_pos ..)
  · exact (State.ends_get ..).trans (restart_lcState ..)
  · simp only [List.mem_cons, List.not_mem_nil, or_false, not_or] at ha
    obtain ⟨hs, hc, hl⟩ := ha
    exact (State.ends_reg ..).trans ((restart_reg _ _ _ (by simp [restartRegs, hc, hl])).trans (strapped_reg _ _ _ hs))
  · rw [State.ends_mem]
    exact Mem.byte_puts_emptied s.mem [] hy
  · rw [State.ends_mem]
    exact Mem.flash_puts_emptied s.mem []
  · rw [State.ends_evq, hstrap]
    exact restart_evq ..

/-- BROWNOUT of a part whose supply had not failed (R460, R509). -/
theorem brownout_holds (hq : s.blk.quiet = true) (h0 : s.blk.hold = .none) (hp : s.blk.on F.PWR_STAT_PFAIL = false)
    (good : Option Nat) :
    let t := s.ends dt (brownout (s.pass dt).clk good (s.found dt))
    Claims.within s t dt [1, 5, 6, 23] ∧ t.blk.out = s.blk.out ∧ t.blk.hold = .fabric ∧
      t.blk.on F.PWR_STAT_PFAIL = true ∧ t.blk.log.stopped = true ∧ t.blk.on F.PAIR_STAT_TOKEN_DRV = false := by
  intro t
  have hb := brownout_first (c := (s.pass dt).clk) (good := good) (b := s.found dt) hp h0
  have hflush := brownout_touches (s.pass dt).clk good (s.found dt)
  have ht : Block.Touches [1, 5, 6, 23] s.blk (brownout (s.pass dt).clk good (s.found dt)) := by
    rw [hb]
    exact (((s.found_touches dt _).flag (f := F.PWR_STAT_PFAIL) (i := 0) (j := 0) (k := 0) (by decide) true).andThen hflush
      (by decide)).keep rfl rfl rfl rfl rfl
  refine ⟨State.ends_within hq ht, (State.ends_out ..).trans ht.out, ?_, ?_, ?_, ?_⟩
  · rw [State.ends_hold, hb]
  · rw [State.ends_on, hb]
    exact (hflush.on F.PWR_STAT_PFAIL 0 0 0 (by decide)).trans (Block.on_put_one _ _ (by decide) rfl 0 0 0)
  · rw [State.ends_log, hb]
    exact powerFail_stopped ..
  · rw [State.ends_on, hb]
    exact releasePins_token _

end Claim

/-- Settles O52: in reset nothing acts but the edges of RESET_N and the JTAG port; every restart is `restart` on the few
registers it keeps, and the re-pour's trial record is newer than the one in effect. -/
theorem resetsRestartThePart : Obligations.ResetsRestartThePart := by
  unfold Obligations.ResetsRestartThePart
  refine ⟨exec_in_reset, ?_⟩
  intro dt s hq b now
  refine ⟨fun hall => ?_, fun hall => ?_, ?_, fun h0 => ⟨?_, ?_, ?_⟩⟩
  · have h := resetAssert_again (b := s.found dt) hall
    refine ⟨_, exec_resetAssert dt s, ?_, ?_⟩
    · rw [h]
      exact ends_found_only dt hq
    · rw [State.ends_hold, h]
      exact hall
  · have hne : (s.found dt).hold ≠ .all := hall
    refine ⟨_, exec_resetAssert dt s,
      State.ends_only hq ((s.found_touches dt _).trans (resetAssert_touches _)) (resetAssert_evq _), ?_, ?_, ?_⟩
    · rw [State.ends_hold, resetAssert_first hne]
    · rw [State.ends_on, resetAssert_first hne]
      exact releasePins_token _
    · rw [State.ends_get, resetAssert_cause hne]
      rfl
  · intro unit pos powerOn release
    refine ⟨fun hall => ⟨_, exec_resetRelease_live dt unit pos powerOn hall, pass_only dt, by rw [State.pass_blk]⟩,
      fun hall => ⟨_, exec_resetRelease_held dt unit pos powerOn hall, resetRelease_restarts dt unit pos powerOn⟩⟩
  · intro good
    refine ⟨fun hp => ⟨_, s.run_eq_ends dt _ h0, ?_⟩, fun hp => ⟨_, s.run_eq_ends dt _ h0, brownout_holds dt hq h0 hp good⟩⟩
    rw [brownout_failed (b := s.found dt) hp]
    exact ends_found_only dt hq
  · intro ready
    refine ⟨fun hr => ⟨_, s.run_eq_ends dt _ h0, ?_⟩, ?_⟩
    · have hsame : repourBegin (s.pass dt).clk s.mem (s.found dt) = s.found dt := by
        cases hrepour : s.blk.start.repour with
        | none => exact repourBegin_none hrepour
        | some q =>
          refine repourBegin_early hrepour (Bool.eq_false_iff.2 fun h => hr ?_)
          obtain ⟨hi, hv, href⟩ := repourReady_iff.1 h
          exact ⟨hi, q, hrepour, hv, href⟩
      rw [hsame]
      exact ends_found_only dt hq
    · intro q hi hrepour hv href hc prefer
      have hready : repourReady (s.pass dt).clk q (s.found dt) = true := repourReady_iff.2 ⟨hi, hv, href⟩
      obtain ⟨b', hb', hrestart, hnamed, hflash, htrial⟩ := repourBegin_restarts dt hq hrepour hready hc
      subst hb'
      exact ⟨_, s.run_eq_ends dt _ h0, hrestart, by rwa [State.ends_start], hflash, htrial⟩
  · intro cool
    have hcool : cooled (s.found dt) = true ↔ cool := cooled_iff
    refine ⟨fun hc => ⟨_, s.run_eq_ends dt _ h0, ?_⟩, fun hc => ⟨_, s.run_eq_ends dt _ h0, ?_⟩⟩
    · rw [thermalRestart_hot (Bool.eq_false_iff.2 fun h => hc (hcool.1 h))]
      exact ends_found_only dt hq
    · rw [thermalRestart_cooled (hcool.2 hc)]
      exact ⟨fabricRestarted_endSessions s dt _ (by decide), flash_fabricRestart dt hq _ _ _⟩

end Sys2Proof.Machine
end

section
/-! The invariant of every step: a command is time passing, an effect on the blocks, or both, and each of the two keeps the
memories canonical, the clocks in range and the transient fields empty. -/

namespace Sys2Proof.Machine

open Sys2Proof

/-! ## The clocks stay in range -/

theorem Clk.inRange_iff (c : Clk) :
    c.inRange = true ↔ c.sec < 2 ^ 48 ∧ c.ns < 1000000000 ∧ c.frac < nsTick ∧ c.steady < 2 ^ 64 * nsTick := by
  simp [Clk.inRange, and_assoc]

/-- A PTP time in ticks splits into fields in range, whatever it is (R43, R44). -/
theorem Clk.inRange_ofPtp {c : Clk} (p : Nat) (h : c.steady < 2 ^ 64 * nsTick) : (c.ofPtp p).inRange = true := by
  have hn : 0 < nsTick := by decide
  exact (Clk.inRange_iff _).2 ⟨Nat.mod_lt _ (by decide), Nat.mod_lt _ (by decide), Nat.mod_lt _ hn, h⟩

/-- Time passing keeps both clocks in range: the PTP fields are split anew and the steady clock wraps at 64 bits of ns. -/
theorem Clk.inRange_advance (c : Clk) (rate : Int) (n : Nat) : (c.advance rate n).inRange = true :=
  Clk.inRange_ofPtp (c := { c with steady := (c.steady + n * addend rate) % (2 ^ 64 * nsTick) }) _ (Nat.mod_lt _ (by decide))

theorem State.pass_inRange (s : State) (n : Nat) : (s.pass n).clk.inRange = true := Clk.inRange_advance _ _ _

/-- A command leaves the clocks as they are, returns them to 0, or sets the PTP clock alone. -/
theorem State.act_clk_cases (s : State) (f : Clk → Mem → Block → Block) :
    (s.act f).clk = s.clk ∨ (s.act f).clk = {} ∨ ∃ p, (s.act f).clk = s.clk.ofPtp p := by
  unfold State.act
  dsimp only
  split
  · exact .inr (.inl rfl)
  · split
    · exact .inr (.inr ⟨_, rfl⟩)
    · exact .inl rfl

theorem State.act_inRange {s : State} (f : Clk → Mem → Block → Block) (h : s.clk.inRange = true) :
    (s.act f).clk.inRange = true := by
  rcases s.act_clk_cases f with hc | hc | ⟨p, hc⟩
  · rwa [hc]
  · rw [hc]; decide
  · rw [hc]
    obtain ⟨-, -, -, hsteady⟩ := (Clk.inRange_iff _).1 h
    exact Clk.inRange_ofPtp p hsteady

/-! ## The ways in which a command runs -/

theorem State.Inv.pass {s : State} (h : s.Inv) (n : Nat) : (s.pass n).Inv := by
  obtain ⟨hmem, -, hquiet⟩ := h
  exact ⟨by rwa [State.pass_mem], s.pass_inRange n, by rwa [State.pass_blk]⟩

/-- Nothing that a command leaves for itself outlives its effect. -/
theorem State.act_quiet (s : State) (f : Clk → Mem → Block → Block) : (s.act f).blk.quiet = true := rfl

theorem State.Inv.act {s : State} (h : s.Inv) (f : Clk → Mem → Block → Block) : (s.act f).Inv := by
  obtain ⟨hmem, hclk, -⟩ := h
  exact ⟨Memory.wf_act s f hmem, State.act_inRange f hclk, s.act_quiet f⟩

/-- An answer that keeps the invariant: a next state that meets it. -/
def AnswersInv (o : Host.Outcome State Fault Refusal) : Prop := ∃ t, o = .next t ∧ t.Inv

section Runs

variable {s : State} (hs : s.Inv) (dt : Nat)
include hs

/-- A command that the fabric's hold stops. -/
theorem State.run_answersInv (f : Clk → Mem → Block → Block) : AnswersInv (s.run dt f) := by
  refine ⟨_, rfl, ?_⟩
  split
  · exact (hs.pass dt).act f
  · exact hs

/-- A command of the always-on domain. -/
theorem State.runAon_answersInv (f : Clk → Mem → Block → Block) : AnswersInv (s.runAon dt f) := by
  refine ⟨_, rfl, ?_⟩
  split
  · exact hs
  · exact (hs.pass dt).act f

/-- A command of the JTAG port, which acts in reset too, on clocks that stand still. -/
theorem State.runJtag_answersInv (f : Block → Block) : AnswersInv (s.runJtag dt f) := by
  refine ⟨_, rfl, State.Inv.act ?_ _⟩
  split
  · exact hs
  · exact hs.pass dt

theorem execResetAssert_answersInv : AnswersInv (execResetAssert dt s) := ⟨_, rfl, (hs.pass dt).act _⟩

theorem execResetRelease_answersInv (unit : Bool) (pos : Fin 4) (powerOn : Bool) :
    AnswersInv (execResetRelease dt unit pos powerOn s) := by
  refine ⟨_, rfl, ?_⟩
  split
  · exact (hs.pass dt).act _
  · exact hs.pass dt

end Runs

/-- Every command answers a next state that meets the invariant: the reset's edges, the JTAG port and the always-on domain run
in ways of their own, every other command as one that the fabric's hold stops. -/
theorem exec_answersInv (i : Instr) {s : State} (hs : s.Inv) : AnswersInv (exec i s) := by
  cases i with
  | resetAssert dt => exact execResetAssert_answersInv hs dt
  | resetRelease dt u p o => exact execResetRelease_answersInv hs dt u p o
  | jtagBypass | jtagIdcode | jtagSamplePreload | jtagExtest => exact State.runJtag_answersInv hs _ _
  | ingotStage | batchTimeout | ingotWrite | storeRebuild | optimeTick | pfailRise | cursorMoveDone | blackBoxClear
  | powerFailFlush | smbusIdentity | smbusStatus | smbusTemperature | smbusLastFault | smbusHealthReport | smbusWrite =>
    exact State.runAon_answersInv hs _ _
  | _ => exact State.run_answersInv hs _ _

/-- Settles O3: a step of an empty queue changes nothing, and one that takes a command is that command's answer. -/
theorem everyStepKeepsInvariant : Obligations.EveryStepKeepsInvariant := by
  intro s t hs ht
  unfold step at ht
  split at ht
  · cases ht
    exact hs
  · rename_i i rest hp
    obtain ⟨t', ht', hinv⟩ := exec_answersInv i (s := { s with pending := rest }) hs
    cases ht.symm.trans ht'
    exact hinv

end Sys2Proof.Machine
end

section
/-! What an event leaves alone, by register address, and which bits of a word a masked write takes: the rules that the proofs
about the TIM block share. -/

namespace Sys2Proof.Machine

open Sys2Proof

/-! ## Fields of masked words -/

/-- Two words that agree on the bits of a field hold the same value in it. -/
theorem Fld.of_congr {f : Fld} (hf : f.fits) {v v' : Word}
    (h : ∀ i (_ : i < 32), f.lsb ≤ i → i < f.lsb + f.width → v[i] = v'[i]) : f.of v = f.of v' := by
  unfold Fld.fits at hf
  refine Nat.eq_of_testBit_eq fun i => ?_
  simp only [Fld.of, bits, Nat.testBit_mod_two_pow, Nat.testBit_div_two_pow]
  by_cases hi : i < f.width
  · have := h (f.lsb + i) (by omega) (by omega) (by omega)
    simpa [hi, BitVec.getElem_eq_testBit_toNat, Nat.add_comm] using this
  · simp [hi]

/-- A field whose bits a mask holds: every bit of the mask there is 1. -/
theorem Fld.getElem_of_ones {f : Fld} {m : Word} (hm : f.of m = 2 ^ f.width - 1) {i : Nat} (hi : i < 32)
    (hl : f.lsb ≤ i) (hu : i < f.lsb + f.width) : m[i] = true := by
  have h := congrArg (fun n => n.testBit (i - f.lsb)) hm
  simp only [Fld.of, bits, Nat.testBit_mod_two_pow, Nat.testBit_div_two_pow, Nat.testBit_two_pow_sub_one] at h
  have hw : i - f.lsb < f.width := by omega
  have hi' : f.lsb + (i - f.lsb) = i := by omega
  simpa [hw, hi', Nat.sub_add_cancel hl, BitVec.getElem_eq_testBit_toNat] using h

/-- A field within the mask of a write takes the value written. -/
theorem Fld.of_merge {f : Fld} (hf : f.fits) {m : Word} (hm : f.of m = 2 ^ f.width - 1) (v x : Word) :
    f.of (merge v m x) = f.of x :=
  Fld.of_congr hf fun i hi hl hu => by rw [getElem_merge v m x i hi, Fld.getElem_of_ones hm hi hl hu, if_pos rfl]

/-- A field within a mask is not cut by it. -/
theorem Fld.of_and {f : Fld} (hf : f.fits) {m : Word} (hm : f.of m = 2 ^ f.width - 1) (v : Word) :
    f.of (v &&& m) = f.of v :=
  Fld.of_congr hf fun i hi hl hu => by simp [Fld.getElem_of_ones hm hi hl hu]

theorem merge_allOnes (v x : Word) : merge v (BitVec.allOnes 32) x = x := by
  rw [merge, BitVec.not_allOnes, BitVec.and_zero, BitVec.zero_or, BitVec.and_allOnes]

/-- A field that is its whole register reads the word. -/
theorem Block.get_word (b : Block) {f : Fld} (hl : f.lsb = 0) (hw : f.width = 32) (i j k : Nat) :
    b.get f i j k = (b.reg (f.at i j k)).toNat := by
  simp [Block.get, Fld.of, bits, hl, hw, Nat.mod_eq_of_lt (b.reg (f.at i j k)).isLt]

/-- A field that is its whole word replaces it. -/
theorem Fld.into_word {f : Fld} (hl : f.lsb = 0) (hw : f.width = 32) (v x : Word) : f.into v x.toNat = x := by
  simp [Fld.into, Fld.of, bits, hl, hw, Nat.mod_eq_of_lt v.isLt, Nat.mod_eq_of_lt x.isLt]

/-! ## Fields after puts -/

/-- Distinct one-bit fields of a word are apart. -/
theorem Fld.apart_of_lsb_ne {f g : Fld} (hf : f.width = 1) (hg : g.width = 1) (h : f.lsb ≠ g.lsb) : f.apart g := by
  unfold Fld.apart
  omega

/-- A flag that is set stays set when a flag is raised. -/
theorem Block.on_evt_of_on {b : Block} {f g : Fld} {i j x y z : Nat} (hf : f.fits) (hf1 : f.width = 1) (hg1 : g.width = 1)
    (h : b.on g x y z = true) : (b.evt f i j).on g x y z = true := by
  unfold Block.on at h ⊢
  rw [Block.get_evt]
  by_cases hl : f.lsb = g.lsb
  · by_cases ha : f.at i j = g.at x y z
    · have hval : (b.put f 1 i j).get g x y z = (b.put f 1 i j).get f i j := by
        unfold Block.get Fld.of
        rw [ha, hl, hf1, hg1]
      rw [hval, Block.get_put_self b f hf (by rw [hf1]; decide)]
      rfl
    · rwa [Block.get_put_other _ _ _ _ _ _ _ _ _ _ ha]
  · rwa [Block.get_put_apart _ _ _ hf (Fld.apart_of_lsb_ne hf1 hg1 hl)]

theorem Block.on_evt (b : Block) {f : Fld} (hf : f.fits) (hf1 : f.width = 1) (i j : Nat) : (b.evt f i j).on f i j = true :=
  Block.on_put_one b f hf hf1 i j 0

/-- A two-word value reads what was put into it, cut to its width. -/
theorem Block.get2_put2 (b : Block) {lo hi : Fld} (hlo : lo.fits) (hhi : hi.fits) (x i j : Nat)
    (hne : hi.at i j ≠ lo.at i j) : (b.put2 lo hi x i j).get2 lo hi i j = x % 2 ^ (lo.width + hi.width) := by
  unfold Block.get2 Block.put2
  rw [Block.get_put_same _ hi hhi, Block.get_put_other _ hi lo _ _ _ _ _ _ _ hne, Block.get_put_same _ lo hlo, pow_add,
    Nat.mod_mul]

/-! ## What an event alters -/

/-- The block after an event has made no store, reset no clock and sent nothing, and differs from the block before in no
register but those of `S`. -/
structure Block.Alters (S : Set Nat) (b b' : Block) : Prop where
  stores : b'.stores = b.stores
  clkReset : b'.clkReset = b.clkReset
  out : b'.out = b.out
  reg : ∀ a, a ∉ S → b'.reg a = b.reg a

namespace Block.Alters

variable {S T : Set Nat} {b b' b'' : Block}

theorem refl (S : Set Nat) (b : Block) : Alters S b b := ⟨rfl, rfl, rfl, fun _ _ => rfl⟩

theorem trans (h : Alters S b b') (h' : Alters S b' b'') : Alters S b b'' :=
  ⟨h'.stores.trans h.stores, h'.clkReset.trans h.clkReset, h'.out.trans h.out,
    fun a ha => (h'.reg a ha).trans (h.reg a ha)⟩

theorem mono (h : Alters S b b') (hS : S ⊆ T) : Alters T b b' :=
  ⟨h.stores, h.clkReset, h.out, fun a ha => h.reg a fun hm => ha (hS hm)⟩

/-- An event after an event. -/
theorem andThen (h : Alters S b b') (h' : Alters T b' b'') : Alters (S ∪ T) b b'' :=
  (h.mono Set.subset_union_left).trans (h'.mono Set.subset_union_right)

/-- Of two events, either. -/
theorem ite {p : Prop} [Decidable p] (h : Alters S b b') (h' : Alters S b b'') : Alters S b (if p then b' else b'') := by
  split
  · exact h
  · exact h'

/-- An update that is no register's. -/
theorem keep (h : Alters S b b') (hr : b''.regs = b'.regs) (hs : b''.stores = b'.stores)
    (hc : b''.clkReset = b'.clkReset) (ho : b''.out = b'.out) : Alters S b b'' :=
  h.trans ⟨hs, hc, ho, fun a _ => by simp [Block.reg, hr]⟩

theorem setReg (h : Alters S b b') {a : Nat} (ha : a ∈ S) (v : Word) : Alters S b (b'.setReg a v) :=
  h.trans ⟨rfl, rfl, rfl, fun _ hx => Block.reg_setReg_of_ne _ _ fun e => hx (e ▸ ha)⟩

section Fields

variable {f : Fld} {i j k : Nat}

theorem put (h : Alters S b b') (hf : f.at i j k ∈ S) (x : Nat) : Alters S b (b'.put f x i j k) := h.setReg hf _

theorem flag (h : Alters S b b') (hf : f.at i j k ∈ S) (x : Bool) : Alters S b (b'.flag f x i j k) := h.put hf _

theorem evt (h : Alters S b b') (hf : f.at i j ∈ S) : Alters S b (b'.evt f i j) := (h.put hf 1).keep rfl rfl rfl rfl

end Fields

theorem put2 (h : Alters S b b') {lo hi : Fld} {i j : Nat} (hl : lo.at i j ∈ S) (hh : hi.at i j ∈ S) (x : Nat) :
    Alters S b (b'.put2 lo hi x i j) :=
  (h.put hl _).put hh _

theorem record (h : Alters S b b') (code sev p0 p1 p2 p3 inst : Nat) :
    Alters S b (b'.record code sev p0 p1 p2 p3 inst) := h.keep rfl rfl rfl rfl

theorem resp (h : Alters S b b') (r : Resp) : Alters S b { b' with resp := r } := h.keep rfl rfl rfl rfl

/-- A field of a register that is not altered reads as before. -/
theorem get (h : Alters S b b') {f : Fld} {i j k : Nat} (hf : f.at i j k ∉ S) : b'.get f i j k = b.get f i j k := by
  simp [Block.get, h.reg _ hf]

theorem on (h : Alters S b b') {f : Fld} {i j k : Nat} (hf : f.at i j k ∉ S) : b'.on f i j k = b.on f i j k := by
  simp [Block.on, h.get hf]

theorem geti (h : Alters S b b') {f : Fld} {i j k : Nat} (hf : f.at i j k ∉ S) : b'.geti f i j k = b.geti f i j k := by
  simp [Block.geti, h.get hf]

theorem get2 (h : Alters S b b') {lo hi : Fld} {i j : Nat} (hl : lo.at i j ∉ S) (hh : hi.at i j ∉ S) :
    b'.get2 lo hi i j = b.get2 lo hi i j := by simp [Block.get2, h.get hl, h.get hh]

end Block.Alters

end Sys2Proof.Machine
end

section
/-! The commands that write a register of the TIM window: each is the register's trigger, on the blocks as the write leaves
them. -/

namespace Sys2Proof.Machine

open Sys2Proof

/-! ## The word as last written -/

/-- A fold over entries that the step skips changes nothing. -/
theorem foldl_skip {α β : Type} (g : β → α → β) (l : List α) (v : β) (h : ∀ q ∈ l, ∀ w, g w q = w) :
    l.foldl g v = v := by
  induction l generalizing v with
  | nil => rfl
  | cons q t ih =>
    rw [List.foldl_cons, h q (by simp)]
    exact ih v fun x hx => h x (List.mem_cons_of_mem _ hx)

/-- With no write to its window waiting, a register is as last written. -/
theorem lastWritten_calm {s : State} {w p : Nat} (hc : Calm s w) (hp : p / 0x10000 = w) : lastWritten s.blk p = s.blk.reg p := by
  obtain ⟨hL, hF, hJ⟩ := hc
  have hne : ∀ {a : Nat}, a / 0x10000 ≠ w → a ≠ p := fun h e => h (e ▸ hp)
  unfold lastWritten Block.written
  rw [foldl_skip _ s.blk.pair.journal _ fun e he v => if_neg (hne (hJ e he))]
  refine foldl_skip _ _ _ fun q hq v => if_neg (hne ?_)
  rcases List.mem_append.1 hq with hq | hq
  · exact hL q hq
  · exact hF q hq

/-- The RW fields of a register with no write to its window waiting. -/
theorem rwWord_found {s : State} (dt : Nat) {w p : Nat} (hc : Calm s w) (hp : p / 0x10000 = w) {r : RegRow} {ix : List Nat}
    (hr : regAt p = some (r, ix)) : rwWord (s.found dt) p = s.blk.reg p &&& BitVec.ofNat 32 r.rw := by
  unfold rwWord
  rw [hr]
  exact congrArg (· &&& _) (lastWritten_calm hc hp)

/-! ## The register's trigger -/

/-- What a row of TIM must be for the write of a multi-word field's highest word to be its trigger on the whole field. -/
structure RegRow.TriggersHigh (r : RegRow) (n k : Nat) : Prop where
  multi : r.multi = .high n k
  act : r.act ≠ .plain
  field : k &&& r.l ≠ 0
  w1c : r.w1c = 0
  f : r.f = 0
  s : r.s = 0
  o : r.o = 0
  writable : BitVec.ofNat 32 (r.rw ||| r.wo) ≠ 0
  window : r.addr / 0x10000 = 4

/-- The words of a multi-word field leave staging as the field takes effect (R21). -/
def Block.unstaged (b : Block) (lows : List (Nat × Word)) : Block :=
  { b with stage := b.stage.filter fun q => !lows.any fun l => l.1 = q.1 }

section High

variable {r : RegRow} {n k : Nat} (ht : r.TriggersHigh n k)
include ht

theorem RegRow.TriggersHigh.addr_ne {x : Nat} (h : x / 0x10000 ≠ 4) : r.addr ≠ x := fun e => h (e ▸ ht.window)

/-- Nothing locks the fields of such a row. -/
theorem RegRow.TriggersHigh.lockedBits (b : Block) (ix : List Nat) : lockedBits b r ix = 0 := by
  have h1 := ht.addr_ne (x := Rg.DSK_KMAP.addr) (by decide)
  have h2 := ht.addr_ne (x := Rg.DSK_BL.addr) (by decide)
  simp [Machine.lockedBits, h1, h2, ht.s, ht.o]

/-- No value written to such a row is refused. -/
theorem RegRow.TriggersHigh.fieldRules (ix : List Nat) (a : Nat) (v : Word) (b : Block) : fieldRules r ix a v b = (v, b) := by
  have h1 := ht.addr_ne (x := F.DEC_CTX_CFG_ENTRY.addr) (by decide)
  have h2 := ht.addr_ne (x := F.MEM_CFG_DENSITY.addr) (by decide)
  have h3 := ht.addr_ne (x := F.FET_HEAD_DIM_LEVEL.addr) (by decide)
  have h4 := ht.addr_ne (x := F.CRU_M_CTL_INPUT.addr) (by decide)
  simp [Machine.fieldRules, h1, h2, h3, h4]

theorem RegRow.TriggersHigh.writeIgnored (v : Word) : writeIgnored r v = false := by
  have h1 := ht.addr_ne (x := F.ENC_S_QP_QI.addr) (by decide)
  have h2 := ht.addr_ne (x := F.PAIR_TOKEN_WAIT_PREF.addr) (by decide)
  simp [Machine.writeIgnored, h1, h2]

/-- A write of such a row is its word, with the lower words of the field. -/
theorem regWrite_high (c : Clk) (m : Mem) (cls : Nat) {p : Nat} (v : Word) (mr : Option (Byte × Bool)) (b : Block)
    {ix : List Nat} (hr : regAt p = some (r, ix)) (hp : p / 0x10000 = 4) :
    regWrite c m cls p v mr b = writeWord c m cls r ix p (lowWords b r p) v mr
      (b.unstaged (lowWords b r p)) := by
  have h6 : decide (p / 0x10000 = 6) = false := by simp [hp]
  have hclear : clearBits r p v b = b := by simp [clearBits, ht.w1c]
  have hdef : decide (r.addr = F.ETH_DEF_ACTION.addr) = false := decide_eq_false (ht.addr_ne (by decide))
  have hx : ∀ x : Word, decide (x &&& 0#32 ≠ 0) = false := fun x => by simp
  have hlock : ∀ x : Word, Machine.lockedBits b r ix &&& x = 0#32 := fun x => by simp [ht.lockedBits]
  have hheld : ¬((0#32 : Word).toNat &&& fieldMask r ≠ 0) := by simp
  unfold regWrite
  simp only [h6, Bool.false_and, Bool.false_eq_true, if_false, hr, hclear, if_neg ht.writable, ht.writeIgnored, hdef,
    ht.fieldRules, hlock, ht.multi, merge_zero, hx, if_neg hheld, decide_eq_false hheld, Bool.or_self]
  rfl

/-- The word of such a row is its trigger, once no write waits in TIM. -/
theorem writeWord_high (c : Clk) (m : Mem) (cls : Nat) {p : Nat} (lows : List (Nat × Word)) (v : Word)
    (mr : Option (Byte × Bool)) (b : Block) (ix : List Nat) (hp : p / 0x10000 = 4) (hc : ∀ q ∈ b.pendL, q.addr / 0x10000 ≠ 4) :
    writeWord c m cls r ix p lows v mr b =
      actWrite c m cls r ix p lows (BitVec.ofNat 32 r.l) v mr (b.setReg p (b.reg p)) := by
  have hgov : governor b p = none := by simp [governor, hp]
  have hpanel : isPanelField p = false := by
    simp only [isPanelField, Bool.and_eq_false_iff, decide_eq_false_iff_not]
    omega
  have hfield : fieldMask r &&& r.l ≠ 0 := by simpa [fieldMask, ht.multi] using ht.field
  have hflush : flushFor c m p (b.setReg p (b.reg p)) = b.setReg p (b.reg p) := by
    simp only [flushFor, hpanel, Bool.false_eq_true, if_false, hp]
    exact takeWindow_calm _ _ _ _ (by decide) hc
  have hact : (decide (r.act = .plain) || (none : Option Nat).isSome || panelHolds (b.setReg p (b.reg p)) p) = false := by
    simp [ht.act, panelHolds, hpanel]
  have hfield0 : ¬(fieldMask r &&& 0 ≠ 0) := by simp
  have hst : BitVec.ofNat 32 0 &&& storeMask r = 0#32 := by simp
  unfold writeWord
  simp only [ht.s, ht.o, Nat.or_zero, if_neg hfield0, hst, Block.store32, merge_zero, if_pos ht.f, hgov, ite_self, if_pos hfield,
    hact, Bool.false_eq_true, if_false, hflush]

end High

/-! ## The commands -/

/-- The blocks at which a register's trigger acts: its port is open, its word at `p` and the lower words `lows` of its field
are in effect, under the mask of the bits that it stores. -/
def State.stored (s : State) (dt : Nat) (cls : Cls) (p : Nat) (lows : List (Nat × Word)) (mask x : Word) : Block :=
  let b := s.opened dt cls.val
  (((b.unstaged lows).setReg p (b.reg p)).storeLows lows).store32 p mask x

/-- The command's answer once the blocks are as `b`. -/
def State.answers (s : State) (dt : Nat) (b : Block) : State := s.ends dt { b with resp := .done }

section Commands

variable {s : State} {dt : Nat} {cls : Cls} {r : RegRow} {ix : List Nat}

/-- A write of one field of TIM, let through, is a write of its register with the field changed. -/
theorem writeField_tim {f : Fld} (x i j : Nat) (hw : Writable s cls (f.at i j)) (hc : Calm s 4)
    (hp : f.at i j / 0x10000 = 4) (h4 : f.at i j % 4 = 0) (hr : regAt (f.at i j) = some (r, ix)) :
    s.writeField dt cls f x i j = .next (s.answers dt (regWrite (s.pass dt).clk s.mem cls (f.at i j)
      (f.into (s.blk.reg (f.at i j) &&& BitVec.ofNat 32 r.rw) x) none (s.opened dt cls.val))) := by
  have ha : windowAssigned (f.at i j / 0x10000) = true := by rw [hp]; decide
  rw [s.writeField_open dt cls f x i j hw (by omega) ha h4, State.act_eq_ends, rwWord_found dt hc hp hr]
  rfl

/-- A write of a word of TIM, let through. -/
theorem writeAt_tim {p : Nat} (v : Word) (hw : Writable s cls p) (hp : p / 0x10000 = 4) (h4 : p % 4 = 0) :
    s.run dt (fun c m b => writeAt c m cls p v b) =
      .next (s.answers dt (regWrite (s.pass dt).clk s.mem cls p v none (s.opened dt cls.val))) := by
  have ha : windowAssigned (p / 0x10000) = true := by rw [hp]; decide
  rw [s.writeAt_open dt cls p (fun _ _ _ => v) hw (by omega) ha h4, State.act_eq_ends]
  rfl

theorem Block.unstaged_nil (b : Block) : b.unstaged [] = b := by simp [Block.unstaged]

/-- The write of a one-word register of TIM is its trigger. -/
theorem regWrite_opened {p : Nat} (v : Word) (hc : Calm s 4) (hp : p / 0x10000 = 4) (hr : regAt p = some (r, ix))
    (ht : r.triggers = true) :
    regWrite (s.pass dt).clk s.mem cls p v none (s.opened dt cls.val) =
      actWrite (s.pass dt).clk s.mem cls r ix p [] (BitVec.ofNat 32 r.l) v none
        (((s.opened dt cls.val).unstaged []).setReg p ((s.opened dt cls.val).reg p)) := by
  obtain ⟨hL, -, -⟩ := hc
  rw [Block.unstaged_nil]
  have hgov : governor (s.opened dt cls.val) p = none := by simp [governor, hp]
  have hpanel : isPanelField p = false := by
    simp only [isPanelField, Bool.and_eq_false_iff, decide_eq_false_iff_not]
    omega
  exact regWrite_trigger _ _ _ _ _ _ _ r ix hr ht (by omega) (by omega) hpanel (.inr hgov) fun q hq => by
    rw [hp]
    exact hL q hq

/-- The words that the write of a field's highest word finds staged. -/
theorem lowWords_opened {n k p : Nat} (hm : r.multi = .high n k) (f : Nat → Word)
    (hs : ∀ i < n, s.blk.stage.lookup (p - 4 * (n - i)) = some (f i)) :
    lowWords (s.opened dt cls.val) r p = (List.range n).map fun i => (p - 4 * (n - i), f i) := by
  unfold lowWords
  rw [hm]
  refine List.map_congr_left fun i hi => ?_
  have hst : (s.opened dt cls.val).stage.lookup (p - 4 * (n - i)) = some (f i) := hs i (List.mem_range.1 hi)
  dsimp only
  rw [hst]
  rfl

/-- The write of a multi-word field's highest word is its trigger on the words staged. -/
theorem regWrite_opened_high {n k p : Nat} (v : Word) (hc : Calm s 4) (hp : p / 0x10000 = 4) (hr : regAt p = some (r, ix))
    (ht : r.TriggersHigh n k) {lows : List (Nat × Word)} (hl : lowWords (s.opened dt cls.val) r p = lows) :
    regWrite (s.pass dt).clk s.mem cls p v none (s.opened dt cls.val) =
      actWrite (s.pass dt).clk s.mem cls r ix p lows (BitVec.ofNat 32 r.l) v none
        (((s.opened dt cls.val).unstaged lows).setReg p ((s.opened dt cls.val).reg p)) := by
  obtain ⟨hL, -, -⟩ := hc
  rw [regWrite_high ht _ _ _ _ _ _ hr hp, hl]
  exact writeWord_high ht _ _ _ _ _ _ _ _ hp hL

end Commands

/-! ## The blocks at which a trigger acts -/

/-- A block that differs from the state's in the registers of `S` and in nothing that a command of TIM looks at besides. -/
structure State.Finds (s : State) (S : Set Nat) (b : Block) : Prop where
  alters : Block.Alters S s.blk b
  newPtp : b.newPtp = s.blk.newPtp
  tim : b.tim = s.blk.tim
  evq : b.evq = s.blk.evq
  fets : b.fets = s.blk.fets

theorem State.opened_finds (s : State) (dt cls : Nat) : s.Finds {F.MTX_STAT_GATED.addr} (s.opened dt cls) :=
  ⟨⟨rfl, rfl, rfl, (s.opened_portsOnly dt cls).reg⟩, rfl, rfl, rfl, rfl⟩

theorem State.Finds.setReg {s : State} {S : Set Nat} {b : Block} (h : s.Finds S b) {a : Nat} (ha : a ∈ S) (v : Word) :
    s.Finds S (b.setReg a v) := ⟨h.alters.setReg ha v, h.newPtp, h.tim, h.evq, h.fets⟩

theorem State.Finds.storeLows {s : State} {S : Set Nat} {l : List (Nat × Word)} {b : Block} (h : s.Finds S b)
    (hl : ∀ q ∈ l, q.1 ∈ S) : s.Finds S (b.storeLows l) := by
  induction l generalizing b with
  | nil => exact h
  | cons q t ih => exact ih (h.setReg (hl q (by simp)) q.2) fun x hx => hl x (List.mem_cons_of_mem _ hx)

section Stored

variable (s : State) (dt : Nat) (cls : Cls) (p : Nat) (lows : List (Nat × Word)) (mask x : Word)

/-- The registers that the write of a field of TIM reaches: its words and the status of the matrix ports. -/
def writeReach (p : Nat) (lows : List (Nat × Word)) : Set Nat :=
  {a | a = F.MTX_STAT_GATED.addr ∨ a = p ∨ ∃ q ∈ lows, q.1 = a}

theorem State.stored_finds : s.Finds (writeReach p lows) (s.stored dt cls p lows mask x) := by
  have hp : p ∈ writeReach p lows := .inr (.inl rfl)
  have hopen : s.Finds (writeReach p lows) (s.opened dt cls.val) := by
    obtain ⟨ha, hn, ht, he, hf⟩ := s.opened_finds dt cls.val
    exact ⟨ha.mono fun a h => .inl h, hn, ht, he, hf⟩
  have hun : s.Finds (writeReach p lows) ((s.opened dt cls.val).unstaged lows) :=
    ⟨hopen.alters.keep rfl rfl rfl rfl, hopen.newPtp, hopen.tim, hopen.evq, hopen.fets⟩
  exact State.Finds.setReg (State.Finds.storeLows (hun.setReg hp _) fun q hq => .inr (.inr ⟨q, hq, rfl⟩)) hp _

theorem Block.storeLows_reg_of_ne {l : List (Nat × Word)} (b : Block) {a : Nat} (h : ∀ q ∈ l, q.1 ≠ a) :
    (b.storeLows l).reg a = b.reg a := by
  induction l generalizing b with
  | nil => rfl
  | cons q t ih =>
    exact (ih (b.setReg q.1 q.2) fun x hx => h x (List.mem_cons_of_mem _ hx)).trans (Block.reg_setReg_of_ne _ _ (h q (by simp)))

theorem Block.storeLows_reg {l : List (Nat × Word)} (hn : (l.map Prod.fst).Nodup) (b : Block) {q : Nat × Word} (hq : q ∈ l) :
    (b.storeLows l).reg q.1 = q.2 := by
  induction l generalizing b with
  | nil => simp at hq
  | cons x t ih =>
    obtain ⟨hx, ht⟩ := List.nodup_cons.1 hn
    rcases List.mem_cons.1 hq with rfl | hq
    · exact (Block.storeLows_reg_of_ne _ fun y hy e => hx (List.mem_map.2 ⟨y, hy, e⟩)).trans (Block.reg_setReg_same _ _ _)
    · exact ih ht (b.setReg x.1 x.2) hq

/-- A lower word of the field holds what was staged for it. -/
theorem State.stored_reg_low (hn : (lows.map Prod.fst).Nodup) {a : Nat} {v : Word} (hq : (a, v) ∈ lows) (hp : a ≠ p) :
    (s.stored dt cls p lows mask x).reg a = v :=
  (Block.reg_setReg_of_ne _ _ (Ne.symm hp)).trans (Block.storeLows_reg hn _ hq)

variable {p} (hp : p ≠ F.MTX_STAT_GATED.addr)
include hp

/-- The word written holds the written bits and keeps the others. -/
theorem State.stored_reg (hl : ∀ q ∈ lows, q.1 ≠ p) :
    (s.stored dt cls p lows mask x).reg p = merge (s.blk.reg p) mask x := by
  have hopen : (s.opened dt cls.val).reg p = s.blk.reg p := portOpen_reg _ _ _ _ hp
  have hlows : ((((s.opened dt cls.val).unstaged lows).setReg p ((s.opened dt cls.val).reg p)).storeLows lows).reg p =
      s.blk.reg p := by rw [Block.storeLows_reg_of_ne _ hl, Block.reg_setReg_same, hopen]
  refine (Block.reg_setReg_same _ _ _).trans ?_
  rw [hlows]

/-- With no bit written and no lower word, nothing but the matrix port changes. -/
theorem State.stored_nothing : s.Finds {F.MTX_STAT_GATED.addr} (s.stored dt cls p [] 0 x) := by
  obtain ⟨⟨hs, hc, ho, hr⟩, hn, ht, he, hf⟩ := s.stored_finds dt cls p [] 0 x
  refine ⟨⟨hs, hc, ho, fun a ha => ?_⟩, hn, ht, he, hf⟩
  by_cases hap : a = p
  · subst hap
    exact (s.stored_reg dt cls [] 0 x hp (by simp)).trans (merge_zero _ _)
  · exact hr a (by simp_all [writeReach])

end Stored

end Sys2Proof.Machine
end

section
/-! The servo and the clock's snapshot, step and set: what each operation alters, and the commands as their operations. -/

namespace Sys2Proof.Machine

open Sys2Proof

/-! ## The commands as their operations -/

section Commands

variable {s : State} (dt : Nat) (cls : Cls)

theorem exec_snapshotTake (hw : Writable s cls F.TIM_SNAP_TAKE.addr) (hc : Calm s 4) :
    exec (.snapshotTake dt cls) s =
      .next (s.answers dt (snapshot (s.pass dt).clk (s.stored dt cls F.TIM_SNAP_TAKE.addr [] 0 1))) := by
  have hr : regAt (F.TIM_SNAP_TAKE.at 0 0) = some (Rg.TIM_SNAP, []) := by decide
  have hx : F.TIM_SNAP_TAKE.into (s.blk.reg (F.TIM_SNAP_TAKE.at 0 0) &&& BitVec.ofNat 32 Rg.TIM_SNAP.rw) 1 = 1 := by
    rw [show BitVec.ofNat 32 Rg.TIM_SNAP.rw = 0#32 from rfl, BitVec.and_zero]
    decide
  refine (writeField_tim (f := F.TIM_SNAP_TAKE) 1 0 0 hw hc (by decide) (by decide) hr).trans ?_
  rw [hx, regWrite_opened _ hc (by decide) hr (by decide)]
  rfl

theorem exec_masterChange (hw : Writable s cls F.TIM_MASTER_NEW.addr) (hc : Calm s 4) :
    exec (.masterChange dt cls) s =
      .next (s.answers dt (masterChange (s.pass dt).clk (s.stored dt cls F.TIM_MASTER_NEW.addr [] 0 1))) := by
  have hr : regAt (F.TIM_MASTER_NEW.at 0 0) = some (Rg.TIM_MASTER, []) := by decide
  have hx : F.TIM_MASTER_NEW.into (s.blk.reg (F.TIM_MASTER_NEW.at 0 0) &&& BitVec.ofNat 32 Rg.TIM_MASTER.rw) 1 = 1 := by
    rw [show BitVec.ofNat 32 Rg.TIM_MASTER.rw = 0#32 from rfl, BitVec.and_zero]
    decide
  refine (writeField_tim (f := F.TIM_MASTER_NEW) 1 0 0 hw hc (by decide) (by decide) hr).trans ?_
  rw [hx, regWrite_opened _ hc (by decide) hr (by decide)]
  rfl

theorem regWrite_timCtl (v : Word) (hc : Calm s 4) :
    regWrite (s.pass dt).clk s.mem cls F.TIM_CTL_SRV_EN.addr v none (s.opened dt cls.val) =
      servoCtl (s.stored dt cls F.TIM_CTL_SRV_EN.addr [] 3 v) :=
  (regWrite_opened (r := Rg.TIM_CTL) (ix := []) v hc (by decide) (by decide) (by decide)).trans rfl

theorem exec_servoEnableWrite (en : Bool) (hw : Writable s cls F.TIM_CTL_SRV_EN.addr) (hc : Calm s 4) :
    exec (.servoEnableWrite dt cls en) s = .next (s.answers dt (servoCtl (s.stored dt cls F.TIM_CTL_SRV_EN.addr [] 3
      (F.TIM_CTL_SRV_EN.into (s.blk.reg F.TIM_CTL_SRV_EN.addr &&& 3) (b2n en))))) := by
  rw [← regWrite_timCtl dt cls _ hc]
  exact writeField_tim (f := F.TIM_CTL_SRV_EN) (r := Rg.TIM_CTL) (ix := []) _ 0 0 hw hc (by decide) (by decide) (by decide)

theorem exec_servoHoldWrite (hold : Bool) (hw : Writable s cls F.TIM_CTL_SRV_EN.addr) (hc : Calm s 4) :
    exec (.servoHoldWrite dt cls hold) s = .next (s.answers dt (servoCtl (s.stored dt cls F.TIM_CTL_SRV_EN.addr [] 3
      (F.TIM_CTL_HOLD.into (s.blk.reg F.TIM_CTL_SRV_EN.addr &&& 3) (b2n hold))))) := by
  rw [← regWrite_timCtl dt cls _ hc]
  exact writeField_tim (f := F.TIM_CTL_HOLD) (r := Rg.TIM_CTL) (ix := []) _ 0 0 hw hc (by decide) (by decide) (by decide)

theorem exec_ptpSet (secHi : Word) {ns lo : Word} (hw : Writable s cls F.TIM_SET_SEC_HI_SEC_HI.addr) (hc : Calm s 4)
    (hns : s.blk.stage.lookup F.TIM_SET_NS_NS.addr = some ns) (hlo : s.blk.stage.lookup F.TIM_SET_SEC_LO_SEC_LO.addr = some lo) :
    exec (.ptpSet dt cls secHi) s = .next (s.answers dt (ptpSet (s.pass dt).clk
      (s.stored dt cls F.TIM_SET_SEC_HI_SEC_HI.addr [(F.TIM_SET_NS_NS.addr, ns), (F.TIM_SET_SEC_LO_SEC_LO.addr, lo)] 0xFFFF
        (F.TIM_SET_SEC_HI_SEC_HI.into (s.blk.reg F.TIM_SET_SEC_HI_SEC_HI.addr &&& 0xFFFF) secHi.toNat)))) := by
  have hr : regAt (F.TIM_SET_SEC_HI_SEC_HI.at 0 0) = some (Rg.TIM_SET_SEC_HI, []) := by decide
  have ht : Rg.TIM_SET_SEC_HI.TriggersHigh 2 0xFFFF := by constructor <;> decide
  have hl : lowWords (s.opened dt cls.val) Rg.TIM_SET_SEC_HI (F.TIM_SET_SEC_HI_SEC_HI.at 0 0) =
      [(F.TIM_SET_NS_NS.addr, ns), (F.TIM_SET_SEC_LO_SEC_LO.addr, lo)] := by
    refine lowWords_opened (n := 2) (k := 0xFFFF) rfl (fun i => if i = 0 then ns else lo) fun i hi => ?_
    interval_cases i
    · exact hns
    · exact hlo
  refine (writeField_tim (f := F.TIM_SET_SEC_HI_SEC_HI) _ 0 0 hw hc (by decide) (by decide) hr).trans ?_
  rw [regWrite_opened_high _ hc (by decide) hr ht hl]
  rfl

/-- The offset that an update finds, its low word staged (R56). -/
theorem stored_ofs (s : State) (dt : Nat) (cls : Cls) (lo hi : Word) :
    (s.stored dt cls F.TIM_SRV_OFS_HI_OFS_HI.addr [(F.TIM_SRV_OFS_LO_OFS_LO.addr, lo)] 0xFFFFFFFF hi).get2
      F.TIM_SRV_OFS_LO_OFS_LO F.TIM_SRV_OFS_HI_OFS_HI = lo.toNat + 2 ^ 32 * hi.toNat := by
  have hlo := s.stored_reg_low dt cls F.TIM_SRV_OFS_HI_OFS_HI.addr [(F.TIM_SRV_OFS_LO_OFS_LO.addr, lo)] 0xFFFFFFFF hi
    (by simp) (List.mem_singleton.2 rfl) (by decide)
  have hhi := s.stored_reg dt cls [(F.TIM_SRV_OFS_LO_OFS_LO.addr, lo)] 0xFFFFFFFF hi (p := F.TIM_SRV_OFS_HI_OFS_HI.addr)
    (by decide) (by simp [F.TIM_SRV_OFS_LO_OFS_LO, F.TIM_SRV_OFS_HI_OFS_HI])
  rw [show (0xFFFFFFFF : Word) = BitVec.allOnes 32 from rfl, merge_allOnes] at hhi
  rw [Block.get2, Block.get_word _ rfl rfl, Block.get_word _ rfl rfl]
  exact congrArg₂ (fun v w : Word => v.toNat + 2 ^ 32 * w.toNat) hlo hhi

theorem exec_servoUpdate (hi : Word) {lo : Word} (hw : Writable s cls F.TIM_SRV_OFS_HI_OFS_HI.addr) (hc : Calm s 4)
    (hlo : s.blk.stage.lookup F.TIM_SRV_OFS_LO_OFS_LO.addr = some lo) :
    exec (.servoUpdate dt cls hi) s =
      .next (s.answers dt (servoUpdate (s.pass dt).clk (toSigned 64 (lo.toNat + 2 ^ 32 * hi.toNat))
        (s.stored dt cls F.TIM_SRV_OFS_HI_OFS_HI.addr [(F.TIM_SRV_OFS_LO_OFS_LO.addr, lo)] 0xFFFFFFFF hi))) := by
  have hr : regAt (F.TIM_SRV_OFS_HI_OFS_HI.at 0 0) = some (Rg.TIM_SRV_OFS_HI, []) := by decide
  have ht : Rg.TIM_SRV_OFS_HI.TriggersHigh 1 0xFFFFFFFF := by constructor <;> decide
  have hl : lowWords (s.opened dt cls.val) Rg.TIM_SRV_OFS_HI (F.TIM_SRV_OFS_HI_OFS_HI.at 0 0) =
      [(F.TIM_SRV_OFS_LO_OFS_LO.addr, lo)] := by
    refine lowWords_opened (n := 1) (k := 0xFFFFFFFF) rfl (fun _ => lo) fun i hi => ?_
    interval_cases i
    exact hlo
  have hx : F.TIM_SRV_OFS_HI_OFS_HI.into (s.blk.reg (F.TIM_SRV_OFS_HI_OFS_HI.at 0 0) &&& BitVec.ofNat 32 Rg.TIM_SRV_OFS_HI.rw)
      hi.toNat = hi := Fld.into_word rfl rfl _ _
  refine (writeField_tim (f := F.TIM_SRV_OFS_HI_OFS_HI) _ 0 0 hw hc (by decide) (by decide) hr).trans ?_
  rw [hx, regWrite_opened_high _ hc (by decide) hr ht hl, ← stored_ofs s dt cls lo hi]
  rfl

end Commands

end Sys2Proof.Machine
end

section
/-! What the operations of the clocks and the servo do (R47, R48, R57-R60), said once for each. -/

namespace Sys2Proof.Machine

open Sys2Proof

/-! ## The state in which a command of TIM answers -/

section Answers

variable (s : State) (dt : Nat) (b : Block)

@[simp] theorem State.answers_reg (a : Nat) : (s.answers dt b).blk.reg a = b.reg a := s.ends_reg dt _ a
@[simp] theorem State.answers_get (f : Fld) (i j k : Nat) : (s.answers dt b).blk.get f i j k = b.get f i j k :=
  s.ends_get dt _ f i j k
@[simp] theorem State.answers_on (f : Fld) (i j k : Nat) : (s.answers dt b).blk.on f i j k = b.on f i j k :=
  s.ends_on dt _ f i j k
@[simp] theorem State.answers_get2 (f g : Fld) (i j : Nat) : (s.answers dt b).blk.get2 f g i j = b.get2 f g i j :=
  s.ends_get2 dt _ f g i j
@[simp] theorem State.answers_geti (f : Fld) (i j k : Nat) : (s.answers dt b).blk.geti f i j k = b.geti f i j k :=
  congrArg (toSigned f.width) (s.answers_get dt b f i j k)
@[simp] theorem State.answers_evq : (s.answers dt b).blk.evq = b.evq := s.ends_evq dt _
@[simp] theorem State.answers_tim : (s.answers dt b).blk.tim = b.tim := by
  rw [State.answers, State.ends_blk]
@[simp] theorem State.answers_ras (h : Nat) : (s.answers dt b).blk.ras h = b.ras h := by
  rw [Block.ras, State.answers_tim, Block.ras]

variable {s dt b} {S : Set Nat}

theorem State.answers_mem (hq : s.blk.quiet = true) (h : Block.Alters S s.blk b) : (s.answers dt b).mem = s.mem := by
  obtain ⟨hs, -⟩ := (Block.quiet_iff _).1 hq
  exact (s.ends_mem dt _).trans (by rw [show ({ b with resp := .done } : Block).stores = _ from h.stores, hs, Mem.puts_nil])

theorem State.answers_clk (hq : s.blk.quiet = true) (h : Block.Alters S s.blk b) (hn : b.newPtp = s.blk.newPtp) :
    (s.answers dt b).clk = (s.pass dt).clk := by
  obtain ⟨-, hp, hc, -⟩ := (Block.quiet_iff _).1 hq
  exact s.ends_clk dt _ (hn.trans hp) (h.clkReset.trans hc)

/-- A command that sets the PTP clock. -/
theorem State.answers_clk_set (hq : s.blk.quiet = true) (h : Block.Alters S s.blk b) {p : Nat} (hn : b.newPtp = some p) :
    (s.answers dt b).clk = (s.pass dt).clk.ofPtp p := by
  obtain ⟨-, -, hc, -⟩ := (Block.quiet_iff _).1 hq
  have hr : b.clkReset = false := h.clkReset.trans hc
  simp [State.answers, State.ends, State.act, hn, hr]

end Answers

/-! ## The servo's moves from state to state (R58) -/

/-- The registers in which the servo's state and its flags stand. -/
def servoRegs : Set Nat := {F.TIM_STAT_SRV.addr, F.TIM_EVT_STEP.addr}

/-- A move of the servo: it alters the state and the flags alone, and loses no step. -/
structure Block.Moves (b b' : Block) : Prop where
  alters : Block.Alters servoRegs b b'
  newPtp : b'.newPtp = b.newPtp
  stepGen : b'.get F.TIM_STAT_STEP_GEN = b.get F.TIM_STAT_STEP_GEN
  step : b.on F.TIM_EVT_STEP = true → b'.on F.TIM_EVT_STEP = true

namespace Block.Moves

variable {b b' b'' : Block}

theorem refl (b : Block) : Moves b b := ⟨.refl _ _, rfl, rfl, id⟩

theorem trans (h : Moves b b') (h' : Moves b' b'') : Moves b b'' :=
  ⟨h.alters.trans h'.alters, h'.newPtp.trans h.newPtp, h'.stepGen.trans h.stepGen, fun hb => h'.step (h.step hb)⟩

theorem ite {p : Prop} [Decidable p] (h : Moves b b') (h' : Moves b b'') : Moves b (if p then b' else b'') := by
  split
  · exact h
  · exact h'

/-- An update that is no register's. -/
theorem keep (h : Moves b b') (hr : b''.regs = b'.regs) (hs : b''.stores = b'.stores) (hc : b''.clkReset = b'.clkReset)
    (ho : b''.out = b'.out) (hn : b''.newPtp = b'.newPtp) : Moves b b'' :=
  h.trans ⟨(Alters.refl _ _).keep hr hs hc ho, hn, by simp [Block.get, Block.reg, hr],
    by simp [Block.on, Block.get, Block.reg, hr]⟩

theorem evt (h : Moves b b') {f : Fld} (ha : f.at 0 0 = F.TIM_EVT_STEP.addr) (hf : f.fits) (hw : f.width = 1) :
    Moves b (b'.evt f) := by
  refine h.trans ⟨(Alters.refl _ _).evt (.inr ha), rfl, ?_, Block.on_evt_of_on hf hw rfl⟩
  rw [Block.get_evt]
  exact Block.get_put_other _ _ _ _ _ _ _ _ _ _ (by rw [ha]; decide)

theorem srv (h : Moves b b') (x : Nat) : Moves b (b'.put F.TIM_STAT_SRV x) :=
  h.trans ⟨(Alters.refl _ _).put (.inl rfl) x, rfl,
    Block.get_put_apart _ _ _ (by unfold Fld.fits; decide) (by unfold Fld.apart; decide) ..,
    fun hb => by
      unfold Block.on at hb ⊢
      rwa [Block.get_put_other _ _ _ _ _ _ _ _ _ _ (by decide)]⟩

theorem record (h : Moves b b') (code sev p0 p1 p2 p3 : Nat) : Moves b (b'.record code sev p0 p1 p2 p3) :=
  h.keep rfl rfl rfl rfl rfl

end Block.Moves

section Servo

variable (c : Clk) (o : Nat) (b : Block)

theorem leaveHoldover_moves : Block.Moves b (leaveHoldover o b) := by
  unfold leaveHoldover
  exact ((((Block.Moves.refl b).evt rfl (by unfold Fld.fits; decide) rfl)).record ..).ite (.refl b)

theorem leaveLocked_moves : Block.Moves b (leaveLocked b) := by
  unfold leaveLocked
  exact ((Block.Moves.refl b).evt rfl (by unfold Fld.fits; decide) rfl).ite (.refl b)

theorem enterAcquire_moves : Block.Moves b (enterAcquire c o b) :=
  ((((leaveHoldover_moves o b).trans (leaveLocked_moves _)).srv _)).keep rfl rfl rfl rfl rfl

theorem enterLocked_moves : Block.Moves b (enterLocked b) :=
  (((Block.Moves.refl b).srv _).evt rfl (by unfold Fld.fits; decide) rfl).record ..

theorem enterHoldover_moves : Block.Moves b (enterHoldover b) := by
  unfold enterHoldover
  exact .ite (.refl b) ((((leaveLocked_moves b).srv _).evt rfl (by unfold Fld.fits; decide) rfl).record ..)

/-- FREE is entered as any state is, a holdover that ends there taking a free value for its record. -/
theorem enterFree_cases : ∃ o b', Block.Moves b b' ∧
    enterFree b = (leaveLocked (leaveHoldover o b')).put F.TIM_STAT_SRV srvFree := by
  by_cases h : b.get F.TIM_STAT_SRV = srvHoldover
  · exact ⟨b.fresh.1.toNat, b.fresh.2, (Block.Moves.refl b).keep rfl rfl rfl rfl rfl, by rw [enterFree, if_pos h]⟩
  · exact ⟨(0 : Word).toNat, b, .refl b, by rw [enterFree, if_neg h]⟩

theorem enterFree_moves : Block.Moves b (enterFree b) := by
  obtain ⟨o, b', hb, he⟩ := enterFree_cases b
  rw [he]
  exact ((hb.trans (leaveHoldover_moves o b')).trans (leaveLocked_moves _)).srv _

/-! ### The state entered -/

theorem put_srv (x : Nat) (hx : x < 4) : (b.put F.TIM_STAT_SRV x).get F.TIM_STAT_SRV = x :=
  Block.get_put_self _ _ (by decide) hx _ _ _

theorem enterAcquire_srv : (enterAcquire c o b).get F.TIM_STAT_SRV = srvAcquire := put_srv _ _ (by decide)

theorem enterLocked_srv : (enterLocked b).get F.TIM_STAT_SRV = srvLocked :=
  (Block.get_put_other _ F.TIM_EVT_LOCK F.TIM_STAT_SRV _ _ _ _ _ _ _ (by decide)).trans (put_srv _ _ (by decide))

theorem enterHoldover_srv : (enterHoldover b).get F.TIM_STAT_SRV = srvHoldover := by
  unfold enterHoldover
  split
  · assumption
  · exact (Block.get_put_other _ F.TIM_EVT_HOLD_IN F.TIM_STAT_SRV _ _ _ _ _ _ _ (by decide)).trans (put_srv _ _ (by decide))

theorem enterFree_srv : (enterFree b).get F.TIM_STAT_SRV = srvFree := by
  obtain ⟨o, b', -, he⟩ := enterFree_cases b
  rw [he]
  exact put_srv _ _ (by decide)

/-! ### What a move leaves of the servo's own record, and what it records -/

theorem enterAcquire_good : (enterAcquire c o b).tim.good = 0 := rfl

/-- Only a holdover that ends is recorded at the entry of ACQUIRE. -/
theorem enterAcquire_evq (h : b.get F.TIM_STAT_SRV ≠ srvHoldover) : (enterAcquire c o b).evq = b.evq := by
  have hl : (leaveLocked b).evq = b.evq := by unfold leaveLocked; split <;> rfl
  rw [← hl]
  simp [enterAcquire, leaveHoldover, h]

/-- HOLDOVER is entered with its flag. -/
theorem enterHoldover_flag (h : b.get F.TIM_STAT_SRV ≠ srvHoldover) : (enterHoldover b).on F.TIM_EVT_HOLD_IN = true := by
  unfold enterHoldover
  rw [if_neg h]
  exact Block.on_evt _ (by unfold Fld.fits; decide) rfl 0 0

end Servo

/-! ## A step of the PTP clock (R44, R48, R81) -/

/-- What a step notes: it is counted, recorded and kept as the last step. -/
def stepNoted (c n : Clk) (b : Block) : Block :=
  let b := b.wrap F.TIM_STEP_CNT_CNT
  let b := b.put F.TIM_STAT_STEP_GEN (b.get F.TIM_STEP_CNT_CNT % 4)
  let b := b.put2 F.TIM_LAST_STEP_LO_STEP_LO F.TIM_LAST_STEP_HI_STEP_HI
    (ofSigned 64 (((n.sec * 1000000000 + n.ns : Nat) : Int) - ((c.sec * 1000000000 + c.ns : Nat) : Int)))
  (b.evt F.TIM_EVT_STEP).record 0x0401 4 c.sec c.ns n.sec n.ns

theorem ptpStep_eq (c : Clk) (p : Int) (b : Block) :
    ptpStep c p b = { stepNoted c (c.ofPtp p.toNat) b with newPtp := some p.toNat } := rfl

/-- The registers in which a step stands. -/
def stepRegs : Set Nat :=
  {F.TIM_STAT_SRV.addr, F.TIM_EVT_STEP.addr, F.TIM_STEP_CNT_CNT.addr, F.TIM_LAST_STEP_LO_STEP_LO.addr,
    F.TIM_LAST_STEP_HI_STEP_HI.addr}

section Step

variable (c n : Clk) (b : Block)

theorem stepNoted_alters : Block.Alters stepRegs b (stepNoted c n b) := by
  have hcnt : Block.Alters stepRegs b (b.wrap F.TIM_STEP_CNT_CNT) :=
    (Block.Alters.refl _ b).put (by simp [stepRegs, Fld.at, F.TIM_STEP_CNT_CNT]) _
  exact (((hcnt.put (by simp [stepRegs, Fld.at, F.TIM_STAT_STEP_GEN, F.TIM_STAT_SRV]) _).put2
    (by simp [stepRegs, Fld.at, F.TIM_LAST_STEP_LO_STEP_LO]) (by simp [stepRegs, Fld.at, F.TIM_LAST_STEP_HI_STEP_HI]) _).evt
    (by simp [stepRegs, Fld.at, F.TIM_EVT_STEP])).record ..

/-- What the step keeps below its flag: the block with the count, the generation and the size noted. -/
theorem stepNoted_get {f : Fld} (hf : f.at 0 0 ≠ F.TIM_EVT_STEP.addr) (hlo : f.at 0 0 ≠ F.TIM_LAST_STEP_LO_STEP_LO.addr)
    (hhi : f.at 0 0 ≠ F.TIM_LAST_STEP_HI_STEP_HI.addr) :
    (stepNoted c n b).get f = ((b.wrap F.TIM_STEP_CNT_CNT).put F.TIM_STAT_STEP_GEN
      ((b.wrap F.TIM_STEP_CNT_CNT).get F.TIM_STEP_CNT_CNT % 4)).get f := by
  unfold stepNoted Block.put2
  dsimp only
  rw [Block.get_record, Block.get_evt, Block.get_put_other _ F.TIM_EVT_STEP f _ _ _ _ _ _ _ (Ne.symm hf),
    Block.get_put_other _ F.TIM_LAST_STEP_HI_STEP_HI f _ _ _ _ _ _ _ (Ne.symm hhi),
    Block.get_put_other _ F.TIM_LAST_STEP_LO_STEP_LO f _ _ _ _ _ _ _ (Ne.symm hlo)]

theorem stepNoted_count :
    (stepNoted c n b).get F.TIM_STEP_CNT_CNT = (b.get F.TIM_STEP_CNT_CNT + 1) % 2 ^ 32 := by
  rw [stepNoted_get c n b (by decide) (by decide) (by decide), Block.get_put_other _ _ _ _ _ _ _ _ _ _ (by decide),
    Block.wrap, Block.get_put_same _ _ (by unfold Fld.fits; decide)]
  simp only [F.TIM_STEP_CNT_CNT]

theorem stepNoted_gen : (stepNoted c n b).get F.TIM_STAT_STEP_GEN = (stepNoted c n b).get F.TIM_STEP_CNT_CNT % 4 := by
  rw [stepNoted_get c n b (by decide) (by decide) (by decide), stepNoted_get c n b (by decide) (by decide) (by decide),
    Block.get_put_other _ F.TIM_STAT_STEP_GEN F.TIM_STEP_CNT_CNT _ _ _ _ _ _ _ (by decide)]
  exact Block.get_put_self _ _ (by decide) (Nat.mod_lt _ (by decide)) _ _ _

theorem stepNoted_srv : (stepNoted c n b).get F.TIM_STAT_SRV = b.get F.TIM_STAT_SRV := by
  rw [stepNoted_get c n b (by decide) (by decide) (by decide),
    Block.get_put_apart _ _ _ (by unfold Fld.fits; decide) (by unfold Fld.apart; decide)]
  exact Block.get_put_other _ _ _ _ _ _ _ _ _ _ (by decide)

/-- The last step is the new time less the old, in whole ns, as 64 signed bits (log 75). -/
theorem stepNoted_last :
    ((stepNoted c n b).get2 F.TIM_LAST_STEP_LO_STEP_LO F.TIM_LAST_STEP_HI_STEP_HI : Int) =
      (((n.sec * 1000000000 + n.ns : Nat) : Int) - ((c.sec * 1000000000 + c.ns : Nat) : Int)) % 2 ^ 64 := by
  have hpos : ∀ d : Int, (ofSigned 64 d : Int) = d % 2 ^ 64 := fun d =>
    Int.toNat_of_nonneg (Int.emod_nonneg d (by decide))
  rw [← hpos]
  refine congrArg Int.ofNat ?_
  unfold stepNoted
  dsimp only
  rw [Block.get2, Block.get_record, Block.get_record, Block.get_evt, Block.get_evt,
    Block.get_put_other _ F.TIM_EVT_STEP _ _ _ _ _ _ _ _ (by decide),
    Block.get_put_other _ F.TIM_EVT_STEP _ _ _ _ _ _ _ _ (by decide)]
  refine (Block.get2_put2 _ (by unfold Fld.fits; decide) (by unfold Fld.fits; decide) _ 0 0 (by decide)).trans
    (Nat.mod_eq_of_lt ?_)
  have hlt := Int.emod_lt_of_pos (((n.sec * 1000000000 + n.ns : Nat) : Int) - ((c.sec * 1000000000 + c.ns : Nat) : Int))
    (show (0 : Int) < 2 ^ 64 by decide)
  rw [← hpos] at hlt
  exact_mod_cast hlt

theorem stepNoted_flag : (stepNoted c n b).on F.TIM_EVT_STEP = true := by
  unfold stepNoted Block.on
  dsimp only
  rw [Block.get_record]
  exact Block.on_evt _ (by unfold Fld.fits; decide) rfl 0 0

end Step

/-! ## The snapshot (R47) -/

/-- The registers that a snapshot writes. -/
def snapRegs : Set Nat :=
  {F.TIM_SNAP_NS_NS.addr, F.TIM_SNAP_SEC_LO_SEC_LO.addr, F.TIM_SNAP_SEC_HI_SEC_HI.addr, F.TIM_SNAP_STEADY_LO_STEADY_LO.addr,
    F.TIM_SNAP_STEADY_HI_STEADY_HI.addr}

theorem snapshot_alters (c : Clk) (b : Block) : Block.Alters snapRegs b (snapshot c b) := by
  have hns : Block.Alters snapRegs b (b.put F.TIM_SNAP_NS_NS c.ns) := (Block.Alters.refl _ b).put (.inl rfl) _
  have hsec := hns.put2 (lo := F.TIM_SNAP_SEC_LO_SEC_LO) (hi := F.TIM_SNAP_SEC_HI_SEC_HI) (i := 0) (j := 0) (.inr (.inl rfl))
    (.inr (.inr (.inl rfl))) c.sec
  have hfrac := hsec.put (f := F.TIM_SNAP_SEC_HI_FRAC) (i := 0) (j := 0) (k := 0) (.inr (.inr (.inl rfl))) (c.frac / 2 ^ 24)
  exact hfrac.put2 (lo := F.TIM_SNAP_STEADY_LO_STEADY_LO) (hi := F.TIM_SNAP_STEADY_HI_STEADY_HI) (i := 0) (j := 0)
    (.inr (.inr (.inr (.inl rfl)))) (.inr (.inr (.inr (.inr rfl)))) _

theorem snapshot_newPtp (c : Clk) (b : Block) : (snapshot c b).newPtp = b.newPtp := by simp [snapshot, Block.put2]
theorem snapshot_evq (c : Clk) (b : Block) : (snapshot c b).evq = b.evq := by simp [snapshot, Block.put2]

section Snapshot

variable (c : Clk) (b : Block) (hc : c.inRange = true)
include hc

theorem snapshot_ns : (snapshot c b).get F.TIM_SNAP_NS_NS = c.ns := by
  obtain ⟨-, hns, -, -⟩ := (Clk.inRange_iff c).1 hc
  unfold snapshot Block.put2
  dsimp only
  iterate 5 rw [Block.get_put_other _ _ F.TIM_SNAP_NS_NS _ _ _ _ _ _ _ (by decide)]
  exact Block.get_put_self _ _ (by decide) (show c.ns < 2 ^ 30 by omega) _ _ _

theorem snapshot_sec : (snapshot c b).get2 F.TIM_SNAP_SEC_LO_SEC_LO F.TIM_SNAP_SEC_HI_SEC_HI = c.sec := by
  obtain ⟨hsec, -, -, -⟩ := (Clk.inRange_iff c).1 hc
  have hkeep : ∀ (b' : Block) (y : Nat) (f : Fld), F.TIM_SNAP_STEADY_LO_STEADY_LO.at 0 0 ≠ f.at 0 0 →
      F.TIM_SNAP_STEADY_HI_STEADY_HI.at 0 0 ≠ f.at 0 0 →
      (b'.put2 F.TIM_SNAP_STEADY_LO_STEADY_LO F.TIM_SNAP_STEADY_HI_STEADY_HI y).get f = b'.get f := by
    intro b' y f hlo hhi
    unfold Block.put2
    rw [Block.get_put_other _ _ f _ _ _ _ _ _ _ hhi, Block.get_put_other _ _ f _ _ _ _ _ _ _ hlo]
  unfold snapshot
  dsimp only
  rw [Block.get2, hkeep _ _ _ (by decide) (by decide), hkeep _ _ _ (by decide) (by decide),
    Block.get_put_other _ F.TIM_SNAP_SEC_HI_FRAC F.TIM_SNAP_SEC_LO_SEC_LO _ _ _ _ _ _ _ (by decide),
    Block.get_put_apart _ F.TIM_SNAP_SEC_HI_FRAC F.TIM_SNAP_SEC_HI_SEC_HI (by unfold Fld.fits; decide)
      (by unfold Fld.apart; decide)]
  refine (Block.get2_put2 _ (by unfold Fld.fits; decide) (by unfold Fld.fits; decide) _ 0 0 (by decide)).trans
    (Nat.mod_eq_of_lt ?_)
  exact hsec

theorem snapshot_frac : (snapshot c b).get F.TIM_SNAP_SEC_HI_FRAC = c.frac / 2 ^ 24 := by
  obtain ⟨-, -, hfrac, -⟩ := (Clk.inRange_iff c).1 hc
  unfold snapshot Block.put2
  dsimp only
  rw [Block.get_put_other _ _ F.TIM_SNAP_SEC_HI_FRAC _ _ _ _ _ _ _ (by decide),
    Block.get_put_other _ _ F.TIM_SNAP_SEC_HI_FRAC _ _ _ _ _ _ _ (by decide)]
  refine Block.get_put_self _ _ (by decide) ?_ _ _ _
  unfold nsTick at hfrac
  show c.frac / 2 ^ 24 < 2 ^ 16
  omega

theorem snapshot_steady :
    (snapshot c b).get2 F.TIM_SNAP_STEADY_LO_STEADY_LO F.TIM_SNAP_STEADY_HI_STEADY_HI = c.steady / nsTick := by
  obtain ⟨-, -, -, hsteady⟩ := (Clk.inRange_iff c).1 hc
  have hlt : c.steady / nsTick < 2 ^ 64 := Nat.div_lt_of_lt_mul (by rwa [Nat.mul_comm])
  unfold snapshot
  dsimp only
  refine (Block.get2_put2 _ (by unfold Fld.fits; decide) (by unfold Fld.fits; decide) _ 0 0 (by decide)).trans ?_
  show c.steady / nsTick % 2 ^ 64 % 2 ^ 64 = _
  rw [Nat.mod_mod, Nat.mod_eq_of_lt hlt]

end Snapshot

/-- Settles O5: a snapshot writes its five registers from the clocks of its cycle. -/
theorem snapshotCopiesBothClocks : Obligations.SnapshotCopiesBothClocks := by
  intro dt cls s hw hc hq
  have hrange := s.pass_inRange dt
  have hfound := s.stored_nothing dt cls 1 (p := F.TIM_SNAP_TAKE.addr) (by decide)
  have halters := hfound.alters.andThen (snapshot_alters (s.pass dt).clk _)
  refine ⟨_, exec_snapshotTake dt cls hw hc, ?_, ?_, ?_, ?_, fun a ha => ?_, ?_, ?_, ?_⟩
  · rw [State.answers_get]
    exact snapshot_ns _ _ hrange
  · rw [State.answers_get2]
    exact snapshot_sec _ _ hrange
  · rw [State.answers_get]
    exact snapshot_frac _ _ hrange
  · rw [State.answers_get2]
    exact snapshot_steady _ _ hrange
  · rw [State.answers_reg]
    refine halters.reg a fun hm => ha ?_
    rcases hm with rfl | rfl | rfl | rfl | rfl | rfl <;> decide
  · exact State.answers_clk hq halters ((snapshot_newPtp ..).trans hfound.newPtp)
  · exact State.answers_mem hq halters
  · rw [State.answers_evq, snapshot_evq, hfound.evq]

end Sys2Proof.Machine
end

section
/-! The set of the PTP clock (R48), the servo's update (R57) and what else moves the servo (R58-R60). -/

namespace Sys2Proof.Machine

open Sys2Proof

/-! ## The PTP clock's set -/

/-- A time of whole ns splits into its seconds and ns. -/
theorem Clk.ofPtp_whole (c : Clk) {sec ns : Nat} (hs : sec < 2 ^ 48) (hn : ns < 1000000000) :
    c.ofPtp ((sec * 1000000000 + ns) * nsTick) = { c with sec := sec, ns := ns, frac := 0 } := by
  have hpos : 0 < nsTick := by decide
  have hsec : (sec * 1000000000 + ns) * nsTick / sTick = sec := by
    rw [show sTick = nsTick * 1000000000 from rfl, ← Nat.div_div_eq_div_mul, Nat.mul_div_cancel _ hpos]
    omega
  have hns : (sec * 1000000000 + ns) * nsTick / nsTick % 1000000000 = ns := by
    rw [Nat.mul_div_cancel _ hpos]
    omega
  simp only [Clk.ofPtp, hsec, hns, Nat.mod_eq_of_lt hs, Nat.mul_mod_left]

theorem stepNoted_evq (c n : Clk) (b : Block) :
    (stepNoted c n b).evq = b.evq ++ [{ code := 0x0401, sev := 4, origin := 4, p0 := BitVec.ofNat 32 c.sec,
                                        p1 := BitVec.ofNat 32 c.ns, p2 := BitVec.ofNat 32 n.sec,
                                        p3 := BitVec.ofNat 32 n.ns }] := by
  unfold stepNoted Block.put2 Block.wrap
  dsimp only
  rw [Block.record_evq, Block.evt_evq, Block.put_evq, Block.put_evq, Block.put_evq, Block.put_evq]

/-- A PTP time that the clock is to take is no register. -/
theorem Block.get_newPtp (b : Block) (p : Option Nat) (f : Fld) (i j k : Nat) :
    ({ b with newPtp := p } : Block).get f i j k = b.get f i j k := rfl

theorem Block.Alters.newPtp {S : Set Nat} {b b' : Block} (h : Block.Alters S b b') (p : Option Nat) :
    Block.Alters S b { b' with newPtp := p } := h.keep rfl rfl rfl rfl

section Set

variable (c : Clk) {b : Block}

theorem ptpSet_ignored (h : 999999999 < b.get F.TIM_SET_NS_NS) : ptpSet c b = b.evt F.TIM_EVT_WIGN := if_pos h

/-- The PTP time that the registers of a set hold, in ticks. -/
def setTicks (b : Block) : Nat :=
  (b.get2 F.TIM_SET_SEC_LO_SEC_LO F.TIM_SET_SEC_HI_SEC_HI * 1000000000 + b.get F.TIM_SET_NS_NS) * nsTick

/-- The step of a set, before the servo takes notice. -/
def setStepped (c : Clk) (b : Block) : Block := { stepNoted c (c.ofPtp (setTicks b)) b with newPtp := some (setTicks b) }

theorem setStepped_get (b : Block) (f : Fld) (i j k : Nat) :
    (setStepped c b).get f i j k = (stepNoted c (c.ofPtp (setTicks b)) b).get f i j k := Block.get_newPtp ..

theorem setStepped_srv (b : Block) : (setStepped c b).get F.TIM_STAT_SRV = b.get F.TIM_STAT_SRV := by
  rw [setStepped_get, stepNoted_srv]

/-- A set that is let through: in ACQUIRE and LOCKED it enters ACQUIRE. -/
theorem ptpSet_accepted (h : b.get F.TIM_SET_NS_NS ≤ 999999999) :
    ptpSet c b = if b.get F.TIM_STAT_SRV = srvAcquire ∨ b.get F.TIM_STAT_SRV = srvLocked then enterAcquire c 0 (setStepped c b)
      else setStepped c b := by
  rw [← setStepped_srv c b]
  exact if_neg (by omega)

/-- The servo's move at a set. -/
theorem ptpSet_moves (h : b.get F.TIM_SET_NS_NS ≤ 999999999) : Block.Moves (setStepped c b) (ptpSet c b) := by
  rw [ptpSet_accepted c h]
  exact .ite (enterAcquire_moves ..) (.refl _)

theorem ptpSet_srv (h : b.get F.TIM_SET_NS_NS ≤ 999999999) :
    (ptpSet c b).get F.TIM_STAT_SRV = if b.get F.TIM_STAT_SRV = srvLocked then srvAcquire else b.get F.TIM_STAT_SRV := by
  rw [ptpSet_accepted c h]
  by_cases hl : b.get F.TIM_STAT_SRV = srvLocked
  · rw [if_pos (.inr hl), if_pos hl]
    exact enterAcquire_srv ..
  · rw [if_neg hl]
    split
    · rename_i ha
      rw [enterAcquire_srv, ha.resolve_right hl]
    · exact setStepped_srv c b

section Accepted

variable (h : b.get F.TIM_SET_NS_NS ≤ 999999999)
include h

theorem ptpSet_evq : (ptpSet c b).evq = b.evq ++ [{ code := 0x0401, sev := 4, origin := 4, p0 := BitVec.ofNat 32 c.sec,
                                                    p1 := BitVec.ofNat 32 c.ns,
                                                    p2 := BitVec.ofNat 32 (c.ofPtp (setTicks b)).sec,
                                                    p3 := BitVec.ofNat 32 (c.ofPtp (setTicks b)).ns }] := by
  rw [← stepNoted_evq, ptpSet_accepted c h]
  split
  · rename_i ha
    refine enterAcquire_evq _ _ _ ?_
    rw [setStepped_srv]
    rcases ha with ha | ha <;> rw [ha] <;> decide
  · rfl

theorem ptpSet_newPtp : (ptpSet c b).newPtp = some (setTicks b) := by rw [(ptpSet_moves c h).newPtp, setStepped]

theorem ptpSet_alters : Block.Alters stepRegs b (ptpSet c b) := by
  have hstep : Block.Alters stepRegs b (setStepped c b) := (stepNoted_alters c _ b).newPtp _
  refine hstep.trans ((ptpSet_moves c h).alters.mono fun a ha => ?_)
  rcases ha with rfl | rfl
  · exact .inl rfl
  · exact .inr (.inl rfl)

/-- A field that no move of the servo alters reads as the step noted it. -/
theorem ptpSet_get {f : Fld} (hf : f.at 0 0 ∉ servoRegs) :
    (ptpSet c b).get f = (stepNoted c (c.ofPtp (setTicks b)) b).get f := by
  rw [(ptpSet_moves c h).alters.get hf, setStepped_get]

theorem ptpSet_count : (ptpSet c b).get F.TIM_STEP_CNT_CNT = (b.get F.TIM_STEP_CNT_CNT + 1) % 2 ^ 32 := by
  rw [ptpSet_get c h (by simp [servoRegs, Fld.at, F.TIM_STEP_CNT_CNT, F.TIM_STAT_SRV, F.TIM_EVT_STEP]), stepNoted_count]

theorem ptpSet_gen : (ptpSet c b).get F.TIM_STAT_STEP_GEN = (ptpSet c b).get F.TIM_STEP_CNT_CNT % 4 := by
  rw [(ptpSet_moves c h).stepGen, setStepped_get, stepNoted_gen,
    ptpSet_get c h (by simp [servoRegs, Fld.at, F.TIM_STEP_CNT_CNT, F.TIM_STAT_SRV, F.TIM_EVT_STEP])]

theorem ptpSet_last :
    (((ptpSet c b).get2 F.TIM_LAST_STEP_LO_STEP_LO F.TIM_LAST_STEP_HI_STEP_HI : Nat) : Int) =
      ((((c.ofPtp (setTicks b)).sec * 1000000000 + (c.ofPtp (setTicks b)).ns : Nat) : Int) -
        ((c.sec * 1000000000 + c.ns : Nat) : Int)) % 2 ^ 64 := by
  rw [← stepNoted_last c (c.ofPtp (setTicks b)) b, Block.get2, Block.get2,
    ptpSet_get c h (by simp [servoRegs, Fld.at, F.TIM_LAST_STEP_LO_STEP_LO, F.TIM_STAT_SRV, F.TIM_EVT_STEP]),
    ptpSet_get c h (by simp [servoRegs, Fld.at, F.TIM_LAST_STEP_HI_STEP_HI, F.TIM_STAT_SRV, F.TIM_EVT_STEP])]

theorem ptpSet_flag : (ptpSet c b).on F.TIM_EVT_STEP = true := by
  refine (ptpSet_moves c h).step ?_
  rw [Block.on, setStepped_get]
  exact stepNoted_flag ..

end Accepted

end Set

/-! ### The registers that the set finds -/

section Stored

variable (s : State) (dt : Nat) (cls : Cls) (secHi ns lo : Word)

/-- The blocks at which a set acts: its three words in effect. -/
def State.setStored : Block :=
  s.stored dt cls F.TIM_SET_SEC_HI_SEC_HI.addr [(F.TIM_SET_NS_NS.addr, ns), (F.TIM_SET_SEC_LO_SEC_LO.addr, lo)] 0xFFFF
    (F.TIM_SET_SEC_HI_SEC_HI.into (s.blk.reg F.TIM_SET_SEC_HI_SEC_HI.addr &&& 0xFFFF) secHi.toNat)

theorem setStored_finds : s.Finds {F.MTX_STAT_GATED.addr, F.TIM_SET_NS_NS.addr, F.TIM_SET_SEC_LO_SEC_LO.addr,
    F.TIM_SET_SEC_HI_SEC_HI.addr} (s.setStored dt cls secHi ns lo) := by
  obtain ⟨ha, hn, ht, he, hf⟩ := s.stored_finds dt cls F.TIM_SET_SEC_HI_SEC_HI.addr
    [(F.TIM_SET_NS_NS.addr, ns), (F.TIM_SET_SEC_LO_SEC_LO.addr, lo)] 0xFFFF
    (F.TIM_SET_SEC_HI_SEC_HI.into (s.blk.reg F.TIM_SET_SEC_HI_SEC_HI.addr &&& 0xFFFF) secHi.toNat)
  refine ⟨ha.mono fun a h => ?_, hn, ht, he, hf⟩
  rcases h with rfl | rfl | ⟨q, hq, rfl⟩
  · exact .inl rfl
  · exact .inr (.inr (.inr rfl))
  · simp only [List.mem_cons, List.not_mem_nil, or_false] at hq
    rcases hq with rfl | rfl
    · exact .inr (.inl rfl)
    · exact .inr (.inr (.inl rfl))

variable {ns}

theorem setStored_ns (h : ns.toNat < 2 ^ 30) : (s.setStored dt cls secHi ns lo).get F.TIM_SET_NS_NS = ns.toNat := by
  have hr : (s.setStored dt cls secHi ns lo).reg (F.TIM_SET_NS_NS.at 0 0 0) = ns :=
    s.stored_reg_low dt cls _ _ _ _ (by simp [F.TIM_SET_NS_NS, F.TIM_SET_SEC_LO_SEC_LO]) (List.mem_cons_self ..) (by decide)
  rw [Block.get, hr]
  simpa [Fld.of, bits, F.TIM_SET_NS_NS] using h

variable (ns)

theorem setStored_sec : (s.setStored dt cls secHi ns lo).get2 F.TIM_SET_SEC_LO_SEC_LO F.TIM_SET_SEC_HI_SEC_HI =
    lo.toNat + 2 ^ 32 * (secHi.toNat % 2 ^ 16) := by
  have hlo : (s.setStored dt cls secHi ns lo).reg (F.TIM_SET_SEC_LO_SEC_LO.at 0 0 0) = lo :=
    s.stored_reg_low dt cls _ _ _ _ (by simp [F.TIM_SET_NS_NS, F.TIM_SET_SEC_LO_SEC_LO])
      (List.mem_cons_of_mem _ (List.mem_cons_self ..)) (by decide)
  have hhi : (s.setStored dt cls secHi ns lo).get F.TIM_SET_SEC_HI_SEC_HI = secHi.toNat % 2 ^ 16 := by
    have hr := s.stored_reg dt cls [(F.TIM_SET_NS_NS.addr, ns), (F.TIM_SET_SEC_LO_SEC_LO.addr, lo)] 0xFFFF
      (F.TIM_SET_SEC_HI_SEC_HI.into (s.blk.reg F.TIM_SET_SEC_HI_SEC_HI.addr &&& 0xFFFF) secHi.toNat)
      (p := F.TIM_SET_SEC_HI_SEC_HI.addr) (by decide)
      (by simp [F.TIM_SET_NS_NS, F.TIM_SET_SEC_LO_SEC_LO, F.TIM_SET_SEC_HI_SEC_HI])
    have hfits : F.TIM_SET_SEC_HI_SEC_HI.fits := by unfold Fld.fits; decide
    refine (congrArg F.TIM_SET_SEC_HI_SEC_HI.of hr).trans ?_
    rw [Fld.of_merge hfits (by decide), Fld.of_into _ hfits]
    rfl
  rw [Block.get2, hhi, Block.get_word _ rfl rfl, hlo]
  rfl

end Stored

/-- The registers that a set reaches: its own, those of a step, and the status of the matrix ports. -/
def setReach : Set Nat :=
  {F.MTX_STAT_GATED.addr, F.TIM_SET_NS_NS.addr, F.TIM_SET_SEC_LO_SEC_LO.addr, F.TIM_SET_SEC_HI_SEC_HI.addr} ∪ stepRegs

theorem setReach_window {a : Nat} (ha : a ∈ setReach) : a / 0x10000 = 4 ∨ a / 0x10000 = 2 := by
  rcases ha with (rfl | rfl | rfl | rfl) | (rfl | rfl | rfl | rfl | rfl) <;> decide

/-- Settles O6: a set that is let through is a step, after which the servo leaves LOCKED; one of too many ns is ignored. -/
theorem ptpSetIsAStep : Obligations.PtpSetIsAStep := by
  intro dt cls secHi ns lo s hw hc hq hns hlo hlt
  have hfound := setStored_finds s dt cls secHi ns lo
  have hgns := setStored_ns s dt cls secHi lo hlt
  have hgsec := setStored_sec s dt cls secHi ns lo
  have hexec : exec (.ptpSet dt cls secHi) s = .next (s.answers dt (ptpSet (s.pass dt).clk (s.setStored dt cls secHi ns lo))) :=
    exec_ptpSet dt cls secHi hw hc hns hlo
  generalize s.setStored dt cls secHi ns lo = b at *
  have hcnt : b.get F.TIM_STEP_CNT_CNT = s.blk.get F.TIM_STEP_CNT_CNT := hfound.alters.get (by
    simp [Fld.at, F.TIM_STEP_CNT_CNT, F.MTX_STAT_GATED, F.TIM_SET_NS_NS, F.TIM_SET_SEC_LO_SEC_LO, F.TIM_SET_SEC_HI_SEC_HI])
  refine ⟨fun hle => ?_, fun hgt => ?_⟩
  · have hok : b.get F.TIM_SET_NS_NS ≤ 999999999 := hgns.trans_le hle
    have halters : Block.Alters setReach s.blk (ptpSet (s.pass dt).clk b) :=
      hfound.alters.andThen (ptpSet_alters (s.pass dt).clk hok)
    have hsec : lo.toNat + 2 ^ 32 * (secHi.toNat % 2 ^ 16) < 2 ^ 48 := by omega
    have hset : (s.pass dt).clk.ofPtp (setTicks b) =
        { (s.pass dt).clk with sec := lo.toNat + 2 ^ 32 * (secHi.toNat % 2 ^ 16), ns := ns.toNat, frac := 0 } := by
      rw [setTicks, hgsec, hgns]
      exact Clk.ofPtp_whole _ hsec (by omega)
    have hclk : (s.answers dt (ptpSet (s.pass dt).clk b)).clk = (s.pass dt).clk.ofPtp (setTicks b) :=
      State.answers_clk_set hq halters (ptpSet_newPtp _ hok)
    have hsrv : b.get F.TIM_STAT_SRV = s.blk.get F.TIM_STAT_SRV := hfound.alters.get (by
      simp [Fld.at, F.TIM_STAT_SRV, F.MTX_STAT_GATED, F.TIM_SET_NS_NS, F.TIM_SET_SEC_LO_SEC_LO, F.TIM_SET_SEC_HI_SEC_HI])
    refine ⟨_, hexec, ?_, ?_, ?_, ?_, ?_, ?_, ?_, ?_, ?_, ?_, ?_, ?_, State.answers_mem hq halters, fun a h4 h2 => ?_⟩
    · rw [hclk, hset]
    · rw [hclk, hset]
    · rw [hclk, hset]
    · rw [hclk, hset]
    · rw [State.answers_get, ptpSet_count _ hok, hcnt]
    · rw [State.answers_get, State.answers_get, ptpSet_gen _ hok]
    · rw [State.answers_get2, ptpSet_last _ hok, hclk]
    · rw [State.answers_on, ptpSet_flag _ hok]
    · rw [State.answers_evq, ptpSet_evq _ hok, hclk, hfound.evq]
    · rw [State.answers_get, ptpSet_srv _ hok, hsrv]
    · rw [State.answers_reg]
      exact halters.reg _ fun hm => by rcases hm with (h | h | h | h) | (h | h | h | h | h) <;> exact absurd h (by decide)
    · rw [State.answers_reg]
      exact halters.reg _ fun hm => by rcases hm with (h | h | h | h) | (h | h | h | h | h) <;> exact absurd h (by decide)
    · rw [State.answers_reg]
      exact halters.reg _ fun hm => (setReach_window hm).elim h4 h2
  · rw [ptpSet_ignored _ (hgns ▸ hgt)] at hexec
    have halters : Block.Alters setReach s.blk (b.evt F.TIM_EVT_WIGN) :=
      hfound.alters.andThen ((Block.Alters.refl _ b).evt (.inr (.inl rfl)))
    refine ⟨_, hexec, State.answers_clk hq halters hfound.newPtp, ?_, ?_, ?_⟩
    · rw [State.answers_on]
      exact Block.on_evt _ (by unfold Fld.fits; decide) rfl 0 0
    · rw [State.answers_get, Block.get_evt, Block.get_put_other _ _ _ _ _ _ _ _ _ _ (by decide), hcnt]
    · rw [State.answers_evq, Block.evt_evq, hfound.evq]

end Sys2Proof.Machine
end

section
/-! The servo's update (R57): the stages of the model's program, what each does, and that together they are R57's program. -/

namespace Sys2Proof.Machine

open Sys2Proof

/-! ## Numbers with a sign and within a limit -/

theorem toSigned_ofSigned {x : Int} (hl : -2 ^ 31 ≤ x) (hu : x < 2 ^ 31) : toSigned 32 (ofSigned 32 x) = x := by
  unfold toSigned ofSigned
  split <;> omega

theorem ofSigned_lt (w : Nat) (x : Int) : ofSigned w x < 2 ^ w := by
  have hpos : (0 : Int) < 2 ^ w := by positivity
  have h := Int.emod_lt_of_pos x hpos
  rw [← Int.toNat_of_nonneg (Int.emod_nonneg x hpos.ne')] at h
  exact_mod_cast h

/-- A signed field that is its whole register reads the number that was put into it. -/
theorem Block.geti_put_ofSigned (b : Block) {f : Fld} (hl : f.lsb = 0) (hw : f.width = 32) {x : Int} (hx : -2 ^ 31 ≤ x)
    (hu : x < 2 ^ 31) : (b.put f (ofSigned 32 x)).geti f = x := by
  have hget : (b.put f (ofSigned 32 x)).get f = ofSigned 32 x :=
    Block.get_put_self b f (by rw [hl, hw]) (by rw [hw]; exact ofSigned_lt 32 x) 0 0 0
  rw [Block.geti, hget, hw]
  exact toSigned_ofSigned hx hu

/-- The spec's clamp is the model's. -/
theorem clampTo_eq (m : Nat) (x : Int) :
    clampTo m x = if x < -(m : Int) then -(m : Int) else if (m : Int) < x then (m : Int) else x := by
  unfold clampTo
  split_ifs <;> omega

theorem clampTo_bounds (m : Nat) (x : Int) : -(m : Int) ≤ clampTo m x ∧ clampTo m x ≤ m := by
  unfold clampTo
  omega

/-! ## The stages of an update that does not step -/

section Stages

variable (c : Clk) (o : Int) (b : Block)

/-- The update is noted: how far it was off and when it came. -/
def updateNoted : Block := { b with tim := { b.tim with lastAbs := o.natAbs, since := c.steady } }

/-- The integral and the rate trim that the update gives. -/
def servoNext : Int × Int :=
  servoPi (if b.get F.TIM_STAT_SRV = srvAcquire then b.get F.TIM_SRV_GAIN_ACQ_KP else b.get F.TIM_SRV_GAIN_KP)
    (if b.get F.TIM_STAT_SRV = srvAcquire then b.get F.TIM_SRV_GAIN_ACQ_KI else b.get F.TIM_SRV_GAIN_KI)
    (b.get F.TIM_SRV_RLIM_RLIM) (b.geti F.TIM_SRV_INTEG_INTEG) o

/-- The integral and the rate trim are written. -/
def servoTrimmed : Block :=
  (b.put F.TIM_SRV_INTEG_INTEG (ofSigned 32 (servoNext o b).1)).put F.TIM_RATE_RATE (ofSigned 32 (servoNext o b).2)

/-- The count of good updates after an update that is off by `o`, `lock` being the bound of a good one. -/
def goodCount (lock good : Nat) : Nat := if o.natAbs ≤ lock then good + 1 else 0

def withGood (good : Nat) : Block := { b with tim := { b.tim with good := good } }

/-- Enough good updates in ACQUIRE lock the servo. -/
def servoLocks (st good : Nat) : Block :=
  if st = srvAcquire ∧ b.get F.TIM_SRV_LOCK_LOCK_CNT ≤ good then enterLocked b else b

/-- An offset of more than four times the bound unlocks it. -/
def servoUnlocks (lock : Nat) : Block :=
  if b.get F.TIM_STAT_SRV = srvLocked ∧ 4 * lock < o.natAbs then enterAcquire c (ofSigned 32 o) b else b

/-- An update in FREE or HOLDOVER starts the acquisition and keeps its count. -/
def servoStarts (st : Nat) : Block :=
  if st = srvFree ∨ st = srvHoldover then withGood (enterAcquire c (ofSigned 32 o) b) b.tim.good else b

/-- An update that does not step: trim, count, lock, unlock, start. -/
def servoTracked : Block :=
  let n := servoTrimmed o b
  let lock := n.get F.TIM_SRV_LOCK_LOCK_NS
  let good := goodCount o lock n.tim.good
  servoStarts c o (servoUnlocks c o (servoLocks (withGood n good) (b.get F.TIM_STAT_SRV) good) lock) (b.get F.TIM_STAT_SRV)

/-- An update that is ignored (R60). -/
theorem servoUpdate_ignored (h : b.on F.TIM_CTL_SRV_EN = false ∨ b.on F.TIM_CTL_HOLD = true) :
    servoUpdate c o b = b.evt F.TIM_EVT_WIGN := if_pos (by simpa using h)

section Enabled

variable {b} (hen : b.on F.TIM_CTL_SRV_EN = true) (hhold : b.on F.TIM_CTL_HOLD = false)
include hen hhold

/-- An update that steps the clock. -/
theorem servoUpdate_steps (h : b.get F.TIM_SRV_STEP_THRESH < o.natAbs ∧ b.get F.TIM_SRV_STEP_THRESH ≠ 0x7FFFFFFF) :
    servoUpdate c o b = enterAcquire c (ofSigned 32 o) (ptpStep c ((c.ptp : Int) - o * nsTick) (updateNoted c o b)) := by
  unfold servoUpdate
  rw [if_neg (by simp [hen, hhold])]
  exact if_pos h

/-- An update that does not. -/
theorem servoUpdate_tracks (h : ¬(b.get F.TIM_SRV_STEP_THRESH < o.natAbs ∧ b.get F.TIM_SRV_STEP_THRESH ≠ 0x7FFFFFFF)) :
    servoUpdate c o b = servoTracked c o (updateNoted c o b) := by
  unfold servoUpdate
  rw [if_neg (by simp [hen, hhold])]
  exact if_neg h

end Enabled

/-! ### What each stage does -/

theorem withGood_moves (good : Nat) : Block.Moves b (withGood b good) := (Block.Moves.refl b).keep rfl rfl rfl rfl rfl
theorem withGood_get (good : Nat) (f : Fld) (i j k : Nat) : (withGood b good).get f i j k = b.get f i j k := rfl
theorem withGood_good (good : Nat) : (withGood b good).tim.good = good := rfl

theorem servoLocks_moves (st good : Nat) : Block.Moves b (servoLocks b st good) := .ite (enterLocked_moves b) (.refl b)

theorem servoLocks_srv {st : Nat} (h : b.get F.TIM_STAT_SRV = st) (good : Nat) :
    (servoLocks b st good).get F.TIM_STAT_SRV =
      if st = srvAcquire ∧ b.get F.TIM_SRV_LOCK_LOCK_CNT ≤ good then srvLocked else st := by
  unfold servoLocks
  by_cases hl : st = srvAcquire ∧ b.get F.TIM_SRV_LOCK_LOCK_CNT ≤ good
  · rw [if_pos hl, if_pos hl]
    exact enterLocked_srv b
  · rw [if_neg hl, if_neg hl, h]

theorem enterLocked_tim : (enterLocked b).tim = b.tim := rfl

theorem servoLocks_good (st good : Nat) : (servoLocks b st good).tim.good = b.tim.good := by
  unfold servoLocks
  split
  · rw [enterLocked_tim]
  · rfl

theorem servoUnlocks_moves (lock : Nat) : Block.Moves b (servoUnlocks c o b lock) := .ite (enterAcquire_moves ..) (.refl b)

theorem servoUnlocks_srv (lock : Nat) :
    (servoUnlocks c o b lock).get F.TIM_STAT_SRV =
      if b.get F.TIM_STAT_SRV = srvLocked ∧ 4 * lock < o.natAbs then srvAcquire else b.get F.TIM_STAT_SRV := by
  unfold servoUnlocks
  by_cases hl : b.get F.TIM_STAT_SRV = srvLocked ∧ 4 * lock < o.natAbs
  · rw [if_pos hl, if_pos hl]
    exact enterAcquire_srv ..
  · rw [if_neg hl, if_neg hl]

theorem servoUnlocks_good (lock : Nat) :
    (servoUnlocks c o b lock).tim.good = if b.get F.TIM_STAT_SRV = srvLocked ∧ 4 * lock < o.natAbs then 0 else b.tim.good := by
  unfold servoUnlocks
  by_cases hl : b.get F.TIM_STAT_SRV = srvLocked ∧ 4 * lock < o.natAbs
  · rw [if_pos hl, if_pos hl, enterAcquire_good]
  · rw [if_neg hl, if_neg hl]

theorem servoStarts_moves (st : Nat) : Block.Moves b (servoStarts c o b st) :=
  .ite ((enterAcquire_moves ..).trans (withGood_moves ..)) (.refl b)

theorem servoStarts_srv (st : Nat) :
    (servoStarts c o b st).get F.TIM_STAT_SRV = if st = srvFree ∨ st = srvHoldover then srvAcquire else b.get F.TIM_STAT_SRV := by
  unfold servoStarts
  by_cases hl : st = srvFree ∨ st = srvHoldover
  · rw [if_pos hl, if_pos hl, withGood_get]
    exact enterAcquire_srv ..
  · rw [if_neg hl, if_neg hl]

theorem servoStarts_good (st : Nat) : (servoStarts c o b st).tim.good = b.tim.good := by
  unfold servoStarts
  split
  · rw [withGood_good]
  · rfl

/-! ### The update as a whole -/

theorem servoTrimmed_alters :
    Block.Alters {F.TIM_SRV_INTEG_INTEG.addr, F.TIM_RATE_RATE.addr} b (servoTrimmed o b) :=
  ((Block.Alters.refl _ b).put (.inl rfl) _).put (.inr rfl) _

theorem servoTrimmed_get {f : Fld} (hi : F.TIM_SRV_INTEG_INTEG.addr ≠ f.at 0 0) (hr : F.TIM_RATE_RATE.addr ≠ f.at 0 0) :
    (servoTrimmed o b).get f = b.get f :=
  (servoTrimmed_alters o b).get fun hm => hm.elim (fun h => hi h.symm) fun h => hr h.symm

theorem servoTrimmed_good : (servoTrimmed o b).tim.good = b.tim.good := by
  rw [servoTrimmed, Block.put_tim, Block.put_tim]

/-- What follows the trim is a move of the servo. -/
theorem servoTracked_moves : Block.Moves (servoTrimmed o b) (servoTracked c o b) :=
  (((withGood_moves ..).trans (servoLocks_moves ..)).trans (servoUnlocks_moves ..)).trans (servoStarts_moves ..)

/-- The integral and the rate stay within the limit, which 32 signed bits hold. -/
theorem servoNext_bounds : (-2 ^ 31 ≤ (servoNext o b).1 ∧ (servoNext o b).1 < 2 ^ 31) ∧
    -2 ^ 31 ≤ (servoNext o b).2 ∧ (servoNext o b).2 < 2 ^ 31 := by
  have hlim : b.get F.TIM_SRV_RLIM_RLIM < 2 ^ 31 := Nat.mod_lt _ (by decide)
  have hin : ∀ x, -2 ^ 31 ≤ clampTo (b.get F.TIM_SRV_RLIM_RLIM) x ∧ clampTo (b.get F.TIM_SRV_RLIM_RLIM) x < 2 ^ 31 := by
    intro x
    have h := clampTo_bounds (b.get F.TIM_SRV_RLIM_RLIM) x
    omega
  exact ⟨hin _, hin _⟩

theorem servoTracked_integ : (servoTracked c o b).geti F.TIM_SRV_INTEG_INTEG = (servoNext o b).1 := by
  obtain ⟨⟨hl, hu⟩, -⟩ := servoNext_bounds o b
  rw [(servoTracked_moves c o b).alters.geti (by
    simp [servoRegs, Fld.at, F.TIM_SRV_INTEG_INTEG, F.TIM_STAT_SRV, F.TIM_EVT_STEP]), Block.geti, servoTrimmed,
    Block.get_put_other _ F.TIM_RATE_RATE _ _ _ _ _ _ _ _ (by decide)]
  exact Block.geti_put_ofSigned b rfl rfl hl hu

theorem servoTracked_rate : (servoTracked c o b).geti F.TIM_RATE_RATE = (servoNext o b).2 := by
  obtain ⟨-, hl, hu⟩ := servoNext_bounds o b
  rw [(servoTracked_moves c o b).alters.geti (by
    simp [servoRegs, Fld.at, F.TIM_RATE_RATE, F.TIM_STAT_SRV, F.TIM_EVT_STEP]), servoTrimmed]
  exact Block.geti_put_ofSigned _ rfl rfl hl hu

/-- The count, the state and the losses of lock, as R57 writes them. -/
theorem servoTracked_srv_good (st good lock : Nat) (hst : b.get F.TIM_STAT_SRV = st) (hlock : b.get F.TIM_SRV_LOCK_LOCK_NS = lock)
    (hgood : goodCount o lock b.tim.good = good) :
    (servoTracked c o b).get F.TIM_STAT_SRV =
        (if st = srvFree ∨ st = srvHoldover then srvAcquire
          else if (if st = srvAcquire ∧ b.get F.TIM_SRV_LOCK_LOCK_CNT ≤ good then srvLocked else st) = srvLocked ∧
              4 * lock < o.natAbs then srvAcquire
          else if st = srvAcquire ∧ b.get F.TIM_SRV_LOCK_LOCK_CNT ≤ good then srvLocked else st) ∧
      (servoTracked c o b).tim.good =
        if (if st = srvAcquire ∧ b.get F.TIM_SRV_LOCK_LOCK_CNT ≤ good then srvLocked else st) = srvLocked ∧
            4 * lock < o.natAbs then 0 else good := by
  have hlock' : (servoTrimmed o b).get F.TIM_SRV_LOCK_LOCK_NS = lock := by
    rw [servoTrimmed_get o b (by decide) (by decide), hlock]
  have hgood' : goodCount o lock (servoTrimmed o b).tim.good = good := by rw [servoTrimmed_good, hgood]
  have hsrv : (withGood (servoTrimmed o b) good).get F.TIM_STAT_SRV = st := by
    rw [withGood_get, servoTrimmed_get o b (by decide) (by decide), hst]
  have hcnt : (withGood (servoTrimmed o b) good).get F.TIM_SRV_LOCK_LOCK_CNT = b.get F.TIM_SRV_LOCK_LOCK_CNT := by
    rw [withGood_get, servoTrimmed_get o b (by decide) (by decide)]
  unfold servoTracked
  dsimp only
  rw [hlock', hgood', hst, servoStarts_srv, servoStarts_good, servoUnlocks_srv, servoUnlocks_good, servoLocks_srv _ hsrv,
    servoLocks_good, withGood_good, hcnt]
  exact ⟨rfl, rfl⟩

end Stages

end Sys2Proof.Machine
end

section
/-! SERVO_UPDATE is R57's program. -/

namespace Sys2Proof.Machine

open Sys2Proof

/-- What the servo has kept when the blocks are `b`. -/
def servoOf (b : Block) : Claims.Servo where
  st := b.get F.TIM_STAT_SRV
  good := b.tim.good
  integ := b.geti F.TIM_SRV_INTEG_INTEG
  rate := b.geti F.TIM_RATE_RATE
  step := none

/-- The registers that an update reaches. -/
def updateRegs : Set Nat := {F.TIM_SRV_INTEG_INTEG.addr, F.TIM_RATE_RATE.addr} ∪ stepRegs

/-- The blocks `b'` hold what the program gives from `b`: the servo's state, the time that the clock is to take, the count of
steps. -/
structure ServoGives (c : Clk) (b : Block) (y : Claims.Servo) (b' : Block) : Prop where
  alters : Block.Alters updateRegs b b'
  st : b'.get F.TIM_STAT_SRV = y.st
  good : b'.tim.good = y.good
  integ : b'.geti F.TIM_SRV_INTEG_INTEG = y.integ
  rate : b'.geti F.TIM_RATE_RATE = y.rate
  newPtp : b'.newPtp = y.step.elim b.newPtp fun d => some ((c.ptp : Int) - d * nsTick).toNat
  count : b'.get F.TIM_STEP_CNT_CNT =
    if y.step = none then b.get F.TIM_STEP_CNT_CNT else (b.get F.TIM_STEP_CNT_CNT + 1) % 2 ^ 32

/-! ## The step of the program -/

section Program

variable {b : Block} {o : Int}

/-- The program steps when the model does. -/
theorem steps_iff (b : Block) (o : Int) :
    (((b.get F.TIM_SRV_STEP_THRESH : Nat) : Int) < |o| ∧ ((b.get F.TIM_SRV_STEP_THRESH : Nat) : Int) ≠ 0x7FFFFFFF) ↔
      b.get F.TIM_SRV_STEP_THRESH < o.natAbs ∧ b.get F.TIM_SRV_STEP_THRESH ≠ 0x7FFFFFFF := by
  rw [Int.abs_eq_natAbs]
  omega

theorem servoProgram_steps (h : b.get F.TIM_SRV_STEP_THRESH < o.natAbs ∧ b.get F.TIM_SRV_STEP_THRESH ≠ 0x7FFFFFFF) :
    Claims.servoProgram b o (servoOf b) = { servoOf b with st := 1, good := 0, step := some o } :=
  if_pos ((steps_iff b o).2 h)

/-- The registers that a step leaves to the servo's control. -/
theorem not_mem_stepRegs : F.TIM_SRV_INTEG_INTEG.at 0 0 0 ∉ stepRegs ∧ F.TIM_RATE_RATE.at 0 0 0 ∉ stepRegs := by
  simp [stepRegs, Fld.at, F.TIM_SRV_INTEG_INTEG, F.TIM_RATE_RATE, F.TIM_STAT_SRV, F.TIM_EVT_STEP, F.TIM_STEP_CNT_CNT,
    F.TIM_LAST_STEP_LO_STEP_LO, F.TIM_LAST_STEP_HI_STEP_HI]

theorem servoRegs_sub_stepRegs : servoRegs ⊆ stepRegs := by
  rintro a (rfl | rfl)
  · exact .inl rfl
  · exact .inr (.inl rfl)

theorem ptpStep_alters (c : Clk) (p : Int) (b : Block) : Block.Alters stepRegs b (ptpStep c p b) := by
  rw [ptpStep_eq]
  exact (stepNoted_alters ..).newPtp _

theorem ptpStep_newPtp (c : Clk) (p : Int) (b : Block) : (ptpStep c p b).newPtp = some p.toNat := by rw [ptpStep_eq]

theorem ptpStep_count (c : Clk) (p : Int) (b : Block) :
    (ptpStep c p b).get F.TIM_STEP_CNT_CNT = (b.get F.TIM_STEP_CNT_CNT + 1) % 2 ^ 32 := by
  rw [ptpStep_eq, Block.get_newPtp, stepNoted_count]

theorem updateNoted_get (c : Clk) (o : Int) (b : Block) (f : Fld) (i j k : Nat) :
    (updateNoted c o b).get f i j k = b.get f i j k := rfl

theorem updateNoted_alters (S : Set Nat) (c : Clk) (o : Int) (b : Block) : Block.Alters S b (updateNoted c o b) :=
  (Block.Alters.refl S b).keep rfl rfl rfl rfl

/-- An update that steps is the program's. -/
theorem servoUpdate_gives_step (c : Clk) (hen : b.on F.TIM_CTL_SRV_EN = true) (hhold : b.on F.TIM_CTL_HOLD = false)
    (h : b.get F.TIM_SRV_STEP_THRESH < o.natAbs ∧ b.get F.TIM_SRV_STEP_THRESH ≠ 0x7FFFFFFF) :
    ServoGives c b (Claims.servoProgram b o (servoOf b)) (servoUpdate c o b) := by
  rw [servoProgram_steps h, servoUpdate_steps c o hen hhold h]
  have hmoves := enterAcquire_moves c (ofSigned 32 o) (ptpStep c ((c.ptp : Int) - o * nsTick) (updateNoted c o b))
  have halters : Block.Alters stepRegs b
      (enterAcquire c (ofSigned 32 o) (ptpStep c ((c.ptp : Int) - o * nsTick) (updateNoted c o b))) :=
    ((updateNoted_alters _ c o b).trans (ptpStep_alters ..)).trans (hmoves.alters.mono servoRegs_sub_stepRegs)
  obtain ⟨hinteg, hrate⟩ := not_mem_stepRegs
  refine ⟨halters.mono Set.subset_union_right, enterAcquire_srv .., enterAcquire_good ..,
    halters.geti hinteg, halters.geti hrate, ?_, ?_⟩
  · rw [hmoves.newPtp, ptpStep_newPtp]
    rfl
  · rw [hmoves.alters.get (by simp [servoRegs, Fld.at, F.TIM_STEP_CNT_CNT, F.TIM_STAT_SRV, F.TIM_EVT_STEP]), ptpStep_count,
      updateNoted_get, if_neg (by simp)]

/-! ## The rest of the program -/

/-- The program looks for FREE and HOLDOVER after the lock and its loss, the model at the state that the update found: neither
the lock nor its loss leads there or away from there. -/
theorem servoStart_eq {st st1 : Nat} (h : st1 = st ∨ st = 1 ∧ st1 = 2) (far : Prop) [Decidable far] :
    (if (if st1 = 2 ∧ far then 1 else st1) = 0 ∨ (if st1 = 2 ∧ far then 1 else st1) = 3 then 1
      else if st1 = 2 ∧ far then 1 else st1) =
    if st = srvFree ∨ st = srvHoldover then srvAcquire else if st1 = srvLocked ∧ far then srvAcquire else st1 := by
  change _ = if st = 0 ∨ st = 3 then 1 else if st1 = 2 ∧ far then 1 else st1
  by_cases hfar : st1 = 2 ∧ far
  · have h2 := hfar.1
    rw [if_pos hfar, if_neg (by decide), if_neg (by omega)]
  · rw [if_neg hfar]
    split_ifs <;> omega

/-- The program's integral and rate trim, its count and its state, when it does not step. -/
theorem servoProgram_tracks (h : ¬(b.get F.TIM_SRV_STEP_THRESH < o.natAbs ∧ b.get F.TIM_SRV_STEP_THRESH ≠ 0x7FFFFFFF))
    {st good lock : Nat} (hst : b.get F.TIM_STAT_SRV = st) (hlock : b.get F.TIM_SRV_LOCK_LOCK_NS = lock)
    (hgood : goodCount o lock b.tim.good = good) :
    Claims.servoProgram b o (servoOf b) =
      { st := if st = srvFree ∨ st = srvHoldover then srvAcquire
          else if (if st = srvAcquire ∧ b.get F.TIM_SRV_LOCK_LOCK_CNT ≤ good then srvLocked else st) = srvLocked ∧
              4 * lock < o.natAbs then srvAcquire
          else if st = srvAcquire ∧ b.get F.TIM_SRV_LOCK_LOCK_CNT ≤ good then srvLocked else st
        good := if (if st = srvAcquire ∧ b.get F.TIM_SRV_LOCK_LOCK_CNT ≤ good then srvLocked else st) = srvLocked ∧
            4 * lock < o.natAbs then 0 else good
        integ := (servoNext o b).1
        rate := (servoNext o b).2
        step := none } := by
  have hgood' : (if |o| ≤ ((b.get F.TIM_SRV_LOCK_LOCK_NS : Nat) : Int) then (servoOf b).good + 1 else 0) = good := by
    rw [← hgood, Int.abs_eq_natAbs, hlock, goodCount]
    simp only [Nat.cast_le, servoOf]
  have hfar : 4 * ((b.get F.TIM_SRV_LOCK_LOCK_NS : Nat) : Int) < |o| ↔ 4 * lock < o.natAbs := by
    rw [Int.abs_eq_natAbs, hlock]
    omega
  have hoc : clampTo (2 ^ 31 - 1) o = if o < -(2 ^ 31 - 1) then -(2 ^ 31 - 1) else if 2 ^ 31 - 1 < o then 2 ^ 31 - 1 else o :=
    clampTo_eq (2 ^ 31 - 1) o
  unfold Claims.servoProgram
  dsimp only
  rw [if_neg (mt (steps_iff b o).1 h), hgood', Claims.Servo.mk.injEq]
  simp only [hfar, ← clampTo_eq]
  rw [show (servoOf b).st = st from hst]
  refine ⟨?_, rfl, ?_, ?_, trivial⟩
  · refine servoStart_eq ?_ _
    by_cases hl : st = 1 ∧ b.get F.TIM_SRV_LOCK_LOCK_CNT ≤ good
    · exact .inr ⟨hl.1, if_pos hl⟩
    · exact .inl (if_neg hl)
  · unfold servoNext servoPi
    dsimp only
    rw [hst, hoc, Nat.cast_ite]
    rfl
  · unfold servoNext servoPi
    dsimp only
    rw [hst, hoc, Nat.cast_ite, Nat.cast_ite]
    rfl

/-- An update that does not step is the program's. -/
theorem servoUpdate_gives_track (c : Clk) (hen : b.on F.TIM_CTL_SRV_EN = true) (hhold : b.on F.TIM_CTL_HOLD = false)
    (h : ¬(b.get F.TIM_SRV_STEP_THRESH < o.natAbs ∧ b.get F.TIM_SRV_STEP_THRESH ≠ 0x7FFFFFFF)) :
    ServoGives c b (Claims.servoProgram b o (servoOf b)) (servoUpdate c o b) := by
  obtain ⟨hsrv, hgood⟩ := servoTracked_srv_good c o (updateNoted c o b) _ _ _ rfl rfl rfl
  have hmoves := servoTracked_moves c o (updateNoted c o b)
  rw [servoProgram_tracks h rfl rfl rfl, servoUpdate_tracks c o hen hhold h]
  have halters := ((updateNoted_alters _ c o b).trans (servoTrimmed_alters ..)).andThen (hmoves.alters.mono servoRegs_sub_stepRegs)
  refine ⟨halters, hsrv, hgood, servoTracked_integ .., servoTracked_rate .., ?_, ?_⟩
  · rw [hmoves.newPtp, servoTrimmed, Block.put_newPtp, Block.put_newPtp, updateNoted]
    rfl
  · rw [hmoves.alters.get (by simp [servoRegs, Fld.at, F.TIM_STEP_CNT_CNT, F.TIM_STAT_SRV, F.TIM_EVT_STEP]),
      servoTrimmed_get _ _ (by decide) (by decide), updateNoted_get, if_pos rfl]

/-- An update that is let in is the program's. -/
theorem servoUpdate_gives (c : Clk) (hen : b.on F.TIM_CTL_SRV_EN = true) (hhold : b.on F.TIM_CTL_HOLD = false) :
    ServoGives c b (Claims.servoProgram b o (servoOf b)) (servoUpdate c o b) := by
  by_cases h : b.get F.TIM_SRV_STEP_THRESH < o.natAbs ∧ b.get F.TIM_SRV_STEP_THRESH ≠ 0x7FFFFFFF
  · exact servoUpdate_gives_step c hen hhold h
  · exact servoUpdate_gives_track c hen hhold h

/-! ## The registers that the command finds -/

/-- The registers of the program's settings. -/
def servoSettings : List Fld :=
  [F.TIM_SRV_STEP_THRESH, F.TIM_SRV_RLIM_RLIM, F.TIM_SRV_LOCK_LOCK_NS, F.TIM_SRV_LOCK_LOCK_CNT, F.TIM_SRV_GAIN_ACQ_KP,
    F.TIM_SRV_GAIN_ACQ_KI, F.TIM_SRV_GAIN_KP, F.TIM_SRV_GAIN_KI]

/-- The program reads its settings alone. -/
theorem servoProgram_congr {b' : Block} (h : ∀ f ∈ servoSettings, b'.get f = b.get f) (x : Claims.Servo) :
    Claims.servoProgram b' o x = Claims.servoProgram b o x := by
  unfold Claims.servoProgram
  rw [h F.TIM_SRV_STEP_THRESH (by simp [servoSettings]), h F.TIM_SRV_RLIM_RLIM (by simp [servoSettings]),
    h F.TIM_SRV_LOCK_LOCK_NS (by simp [servoSettings]), h F.TIM_SRV_LOCK_LOCK_CNT (by simp [servoSettings]),
    h F.TIM_SRV_GAIN_ACQ_KP (by simp [servoSettings]), h F.TIM_SRV_GAIN_ACQ_KI (by simp [servoSettings]),
    h F.TIM_SRV_GAIN_KP (by simp [servoSettings]), h F.TIM_SRV_GAIN_KI (by simp [servoSettings])]

end Program

/-- The registers that an update's write reaches before the update. -/
def ofsRegs : Set Nat := {F.MTX_STAT_GATED.addr, F.TIM_SRV_OFS_LO_OFS_LO.addr, F.TIM_SRV_OFS_HI_OFS_HI.addr}

/-- The servo's own registers are not among them. -/
theorem not_mem_ofsRegs {f : Fld}
    (h : f ∈ [F.TIM_STAT_SRV, F.TIM_CTL_SRV_EN, F.TIM_CTL_HOLD, F.TIM_SRV_INTEG_INTEG, F.TIM_RATE_RATE, F.TIM_STEP_CNT_CNT] ++
      servoSettings) : f.at 0 0 0 ∉ ofsRegs := by
  have hno : ∀ f ∈ [F.TIM_STAT_SRV, F.TIM_CTL_SRV_EN, F.TIM_CTL_HOLD, F.TIM_SRV_INTEG_INTEG, F.TIM_RATE_RATE,
      F.TIM_STEP_CNT_CNT] ++ servoSettings, f.at 0 0 0 ≠ F.MTX_STAT_GATED.addr ∧ f.at 0 0 0 ≠ F.TIM_SRV_OFS_LO_OFS_LO.addr ∧
      f.at 0 0 0 ≠ F.TIM_SRV_OFS_HI_OFS_HI.addr := by decide
  obtain ⟨hm, hlo, hhi⟩ := hno f h
  rintro (h | h | h)
  · exact hm h
  · exact hlo h
  · exact hhi h

/-- The blocks at which an update acts: its offset in effect. -/
def State.ofsStored (s : State) (dt : Nat) (cls : Cls) (lo hi : Word) : Block :=
  s.stored dt cls F.TIM_SRV_OFS_HI_OFS_HI.addr [(F.TIM_SRV_OFS_LO_OFS_LO.addr, lo)] 0xFFFFFFFF hi

theorem ofsStored_finds (s : State) (dt : Nat) (cls : Cls) (lo hi : Word) : s.Finds ofsRegs (s.ofsStored dt cls lo hi) := by
  obtain ⟨ha, hn, ht, he, hf⟩ := s.stored_finds dt cls F.TIM_SRV_OFS_HI_OFS_HI.addr [(F.TIM_SRV_OFS_LO_OFS_LO.addr, lo)]
    0xFFFFFFFF hi
  refine ⟨ha.mono fun a h => ?_, hn, ht, he, hf⟩
  rcases h with rfl | rfl | ⟨q, hq, rfl⟩
  · exact .inl rfl
  · exact .inr (.inr rfl)
  · rw [List.mem_singleton.1 hq]
    exact .inr (.inl rfl)

/-- The clock after an update: stepped, or as time makes it. -/
theorem answers_clk_step {s : State} {dt : Nat} {S : Set Nat} {b b' : Block} {step : Option Int} (hq : s.blk.quiet = true)
    (ha : Block.Alters S s.blk b') (hb : b.newPtp = s.blk.newPtp)
    (hp : b'.newPtp = step.elim b.newPtp fun d => some (((s.pass dt).clk.ptp : Int) - d * nsTick).toNat) :
    (s.answers dt b').clk =
      step.elim (s.pass dt).clk fun d => (s.pass dt).clk.ofPtp (((s.pass dt).clk.ptp : Int) - d * nsTick).toNat := by
  cases step with
  | none => exact State.answers_clk hq ha (hp.trans hb)
  | some d => exact State.answers_clk_set hq ha hp

/-- Settles O7: an update that is let in is the program's, one that R60 ignores sets its flag. -/
theorem servoUpdateFollowsItsProgram : Obligations.ServoUpdateFollowsItsProgram := by
  intro dt cls hi lo s hw hc hq hlo
  dsimp only
  have hexec : exec (.servoUpdate dt cls hi) s = .next (s.answers dt (servoUpdate (s.pass dt).clk
      (toSigned 64 (lo.toNat + 2 ^ 32 * hi.toNat)) (s.ofsStored dt cls lo hi))) := exec_servoUpdate dt cls hi hw hc hlo
  obtain ⟨hfound, hnew, htim, -, -⟩ := ofsStored_finds s dt cls lo hi
  generalize s.ofsStored dt cls lo hi = b at *
  generalize toSigned 64 (lo.toNat + 2 ^ 32 * hi.toNat) = o at *
  have hget : ∀ f ∈ [F.TIM_STAT_SRV, F.TIM_CTL_SRV_EN, F.TIM_CTL_HOLD, F.TIM_SRV_INTEG_INTEG, F.TIM_RATE_RATE,
      F.TIM_STEP_CNT_CNT] ++ servoSettings, b.get f = s.blk.get f := fun f hf => hfound.get (not_mem_ofsRegs hf)
  have hon : ∀ f ∈ [F.TIM_STAT_SRV, F.TIM_CTL_SRV_EN, F.TIM_CTL_HOLD, F.TIM_SRV_INTEG_INTEG, F.TIM_RATE_RATE,
      F.TIM_STEP_CNT_CNT] ++ servoSettings, b.on f = s.blk.on f := fun f hf => hfound.on (not_mem_ofsRegs hf)
  have hof : servoOf b = servoOf s.blk := by
    simp only [servoOf, Block.geti, htim, hget F.TIM_STAT_SRV (by simp), hget F.TIM_SRV_INTEG_INTEG (by simp),
      hget F.TIM_RATE_RATE (by simp)]
  have hprog : Claims.servoProgram b o (servoOf b) = Claims.servoProgram s.blk o (servoOf s.blk) := by
    rw [hof]
    exact servoProgram_congr (fun f hf => hget f (List.mem_append_right _ hf)) _
  refine ⟨fun hen hhold => ?_, fun hign => ?_⟩
  · obtain ⟨hupd, hst, hgood, hinteg, hrate, hp, hcnt⟩ := servoUpdate_gives (o := o) (s.pass dt).clk
      ((hon F.TIM_CTL_SRV_EN (by simp)).trans hen) ((hon F.TIM_CTL_HOLD (by simp)).trans hhold)
    rw [hprog] at hst hgood hinteg hrate hp hcnt
    have halters := hfound.andThen hupd
    have hy : Claims.servoProgram s.blk o {
        st := s.blk.get F.TIM_STAT_SRV, good := s.blk.tim.good, integ := s.blk.geti F.TIM_SRV_INTEG_INTEG,
        rate := s.blk.geti F.TIM_RATE_RATE, step := none } = Claims.servoProgram s.blk o (servoOf s.blk) := rfl
    rw [hy]
    generalize Claims.servoProgram s.blk o (servoOf s.blk) = y at *
    refine ⟨_, hexec, ?_, ?_, ?_, ?_, ?_, ?_, ?_, State.answers_mem hq halters⟩
    · rw [State.answers_get, hst]
    · rw [State.answers_tim, hgood]
    · rw [State.answers_geti, hinteg]
    · rw [State.answers_geti, hrate]
    · rw [answers_clk_step hq halters hnew hp]
      cases y.step <;> rfl
    · rw [answers_clk_step hq halters hnew hp]
      cases y.step <;> rfl
    · rw [State.answers_get, hcnt, hget F.TIM_STEP_CNT_CNT (by simp)]
  · rw [servoUpdate_ignored _ _ _ (by
      rwa [hon F.TIM_CTL_SRV_EN (by simp), hon F.TIM_CTL_HOLD (by simp)])] at hexec
    have halters : Block.Alters (ofsRegs ∪ {F.TIM_EVT_WIGN.addr}) s.blk (b.evt F.TIM_EVT_WIGN) :=
      hfound.andThen ((Block.Alters.refl _ b).evt rfl)
    have hkeep : ∀ f ∈ [F.TIM_STAT_SRV, F.TIM_SRV_INTEG_INTEG, F.TIM_RATE_RATE],
        (b.evt F.TIM_EVT_WIGN).get f = s.blk.get f := by
      intro f hf
      have hne : ∀ f ∈ [F.TIM_STAT_SRV, F.TIM_SRV_INTEG_INTEG, F.TIM_RATE_RATE],
          F.TIM_EVT_WIGN.at 0 0 0 ≠ f.at 0 0 0 := by decide
      rw [Block.get_evt, Block.get_put_other _ F.TIM_EVT_WIGN f _ _ _ _ _ _ _ (hne f hf)]
      refine hget f ?_
      simp only [List.mem_cons, List.not_mem_nil, or_false] at hf
      rcases hf with rfl | rfl | rfl <;> simp
    refine ⟨_, hexec, ?_, ?_, ?_, ?_, ?_, State.answers_clk hq halters hnew⟩
    · rw [State.answers_on]
      exact Block.on_evt _ (by unfold Fld.fits; decide) rfl 0 0
    · rw [State.answers_get, hkeep _ (by simp)]
    · rw [State.answers_tim, Block.evt_tim, htim]
    · rw [State.answers_geti, Block.geti, hkeep _ (by simp)]
      rfl
    · rw [State.answers_geti, Block.geti, hkeep _ (by simp)]
      rfl

end Sys2Proof.Machine
end

section
/-! What puts the servo into FREE, ACQUIRE and HOLDOVER (R58-R60). -/

namespace Sys2Proof.Machine

open Sys2Proof

/-! ## A command of no register -/

section Ends

variable {s : State} {dt : Nat} {b : Block} {S : Set Nat}

theorem State.found_finds (s : State) (dt : Nat) : s.Finds ∅ (s.found dt) :=
  ⟨⟨rfl, rfl, rfl, fun _ _ => rfl⟩, rfl, rfl, rfl, rfl⟩

theorem State.ends_tim (s : State) (dt : Nat) (b : Block) : (s.ends dt b).blk.tim = b.tim := by rw [State.ends_blk]

theorem State.ends_mem_of_alters (hq : s.blk.quiet = true) (h : Block.Alters S s.blk b) : (s.ends dt b).mem = s.mem := by
  obtain ⟨hs, -⟩ := (Block.quiet_iff _).1 hq
  rw [s.ends_mem, h.stores, hs, Mem.puts_nil]

theorem State.ends_clk_of_alters (hq : s.blk.quiet = true) (h : Block.Alters S s.blk b) (hn : b.newPtp = s.blk.newPtp) :
    (s.ends dt b).clk = (s.pass dt).clk := by
  obtain ⟨-, hp, hc, -⟩ := (Block.quiet_iff _).1 hq
  exact s.ends_clk dt _ (hn.trans hp) (h.clkReset.trans hc)

/-- A command that alters neither the rate trim nor the integral, nor sets the clock. -/
theorem State.ends_servoKept (hq : s.blk.quiet = true) (h : Block.Alters S s.blk b) (hn : b.newPtp = s.blk.newPtp)
    (hr : F.TIM_RATE_RATE.addr ∉ S) (hi : F.TIM_SRV_INTEG_INTEG.addr ∉ S) : Claims.servoKept s (s.ends dt b) dt := by
  refine ⟨?_, ?_, State.ends_clk_of_alters hq h hn, State.ends_mem_of_alters hq h⟩
  · rw [State.ends_reg, h.reg _ hr]
  · rw [State.ends_reg, h.reg _ hi]

theorem State.answers_servoKept (hq : s.blk.quiet = true) (h : Block.Alters S s.blk b) (hn : b.newPtp = s.blk.newPtp)
    (hr : F.TIM_RATE_RATE.addr ∉ S) (hi : F.TIM_SRV_INTEG_INTEG.addr ∉ S) : Claims.servoKept s (s.answers dt b) dt :=
  State.ends_servoKept hq (h.resp .done) hn hr hi

end Ends

/-! ## A write of TIM_CTL -/

/-- The registers of the servo's control and of what it does to the servo's state. -/
def ctlRegs : Set Nat := {F.MTX_STAT_GATED.addr, F.TIM_CTL_SRV_EN.addr} ∪ servoRegs

theorem not_mem_ctlRegs : F.TIM_RATE_RATE.addr ∉ ctlRegs ∧ F.TIM_SRV_INTEG_INTEG.addr ∉ ctlRegs := by
  simp [ctlRegs, servoRegs, F.TIM_RATE_RATE, F.TIM_SRV_INTEG_INTEG, F.MTX_STAT_GATED, F.TIM_CTL_SRV_EN, F.TIM_STAT_SRV,
    F.TIM_EVT_STEP]

section Ctl

variable (s : State) (dt : Nat) (cls : Cls) (x : Word)

/-- The blocks at which a write of TIM_CTL acts. -/
def State.ctlStored : Block := s.stored dt cls F.TIM_CTL_SRV_EN.addr [] 3 x

theorem ctlStored_finds : s.Finds ctlRegs (s.ctlStored dt cls x) := by
  obtain ⟨ha, hn, ht, he, hf⟩ := s.stored_finds dt cls F.TIM_CTL_SRV_EN.addr [] 3 x
  refine ⟨ha.mono fun a h => ?_, hn, ht, he, hf⟩
  rcases h with rfl | rfl | ⟨q, hq, -⟩
  · exact .inl (.inl rfl)
  · exact .inl (.inr rfl)
  · exact absurd hq (by simp)

/-- A field of TIM_CTL reads as written. -/
theorem ctlStored_on {f : Fld} (ha : f.at 0 0 0 = F.TIM_CTL_SRV_EN.addr) (hf : f.fits) (hm : f.of 3 = 2 ^ f.width - 1) :
    (s.ctlStored dt cls x).on f = (f.of x == 1) := by
  have hr := s.stored_reg dt cls [] 3 x (p := F.TIM_CTL_SRV_EN.addr) (by decide) (by simp)
  rw [Block.on, Block.get, ha, State.ctlStored, hr, Fld.of_merge hf hm]

variable {f g : Fld} (v : Bool)

/-- The field of a one-field write. -/
theorem ctlStored_on_self (ha : f.at 0 0 0 = F.TIM_CTL_SRV_EN.addr) (hf : f.fits) (hm : f.of 3 = 2 ^ f.width - 1)
    (hw : f.width = 1) : (s.ctlStored dt cls (f.into (s.blk.reg F.TIM_CTL_SRV_EN.addr &&& 3) (b2n v))).on f = v := by
  rw [ctlStored_on s dt cls _ ha hf hm, Fld.of_into _ hf, hw]
  cases v <;> rfl

/-- The other field keeps its value. -/
theorem ctlStored_on_other (hf : f.fits) (ha : g.at 0 0 0 = F.TIM_CTL_SRV_EN.addr) (hg : g.fits)
    (hm : g.of 3 = 2 ^ g.width - 1) (hap : f.apart g) :
    (s.ctlStored dt cls (f.into (s.blk.reg F.TIM_CTL_SRV_EN.addr &&& 3) (b2n v))).on g = s.blk.on g := by
  rw [ctlStored_on s dt cls _ ha hg hm, Fld.of_into_apart _ _ hf hap, Fld.of_and hg hm, Block.on, Block.get, ha]

end Ctl

section Moves

variable {s : State} {dt : Nat} {b b' : Block}

/-- A move of the servo after a write of TIM_CTL keeps the rate trim, the integral and the clocks. -/
theorem ctl_servoKept (hq : s.blk.quiet = true) (hb : s.Finds ctlRegs b) (h : Block.Moves b b') :
    Claims.servoKept s (s.answers dt b') dt := by
  obtain ⟨hr, hi⟩ := not_mem_ctlRegs
  exact State.answers_servoKept hq (hb.alters.trans (h.alters.mono Set.subset_union_right)) (h.newPtp.trans hb.newPtp) hr hi

/-- A move leaves TIM_CTL as it is. -/
theorem Block.Moves.ctl_on (h : Block.Moves b b') {f : Fld} (ha : f.at 0 0 0 = F.TIM_CTL_SRV_EN.addr) : b'.on f = b.on f := by
  refine h.alters.on ?_
  rw [ha]
  simp [servoRegs, F.TIM_CTL_SRV_EN, F.TIM_STAT_SRV, F.TIM_EVT_STEP]

end Moves

theorem servoCtl_free {b : Block} (h : b.on F.TIM_CTL_SRV_EN = false) : servoCtl b = enterFree b := if_pos (by simp [h])

theorem servoCtl_hold {b : Block} (h : b.on F.TIM_CTL_SRV_EN = true) (hh : b.on F.TIM_CTL_HOLD = true) :
    servoCtl b = enterHoldover b := by
  unfold servoCtl
  rw [if_neg (by simp [h]), if_pos hh]

section Writes

variable {dt : Nat} {cls : Cls} {s : State} (hq : s.blk.quiet = true) (hc : Calm s 4)
  (hw : Writable s cls F.TIM_CTL_SRV_EN.addr)
include hq hc hw

theorem servoDisable_frees : ∃ t : State, exec (.servoEnableWrite dt cls false) s = .next t ∧
    t.blk.get F.TIM_STAT_SRV = srvFree ∧ t.blk.on F.TIM_CTL_SRV_EN = false ∧ Claims.servoKept s t dt := by
  have hexec : exec (.servoEnableWrite dt cls false) s = .next (s.answers dt (servoCtl (s.ctlStored dt cls _))) :=
    exec_servoEnableWrite dt cls false hw hc
  have hen := ctlStored_on_self s dt cls (f := F.TIM_CTL_SRV_EN) false rfl (by unfold Fld.fits; decide) (by decide) rfl
  rw [servoCtl_free hen] at hexec
  refine ⟨_, hexec, ?_, ?_, ctl_servoKept hq (ctlStored_finds ..) (enterFree_moves _)⟩
  · rw [State.answers_get, enterFree_srv]
  · rw [State.answers_on, (enterFree_moves _).ctl_on rfl, hen]

theorem servoEnable_holds (hh : s.blk.on F.TIM_CTL_HOLD = true) : ∃ t : State, exec (.servoEnableWrite dt cls true) s = .next t ∧
    t.blk.get F.TIM_STAT_SRV = srvHoldover ∧ Claims.servoKept s t dt := by
  have hexec : exec (.servoEnableWrite dt cls true) s = .next (s.answers dt (servoCtl (s.ctlStored dt cls _))) :=
    exec_servoEnableWrite dt cls true hw hc
  have hen := ctlStored_on_self s dt cls (f := F.TIM_CTL_SRV_EN) true rfl (by unfold Fld.fits; decide) (by decide) rfl
  have hhold := ctlStored_on_other s dt cls (f := F.TIM_CTL_SRV_EN) (g := F.TIM_CTL_HOLD) true
    (by unfold Fld.fits; decide) rfl (by unfold Fld.fits; decide) (by decide) (by unfold Fld.apart; decide)
  rw [servoCtl_hold hen (hhold.trans hh)] at hexec
  refine ⟨_, hexec, ?_, ctl_servoKept hq (ctlStored_finds ..) (enterHoldover_moves _)⟩
  rw [State.answers_get, enterHoldover_srv]

theorem servoHold_holds (he : s.blk.on F.TIM_CTL_SRV_EN = true) : ∃ t : State, exec (.servoHoldWrite dt cls true) s = .next t ∧
    t.blk.get F.TIM_STAT_SRV = srvHoldover ∧ t.blk.on F.TIM_CTL_HOLD = true ∧ Claims.servoKept s t dt := by
  have hexec : exec (.servoHoldWrite dt cls true) s = .next (s.answers dt (servoCtl (s.ctlStored dt cls _))) :=
    exec_servoHoldWrite dt cls true hw hc
  have hhold := ctlStored_on_self s dt cls (f := F.TIM_CTL_HOLD) true rfl (by unfold Fld.fits; decide) (by decide) rfl
  have hen := ctlStored_on_other s dt cls (f := F.TIM_CTL_HOLD) (g := F.TIM_CTL_SRV_EN) true
    (by unfold Fld.fits; decide) rfl (by unfold Fld.fits; decide) (by decide) (by unfold Fld.apart; decide)
  rw [servoCtl_hold (hen.trans he) hhold] at hexec
  refine ⟨_, hexec, ?_, ?_, ctl_servoKept hq (ctlStored_finds ..) (enterHoldover_moves _)⟩
  · rw [State.answers_get, enterHoldover_srv]
  · rw [State.answers_on, (enterHoldover_moves _).ctl_on rfl, hhold]

end Writes

/-! ## A new master and the time without an update -/

section Events

variable (c : Clk) {b : Block}

theorem masterChange_acquires (h : b.get F.TIM_STAT_SRV = srvAcquire ∨ b.get F.TIM_STAT_SRV = srvLocked) :
    masterChange c b = (enterAcquire c 0 b).record 0x0404 3 (b.get F.TIM_RATE_RATE) (b.get F.TIM_SRV_INTEG_INTEG) := if_pos h

theorem masterChange_ignored (h : ¬(b.get F.TIM_STAT_SRV = srvAcquire ∨ b.get F.TIM_STAT_SRV = srvLocked)) :
    masterChange c b = b.evt F.TIM_EVT_WIGN := if_neg h

theorem masterChange_moves (b : Block) : Block.Moves b (masterChange c b) :=
  .ite ((enterAcquire_moves ..).record ..) ((Block.Moves.refl b).evt rfl (by unfold Fld.fits; decide) rfl)

theorem holdoverTimeout_due (h : b.get F.TIM_STAT_SRV = srvAcquire ∨ b.get F.TIM_STAT_SRV = srvLocked)
    (hd : b.tim.since + b.get F.TIM_SRV_HOLD_HOLD_MS * msTick ≤ c.steady) :
    holdoverTimeout c b = enterHoldover b := if_pos ⟨h, hd⟩

theorem holdoverTimeout_early (h : c.steady < b.tim.since + b.get F.TIM_SRV_HOLD_HOLD_MS * msTick) :
    holdoverTimeout c b = b := if_neg fun ⟨_, hd⟩ => absurd hd (Nat.not_le.2 h)

theorem holdoverTimeout_moves (b : Block) : Block.Moves b (holdoverTimeout c b) := .ite (enterHoldover_moves b) (.refl b)

end Events

theorem exec_holdoverTimeout {s : State} (dt : Nat) (h : s.blk.hold = .none) :
    exec (.holdoverTimeout dt) s = .next (s.ends dt (holdoverTimeout (s.pass dt).clk (s.found dt))) := s.run_eq_ends dt _ h

theorem masterChange_answer {dt : Nat} {cls : Cls} {s : State} (hq : s.blk.quiet = true) (hc : Calm s 4)
    (hw : Writable s cls F.TIM_MASTER_NEW.addr) :
    ∃ t : State, exec (.masterChange dt cls) s = .next t ∧ Claims.servoKept s t dt ∧
      (s.blk.get F.TIM_STAT_SRV = srvAcquire ∨ s.blk.get F.TIM_STAT_SRV = srvLocked →
        t.blk.get F.TIM_STAT_SRV = srvAcquire ∧ t.blk.tim.good = 0 ∧
          t.blk.evq.map (·.code) = s.blk.evq.map (·.code) ++ [0x0404]) ∧
      (s.blk.get F.TIM_STAT_SRV = srvFree ∨ s.blk.get F.TIM_STAT_SRV = srvHoldover →
        t.blk.get F.TIM_STAT_SRV = s.blk.get F.TIM_STAT_SRV ∧ t.blk.on F.TIM_EVT_WIGN = true ∧ t.blk.evq = s.blk.evq) := by
  have hexec := exec_masterChange dt cls hw hc
  obtain ⟨halters, hnew, -, hevq, -⟩ := s.stored_nothing dt cls 1 (p := F.TIM_MASTER_NEW.addr) (by decide)
  generalize s.stored dt cls F.TIM_MASTER_NEW.addr [] 0 1 = b at *
  have hsrv : b.get F.TIM_STAT_SRV = s.blk.get F.TIM_STAT_SRV := halters.get (by simp [Fld.at, F.TIM_STAT_SRV, F.MTX_STAT_GATED])
  have hmoves := masterChange_moves (s.pass dt).clk b
  obtain ⟨hr, hi⟩ := not_mem_ctlRegs
  have hall : Block.Alters ctlRegs s.blk (masterChange (s.pass dt).clk b) :=
    (halters.mono fun a ha => .inl (.inl ha)).trans (hmoves.alters.mono Set.subset_union_right)
  refine ⟨_, hexec, State.answers_servoKept hq hall (hmoves.newPtp.trans hnew) hr hi, fun hst => ?_, fun hst => ?_⟩
  · rw [← hsrv] at hst
    have hne : b.get F.TIM_STAT_SRV ≠ srvHoldover := by rcases hst with h | h <;> rw [h] <;> decide
    rw [masterChange_acquires _ hst]
    refine ⟨?_, ?_, ?_⟩
    · rw [State.answers_get, Block.get_record, enterAcquire_srv]
    · rw [State.answers_tim, Block.record_tim, enterAcquire_good]
    · rw [State.answers_evq, Block.record_evq, enterAcquire_evq _ _ _ hne, hevq, List.map_append]
      rfl
  · rw [masterChange_ignored _ (by rw [hsrv]; rcases hst with h | h <;> rw [h] <;> decide)]
    refine ⟨?_, ?_, ?_⟩
    · rw [State.answers_get, Block.get_evt, Block.get_put_other _ _ _ _ _ _ _ _ _ _ (by decide), hsrv]
    · rw [State.answers_on]
      exact Block.on_evt _ (by unfold Fld.fits; decide) rfl 0 0
    · rw [State.answers_evq, Block.evt_evq, hevq]

theorem holdoverTimeout_answer {dt : Nat} {s : State} (hq : s.blk.quiet = true) (hh : s.blk.hold = .none) :
    ∃ t : State, exec (.holdoverTimeout dt) s = .next t ∧ Claims.servoKept s t dt ∧
      (s.blk.get F.TIM_STAT_SRV = srvAcquire ∨ s.blk.get F.TIM_STAT_SRV = srvLocked →
        s.blk.tim.since + s.blk.get F.TIM_SRV_HOLD_HOLD_MS * msTick ≤ (s.pass dt).clk.steady →
        t.blk.get F.TIM_STAT_SRV = srvHoldover ∧ t.blk.on F.TIM_EVT_HOLD_IN = true) ∧
      ((s.pass dt).clk.steady < s.blk.tim.since + s.blk.get F.TIM_SRV_HOLD_HOLD_MS * msTick → t.blk.regs = s.blk.regs) := by
  have hexec := exec_holdoverTimeout dt hh
  obtain ⟨halters, hnew, htim, -, -⟩ := s.found_finds dt
  have hregs : (s.found dt).regs = s.blk.regs := rfl
  generalize s.found dt = b at *
  have hget : ∀ f : Fld, b.get f = s.blk.get f := fun f => halters.get (by simp)
  have hmoves := holdoverTimeout_moves (s.pass dt).clk b
  obtain ⟨hr, hi⟩ := not_mem_ctlRegs
  have hall : Block.Alters ctlRegs s.blk (holdoverTimeout (s.pass dt).clk b) :=
    (halters.mono (Set.empty_subset _)).trans (hmoves.alters.mono Set.subset_union_right)
  refine ⟨_, hexec, State.ends_servoKept hq hall (hmoves.newPtp.trans hnew) hr hi, fun hst hd => ?_, fun hlt => ?_⟩
  · rw [← hget] at hst
    rw [← hget, ← htim] at hd
    have hne : b.get F.TIM_STAT_SRV ≠ srvHoldover := by rcases hst with h | h <;> rw [h] <;> decide
    rw [holdoverTimeout_due _ hst hd, State.ends_get, State.ends_on]
    exact ⟨enterHoldover_srv _, enterHoldover_flag _ hne⟩
  · rw [← hget, ← htim] at hlt
    rw [holdoverTimeout_early _ hlt, State.ends_blk, hregs]

/-- Settles O8, command by command. -/
theorem servoChangesState : Obligations.ServoChangesState := fun _ _ _ hq hc =>
  ⟨fun hw => ⟨servoDisable_frees hq hc hw, servoEnable_holds hq hc hw, servoHold_holds hq hc hw⟩, masterChange_answer hq hc,
    holdoverTimeout_answer hq⟩

end Sys2Proof.Machine
end

section
/-! The rules about heads and calendar entries: their records, their formats, and what checking an entry does (R64, R75). -/

namespace Sys2Proof.Machine

open Sys2Proof

/-! ## Records by number -/

theorem tget_tput {α : Type} [DecidableEq α] (d : α) (m : List (Nat × α)) (k j : Nat) (v : α) :
    tget d (tput d m k v) j = if k = j then v else tget d m j := sparseGet_put ..

theorem tget_tput_same {α : Type} [DecidableEq α] (d : α) (m : List (Nat × α)) (k : Nat) (v : α) :
    tget d (tput d m k v) k = v := by rw [tget_tput, if_pos rfl]

section Ras

variable (b : Block) (h : Nat) (r : Raster)

theorem Block.setRas_ras : (b.setRas h r).ras h = r := tget_tput_same ..
theorem Block.get_setRas (f : Fld) (i j k : Nat) : (b.setRas h r).get f i j k = b.get f i j k := rfl
theorem Block.on_setRas (f : Fld) (i j k : Nat) : (b.setRas h r).on f i j k = b.on f i j k := rfl
theorem Block.setRas_evq : (b.setRas h r).evq = b.evq := rfl
theorem Block.setRas_newPtp : (b.setRas h r).newPtp = b.newPtp := rfl

variable {b}

/-- A raster is no register's. -/
theorem Block.Alters.setRas {S : Set Nat} {b' : Block} (hb : Block.Alters S b b') : Block.Alters S b (b'.setRas h r) :=
  hb.keep rfl rfl rfl rfl

theorem Block.ras_of_tim {b' : Block} (ht : b'.tim = b.tim) : b'.ras h = b.ras h := by rw [Block.ras, Block.ras, ht]

end Ras

/-! ## The format of a head -/

/-- The registers of the heads' formats: four words of each head's block of sixteen. -/
def fmtRegs : Set Nat := {a | a / 0x1000 = 0x41 ∧ 4 ≤ a % 0x40 ∧ a % 0x40 < 0x14}

/-- The fields of a head's format. -/
def fmtFields : List Fld :=
  [F.TIM_HEAD_RATE_NUM, F.TIM_HEAD_RATE_DEN, F.TIM_HEAD_VLINES_TOTAL, F.TIM_HEAD_VLINES_ACT, F.TIM_HEAD_VBLANK_VFP,
    F.TIM_HEAD_VBLANK_VSY, F.TIM_HEAD_ALIGN_OFS]

theorem fmtFields_regs {f : Fld} (hf : f ∈ fmtFields) {h : Nat} (hh : h < 64) : f.at h ∈ fmtRegs := by
  have hform : ∀ f ∈ fmtFields, f.si = 0x40 ∧ f.addr / 0x40 = 0x1040 ∧ 4 ≤ f.addr % 0x40 ∧ f.addr % 0x40 < 0x14 := by
    decide
  obtain ⟨hsi, hbase, hlo, hhi⟩ := hform f hf
  simp only [fmtRegs, Set.mem_ofPred_eq, Fld.at, hsi]
  omega

theorem Block.fmt_congr {b b' : Block} {h : Nat} (heq : ∀ f ∈ fmtFields, b'.get f h = b.get f h) : b'.fmt h = b.fmt h := by
  simp only [Block.fmt, Block.geti, heq F.TIM_HEAD_RATE_NUM (by simp [fmtFields]), heq F.TIM_HEAD_RATE_DEN (by simp [fmtFields]),
    heq F.TIM_HEAD_VLINES_TOTAL (by simp [fmtFields]), heq F.TIM_HEAD_VLINES_ACT (by simp [fmtFields]),
    heq F.TIM_HEAD_VBLANK_VFP (by simp [fmtFields]), heq F.TIM_HEAD_VBLANK_VSY (by simp [fmtFields]),
    heq F.TIM_HEAD_ALIGN_OFS (by simp [fmtFields])]

/-- A head's format is as before when no register of it is altered. -/
theorem Block.Alters.fmt {S : Set Nat} {b b' : Block} (ha : Block.Alters S b b') (hS : ∀ a ∈ S, a ∉ fmtRegs) {h : Nat}
    (hh : h < 64) : b'.fmt h = b.fmt h :=
  Block.fmt_congr fun _ hf => ha.get fun hm => hS _ hm (fmtFields_regs hf hh)

/-! ## The check of a calendar entry -/

/-- A field of the calendar names one of the 64 heads. -/
theorem calHead_lt (v : Word) : F.TIM_CAL_POS_HEAD.of v < 64 := Nat.mod_lt _ (by decide)

section CalCheck

variable (e : Nat) (b : Block)

/-- An entry as it must be (R75, R83). -/
def calLegal : Bool := calPosOk b e && calTargetOk (b.get F.TIM_CAL_ACT_TARGET e)

/-- The registers that a check reaches. -/
def calCheckRegs : Set Nat := {F.TIM_CAL_ACT_EN.at e, F.TIM_EVT_CAL_ERR.addr}

theorem calCheck_legal (h : calLegal e b = true) : calCheck e b = b := if_pos h

theorem calCheck_illegal (h : ¬calLegal e b = true) :
    calCheck e b = ((b.flag F.TIM_CAL_ACT_EN false e).evt F.TIM_EVT_CAL_ERR).record 0x0407 2 e
      (b.reg (F.TIM_CAL_POS_HEAD.at e)).toNat (b.reg (F.TIM_CAL_ACT_EN.at e)).toNat := if_neg h

theorem calCheck_alters : Block.Alters (calCheckRegs e) b (calCheck e b) :=
  .ite (.refl _ b) ((((Block.Alters.refl _ b).flag (.inl rfl) _).evt (.inr rfl)).record ..)

theorem calCheck_newPtp : (calCheck e b).newPtp = b.newPtp := by
  unfold calCheck
  split
  · rfl
  · rw [Block.record_newPtp, Block.evt_newPtp, Block.flag_newPtp]

/-- The entry's words stand above the block of flags. -/
theorem calAct_ne_evt (f : Fld) (ha : f.addr = 0x42004) (hs : f.si = 8) : F.TIM_EVT_CAL_ERR.at 0 0 ≠ f.at e := by
  simp only [Fld.at, F.TIM_EVT_CAL_ERR, ha, hs]
  omega

variable {e b}

/-- A check leaves the fields of an entry beside EN alone. -/
theorem calCheck_get {f : Fld} (ha : f.addr = 0x42004) (hs : f.si = 8) (hap : F.TIM_CAL_ACT_EN.apart f) :
    (calCheck e b).get f e = b.get f e := by
  by_cases h : calLegal e b = true
  · rw [calCheck_legal e b h]
  · rw [calCheck_illegal e b h, Block.get_record, Block.get_evt, Block.get_put_other _ _ _ _ _ _ _ _ _ _ (calAct_ne_evt e f ha hs)]
    exact Block.get_put_apart _ _ _ (by unfold Fld.fits; decide) hap ..

/-- An entry that fails the check is disabled, with its flag. -/
theorem calCheck_illegal_en (h : ¬calLegal e b = true) : (calCheck e b).on F.TIM_CAL_ACT_EN e = false := by
  rw [calCheck_illegal e b h, Block.on, Block.get_record, Block.get_evt,
    Block.get_put_other _ _ _ _ _ _ _ _ _ _ (calAct_ne_evt e F.TIM_CAL_ACT_EN rfl rfl), Block.flag,
    Block.get_put_self _ F.TIM_CAL_ACT_EN (by decide) (by decide)]
  rfl

theorem calCheck_illegal_flag (h : ¬calLegal e b = true) : (calCheck e b).on F.TIM_EVT_CAL_ERR = true := by
  rw [calCheck_illegal e b h, Block.on, Block.get_record]
  exact Block.on_evt _ (by unfold Fld.fits; decide) rfl 0 0

theorem calCheck_illegal_codes (h : ¬calLegal e b = true) :
    (calCheck e b).evq.map (·.code) = b.evq.map (·.code) ++ [0x0407] := by
  rw [calCheck_illegal e b h, Block.record_evq, Block.evt_evq, Block.flag_evq, List.map_append]
  rfl

end CalCheck

theorem calTargetOk_iff (t : Nat) :
    calTargetOk t = true ↔ t ∈ [0x05, 0x06, 0x14, 0x20, 0x21, 0x22, 0x23, 0x24, 0x30, 0x31, 0xF0, 0xF1, 0xF2, 0xF3, 0xF8] := by
  simp only [calTargetOk, Bool.or_eq_true, Bool.and_eq_true, beq_iff_eq, decide_eq_true_eq, List.mem_cons, List.not_mem_nil,
    or_false]
  omega

end Sys2Proof.Machine
end

section
/-! The calendar: an entry is checked when it is applied (R74, R75), and fires once in a frame (R74, R78, R387). -/

namespace Sys2Proof.Machine

open Sys2Proof

/-! ## The application of an entry -/

section Apply

variable (s : State) (dt : Nat) (cls : Cls) (e : Fin 256) (pos v : Word)

/-- The blocks at which an entry is checked: both its words in effect. -/
def State.calStored : Block := s.stored dt cls (F.TIM_CAL_ACT_EN.at e.val) [(F.TIM_CAL_POS_HEAD.at e.val, pos)] 0x3FFFF v

/-- The registers that the application reaches before the check. -/
def calWords (e : Nat) : Set Nat := {F.MTX_STAT_GATED.addr, F.TIM_CAL_POS_HEAD.at e, F.TIM_CAL_ACT_EN.at e}

theorem calStored_finds : s.Finds (calWords e.val) (s.calStored dt cls e pos v) := by
  obtain ⟨ha, hn, ht, he, hf⟩ := s.stored_finds dt cls (F.TIM_CAL_ACT_EN.at e.val) [(F.TIM_CAL_POS_HEAD.at e.val, pos)] 0x3FFFF v
  refine ⟨ha.mono fun a h => ?_, hn, ht, he, hf⟩
  rcases h with rfl | rfl | ⟨q, hq, rfl⟩
  · exact .inl rfl
  · exact .inr (.inr rfl)
  · rw [List.mem_singleton.1 hq]
    exact .inr (.inl rfl)

theorem calPos_ne_act : F.TIM_CAL_POS_HEAD.at e.val ≠ F.TIM_CAL_ACT_EN.at e.val := by
  simp only [Fld.at, F.TIM_CAL_POS_HEAD, F.TIM_CAL_ACT_EN]
  omega

theorem calStored_pos : (s.calStored dt cls e pos v).reg (F.TIM_CAL_POS_HEAD.at e.val) = pos :=
  s.stored_reg_low dt cls _ _ _ _ (by simp) (List.mem_singleton.2 rfl) (calPos_ne_act e)

/-- A field of the entry's first word reads as staged. -/
theorem calStored_get_pos {f : Fld} (ha : f.at e.val = F.TIM_CAL_POS_HEAD.at e.val) :
    (s.calStored dt cls e pos v).get f e.val = f.of pos := by rw [Block.get, ha, calStored_pos]

/-- A field of the entry's second word reads as written. -/
theorem calStored_act {f : Fld} (ha : f.at e.val = F.TIM_CAL_ACT_EN.at e.val) (hf : f.fits) (hm : f.of 0x3FFFF = 2 ^ f.width - 1) :
    (s.calStored dt cls e pos v).get f e.val = f.of v := by
  have hr := s.stored_reg dt cls [(F.TIM_CAL_POS_HEAD.at e.val, pos)] 0x3FFFF v (p := F.TIM_CAL_ACT_EN.at e.val)
    (by simp only [Fld.at, F.MTX_STAT_GATED, F.TIM_CAL_ACT_EN]; omega) (by simpa using calPos_ne_act e)
  rw [Block.get, ha, State.calStored, hr, Fld.of_merge hf hm]

set_option maxRecDepth 4000 in
theorem regAt_calAct : ∀ e : Fin 256, regAt (F.TIM_CAL_ACT_EN.at e.val) = some (Rg.TIM_CAL_ACT, [e.val]) := by decide

theorem exec_calendarEntryApply (hw : Writable s cls (F.TIM_CAL_ACT_EN.at e.val)) (hc : Calm s 4)
    (hpos : s.blk.stage.lookup (F.TIM_CAL_POS_HEAD.at e.val) = some pos) :
    exec (.calendarEntryApply dt cls e v) s =
      .next (s.answers dt (calApply (s.pass dt).clk e.val (s.calStored dt cls e pos v))) := by
  have hp : F.TIM_CAL_ACT_EN.at e.val / 0x10000 = 4 := by
    simp only [Fld.at, F.TIM_CAL_ACT_EN]
    omega
  have h4 : F.TIM_CAL_ACT_EN.at e.val % 4 = 0 := by
    simp only [Fld.at, F.TIM_CAL_ACT_EN]
    omega
  have ht : Rg.TIM_CAL_ACT.TriggersHigh 1 0x3FFFF := by constructor <;> decide
  have haddr : F.TIM_CAL_ACT_EN.at e.val - 4 * (1 - 0) = F.TIM_CAL_POS_HEAD.at e.val := by
    simp only [Fld.at, F.TIM_CAL_ACT_EN, F.TIM_CAL_POS_HEAD]
    omega
  have hl : lowWords (s.opened dt cls.val) Rg.TIM_CAL_ACT (F.TIM_CAL_ACT_EN.at e.val) = [(F.TIM_CAL_POS_HEAD.at e.val, pos)] := by
    refine (lowWords_opened (n := 1) (k := 0x3FFFF) rfl (fun _ => pos) fun i hi => ?_).trans ?_
    · interval_cases i
      rw [haddr]
      exact hpos
    · simp only [List.range_one, List.map_cons, List.map_nil, haddr]
  refine (writeAt_tim (p := F.TIM_CAL_ACT_EN.at e.val) v hw hp h4).trans ?_
  rw [regWrite_opened_high _ hc hp (regAt_calAct e) ht hl]
  rfl

/-- The calendar's own record is no register. -/
theorem Block.get_tim (b : Block) (t : Tim) (f : Fld) (i j k : Nat) : ({ b with tim := t } : Block).get f i j k = b.get f i j k := rfl

theorem Block.Alters.tim {S : Set Nat} {b b' : Block} (h : Block.Alters S b b') (t : Tim) :
    Block.Alters S b { b' with tim := t } := h.keep rfl rfl rfl rfl

/-- The block that is checked when an entry is applied. -/
def calNoted (c : Clk) (e : Nat) (b : Block) : Block :=
  { b with tim := { b.tim with cal := tput {} b.tim.cal e { applied := some c.steady } } }

theorem calLegal_noted (c : Clk) (e : Nat) (b : Block) : calLegal e (calNoted c e b) = calLegal e b := rfl

theorem calApply_eq (c : Clk) (e : Nat) (b : Block) : calApply c e b = calCheck e (calNoted c e b) := rfl

/-- The entry as written is legal when its line lies in its region and its target is not reserved. -/
theorem calLegal_stored :
    calLegal e.val (s.calStored dt cls e pos v) = true ↔
      F.TIM_CAL_POS_LINE.of pos < (s.blk.fmt (F.TIM_CAL_POS_HEAD.of pos)).region (F.TIM_CAL_POS_REGION.of pos) ∧
        F.TIM_CAL_ACT_TARGET.of v ∈
          [0x05, 0x06, 0x14, 0x20, 0x21, 0x22, 0x23, 0x24, 0x30, 0x31, 0xF0, 0xF1, 0xF2, 0xF3, 0xF8] := by
  have htarget : (s.calStored dt cls e pos v).get F.TIM_CAL_ACT_TARGET e.val = F.TIM_CAL_ACT_TARGET.of v :=
    calStored_act s dt cls e pos v rfl (by unfold Fld.fits; decide) (by decide)
  have hfmt : (s.calStored dt cls e pos v).fmt (F.TIM_CAL_POS_HEAD.of pos) = s.blk.fmt (F.TIM_CAL_POS_HEAD.of pos) := by
    refine (calStored_finds s dt cls e pos v).alters.fmt (fun a ha hm => ?_) (calHead_lt pos)
    obtain ⟨hpage, -, -⟩ := hm
    rcases ha with rfl | rfl | rfl <;> simp only [Fld.at, F.MTX_STAT_GATED, F.TIM_CAL_POS_HEAD, F.TIM_CAL_ACT_EN] at hpage <;>
      omega
  rw [calLegal, Bool.and_eq_true, calTargetOk_iff, htarget, calPosOk, calStored_get_pos (f := F.TIM_CAL_POS_LINE) _ _ _ _ _ _ rfl,
    calStored_get_pos (f := F.TIM_CAL_POS_HEAD) _ _ _ _ _ _ rfl, calStored_get_pos (f := F.TIM_CAL_POS_REGION) _ _ _ _ _ _ rfl, hfmt,
    decide_eq_true_eq]

/-- CALENDAR_ENTRY_APPLY, as the obligation states it. -/
theorem calendarEntryApply_answer (hq : s.blk.quiet = true) (hw : Writable s cls (F.TIM_CAL_ACT_EN.at e.val)) (hc : Calm s 4)
    (hpos : s.blk.stage.lookup (F.TIM_CAL_POS_HEAD.at e.val) = some pos) :
    let head := F.TIM_CAL_POS_HEAD.of pos
    let inRegion := F.TIM_CAL_POS_LINE.of pos < (s.blk.fmt head).region (F.TIM_CAL_POS_REGION.of pos)
    let target := F.TIM_CAL_ACT_TARGET.of v
    let legal := target ∈ [0x05, 0x06, 0x14, 0x20, 0x21, 0x22, 0x23, 0x24, 0x30, 0x31, 0xF0, 0xF1, 0xF2, 0xF3, 0xF8]
    ∃ t : State, exec (.calendarEntryApply dt cls e v) s = .next t ∧ Claims.timOnly s t dt ∧
      t.blk.get F.TIM_CAL_POS_HEAD e.val = head ∧ t.blk.get F.TIM_CAL_POS_LINE e.val = F.TIM_CAL_POS_LINE.of pos ∧
      t.blk.get F.TIM_CAL_ACT_TARGET e.val = target ∧
      t.blk.get F.TIM_CAL_ACT_EVENT e.val = F.TIM_CAL_ACT_EVENT.of v ∧
      (inRegion ∧ legal → t.blk.get F.TIM_CAL_ACT_EN e.val = F.TIM_CAL_ACT_EN.of v ∧ t.blk.evq = s.blk.evq) ∧
      (¬ (inRegion ∧ legal) → t.blk.on F.TIM_CAL_ACT_EN e.val = false ∧ t.blk.on F.TIM_EVT_CAL_ERR = true ∧
        t.blk.evq.map (·.code) = s.blk.evq.map (·.code) ++ [0x0407]) := by
  dsimp only
  have hexec := exec_calendarEntryApply s dt cls e pos v hw hc hpos
  obtain ⟨hfound, hnew, -, hevq, -⟩ := calStored_finds s dt cls e pos v
  have hlegal := calLegal_stored s dt cls e pos v
  have hget : ∀ f ∈ [F.TIM_CAL_POS_HEAD, F.TIM_CAL_POS_LINE], (s.calStored dt cls e pos v).get f e.val = f.of pos := by
    simp only [List.forall_mem_cons, List.not_mem_nil, false_implies, implies_true, and_true]
    exact ⟨calStored_get_pos s dt cls e pos v rfl, calStored_get_pos s dt cls e pos v rfl⟩
  have hact : ∀ f ∈ [F.TIM_CAL_ACT_TARGET, F.TIM_CAL_ACT_EVENT, F.TIM_CAL_ACT_EN],
      (s.calStored dt cls e pos v).get f e.val = f.of v := by
    simp only [List.forall_mem_cons, List.not_mem_nil, false_implies, implies_true, and_true]
    exact ⟨calStored_act s dt cls e pos v rfl (by unfold Fld.fits; decide) (by decide),
      calStored_act s dt cls e pos v rfl (by unfold Fld.fits; decide) (by decide),
      calStored_act s dt cls e pos v rfl (by unfold Fld.fits; decide) (by decide)⟩
  generalize s.calStored dt cls e pos v = b at *
  rw [calApply_eq] at hexec
  have hnoted : Block.Alters (calWords e.val) s.blk (calNoted (s.pass dt).clk e.val b) := hfound.tim _
  have halters := hnoted.andThen (calCheck_alters e.val (calNoted (s.pass dt).clk e.val b))
  have hpos' : ∀ f ∈ [F.TIM_CAL_POS_HEAD, F.TIM_CAL_POS_LINE],
      (calCheck e.val (calNoted (s.pass dt).clk e.val b)).get f e.val = f.of pos := by
    intro f hf
    have haddr : ∀ f ∈ [F.TIM_CAL_POS_HEAD, F.TIM_CAL_POS_LINE], f.at e.val = F.TIM_CAL_POS_HEAD.at e.val := by
      simp [Fld.at, F.TIM_CAL_POS_HEAD, F.TIM_CAL_POS_LINE]
    rw [(calCheck_alters _ _).get (fun hm => ?_), calNoted, Block.get_tim, hget f hf]
    rw [haddr f hf] at hm
    rcases hm with hm | hm
    · exact calPos_ne_act e hm
    · have hevt : F.TIM_CAL_POS_HEAD.at e.val = F.TIM_EVT_CAL_ERR.addr := hm
      simp only [Fld.at, F.TIM_CAL_POS_HEAD, F.TIM_EVT_CAL_ERR] at hevt
      omega
  rw [← hlegal, ← calLegal_noted (s.pass dt).clk e.val b]
  refine ⟨_, hexec, ⟨State.answers_clk hq halters ((calCheck_newPtp ..).trans hnew), State.answers_mem hq halters,
    fun a h4 h2 => ?_⟩, ?_, ?_, ?_, ?_, fun hok => ⟨?_, ?_⟩, fun hbad => ⟨?_, ?_, ?_⟩⟩
  · rw [State.answers_reg]
    refine halters.reg a fun hm => ?_
    rcases hm with (rfl | rfl | rfl) | (rfl | rfl) <;>
      simp only [Fld.at, F.MTX_STAT_GATED, F.TIM_CAL_POS_HEAD, F.TIM_CAL_ACT_EN, F.TIM_EVT_CAL_ERR] at h4 h2 <;> omega
  · rw [State.answers_get, hpos' _ (by simp)]
  · rw [State.answers_get, hpos' _ (by simp)]
  · rw [State.answers_get, calCheck_get rfl rfl (by unfold Fld.apart; decide), calNoted, Block.get_tim, hact _ (by simp)]
  · rw [State.answers_get, calCheck_get rfl rfl (by unfold Fld.apart; decide), calNoted, Block.get_tim, hact _ (by simp)]
  · rw [State.answers_get, calCheck_legal _ _ hok, calNoted, Block.get_tim, hact _ (by simp)]
  · rw [State.answers_evq, calCheck_legal _ _ hok]
    exact hevq
  · rw [State.answers_on]
    exact calCheck_illegal_en hbad
  · rw [State.answers_on]
    exact calCheck_illegal_flag hbad
  · rw [State.answers_evq, calCheck_illegal_codes hbad, ← hevq]
    rfl

end Apply

/-! ## The firing of an entry -/

section Cause

variable {k : Nat} (hk : k < 4) (event : Nat) (b : Block)
include hk

/-- The cause of an event for a cluster, LOST telling of one that was pending. -/
theorem calendarCause_cluster : calendarCause k event b =
    ((if b.on F.WDN_CL_CAUSE_PEND k then b.evt F.WDN_CL_CAUSE_LOST k else b).evt F.WDN_CL_CAUSE_PEND k).put
      F.WDN_CL_CAUSE_EVENT event k := if_pos hk

theorem calendarDeliver_cluster (c : Clk) (h : Nat) : calendarDeliver c h (0xF0 + k) event b = calendarCause k event b := by
  unfold calendarDeliver
  simp only [beq_iff_eq, Bool.or_eq_true, Bool.and_eq_true, decide_eq_true_eq]
  rw [if_neg (by omega), if_neg (by omega), if_neg (by omega), if_neg (by omega), if_neg (by omega), if_neg (by omega),
    if_pos (by omega), Nat.add_sub_cancel_left]

theorem calendarCause_alters : Block.Alters {F.WDN_CL_CAUSE_PEND.at k} b (calendarCause k event b) := by
  have hlost : Block.Alters {F.WDN_CL_CAUSE_PEND.at k} b
      (if b.on F.WDN_CL_CAUSE_PEND k then b.evt F.WDN_CL_CAUSE_LOST k else b) := .ite ((Block.Alters.refl _ b).evt rfl) (.refl _ b)
  rw [calendarCause_cluster hk]
  exact (hlost.evt (f := F.WDN_CL_CAUSE_PEND) rfl).put (f := F.WDN_CL_CAUSE_EVENT) rfl _

theorem calendarCause_newPtp : (calendarCause k event b).newPtp = b.newPtp := by
  rw [calendarCause_cluster hk, Block.put_newPtp, Block.evt_newPtp]
  split
  · rw [Block.evt_newPtp]
  · rfl

theorem calendarCause_tim : (calendarCause k event b).tim = b.tim := by
  rw [calendarCause_cluster hk, Block.put_tim, Block.evt_tim]
  split
  · rw [Block.evt_tim]
  · rfl

theorem calendarCause_pend : (calendarCause k event b).on F.WDN_CL_CAUSE_PEND k = true := by
  rw [calendarCause_cluster hk, Block.on, Block.get_put_apart _ F.WDN_CL_CAUSE_EVENT F.WDN_CL_CAUSE_PEND
    (by unfold Fld.fits; decide) (by unfold Fld.apart; decide)]
  exact Block.on_put_one _ F.WDN_CL_CAUSE_PEND (by decide) rfl k 0 0

theorem calendarCause_event {event : Nat} (he : event < 2 ^ 8) :
    (calendarCause k event b).get F.WDN_CL_CAUSE_EVENT k = event := by
  rw [calendarCause_cluster hk]
  exact Block.get_put_self _ _ (by decide) he ..

theorem calendarCause_lost (hp : b.on F.WDN_CL_CAUSE_PEND k = true) :
    (calendarCause k event b).on F.WDN_CL_CAUSE_LOST k = true := by
  rw [calendarCause_cluster hk, if_pos hp, Block.on, Block.get_put_apart _ F.WDN_CL_CAUSE_EVENT F.WDN_CL_CAUSE_LOST
    (by unfold Fld.fits; decide) (by unfold Fld.apart; decide)]
  exact Block.on_evt_of_on (by unfold Fld.fits; decide) rfl rfl (Block.on_evt _ (by unfold Fld.fits; decide) rfl k 0)

end Cause

section Fire

variable (c : Clk) (e : Nat) (b : Block)

/-- An entry that has fired in the frame under way is not due in it. -/
theorem calDue_of_fired {c : Clk} {e : Nat} {b : Block}
    (h : (tget {} b.tim.cal e).fired = b.frameOf (b.get F.TIM_CAL_POS_HEAD e) + 1) : calDue c b e = false := by
  simp [calDue, calReady, h]

theorem calDue_of_disabled {c : Clk} {e : Nat} {b : Block} (h : b.on F.TIM_CAL_ACT_EN e = false) : calDue c b e = false := by
  simp [calDue, calReady, h]

theorem calDue_enabled {c : Clk} {e : Nat} {b : Block} (h : calDue c b e = true) : b.on F.TIM_CAL_ACT_EN e = true := by
  by_contra hen
  rw [calDue_of_disabled (Bool.eq_false_iff.2 hen)] at h
  exact absurd h (by decide)

/-- The entry is marked as fired in the frame under way. -/
def calFired : Block :=
  { b with tim := { b.tim with
    cal := tput {} b.tim.cal e { tget {} b.tim.cal e with fired := b.frameOf (b.get F.TIM_CAL_POS_HEAD e) + 1 } } }

/-- An entry that fires once is disabled. -/
def calSpent : Block := if b.on F.TIM_CAL_ACT_ONCE e then b.flag F.TIM_CAL_ACT_EN false e else b

variable {e b}

theorem calendarFire_due (h : calDue c b e = true) : calendarFire c e b =
    calendarDeliver c (b.get F.TIM_CAL_POS_HEAD e) (b.get F.TIM_CAL_ACT_TARGET e) (b.get F.TIM_CAL_ACT_EVENT e)
      (calSpent e (calFired e b)) := if_neg (by simp [h])

theorem calendarFire_idle (h : calDue c b e = false) : calendarFire c e b = b := if_pos (by simp [h])

variable (e b)

theorem calFired_alters (S : Set Nat) : Block.Alters S b (calFired e b) := (Block.Alters.refl S b).tim _

theorem calFired_fired : (tget {} (calFired e b).tim.cal e).fired = b.frameOf (b.get F.TIM_CAL_POS_HEAD e) + 1 := by
  rw [calFired, tget_tput_same]

theorem calSpent_alters : Block.Alters {F.TIM_CAL_ACT_EN.at e} b (calSpent e b) :=
  .ite ((Block.Alters.refl {F.TIM_CAL_ACT_EN.at e} b).flag (f := F.TIM_CAL_ACT_EN) (i := e) rfl false) (.refl _ b)

theorem calSpent_newPtp : (calSpent e b).newPtp = b.newPtp := by
  unfold calSpent
  split
  · rw [Block.flag_newPtp]
  · rfl

theorem calSpent_tim : (calSpent e b).tim = b.tim := by
  unfold calSpent
  split
  · rw [Block.flag_tim]
  · rfl

variable {b} in
theorem calSpent_en (h : b.on F.TIM_CAL_ACT_EN e = true) :
    (calSpent e b).on F.TIM_CAL_ACT_EN e = !b.on F.TIM_CAL_ACT_ONCE e := by
  unfold calSpent
  cases ho : b.on F.TIM_CAL_ACT_ONCE e with
  | true =>
    rw [if_pos rfl, Block.on, Block.flag, Block.get_put_self _ F.TIM_CAL_ACT_EN (by decide) (by decide)]
    rfl
  | false => rw [if_neg (by decide), h]; rfl

/-- The cluster's register before the event is as the firing found it. -/
theorem calSpent_cause (e : Fin 256) {k : Nat} (hk : k < 4) :
    (calSpent e.val (calFired e.val b)).on F.WDN_CL_CAUSE_PEND k = b.on F.WDN_CL_CAUSE_PEND k := by
  refine (calSpent_alters e.val (calFired e.val b)).on fun hm => ?_
  have hcause : F.WDN_CL_CAUSE_PEND.at k = F.TIM_CAL_ACT_EN.at e.val := hm
  simp only [Fld.at, F.TIM_CAL_ACT_EN, F.WDN_CL_CAUSE_PEND] at hcause
  omega

variable {c : Clk} {e : Fin 256} {k : Nat} (hk : k < 4) {b : Block} (hd : calDue c b e.val = true)
  (ht : b.get F.TIM_CAL_ACT_TARGET e.val = 0xF0 + k)
include hk hd ht

/-- An entry whose target is a cluster. -/
theorem calendarFire_cluster :
    calendarFire c e.val b = calendarCause k (b.get F.TIM_CAL_ACT_EVENT e.val) (calSpent e.val (calFired e.val b)) := by
  rw [calendarFire_due c hd, ht, calendarDeliver_cluster hk]

/-- The registers that the firing reaches. -/
def calFireRegs (e k : Nat) : Set Nat := {F.TIM_CAL_ACT_EN.at e} ∪ {F.WDN_CL_CAUSE_PEND.at k}

theorem calendarFire_alters : Block.Alters (calFireRegs e.val k) b (calendarFire c e.val b) := by
  rw [calendarFire_cluster hk hd ht]
  exact ((calFired_alters ..).trans (calSpent_alters ..)).andThen (calendarCause_alters hk ..)

theorem calendarFire_newPtp : (calendarFire c e.val b).newPtp = b.newPtp := by
  rw [calendarFire_cluster hk hd ht, calendarCause_newPtp hk, calSpent_newPtp]
  rfl

theorem calendarFire_fired : (tget {} (calendarFire c e.val b).tim.cal e.val).fired =
    (calendarFire c e.val b).frameOf ((calendarFire c e.val b).get F.TIM_CAL_POS_HEAD e.val) + 1 := by
  have halters := calendarFire_alters hk hd ht
  have hpage : ∀ a ∈ calFireRegs e.val k, a / 0x1000 = 0x42 ∧ a % 8 = 4 ∨ a / 0x1000 = 0x380 := by
    rintro a (rfl | rfl) <;> simp only [Fld.at, F.TIM_CAL_ACT_EN, F.WDN_CL_CAUSE_PEND] <;> omega
  have hhead : (calendarFire c e.val b).get F.TIM_CAL_POS_HEAD e.val = b.get F.TIM_CAL_POS_HEAD e.val :=
    halters.get fun hm => by
      have := hpage _ hm
      simp only [Fld.at, F.TIM_CAL_POS_HEAD] at this
      omega
  have hlt : b.get F.TIM_CAL_POS_HEAD e.val < 64 := calHead_lt _
  have hframe : (calendarFire c e.val b).frameOf (b.get F.TIM_CAL_POS_HEAD e.val) = b.frameOf (b.get F.TIM_CAL_POS_HEAD e.val) := by
    refine halters.get2 (fun hm => ?_) fun hm => ?_ <;>
    · have := hpage _ hm
      simp only [Fld.at, F.TIM_HEAD_FRAME_LO_FRAME_LO, F.TIM_HEAD_FRAME_HI_FRAME_HI] at this
      omega
  rw [hhead, hframe, calendarFire_cluster hk hd ht, calendarCause_tim hk, calSpent_tim, calFired_fired]

theorem calendarFire_en : (calendarFire c e.val b).on F.TIM_CAL_ACT_EN e.val = !b.on F.TIM_CAL_ACT_ONCE e.val := by
  rw [calendarFire_cluster hk hd ht, (calendarCause_alters hk _ _).on fun hm => ?_]
  · exact calSpent_en e.val (b := calFired e.val b) (calDue_enabled hd : b.on F.TIM_CAL_ACT_EN e.val = true)
  · have hcause : F.TIM_CAL_ACT_EN.at e.val = F.WDN_CL_CAUSE_PEND.at k := hm
    simp only [Fld.at, F.TIM_CAL_ACT_EN, F.WDN_CL_CAUSE_PEND] at hcause
    omega

end Fire

theorem exec_calendarFire {s : State} (dt : Nat) (e : Fin 256) (h : s.blk.hold = .none) :
    exec (.calendarFire dt e) s = .next (s.ends dt (calendarFire (s.pass dt).clk e.val (s.found dt))) := s.run_eq_ends dt _ h

/-- What a calendar entry waits for is as the command's time finds it. -/
theorem calDue_found (s : State) (dt : Nat) (c : Clk) (e : Nat) : calDue c (s.found dt) e = calDue c s.blk e := rfl

/-- Settles O11: the entry as written is checked; a due entry fires, and then it has fired in its frame. -/
theorem calendarEntriesAreCheckedAndFire : Obligations.CalendarEntriesAreCheckedAndFire := by
  intro dt e s hq
  refine ⟨fun cls pos v hw hc hpos => calendarEntryApply_answer s dt cls e pos v hq hw hc hpos, fun hh =>
    ⟨fun hd k ht => ?_, fun hen => ?_⟩⟩
  · rw [← calDue_found s dt] at hd
    have hexec := exec_calendarFire dt e hh
    obtain ⟨hfound, hnew, -, -, -⟩ := s.found_finds dt
    have hget : ∀ (f : Fld) (i j l : Nat), (s.found dt).get f i j l = s.blk.get f i j l := fun f i j l => hfound.get (by simp)
    have hon : ∀ (f : Fld) (i j l : Nat), (s.found dt).on f i j l = s.blk.on f i j l := fun f i j l => hfound.on (by simp)
    rw [← hget] at ht
    rw [← hget, ← hon, ← hon]
    generalize s.found dt = b at *
    have halters := hfound.andThen (calendarFire_alters k.isLt hd ht)
    have hclk := State.ends_clk_of_alters (dt := dt) hq halters ((calendarFire_newPtp k.isLt hd ht).trans hnew)
    refine ⟨_, hexec, hclk, State.ends_mem_of_alters hq halters, ?_, ?_, ?_, ?_, fun hp => ?_⟩
    · refine calDue_of_fired ?_
      rw [State.ends_get, Block.frameOf, State.ends_get2, State.ends_tim]
      exact calendarFire_fired k.isLt hd ht
    · rw [State.ends_on, calendarFire_en k.isLt hd ht]
    · rw [State.ends_on, calendarFire_cluster k.isLt hd ht, calendarCause_pend k.isLt]
    · rw [State.ends_get, calendarFire_cluster k.isLt hd ht,
        calendarCause_event k.isLt _ (show b.get F.TIM_CAL_ACT_EVENT e.val < 2 ^ 8 from Nat.mod_lt _ (by decide))]
    · rw [State.ends_on, calendarFire_cluster k.isLt hd ht,
        calendarCause_lost k.isLt _ _ ((calSpent_cause b e k.isLt).trans hp)]
  · have hidle : calendarFire (s.pass dt).clk e.val (s.found dt) = s.found dt :=
      calendarFire_idle _ ((calDue_found s dt _ _).trans (calDue_of_disabled hen))
    obtain ⟨hfound, -, -, -, -⟩ := s.found_finds dt
    rw [exec_calendarFire dt e hh, hidle]
    refine ⟨_, rfl, ?_, State.ends_mem_of_alters hq hfound⟩
    rw [State.ends_blk]
    rfl

end Sys2Proof.Machine
end

section
/-! A head's start and stop (R64, R65, R67): the slots that it looks at, the alignment point, and what each outcome alters. -/

namespace Sys2Proof.Machine

open Sys2Proof

/-! ## The slots of the Crucibles -/

/-- Registers that no slot's limit depends on: below the Crucibles' windows, outside that of the memory controller, and of no
head's format. -/
def offSlots : Set Nat := {a | a < 0x200000 ∧ a / 0x10000 ≠ 9 ∧ a ∉ fmtRegs}

section Slots

variable {b b' : Block} (ha : Block.Alters offSlots b b')
include ha

theorem offSlots_get {f : Fld} (hf : 0x200000 ≤ f.addr) (i j k : Nat) : b'.get f i j k = b.get f i j k :=
  ha.get fun hm => by
    obtain ⟨hlt, -, -⟩ := hm
    simp only [Fld.at] at hlt
    omega

theorem offSlots_on {f : Fld} (hf : 0x200000 ≤ f.addr) (i j k : Nat) : b'.on f i j k = b.on f i j k :=
  congrArg (· == 1) (offSlots_get ha hf i j k)

theorem offSlots_slotHead : b'.slotHead = b.slotHead := by
  funext cru k
  exact offSlots_get ha (by decide) cru k 0

theorem offSlots_slotWidth : b'.slotWidth = b.slotWidth := by
  funext cru k
  exact offSlots_get ha (by decide) cru k 0

theorem offSlots_slotLead : b'.slotLead = b.slotLead := by
  funext cru k
  exact offSlots_get ha (by decide) cru k 0

theorem offSlots_fmt (cru k : Nat) : b'.fmt (b.slotHead cru k) = b.fmt (b.slotHead cru k) :=
  ha.fmt (fun _ ⟨_, _, hno⟩ => hno) (Nat.mod_lt _ (by decide))

theorem offSlots_slotOf (h : Nat) : b'.slotOf h = b.slotOf h := by
  simp only [Block.slotOf, offSlots_on ha (f := F.CRU_HEAD_MAP_EN) (by decide),
    offSlots_get ha (f := F.CRU_HEAD_MAP_HEAD) (by decide)]

theorem offSlots_enabledSlots (cru : Nat) : b'.enabledSlots cru = b.enabledSlots cru := by
  simp only [Block.enabledSlots, offSlots_on ha (f := F.CRU_HEAD_MAP_EN) (by decide)]

theorem offSlots_drawing (cru k : Nat) : b'.drawing cru k = b.drawing cru k := by
  simp only [Block.drawing, offSlots_on ha (f := F.CRU_M_CTL_EN) (by decide), offSlots_get ha (f := F.CRU_M_CTL_SLOT) (by decide),
    offSlots_get ha (f := F.CRU_M_CTL_Z) (by decide)]

theorem offSlots_slotRate (cru : Nat) : slotRate b' cru = slotRate b cru := by
  funext k
  simp only [slotRate, offSlots_slotHead ha, offSlots_slotWidth ha, offSlots_fmt ha]

theorem offSlots_activeOutput (cru : Nat) (l : List Nat) : activeOutput b' cru l = activeOutput b cru l := by
  simp only [activeOutput, offSlots_slotRate ha]

theorem offSlots_slackOf (cru : Nat) (l : List Nat) : slackOf b' cru l = slackOf b cru l := by
  have hmem : ∀ f ∈ [F.MEM_REF_TREFI_NS, F.MEM_CFG_DENSITY], b'.get f = b.get f := by
    intro f hf
    have hw : ∀ f ∈ [F.MEM_REF_TREFI_NS, F.MEM_CFG_DENSITY], f.at 0 0 0 / 0x10000 = 9 := by decide
    exact ha.get fun ⟨_, hne, _⟩ => hne (hw f hf)
  have hrefi : b'.get F.MEM_REF_TREFI_NS = b.get F.MEM_REF_TREFI_NS := hmem _ (by simp)
  have htrfc : b'.trfc = b.trfc := by rw [Block.trfc, Block.trfc, hmem F.MEM_CFG_DENSITY (by simp)]
  simp only [slackOf, offSlots_slotHead ha, offSlots_slotWidth ha, offSlots_slotLead ha, offSlots_fmt ha, offSlots_drawing ha,
    hrefi, htrfc]

theorem offSlots_slotLimit (cru k : Nat) : slotLimit b' cru k = slotLimit b cru k := by
  simp only [slotLimit, offSlots_slotHead ha, offSlots_slotWidth ha, offSlots_slotLead ha, offSlots_fmt ha,
    offSlots_enabledSlots ha, offSlots_activeOutput ha, offSlots_slackOf ha]

end Slots

/-- A head's slot is one of the four Crucibles' sixteen. -/
theorem slotOf_bounds {b : Block} {h : Nat} {q : Nat × Nat} (hq : b.slotOf h = some q) : q.1 < 4 ∧ q.2 < 16 := by
  have hm := List.mem_of_find?_eq_some hq
  simp only [List.mem_flatMap, List.mem_map, List.mem_range] at hm
  obtain ⟨cru, hcru, k, hk, rfl⟩ := hm
  exact ⟨hcru, hk⟩

/-! ## The alignment point at which a head starts (R66, R67) -/

theorem HeadFmt.ok_iff (f : HeadFmt) : f.ok = true ↔
    1 ≤ f.num ∧ 1 ≤ f.den ∧ f.num ≤ 60 * f.den ∧ 1 ≤ f.vfp ∧ 1 ≤ f.vsy ∧
      f.act + f.vfp + f.vsy + 1 ≤ f.total ∧ f.act ≤ 2160 := by
  simp [HeadFmt.ok, and_assoc]

/-- R64 as the claims write it. -/
theorem keepsR64_iff (b : Block) (h : Nat) : Claims.keepsR64 b h ↔ (b.fmt h).ok = true := by
  rw [HeadFmt.ok_iff]
  simp only [Claims.keepsR64, Block.fmt]
  omega

/-- The next index is the least whose alignment point, `OFS` lines on, comes at `p` or after it. -/
theorem nextIndex_le_iff {b : Block} {h : Nat} (hok : (b.fmt h).ok = true) (p n : Nat) :
    (b.fmt h).nextIndex p ≤ n ↔ Claims.alignedFrom b h p n := by
  obtain ⟨-, hden, -, -, -, htotal, -⟩ := (HeadFmt.ok_iff _).1 hok
  have hd : (0 : Int) < (((b.fmt h).total * (b.fmt h).den * sTick : Nat) : Int) := by
    have : 0 < sTick := by decide
    have : 0 < (b.fmt h).total := by omega
    positivity
  have hclaim : Claims.alignedFrom b h p n ↔ (p : Int) * ((b.fmt h).num * (b.fmt h).total) ≤
      ((n : Int) * (b.fmt h).total + (b.fmt h).ofs) * (b.fmt h).den * sTick := Iff.rfl
  rw [hclaim]
  generalize b.fmt h = f at *
  unfold HeadFmt.nextIndex
  dsimp only
  rw [Int.toNat_le, neg_le, Int.le_ediv_iff_mul_le hd]
  push_cast
  constructor <;> intro hle <;> nlinarith only [hle]

end Sys2Proof.Machine
end

section
/-! HEAD_ENABLE and HEAD_DISABLE (R64, R65, R67). -/

namespace Sys2Proof.Machine

open Sys2Proof

/-! ## The outcomes of an enable and of a disable -/

section Head

variable (c : Clk) (h : Nat) {b : Block}

/-- The status that an enabled head shows. -/
def headIdle (b : Block) : Block :=
  ((b.setRas h { phase := .idle, target := (b.fmt h).nextIndex (c.ptp + 200 * usTick), since := c.steady }).flag
    F.TIM_HEAD_STAT_RUN true h).flag F.TIM_HEAD_STAT_WAIT true h

/-- A head whose format breaks R64 stays stopped. -/
def headRefused (b : Block) : Block :=
  ((b.flag F.TIM_HEAD_CTL_EN false h).evt F.TIM_EVT_FMT_ERR).record 0x0408 3 h
    (b.reg (F.TIM_HEAD_VLINES_ACT.at h)).toNat (b.reg (F.TIM_HEAD_VBLANK_VFP.at h)).toNat
    (b.reg (F.TIM_HEAD_RATE_NUM.at h)).toNat

section Stopped

variable (hs : (b.ras h).phase = .stopped)
include hs

theorem headEnable_ok (hok : (b.fmt h).ok = true) : headEnable c h b = headIdle c h b := by
  unfold headEnable
  dsimp only
  rw [if_neg (by simp [hs]), if_neg (by simp [hok])]
  rfl

theorem headEnable_bad (hok : (b.fmt h).ok = false) : headEnable c h b = headRefused h b := by
  unfold headEnable
  dsimp only
  rw [if_neg (by simp [hs]), if_pos (by simp [hok])]
  rfl

/-- A legal format and no slot that breaks a limit. -/
theorem headStart_ok (hok : (b.fmt h).ok = true) (hslot : ∀ q, b.slotOf h = some q → (slotLimit b q.1 q.2).1 = 0) :
    headStart c h b = headIdle c h b := by
  rw [← headEnable_ok c h hs hok]
  unfold headStart
  split
  · rfl
  · rename_i cru k hq
    exact if_pos (by simp [hslot _ hq])

theorem headStart_bad (hok : (b.fmt h).ok = false) : headStart c h b = headRefused h b := by
  rw [← headEnable_bad c h hs hok]
  unfold headStart
  split
  · rfl
  · exact if_pos (by simp [hok])

theorem headStart_limit (hok : (b.fmt h).ok = true) {q : Nat × Nat} (hq : b.slotOf h = some q) (hl : (slotLimit b q.1 q.2).1 ≠ 0) :
    headStart c h b = slotRefuse q.1 q.2 (slotLimit b q.1 q.2) (b.flag F.TIM_HEAD_CTL_EN false h) := by
  unfold headStart
  rw [hq]
  exact if_neg (by simp [hl, hs, hok])

end Stopped

theorem headDisable_running (hr : (b.ras h).phase = .running) :
    frameForget h (headDisable h b) = b.setRas h { b.ras h with stopping := true } := by
  have hd : headDisable h b = b.setRas h { b.ras h with stopping := true } := by
    unfold headDisable
    dsimp only
    rw [hr]
  rw [hd, frameForget, Block.setRas_ras]
  exact if_pos (by simp [hr])

theorem headDisable_idle (hr : (b.ras h).phase = .idle) : headDisable h b = headStopped h b := by
  unfold headDisable
  dsimp only
  rw [hr]

/-! ## What each alters -/

/-- The registers that tell of a head's state. -/
def headRegs : Set Nat := {F.TIM_HEAD_CTL_EN.at h, F.TIM_HEAD_STAT_RUN.at h, F.TIM_EVT_FMT_ERR.addr}

variable (b)

/-- A field of the head's status is written. -/
theorem headStat_flag {h : Nat} {b b' : Block} (hb : Block.Alters {F.TIM_HEAD_STAT_RUN.at h} b b') {f : Fld}
    (hf : f.at h = F.TIM_HEAD_STAT_RUN.at h) (x : Bool) : Block.Alters {F.TIM_HEAD_STAT_RUN.at h} b (b'.flag f x h) := hb.flag hf x

theorem headIdle_alters : Block.Alters {F.TIM_HEAD_STAT_RUN.at h} b (headIdle c h b) :=
  headStat_flag (headStat_flag ((Block.Alters.refl _ b).setRas h _) (f := F.TIM_HEAD_STAT_RUN) rfl _)
    (f := F.TIM_HEAD_STAT_WAIT) rfl _

theorem headRefused_alters : Block.Alters (headRegs h) b (headRefused h b) :=
  (((Block.Alters.refl _ b).flag (.inl rfl) _).evt (.inr (.inr rfl))).record ..

theorem headStopped_alters : Block.Alters {F.TIM_HEAD_STAT_RUN.at h} b (headStopped h b) :=
  headStat_flag (headStat_flag (headStat_flag (headStat_flag ((Block.Alters.refl _ b).setRas h _) (f := F.TIM_HEAD_STAT_RUN) rfl _)
    (f := F.TIM_HEAD_STAT_WAIT) rfl _) (f := F.TIM_HEAD_STAT_RELOCK) rfl _) (f := F.TIM_HEAD_STAT_SLEW) rfl _

/-- The head's control stands apart from its status. -/
theorem headCtl_not_stat : F.TIM_HEAD_CTL_EN.at h ∉ ({F.TIM_HEAD_STAT_RUN.at h} : Set Nat) := by
  simp [Fld.at, F.TIM_HEAD_CTL_EN, F.TIM_HEAD_STAT_RUN]

theorem headStat_sub : {F.TIM_HEAD_STAT_RUN.at h} ⊆ headRegs h := fun _ hm => .inr (.inl hm)

theorem frameForget_alters (S : Set Nat) : Block.Alters S b (frameForget h b) := by
  unfold frameForget
  split
  · exact .refl _ _
  · exact (Block.Alters.refl _ _).keep rfl rfl rfl rfl

theorem frameForget_tim : (frameForget h b).tim = b.tim := by unfold frameForget; split <;> rfl
theorem frameForget_newPtp : (frameForget h b).newPtp = b.newPtp := by unfold frameForget; split <;> rfl

theorem headIdle_newPtp : (headIdle c h b).newPtp = b.newPtp := by
  rw [headIdle, Block.flag_newPtp, Block.flag_newPtp, Block.setRas_newPtp]

theorem headIdle_evq : (headIdle c h b).evq = b.evq := by
  rw [headIdle, Block.flag_evq, Block.flag_evq, Block.setRas_evq]

theorem headIdle_ras : (headIdle c h b).ras h =
    { phase := .idle, target := (b.fmt h).nextIndex (c.ptp + 200 * usTick), since := c.steady } := by
  rw [headIdle, Block.ras, Block.flag_tim, Block.flag_tim]
  exact Block.setRas_ras ..

theorem headIdle_run : (headIdle c h b).on F.TIM_HEAD_STAT_RUN h = true := by
  rw [headIdle, Block.on, Block.flag, Block.get_put_apart _ F.TIM_HEAD_STAT_WAIT F.TIM_HEAD_STAT_RUN
    (by unfold Fld.fits; decide) (by unfold Fld.apart; decide)]
  exact Block.on_put_one _ F.TIM_HEAD_STAT_RUN (by decide) rfl h 0 0

theorem headIdle_wait : (headIdle c h b).on F.TIM_HEAD_STAT_WAIT h = true :=
  Block.on_put_one _ F.TIM_HEAD_STAT_WAIT (by decide) rfl h 0 0

theorem headRefused_newPtp : (headRefused h b).newPtp = b.newPtp := by
  rw [headRefused, Block.record_newPtp, Block.evt_newPtp, Block.flag_newPtp]

theorem headRefused_tim : (headRefused h b).tim = b.tim := by
  rw [headRefused, Block.record_tim, Block.evt_tim, Block.flag_tim]

theorem headRefused_evq : (headRefused h b).evq =
    b.evq ++ [{ code := 0x0408, sev := 3, origin := 4, p0 := BitVec.ofNat 32 h, p1 := b.reg (F.TIM_HEAD_VLINES_ACT.at h),
                p2 := b.reg (F.TIM_HEAD_VBLANK_VFP.at h), p3 := b.reg (F.TIM_HEAD_RATE_NUM.at h) }] := by
  rw [headRefused, Block.record_evq, Block.evt_evq, Block.flag_evq]
  simp only [BitVec.ofNat_toNat, BitVec.setWidth_eq]

theorem headRefused_en : (headRefused h b).on F.TIM_HEAD_CTL_EN h = false := by
  rw [headRefused, Block.on, Block.get_record, Block.get_evt, Block.get_put_other _ F.TIM_EVT_FMT_ERR F.TIM_HEAD_CTL_EN _ _ _ _ _ _ _
    (by simp only [Fld.at, F.TIM_EVT_FMT_ERR, F.TIM_HEAD_CTL_EN]; omega)]
  exact Block.on_flag_same b F.TIM_HEAD_CTL_EN (by unfold Fld.fits; decide) rfl false h 0 0

theorem headRefused_flag : (headRefused h b).on F.TIM_EVT_FMT_ERR = true := by
  rw [headRefused, Block.on, Block.get_record]
  exact Block.on_evt _ (by unfold Fld.fits; decide) rfl 0 0

theorem headStopped_newPtp : (headStopped h b).newPtp = b.newPtp := by
  unfold headStopped
  dsimp only
  rw [Block.flag_newPtp, Block.flag_newPtp, Block.flag_newPtp, Block.flag_newPtp, Block.setRas_newPtp]

theorem headStopped_ras : (headStopped h b).ras h = {} := by
  unfold headStopped
  dsimp only
  rw [Block.ras, Block.flag_tim, Block.flag_tim, Block.flag_tim, Block.flag_tim]
  exact Block.setRas_ras ..

theorem headStopped_run : (headStopped h b).on F.TIM_HEAD_STAT_RUN h = false := by
  unfold headStopped
  dsimp only
  have hap : ∀ (b' : Block) (f : Fld), f ∈ [F.TIM_HEAD_STAT_WAIT, F.TIM_HEAD_STAT_RELOCK, F.TIM_HEAD_STAT_SLEW] →
      (b'.flag f false h).on F.TIM_HEAD_STAT_RUN h = b'.on F.TIM_HEAD_STAT_RUN h := by
    intro b' f hf
    have hapart : ∀ f ∈ [F.TIM_HEAD_STAT_WAIT, F.TIM_HEAD_STAT_RELOCK, F.TIM_HEAD_STAT_SLEW],
        f.lsb + f.width ≤ 32 ∧ (f.lsb + f.width ≤ F.TIM_HEAD_STAT_RUN.lsb ∨
          F.TIM_HEAD_STAT_RUN.lsb + F.TIM_HEAD_STAT_RUN.width ≤ f.lsb) := by decide
    obtain ⟨hfits, hap⟩ := hapart f hf
    rw [Block.on, Block.flag, Block.get_put_apart _ f F.TIM_HEAD_STAT_RUN hfits hap, Block.on]
  rw [hap _ _ (by simp), hap _ _ (by simp), hap _ _ (by simp)]
  exact Block.on_flag_same _ F.TIM_HEAD_STAT_RUN (by unfold Fld.fits; decide) rfl false h 0 0

end Head

end Sys2Proof.Machine
end

section
/-! The writes of TIM_HEAD_CTL.EN (R64, R65, R67). -/

namespace Sys2Proof.Machine

open Sys2Proof

section Commands

variable (s : State) (dt : Nat) (cls : Cls) (h : Head) (en : Bool)

/-- The blocks at which a write of a head's EN acts. -/
def State.enStored : Block :=
  s.stored dt cls (F.TIM_HEAD_CTL_EN.at h.val) [] 1
    (F.TIM_HEAD_CTL_EN.into (s.blk.reg (F.TIM_HEAD_CTL_EN.at h.val) &&& 1) (b2n en))

/-- The registers that the write reaches before the head acts. -/
def enRegs (h : Nat) : Set Nat := {F.MTX_STAT_GATED.addr, F.TIM_HEAD_CTL_EN.at h}

theorem enStored_finds : s.Finds (enRegs h.val) (s.enStored dt cls h en) := by
  obtain ⟨ha, hn, ht, he, hf⟩ := s.stored_finds dt cls (F.TIM_HEAD_CTL_EN.at h.val) [] 1
    (F.TIM_HEAD_CTL_EN.into (s.blk.reg (F.TIM_HEAD_CTL_EN.at h.val) &&& 1) (b2n en))
  refine ⟨ha.mono fun a hm => ?_, hn, ht, he, hf⟩
  rcases hm with rfl | rfl | ⟨q, hq, -⟩
  · exact .inl rfl
  · exact .inr rfl
  · exact absurd hq (by simp)

/-- EN reads as written. -/
theorem enStored_on : (s.enStored dt cls h en).on F.TIM_HEAD_CTL_EN h.val = en := by
  have hfits : F.TIM_HEAD_CTL_EN.fits := by unfold Fld.fits; decide
  have hr := s.stored_reg dt cls [] 1 (F.TIM_HEAD_CTL_EN.into (s.blk.reg (F.TIM_HEAD_CTL_EN.at h.val) &&& 1) (b2n en))
    (p := F.TIM_HEAD_CTL_EN.at h.val) (by simp only [Fld.at, F.MTX_STAT_GATED, F.TIM_HEAD_CTL_EN]; omega) (by simp)
  rw [Block.on, Block.get, State.enStored, hr, Fld.of_merge hfits (by decide), Fld.of_into _ hfits]
  cases en <;> rfl

theorem regAt_headCtl : ∀ h : Head, regAt (F.TIM_HEAD_CTL_EN.at h.val) = some (Rg.TIM_HEAD_CTL, [h.val]) := by decide

/-- A write of EN is the head's start or its stop. -/
theorem writeField_en (hw : Writable s cls (F.TIM_HEAD_CTL_EN.at h.val)) (hc : Calm s 4) :
    s.writeField dt cls F.TIM_HEAD_CTL_EN (b2n en) h.val =
      .next (s.answers dt (if en then headStart (s.pass dt).clk h.val (s.enStored dt cls h en)
        else frameForget h.val (headDisable h.val (s.enStored dt cls h en)))) := by
  have hp : F.TIM_HEAD_CTL_EN.at h.val / 0x10000 = 4 := by
    simp only [Fld.at, F.TIM_HEAD_CTL_EN]
    omega
  have h4 : F.TIM_HEAD_CTL_EN.at h.val % 4 = 0 := by
    simp only [Fld.at, F.TIM_HEAD_CTL_EN]
    omega
  have hon := enStored_on s dt cls h en
  refine (writeField_tim (f := F.TIM_HEAD_CTL_EN) _ h.val 0 hw hc hp h4 (regAt_headCtl h)).trans ?_
  rw [regWrite_opened _ hc hp (regAt_headCtl h) (by decide)]
  refine congrArg (fun b => Host.Outcome.next (s.answers dt b)) ?_
  calc _ = if (s.enStored dt cls h en).on F.TIM_HEAD_CTL_EN h.val then headStart (s.pass dt).clk h.val (s.enStored dt cls h en)
        else frameForget h.val (headDisable h.val (s.enStored dt cls h en)) := rfl
    _ = _ := by rw [hon]

theorem exec_headEnable (hw : Writable s cls (F.TIM_HEAD_CTL_EN.at h.val)) (hc : Calm s 4) :
    exec (.headEnable dt cls h) s = .next (s.answers dt (headStart (s.pass dt).clk h.val (s.enStored dt cls h true))) :=
  writeField_en s dt cls h true hw hc

theorem exec_headDisable (hw : Writable s cls (F.TIM_HEAD_CTL_EN.at h.val)) (hc : Calm s 4) :
    exec (.headDisable dt cls h) s =
      .next (s.answers dt (frameForget h.val (headDisable h.val (s.enStored dt cls h false)))) :=
  writeField_en s dt cls h false hw hc

end Commands

/-! ## What the write leaves alone -/

theorem enRegs_offSlots (h : Head) : enRegs h.val ⊆ offSlots := by
  have haddr : F.TIM_HEAD_CTL_EN.at h.val = 0x41000 + h.val * 0x40 := by simp [Fld.at, F.TIM_HEAD_CTL_EN]
  rintro a (rfl | rfl)
  · exact ⟨by decide, by decide, fun ⟨hpage, _, _⟩ => absurd hpage (by decide)⟩
  · rw [haddr]
    refine ⟨by omega, by omega, fun ⟨_, hlo, _⟩ => ?_⟩
    omega

/-- The registers of a head's write and of what it starts lie in the windows of TIM and MTX. -/
theorem headReach_window {h : Head} {a : Nat} (ha : a ∈ enRegs h.val ∪ headRegs h.val) : a / 0x10000 = 4 ∨ a / 0x10000 = 2 := by
  have hctl : F.TIM_HEAD_CTL_EN.at h.val = 0x41000 + h.val * 0x40 := by simp [Fld.at, F.TIM_HEAD_CTL_EN]
  have hstat : F.TIM_HEAD_STAT_RUN.at h.val = 0x41014 + h.val * 0x40 := by simp [Fld.at, F.TIM_HEAD_STAT_RUN]
  rcases ha with (rfl | rfl) | (rfl | rfl | rfl)
  · exact .inr (by decide)
  · omega
  · omega
  · omega
  · exact .inl (by decide)

theorem headReach_timOnly {s : State} {dt : Nat} {h : Head} {b : Block} (hq : s.blk.quiet = true)
    (hb : Block.Alters (enRegs h.val ∪ headRegs h.val) s.blk b) (hn : b.newPtp = s.blk.newPtp) :
    Claims.timOnly s (s.answers dt b) dt :=
  ⟨State.answers_clk hq hb hn, State.answers_mem hq hb, fun a h4 h2 => by
    rw [State.answers_reg, hb.reg a fun hm => (headReach_window hm).elim h4 h2]⟩

/-! ## The slot's refusal -/

section Refusal

variable {cru k : Nat} (q : Nat × Nat) (b : Block)

/-- The registers that a slot's refusal reaches. -/
def slotRegs (cru k : Nat) : Set Nat := {F.CRU_HEAD_MAP_REASON.at cru k, F.CRU_EVT_CFG_ERR.at cru}

theorem slotRefuse_alters : Block.Alters (slotRegs cru k) b (slotRefuse cru k q b) :=
  ((((Block.Alters.refl _ b).put (.inl rfl) _).evt (.inr rfl))).record ..

theorem slotRefuse_newPtp : (slotRefuse cru k q b).newPtp = b.newPtp := by
  rw [slotRefuse, Block.record_newPtp, Block.evt_newPtp, Block.put_newPtp]

theorem slotRefuse_tim : (slotRefuse cru k q b).tim = b.tim := by
  rw [slotRefuse, Block.record_tim, Block.evt_tim, Block.put_tim]

theorem slotRefuse_codes : (slotRefuse cru k q b).evq.map (·.code) = b.evq.map (·.code) ++ [0x2007] := by
  rw [slotRefuse, Block.record_evq, Block.evt_evq, Block.put_evq, List.map_append]
  rfl

theorem slotRegs_window (hk : k < 16) {a : Nat} (ha : a ∈ slotRegs cru k) : a / 0x10000 = 32 + cru := by
  rcases ha with rfl | rfl <;> simp only [Fld.at, F.CRU_HEAD_MAP_REASON, F.CRU_EVT_CFG_ERR] <;> omega

end Refusal

/-! ## The obligation, outcome by outcome -/

section Answers

variable {dt : Nat} {cls : Cls} {h : Head} {s : State} (hw : Writable s cls (F.TIM_HEAD_CTL_EN.at h.val)) (hc : Calm s 4)
  (hq : s.blk.quiet = true)

section Enable

variable (hs : (s.blk.ras h.val).phase = .stopped)

include hw hc hq hs

theorem headEnable_starts (h64 : Claims.keepsR64 s.blk h.val)
    (hslot : ∀ q, s.blk.slotOf h.val = some q → (slotLimit s.blk q.1 q.2).1 = 0) :
    ∃ t : State, exec (.headEnable dt cls h) s = .next t ∧ t.blk.on F.TIM_HEAD_CTL_EN h.val = true ∧
      t.blk.on F.TIM_HEAD_STAT_RUN h.val = true ∧ t.blk.on F.TIM_HEAD_STAT_WAIT h.val = true ∧
      (t.blk.ras h.val).phase = .idle ∧
      Claims.alignedFrom s.blk h.val ((s.pass dt).clk.ptp + 200 * usTick) (t.blk.ras h.val).target ∧
      (∀ n, n < (t.blk.ras h.val).target → ¬ Claims.alignedFrom s.blk h.val ((s.pass dt).clk.ptp + 200 * usTick) n) ∧
      t.blk.evq = s.blk.evq ∧ Claims.timOnly s t dt := by
  have hexec := exec_headEnable s dt cls h hw hc
  obtain ⟨hfound, hnew, htim, hevq, -⟩ := enStored_finds s dt cls h true
  have hen := enStored_on s dt cls h true
  generalize s.enStored dt cls h true = b at *
  have hoff : Block.Alters offSlots s.blk b := hfound.mono (enRegs_offSlots h)
  have hfmt : b.fmt h.val = s.blk.fmt h.val := hoff.fmt (fun _ ⟨_, _, hno⟩ => hno) h.isLt
  have hok : (s.blk.fmt h.val).ok = true := (keepsR64_iff _ _).1 h64
  rw [headStart_ok _ h.val ((congrArg _ (Block.ras_of_tim _ htim)).trans hs) (hfmt ▸ hok) fun q hq' => by
    rw [offSlots_slotLimit hoff]
    exact hslot q ((offSlots_slotOf hoff _).symm.trans hq')] at hexec
  refine ⟨_, hexec, ?_, ?_, ?_, ?_, ?_, fun n hn => ?_, ?_,
    headReach_timOnly hq (hfound.andThen ((headIdle_alters ..).mono (headStat_sub _)))
    ((headIdle_newPtp ..).trans hnew)⟩
  · rw [State.answers_on, (headIdle_alters ..).on (headCtl_not_stat _), hen]
  · rw [State.answers_on, headIdle_run]
  · rw [State.answers_on, headIdle_wait]
  · rw [State.answers_ras, headIdle_ras]
  · rw [State.answers_ras, headIdle_ras, ← nextIndex_le_iff hok, hfmt]
  · rw [State.answers_ras, headIdle_ras, hfmt] at hn
    exact fun hle => absurd ((nextIndex_le_iff hok _ _).2 hle) (Nat.not_le.2 hn)
  · rw [State.answers_evq, headIdle_evq, hevq]

theorem headEnable_refused (h64 : ¬Claims.keepsR64 s.blk h.val) :
    ∃ t : State, exec (.headEnable dt cls h) s = .next t ∧ t.blk.on F.TIM_HEAD_CTL_EN h.val = false ∧
      (t.blk.ras h.val).phase = .stopped ∧ t.blk.on F.TIM_EVT_FMT_ERR = true ∧
      t.blk.evq = s.blk.evq ++ [{ code := 0x0408, sev := 3, origin := 4, p0 := BitVec.ofNat 32 h.val,
                                  p1 := s.blk.reg (F.TIM_HEAD_VLINES_ACT.at h.val),
                                  p2 := s.blk.reg (F.TIM_HEAD_VBLANK_VFP.at h.val),
                                  p3 := s.blk.reg (F.TIM_HEAD_RATE_NUM.at h.val) }] ∧
      Claims.timOnly s t dt := by
  have hexec := exec_headEnable s dt cls h hw hc
  obtain ⟨hfound, hnew, htim, hevq, -⟩ := enStored_finds s dt cls h true
  generalize s.enStored dt cls h true = b at *
  have hoff : Block.Alters offSlots s.blk b := hfound.mono (enRegs_offSlots h)
  have hfmt : b.fmt h.val = s.blk.fmt h.val := hoff.fmt (fun _ ⟨_, _, hno⟩ => hno) h.isLt
  have hbad : (b.fmt h.val).ok = false := by
    rw [hfmt, ← Bool.not_eq_true]
    exact fun hok => h64 ((keepsR64_iff _ _).2 hok)
  have hst : (b.ras h.val).phase = .stopped := (congrArg _ (Block.ras_of_tim _ htim)).trans hs
  have hreg : ∀ f ∈ fmtFields, b.reg (f.at h.val) = s.blk.reg (f.at h.val) := fun f hf =>
    hoff.reg _ fun ⟨_, _, hno⟩ => hno (fmtFields_regs hf h.isLt)
  rw [headStart_bad _ h.val hst hbad] at hexec
  refine ⟨_, hexec, ?_, ?_, ?_, ?_, headReach_timOnly hq (hfound.andThen (headRefused_alters ..))
    ((headRefused_newPtp ..).trans hnew)⟩
  · rw [State.answers_on, headRefused_en]
  · rw [State.answers_ras, Block.ras_of_tim _ (headRefused_tim ..), hst]
  · rw [State.answers_on, headRefused_flag]
  · rw [State.answers_evq, headRefused_evq, hevq, hreg _ (by simp [fmtFields]), hreg _ (by simp [fmtFields]),
      hreg _ (by simp [fmtFields])]

theorem headEnable_slot_refuses (q : Nat × Nat) (h64 : Claims.keepsR64 s.blk h.val) (hslot : s.blk.slotOf h.val = some q)
    (hl : (slotLimit s.blk q.1 q.2).1 ≠ 0) :
    ∃ t : State, exec (.headEnable dt cls h) s = .next t ∧ t.blk.on F.TIM_HEAD_CTL_EN h.val = false ∧
      (t.blk.ras h.val).phase = .stopped ∧ Claims.within s t dt [2, 4, 32 + q.1] ∧ Claims.records s t [0x2007] := by
  have hexec := exec_headEnable s dt cls h hw hc
  obtain ⟨hfound, hnew, htim, hevq, -⟩ := enStored_finds s dt cls h true
  generalize s.enStored dt cls h true = b at *
  obtain ⟨-, hk⟩ := slotOf_bounds hslot
  have hoff : Block.Alters offSlots s.blk b := hfound.mono (enRegs_offSlots h)
  have hfmt : b.fmt h.val = s.blk.fmt h.val := hoff.fmt (fun _ ⟨_, _, hno⟩ => hno) h.isLt
  have hok : (b.fmt h.val).ok = true := hfmt ▸ (keepsR64_iff _ _).1 h64
  have hst : (b.ras h.val).phase = .stopped := (congrArg _ (Block.ras_of_tim _ htim)).trans hs
  rw [headStart_limit _ h.val hst hok ((offSlots_slotOf hoff _).trans hslot) (by rwa [offSlots_slotLimit hoff])] at hexec
  have hflag : Block.Alters (enRegs h.val) s.blk (b.flag F.TIM_HEAD_CTL_EN false h.val) := hfound.flag (.inr rfl) _
  generalize slotLimit b q.1 q.2 = l at *
  have halters := hflag.andThen (slotRefuse_alters (cru := q.1) (k := q.2) l _)
  have hnew' : (slotRefuse q.1 q.2 l (b.flag F.TIM_HEAD_CTL_EN false h.val)).newPtp = s.blk.newPtp := by
    rw [slotRefuse_newPtp, Block.flag_newPtp, hnew]
  refine ⟨_, hexec, ?_, ?_, ⟨State.answers_clk hq halters hnew', State.answers_mem hq halters, fun a ha => ?_⟩, ?_⟩
  · rw [State.answers_on, (slotRefuse_alters l _).on fun hm => ?_]
    · exact Block.on_flag_same b F.TIM_HEAD_CTL_EN (by unfold Fld.fits; decide) rfl false h.val 0 0
    · have hwin := slotRegs_window hk hm
      simp only [Fld.at, F.TIM_HEAD_CTL_EN] at hwin
      omega
  · rw [State.answers_ras, Block.ras_of_tim _ (slotRefuse_tim ..), Block.ras_of_tim _ (Block.flag_tim ..), hst]
  · rw [State.answers_reg]
    refine halters.reg a fun hm => ha ?_
    rcases hm with hm | hm
    · rcases headReach_window (h := h) (.inl hm) with hwin | hwin <;> rw [hwin] <;> simp
    · rw [slotRegs_window hk hm]
      simp
  · rw [Claims.records, State.answers_evq, slotRefuse_codes, Block.flag_evq, hevq]

end Enable

include hw hc hq

theorem headDisable_marks (hr : (s.blk.ras h.val).phase = .running) :
    ∃ t : State, exec (.headDisable dt cls h) s = .next t ∧ t.blk.on F.TIM_HEAD_CTL_EN h.val = false ∧
      (t.blk.ras h.val).phase = .running ∧ (t.blk.ras h.val).stopping = true ∧ Claims.timOnly s t dt := by
  have hexec := exec_headDisable s dt cls h hw hc
  obtain ⟨hfound, hnew, htim, -, -⟩ := enStored_finds s dt cls h false
  have hen := enStored_on s dt cls h false
  generalize s.enStored dt cls h false = b at *
  have hrun : (b.ras h.val).phase = .running := (congrArg _ (Block.ras_of_tim _ htim)).trans hr
  rw [headDisable_running h.val hrun] at hexec
  refine ⟨_, hexec, ?_, ?_, ?_, headReach_timOnly hq ((hfound.setRas h.val _).mono Set.subset_union_left) hnew⟩
  · rw [State.answers_on, Block.on_setRas, hen]
  · rw [State.answers_ras, Block.setRas_ras]
    exact hrun
  · rw [State.answers_ras, Block.setRas_ras]

theorem headDisable_stops (hi : (s.blk.ras h.val).phase = .idle) :
    ∃ t : State, exec (.headDisable dt cls h) s = .next t ∧ t.blk.on F.TIM_HEAD_CTL_EN h.val = false ∧
      t.blk.on F.TIM_HEAD_STAT_RUN h.val = false ∧ (t.blk.ras h.val).phase = .stopped ∧ Claims.timOnly s t dt := by
  have hexec := exec_headDisable s dt cls h hw hc
  obtain ⟨hfound, hnew, htim, -, -⟩ := enStored_finds s dt cls h false
  have hen := enStored_on s dt cls h false
  generalize s.enStored dt cls h false = b at *
  rw [headDisable_idle h.val ((congrArg _ (Block.ras_of_tim _ htim)).trans hi)] at hexec
  have hforget : Block.Alters (headRegs h.val) b (frameForget h.val (headStopped h.val b)) :=
    ((headStopped_alters ..).mono (headStat_sub _)).trans (frameForget_alters ..)
  refine ⟨_, hexec, ?_, ?_, ?_, headReach_timOnly hq (hfound.andThen hforget) ?_⟩
  · rw [State.answers_on, (frameForget_alters h.val _ ∅).on (by simp), (headStopped_alters ..).on (headCtl_not_stat _), hen]
  · rw [State.answers_on, (frameForget_alters h.val _ ∅).on (by simp), headStopped_run]
  · rw [State.answers_ras, Block.ras_of_tim _ (frameForget_tim ..), headStopped_ras]
  · rw [frameForget_newPtp, headStopped_newPtp, hnew]

end Answers

/-- Settles O9, outcome by outcome. -/
theorem headEnableStartsOrRefuses : Obligations.HeadEnableStartsOrRefuses := fun _ _ _ _ hw hc hq =>
  ⟨fun hs => ⟨headEnable_starts hw hc hq hs, headEnable_refused hw hc hq hs, headEnable_slot_refuses hw hc hq hs⟩,
    headDisable_marks hw hc hq, headDisable_stops hw hc hq⟩

end Sys2Proof.Machine
end

section
/-! ACT 0 as the packetizer and the Fettler take it (R204, R207, R241-R252): what they do lies in the Fettler's own registers and
records, so the rasters, the registers of TIM and the clocks stay as the raster left them. -/

namespace Sys2Proof.Machine

open Sys2Proof

/-- The Fettler's work: the registers below its window, the rasters and the clocks are as before. -/
structure Block.FetWork (b b' : Block) : Prop where
  reg : ∀ a, a < 0x240000 → b'.reg a = b.reg a
  tim : b'.tim = b.tim
  newPtp : b'.newPtp = b.newPtp
  clkReset : b'.clkReset = b.clkReset

namespace Block.FetWork

variable {b b' b'' : Block}

theorem refl (b : Block) : FetWork b b := ⟨fun _ _ => rfl, rfl, rfl, rfl⟩

theorem trans (h : FetWork b b') (h' : FetWork b' b'') : FetWork b b'' :=
  ⟨fun a ha => (h'.reg a ha).trans (h.reg a ha), h'.tim.trans h.tim, h'.newPtp.trans h.newPtp, h'.clkReset.trans h.clkReset⟩

theorem ite {p : Prop} [Decidable p] (h : FetWork b b') (h' : FetWork b b'') : FetWork b (if p then b' else b'') := by
  split
  · exact h
  · exact h'

/-- An update that is no register's. -/
theorem keep (h : FetWork b b') (hr : b''.regs = b'.regs) (ht : b''.tim = b'.tim) (hn : b''.newPtp = b'.newPtp)
    (hc : b''.clkReset = b'.clkReset) : FetWork b b'' :=
  h.trans ⟨fun a _ => by simp [Block.reg, hr], ht, hn, hc⟩

section Fields

variable {f : Fld} (hf : 0x240000 ≤ f.addr)
include hf

theorem put (h : FetWork b b') (x i j k : Nat) : FetWork b (b'.put f x i j k) :=
  h.trans ⟨fun a ha => Block.reg_setReg_of_ne _ _ (by simp only [Fld.at]; omega), Block.put_tim .., Block.put_newPtp ..,
    Block.put_clkReset ..⟩

theorem flag (h : FetWork b b') (x : Bool) (i j k : Nat) : FetWork b (b'.flag f x i j k) := h.put hf _ i j k

theorem evt (h : FetWork b b') (i j : Nat) : FetWork b (b'.evt f i j) := (h.put hf 1 i j 0).keep rfl rfl rfl rfl

end Fields

theorem put2 (h : FetWork b b') {lo hi : Fld} (hl : 0x240000 ≤ lo.addr) (hh : 0x240000 ≤ hi.addr) (x i j : Nat) :
    FetWork b (b'.put2 lo hi x i j) := (h.put hl _ i j 0).put hh _ i j 0

theorem record (h : FetWork b b') (code sev p0 p1 p2 p3 inst : Nat) : FetWork b (b'.record code sev p0 p1 p2 p3 inst) :=
  h.keep rfl rfl rfl rfl

theorem recordLim (h : FetWork b b') (c : Clk) (key period code sev p0 p1 p2 p3 inst : Nat) :
    FetWork b (b'.recordLim c key period code sev p0 p1 p2 p3 inst) := by
  unfold Block.recordLim
  exact .ite (h.keep rfl rfl rfl rfl) h

theorem setFet (h : FetWork b b') (n : Nat) (x : FetHead) : FetWork b (b'.setFet n x) := h.keep rfl rfl rfl rfl

/-- Work that is done for each element of a list. -/
theorem foldl {α : Type} (g : Block → α → Block) (hg : ∀ b a, FetWork b (g b a)) (l : List α) (b : Block) :
    FetWork b (l.foldl g b) := by
  induction l generalizing b with
  | nil => exact .refl b
  | cons a t ih => exact (hg b a).trans (ih _)

theorem on (h : FetWork b b') {f : Fld} {i j k : Nat} (hf : f.at i j k < 0x240000) : b'.on f i j k = b.on f i j k := by
  simp [Block.on, Block.get, h.reg _ hf]

end Block.FetWork

section Work

variable (c : Clk) (h : Nat) (b : Block)

/-! ## The packetizer -/

theorem releaseAtStart_work : Block.FetWork b (releaseAtStart h b) := by
  unfold releaseAtStart
  exact .ite ((Block.FetWork.refl b).setFet ..) (.refl b)

theorem frameIndex_work : Block.FetWork b (frameIndex h b) := by
  unfold frameIndex
  dsimp only
  have hput := (Block.FetWork.refl b).put2 (lo := F.FET_PKT_FIDX_LO_F_LO) (hi := F.FET_PKT_FIDX_HI_F_HI) (by decide) (by decide)
    (indexAt b h (b.aidxOf h)) h 0
  exact .ite (((hput.setFet ..).evt (by decide) ..).record ..) hput

theorem streamEnable_work : Block.FetWork b (streamEnable h b) := by
  unfold streamEnable
  dsimp only
  exact .ite (.ite ((Block.FetWork.refl b).put (by decide) ..) (.refl b))
    (((((Block.FetWork.refl b).flag (by decide) ..).put (by decide) ..).evt (by decide) ..).record ..)

theorem streamAtStart_work : Block.FetWork b (streamAtStart h b) := by
  unfold streamAtStart
  dsimp only
  have henable : Block.FetWork b
      (if (streamCtl b h).1 && b.get F.FET_PKT_STAT_STATE h = 0 then streamEnable h b else b) :=
    .ite (streamEnable_work h b) (.refl b)
  refine Block.FetWork.put (by decide) (.flag (by decide) (.flag (by decide) (.flag (by decide)
    (.ite (.record (.evt (by decide) ?_ ..) ..) ?_) ..) ..) ..) ..
  all_goals exact .ite ((henable.evt (by decide) ..).record ..) henable

theorem linkFld_addr (p : Nat) : 0x240000 ≤ (linkFld p).addr := by unfold linkFld; split <;> decide

theorem pathsAtStart_work : Block.FetWork b (pathsAtStart h b) := by
  refine Block.FetWork.foldl _ (fun b p => ?_) _ b
  dsimp only
  exact .ite (.refl b) (((((Block.FetWork.refl b).setFet ..).flag (linkFld_addr p) ..).evt (by decide) ..).record ..)

theorem packetFrameStart_work : Block.FetWork b (packetFrameStart h b) := by
  unfold packetFrameStart
  dsimp only
  have hindex := (releaseAtStart_work h b).trans (frameIndex_work h _)
  exact (((hindex.put (by decide) ..).put (by decide) ..).trans (streamAtStart_work h _)).trans (pathsAtStart_work h _)

/-! ## The Fettler -/

theorem hatchStop_work (index : Nat) : Block.FetWork b (hatchStop c h index b) :=
  ((Block.FetWork.refl b).setFet ..).recordLim ..

theorem dimTake_work (r : DimReq) : Block.FetWork b (dimTake h r b) := by
  unfold dimTake
  dsimp only
  have hflag := (Block.FetWork.refl b).flag (f := F.FET_HEAD_STAT_DIMMED) (by decide) (!r.lit) h 0 0
  exact (Block.FetWork.ite (hflag.evt (by decide) ..) hflag).record ..

theorem dimsDue_work : Block.FetWork b (dimsDue h b) :=
  ((Block.FetWork.refl b).setFet ..).trans (Block.FetWork.foldl _ (fun b r => dimTake_work h b r) _ _)

theorem fetFrameStart_work (repeated : Bool) : Block.FetWork b (fetFrameStart c h repeated b) := by
  unfold fetFrameStart
  dsimp only
  refine .trans (.setFet (.put (by decide) (.flag (by decide) (.ite (.trans ?_ (hatchStop_work ..)) ?_) ..) ..) ..) (dimsDue_work ..)
  all_goals exact .ite (((Block.FetWork.refl b).put (by decide) ..).put (by decide) ..) (.refl b)

/-- ACT 0 of a frame when the unit is not in PAIR mode: the packetizer's work and the Fettler's. -/
theorem frameStarted_work (repeated : Bool) (hp : b.pairMode = false) : Block.FetWork b (frameStarted c h repeated b) := by
  have hwork := (packetFrameStart_work h b).trans (fetFrameStart_work c h _ repeated)
  have hp' : (fetFrameStart c h repeated (packetFrameStart h b)).pairMode = false := (hwork.on (by decide)).trans hp
  unfold frameStarted pairFrameStart
  rw [if_pos (by simp [hp'])]
  exact hwork

end Work

end Sys2Proof.Machine
end

section
/-! ACT 0 of a frame (R68-R71): the counts, the phase error and what the raster decides on it. -/

namespace Sys2Proof.Machine

open Sys2Proof

/-! ## The raster's start of a frame -/

/-- The frame count, the alignment index and the phase error of the frame that starts. -/
def frameCounts (h frame aidx : Nat) (e : Int) (b : Block) : Block :=
  ((b.put2 F.TIM_HEAD_FRAME_LO_FRAME_LO F.TIM_HEAD_FRAME_HI_FRAME_HI frame h).put2 F.TIM_HEAD_AIDX_LO_AIDX_LO
    F.TIM_HEAD_AIDX_HI_AIDX_HI aidx h).put F.TIM_HEAD_PHASE_E (ofSigned 32 e) h

/-- The status of the frame that starts. -/
def frameFlags (h : Nat) (e : Int) (relocks : Bool) (b : Block) : Block :=
  ((b.flag F.TIM_HEAD_STAT_SLEW (e ≠ 0) h).flag F.TIM_HEAD_STAT_WAIT false h).flag F.TIM_HEAD_STAT_RELOCK relocks h

/-- The phase error exceeds a frame. -/
def mustRelock (f : HeadFmt) (e : Int) : Bool := (256 * f.total : Nat) < e.natAbs

/-- What the next frame is shortened or lengthened by, in 1/256 line. -/
def frameSlew (f : HeadFmt) (e : Int) : Int :=
  if (256 * f.total : Nat) < e.natAbs then 0 else if 0 < e then -(min e 32) else min (-e) 32

/-- The raster in the frame that starts. -/
def frameRaster (c : Clk) (f : HeadFmt) (e : Int) (repeated : Bool) (r : Raster) : Raster :=
  { r with
    phase := .running, act0 := c.steady, prev := r.act0, slew := frameSlew f e, relock := mustRelock f e, repeated := repeated,
    eLock := e, ticks := 0, commits := [], poured := false }

section Act0

variable (c : Clk) (h frame aidx : Nat) (repeated : Bool) (e : Int) (relocks : Bool) (b : Block)

/-- The registers that hold a head's counts. -/
def countRegs : Set Nat :=
  {F.TIM_HEAD_FRAME_LO_FRAME_LO.at h, F.TIM_HEAD_FRAME_HI_FRAME_HI.at h, F.TIM_HEAD_AIDX_LO_AIDX_LO.at h,
    F.TIM_HEAD_AIDX_HI_AIDX_HI.at h, F.TIM_HEAD_PHASE_E.at h}

theorem frameCounts_alters : Block.Alters (countRegs h) b (frameCounts h frame aidx e b) :=
  (((Block.Alters.refl _ b).put2 (.inl rfl) (.inr (.inl rfl)) _).put2 (.inr (.inr (.inl rfl))) (.inr (.inr (.inr (.inl rfl)))) _).put
    (.inr (.inr (.inr (.inr rfl)))) _

theorem frameFlags_alters : Block.Alters {F.TIM_HEAD_STAT_RUN.at h} b (frameFlags h e relocks b) :=
  headStat_flag (headStat_flag (headStat_flag (.refl _ b) (f := F.TIM_HEAD_STAT_SLEW) rfl _) (f := F.TIM_HEAD_STAT_WAIT) rfl _)
    (f := F.TIM_HEAD_STAT_RELOCK) rfl _

theorem frameCounts_frame : (frameCounts h frame aidx e b).frameOf h = frame % 2 ^ 48 := by
  have hkeep : ∀ f ∈ [F.TIM_HEAD_FRAME_LO_FRAME_LO, F.TIM_HEAD_FRAME_HI_FRAME_HI], ∀ b' : Block,
      ((b'.put2 F.TIM_HEAD_AIDX_LO_AIDX_LO F.TIM_HEAD_AIDX_HI_AIDX_HI aidx h).put F.TIM_HEAD_PHASE_E (ofSigned 32 e) h).get f h =
        b'.get f h := by
    simp only [List.forall_mem_cons, List.not_mem_nil, false_implies, implies_true, and_true]
    refine ⟨fun b' => ?_, fun b' => ?_⟩ <;>
    · unfold Block.put2
      iterate 3 rw [Block.get_put_other _ _ _ _ _ _ _ _ _ _ (by
        simp [Fld.at, F.TIM_HEAD_PHASE_E, F.TIM_HEAD_AIDX_LO_AIDX_LO, F.TIM_HEAD_AIDX_HI_AIDX_HI, F.TIM_HEAD_FRAME_LO_FRAME_LO,
          F.TIM_HEAD_FRAME_HI_FRAME_HI])]
  rw [Block.frameOf, Block.get2, frameCounts, hkeep _ (by simp), hkeep _ (by simp)]
  exact Block.get2_put2 b (by unfold Fld.fits; decide) (by unfold Fld.fits; decide) frame h 0
    (by simp [Fld.at, F.TIM_HEAD_FRAME_LO_FRAME_LO, F.TIM_HEAD_FRAME_HI_FRAME_HI])

theorem frameCounts_aidx : (frameCounts h frame aidx e b).aidxOf h = aidx % 2 ^ 48 := by
  rw [Block.aidxOf, Block.get2, frameCounts, Block.get_put_other _ _ _ _ _ _ _ _ _ _ (by
    simp [Fld.at, F.TIM_HEAD_PHASE_E, F.TIM_HEAD_AIDX_LO_AIDX_LO]), Block.get_put_other _ _ _ _ _ _ _ _ _ _ (by
    simp [Fld.at, F.TIM_HEAD_PHASE_E, F.TIM_HEAD_AIDX_HI_AIDX_HI])]
  exact Block.get2_put2 _ (by unfold Fld.fits; decide) (by unfold Fld.fits; decide) aidx h 0
    (by simp [Fld.at, F.TIM_HEAD_AIDX_LO_AIDX_LO, F.TIM_HEAD_AIDX_HI_AIDX_HI])

theorem frameCounts_phase : (frameCounts h frame aidx e b).get F.TIM_HEAD_PHASE_E h = ofSigned 32 e :=
  Block.get_put_self _ _ (by decide) (ofSigned_lt 32 e) h 0 0

theorem frameFlags_slew : (frameFlags h e relocks b).on F.TIM_HEAD_STAT_SLEW h = decide (e ≠ 0) := by
  rw [frameFlags, Block.on, Block.flag, Block.get_put_apart _ F.TIM_HEAD_STAT_RELOCK F.TIM_HEAD_STAT_SLEW
    (by unfold Fld.fits; decide) (by unfold Fld.apart; decide), Block.flag,
    Block.get_put_apart _ F.TIM_HEAD_STAT_WAIT F.TIM_HEAD_STAT_SLEW (by unfold Fld.fits; decide) (by unfold Fld.apart; decide)]
  exact Block.on_flag_same b F.TIM_HEAD_STAT_SLEW (by unfold Fld.fits; decide) rfl _ h 0 0

theorem frameFlags_wait : (frameFlags h e relocks b).on F.TIM_HEAD_STAT_WAIT h = false := by
  rw [frameFlags, Block.on, Block.flag, Block.get_put_apart _ F.TIM_HEAD_STAT_RELOCK F.TIM_HEAD_STAT_WAIT
    (by unfold Fld.fits; decide) (by unfold Fld.apart; decide)]
  exact Block.on_flag_same _ F.TIM_HEAD_STAT_WAIT (by unfold Fld.fits; decide) rfl _ h 0 0

theorem frameFlags_relock : (frameFlags h e relocks b).on F.TIM_HEAD_STAT_RELOCK h = relocks :=
  Block.on_flag_same _ F.TIM_HEAD_STAT_RELOCK (by unfold Fld.fits; decide) rfl _ h 0 0

theorem frameFlags_counts_tim : (frameFlags h e relocks (frameCounts h frame aidx e b)).tim = b.tim := by
  rw [frameFlags, Block.flag_tim, Block.flag_tim, Block.flag_tim, frameCounts, Block.put_tim,
    Block.put2, Block.put_tim, Block.put_tim, Block.put2, Block.put_tim, Block.put_tim]

theorem frameFlags_counts_newPtp : (frameFlags h e relocks (frameCounts h frame aidx e b)).newPtp = b.newPtp := by
  rw [frameFlags, Block.flag_newPtp, Block.flag_newPtp, Block.flag_newPtp, frameCounts, Block.put_newPtp,
    Block.put2, Block.put_newPtp, Block.put_newPtp, Block.put2, Block.put_newPtp, Block.put_newPtp]

/-- ACT 0 is the counts, the status and the raster. -/
theorem rasterAct0_eq (hf : (b.fmt h).phase c aidx = e) :
    rasterAct0 c h frame aidx repeated b =
      (frameFlags h e (mustRelock (b.fmt h) e || repeated) (frameCounts h frame aidx e b)).setRas h
        (frameRaster c (b.fmt h) e repeated (b.ras h)) := by
  have hras : (frameFlags h e (mustRelock (b.fmt h) e || repeated) (frameCounts h frame aidx e b)).ras h = b.ras h :=
    Block.ras_of_tim _ (frameFlags_counts_tim ..)
  rw [← hras]
  subst hf
  rfl

end Act0

end Sys2Proof.Machine
end

section
/-! A frame's start as the claims state it (R68-R71). -/

namespace Sys2Proof.Machine

open Sys2Proof

/-- R69's phase error is the model's. -/
theorem phaseError_eq (c : Clk) (b : Block) (h n : Nat) : (b.fmt h).phase c n = Claims.phaseError b h c.ptp n := by
  have hclaim : Claims.phaseError b h c.ptp n =
      ((c.ptp : Int) * ((b.fmt h).num * (b.fmt h).total) -
        ((n : Int) * (b.fmt h).total + (b.fmt h).ofs) * (b.fmt h).den * sTick) * 256 / ((b.fmt h).den * sTick) := rfl
  rw [hclaim, HeadFmt.phase, HeadFmt.targetScaled]
  push_cast
  congr 2
  ring

/-- What R70 and R71 decide on the phase error. -/
theorem mustRelock_eq (f : HeadFmt) (e : Int) : mustRelock f e = decide (256 * (f.total : Int) < |e|) := by
  rw [mustRelock, Int.abs_eq_natAbs]
  congr 1
  apply propext
  omega

theorem frameSlew_of_relock {f : HeadFmt} {e : Int} (h : 256 * (f.total : Int) < |e|) : frameSlew f e = 0 := by
  rw [Int.abs_eq_natAbs] at h
  exact if_pos (by omega)

theorem frameSlew_of_slew {f : HeadFmt} {e : Int} (h : |e| ≤ 256 * (f.total : Int)) :
    (0 ≤ e → frameSlew f e = -(min e 32)) ∧ (e ≤ 0 → frameSlew f e = min (-e) 32) := by
  rw [Int.abs_eq_natAbs] at h
  rw [frameSlew, if_neg (by omega)]
  split <;> omega

namespace Block.FetWork

variable {b b' : Block} (h : Block.FetWork b b') {f : Fld} {i j k : Nat}
include h

theorem get (hf : f.at i j k < 0x240000) : b'.get f i j k = b.get f i j k := by simp [Block.get, h.reg _ hf]

end Block.FetWork

section Start

variable (c : Clk) (h : Head) (frame aidx : Nat) (repeated : Bool) (b : Block)

/-- The registers that a frame's start reaches in TIM. -/
def frameRegs (h : Nat) : Set Nat := countRegs h ∪ {F.TIM_HEAD_STAT_RUN.at h}

theorem rasterAct0_alters : Block.Alters (frameRegs h.val) b (rasterAct0 c h.val frame aidx repeated b) := by
  rw [rasterAct0_eq c h.val frame aidx repeated _ b rfl]
  exact ((frameCounts_alters ..).andThen (frameFlags_alters ..)).setRas ..

theorem rasterAct0_newPtp : (rasterAct0 c h.val frame aidx repeated b).newPtp = b.newPtp := by
  rw [rasterAct0_eq c h.val frame aidx repeated _ b rfl, Block.setRas_newPtp, frameFlags_counts_newPtp]

theorem rasterAct0_ras : (rasterAct0 c h.val frame aidx repeated b).ras h.val =
    frameRaster c (b.fmt h.val) ((b.fmt h.val).phase c aidx) repeated (b.ras h.val) := by
  rw [rasterAct0_eq c h.val frame aidx repeated _ b rfl, Block.setRas_ras]

/-- A frame's start reaches the head's own registers: none outside TIM, and none that all heads share. -/
theorem frameRegs_heads {a : Nat} (ha : a ∈ frameRegs h.val) : a / 0x1000 = 0x41 := by
  rcases ha with (rfl | rfl | rfl | rfl | rfl) | rfl <;>
    simp only [Fld.at, F.TIM_HEAD_FRAME_LO_FRAME_LO, F.TIM_HEAD_FRAME_HI_FRAME_HI, F.TIM_HEAD_AIDX_LO_AIDX_LO,
      F.TIM_HEAD_AIDX_HI_AIDX_HI, F.TIM_HEAD_PHASE_E, F.TIM_HEAD_STAT_RUN] <;> omega

/-- The head's status does not hold its counts. -/
theorem rasterAct0_counts (f : Fld) (hf : f ∈ [F.TIM_HEAD_FRAME_LO_FRAME_LO, F.TIM_HEAD_FRAME_HI_FRAME_HI,
    F.TIM_HEAD_AIDX_LO_AIDX_LO, F.TIM_HEAD_AIDX_HI_AIDX_HI, F.TIM_HEAD_PHASE_E]) :
    (rasterAct0 c h.val frame aidx repeated b).get f h.val =
      (frameCounts h.val frame aidx ((b.fmt h.val).phase c aidx) b).get f h.val := by
  have hne : ∀ f ∈ [F.TIM_HEAD_FRAME_LO_FRAME_LO, F.TIM_HEAD_FRAME_HI_FRAME_HI, F.TIM_HEAD_AIDX_LO_AIDX_LO,
      F.TIM_HEAD_AIDX_HI_AIDX_HI, F.TIM_HEAD_PHASE_E],
      f.si = F.TIM_HEAD_STAT_RUN.si ∧ f.addr ≠ F.TIM_HEAD_STAT_RUN.addr := by decide
  obtain ⟨hsi, haddr⟩ := hne f hf
  rw [rasterAct0_eq c h.val frame aidx repeated _ b rfl, Block.get_setRas]
  refine (frameFlags_alters h.val _ _ _).get fun hm => haddr ?_
  have heq : f.at h.val = F.TIM_HEAD_STAT_RUN.at h.val := hm
  simp only [Fld.at, hsi] at heq
  omega

/-- A field of the status reads as the start of the frame leaves it. -/
theorem rasterAct0_flag (f : Fld) :
    (rasterAct0 c h.val frame aidx repeated b).get f h.val =
      (frameFlags h.val ((b.fmt h.val).phase c aidx) (mustRelock (b.fmt h.val) ((b.fmt h.val).phase c aidx) || repeated)
        (frameCounts h.val frame aidx ((b.fmt h.val).phase c aidx) b)).get f h.val := by
  rw [rasterAct0_eq c h.val frame aidx repeated _ b rfl, Block.get_setRas]

variable {c h frame aidx repeated b}

/-- The frame has started: `b` is the block that the raster found, of the format, the clocks and the PAIR mode of the state
before. -/
theorem frameStarted_claims {s : State} {dt : Nat} (hq : s.blk.quiet = true) (hp : b.pairMode = false)
    (hf : b.fmt h.val = s.blk.fmt h.val) (hn : b.newPtp = s.blk.newPtp) (hr : b.clkReset = s.blk.clkReset) :
    Claims.frameStarts s (s.ends dt (frameStarted (s.pass dt).clk h.val repeated
      (rasterAct0 (s.pass dt).clk h.val frame aidx repeated b))) dt h.val frame aidx repeated := by
  obtain ⟨-, hnone, hreset, -⟩ := (Block.quiet_iff _).1 hq
  have halters := rasterAct0_alters (s.pass dt).clk h frame aidx repeated b
  have hpair : (rasterAct0 (s.pass dt).clk h.val frame aidx repeated b).pairMode = false :=
    (halters.on fun hm => absurd (frameRegs_heads h hm) (by decide)).trans hp
  have hwork := frameStarted_work (s.pass dt).clk h.val _ repeated hpair
  have hclk : (s.ends dt (frameStarted (s.pass dt).clk h.val repeated
      (rasterAct0 (s.pass dt).clk h.val frame aidx repeated b))).clk = (s.pass dt).clk :=
    s.ends_clk dt _ (hwork.newPtp.trans ((rasterAct0_newPtp ..).trans (hn.trans hnone)))
      (hwork.clkReset.trans (halters.clkReset.trans (hr.trans hreset)))
  have he : (b.fmt h.val).phase (s.pass dt).clk aidx = Claims.phaseError s.blk h.val (s.pass dt).clk.ptp aidx := by
    rw [hf, phaseError_eq]
  have htotal : (b.fmt h.val).total = s.blk.get F.TIM_HEAD_VLINES_TOTAL h.val := by rw [hf, Block.fmt]
  have hcount := rasterAct0_counts (s.pass dt).clk h frame aidx repeated b
  have hflag := rasterAct0_flag (s.pass dt).clk h frame aidx repeated b
  have hras := rasterAct0_ras (s.pass dt).clk h frame aidx repeated b
  generalize rasterAct0 (s.pass dt).clk h.val frame aidx repeated b = b' at *
  have hfinal : ∀ f : Fld, f.addr < 0x41040 → f.si = 0x40 →
      (s.ends dt (frameStarted (s.pass dt).clk h.val repeated b')).blk.get f h.val = b'.get f h.val := by
    intro f ha hs
    rw [State.ends_get, hwork.get (by simp only [Fld.at, hs]; omega)]
  have hrasT : (s.ends dt (frameStarted (s.pass dt).clk h.val repeated b')).blk.ras h.val = b'.ras h.val := by
    rw [Block.ras, State.ends_tim, hwork.tim, Block.ras]
  generalize s.ends dt (frameStarted (s.pass dt).clk h.val repeated b') = t at *
  rw [he] at hcount hflag hras
  unfold Claims.frameStarts
  dsimp only
  rw [← htotal]
  generalize Claims.phaseError s.blk h.val (s.pass dt).clk.ptp aidx = e at *
  refine ⟨?_, ?_, ?_, ?_, ?_, ?_, ?_, ?_, ?_, fun hslew => ?_, fun hre => ?_, hclk⟩
  · rw [Block.frameOf, Block.get2, hfinal _ (by decide) rfl, hfinal _ (by decide) rfl, hcount _ (by simp), hcount _ (by simp)]
    exact frameCounts_frame ..
  · rw [Block.aidxOf, Block.get2, hfinal _ (by decide) rfl, hfinal _ (by decide) rfl, hcount _ (by simp), hcount _ (by simp)]
    exact frameCounts_aidx ..
  · rw [hfinal _ (by decide) rfl, hcount _ (by simp), frameCounts_phase]
    exact Int.toNat_of_nonneg (Int.emod_nonneg e (by decide))
  · rw [Block.on, hfinal _ (by decide) rfl, hflag]
    exact frameFlags_slew ..
  · rw [Block.on, hfinal _ (by decide) rfl, hflag]
    exact frameFlags_wait ..
  · rw [Block.on, hfinal _ (by decide) rfl, hflag, ← mustRelock_eq]
    exact frameFlags_relock ..
  · rw [hrasT, hras, frameRaster]
  · rw [hrasT, hras, frameRaster]
  · rw [hrasT, hras, ← mustRelock_eq, frameRaster]
  · rw [hrasT, hras, frameRaster]
    exact frameSlew_of_slew hslew
  · rw [hrasT, hras, frameRaster]
    exact frameSlew_of_relock hre

end Start

end Sys2Proof.Machine
end

section
/-! The commands of a frame: its start, its end, the end of a re-lock hold, the band ticks and the pour mark (R67-R73, R78). -/

namespace Sys2Proof.Machine

open Sys2Proof

/-! ## The calendar at a head's first frame (R77) -/

/-- The registers of the calendar and its flag. -/
def calRegs : Set Nat := {a | a / 0x1000 = 0x42 ∨ a = F.TIM_EVT_CAL_ERR.addr}

/-- Work on the calendar: its own registers and flag, and no clock. -/
structure Block.CalWork (b b' : Block) : Prop where
  alters : Block.Alters calRegs b b'
  newPtp : b'.newPtp = b.newPtp

namespace Block.CalWork

variable {b b' b'' : Block}

theorem refl (b : Block) : CalWork b b := ⟨.refl _ b, rfl⟩

theorem trans (h : CalWork b b') (h' : CalWork b' b'') : CalWork b b'' := ⟨h.alters.trans h'.alters, h'.newPtp.trans h.newPtp⟩

theorem foldl (g : Block → Nat → Block) (l : List Nat) (hg : ∀ e ∈ l, ∀ b, CalWork b (g b e)) (b : Block) :
    CalWork b (l.foldl g b) := by
  induction l generalizing b with
  | nil => exact refl b
  | cons e t ih => exact (hg e (by simp) b).trans (ih (fun x hx => hg x (List.mem_cons_of_mem _ hx)) _)

end Block.CalWork

theorem calCheck_work {e : Nat} (he : e < 256) (b : Block) : Block.CalWork b (calCheck e b) := by
  refine ⟨(calCheck_alters e b).mono fun a ha => ?_, calCheck_newPtp e b⟩
  rcases ha with rfl | rfl
  · refine .inl ?_
    simp only [Fld.at, F.TIM_CAL_ACT_EN]
    omega
  · exact .inr rfl

theorem calCheckHead_work (h : Nat) (b : Block) : Block.CalWork b (calCheckHead h b) := by
  refine Block.CalWork.foldl _ _ (fun e he b => ?_) b
  split
  · exact calCheck_work (List.mem_range.1 he) b
  · exact .refl b

theorem calForget_work (h : Nat) (b : Block) : Block.CalWork b (calForget h b) := by
  refine Block.CalWork.foldl _ _ (fun e _ b => ?_) b
  dsimp only
  split
  · exact .refl b
  · exact ⟨(Block.Alters.refl _ b).tim _, rfl⟩

/-- The calendar's registers are no head's format and not the PAIR block's. -/
theorem calRegs_formats {a : Nat} (ha : a ∈ calRegs) : a ∉ fmtRegs ∧ a ≠ F.PAIR_CFG_MODE.addr := by
  rcases ha with hpage | rfl
  · exact ⟨fun ⟨hhead, _, _⟩ => by omega, fun he => by rw [he] at hpage; exact absurd hpage (by decide)⟩
  · exact ⟨fun ⟨hhead, _, _⟩ => absurd hhead (by decide), by decide⟩

/-! ## The commands and what they find -/

theorem streamPends_none {c : Clk} {m : Mem} {h : Nat} {b : Block} (hl : b.pendL = []) : streamPends c m h b = b :=
  if_neg (by simp [hl])

theorem takePends_none {c : Clk} {m : Mem} {sel : Pend → Bool} {b : Block} (hl : b.pendL = []) :
    takePends c m sel b = { b with pendL := [] } := by
  unfold takePends
  rw [hl]
  rfl

section Commands

variable {s : State} (dt : Nat) (h : Head) (hh : s.blk.hold = .none) (hl : s.blk.pendL = [])
include hh hl

theorem exec_headFirstFrame :
    exec (.headFirstFrame dt h) s = .next (s.ends dt (firstFrame (s.pass dt).clk h.val (s.found dt))) := by
  refine (s.run_eq_ends dt _ hh).trans ?_
  rw [streamPends_none (b := s.found dt) hl]

theorem exec_frameStart :
    exec (.frameStart dt h) s = .next (s.ends dt (frameEnd (s.pass dt).clk h.val (s.found dt))) := by
  refine (s.run_eq_ends dt _ hh).trans ?_
  rw [streamPends_none (b := s.found dt) hl]

theorem exec_relockHoldEnd :
    exec (.relockHoldEnd dt h) s = .next (s.ends dt (holdEnd (s.pass dt).clk h.val (s.found dt))) := by
  refine (s.run_eq_ends dt _ hh).trans ?_
  rw [streamPends_none (b := s.found dt) hl]

/-- A band's tick that is due, no write waiting for it. -/
theorem exec_bandTick {band : Fin 135} (hd : bandDue (s.pass dt).clk (s.found dt) h.val band.val = true) :
    exec (.bandTick dt h band) s = .next (s.ends dt { bandTick h.val band.val (s.found dt) with pendL := [] }) := by
  refine (s.run_eq_ends dt _ hh).trans ?_
  rw [if_pos hd, takePends_none (b := bandTick h.val band.val (s.found dt)) hl]

omit hl in
theorem exec_pourMarkUpdate :
    exec (.pourMarkUpdate dt h) s = .next (s.ends dt (pourUpdate (s.pass dt).clk h.val (s.found dt))) := s.run_eq_ends dt _ hh

end Commands

/-! ## The branches of a frame's start and end -/

section Branches

variable (c : Clk) (h : Nat) {b : Block}

theorem firstFrame_due (hr : (b.ras h).phase = .idle) (ht : (b.fmt h).reached c (b.ras h).target = true) :
    firstFrame c h b =
      frameStarted c h false (rasterAct0 c h 0 (b.ras h).target false (calForget h (calCheckHead h b))) :=
  if_pos (by simp [hr, ht])

theorem holdEnd_due (hr : (b.ras h).phase = .hold) (ht : (b.fmt h).reached c (b.ras h).target = true) :
    holdEnd c h b = frameStarted c h true (relockEnd c h b) := if_pos (by simp [hr, ht])

/-- The block at which a repeated frame starts: the re-lock flagged and recorded. -/
def relockNoted (b : Block) : Block :=
  (b.evt F.TIM_EVT_RELOCK).record 0x0406 5 h (ofSigned 32 (b.ras h).eLock) (b.frameOf h + 1)
    ((c.steady - (b.ras h).holdFrom) / nsTick)

theorem relockEnd_eq (b : Block) :
    relockEnd c h b = rasterAct0 c h (b.frameOf h + 1) (b.ras h).target true (relockNoted c h b) := rfl

theorem relockNoted_alters (b : Block) : Block.Alters {F.TIM_EVT_RELOCK.addr} b (relockNoted c h b) :=
  ((Block.Alters.refl {F.TIM_EVT_RELOCK.addr} b).evt (f := F.TIM_EVT_RELOCK) rfl).record ..

theorem relockNoted_newPtp (b : Block) : (relockNoted c h b).newPtp = b.newPtp := by
  rw [relockNoted, Block.record_newPtp, Block.evt_newPtp]

theorem relockNoted_flag (b : Block) : (relockNoted c h b).on F.TIM_EVT_RELOCK = true := by
  rw [relockNoted, Block.on, Block.get_record]
  exact Block.on_evt _ (by unfold Fld.fits; decide) rfl 0 0

section Running

variable (hr : (b.ras h).phase = .running) (hd : lineReached (b.fmt h) (b.ras h) c.steady (b.fmt h).total = true)
include hr hd

theorem frameEnd_next (hs : (b.ras h).stopping = false) (hk : (b.ras h).relock = false) :
    frameEnd c h b = frameStarted c h false (rasterAct0 c h (b.frameOf h + 1) (b.aidxOf h + 1) false b) := by
  unfold frameEnd
  dsimp only
  rw [if_pos (by simp [hr, hd]), if_neg (by simp [hs]), if_neg (by simp [hk])]

theorem frameEnd_stops (hs : (b.ras h).stopping = true) : frameEnd c h b = frameForget h (headStopped h b) := by
  unfold frameEnd
  dsimp only
  rw [if_pos (by simp [hr, hd]), if_pos hs]

theorem frameEnd_holds (hs : (b.ras h).stopping = false) (hk : (b.ras h).relock = true) : frameEnd c h b = relockHold c h b := by
  unfold frameEnd
  dsimp only
  rw [if_pos (by simp [hr, hd]), if_neg (by simp [hs]), if_pos hk]

end Running

theorem relockHold_alters (b : Block) : Block.Alters {F.TIM_HEAD_STAT_RUN.at h} b (relockHold c h b) :=
  headStat_flag ((Block.Alters.refl _ b).setRas h _) (f := F.TIM_HEAD_STAT_WAIT) rfl true

theorem relockHold_ras (b : Block) : (relockHold c h b).ras h =
    { b.ras h with phase := .hold, target := (b.fmt h).nextIndex c.ptp, holdFrom := c.steady } := by
  rw [relockHold, Block.ras, Block.flag_tim]
  exact Block.setRas_ras ..

theorem relockHold_wait (b : Block) : (relockHold c h b).on F.TIM_HEAD_STAT_WAIT h = true :=
  Block.on_flag_same _ F.TIM_HEAD_STAT_WAIT (by unfold Fld.fits; decide) rfl true h 0 0

end Branches

end Sys2Proof.Machine
end

section
/-! Frame starts count without a gap, measure the phase, and slew or re-lock. -/

namespace Sys2Proof.Machine

open Sys2Proof

/-! ## The pour mark (R78, R207) -/

section Pour

variable (c : Clk) (h : Nat) (b : Block)

/-- The pour mark is due: VFP 0 has come, the mark is not fixed yet in the frame, and no commit instant is owed. -/
def pourDue : Bool :=
  (b.ras h).phase == .running && lineReached (b.fmt h) (b.ras h) c.steady (b.fmt h).act && !(b.ras h).poured && commitsBefore b h 64

theorem pourUpdate_due (hd : pourDue c h b = true) : pourUpdate c h b =
    pourMark h (indexAt b h (b.aidxOf h + 1)) (b.setRas h { b.ras h with poured := true }) := if_pos hd

theorem pourUpdate_idle (hd : pourDue c h b = false) : pourUpdate c h b = b := if_neg (Bool.eq_false_iff.1 hd)

theorem pourMark_ras (next i : Nat) : (pourMark h next b).ras i = b.ras i := rfl

theorem pourMark_nextG (next : Nat) : ((pourMark h next b).fet h).nextG = some (gray next) := by
  rw [pourMark, Block.fet, Block.setFet, tget_tput_same]

theorem pourMark_alters (S : Set Nat) (next : Nat) : Block.Alters S b (pourMark h next b) :=
  (Block.Alters.refl S b).keep rfl rfl rfl rfl

theorem pourMark_regs (next : Nat) : (pourMark h next b).regs = b.regs := rfl
theorem pourMark_newPtp (next : Nat) : (pourMark h next b).newPtp = b.newPtp := rfl
theorem Block.setRas_regs (r : Raster) : (b.setRas h r).regs = b.regs := rfl

end Pour

theorem State.ends_regs (s : State) (dt : Nat) (b : Block) : (s.ends dt b).blk.regs = b.regs := by rw [State.ends_blk]
theorem State.ends_fets (s : State) (dt : Nat) (b : Block) : (s.ends dt b).blk.fets = b.fets := by rw [State.ends_blk]

theorem State.ends_fet (s : State) (dt : Nat) (b : Block) (h : Nat) : (s.ends dt b).blk.fet h = b.fet h := by
  rw [Block.fet, State.ends_fets, Block.fet]

theorem State.ends_ras (s : State) (dt : Nat) (b : Block) (h : Nat) : (s.ends dt b).blk.ras h = b.ras h := by
  rw [Block.ras, State.ends_tim, Block.ras]

section Obligation

variable {dt : Nat} {h : Head} {s : State} (hh : s.blk.hold = .none) (hq : s.blk.quiet = true)
include hh hq

theorem pourMark_answer (hd : pourDue (s.pass dt).clk h.val s.blk = true) :
    ∃ t : State, exec (.pourMarkUpdate dt h) s = .next t ∧
      (t.blk.fet h.val).nextG = some (gray (indexAt s.blk h.val (s.blk.aidxOf h.val + 1))) ∧
      (t.blk.ras h.val).poured = true ∧ t.clk = (s.pass dt).clk ∧ t.mem = s.mem ∧ t.blk.regs = s.blk.regs := by
  have hfound : pourDue (s.pass dt).clk h.val (s.found dt) = true := hd
  have hindex : indexAt (s.found dt) h.val ((s.found dt).aidxOf h.val + 1) = indexAt s.blk h.val (s.blk.aidxOf h.val + 1) := rfl
  have hregs : (s.found dt).regs = s.blk.regs := rfl
  have hexec := exec_pourMarkUpdate dt h hh
  obtain ⟨halters, hnew, -, -, -⟩ := s.found_finds dt
  rw [pourUpdate_due _ _ _ hfound, hindex] at hexec
  generalize s.found dt = b at *
  have hall := (halters.setRas h.val { b.ras h.val with poured := true }).trans
    (pourMark_alters h.val _ ∅ (indexAt s.blk h.val (s.blk.aidxOf h.val + 1)))
  refine ⟨_, hexec, ?_, ?_, State.ends_clk_of_alters hq hall ?_, State.ends_mem_of_alters hq hall, ?_⟩
  · rw [State.ends_fet, pourMark_nextG]
  · rw [State.ends_ras, pourMark_ras, Block.setRas_ras]
  · rw [pourMark_newPtp, Block.setRas_newPtp, hnew]
  · rw [State.ends_regs, pourMark_regs, Block.setRas_regs, hregs]

theorem pourMark_idle_answer (hd : pourDue (s.pass dt).clk h.val s.blk = false) :
    ∃ t : State, exec (.pourMarkUpdate dt h) s = .next t ∧ (t.blk.fet h.val).nextG = (s.blk.fet h.val).nextG ∧
      t.clk = (s.pass dt).clk ∧ t.mem = s.mem ∧ t.blk.regs = s.blk.regs := by
  have hfound : pourDue (s.pass dt).clk h.val (s.found dt) = false := hd
  have hregs : (s.found dt).regs = s.blk.regs := rfl
  have hexec := exec_pourMarkUpdate dt h hh
  obtain ⟨halters, hnew, -, -, hfets⟩ := s.found_finds dt
  rw [pourUpdate_idle _ _ _ hfound] at hexec
  refine ⟨_, hexec, ?_, State.ends_clk_of_alters hq halters hnew, State.ends_mem_of_alters hq halters, ?_⟩
  · rw [State.ends_fet, Block.fet, hfets, Block.fet]
  · rw [State.ends_regs, hregs]

variable (hl : s.blk.pendL = [])
include hl

/-! ## Band ticks (R73) -/

theorem bandTick_answer (band : Fin 135) (hd : bandDue (s.pass dt).clk s.blk h.val band.val = true) :
    ∃ t : State, exec (.bandTick dt h band) s = .next t ∧ (t.blk.ras h.val).ticks = band.val + 1 ∧ t.clk = (s.pass dt).clk ∧
      t.mem = s.mem ∧ t.blk.regs = s.blk.regs := by
  have hfound : bandDue (s.pass dt).clk (s.found dt) h.val band.val = true := hd
  have hregs : (s.found dt).regs = s.blk.regs := rfl
  obtain ⟨halters, hnew, -, -, -⟩ := s.found_finds dt
  have hexec := exec_bandTick dt h hh hl hfound
  generalize s.found dt = b at *
  have hall : Block.Alters ∅ s.blk { bandTick h.val band.val b with pendL := [] } :=
    (halters.setRas h.val { b.ras h.val with ticks := band.val + 1 }).keep rfl rfl rfl rfl
  refine ⟨_, hexec, ?_, State.ends_clk_of_alters hq hall hnew, State.ends_mem_of_alters hq hall, ?_⟩
  · have hras : ({ bandTick h.val band.val b with pendL := [] } : Block).ras h.val = { b.ras h.val with ticks := band.val + 1 } :=
      Block.setRas_ras ..
    rw [State.ends_ras, hras]
  · rw [State.ends_regs]
    exact hregs

/-! ## Frames (R67-R71) -/

variable (hp : s.blk.pairMode = false)

include hp in
theorem firstFrame_answer (hr : (s.blk.ras h.val).phase = .idle)
    (ht : (s.blk.fmt h.val).reached (s.pass dt).clk (s.blk.ras h.val).target = true) :
    ∃ t : State, exec (.headFirstFrame dt h) s = .next t ∧
      Claims.frameStarts s t dt h.val 0 (s.blk.ras h.val).target false := by
  have hexec := exec_headFirstFrame dt h hh hl
  obtain ⟨halters, hnew, htim, -, -⟩ := s.found_finds dt
  have hras : (s.found dt).ras h.val = s.blk.ras h.val := Block.ras_of_tim _ htim
  have hfmt : (s.found dt).fmt h.val = s.blk.fmt h.val := halters.fmt (by simp) h.isLt
  rw [firstFrame_due (b := s.found dt) _ _ (hras ▸ hr) (by rwa [hras, hfmt]), hras] at hexec
  have hcal := (calCheckHead_work h.val (s.found dt)).trans (calForget_work h.val _)
  have hall : Block.Alters calRegs s.blk (calForget h.val (calCheckHead h.val (s.found dt))) :=
    (halters.mono (Set.empty_subset _)).trans hcal.alters
  exact ⟨_, hexec, frameStarted_claims hq ((hall.on fun hm => (calRegs_formats hm).2 rfl).trans hp)
    (hall.fmt (fun a hm => (calRegs_formats hm).1) h.isLt) (hcal.newPtp.trans hnew) hall.clkReset⟩

include hp in
theorem relockEnd_answer (hr : (s.blk.ras h.val).phase = .hold)
    (ht : (s.blk.fmt h.val).reached (s.pass dt).clk (s.blk.ras h.val).target = true) :
    ∃ t : State, exec (.relockHoldEnd dt h) s = .next t ∧ t.blk.on F.TIM_EVT_RELOCK = true ∧
      Claims.frameStarts s t dt h.val (s.blk.frameOf h.val + 1) (s.blk.ras h.val).target true := by
  have hexec := exec_relockHoldEnd dt h hh hl
  obtain ⟨halters, hnew, htim, -, -⟩ := s.found_finds dt
  have hras : (s.found dt).ras h.val = s.blk.ras h.val := Block.ras_of_tim _ htim
  have hfmt : (s.found dt).fmt h.val = s.blk.fmt h.val := halters.fmt (by simp) h.isLt
  have hframe : (s.found dt).frameOf h.val = s.blk.frameOf h.val := halters.get2 (by simp) (by simp)
  rw [holdEnd_due (b := s.found dt) _ _ (hras ▸ hr) (by rwa [hras, hfmt]), relockEnd_eq, hras, hframe] at hexec
  generalize s.found dt = b at *
  have hnoted : Block.Alters {F.TIM_EVT_RELOCK.addr} s.blk (relockNoted (s.pass dt).clk h.val b) :=
    (halters.mono (Set.empty_subset _)).trans (relockNoted_alters ..)
  have hpair : (relockNoted (s.pass dt).clk h.val b).pairMode = false :=
    (hnoted.on fun hm => absurd (show F.PAIR_CFG_MODE.at 0 0 0 = F.TIM_EVT_RELOCK.addr from hm) (by decide)).trans hp
  have hfmt' : (relockNoted (s.pass dt).clk h.val b).fmt h.val = s.blk.fmt h.val :=
    hnoted.fmt (fun a hm ⟨hpage, _, _⟩ => absurd (hm ▸ hpage) (by decide)) h.isLt
  refine ⟨_, hexec, ?_, frameStarted_claims hq hpair hfmt' ((relockNoted_newPtp ..).trans hnew) hnoted.clkReset⟩
  have hraster := rasterAct0_alters (s.pass dt).clk h (s.blk.frameOf h.val + 1) (s.blk.ras h.val).target true
    (relockNoted (s.pass dt).clk h.val b)
  have hevt : F.TIM_EVT_RELOCK.at 0 0 0 ∉ frameRegs h.val := fun hm => absurd (frameRegs_heads h hm) (by decide)
  have hmode : F.PAIR_CFG_MODE.at 0 0 0 ∉ frameRegs h.val := fun hm => absurd (frameRegs_heads h hm) (by decide)
  rw [State.ends_on, (frameStarted_work _ h.val _ true ((hraster.on hmode).trans hpair)).on (by decide), hraster.on hevt]
  exact relockNoted_flag ..

/-- A running head's frame has ended. -/
def frameOver (s : State) (dt : Nat) (h : Head) : Prop :=
  (s.blk.ras h.val).phase = .running ∧
    lineReached (s.blk.fmt h.val) (s.blk.ras h.val) (s.pass dt).clk.steady (s.blk.fmt h.val).total = true

section Over

variable (hd : frameOver s dt h)
include hd

include hp in
theorem frameStart_next (hs : (s.blk.ras h.val).stopping = false) (hk : (s.blk.ras h.val).relock = false) :
    ∃ t : State, exec (.frameStart dt h) s = .next t ∧
      Claims.frameStarts s t dt h.val (s.blk.frameOf h.val + 1) (s.blk.aidxOf h.val + 1) false := by
  obtain ⟨hr, ht⟩ := hd
  have hexec := exec_frameStart dt h hh hl
  obtain ⟨halters, hnew, htim, -, -⟩ := s.found_finds dt
  have hras : (s.found dt).ras h.val = s.blk.ras h.val := Block.ras_of_tim _ htim
  have hfmt : (s.found dt).fmt h.val = s.blk.fmt h.val := halters.fmt (by simp) h.isLt
  have hframe : (s.found dt).frameOf h.val = s.blk.frameOf h.val := halters.get2 (by simp) (by simp)
  have haidx : (s.found dt).aidxOf h.val = s.blk.aidxOf h.val := halters.get2 (by simp) (by simp)
  rw [frameEnd_next (b := s.found dt) _ _ (hras ▸ hr) (by rwa [hras, hfmt]) (hras ▸ hs) (hras ▸ hk), hframe, haidx] at hexec
  exact ⟨_, hexec, frameStarted_claims hq ((halters.on (by simp)).trans hp) hfmt hnew halters.clkReset⟩

omit hq in
theorem frameStart_stops (hs : (s.blk.ras h.val).stopping = true) :
    ∃ t : State, exec (.frameStart dt h) s = .next t ∧ (t.blk.ras h.val).phase = .stopped ∧
      t.blk.on F.TIM_HEAD_STAT_RUN h.val = false := by
  obtain ⟨hr, ht⟩ := hd
  have hexec := exec_frameStart dt h hh hl
  obtain ⟨halters, -, htim, -, -⟩ := s.found_finds dt
  have hras : (s.found dt).ras h.val = s.blk.ras h.val := Block.ras_of_tim _ htim
  have hfmt : (s.found dt).fmt h.val = s.blk.fmt h.val := halters.fmt (by simp) h.isLt
  rw [frameEnd_stops (b := s.found dt) _ _ (hras ▸ hr) (by rwa [hras, hfmt]) (hras ▸ hs)] at hexec
  refine ⟨_, hexec, ?_, ?_⟩
  · rw [State.ends_ras, Block.ras_of_tim _ (frameForget_tim ..), headStopped_ras]
  · rw [State.ends_on, (frameForget_alters h.val _ ∅).on (by simp), headStopped_run]

omit hq in
theorem frameStart_holds (hs : (s.blk.ras h.val).stopping = false) (hk : (s.blk.ras h.val).relock = true) :
    ∃ t : State, exec (.frameStart dt h) s = .next t ∧ (t.blk.ras h.val).phase = .hold ∧
      t.blk.on F.TIM_HEAD_STAT_WAIT h.val = true ∧ t.blk.frameOf h.val = s.blk.frameOf h.val := by
  obtain ⟨hr, ht⟩ := hd
  have hexec := exec_frameStart dt h hh hl
  obtain ⟨halters, -, htim, -, -⟩ := s.found_finds dt
  have hras : (s.found dt).ras h.val = s.blk.ras h.val := Block.ras_of_tim _ htim
  have hfmt : (s.found dt).fmt h.val = s.blk.fmt h.val := halters.fmt (by simp) h.isLt
  rw [frameEnd_holds (b := s.found dt) _ _ (hras ▸ hr) (by rwa [hras, hfmt]) (hras ▸ hs) (hras ▸ hk)] at hexec
  have hall := (halters.mono (Set.empty_subset _)).trans (relockHold_alters (s.pass dt).clk h.val (s.found dt))
  refine ⟨_, hexec, ?_, ?_, ?_⟩
  · rw [State.ends_ras, relockHold_ras]
  · rw [State.ends_on, relockHold_wait]
  · rw [Block.frameOf, State.ends_get2]
    exact hall.get2 (by simp [Fld.at, F.TIM_HEAD_FRAME_LO_FRAME_LO, F.TIM_HEAD_STAT_RUN])
      (by simp [Fld.at, F.TIM_HEAD_FRAME_HI_FRAME_HI, F.TIM_HEAD_STAT_RUN])

end Over

end Obligation

/-- Settles O10, command by command. -/
theorem framesStartAtActZero : Obligations.FramesStartAtActZero := by
  intro dt h s hh hl hq hp
  dsimp only
  refine ⟨firstFrame_answer hh hq hl hp,
    fun hr ht => ⟨frameStart_next hh hq hl hp ⟨hr, ht⟩, frameStart_stops hh hl ⟨hr, ht⟩, frameStart_holds hh hl ⟨hr, ht⟩⟩,
    relockEnd_answer hh hq hl hp, fun band hr hlo hhi ht => ?_, fun hr ht hpour hcommit => ?_, fun hno => ?_⟩
  · exact bandTick_answer hh hq hl band (by simp [bandDue, hr, hlo, hhi, ht])
  · exact pourMark_answer hh hq (by simp [pourDue, hr, ht, hpour, hcommit])
  · refine pourMark_idle_answer hh hq ?_
    rcases hno with hno | hno <;> simp [pourDue, hno]

end Sys2Proof.Machine
end

section
/-! The statement on packets that merge fails where a source holds two packets of one number: the copy of path A that takes the
place of path B's carries the ring mark of the first of them to both. -/

namespace Sys2Proof.Machine

open Sys2Proof

/-- A packet of number 0 on a path. -/
def copyOn (path : Bool) : SrcPacket :=
  { path, seq := 0, ssrc := 0, marker := false, rtpts := 0, payload := [], runs := [], layout := 0, full := false }

/-- Path B's packet of number 0 as the merge holds it, its ring entry written or still due. -/
def heldCopy (ringed : Bool) : HeldPacket :=
  { pkt := copyOn true, ext := 0, stamp := 0, steady := 0, gen := 0, repaired := false, ringed, ring := none, readyAt := none }

/-- What source 0 holds: two packets of number 0 that differ in their ring mark. -/
def twoCopies : SrcSt := { highest := some 0, lowest := some (0, 0), held := [heldCopy true, heldCopy false] }

/-- The part with source 0 running over ST 2110-20 on path A. -/
def twoCopiesState : State :=
  { blk := (((((({} : Block).put F.PWR_DOM_STAT_ON (2 ^ 31)).put F.LAD_SRC_STAT_RUN 1).put F.LAD_SRC_CTL_TRANSPORT 2).put
      F.LAD_SRC_CTL_PATHS 1).setSrc 0 twoCopies) }

/-- The ring marks of the packets that source 0 holds in the state that a command answers. -/
def ringMarks : Host.Outcome State Fault Refusal → List Bool
  | .next t => (t.blk.src 0).held.map (·.ringed)
  | _ => []

theorem copyA_ringMarks : ringMarks (exec (.ladlePacket 0 0 (.media (copyOn false))) twoCopiesState) = [true, true] := by
  decide +kernel

theorem twoCopies_takesVideo : Claims.takesVideo twoCopiesState 0 (copyOn false) := by
  unfold Claims.takesVideo
  decide +kernel

theorem twoCopies_src : twoCopiesState.blk.src (0 : Src).val = twoCopies := by decide +kernel

theorem twoCopies_heldOnB : Claims.heldOnB twoCopiesState 0 0 0 = some (heldCopy true) := by
  unfold Claims.heldOnB
  decide +kernel

/-- Refutes O12: where two packets of one number are held and differ in their ring mark, path A's copy gives both the mark of the
first (`preferA`), where the statement lets each keep its own. -/
theorem not_packetsMergeBySequenceNumber : ¬ Obligations.PacketsMergeBySequenceNumber := by
  intro h
  obtain ⟨hvideo, -⟩ := h 0 0 (copyOn false) 0 0 twoCopiesState rfl
  obtain ⟨-, hcopy, -⟩ := hvideo twoCopies_takesVideo (congrArg SrcSt.highest twoCopies_src)
  obtain ⟨hprefer, -⟩ := hcopy 0 0 (congrArg SrcSt.lowest twoCopies_src) le_rfl le_rfl (by decide)
    (by rw [twoCopies_src]; rfl)
    (fun ⟨_, hmem, _⟩ => by rw [twoCopies_src] at hmem; exact List.not_mem_nil hmem)
  obtain ⟨t, ht, -, -, hheld⟩ := hprefer _ rfl twoCopies_heldOnB rfl
  have hmarks := copyA_ringMarks
  rw [show exec _ twoCopiesState = .next t from ht, ringMarks, show (t.blk.src 0).held = _ from hheld, twoCopies_src] at hmarks
  exact absurd hmarks (by decide)

end Sys2Proof.Machine
end

section
/-! The rules about the Ladles' tables and about what leaves on a Sprue link: what a source or a buffer reads after an update, and
which registers a send leaves alone. -/

namespace Sys2Proof.Machine

open Sys2Proof

/-! ## The tables of sources and buffers -/

section Tables

variable (b : Block) (s : Nat) (x : SrcSt) (k : Nat) (y : PoolBuf)

@[simp] theorem Block.src_setSrc_same : (b.setSrc s x).src s = x := tget_tput_same ..
theorem Block.buf_setBuf (j : Nat) : (b.setBuf k y).buf j = if k = j then y else b.buf j := tget_tput ..
@[simp] theorem Block.buf_setBuf_same : (b.setBuf k y).buf k = y := tget_tput_same ..
@[simp] theorem Block.buf_setSrc (j : Nat) : (b.setSrc s x).buf j = b.buf j := rfl
@[simp] theorem Block.src_setBuf (j : Nat) : (b.setBuf k y).src j = b.src j := rfl
@[simp] theorem Block.reg_setSrc (a : Nat) : (b.setSrc s x).reg a = b.reg a := rfl
@[simp] theorem Block.get_setSrc (f : Fld) (i j l : Nat) : (b.setSrc s x).get f i j l = b.get f i j l := rfl
@[simp] theorem Block.on_setSrc (f : Fld) (i j l : Nat) : (b.setSrc s x).on f i j l = b.on f i j l := rfl
@[simp] theorem Block.src_put (f : Fld) (v i j l n : Nat) : (b.put f v i j l).src n = b.src n := rfl
@[simp] theorem Block.src_flag (f : Fld) (v : Bool) (i j l n : Nat) : (b.flag f v i j l).src n = b.src n := rfl
@[simp] theorem Block.src_inc (f : Fld) (i j l v n : Nat) : (b.inc f i j l v).src n = b.src n := rfl
@[simp] theorem Block.src_evt (f : Fld) (i j n : Nat) : (b.evt f i j).src n = b.src n := rfl
@[simp] theorem Block.src_record (code sev p0 p1 p2 p3 inst n : Nat) :
    (b.record code sev p0 p1 p2 p3 inst).src n = b.src n := rfl

@[simp] theorem Block.evq_setSrc : (b.setSrc s x).evq = b.evq := rfl
@[simp] theorem Block.evq_setBuf : (b.setBuf k y).evq = b.evq := rfl

@[simp] theorem Block.on_record (code sev p0 p1 p2 p3 inst : Nat) (f : Fld) (i j l : Nat) :
    (b.record code sev p0 p1 p2 p3 inst).on f i j l = b.on f i j l := rfl

theorem Block.record_codes (code sev p0 p1 p2 p3 inst : Nat) :
    (b.record code sev p0 p1 p2 p3 inst).evq.map (·.code) = b.evq.map (·.code) ++ [code] := by simp

theorem Block.src_of_lad {b b' : Block} (h : b'.lad = b.lad) (n : Nat) : b'.src n = b.src n := by
  rw [Block.src, Block.src, h]

theorem Block.buf_of_lad {b b' : Block} (h : b'.lad = b.lad) (n : Nat) : b'.buf n = b.buf n := by
  rw [Block.buf, Block.buf, h]

end Tables

/-- A saturating counter reads one more, or its greatest value. -/
theorem Block.get_inc (b : Block) {f : Fld} (hf : f.fits) (i j k : Nat) :
    (b.inc f i j k).get f i j k = min (2 ^ f.width - 1) (b.get f i j k + 1) :=
  b.get_put_self f hf (Nat.lt_of_le_of_lt (Nat.min_le_left _ _) (Nat.sub_lt (by positivity) Nat.one_pos)) i j k

/-! ## The commands of the Ladles -/

section Ends

variable {s : State} {dt : Nat}

/-- A command of the Ladles whose domain is on. -/
theorem State.run_ladles (hh : s.blk.hold = .none) (hd : s.blk.domOn 31 = true) (f : Clk → Mem → Block → Block) :
    s.run dt (fun c m b => if ladOn b then f c m b else b) =
      .next (s.ends dt (f (s.pass dt).clk s.mem (s.found dt))) := by
  have hon : ladOn (s.found dt) = true := hd
  rw [State.run_eq_ends _ _ _ hh, if_pos hon]

theorem State.found_src (s : State) (dt k : Nat) : (s.found dt).src k = s.blk.src k := rfl
theorem State.found_get (s : State) (dt : Nat) (f : Fld) (i j k : Nat) : (s.found dt).get f i j k = s.blk.get f i j k := rfl

@[simp] theorem State.ends_src (b : Block) (k : Nat) : (s.ends dt b).blk.src k = b.src k := by rw [State.ends_blk]; rfl
@[simp] theorem State.ends_buf (b : Block) (k : Nat) : (s.ends dt b).blk.buf k = b.buf k := by rw [State.ends_blk]; rfl

/-- An event that sets no clock lets the clocks run on. -/
theorem State.ends_clk_kept {b : Block} (hq : s.blk.quiet = true) (hn : b.newPtp = s.blk.newPtp)
    (hc : b.clkReset = s.blk.clkReset) : (s.ends dt b).clk = (s.pass dt).clk := by
  obtain ⟨-, hp, hr, -⟩ := (Block.quiet_iff _).1 hq
  exact s.ends_clk dt b (hn.trans hp) (hc.trans hr)

/-- An event that stores nothing leaves memory unchanged. -/
theorem State.ends_mem_kept {b : Block} (hq : s.blk.quiet = true) (hs : b.stores = s.blk.stores) :
    (s.ends dt b).mem = s.mem := by
  obtain ⟨hst, -, -, -⟩ := (Block.quiet_iff _).1 hq
  rw [State.ends_mem, hs, hst, Mem.puts_nil]

end Ends

/-! ## What leaves on a link (R337-R341) -/

/-- Something may have left on a Sprue link: nothing else changes but the links' and the shares' own records and the registers of
the SPR window. -/
structure Block.Sends (b b' : Block) : Prop where
  reg : ∀ a, a / 0x10000 ≠ 0x4C → b'.reg a = b.reg a
  lad : b'.lad = b.lad
  stores : b'.stores = b.stores
  newPtp : b'.newPtp = b.newPtp
  clkReset : b'.clkReset = b.clkReset
  evq : b'.evq = b.evq

namespace Block.Sends

variable {b b' b'' : Block}

theorem refl (b : Block) : Sends b b := ⟨fun _ _ => rfl, rfl, rfl, rfl, rfl, rfl⟩

theorem trans (h : Sends b b') (h' : Sends b' b'') : Sends b b'' :=
  ⟨fun a ha => (h'.reg a ha).trans (h.reg a ha), h'.lad.trans h.lad, h'.stores.trans h.stores, h'.newPtp.trans h.newPtp,
    h'.clkReset.trans h.clkReset, h'.evq.trans h.evq⟩

theorem ite {p : Prop} [Decidable p] (h : Sends b b') (h' : Sends b b'') : Sends b (if p then b' else b'') := by
  split
  · exact h
  · exact h'

theorem foldl {α : Type} (g : Block → α → Block) (l : List α) (hg : ∀ a ∈ l, ∀ b, Sends b (g b a)) (b : Block) :
    Sends b (l.foldl g b) := by
  induction l generalizing b with
  | nil => exact .refl b
  | cons a t ih => exact (hg a (by simp) b).trans (ih (fun x hx => hg x (List.mem_cons_of_mem _ hx)) _)

theorem setSpr (h : Sends b b') (k : Nat) (x : SprLink) : Sends b (b'.setSpr k x) :=
  h.trans ⟨fun _ _ => rfl, rfl, rfl, rfl, rfl, rfl⟩

theorem emit (h : Sends b b') (o : Output) : Sends b (b'.emit o) := by
  unfold Block.emit
  exact h.trans (.ite (.refl _) ⟨fun _ _ => rfl, rfl, rfl, rfl, rfl, rfl⟩)

theorem put (h : Sends b b') {f : Fld} {i j k : Nat} (hf : f.at i j k / 0x10000 = 0x4C) (x : Nat) :
    Sends b (b'.put f x i j k) :=
  h.trans ⟨fun _ ha => Block.reg_setReg_of_ne _ _ fun e => ha (e ▸ hf), rfl, rfl, rfl, rfl, rfl⟩

theorem get (h : Sends b b') {f : Fld} {i j k : Nat} (hf : f.at i j k / 0x10000 ≠ 0x4C) : b'.get f i j k = b.get f i j k := by
  rw [Block.get, Block.get, h.reg _ hf]

end Block.Sends

theorem sprPump_sends (k n : Nat) (b : Block) : Block.Sends b (sprPump k n b) := by
  induction n generalizing b with
  | zero => exact .refl b
  | succ n ih =>
    unfold sprPump
    dsimp only
    split
    · exact .refl b
    · exact .ite (.refl b) ((((Block.Sends.refl b).setSpr k _).emit _).trans (ih _))

theorem sprSend_sends (k : Nat) (f : SprFrame) (b : Block) : Block.Sends b (sprSend k f b) := by
  unfold sprSend
  exact .ite (.refl b) (((Block.Sends.refl b).setSpr k _).trans (sprPump_sends ..))

theorem tell_sends (m : PairMsg) (b : Block) : Block.Sends b (b.tell m) := sprSend_sends ..

end Sys2Proof.Machine
end

section
/-! Missing numbers: what becomes of one at the end of its waits (R101, R288), and a path or a source that falls silent (R102,
R122). -/

namespace Sys2Proof.Machine

open Sys2Proof

/-! ## Sequence numbers and gaps -/

/-- A number not far below the highest accepted is recovered from its low 32 bits (R99). -/
theorem extendNear_of_le {n h : Nat} (hn : n ≤ h) (hh : h < n + 2 ^ 31) : extendNear 32 h (BitVec.ofNat 32 n).toNat = n := by
  rw [BitVec.toNat_ofNat]
  unfold extendNear toSigned
  split <;> omega

theorem missingExt_of_le {x : SrcSt} {n h : Nat} (hx : x.highest = some h) (hn : n ≤ h) (hh : h < n + 2 ^ 31) :
    missingExt x (BitVec.ofNat 32 n).toNat = n := by
  unfold missingExt
  rw [hx]
  exact extendNear_of_le hn hh

/-- What remains of a gap without one of its numbers. -/
theorem any_has_pieces {g : Gap} {n : Nat} (hg : g.has n = true) (k : Nat) :
    (([{ g with n := n - g.lo }, { g with lo := n + 1, n := g.lo + g.n - n - 1 }] : List Gap).filter fun x => 0 < x.n).any
      (·.has k) = (g.has k && decide (k ≠ n)) := by
  simp only [Gap.has, Bool.and_eq_true, decide_eq_true_eq] at hg
  rw [Bool.eq_iff_iff]
  simp only [List.any_filter, List.any_cons, List.any_nil, Gap.has, Bool.or_false, Bool.or_eq_true, Bool.and_eq_true,
    decide_eq_true_eq]
  omega

/-- The gaps without a number miss what they missed but it. -/
theorem any_has_gapsWithout (l : List Gap) (n k : Nat) :
    (gapsWithout l n).any (·.has k) = (l.any (·.has k) && decide (k ≠ n)) := by
  unfold gapsWithout
  rw [List.any_flatMap]
  induction l with
  | nil => rfl
  | cons g t ih =>
    rw [List.any_cons, List.any_cons, ih, Bool.and_or_distrib_right]
    congr 1
    split
    case isTrue hg => exact any_has_pieces hg k
    case isFalse hg =>
      by_cases hk : k = n
      · simpa [hk] using hg
      · simp [hk]

theorem mem_insertNum (n : Nat) (l : List Nat) : n ∈ insertNum n l := by
  induction l with
  | nil => exact List.mem_singleton.2 rfl
  | cons k t ih =>
    unfold insertNum
    split
    · exact List.mem_cons_self
    · exact List.mem_cons_of_mem _ ih

/-! ## A number is lost (R101) -/

section Lost

variable (c : Clk) (s n : Nat) (b : Block)

/-- A source after a number was lost at the end of its last wait. -/
def lostSrc (x : SrcSt) : SrcSt :=
  { x with
    gaps := gapsWithout x.gaps n, lostNums := insertNum n x.lostNums
    lostAt := (c.steady, (if x.lostAt.1 = c.steady then x.lostAt.2 else []) ++ [n]) }

/-- Losing a number of an ST 2110-20 source. -/
theorem waitLost_video (ht : b.transport s = 2) :
    waitLost c s n b = (loseNumber s n b).setSrc s (lostSrc c n (b.src s)) := by
  have hkept : (loseNumber s n b).transport s = 2 :=
    (Block.get_put_other b F.LAD_SRC_LOSS_LOST F.LAD_SRC_CTL_TRANSPORT _ _ _ _ _ _ _
      (by simp only [Fld.at, F.LAD_SRC_LOSS_LOST, F.LAD_SRC_CTL_TRANSPORT]; omega)).trans ht
  have hgt : ∀ x, ¬((loseNumber s n b).setSrc s x).transport s ≤ 1 := fun x => by
    rw [show ((loseNumber s n b).setSrc s x).transport s = 2 from hkept]
    decide
  unfold waitLost
  dsimp only
  rw [if_neg (hgt _)]
  simp only [loseNumber, Block.src_setSrc_same]
  rfl

theorem loseNumber_lost :
    (loseNumber s n b).get F.LAD_SRC_LOSS_LOST s =
      min (2 ^ F.LAD_SRC_LOSS_LOST.width - 1) (b.get F.LAD_SRC_LOSS_LOST s + 1) :=
  Block.get_inc b (by unfold Fld.fits; decide) s 0 0

theorem loseNumber_get {f : Fld} {i : Nat} (hf : F.LAD_SRC_LOSS_LOST.at s ≠ f.at i) : (loseNumber s n b).get f i = b.get f i :=
  Block.get_put_other _ _ _ _ _ _ _ _ _ _ hf

end Lost

/-! ## The end of a wait -/

section Expiry

variable {c : Clk} {s seq n : Nat} {g : Gap} {b : Block} (hn : missingExt (b.src s) seq = n)
  (hg : (b.src s).gaps.find? (·.has n) = some g)
include hn hg

/-- A source whose missing number now waits for the partner. -/
def askedSrc (c : Clk) (n : Nat) (x : SrcSt) : SrcSt :=
  { x with gaps := gapsWithout x.gaps n ++ [{ lo := n, n := 1, since := c.steady, repair := true }] }

theorem skewExpiry_due (hr : g.repair = false) (hdue : g.since + b.get F.LAD_MERGE_SKEW * usTick ≤ c.steady) :
    skewExpiry c s seq b =
      if b.paired then ((b.setSrc s (askedSrc c n (b.src s))).inc F.PAIR_REPAIR_REQ).tell
        (.repairRequest (Fin.ofNat 384 s) (BitVec.ofNat 32 n))
      else waitLost c s n b := by
  subst hn
  unfold skewExpiry
  dsimp only
  rw [hg]
  refine if_neg ?_
  rw [hr, decide_eq_false (Nat.not_lt.2 hdue)]
  decide

theorem repairExpiry_due (hr : g.repair = true) (hdue : g.since + b.get F.LAD_MERGE_REPAIR_WAIT * usTick ≤ c.steady) :
    repairExpiry c s seq b = if g.answered then waitLost c s n b else (waitLost c s n b).inc F.PAIR_REPAIR_NONE := by
  subst hn
  unfold repairExpiry
  dsimp only
  rw [hg]
  refine if_neg ?_
  rw [hr, decide_eq_false (Nat.not_lt.2 hdue)]
  decide

end Expiry

/-! ## Silence (R102, R122) -/

section Silence

variable {c : Clk} {s : Nat} {b : Block} (hr : b.srcRuns s = true)
include hr

/-- The bit of a path of a source. -/
def pathBit (path : Bool) : Fld := if path then F.LAD_SRC_STAT_PATH_B else F.LAD_SRC_STAT_PATH_A

theorem pathLoss_due (path : Bool) (ht : b.transport s ≤ 2) (hu : bit (b.get F.LAD_SRC_CTL_PATHS s) (b2n path) = true)
    (hg : (if path then (b.src s).goneB else (b.src s).goneA) = false)
    (hdue : (if path then (b.src s).lastB else (b.src s).lastA) + b.get F.LAD_MERGE2_PATH_LOSS * msTick ≤ c.steady) :
    pathLoss c s path b =
      ((b.flag (pathBit path) false s).record 0x1803 3 s (b2n path) (b.get F.LAD_MERGE2_PATH_LOSS)
        ((b.src s).highest.getD 0)).setSrc s
          (if path then { b.src s with goneB := true } else { b.src s with goneA := true }) := by
  refine if_pos ?_
  simp only [Bool.and_eq_true, decide_eq_true_eq, Bool.not_eq_true']
  exact ⟨⟨⟨hr, ht, hu⟩, hg⟩, hdue⟩

theorem sourceLate_due (hl : (b.src s).lateSeen = false)
    (hdue : (b.src s).lastReady + b.get F.LAD_SRC_MAXAGE_MAXAGE s * msTick ≤ c.steady) :
    sourceLate c s b = ((b.setSrc s { b.src s with lateSeen := true }).evt F.LAD_EVT_LATE).record 0x1802 4 s
      (b.get F.LAD_SRC_MAXAGE_MAXAGE s) (b.src s).lastFrame := by
  refine if_pos ?_
  simp only [Bool.and_eq_true, decide_eq_true_eq, Bool.not_eq_true']
  exact ⟨⟨hr, hl⟩, hdue⟩

end Silence

/-! ## The commands -/

section Commands

variable {s : State} {dt : Nat} {src : Src} (hh : s.blk.hold = .none) (hd : s.blk.domOn 31 = true)
include hh hd

theorem exec_mergeSkewExpiry (seq : BitVec 32) : exec (.mergeSkewExpiry dt src seq) s =
    .next (s.ends dt (skewExpiry (s.pass dt).clk src.val seq.toNat (s.found dt))) := State.run_ladles hh hd _

theorem exec_repairWaitExpiry (seq : BitVec 32) : exec (.repairWaitExpiry dt src seq) s =
    .next (s.ends dt (repairExpiry (s.pass dt).clk src.val seq.toNat (s.found dt))) := State.run_ladles hh hd _

theorem exec_pathLoss (path : Bool) : exec (.pathLoss dt src path) s =
    .next (s.ends dt (pathLoss (s.pass dt).clk src.val path (s.found dt))) := State.run_ladles hh hd _

theorem exec_sourceLate : exec (.sourceLate dt src) s =
    .next (s.ends dt (sourceLate (s.pass dt).clk src.val (s.found dt))) := State.run_ladles hh hd _

variable (hq : s.blk.quiet = true)
include hq

/-! ### The end of a wait -/

section Waits

variable {n h : Nat} {g : Gap} (ht : s.blk.transport src.val = 2) (hx : (s.blk.src src.val).highest = some h) (hn : n ≤ h)
  (hf : h < n + 2 ^ 31) (hg : (s.blk.src src.val).gaps.find? (·.has n) = some g)
include ht hx hn hf hg

theorem mergeSkewExpiry_loses (hr : g.repair = false)
    (hdue : g.since + s.blk.get F.LAD_MERGE_SKEW * usTick ≤ (s.pass dt).clk.steady) (hp : s.blk.paired = false) :
    ∃ t : State, exec (.mergeSkewExpiry dt src (BitVec.ofNat 32 n)) s = .next t ∧ t.clk = (s.pass dt).clk ∧ t.mem = s.mem ∧
      t.blk.get F.LAD_SRC_LOSS_LOST src.val =
        min (2 ^ F.LAD_SRC_LOSS_LOST.width - 1) (s.blk.get F.LAD_SRC_LOSS_LOST src.val + 1) ∧
      (∀ k, (t.blk.src src.val).gaps.any (·.has k) = ((s.blk.src src.val).gaps.any (·.has k) && decide (k ≠ n))) ∧
      n ∈ (t.blk.src src.val).lostNums := by
  have hevent : skewExpiry (s.pass dt).clk src.val (BitVec.ofNat 32 n).toNat (s.found dt) =
      (loseNumber src.val n (s.found dt)).setSrc src.val (lostSrc (s.pass dt).clk n (s.blk.src src.val)) := by
    rw [skewExpiry_due (b := s.found dt) (missingExt_of_le hx hn hf) hg hr (by rwa [State.found_get]),
      if_neg (by rw [show (s.found dt).paired = false from hp]; decide)]
    exact waitLost_video _ _ _ _ ht
  refine ⟨_, exec_mergeSkewExpiry hh hd _, ?_, ?_, ?_, fun k => ?_, ?_⟩ <;> rw [hevent]
  · exact State.ends_clk_kept hq rfl rfl
  · exact State.ends_mem_kept hq rfl
  · rw [State.ends_get, Block.get_setSrc]
    exact loseNumber_lost ..
  · rw [State.ends_src, Block.src_setSrc_same]
    exact any_has_gapsWithout ..
  · rw [State.ends_src, Block.src_setSrc_same]
    exact mem_insertNum ..

omit ht in
theorem mergeSkewExpiry_asks (hr : g.repair = false)
    (hdue : g.since + s.blk.get F.LAD_MERGE_SKEW * usTick ≤ (s.pass dt).clk.steady) (hp : s.blk.paired = true) :
    ∃ t : State, exec (.mergeSkewExpiry dt src (BitVec.ofNat 32 n)) s = .next t ∧ t.clk = (s.pass dt).clk ∧ t.mem = s.mem ∧
      t.blk.get F.PAIR_REPAIR_REQ = min (2 ^ F.PAIR_REPAIR_REQ.width - 1) (s.blk.get F.PAIR_REPAIR_REQ + 1) ∧
      { lo := n, n := 1, since := (s.pass dt).clk.steady, repair := true } ∈ (t.blk.src src.val).gaps := by
  have hsends := tell_sends (.repairRequest (Fin.ofNat 384 src.val) (BitVec.ofNat 32 n))
    (((s.found dt).setSrc src.val (askedSrc (s.pass dt).clk n (s.blk.src src.val))).inc F.PAIR_REPAIR_REQ)
  have hevent := skewExpiry_due (c := (s.pass dt).clk) (b := s.found dt) (missingExt_of_le hx hn hf) hg hr
    (by rwa [State.found_get])
  rw [if_pos (show (s.found dt).paired = true from hp), State.found_src] at hevent
  refine ⟨_, exec_mergeSkewExpiry hh hd _, ?_, ?_, ?_, ?_⟩ <;> rw [hevent]
  · exact State.ends_clk_kept hq hsends.newPtp hsends.clkReset
  · exact State.ends_mem_kept hq hsends.stores
  · rw [State.ends_get, hsends.get (by decide)]
    exact Block.get_inc _ (by unfold Fld.fits; decide) 0 0 0
  · rw [State.ends_src, Block.src_of_lad hsends.lad, Block.src_inc, Block.src_setSrc_same]
    exact List.mem_append_right _ (List.mem_singleton.2 rfl)

theorem repairWaitExpiry_loses (hr : g.repair = true)
    (hdue : g.since + s.blk.get F.LAD_MERGE_REPAIR_WAIT * usTick ≤ (s.pass dt).clk.steady) :
    ∃ t : State, exec (.repairWaitExpiry dt src (BitVec.ofNat 32 n)) s = .next t ∧ t.clk = (s.pass dt).clk ∧ t.mem = s.mem ∧
      (∀ k, (t.blk.src src.val).gaps.any (·.has k) = ((s.blk.src src.val).gaps.any (·.has k) && decide (k ≠ n))) ∧
      n ∈ (t.blk.src src.val).lostNums ∧
      t.blk.get F.PAIR_REPAIR_NONE = (if g.answered then s.blk.get F.PAIR_REPAIR_NONE
        else min (2 ^ F.PAIR_REPAIR_NONE.width - 1) (s.blk.get F.PAIR_REPAIR_NONE + 1)) := by
  have hevent : repairExpiry (s.pass dt).clk src.val (BitVec.ofNat 32 n).toNat (s.found dt) =
      if g.answered then
        (loseNumber src.val n (s.found dt)).setSrc src.val (lostSrc (s.pass dt).clk n (s.blk.src src.val))
      else ((loseNumber src.val n (s.found dt)).setSrc src.val
        (lostSrc (s.pass dt).clk n (s.blk.src src.val))).inc F.PAIR_REPAIR_NONE := by
    rw [repairExpiry_due (b := s.found dt) (missingExt_of_le hx hn hf) hg hr (by rwa [State.found_get]),
      waitLost_video _ _ _ (s.found dt) ht, State.found_src]
  have hnone : (loseNumber src.val n (s.found dt)).get F.PAIR_REPAIR_NONE = s.blk.get F.PAIR_REPAIR_NONE :=
    loseNumber_get _ _ _ (by simp only [Fld.at, F.LAD_SRC_LOSS_LOST, F.PAIR_REPAIR_NONE]; omega)
  refine ⟨_, exec_repairWaitExpiry hh hd _, ?_, ?_, fun k => ?_, ?_, ?_⟩ <;> rw [hevent]
  · exact State.ends_clk_kept hq ((apply_ite Block.newPtp ..).trans (ite_self _)) ((apply_ite Block.clkReset ..).trans (ite_self _))
  · exact State.ends_mem_kept hq ((apply_ite Block.stores ..).trans (ite_self _))
  · rw [State.ends_src, apply_ite (Block.src · src.val), Block.src_inc, ite_self, Block.src_setSrc_same]
    exact any_has_gapsWithout ..
  · rw [State.ends_src, apply_ite (Block.src · src.val), Block.src_inc, ite_self, Block.src_setSrc_same]
    exact mem_insertNum ..
  · rw [State.ends_get]
    split
    · exact hnone
    · rw [Block.get_inc _ (by unfold Fld.fits; decide), Block.get_setSrc, hnone]

end Waits

/-! ### Silence -/

theorem pathLoss_records (path : Bool) (hr : s.blk.srcRuns src.val = true) (ht : s.blk.transport src.val ≤ 2)
    (hu : bit (s.blk.get F.LAD_SRC_CTL_PATHS src.val) (b2n path) = true)
    (hg : (if path then (s.blk.src src.val).goneB else (s.blk.src src.val).goneA) = false)
    (hdue : (if path then (s.blk.src src.val).lastB else (s.blk.src src.val).lastA) +
      s.blk.get F.LAD_MERGE2_PATH_LOSS * msTick ≤ (s.pass dt).clk.steady) :
    ∃ t : State, exec (.pathLoss dt src path) s = .next t ∧
      t.blk.on (if path then F.LAD_SRC_STAT_PATH_B else F.LAD_SRC_STAT_PATH_A) src.val = false ∧
      (if path then (t.blk.src src.val).goneB else (t.blk.src src.val).goneA) = true ∧
      t.blk.evq.map (·.code) = s.blk.evq.map (·.code) ++ [0x1803] ∧ t.clk = (s.pass dt).clk ∧ t.mem = s.mem ∧
      ∀ a, a ≠ F.LAD_SRC_STAT_PATH_A.at src.val → t.blk.reg a = s.blk.reg a := by
  have hevent := pathLoss_due (c := (s.pass dt).clk) (b := s.found dt) hr path ht hu hg (by rwa [State.found_get])
  refine ⟨_, exec_pathLoss hh hd _, ?_, ?_, ?_, ?_, ?_, fun a ha => ?_⟩ <;> rw [hevent]
  · rw [State.ends_on, Block.on_setSrc]
    cases path
    · exact Block.on_flag_same _ F.LAD_SRC_STAT_PATH_A (by unfold Fld.fits; decide) rfl _ _ _ _
    · exact Block.on_flag_same _ F.LAD_SRC_STAT_PATH_B (by unfold Fld.fits; decide) rfl _ _ _ _
  · rw [State.ends_src, Block.src_setSrc_same]
    cases path <;> rfl
  · rw [State.ends_evq, Block.evq_setSrc, Block.record_codes]
    rfl
  · exact State.ends_clk_kept hq rfl rfl
  · exact State.ends_mem_kept hq rfl
  · rw [State.ends_reg]
    refine (Block.reg_setReg_of_ne _ _ (Ne.symm ?_)).trans rfl
    cases path <;> exact ha

theorem sourceLate_records (hr : s.blk.srcRuns src.val = true) (hl : (s.blk.src src.val).lateSeen = false)
    (hdue : (s.blk.src src.val).lastReady + s.blk.get F.LAD_SRC_MAXAGE_MAXAGE src.val * msTick ≤ (s.pass dt).clk.steady) :
    ∃ t : State, exec (.sourceLate dt src) s = .next t ∧ t.blk.on F.LAD_EVT_LATE = true ∧
      (t.blk.src src.val).lateSeen = true ∧
      t.blk.evq.map (·.code) = s.blk.evq.map (·.code) ++ [0x1802] ∧ t.clk = (s.pass dt).clk ∧ t.mem = s.mem ∧
      ∀ a, a ≠ F.LAD_EVT_LATE.addr → t.blk.reg a = s.blk.reg a := by
  have hevent := sourceLate_due (c := (s.pass dt).clk) (b := s.found dt) hr hl (by rwa [State.found_get])
  refine ⟨_, exec_sourceLate hh hd, ?_, ?_, ?_, ?_, ?_, fun a ha => ?_⟩ <;> rw [hevent]
  · rw [State.ends_on, Block.on_record]
    exact Block.on_evt _ (by unfold Fld.fits; decide) rfl 0 0
  · rw [State.ends_src, Block.src_record, Block.src_evt, Block.src_setSrc_same]
  · rw [State.ends_evq, Block.record_codes]
    rfl
  · exact State.ends_clk_kept hq rfl rfl
  · exact State.ends_mem_kept hq rfl
  · rw [State.ends_reg, Block.reg_record, Block.reg_evt, Block.reg_put, Fld.at_zero, if_neg (Ne.symm ha), Block.reg_setSrc]
    rfl

end Commands

/-- Settles O13, command by command. -/
theorem missingPacketsWaitThenAreLost : Obligations.MissingPacketsWaitThenAreLost := by
  intro dt src s hh hq hd
  dsimp only
  refine ⟨fun n h g ht hx hn hf hg => ⟨fun hr hdue => ⟨mergeSkewExpiry_loses hh hd hq ht hx hn hf hg hr hdue,
    mergeSkewExpiry_asks hh hd hq hx hn hf hg hr hdue⟩, repairWaitExpiry_loses hh hd hq ht hx hn hf hg⟩,
    pathLoss_records hh hd hq, sourceLate_records hh hd hq⟩

end Sys2Proof.Machine
end

section
/-! Accesses to DRAM and peer shares: which registers they leave alone (R342, R352, R406-R416). -/

namespace Sys2Proof.Machine

open Sys2Proof

/-! ## What an event keeps -/

/-- The block after an event has the tables of sources and buffers, the clock settings and the registers of `R` that the block
before has. -/
structure Block.Keeps (R : Set Nat) (b b' : Block) : Prop where
  reg : ∀ a ∈ R, b'.reg a = b.reg a
  lad : b'.lad = b.lad
  newPtp : b'.newPtp = b.newPtp
  clkReset : b'.clkReset = b.clkReset

namespace Block.Keeps

variable {R : Set Nat} {b b' b'' : Block}

theorem refl (R : Set Nat) (b : Block) : Keeps R b b := ⟨fun _ _ => rfl, rfl, rfl, rfl⟩

theorem trans (h : Keeps R b b') (h' : Keeps R b' b'') : Keeps R b b'' :=
  ⟨fun a ha => (h'.reg a ha).trans (h.reg a ha), h'.lad.trans h.lad, h'.newPtp.trans h.newPtp, h'.clkReset.trans h.clkReset⟩

theorem ite {p : Prop} [Decidable p] (h : Keeps R b b') (h' : Keeps R b b'') : Keeps R b (if p then b' else b'') := by
  split
  · exact h
  · exact h'

/-- An update of none of these. -/
theorem keep (h : Keeps R b b') (hr : b''.regs = b'.regs) (hl : b''.lad = b'.lad) (hn : b''.newPtp = b'.newPtp)
    (hc : b''.clkReset = b'.clkReset) : Keeps R b b'' :=
  h.trans ⟨fun a _ => by simp [Block.reg, hr], hl, hn, hc⟩

theorem foldl {α : Type} (g : Block → α → Block) (l : List α) (hg : ∀ a ∈ l, ∀ b, Keeps R b (g b a)) (b : Block) :
    Keeps R b (l.foldl g b) := by
  induction l generalizing b with
  | nil => exact .refl R b
  | cons a t ih => exact (hg a (by simp) b).trans (ih (fun x hx => hg x (List.mem_cons_of_mem _ hx)) _)

theorem setReg (h : Keeps R b b') {a : Nat} (ha : a ∉ R) (v : Word) : Keeps R b (b'.setReg a v) :=
  h.trans ⟨fun _ hx => Block.reg_setReg_of_ne _ _ fun e => ha (e ▸ hx), rfl, rfl, rfl⟩

section Fields

variable {f : Fld} {i j k : Nat}

theorem put (h : Keeps R b b') (hf : f.at i j k ∉ R) (x : Nat) : Keeps R b (b'.put f x i j k) := h.setReg hf _
theorem flag (h : Keeps R b b') (hf : f.at i j k ∉ R) (x : Bool) : Keeps R b (b'.flag f x i j k) := h.put hf _
theorem inc (h : Keeps R b b') (hf : f.at i j k ∉ R) (n : Nat) : Keeps R b (b'.inc f i j k n) := h.put hf _
theorem evt (h : Keeps R b b') (hf : f.at i j ∉ R) : Keeps R b (b'.evt f i j) := (h.put hf 1).keep rfl rfl rfl rfl

end Fields

theorem record (h : Keeps R b b') (code sev p0 p1 p2 p3 inst : Nat) :
    Keeps R b (b'.record code sev p0 p1 p2 p3 inst) := h.keep rfl rfl rfl rfl

theorem recordLim (h : Keeps R b b') (c : Clk) (key period code sev p0 p1 p2 p3 inst : Nat) :
    Keeps R b (b'.recordLim c key period code sev p0 p1 p2 p3 inst) := by
  unfold Block.recordLim
  exact h.trans (.ite ((refl R b').keep rfl rfl rfl rfl) (.refl R b'))

theorem store (h : Keeps R b b') (a : Nat) (l : List Byte) : Keeps R b (b'.store a l) := h.keep rfl rfl rfl rfl

theorem get (h : Keeps R b b') {f : Fld} {i j k : Nat} (hf : f.at i j k ∈ R) : b'.get f i j k = b.get f i j k := by
  rw [Block.get, Block.get, h.reg _ hf]

theorem on (h : Keeps R b b') {f : Fld} {i j k : Nat} (hf : f.at i j k ∈ R) : b'.on f i j k = b.on f i j k := by
  rw [Block.on, Block.on, h.get hf]

theorem src (h : Keeps R b b') (n : Nat) : b'.src n = b.src n := Block.src_of_lad h.lad n
theorem buf (h : Keeps R b b') (n : Nat) : b'.buf n = b.buf n := Block.buf_of_lad h.lad n

end Block.Keeps

/-- A send keeps what lies outside the SPR window. -/
theorem Block.Sends.keeps {R : Set Nat} {b b' : Block} (h : Block.Sends b b') (hR : ∀ a ∈ R, a / 0x10000 ≠ 0x4C) :
    Block.Keeps R b b' := ⟨fun a ha => h.reg a (hR a ha), h.lad, h.newPtp, h.clkReset⟩

/-! ## An access to DRAM -/

section Dram

variable (c : Clk) (cls part a len : Nat) (wr : Bool) (port : Nat) (b : Block)

theorem dramOut_touches (kind : Nat) : Block.Touches [9] b (dramOut c port a kind b) := by
  unfold dramOut
  exact Block.Touches.recordLim (Block.Touches.evt (.refl [9] b) (by simp [Fld.at, F.MEM_EVT_RANGE])) ..

/-- An access changes at most what the Flask and the memory controller report. -/
theorem dramAccess_touches : Block.Touches [3, 9] b (dramAccess c cls part a len wr port b).2 := by
  have hrefl := Block.Touches.refl [3, 9] b
  unfold dramAccess
  split
  · exact hrefl.andThen (flaskRefuse_touches ..) (by decide)
  · split
    · exact hrefl.andThen (dramOut_touches ..) (by decide)
    · exact hrefl

theorem flaskRefuse_lad (imprecise : Bool) (r : Refused) (sup : Nat) :
    (flaskRefuse c cls a wr imprecise r sup b).lad = b.lad := by
  have hrefl := Block.Keeps.refl ∅ b
  have hfree : ∀ x, x ∉ (∅ : Set Nat) := Set.notMem_empty
  have htold : ∀ b' : Block, Block.Keeps ∅ b' (if sup < 4 && !bit b'.flkPend sup then
      { b' with flkPend := b'.flkPend + 2 ^ sup } else b') := fun b' =>
    .ite ((Block.Keeps.refl ∅ b').keep rfl rfl rfl rfl) (.refl ∅ b')
  unfold flaskRefuse
  refine (Block.Keeps.recordLim (.trans (.evt ?_ (hfree _)) (htold _)) ..).lad
  split
  · exact hrefl.inc (hfree _) _
  · exact (((((((hrefl.put (hfree _) _).put (hfree _) _).put (hfree _) _).flag (hfree _) _).flag (hfree _) _).put
      (hfree _) _).put (hfree _) _).evt (hfree _)

theorem dramOut_lad (kind : Nat) : (dramOut c port a kind b).lad = b.lad := by
  unfold dramOut
  exact (Block.Keeps.recordLim (.evt (.refl ∅ b) (Set.notMem_empty _)) ..).lad

theorem dramAccess_lad : (dramAccess c cls part a len wr port b).2.lad = b.lad := by
  unfold dramAccess
  split
  · exact flaskRefuse_lad ..
  · split
    · exact dramOut_lad ..
    · rfl

theorem dramAccess_keeps {R : Set Nat} (hR : ∀ x ∈ R, x / 0x10000 ≠ 3 ∧ x / 0x10000 ≠ 9) :
    Block.Keeps R b (dramAccess c cls part a len wr port b).2 := by
  obtain ⟨-, hn, hc, -, hreg⟩ := dramAccess_touches c cls part a len wr port b
  exact ⟨fun x hx => hreg x (by simp [hR x hx]), dramAccess_lad .., hn, hc⟩

/-- An access is granted or not by the registers alone. -/
theorem dramAccess_granted : (dramAccess c cls part a len wr port b).1 = !dramFails b cls part a len wr := by
  unfold dramAccess dramFails
  split
  case h_1 r h => rw [h]; rfl
  case h_2 h =>
    rw [h]
    split
    case h_1 k hk => rw [hk]; rfl
    case h_2 hk => rw [hk]; rfl

end Dram

/-! ## Peer shares (R342) -/

section Shares

variable (c : Clk) (m : Mem) (b : Block)

theorem Block.Sends.setShare {b b' : Block} (h : Block.Sends b b') (e : Nat) (x : ShareSt) : Block.Sends b (b'.setShare e x) :=
  h.trans ⟨fun _ _ => rfl, rfl, rfl, rfl, rfl, rfl⟩

theorem ringSend_sends (chan mask : Nat) (body : SprBody) : Block.Sends b (ringSend chan mask body b) := by
  unfold ringSend
  exact .foldl _ _ (fun k _ b => .ite (.refl b) (sprSend_sends ..)) b

theorem sendSlice_sends (e kind frame off rows : Nat) (rest : List Byte) :
    Block.Sends b (sendSlice e kind frame off rows rest b) := ringSend_sends ..

theorem shareHead_sends (e key frame : Nat) : Block.Sends b (shareHead c e key frame b) :=
  ((Block.Sends.refl b).setShare e _).trans (sendSlice_sends ..)

theorem shareData_sends (e frame mark size height rows fuel off : Nat) (l : List Byte) :
    Block.Sends b (shareData e frame mark size height rows fuel off l b) := by
  induction fuel generalizing off l b with
  | zero => exact .refl b
  | succ n ih =>
    unfold shareData
    exact .ite (.refl b) ((sendSlice_sends ..).trans (ih ..))

theorem shareRows_sends (e s key frame sent upto rows : Nat) :
    Block.Sends b (shareRows m e s key frame sent upto rows b) := by
  unfold shareRows
  exact .ite (.refl b) (((Block.Sends.refl b).setShare e _).trans (shareData_sends ..))

/-- The registers of a share lie in the SPR window. -/
theorem shareStat_window {f : Fld} (ha : f.addr = 0x4C0404) (hs : f.si = 8) {e : Nat} (he : e < 64) :
    f.at e / 0x10000 = 0x4C := by
  simp only [Fld.at, ha, hs]
  omega

variable {e : Nat} (he : e < 64)
include he

theorem shareEnd_sends (s key frame sent : Nat) : Block.Sends b (shareEnd m e s key frame sent b) :=
  (((shareRows_sends m b e s key frame sent _ _).trans (sendSlice_sends ..)).setShare e _).put (shareStat_window rfl rfl he) _

theorem shareStep_sends : Block.Sends b (shareStep c m e b) := by
  unfold shareStep
  extract_lets src ready b1 pic gone b2
  have hready : Block.Sends b b1 := by
    refine .foldl _ _ (fun q _ b => ?_) b
    dsimp only
    have hboth : ∀ key frame, Block.Sends b (shareEnd m e src key frame 0 (shareHead c e key frame b)) := fun key frame =>
      (shareHead_sends ..).trans (shareEnd_sends m _ he ..)
    split
    · exact .ite (shareEnd_sends m b he ..) (hboth ..)
    · exact hboth ..
  have hgone : Block.Sends b b2 := by
    refine hready.trans (.ite ?_ (.refl b1))
    split
    · exact ((sendSlice_sends ..).setShare e _).put (shareStat_window rfl rfl he) _
    · exact .refl b1
  clear_value b2 gone pic b1
  split
  · exact hready
  split
  · exact hgone
  · extract_lets b3
    have hhead : Block.Sends b b3 := hgone.trans (.ite (shareHead_sends ..) (.refl b2))
    split
    · exact .ite (hhead.trans (shareRows_sends ..)) hhead
    · exact hhead

omit he in
/-- What the shares send changes neither the Ladles nor memory. -/
theorem shareSync_sends : Block.Sends b (shareSync c m b) := by
  unfold shareSync
  refine .foldl _ _ (fun e he b => ?_) b
  exact shareStep_sends c m b (List.mem_range.1 (List.mem_filter.1 he).1)

end Shares

end Sys2Proof.Machine
end

section
/-! A frame is complete when its numbers are resolved (R103). -/

namespace Sys2Proof.Machine

open Sys2Proof

section Complete

variable (c : Clk) (s l : Nat) (f : OpenFrame) (x : SrcSt)

/-- A frame that completes without waiting for the partner, its last number being `l`. -/
def completeFrame : OpenFrame :=
  { f with lost := x.lostNums.filter (· ≤ l), complete := some c.steady, awaits := false }

/-- A source whose frame has completed. -/
def completeSrc : SrcSt :=
  let frames := setFrame x.frames (completeFrame c l f x)
  { x with
    frames := frames, lostNums := x.lostNums.filter (l < ·), nextFirst := some (l + 1)
    overran := x.overran.filter fun t => frames.any fun g => g.rtpts = t && g.complete.isNone }

/-- What is recorded of the lost numbers of a frame. -/
def lossRecorded (number : Nat) (lost : List Nat) (b : Block) : Block :=
  if lost.isEmpty then b else (b.evt F.LAD_EVT_LOSS).record 0x1804 3 s number lost.length (lost.headD 0)

variable {c s l f x} {b : Block}

theorem mem_completeSrc_frames (hf : f ∈ x.frames) : completeFrame c l f x ∈ (completeSrc c l f x).frames :=
  List.mem_map.2 ⟨f, hf, if_pos rfl⟩

theorem Block.agrees_unpaired (hp : b.paired = false) : b.agrees s = false := by rw [Block.agrees, hp, Bool.false_and]

theorem sendLoss_unpaired (hp : b.paired = false) : sendLoss s f b = b :=
  if_neg (by rw [Block.agrees_unpaired hp]; decide)

theorem keptLoss_none (m : Mem) (h : b.peerLosses = []) : keptLoss m s b = b := by
  unfold keptLoss
  rw [h]
  rfl

/-- Recording the losses leaves the pair's registers alone. -/
theorem lossRecorded_paired (number : Nat) (lost : List Nat) (hp : b.paired = false) :
    (lossRecorded s number lost b).paired = false := by
  have hkeeps : Block.Keeps {F.PAIR_CFG_MODE.at, F.PAIR_STAT_LINK.at} b (lossRecorded s number lost b) := by
    unfold lossRecorded
    exact .ite (.refl _ b) (((Block.Keeps.refl _ b).evt (by decide)).record ..)
  rw [Block.paired, hkeeps.on (by decide), hkeeps.on (by decide)]
  exact hp

theorem lossRecorded_src (number : Nat) (lost : List Nat) (j : Nat) : (lossRecorded s number lost b).src j = b.src j := by
  unfold lossRecorded
  exact (apply_ite (Block.src · j) ..).trans (ite_self _)

/-- The oldest incomplete frame of an unpaired unit completes once its last number is accepted and none below it is
missing. -/
theorem frameComplete_resolved {h : Nat} (hf : (b.src s).frames.find? (fun g => g.complete.isNone) = some f)
    (hl : f.last = some l) (hh : (b.src s).highest = some h) (hlh : l ≤ h) (hg : ∀ g ∈ (b.src s).gaps, l < g.lo)
    (hp : b.paired = false) :
    frameComplete c s b =
      lossRecorded s f.number ((b.src s).lostNums.filter (· ≤ l)) (b.setSrc s (completeSrc c l f (b.src s))) := by
  have hopen : ¬((decide (h < l) || (b.src s).gaps.any fun g => g.lo ≤ l) = true) := by
    rw [decide_eq_false (Nat.not_lt.2 hlh), Bool.false_or, List.any_eq_true]
    exact fun ⟨g, hmem, hle⟩ => absurd (of_decide_eq_true hle) (Nat.not_le.2 (hg g hmem))
  unfold frameComplete
  dsimp only
  rw [show nextIncomplete (b.src s) = some f from hf]
  dsimp only
  rw [hl, hh]
  dsimp only
  rw [if_neg hopen, Block.agrees_unpaired hp, ← hl, ← hh]
  exact sendLoss_unpaired (b := lossRecorded s f.number ((b.src s).lostNums.filter (· ≤ l))
    (b.setSrc s (completeSrc c l f (b.src s)))) (lossRecorded_paired _ _ hp)

end Complete

section Commands

variable {s : State} {dt : Nat} {src : Src} (hh : s.blk.hold = .none) (hd : s.blk.domOn 31 = true)
include hh hd

theorem exec_frameComplete : exec (.frameComplete dt src) s =
    .next (s.ends dt (keptLoss s.mem src.val (frameComplete (s.pass dt).clk src.val (s.found dt)))) :=
  State.run_ladles hh hd fun c m b => keptLoss m src.val (frameComplete c src.val b)

theorem exec_frameReady : exec (.frameReady dt src) s =
    .next (s.ends dt (shareSync (s.pass dt).clk s.mem (frameReady (s.pass dt).clk src.val (s.found dt)))) :=
  State.run_ladles hh hd fun c m b => shareSync c m (frameReady c src.val b)

theorem frameComplete_completes (hq : s.blk.quiet = true) {f : OpenFrame} {l h : Nat}
    (hf : (s.blk.src src.val).frames.find? (fun g => g.complete.isNone) = some f)
    (hl : f.last = some l) (hx : (s.blk.src src.val).highest = some h) (hlh : l ≤ h)
    (hg : ∀ g ∈ (s.blk.src src.val).gaps, l < g.lo) (hp : s.blk.paired = false) (hkept : s.blk.peerLosses = []) :
    ∃ t : State, exec (.frameComplete dt src) s = .next t ∧ t.clk = (s.pass dt).clk ∧ t.mem = s.mem ∧
      (∃ g ∈ (t.blk.src src.val).frames, g.number = f.number ∧ g.complete = some (s.pass dt).clk.steady ∧
        g.lost = (s.blk.src src.val).lostNums.filter (· ≤ l) ∧ g.awaits = false) ∧
      (t.blk.src src.val).lostNums = (s.blk.src src.val).lostNums.filter (l < ·) ∧
      ((∀ n ∈ (s.blk.src src.val).lostNums, l < n) → t.blk.evq = s.blk.evq ∧ t.blk.regs = s.blk.regs) ∧
      ((∃ n ∈ (s.blk.src src.val).lostNums, n ≤ l) → t.blk.on F.LAD_EVT_LOSS = true ∧
        t.blk.evq.map (·.code) = s.blk.evq.map (·.code) ++ [0x1804]) := by
  set x := s.blk.src src.val with hsrc
  set b' := (s.found dt).setSrc src.val (completeSrc (s.pass dt).clk l f x) with hb'
  have hevent : keptLoss s.mem src.val (frameComplete (s.pass dt).clk src.val (s.found dt)) =
      lossRecorded src.val f.number (x.lostNums.filter (· ≤ l)) b' := by
    rw [frameComplete_resolved (b := s.found dt) hf hl hx hlh hg hp]
    have hsame : (lossRecorded src.val f.number (x.lostNums.filter (· ≤ l)) b').peerLosses = b'.peerLosses := by
      unfold lossRecorded
      exact (apply_ite Block.peerLosses ..).trans (ite_self _)
    exact keptLoss_none _ (hsame.trans hkept)
  refine ⟨_, exec_frameComplete hh hd, ?_, ?_, ?_, ?_, fun hnone => ?_, fun ⟨n, hn, hnl⟩ => ?_⟩ <;> rw [hevent]
  · unfold lossRecorded
    exact State.ends_clk_kept hq ((apply_ite Block.newPtp ..).trans (ite_self _))
      ((apply_ite Block.clkReset ..).trans (ite_self _))
  · unfold lossRecorded
    exact State.ends_mem_kept hq ((apply_ite Block.stores ..).trans (ite_self _))
  · rw [State.ends_src, lossRecorded_src, Block.src_setSrc_same]
    exact ⟨_, mem_completeSrc_frames (List.mem_of_find?_eq_some hf), rfl, rfl, rfl, rfl⟩
  · rw [State.ends_src, lossRecorded_src, Block.src_setSrc_same]
    rfl
  · have hempty : x.lostNums.filter (· ≤ l) = [] := List.filter_eq_nil_iff.2 fun n hn => by simpa using hnone n hn
    rw [State.ends_evq, State.ends_regs, hempty]
    exact ⟨rfl, rfl⟩
  · have hlost : (x.lostNums.filter (· ≤ l)).isEmpty = false := by
      rw [List.isEmpty_eq_false_iff]
      exact List.ne_nil_of_mem (List.mem_filter.2 ⟨hn, by simpa using hnl⟩)
    rw [State.ends_on, State.ends_evq]
    unfold lossRecorded
    rw [hlost, if_neg (by decide), Block.on_record, Block.record_codes]
    exact ⟨Block.on_evt _ (by unfold Fld.fits; decide) rfl 0 0, rfl⟩

end Commands

end Sys2Proof.Machine
end

section
/-! What the entries of a ring and the tracking of freezes leave alone: the registers of the sources (R109, R213). -/

namespace Sys2Proof.Machine

open Sys2Proof

/-! ## The registers of the sources -/

/-- Where the registers of the sources lie. -/
def srcRegs : Set Nat := {a | 0x184000 ≤ a ∧ a < 0x18A000}

theorem mem_srcRegs {a : Nat} : a ∈ srcRegs ↔ 0x184000 ≤ a ∧ a < 0x18A000 := Iff.rfl

theorem srcRegs_window {a : Nat} (h : a ∈ srcRegs) : a / 0x10000 = 0x18 := by
  rw [mem_srcRegs] at h
  omega

/-- A register past those of the sources. -/
theorem notMem_srcRegs {f : Fld} (ha : 0x18A000 ≤ f.addr) {i j k : Nat} : f.at i j k ∉ srcRegs := by
  rw [mem_srcRegs, Fld.at]
  omega

theorem dramAccess_srcRegs (c : Clk) (cls part a len : Nat) (wr : Bool) (port : Nat) (b : Block) :
    Block.Keeps srcRegs b (dramAccess c cls part a len wr port b).2 :=
  dramAccess_keeps _ _ _ _ _ _ _ _ fun x hx => by
    rw [srcRegs_window hx]
    decide

theorem Block.Sends.srcRegs {b b' : Block} (h : Block.Sends b b') : Block.Keeps srcRegs b b' :=
  h.keeps fun a ha => by
    rw [srcRegs_window ha]
    decide

/-! ## An entry of a ring (R109) -/

theorem ringOverflow_srcRegs (c : Clk) (n : Nat) (b : Block) : Block.Keeps srcRegs b (ringOverflow c n b) := by
  unfold ringOverflow
  exact (((Block.Keeps.refl _ b).evt (by rw [mem_srcRegs]; decide)).inc (notMem_srcRegs (by decide)) _).recordLim ..

theorem ringPut_srcRegs (c : Clk) (n : Nat) (e : RxEntry) (payload : List Byte) (b : Block) :
    Block.Keeps srcRegs b (ringPut c n e payload b).2 := by
  unfold ringPut
  split
  · exact .refl _ b
  extract_lets size head part data
  split
  · exact ringOverflow_srcRegs ..
  have hentry : Block.Keeps srcRegs b (dramAccess c 5 part (b.ringBase n + 32 * head) 32 true 15 b).2 :=
    dramAccess_srcRegs ..
  generalize dramAccess c 5 part (b.ringBase n + 32 * head) 32 true 15 b = r at hentry ⊢
  obtain ⟨ok, b1⟩ := r
  dsimp only at hentry ⊢
  have hpayload : Block.Keeps srcRegs b (if ok && !data.isEmpty then
      dramAccess c 5 part (b1.slotAddr n head) data.length true 14 b1 else (ok, b1)).2 := by
    split
    · exact hentry.trans (dramAccess_srcRegs ..)
    · exact hentry
  generalize (if ok && !data.isEmpty then
      dramAccess c 5 part (b1.slotAddr n head) data.length true 14 b1 else (ok, b1)) = r at hpayload ⊢
  obtain ⟨ok', b2⟩ := r
  dsimp only at hpayload ⊢
  split
  · exact ((hpayload.store ..).store ..).put (notMem_srcRegs (by decide)) _
  · exact hpayload

/-! ## Freeze tracking of a READY frame (R213) -/

section Freeze

variable {b b' : Block}

theorem Block.Keeps.setFrz {R : Set Nat} (h : Block.Keeps R b b') (s : Nat) (f : Frz) : Block.Keeps R b (b'.setFrz s f) :=
  h.keep rfl rfl rfl rfl

variable (b)

theorem freezeClear_srcRegs (c : Clk) (s : Nat) (fp : Word) : Block.Keeps srcRegs b (freezeClear c s fp b) := by
  unfold freezeClear
  exact .ite (((Block.Keeps.refl _ b).flag (notMem_srcRegs (by decide)) _).record ..) (.refl _ b)

theorem freezeEval_srcRegs (t s : Nat) : Block.Keeps srcRegs b (freezeEval t s b) := by
  unfold freezeEval
  extract_lets f0 b1 f lim chg b2 b3
  have h1 : Block.Keeps srcRegs b b1 := (Block.Keeps.refl _ b).setFrz ..
  have h2 : Block.Keeps srcRegs b b2 := h1.flag (notMem_srcRegs (by decide)) _
  exact .ite (((((h2.setFrz ..).flag (notMem_srcRegs (by decide)) _).evt (notMem_srcRegs (by decide))).record ..)) h2

theorem freezeStop_srcRegs (c : Clk) (s : Nat) : Block.Keeps srcRegs b (freezeStop c s b) := by
  unfold freezeStop
  exact (((freezeClear_srcRegs b c s _).flag (notMem_srcRegs (by decide)) _).flag (notMem_srcRegs (by decide)) _).setFrz ..

theorem freezeReady_srcRegs (c : Clk) (s : Nat) (fp : Word) (ageBase : Int) :
    Block.Keeps srcRegs b (freezeReady c s fp ageBase b) := by
  have hrefl := Block.Keeps.refl srcRegs b
  unfold freezeReady
  refine .ite hrefl (.trans (.ite ?_ (.ite ?_ (hrefl.setFrz ..))) (freezeEval_srcRegs ..))
  · exact ((hrefl.flag (notMem_srcRegs (by decide)) _).put (notMem_srcRegs (by decide)) _).setFrz ..
  · exact ((freezeClear_srcRegs ..).put (notMem_srcRegs (by decide)) _).setFrz ..

end Freeze

end Sys2Proof.Machine
end

section
/-! A frame becomes READY (R107, R111, R114, R117). -/

namespace Sys2Proof.Machine

open Sys2Proof

/-! ## The buffers of a pool -/

section Buffers

variable (c : Clk) (p i j k : Nat) (b : Block)

/-- The buffer of a pool that was READY gives way to a newer one. -/
def gaveWay : Block :=
  match b.readyBuf p with
  | some j => if j = i then b else retireBuf (bufKey p j) (shedBuf c p j b)
  | none => b

/-- A buffer that is no longer the newest: HELD while it has a user, FREE otherwise (R114). -/
def retired (x : PoolBuf) : PoolBuf := if b.bufUsers k = 0 then {} else { x with state := .held }

theorem retireBuf_eq : retireBuf k b = b.setBuf k (retired k b (b.buf k)) := by
  unfold retireBuf retired
  split <;> rfl

theorem retired_state (x : PoolBuf) : (retired k b x).state = if b.bufUsers k = 0 then .free else .held := by
  unfold retired
  split <;> rfl

theorem shedBuf_users (n : Nat) : (shedBuf c p j b).bufUsers n = b.bufUsers n := by
  unfold shedBuf
  exact (apply_ite (Block.bufUsers · n) ..).trans (ite_self _)

/-- All that a buffer's giving way changes is the table of buffers. -/
theorem gaveWay_same {α : Type} (g : Block → α)
    (hg : ∀ b : Block, ∀ l bufs, g { b with lad := { b.lad with bufs := bufs, shed := l } } = g b) :
    g (gaveWay c p i b) = g b := by
  have hbuf : ∀ b : Block, ∀ k x, g (b.setBuf k x) = g b := fun b _ _ => hg b b.lad.shed _
  have hshed : ∀ j, g (shedBuf c p j b) = g b := fun j => by
    unfold shedBuf
    exact (apply_ite g ..).trans (ite_eq_left_iff.2 fun _ => hg b _ b.lad.bufs)
  unfold gaveWay
  split
  · split
    · rfl
    · rw [retireBuf_eq, hbuf, hshed]
  · rfl

variable {c p i j b}

theorem bufKey_ne (h : j ≠ i) : bufKey p i ≠ bufKey p j := by
  unfold bufKey
  omega

/-- The buffer that was READY is HELD while it has a user. -/
theorem gaveWay_state (hr : b.readyBuf p = some j) (hj : j ≠ i) :
    ((gaveWay c p i b).buf (bufKey p j)).state = if b.bufUsers (bufKey p j) = 0 then .free else .held := by
  unfold gaveWay
  rw [hr]
  dsimp only
  rw [if_neg hj, retireBuf_eq, Block.buf_setBuf_same, retired_state, shedBuf_users]

end Buffers

/-! ## The newest frame of a source -/

section Ready

variable (c : Clk) (s p i : Nat) (x : PoolBuf) (b : Block)

/-- A source shows its newest frame, which acquires it if it is young enough (R107). -/
def newestShown : Block :=
  let b := (b.put F.LAD_SRC_STAT_NEWEST i s).put F.LAD_SRC_STAT_CLASS x.cls s
  let b := b.put2 F.LAD_SRC_AB_LO_AB_LO F.LAD_SRC_AB_HI_AB_HI (ofSigned 64 x.ageBase) s
  let b := b.flag F.LAD_SRC_STAT_CAPT (bit x.flags 0) s
  let age := ageMs c.ns64 x.ageBase
  if !b.on F.LAD_SRC_STAT_ACQ s && age ≤ b.get F.LAD_SRC_MAXAGE_MAXAGE s then
    (b.flag F.LAD_SRC_STAT_ACQ true s).record 0x1801 2 s age x.frame
  else b

/-- Only registers and events change. -/
theorem newestShown_keeps : Block.Keeps ∅ b (newestShown c s i x b) := by
  have hnone : ∀ x, x ∉ (∅ : Set Nat) := Set.notMem_empty
  unfold newestShown
  extract_lets b1 b2 b3 age
  have hput : Block.Keeps ∅ b b3 :=
    (((((Block.Keeps.refl _ b).put (hnone _) _).put (hnone _) _).put (hnone _) _).put (hnone _) _).flag (hnone _) _
  exact .ite ((hput.flag (hnone _) _).record ..) hput

/-- A field of the source's status apart from NEWEST. -/
theorem newest_put_apart {f : Fld} (hf : f.fits) (ha : f.apart F.LAD_SRC_STAT_NEWEST) (v : Nat) :
    (b.put f v s).get F.LAD_SRC_STAT_NEWEST s = b.get F.LAD_SRC_STAT_NEWEST s := Block.get_put_apart _ _ _ hf ha ..

theorem newestShown_newest (hi : i < 16) : (newestShown c s i x b).get F.LAD_SRC_STAT_NEWEST s = i := by
  have hbase : ∀ (b : Block) v, (b.put2 F.LAD_SRC_AB_LO_AB_LO F.LAD_SRC_AB_HI_AB_HI v s).get F.LAD_SRC_STAT_NEWEST s =
      b.get F.LAD_SRC_STAT_NEWEST s := fun b v => by
    refine (Block.get_put_other _ _ _ _ _ _ _ _ _ _ ?_).trans (Block.get_put_other _ _ _ _ _ _ _ _ _ _ ?_) <;>
      simp only [Fld.at, F.LAD_SRC_AB_LO_AB_LO, F.LAD_SRC_AB_HI_AB_HI, F.LAD_SRC_STAT_NEWEST] <;> omega
  have hacq : ∀ b : Block, (b.flag F.LAD_SRC_STAT_ACQ true s).get F.LAD_SRC_STAT_NEWEST s = b.get F.LAD_SRC_STAT_NEWEST s :=
    fun b => newest_put_apart _ _ (by unfold Fld.fits; decide) (by unfold Fld.apart; decide) _
  unfold newestShown
  extract_lets b1 b2 b3 age
  have hshown : b3.get F.LAD_SRC_STAT_NEWEST s = i := calc
    b3.get F.LAD_SRC_STAT_NEWEST s = b2.get F.LAD_SRC_STAT_NEWEST s :=
      newest_put_apart _ _ (by unfold Fld.fits; decide) (by unfold Fld.apart; decide) _
    _ = b1.get F.LAD_SRC_STAT_NEWEST s := hbase ..
    _ = (b.put F.LAD_SRC_STAT_NEWEST i s).get F.LAD_SRC_STAT_NEWEST s :=
      newest_put_apart _ _ (by unfold Fld.fits; decide) (by unfold Fld.apart; decide) _
    _ = i := Block.get_put_self _ _ (by decide) hi ..
  split
  · exact (hacq b3).trans hshown
  · exact hshown

/-- What a frame's becoming READY does. The other buffers are those of the block in which the older frame has given way. -/
structure MadeReady (b' : Block) : Prop where
  newest : i < 16 → s < 384 → b'.get F.LAD_SRC_STAT_NEWEST s = i
  frames : (b'.src s).frames = (b.src s).frames
  buf : ∃ awaits peer, ∀ k, b'.buf k = if bufKey p i = k then
    { x with state := .ready, src := s, readyAt := c.steady, readyPtp := c.ptp, awaits := awaits, peerPtp := peer }
    else (gaveWay c p i b).buf k
  newPtp : b'.newPtp = b.newPtp
  clkReset : b'.clkReset = b.clkReset

theorem newest_mem_srcRegs {s : Nat} (hs : s < 384) : F.LAD_SRC_STAT_NEWEST.at s ∈ srcRegs := by
  simp only [mem_srcRegs, Fld.at, F.LAD_SRC_STAT_NEWEST]
  omega

theorem makeReady_ready (awaits : Bool) : MadeReady c s p i x b (makeReady c s p i x awaits b) := by
  unfold makeReady
  extract_lets b1 told y b2 b3 b4 b5 b6 age b7 b8 b9 before b10
  have hgave : b1 = gaveWay c p i b := rfl
  obtain ⟨hptp, hreset, hsrc⟩ : b1.newPtp = b.newPtp ∧ b1.clkReset = b.clkReset ∧ b1.src s = b.src s := by
    rw [hgave]
    exact ⟨gaveWay_same _ _ _ _ _ fun _ _ _ => rfl, gaveWay_same _ _ _ _ _ fun _ _ _ => rfl,
      gaveWay_same _ _ _ _ (Block.src · s) fun _ _ _ => rfl⟩
  have hshown : b7 = newestShown c s i y b3 := rfl
  have hfrozen : Block.Keeps srcRegs b7 b9 := (freezeReady_srcRegs ..).keep rfl rfl rfl rfl
  have htold : Block.Sends b10 (if awaits = true then
      b10.tell (.ready (Fin.ofNat 384 s) (BitVec.ofNat 32 y.rtpts) c.ptp) else b10) := .ite (tell_sends ..) (.refl b10)
  have hlad : b9.lad = b3.lad := hfrozen.lad.trans (hshown ▸ (newestShown_keeps ..).lad)
  constructor
  case newest =>
    intro hi hs
    rw [htold.srcRegs.get (newest_mem_srcRegs hs), Block.get_setSrc, hfrozen.get (newest_mem_srcRegs hs), hshown]
    exact newestShown_newest _ _ _ _ _ hi
  case frames =>
    rw [Block.src_of_lad htold.lad, Block.src_setSrc_same]
    change (b9.src s).frames = _
    rw [Block.src_of_lad hlad, ← hsrc]
    rfl
  case buf =>
    refine ⟨y.awaits, y.peerPtp, fun k => ?_⟩
    rw [Block.buf_of_lad htold.lad, Block.buf_setSrc, Block.buf_of_lad hlad]
    exact Block.buf_setBuf ..
  case newPtp => exact (htold.newPtp.trans hfrozen.newPtp).trans ((hshown ▸ (newestShown_keeps ..).newPtp).trans hptp)
  case clkReset =>
    exact (htold.clkReset.trans hfrozen.clkReset).trans ((hshown ▸ (newestShown_keeps ..).clkReset).trans hreset)

end Ready

/-! ## FRAME_READY -/

section FrameReady

variable {c : Clk} {s i : Nat} {f : OpenFrame} {rest : List OpenFrame} {b : Block}
  (hf : (b.src s).frames = f :: rest) (hc : f.complete ≠ none) (ha : f.awaits = false) (hb : f.buf = some i)
  (ht : b.transport s = 2)

/-- The source once the frame has left its list. -/
def leftSrc (c : Clk) (f : OpenFrame) (rest : List OpenFrame) (x : SrcSt) : SrcSt :=
  { x with frames := rest, held := dropHeld c (markReady c f x.held) }

/-- The check of the store of a frame in buffer `i` (R352). -/
def storeCheck (c : Clk) (s i : Nat) (b : Block) : Bool × Block :=
  dramAccess c 5 (b.poolPart (b.poolOf s)) (b.bufAddr (b.poolOf s) i)
    (4096 + b.poolPitch (b.poolOf s) * b.srcHeight s) true 14 b

theorem storeCheck_setSrc (n : Nat) (x : SrcSt) : (storeCheck c s i (b.setSrc n x)).1 = (storeCheck c s i b).1 := by
  unfold storeCheck
  rw [dramAccess_granted, dramAccess_granted]
  rfl

theorem storeCheck_begun (t : Tick) : (storeCheck c s i (b.begun t)).1 = (storeCheck c s i b).1 := by
  unfold storeCheck
  rw [dramAccess_granted, dramAccess_granted]
  rfl

include hc ha ht in
/-- The frame is complete and final. -/
theorem not_waits : ¬((b.transport s ≠ 2 || f.complete.isNone || f.awaits) = true) := by
  rw [ht, ha]
  simpa using hc

include hf hc ha hb ht

theorem frameReady_refused (hg : (storeCheck c s i (b.setSrc s (leftSrc c f rest (b.src s)))).1 = false) :
    frameReady c s b = frameDropped s f.number 1
      ((storeCheck c s i (b.setSrc s (leftSrc c f rest (b.src s)))).2.setBuf (bufKey (b.poolOf s) i) {}) := by
  have hready := not_waits hc ha ht
  unfold frameReady
  dsimp only
  rw [hf]
  dsimp only
  rw [if_neg hready, hb]
  dsimp only
  exact if_pos (congrArg (!·) hg)

/-- A frame whose store is granted becomes READY, and an entry of its ring tells of it (R111). -/
theorem frameReady_granted (hg : (storeCheck c s i (b.setSrc s (leftSrc c f rest (b.src s)))).1 = true) :
    ∃ b' x n e, Block.Keeps Set.univ (storeCheck c s i (b.setSrc s (leftSrc c f rest (b.src s)))).2 b' ∧
      x.frame = f.number ∧ x.ageBase = f.ageBase ∧
      frameReady c s b = (ringPut c n e [] (makeReady c s (b.poolOf s) i x (b'.agrees s) b')).2 := by
  have hready := not_waits hc ha ht
  unfold frameReady
  dsimp only
  rw [hf]
  dsimp only
  rw [if_neg hready, hb]
  dsimp only
  refine ⟨_, _, _, _, ?_, ?_, ?_, if_neg (Bool.eq_false_iff.1 (congrArg (!·) hg))⟩
  · exact .foldl _ _ (fun y _ b => (Block.Keeps.refl _ b).store ..) _
  · rfl
  · rfl

end FrameReady

/-! ## The command -/

section Command

theorem Block.readyBuf_of_lad {b b' : Block} (h : b'.lad = b.lad) (p : Nat) : b'.readyBuf p = b.readyBuf p := by
  unfold Block.readyBuf Block.buf
  rw [h]

theorem Block.bufUsers_of_lad {b b' : Block} (h : b'.lad = b.lad) (k : Nat) : b'.bufUsers k = b.bufUsers k := by
  unfold Block.bufUsers
  rw [h]

theorem storeCheck_lad (c : Clk) (s i : Nat) (b : Block) : (storeCheck c s i b).2.lad = b.lad := dramAccess_lad ..

/-- A dropped frame is recorded. -/
theorem frameDropped_keeps (s number : Nat) (b : Block) : Block.Keeps ∅ b (frameDropped s number 1 b) :=
  ((Block.Keeps.refl _ b).evt (Set.notMem_empty _)).record ..

variable {s : State} {dt : Nat} {src : Src} {f : OpenFrame} {rest : List OpenFrame} {i : Fin 16} (hh : s.blk.hold = .none)
  (hd : s.blk.domOn 31 = true) (hq : s.blk.quiet = true) (hf : (s.blk.src src.val).frames = f :: rest)
  (hc : f.complete ≠ none) (ha : f.awaits = false) (hb : f.buf = some i.val) (ht : s.blk.transport src.val = 2)
include hh hd hq hf hc ha hb ht

theorem frameReady_drops (hg : (storeCheck (s.pass dt).clk src.val i.val s.blk).1 = false) :
    ∃ t : State, exec (.frameReady dt src) s = .next t ∧ t.clk = (s.pass dt).clk ∧ t.mem = s.mem ∧
      (t.blk.src src.val).frames = rest ∧ (t.blk.buf (bufKey (s.blk.poolOf src.val) i.val)).state = .free := by
  set c := (s.pass dt).clk
  set p := s.blk.poolOf src.val
  set b1 := (s.found dt).setSrc src.val (leftSrc c f rest (s.blk.src src.val))
  set b2 := (storeCheck c src.val i.val b1).2.setBuf (bufKey p i.val) {}
  have hevent : frameReady c src.val (s.found dt) = frameDropped src.val f.number 1 b2 :=
    frameReady_refused (b := s.found dt) hf hc ha hb ht (by rwa [storeCheck_setSrc, State.found, storeCheck_begun])
  obtain ⟨hst, hnp, hcr, -, -⟩ : Block.Touches [3, 9] b1 (storeCheck c src.val i.val b1).2 := dramAccess_touches ..
  have hdrop := frameDropped_keeps src.val f.number b2
  have hsync := shareSync_sends c s.mem (frameDropped src.val f.number 1 b2)
  refine ⟨_, exec_frameReady hh hd, ?_, ?_, ?_, ?_⟩ <;> rw [hevent]
  · exact State.ends_clk_kept hq ((hsync.newPtp.trans hdrop.newPtp).trans hnp) ((hsync.clkReset.trans hdrop.clkReset).trans hcr)
  · exact State.ends_mem_kept hq (hsync.stores.trans hst)
  · rw [State.ends_src, Block.src_of_lad hsync.lad, hdrop.src, Block.src_setBuf, Block.src_of_lad (storeCheck_lad ..),
      Block.src_setSrc_same]
    rfl
  · rw [State.ends_buf, Block.buf_of_lad hsync.lad, hdrop.buf, Block.buf_setBuf_same]

theorem frameReady_readies (hg : (storeCheck (s.pass dt).clk src.val i.val s.blk).1 = true) :
    ∃ t : State, exec (.frameReady dt src) s = .next t ∧ t.clk = (s.pass dt).clk ∧ (t.blk.src src.val).frames = rest ∧
      (t.blk.buf (bufKey (s.blk.poolOf src.val) i.val)).state = .ready ∧
      (t.blk.buf (bufKey (s.blk.poolOf src.val) i.val)).src = src.val ∧
      (t.blk.buf (bufKey (s.blk.poolOf src.val) i.val)).frame = f.number ∧
      (t.blk.buf (bufKey (s.blk.poolOf src.val) i.val)).ageBase = f.ageBase ∧
      t.blk.get F.LAD_SRC_STAT_NEWEST src.val = i.val ∧
      (∀ j, s.blk.readyBuf (s.blk.poolOf src.val) = some j → j ≠ i.val →
        (t.blk.buf (bufKey (s.blk.poolOf src.val) j)).state =
          (if s.blk.bufUsers (bufKey (s.blk.poolOf src.val) j) = 0 then .free else .held)) := by
  have hpool : (s.found dt).poolOf src.val = s.blk.poolOf src.val := rfl
  set p := s.blk.poolOf src.val
  set b1 := (s.found dt).setSrc src.val (leftSrc (s.pass dt).clk f rest (s.blk.src src.val))
  obtain ⟨b', x, n, e, hstored, hnum, hage, hevent⟩ := frameReady_granted (c := (s.pass dt).clk) (b := s.found dt) hf hc ha hb ht
    (by rwa [storeCheck_setSrc, State.found, storeCheck_begun])
  rw [hpool] at hevent
  obtain ⟨-, hnp, hcr, -, -⟩ : Block.Touches [3, 9] b1 (storeCheck (s.pass dt).clk src.val i.val b1).2 := dramAccess_touches ..
  have hlad : b'.lad = b1.lad := hstored.lad.trans (storeCheck_lad ..)
  have hmade := makeReady_ready (s.pass dt).clk src.val p i.val x b' (b'.agrees src.val)
  have hkept := (ringPut_srcRegs (s.pass dt).clk n e [] (makeReady (s.pass dt).clk src.val p i.val x (b'.agrees src.val) b')).trans
    (shareSync_sends (s.pass dt).clk s.mem _).srcRegs
  obtain ⟨aw, peer, hbuf⟩ := hmade.buf
  refine ⟨_, exec_frameReady hh hd, ?_, ?_, ?_, ?_, ?_, ?_, ?_, fun j hr hj => ?_⟩ <;> rw [hevent]
  · exact State.ends_clk_kept hq (((hkept.newPtp.trans hmade.newPtp).trans hstored.newPtp).trans hnp)
      (((hkept.clkReset.trans hmade.clkReset).trans hstored.clkReset).trans hcr)
  · rw [State.ends_src, hkept.src]
    refine hmade.frames.trans ?_
    rw [Block.src_of_lad hlad, Block.src_setSrc_same]
    rfl
  · rw [State.ends_buf, hkept.buf, hbuf, if_pos rfl]
  · rw [State.ends_buf, hkept.buf, hbuf, if_pos rfl]
  · rw [State.ends_buf, hkept.buf, hbuf, if_pos rfl]
    exact hnum
  · rw [State.ends_buf, hkept.buf, hbuf, if_pos rfl]
    exact hage
  · rw [State.ends_get, hkept.get (newest_mem_srcRegs src.isLt)]
    exact hmade.newest i.isLt src.isLt
  · rw [State.ends_buf, hkept.buf, hbuf, if_neg (bufKey_ne hj), gaveWay_state ((Block.readyBuf_of_lad hlad p).trans hr) hj,
      Block.bufUsers_of_lad hlad]
    rfl

end Command

/-- Settles O14, command by command. -/
theorem framesCompleteAndBecomeReady : Obligations.FramesCompleteAndBecomeReady := by
  intro dt src s hh hq hd
  dsimp only
  refine ⟨fun f l h hf hl hx hlh hg hp hkept => frameComplete_completes hh hd hq hf hl hx hlh hg hp hkept,
    fun f rest i hf hc ha hb ht _ _ => ⟨frameReady_drops hh hd hq hf hc ha hb ht,
      frameReady_readies hh hd hq hf hc ha hb ht⟩⟩

end Sys2Proof.Machine
end

section
/-! A write of a register of the Ladles, with nothing waiting in their window (R14, R110). -/

namespace Sys2Proof.Machine

open Sys2Proof

/-! ## Words -/

/-- Bits of a field's word outside the field stay as they are. -/
theorem Fld.getElem_into {f : Fld} (hf : f.fits) (v : Word) (x : Nat) {i : Nat} (hi : i < 32)
    (h : i < f.lsb ∨ f.lsb + f.width ≤ i) : (f.into v x)[i] = v[i] := by
  have hbit : bits (f.into v x).toNat i 1 = bits v.toNat i 1 :=
    f.of_into_apart ⟨0, 0, 0, 0, i, 1⟩ hf (by unfold Fld.apart; dsimp only; omega) v x
  unfold bits at hbit
  rw [BitVec.getElem_eq_testBit_toNat, BitVec.getElem_eq_testBit_toNat, Nat.testBit_eq_decide_div_mod_eq,
    Nat.testBit_eq_decide_div_mod_eq]
  simp only [pow_one] at hbit
  rw [hbit]

/-- A merge under bits that agree takes the word. -/
theorem merge_agreeing {x m y : Word} (h : (x ^^^ y) &&& m = 0#32) : merge x m y = x := by
  ext i hi
  have hbit : ((x ^^^ y) &&& m)[i] = (0#32)[i] := by rw [h]
  rw [getElem_merge]
  split
  case isTrue hm => exact Eq.symm (by simpa [hm] using hbit)
  case isFalse => rfl

/-! ## The write -/

/-- What a row of the Ladles must be for the write of its register to be its trigger. -/
structure RegRow.TriggersLadle (r : RegRow) : Prop where
  multi : r.multi = .none
  act : r.act ≠ .plain
  w1c : r.w1c = 0
  f : r.f = 0
  o : r.o = 0
  writable : BitVec.ofNat 32 (r.rw ||| r.wo) ≠ 0
  window : r.addr / 0x10000 = 24

/-- No source's F fields wait where nothing waits in the window (R86). -/
theorem srcFieldsTakeL_calm (c : Clk) (b : Block) (h : ∀ q ∈ b.pendL, q.addr / 0x10000 ≠ 24) : srcFieldsTakeL c b = b := by
  have hnone : ∀ q ∈ b.pendL, srcOfField q.addr = none := fun q hq => by
    unfold srcOfField
    refine if_neg ?_
    simp only [Bool.and_eq_true, decide_eq_true_eq]
    have := h q hq
    omega
  have htaken : b.pendL.filter (fun p => (srcOfField p.addr).isSome) = [] :=
    List.filter_eq_nil_iff.2 fun q hq => by simp [hnone q hq]
  have hkept : b.pendL.filter (fun p => (srcOfField p.addr).isNone) = b.pendL :=
    List.filter_eq_self.2 fun q hq => by simp [hnone q hq]
  unfold srcFieldsTakeL
  rw [htaken, hkept]
  rfl

/-- Nothing to flush in the window of the Ladles. -/
theorem takeWindow_ladles (c : Clk) (m : Mem) (b : Block) (h : ∀ q ∈ b.pendL, q.addr / 0x10000 ≠ 24) :
    takeWindow c m 24 b = b := by
  have hfree : ∀ q ∈ b.pendL, pendFree b 24 q = false := fun q hq => by
    have : (q.addr / 0x10000 == 24) = false := by simpa using h q hq
    simp [pendFree, this]
  have htaken : b.pendL.filter (pendFree b 24) = [] := List.filter_eq_nil_iff.2 fun q hq => by simp [hfree q hq]
  have hkept : (b.pendL.filter fun p => !pendFree b 24 p) = b.pendL := List.filter_eq_self.2 fun q hq => by simp [hfree q hq]
  unfold takeWindow
  rw [if_pos rfl, srcFieldsTakeL_calm c b h]
  simp only [takePends, htaken, hkept, lastWrites, List.foldl_nil]

/-- The blocks at which the trigger acts: the word in effect under the mask of its stored bits. -/
def Block.ladStored (r : RegRow) (p : Nat) (v : Word) (b : Block) : Block :=
  (b.store32 p (BitVec.ofNat 32 (r.s ||| r.o) &&& storeMask r) v).store32 p
    (BitVec.ofNat 32 (r.l ||| (r.s ||| r.o)) &&& storeMask r) v

section Write

variable {r : RegRow} (ht : r.TriggersLadle)
include ht

theorem RegRow.TriggersLadle.addr_ne {x : Nat} (h : x / 0x10000 ≠ 24) : r.addr ≠ x := fun e => h (e ▸ ht.window)

/-- No value written to such a row is refused. -/
theorem RegRow.TriggersLadle.fieldRules (ix : List Nat) (a : Nat) (v : Word) (b : Block) : fieldRules r ix a v b = (v, b) := by
  have h1 := ht.addr_ne (x := F.DEC_CTX_CFG_ENTRY.addr) (by decide)
  have h2 := ht.addr_ne (x := F.MEM_CFG_DENSITY.addr) (by decide)
  have h3 := ht.addr_ne (x := F.FET_HEAD_DIM_LEVEL.addr) (by decide)
  have h4 := ht.addr_ne (x := F.CRU_M_CTL_INPUT.addr) (by decide)
  simp [Machine.fieldRules, h1, h2, h3, h4]

theorem RegRow.TriggersLadle.writeIgnored (v : Word) : writeIgnored r v = false := by
  have h1 := ht.addr_ne (x := F.ENC_S_QP_QI.addr) (by decide)
  have h2 := ht.addr_ne (x := F.PAIR_TOKEN_WAIT_PREF.addr) (by decide)
  simp [Machine.writeIgnored, h1, h2]

/-- Such a row's class S fields are all that is ever locked. -/
theorem RegRow.TriggersLadle.lockedBits (b : Block) (ix : List Nat) :
    lockedBits b r ix = 0#32 ∨ lockedBits b r ix = BitVec.ofNat 32 r.s := by
  have h1 := ht.addr_ne (x := Rg.DSK_KMAP.addr) (by decide)
  have h2 := ht.addr_ne (x := Rg.DSK_BL.addr) (by decide)
  unfold Machine.lockedBits
  rw [if_neg h1, if_neg h2, ht.o]
  split
  · simp
  · simp

theorem writeWord_ladles (c : Clk) (m : Mem) (cls : Nat) {p : Nat} (v : Word) (mr : Option (Byte × Bool)) (b : Block)
    (ix : List Nat) (hp : p / 0x10000 = 24) (hc : ∀ q ∈ b.pendL, q.addr / 0x10000 ≠ 24) :
    writeWord c m cls r ix p [] v mr b = actWrite c m cls r ix p [] (BitVec.ofNat 32 (r.l ||| (r.s ||| r.o))) v mr
      (b.store32 p (BitVec.ofNat 32 (r.s ||| r.o) &&& storeMask r) v) := by
  have hgov : governor b p = none := by simp [governor, hp]
  have hpanel : isPanelField p = false := by
    simp only [isPanelField, Bool.and_eq_false_iff, decide_eq_false_iff_not]
    omega
  have hmask : fieldMask r = 0 := by simp [fieldMask, ht.multi]
  have hflush : ∀ w, flushFor c m p (b.setReg p w) = b.setReg p w := fun w => by
    simp only [flushFor, hpanel, Bool.false_eq_true, if_false, hp]
    exact takeWindow_ladles _ _ _ hc
  have hact : ∀ w, (decide (r.act = .plain) || (none : Option Nat).isSome || panelHolds (b.setReg p w) p) = false :=
    fun w => by simp [ht.act, panelHolds, hpanel]
  have hzero : ∀ n, ¬(0 &&& n ≠ 0) := fun n => by simp
  unfold writeWord
  simp only [hmask, if_neg (hzero _), Block.store32, if_pos ht.f, hgov, ite_self, hact, Bool.false_eq_true, if_false, hflush]

/-- A write of such a register, whose locked fields it does not change, is its trigger. -/
theorem regWrite_ladles (c : Clk) (m : Mem) (cls : Nat) {p : Nat} (v : Word) (mr : Option (Byte × Bool)) (b : Block)
    {ix : List Nat} (hr : regAt p = some (r, ix)) (hp : p / 0x10000 = 24) (hc : ∀ q ∈ b.pendL, q.addr / 0x10000 ≠ 24)
    (hv : (v ^^^ (b.reg p &&& storeMask r)) &&& BitVec.ofNat 32 r.s = 0#32) :
    regWrite c m cls p v mr b = actWrite c m cls r ix p [] (BitVec.ofNat 32 (r.l ||| (r.s ||| r.o))) v mr
      (b.store32 p (BitVec.ofNat 32 (r.s ||| r.o) &&& storeMask r) v) := by
  have h6 : decide (p / 0x10000 = 6) = false := by simp [hp]
  have hclear : clearBits r p v b = b := by simp [clearBits, ht.w1c]
  have hdef : decide (r.addr = F.ETH_DEF_ACTION.addr) = false := decide_eq_false (ht.addr_ne (by decide))
  have hagree : ∀ x, (v ^^^ (b.reg p &&& storeMask r)) &&& (Machine.lockedBits b r ix &&& x) = 0#32 := fun x => by
    rw [← BitVec.and_assoc]
    rcases ht.lockedBits b ix with h | h
    · rw [h, BitVec.and_zero, BitVec.zero_and]
    · rw [h, hv, BitVec.zero_and]
  have hlows : lowWords b r p = [] := by simp [lowWords, ht.multi]
  have hmask : fieldMask r = 0 := by simp [fieldMask, ht.multi]
  have hheld : ∀ n : Nat, ¬(n &&& 0 ≠ 0) := fun n => by simp
  have hbad : decide ((0#32 : Word) ≠ 0) = false := by decide
  unfold regWrite
  simp only [h6, Bool.false_and, Bool.false_eq_true, if_false, hr, hclear, if_neg ht.writable, ht.writeIgnored, hdef,
    ht.fieldRules, hagree, merge_agreeing (hagree _), ht.multi, hlows, hmask, hbad, decide_eq_false (hheld _), Bool.or_self, ite_self]
  rw [← writeWord_ladles ht c m cls v mr b ix hp hc]
  exact congrArg (writeWord c m cls r ix p [] v mr) b.unstaged_nil

end Write

end Sys2Proof.Machine
end

section
/-! What a write of a source's control register and of a ring's TAIL leave in effect (R91, R110). -/

namespace Sys2Proof.Machine

open Sys2Proof

section Commands

variable {s : State} {dt : Nat} {cls : Cls} {r : RegRow} {ix : List Nat} {p : Nat}

/-- A write of a word of the Ladles, let through, is its register's trigger. -/
theorem writeAt_ladles (v : Word) (hw : Writable s cls p) (hc : Calm s 24) (hp : p / 0x10000 = 24) (h4 : p % 4 = 0)
    (hr : regAt p = some (r, ix)) (ht : r.TriggersLadle)
    (hv : (v ^^^ (s.blk.reg p &&& storeMask r)) &&& BitVec.ofNat 32 r.s = 0#32) :
    s.run dt (fun c m b => writeAt c m cls p v b) =
      .next (s.answers dt (actWrite (s.pass dt).clk s.mem cls r ix p [] (BitVec.ofNat 32 (r.l ||| (r.s ||| r.o))) v none
        ((s.opened dt cls.val).store32 p (BitVec.ofNat 32 (r.s ||| r.o) &&& storeMask r) v))) := by
  have ha : windowAssigned (p / 0x10000) = true := by rw [hp]; decide
  have hopen : (s.opened dt cls.val).reg p = s.blk.reg p := portOpen_reg _ _ _ _ fun e => absurd hp (by rw [e]; decide)
  obtain ⟨hL, -, -⟩ := hc
  rw [s.writeAt_open dt cls p (fun _ _ _ => v) hw (by omega) ha h4, State.act_eq_ends]
  refine congrArg (fun b => Host.Outcome.next (s.answers dt b)) ?_
  exact regWrite_ladles ht _ _ _ v none (s.opened dt cls.val) hr hp hL (by rwa [hopen])

/-- A write of a field of the Ladles is a write of its register with the field changed. -/
theorem writeField_ladles {f : Fld} (x i : Nat) (hw : Writable s cls (f.at i)) (hc : Calm s 24)
    (hp : f.at i / 0x10000 = 24) (h4 : f.at i % 4 = 0) (hr : regAt (f.at i) = some (r, ix)) :
    s.writeField dt cls f x i =
      s.run dt fun c m b => writeAt c m cls (f.at i) (f.into (s.blk.reg (f.at i) &&& BitVec.ofNat 32 r.rw) x) b := by
  have ha : windowAssigned (f.at i / 0x10000) = true := by rw [hp]; decide
  rw [s.writeField_open dt cls f x i 0 hw (by omega) ha h4,
    s.writeAt_open dt cls (f.at i) (fun _ _ _ => f.into (s.blk.reg (f.at i) &&& BitVec.ofNat 32 r.rw) x) hw (by omega) ha h4,
    State.act_eq_ends, State.act_eq_ends, rwWord_found dt hc hp hr]

end Commands

/-! ## What the fields of the sources decide -/

section Same

/-- A field that a write of a source's EN leaves alone: of another register, or of the same apart from EN. -/
abbrev Fld.offEn (f : Fld) : Prop :=
  0x18A000 ≤ f.addr ∨ (0x184000 ≤ f.addr ∧ f.addr < 0x184040 ∧ f.si = 0x40 ∧ f.sj = 0 ∧ f.sk = 0 ∧ (f.addr ≠ 0x184000 ∨
    (1 ≤ f.lsb ∧ f.lsb + f.width ≤ 32 ∧ f.of 0x3FFFFF = 2 ^ f.width - 1)))

theorem Fld.offEn_low {f : Fld} (hf : f.offEn) : 0x184000 ≤ f.addr := by
  rcases hf with h | ⟨h, -⟩ <;> omega

/-- Such a field lies in no register of the matrix. -/
theorem Fld.offEn_gate {f : Fld} (hf : f.offEn) (i j k : Nat) : f.at i j k ≠ F.MTX_STAT_GATED.addr := by
  have hlow := Fld.offEn_low hf
  simp only [Fld.at, F.MTX_STAT_GATED]
  omega

/-- Blocks in which every field that EN leaves alone reads the same. -/
def SameFields (b b' : Block) : Prop := ∀ f : Fld, f.offEn → ∀ i j k, b'.get f i j k = b.get f i j k

variable {b b' : Block} (h : SameFields b b')
include h

theorem SameFields.on {f : Fld} (hf : f.offEn) (i j k : Nat) : b'.on f i j k = b.on f i j k := by
  rw [Block.on, Block.on, h f hf]

theorem SameFields.runningSources : runningSources b' = runningSources b := by
  unfold Machine.runningSources Block.srcRuns
  simp only [h.on (f := F.LAD_SRC_STAT_RUN) (by decide)]

theorem SameFields.transport (s : Nat) : b'.transport s = b.transport s := h _ (by decide) ..

/-- A ring's decoder is the same. -/
theorem SameFields.ringDecoded (n : Nat) : ringDecoded b' n = ringDecoded b n := by
  unfold Machine.ringDecoded
  simp only [h.runningSources, h.transport, h F.LAD_SRC_CTL_PATHS (by decide), h F.LAD_SRC_RING_RING_A (by decide),
    h F.LAD_SRC_RING_RING_B (by decide)]

theorem SameFields.pixelRate : pixelRate b' = pixelRate b := by
  funext extra s
  simp only [Machine.pixelRate, Block.srcWidth, Block.srcHeight, h F.LAD_SRC_FMT_WIDTH (by decide),
    h F.LAD_SRC_FMT_HEIGHT (by decide), h F.LAD_SRC_FMT2_RATE_NUM (by decide), h F.LAD_SRC_FMT2_RATE_DEN (by decide)]

theorem SameFields.engineSources : engineSources b' = engineSources b := by
  funext e l
  simp only [Machine.engineSources, h.transport, h F.LAD_SRC_DEC_ENGINE (by decide)]

theorem SameFields.poolTooSmall (s : Nat) : poolTooSmall b' s = poolTooSmall b s := by
  simp only [Machine.poolTooSmall, storedRowSize, Block.poolOf, Block.poolCount, Block.poolPitch, Block.srcWidth,
    Block.srcHeight, h.transport, h F.LAD_SRC_CTL_POOL (by decide), h F.LAD_SRC_FMT_WIDTH (by decide),
    h F.LAD_SRC_FMT_HEIGHT (by decide), h F.LAD_POOL_GEOM_COUNT (by decide), h F.LAD_POOL_CFG_PITCH (by decide),
    h F.LAD_POOL_GEOM_BUF_SIZE (by decide), h.on (f := F.LAD_SRC_DEC_LAYOUT) (by decide)]
  rfl

/-- An enable is refused or not for the same reason. -/
theorem SameFields.srcRefusal (s : Nat) : srcRefusal b' s = srcRefusal b s := by
  simp only [Machine.srcRefusal, uncompressedLoad, admittedLoad, Block.poolOf, h.runningSources, h.transport, h.pixelRate,
    h.engineSources, h.poolTooSmall, h F.LAD_SRC_CTL_PATHS (by decide), h F.LAD_SRC_FMT2_RATE_NUM (by decide),
    h F.LAD_SRC_FMT2_RATE_DEN (by decide), h F.LAD_SRC_DEC_ENGINE (by decide), h F.LAD_SRC_DEC_CTX (by decide),
    h F.LAD_SRC_RING_RING_A (by decide), h F.LAD_SRC_RING_RING_B (by decide), h F.LAD_SRC_CTL_POOL (by decide),
    h.on (f := F.DEC_CTX_CFG_STREAM) (by decide)]
  rfl

end Same

/-! ## The control register of a source -/

section Control

theorem ctl_triggers : Rg.LAD_SRC_CTL.TriggersLadle :=
  ⟨rfl, by decide, rfl, rfl, rfl, by decide, by decide⟩

set_option maxRecDepth 8000 in
theorem regAt_srcCtl : ∀ src : Src, regAt (F.LAD_SRC_CTL_EN.at src.val) = some (Rg.LAD_SRC_CTL, [src.val]) := by decide

variable (s : State) (dt : Nat) (cls : Cls) (src : Src) (en : Bool)

/-- The word written: EN changed, the other fields as last written. -/
def enWord (s : State) (src : Src) (en : Bool) : Word :=
  F.LAD_SRC_CTL_EN.into (s.blk.reg (F.LAD_SRC_CTL_EN.at src.val) &&& 0x3FFFFF) (b2n en)

/-- The blocks at which a write of a source's EN acts. -/
def State.srcStored : Block :=
  (s.opened dt cls.val).ladStored Rg.LAD_SRC_CTL (F.LAD_SRC_CTL_EN.at src.val) (enWord s src en)

/-- The write changes no locked field. -/
theorem enWord_agrees :
    (enWord s src en ^^^ (s.blk.reg (F.LAD_SRC_CTL_EN.at src.val) &&& storeMask Rg.LAD_SRC_CTL)) &&&
      BitVec.ofNat 32 Rg.LAD_SRC_CTL.s = 0#32 := by
  have hmask : storeMask Rg.LAD_SRC_CTL = 0x3FFFFF := by decide
  rw [hmask]
  ext i hi
  by_cases h0 : i = 0
  · subst h0
    simp [Rg.LAD_SRC_CTL]
  · have hsame : (enWord s src en)[i] = (s.blk.reg (F.LAD_SRC_CTL_EN.at src.val) &&& 0x3FFFFF)[i] :=
      Fld.getElem_into (by unfold Fld.fits; decide) _ _ hi (.inr (by simp only [F.LAD_SRC_CTL_EN]; omega))
    rw [BitVec.getElem_and, BitVec.getElem_xor, hsame, Bool.xor_self, Bool.false_and]
    simp

theorem srcCtl_at : F.LAD_SRC_CTL_EN.at src.val = 0x184000 + 0x40 * src.val := by
  simp only [Fld.at, F.LAD_SRC_CTL_EN]
  omega

/-- All other registers but the status of the matrix ports stay. -/
theorem srcStored_reg {a : Nat} (ha : a ≠ F.LAD_SRC_CTL_EN.at src.val) (hg : a ≠ F.MTX_STAT_GATED.addr) :
    (s.srcStored dt cls src en).reg a = s.blk.reg a :=
  (Block.reg_setReg_of_ne _ _ (Ne.symm ha)).trans
    ((Block.reg_setReg_of_ne _ _ (Ne.symm ha)).trans (portOpen_reg _ _ _ _ hg))

/-- A field of the control register reads as written. -/
theorem srcStored_ctl {f : Fld} (hf : f.fits) (hm : f.of 0x3FFFFF = 2 ^ f.width - 1)
    {i j k : Nat} (ha : f.at i j k = F.LAD_SRC_CTL_EN.at src.val) :
    (s.srcStored dt cls src en).get f i j k = f.of (enWord s src en) := by
  rw [Block.get, ha]
  refine (congrArg f.of (Block.reg_setReg_same _ _ _)).trans ?_
  exact Fld.of_merge hf hm _ _

theorem srcStored_en : (s.srcStored dt cls src en).on F.LAD_SRC_CTL_EN src.val = en := by
  have hfits : F.LAD_SRC_CTL_EN.fits := by unfold Fld.fits; decide
  rw [Block.on, srcStored_ctl s dt cls src en hfits (by decide) rfl, enWord, Fld.of_into _ hfits]
  cases en <;> rfl

theorem srcStored_same : SameFields s.blk (s.srcStored dt cls src en) := by
  intro f hf i j k
  have hlow := Fld.offEn_low hf
  have hgate := Fld.offEn_gate hf i j k
  by_cases ha : f.at i j k = F.LAD_SRC_CTL_EN.at src.val
  case neg => rw [Block.get, Block.get, srcStored_reg s dt cls src en ha hgate]
  case pos =>
    have hsum : f.addr + i * f.si + j * f.sj + k * f.sk = 0x184000 + 0x40 * src.val := ha.trans (srcCtl_at src)
    have hsrc := src.isLt
    rcases hf with hfar | ⟨-, hhi, hi, hj, hk, hother | ⟨hl, hfits, hm⟩⟩
    · omega
    · rw [hi, hj, hk] at hsum
      omega
    · rw [srcStored_ctl s dt cls src en hfits hm ha, enWord,
        F.LAD_SRC_CTL_EN.of_into_apart f (by unfold Fld.fits; decide) (.inl hl), Fld.of_and hfits hm, Block.get, ha]

/-- A write of EN starts the source or stops it. -/
theorem writeField_srcEn (hw : Writable s cls (F.LAD_SRC_CTL_EN.at src.val)) (hc : Calm s 24) :
    s.writeField dt cls F.LAD_SRC_CTL_EN (b2n en) src.val =
      .next (s.answers dt (shareSync (s.pass dt).clk s.mem
        (if en then srcEnable (s.pass dt).clk src.val (s.srcStored dt cls src en)
          else srcDisable (s.pass dt).clk src.val (s.srcStored dt cls src en)))) := by
  have hctl := srcCtl_at src
  have hp : F.LAD_SRC_CTL_EN.at src.val / 0x10000 = 24 := by omega
  have h4 : F.LAD_SRC_CTL_EN.at src.val % 4 = 0 := by omega
  have hon := srcStored_en s dt cls src en
  rw [writeField_ladles _ _ hw hc hp h4 (regAt_srcCtl src)]
  refine (writeAt_ladles (enWord s src en) hw hc hp h4 (regAt_srcCtl src) ctl_triggers (enWord_agrees s src en)).trans ?_
  refine congrArg (fun b => Host.Outcome.next (s.answers dt b)) ?_
  calc _ = shareSync (s.pass dt).clk s.mem (if (s.srcStored dt cls src en).on F.LAD_SRC_CTL_EN src.val then
        srcEnable (s.pass dt).clk src.val (s.srcStored dt cls src en)
        else srcDisable (s.pass dt).clk src.val (s.srcStored dt cls src en)) := rfl
    _ = _ := by rw [hon]

theorem exec_sourceEnable (hw : Writable s cls (F.LAD_SRC_CTL_EN.at src.val)) (hc : Calm s 24) :
    exec (.sourceEnable dt cls src) s = .next (s.answers dt (shareSync (s.pass dt).clk s.mem
      (srcEnable (s.pass dt).clk src.val (s.srcStored dt cls src true)))) := by
  have hwrite := writeField_srcEn s dt cls src true hw hc
  rw [if_pos rfl] at hwrite
  exact hwrite

theorem exec_sourceDisable (hw : Writable s cls (F.LAD_SRC_CTL_EN.at src.val)) (hc : Calm s 24) :
    exec (.sourceDisable dt cls src) s = .next (s.answers dt (shareSync (s.pass dt).clk s.mem
      (srcDisable (s.pass dt).clk src.val (s.srcStored dt cls src false)))) := by
  have hwrite := writeField_srcEn s dt cls src false hw hc
  rw [if_neg Bool.false_ne_true] at hwrite
  exact hwrite

end Control

/-! ## The TAIL of a ring -/

section Tail

theorem tail_triggers : Rg.LAD_RING_TAIL.TriggersLadle :=
  ⟨rfl, by decide, rfl, rfl, rfl, by decide, by decide⟩

set_option maxRecDepth 8000 in
theorem regAt_ringTail : ∀ ring : Fin 256, regAt (F.LAD_RING_TAIL_TAIL.at ring.val) = some (Rg.LAD_RING_TAIL, [ring.val]) := by
  decide

variable (s : State) (dt : Nat) (cls : Cls) (ring : Fin 256) (v : Word)

/-- The blocks at which a write of a ring's TAIL acts. -/
def State.tailStored : Block := (s.opened dt cls.val).ladStored Rg.LAD_RING_TAIL (F.LAD_RING_TAIL_TAIL.at ring.val) v

theorem ringTail_at : F.LAD_RING_TAIL_TAIL.at ring.val = 0x18A014 + 0x20 * ring.val := by
  simp only [Fld.at, F.LAD_RING_TAIL_TAIL]
  omega

theorem tailStored_tail : (s.tailStored dt cls ring v).get F.LAD_RING_TAIL_TAIL ring.val = v.toNat % 2 ^ 16 := by
  have hfits : F.LAD_RING_TAIL_TAIL.fits := by unfold Fld.fits; decide
  refine (congrArg F.LAD_RING_TAIL_TAIL.of (Block.reg_setReg_same _ _ _)).trans ?_
  refine (Fld.of_merge hfits (by decide) _ _).trans ?_
  simp [Fld.of, bits, F.LAD_RING_TAIL_TAIL]

theorem opened_ringDecoded (n : Nat) : ringDecoded ((s.opened dt cls.val).store32 (F.LAD_RING_TAIL_TAIL.at ring.val) 0#32 v) n =
    ringDecoded s.blk n := by
  refine SameFields.ringDecoded (fun f hf i j k => ?_) n
  have hopen : (s.opened dt cls.val).reg (f.at i j k) = s.blk.reg (f.at i j k) := portOpen_reg _ _ _ _ (Fld.offEn_gate hf i j k)
  rw [Block.get, Block.store32, merge_zero, Block.reg_setReg]
  split
  case isTrue he => rw [he, hopen, Block.get]
  case isFalse => rw [hopen, Block.get]

/-- A write of TAIL is ignored where a decoder owns the ring, and otherwise lets the links send what they have. -/
theorem exec_ringTailWrite (hw : Writable s cls (F.LAD_RING_TAIL_TAIL.at ring.val)) (hc : Calm s 24) :
    exec (.ringTailWrite dt cls ring v) s = .next (s.answers dt
      (if ringDecoded s.blk ring.val then
        ((s.opened dt cls.val).store32 (F.LAD_RING_TAIL_TAIL.at ring.val) 0#32 v).wign (F.LAD_RING_TAIL_TAIL.at ring.val)
      else sprRings (s.pass dt).clk s.mem (s.tailStored dt cls ring v))) := by
  have htail := ringTail_at ring
  have hp : F.LAD_RING_TAIL_TAIL.at ring.val / 0x10000 = 24 := by omega
  have h4 : F.LAD_RING_TAIL_TAIL.at ring.val % 4 = 0 := by omega
  refine (writeAt_ladles v hw hc hp h4 (regAt_ringTail ring) tail_triggers (BitVec.and_zero)).trans ?_
  refine congrArg (fun b => Host.Outcome.next (s.answers dt b)) ?_
  rw [← opened_ringDecoded s dt cls ring v]
  rfl

end Tail

end Sys2Proof.Machine
end

section
/-! Sources start, are refused and stop (R91, R118, R122), and rings are released (R110). -/

namespace Sys2Proof.Machine

open Sys2Proof

/-! ## What follows from the running sources -/

section Counts

variable (b : Block)

theorem countSources_srcRegs : Block.Keeps srcRegs b (countSources b) := by
  have hload : ∀ e, F.DEC_LOAD_ADMIT.at e ∉ srcRegs := fun e => notMem_srcRegs (by decide)
  unfold countSources
  refine .trans (((Block.Keeps.refl _ b).put ?_ _).put ?_ _) (.foldl _ _ (fun e _ b => (Block.Keeps.refl _ b).put (hload e) _) _) <;>
    · rw [mem_srcRegs]
      decide

theorem bindContext_srcRegs (e k s : Nat) : Block.Keeps srcRegs b (bindContext e k s b) := by
  unfold bindContext
  extract_lets b1 b2 b3
  have hcleared : Block.Keeps srcRegs b b2 :=
    ((Block.Keeps.refl _ b).setReg (notMem_srcRegs (f := F.DEC_CTX_REF_MARK0) (by decide)) 0).setReg
      (notMem_srcRegs (f := F.DEC_CTX_ERR_CONCEAL) (by decide)) 0
  have hbound : Block.Keeps srcRegs b b3 :=
    (hcleared.put (f := F.DEC_CTX_STAT_STATE) (notMem_srcRegs (by decide)) _).put (f := F.DEC_CTX_STAT_SRC)
      (notMem_srcRegs (by decide)) _
  have hctx : Block.Keeps srcRegs b (b3.setCtx e k { src := s }) := hbound.keep rfl rfl rfl rfl
  exact hctx.put (f := F.DEC_STAT_BOUND) (notMem_srcRegs (by decide)) _

theorem mem_srcRegs_of {f : Fld} (ha : 0x184000 ≤ f.addr ∧ f.addr < 0x184040 ∧ f.si = 0x40) {s : Nat} (hs : s < 384) :
    f.at s ∈ srcRegs := by
  obtain ⟨hlo, hhi, hi⟩ := ha
  rw [mem_srcRegs, Fld.at, hi]
  omega

end Counts

/-! ## Start -/

section Start

variable {c : Clk} {s : Nat} {b : Block} (hstop : b.srcRuns s = false)
include hstop

/-- A source as it starts. -/
def freshSrc (c : Clk) : SrcSt := { lastReady := c.steady, lastA := c.steady, lastB := c.steady }

/-- What a start does to the source's registers and its merge. -/
def started (c : Clk) (s : Nat) (b : Block) : Block :=
  ((((b.flag F.LAD_SRC_STAT_RUN true s).setReg (F.LAD_SRC_LOSS_LOST.at s) 0).setSrc s (freshSrc c)).flag
    F.LAD_SRC_STAT_CAPT false s)

theorem srcEnable_starts (hr : srcRefusal b s = 0) : Block.Keeps srcRegs (started c s b) (srcEnable c s b) := by
  unfold srcEnable
  rw [if_neg (by rw [hstop]; decide)]
  dsimp only
  rw [if_neg (by rw [hr]; decide)]
  exact .trans (.ite (bindContext_srcRegs ..) (.refl _ _)) (countSources_srcRegs _)

theorem srcEnable_refused (hr : srcRefusal b s ≠ 0) :
    srcEnable c s b = srcConfigRefused s 0 (b.reg (F.LAD_SRC_CTL_EN.at s)).toNat (srcRefusal b s)
      (b.flag F.LAD_SRC_CTL_EN false s) := by
  unfold srcEnable
  rw [if_neg (by rw [hstop]; decide)]
  exact if_pos hr

omit hstop in
theorem started_runs : (started c s b).srcRuns s = true := by
  have hother : F.LAD_SRC_LOSS_LOST.at s ≠ F.LAD_SRC_STAT_RUN.at s := by
    simp only [Fld.at, F.LAD_SRC_LOSS_LOST, F.LAD_SRC_STAT_RUN]
    omega
  have hrun := Block.on_flag_same b F.LAD_SRC_STAT_RUN (by unfold Fld.fits; decide) rfl true s 0 0
  unfold Block.on at hrun
  unfold Block.srcRuns started Block.on Block.flag
  rw [Block.get_put_apart _ _ _ (by unfold Fld.fits; decide) (by unfold Fld.apart; decide), Block.get_setSrc, Block.get,
    Block.reg_setReg_of_ne _ _ hother]
  exact hrun

omit hstop in
theorem started_loss : (started c s b).reg (F.LAD_SRC_LOSS_LOST.at s) = 0 := by
  have hother : F.LAD_SRC_STAT_CAPT.at s ≠ F.LAD_SRC_LOSS_LOST.at s := by
    simp only [Fld.at, F.LAD_SRC_LOSS_LOST, F.LAD_SRC_STAT_CAPT]
    omega
  exact (Block.reg_setReg_of_ne _ _ hother).trans (Block.reg_setReg_same _ _ _)

end Start

/-! ## Stop -/

section Stop

variable {c : Clk} {s : Nat} {b : Block}

/-- What a stop shows of the source. -/
def stopShown (s : Nat) (b : Block) : Block :=
  (((((b.flag F.LAD_SRC_STAT_RUN false s).flag F.LAD_SRC_STAT_ACQ false s).flag F.LAD_SRC_STAT_PATH_A false s).flag
    F.LAD_SRC_STAT_PATH_B false s).flag F.LAD_SRC_STAT_CAPT false s).put F.LAD_SRC_STAT_CLASS 2 s

/-- A buffer of a source's pool as the source stops. -/
def stopBuf (k : Nat) (b : Block) : Block :=
  match (b.buf k).state with
  | .filling => b.setBuf k {}
  | .ready => retireBuf k b
  | _ => b

/-- The buffers of a pool as its source stops. -/
def stopBufs (p : Nat) (b : Block) : Block := (List.range 16).foldl (fun b i => stopBuf (bufKey p i) b) b

/-- All that changes is the table of buffers. -/
theorem stopBuf_same {α : Type} (g : Block → α) (hg : ∀ (b : Block) k x, g (b.setBuf k x) = g b) (k : Nat) :
    g (stopBuf k b) = g b := by
  unfold stopBuf
  split
  · exact hg ..
  · rw [retireBuf_eq]
    exact hg ..
  · rfl

theorem stopBufs_same {α : Type} (g : Block → α) (hg : ∀ (b : Block) k x, g (b.setBuf k x) = g b) (p : Nat) :
    g (stopBufs p b) = g b := by
  unfold stopBufs
  generalize List.range 16 = l
  induction l generalizing b with
  | nil => rfl
  | cons i t ih => exact ih.trans (stopBuf_same g hg _)

theorem srcDisable_stops (hrun : b.srcRuns s = true) (ht : 2 ≤ b.transport s) :
    srcDisable c s b =
      countSources ((stopShown s (freezeStop c s (stopBufs (b.poolOf s) b))).setSrc s {}) := by
  unfold srcDisable
  rw [if_neg (by rw [hrun]; decide)]
  dsimp only
  rw [if_neg (Nat.not_lt.2 ht)]
  rfl

end Stop

end Sys2Proof.Machine
end

section
/-! The commands that stop a source, that refuse its start and that release a ring (R91, R110, R118, R122). -/

namespace Sys2Proof.Machine

open Sys2Proof

section Stop

variable {c : Clk} {s : Nat} {b : Block}

/-- Two fields of one word that share no bit. -/
abbrev Fld.beside (f g : Fld) : Prop := f.lsb + f.width ≤ 32 ∧ (f.lsb + f.width ≤ g.lsb ∨ g.lsb + g.width ≤ f.lsb)

/-- A flag that is off stays off as another field of its register changes. -/
theorem off_put {f g : Fld} {v : Nat} (h : b.on f s = false) (hg : g.beside f := by decide) : (b.put g v s).on f s = false := by
  rw [Block.on, Block.get_put_apart b g f hg.1 hg.2]
  exact h

theorem off_flag {f g : Fld} (h : b.on f s = false) (hg : g.beside f := by decide) : (b.flag g false s).on f s = false :=
  off_put h hg

theorem flag_off {f : Fld} (hf : f.lsb + f.width ≤ 32 ∧ f.width = 1 := by decide) : (b.flag f false s).on f s = false :=
  Block.on_flag_same b f hf.1 hf.2 ..

theorem stopShown_run : (stopShown s b).on F.LAD_SRC_STAT_RUN s = false :=
  off_put (off_flag (off_flag (off_flag (off_flag flag_off))))

theorem stopShown_acq : (stopShown s b).on F.LAD_SRC_STAT_ACQ s = false := off_put (off_flag (off_flag (off_flag flag_off)))

theorem stopShown_pathA : (stopShown s b).on F.LAD_SRC_STAT_PATH_A s = false := off_put (off_flag (off_flag flag_off))

theorem stopShown_pathB : (stopShown s b).on F.LAD_SRC_STAT_PATH_B s = false := off_put (off_flag flag_off)

theorem stopShown_class : (stopShown s b).get F.LAD_SRC_STAT_CLASS s = 2 := Block.get_put_self _ _ (by decide) (by decide) ..

end Stop

/-! ## Refusal -/

section Refused

variable (s off value reason : Nat) (b : Block)

theorem srcConfigRefused_srcRegs : Block.Keeps srcRegs b (srcConfigRefused s off value reason b) := by
  unfold srcConfigRefused
  exact ((Block.Keeps.refl _ b).evt (by rw [mem_srcRegs]; decide)).record ..

theorem srcConfigRefused_flag : (srcConfigRefused s off value reason b).on F.LAD_EVT_CFG_ERR = true := by
  rw [srcConfigRefused, Block.on_record]
  exact Block.on_evt _ (by unfold Fld.fits; decide) rfl 0 0

theorem srcConfigRefused_event : ∃ e ∈ (srcConfigRefused s off value reason b).evq, e.code = 0x1807 ∧
    e.p0 = BitVec.ofNat 32 s ∧ e.p3 = BitVec.ofNat 32 reason := by
  rw [srcConfigRefused, Block.record_evq]
  exact ⟨_, List.mem_append_right _ (List.mem_singleton.2 rfl), rfl, rfl, rfl⟩

/-- Why an enable is refused whose transport is none or whose rate exceeds 60 Hz (R91). -/
theorem srcRefusal_of_bad {b : Block} {s : Nat} (h : 3 < b.transport s ∨ (b.get F.LAD_SRC_CTL_PATHS s ≠ 0 ∧
    60 * b.get F.LAD_SRC_FMT2_RATE_DEN s < b.get F.LAD_SRC_FMT2_RATE_NUM s)) :
    srcRefusal b s = if 3 < b.transport s then 0x05 else 0x0C := by
  unfold srcRefusal
  dsimp only
  split
  case isTrue => rfl
  case isFalse ht =>
    obtain ⟨hpaths, hrate⟩ := h.resolve_left ht
    rw [if_neg hpaths, if_pos (by simp [hrate])]

end Refused

/-! ## Rings -/

section Rings

variable (c : Clk) (m : Mem) (ring : Nat) (b : Block)

theorem ringTail_window {a : Nat} (hr : ring < 256) (ha : a ∈ ({F.LAD_RING_TAIL_TAIL.at ring} : Set Nat)) : a / 0x10000 = 0x18 := by
  rw [Set.mem_singleton_iff.1 ha]
  simp only [Fld.at, F.LAD_RING_TAIL_TAIL]
  omega

variable {ring} (hr : ring < 256)
include hr

theorem dramAccess_tail (cls part a len : Nat) (wr : Bool) (port : Nat) :
    Block.Keeps {F.LAD_RING_TAIL_TAIL.at ring} b (dramAccess c cls part a len wr port b).2 :=
  dramAccess_keeps _ _ _ _ _ _ _ _ fun a ha => by
    rw [ringTail_window ring hr ha]
    decide

omit hr in
theorem ringHead_ne_tail (n : Nat) : F.LAD_RING_HEAD_HEAD.at n ∉ ({F.LAD_RING_TAIL_TAIL.at ring} : Set Nat) := by
  simp only [Set.mem_singleton_iff, Fld.at, F.LAD_RING_HEAD_HEAD, F.LAD_RING_TAIL_TAIL]
  omega

theorem txDone_tail (n : Nat) (e : List Byte) (stamp : Option Word) :
    Block.Keeps {F.LAD_RING_TAIL_TAIL.at ring} b (txDone c n e stamp b) := by
  unfold txDone
  extract_lets head a gen
  have haccess := dramAccess_tail c b hr 5 (b.get F.LAD_RING_PART_PART n) a 32 true 15
  generalize dramAccess c 5 (b.get F.LAD_RING_PART_PART n) a 32 true 15 b = q at haccess ⊢
  obtain ⟨ok, b1⟩ := q
  exact (haccess.trans (.ite ((Block.Keeps.refl _ b1).store ..) (.refl _ b1))).put (ringHead_ne_tail n) _

/-- A link's sending moves no ring's TAIL. -/
theorem sprRing_tail (k fuel : Nat) : Block.Keeps {F.LAD_RING_TAIL_TAIL.at ring} b (sprRing c m k fuel b) := by
  induction fuel generalizing b with
  | zero => exact .refl _ b
  | succ fuel ih =>
    have hsend : ∀ f b, Block.Keeps {F.LAD_RING_TAIL_TAIL.at ring} b (sprSend k f b) := fun f b =>
      (sprSend_sends k f b).keeps fun a ha => by
        rw [ringTail_window ring hr ha]
        decide
    unfold sprRing
    extract_lets r e n a part
    split
    · exact .refl _ b
    have hentry := dramAccess_tail c b hr 5 part (b.ringBase r + 32 * b.get F.LAD_RING_HEAD_HEAD r) 32 false 15
    generalize dramAccess c 5 part (b.ringBase r + 32 * b.get F.LAD_RING_HEAD_HEAD r) 32 false 15 b = q at hentry ⊢
    obtain ⟨ok, b1⟩ := q
    dsimp only at hentry ⊢
    have hdata : Block.Keeps {F.LAD_RING_TAIL_TAIL.at ring} b
        (if ok && 0 < n && n ≤ 9216 then dramAccess c 5 part a n false 16 b1 else (false, b1)).2 := by
      split
      · exact hentry.trans (dramAccess_tail _ _ hr ..)
      · exact hentry
    generalize (if ok && 0 < n && n ≤ 9216 then dramAccess c 5 part a n false 16 b1 else (false, b1)) = q at hdata ⊢
    obtain ⟨ok', b2⟩ := q
    exact ((hdata.trans (.ite (hsend ..) (.refl _ b2))).trans (txDone_tail _ _ hr ..)).trans (ih _)

theorem sprRings_tail : Block.Keeps {F.LAD_RING_TAIL_TAIL.at ring} b (sprRings c m b) := by
  unfold sprRings
  exact .foldl _ _ (fun k _ b => sprRing_tail c m b hr ..) b

end Rings

/-! ## The commands -/

section Commands

variable {s : State} {dt : Nat} {cls : Cls} {src : Src}

theorem State.answers_src (b : Block) (k : Nat) : (s.answers dt b).blk.src k = b.src k := s.ends_src _ k

theorem State.answers_clk_kept {b : Block} (hq : s.blk.quiet = true) (hn : b.newPtp = s.blk.newPtp)
    (hc : b.clkReset = s.blk.clkReset) : (s.answers dt b).clk = (s.pass dt).clk := State.ends_clk_kept hq hn hc

theorem srcStored_runs (en : Bool) : (s.srcStored dt cls src en).srcRuns src.val = s.blk.srcRuns src.val :=
  (srcStored_same s dt cls src en).on (by decide) ..

variable (hw : Writable s cls (F.LAD_SRC_CTL_EN.at src.val)) (hc : Calm s 24) (hq : s.blk.quiet = true)
include hw hc hq

theorem sourceEnable_starts (hstop : s.blk.srcRuns src.val = false) (hr : srcRefusal s.blk src.val = 0) :
    ∃ t : State, exec (.sourceEnable dt cls src) s = .next t ∧ t.blk.srcRuns src.val = true ∧
      t.blk.reg (F.LAD_SRC_LOSS_LOST.at src.val) = 0 ∧ t.blk.src src.val = freshSrc (s.pass dt).clk ∧
      t.clk = (s.pass dt).clk := by
  have hstarts := srcEnable_starts (c := (s.pass dt).clk) ((srcStored_runs (dt := dt) (cls := cls) true).trans hstop)
    (((srcStored_same s dt cls src true).srcRefusal _).trans hr)
  have hkept := hstarts.trans (shareSync_sends (s.pass dt).clk s.mem _).srcRegs
  refine ⟨_, exec_sourceEnable s dt cls src hw hc, ?_, ?_, ?_, ?_⟩
  · rw [Block.srcRuns, State.answers_on, hkept.on (mem_srcRegs_of (by decide) src.isLt)]
    exact started_runs
  · rw [State.answers_reg, hkept.reg _ (mem_srcRegs_of (by decide) src.isLt)]
    exact started_loss
  · rw [State.answers_src, hkept.src, started, Block.src_flag, Block.src_setSrc_same]
  · exact State.answers_clk_kept hq hkept.newPtp hkept.clkReset

theorem sourceEnable_refused (hstop : s.blk.srcRuns src.val = false) (hbad : 3 < s.blk.transport src.val ∨
      (s.blk.get F.LAD_SRC_CTL_PATHS src.val ≠ 0 ∧
        60 * s.blk.get F.LAD_SRC_FMT2_RATE_DEN src.val < s.blk.get F.LAD_SRC_FMT2_RATE_NUM src.val)) :
    ∃ t : State, exec (.sourceEnable dt cls src) s = .next t ∧ t.blk.on F.LAD_SRC_CTL_EN src.val = false ∧
      t.blk.srcRuns src.val = false ∧ t.blk.on F.LAD_EVT_CFG_ERR = true ∧ t.clk = (s.pass dt).clk ∧
      ∃ e ∈ t.blk.evq, e.code = 0x1807 ∧ e.p0 = BitVec.ofNat 32 src.val ∧
        e.p3 = (if 3 < s.blk.transport src.val then 0x05 else 0x0C) := by
  have hruns := srcStored_runs (s := s) (dt := dt) (cls := cls) (src := src) true
  set b := s.srcStored dt cls src true
  have hreason : srcRefusal b src.val = if 3 < s.blk.transport src.val then 0x05 else 0x0C :=
    ((srcStored_same s dt cls src true).srcRefusal _).trans (srcRefusal_of_bad hbad)
  have hevent := srcEnable_refused (c := (s.pass dt).clk) (hruns.trans hstop) (by rw [hreason]; split <;> decide)
  have hsync := shareSync_sends (s.pass dt).clk s.mem (srcEnable (s.pass dt).clk src.val b)
  rw [hevent] at hsync
  have hkept := (srcConfigRefused_srcRegs ..).trans hsync.srcRegs
  refine ⟨_, exec_sourceEnable s dt cls src hw hc, ?_, ?_, ?_, ?_, ?_⟩ <;> rw [hevent]
  · rw [State.answers_on, hkept.on (mem_srcRegs_of (by decide) src.isLt)]
    exact flag_off
  · rw [Block.srcRuns, State.answers_on, hkept.on (mem_srcRegs_of (by decide) src.isLt), Block.on, Block.flag,
      Block.get_put_other]
    · exact hruns.trans hstop
    · simp only [Fld.at, F.LAD_SRC_CTL_EN, F.LAD_SRC_STAT_RUN]
      omega
  · rw [State.answers_on, Block.on, hsync.get (by decide)]
    exact srcConfigRefused_flag ..
  · exact State.answers_clk_kept hq hkept.newPtp hkept.clkReset
  · rw [State.answers_evq, hsync.evq]
    obtain ⟨e, he, hcode, hp0, hp3⟩ := srcConfigRefused_event src.val 0 (b.reg (F.LAD_SRC_CTL_EN.at src.val)).toNat
      (srcRefusal b src.val) (b.flag F.LAD_SRC_CTL_EN false src.val)
    refine ⟨e, he, hcode, hp0, hp3.trans ?_⟩
    rw [hreason]
    split <;> rfl

theorem sourceDisable_stops (hrun : s.blk.srcRuns src.val = true) (ht : 2 ≤ s.blk.transport src.val) :
    ∃ t : State, exec (.sourceDisable dt cls src) s = .next t ∧ t.blk.srcRuns src.val = false ∧
      t.blk.on F.LAD_SRC_STAT_ACQ src.val = false ∧ t.blk.on F.LAD_SRC_STAT_PATH_A src.val = false ∧
      t.blk.on F.LAD_SRC_STAT_PATH_B src.val = false ∧ t.blk.get F.LAD_SRC_STAT_CLASS src.val = 2 ∧
      t.blk.src src.val = {} ∧ t.clk = (s.pass dt).clk := by
  have hsame := srcStored_same s dt cls src false
  have hruns := srcStored_runs (s := s) (dt := dt) (cls := cls) (src := src) false
  set b := s.srcStored dt cls src false
  have hevent := srcDisable_stops (c := (s.pass dt).clk) (hruns.trans hrun) (by rwa [hsame.transport])
  have hfrozen := freezeStop_srcRegs (stopBufs (b.poolOf src.val) b) (s.pass dt).clk src.val
  have hkept := (countSources_srcRegs ((stopShown src.val (freezeStop (s.pass dt).clk src.val
    (stopBufs (b.poolOf src.val) b))).setSrc src.val {})).trans (shareSync_sends (s.pass dt).clk s.mem _).srcRegs
  refine ⟨_, exec_sourceDisable s dt cls src hw hc, ?_, ?_, ?_, ?_, ?_, ?_, ?_⟩ <;> rw [hevent]
  · rw [Block.srcRuns, State.answers_on, hkept.on (mem_srcRegs_of (by decide) src.isLt), Block.on_setSrc]
    exact stopShown_run
  · rw [State.answers_on, hkept.on (mem_srcRegs_of (by decide) src.isLt), Block.on_setSrc]
    exact stopShown_acq
  · rw [State.answers_on, hkept.on (mem_srcRegs_of (by decide) src.isLt), Block.on_setSrc]
    exact stopShown_pathA
  · rw [State.answers_on, hkept.on (mem_srcRegs_of (by decide) src.isLt), Block.on_setSrc]
    exact stopShown_pathB
  · rw [State.answers_get, hkept.get (mem_srcRegs_of (by decide) src.isLt), Block.get_setSrc]
    exact stopShown_class
  · rw [State.answers_src, hkept.src, Block.src_setSrc_same]
  · exact State.answers_clk_kept hq
      ((hkept.newPtp.trans hfrozen.newPtp).trans (stopBufs_same Block.newPtp (fun _ _ _ => rfl) _))
      ((hkept.clkReset.trans hfrozen.clkReset).trans (stopBufs_same Block.clkReset (fun _ _ _ => rfl) _))

end Commands

section Tails

variable {s : State} {dt : Nat} {cls : Cls} {ring : Fin 256} {v : Word} (hw : Writable s cls (F.LAD_RING_TAIL_TAIL.at ring.val))
  (hc : Calm s 24) (hq : s.blk.quiet = true)
include hw hc hq

theorem ringTailWrite_takes (hd : ringDecoded s.blk ring.val = false) :
    ∃ t : State, exec (.ringTailWrite dt cls ring v) s = .next t ∧
      t.blk.get F.LAD_RING_TAIL_TAIL ring.val = v.toNat % 2 ^ 16 ∧ t.clk = (s.pass dt).clk := by
  have hkept := sprRings_tail (s.pass dt).clk s.mem (s.tailStored dt cls ring v) ring.isLt
  have hexec := exec_ringTailWrite s dt cls ring v hw hc
  rw [if_neg (by rw [hd]; decide)] at hexec
  refine ⟨_, hexec, ?_, State.answers_clk_kept hq hkept.newPtp hkept.clkReset⟩
  rw [State.answers_get, hkept.get rfl]
  exact tailStored_tail ..

theorem ringTailWrite_ignored (hd : ringDecoded s.blk ring.val = true) :
    ∃ t : State, exec (.ringTailWrite dt cls ring v) s = .next t ∧ t.mem = s.mem ∧ t.blk.on F.LAD_EVT_WIGN = true ∧
      t.blk.reg (F.LAD_RING_TAIL_TAIL.at ring.val) = s.blk.reg (F.LAD_RING_TAIL_TAIL.at ring.val) ∧
      t.clk = (s.pass dt).clk := by
  have htail := ringTail_at ring
  have hexec := exec_ringTailWrite s dt cls ring v hw hc
  rw [if_pos hd] at hexec
  have hwign : ∀ b : Block, b.wign (F.LAD_RING_TAIL_TAIL.at ring.val) = b.evt F.LAD_EVT_WIGN := fun b => by
    have hwindow : F.LAD_RING_TAIL_TAIL.at ring.val / 0x10000 = 24 := by omega
    unfold Block.wign
    simp only [hwindow]
    rfl
  rw [hwign] at hexec
  refine ⟨_, hexec, State.ends_mem_kept hq rfl, ?_, ?_, State.answers_clk_kept hq rfl rfl⟩
  · rw [State.answers_on]
    exact Block.on_evt _ (by unfold Fld.fits; decide) rfl 0 0
  · rw [State.answers_reg, Block.reg_evt, Block.reg_put, Fld.at_zero, if_neg, Block.store32, merge_zero, Block.reg_setReg_same]
    · exact portOpen_reg _ _ _ _ (by rw [htail]; simp only [F.MTX_STAT_GATED]; omega)
    · rw [htail]
      simp only [F.LAD_EVT_WIGN]
      omega

end Tails

/-- Settles O15, command by command. -/
theorem sourcesStartStopAndReleaseRings : Obligations.SourcesStartStopAndReleaseRings := by
  intro dt cls s hc hq
  refine ⟨fun src hw => ⟨sourceEnable_starts hw hc hq, sourceEnable_refused hw hc hq, sourceDisable_stops hw hc hq⟩,
    fun ring v hw => ⟨fun hd _ => ringTailWrite_takes hw hc hq hd, ringTailWrite_ignored hw hc hq⟩⟩

end Sys2Proof.Machine
end

section
/-! The rules about the decode engines' tables, and what an access unit that leaves the Ladle leaves behind (R131, R135). -/

namespace Sys2Proof.Machine

open Sys2Proof

/-! ## The tables of contexts and engines -/

section Tables

variable (b : Block) (e k : Nat) (x : DecEng) (y : DecCtx)

@[simp] theorem Block.eng_setEng_same : (b.setEng e x).eng e = x := tget_tput_same ..
@[simp] theorem Block.get_setEng (f : Fld) (i j l : Nat) : (b.setEng e x).get f i j l = b.get f i j l := rfl
@[simp] theorem Block.get_setCtx (f : Fld) (i j l : Nat) : (b.setCtx e k y).get f i j l = b.get f i j l := rfl
@[simp] theorem Block.get_setBuf (n : Nat) (z : PoolBuf) (f : Fld) (i j l : Nat) :
    (b.setBuf n z).get f i j l = b.get f i j l := rfl
@[simp] theorem Block.eng_flag (f : Fld) (v : Bool) (i j l n : Nat) : (b.flag f v i j l).eng n = b.eng n := rfl
@[simp] theorem Block.evq_setEng : (b.setEng e x).evq = b.evq := rfl
@[simp] theorem Block.evq_tookFree : b.tookFree.evq = b.evq := rfl
@[simp] theorem Block.buf_setEng (n : Nat) : (b.setEng e x).buf n = b.buf n := rfl
@[simp] theorem Block.buf_put (f : Fld) (v i j l n : Nat) : (b.put f v i j l).buf n = b.buf n := rfl
@[simp] theorem Block.get_tookFree (f : Fld) (i j l : Nat) : b.tookFree.get f i j l = b.get f i j l := rfl

/-- A field reads no more than its width holds. -/
theorem Block.get_lt (f : Fld) (i j l : Nat) : b.get f i j l < 2 ^ f.width := bits_lt ..

end Tables

/-- Where all that an event alters lies in some windows, it touches these only. -/
theorem Block.Alters.touches {S : Set Nat} {ws : List Nat} {b b' : Block} (h : Block.Alters S b b')
    (hn : b'.newPtp = b.newPtp) (hS : ∀ a ∈ S, a / 0x10000 ∈ ws) : Block.Touches ws b b' :=
  ⟨h.stores, hn, h.clkReset, h.out, fun a ha => h.reg a fun hm => ha (hS a hm)⟩

namespace Block.Touches

variable {ws : List Nat} {b b' : Block} (h : Block.Touches ws b b')
include h

theorem setSrc (s : Nat) (x : SrcSt) : Touches ws b (b'.setSrc s x) := h.keep rfl rfl rfl rfl rfl
theorem setBuf (n : Nat) (x : PoolBuf) : Touches ws b (b'.setBuf n x) := h.keep rfl rfl rfl rfl rfl
theorem setEng (e : Nat) (x : DecEng) : Touches ws b (b'.setEng e x) := h.keep rfl rfl rfl rfl rfl
theorem tookFree : Touches ws b b'.tookFree := h.keep rfl rfl rfl rfl rfl

end Block.Touches

/-! ## FREE buffers -/

section Free

variable {b : Block} {p : Nat}

theorem Block.freeBuf_none (h : b.freeCount p = 0) : b.freeBuf p = none := by
  unfold Block.freeBuf
  rw [List.length_eq_zero_iff.1 h]

/-- Where a buffer is FREE, the choice falls on one that is. -/
theorem Block.freeBuf_some (h : b.freeCount p ≠ 0) : ∃ i ∈ b.freeBufs p, b.freeBuf p = some i := by
  have hne : b.freeBufs p ≠ [] := fun h0 => h (List.length_eq_zero_iff.2 h0)
  unfold Block.freeBuf
  split
  case h_1 h0 => exact absurd h0 hne
  case h_2 i h1 => exact ⟨i, by rw [h1]; exact List.mem_singleton_self i, rfl⟩
  case h_3 =>
    have hlt := Nat.mod_lt (Config.freeValue b.free).toNat (List.length_pos_iff.2 hne)
    exact ⟨_, List.getElem_mem hlt, List.getElem?_eq_getElem hlt⟩

theorem Block.mem_freeBufs {i : Nat} : i ∈ b.freeBufs p ↔ i < b.poolCount p ∧ (b.buf (bufKey p i)).state = .free := by
  simp [Block.freeBufs]

theorem Block.freeBufs_congr {b' : Block} (hl : b'.lad = b.lad) (hc : b'.poolCount p = b.poolCount p) :
    b'.freeBufs p = b.freeBufs p := by
  unfold Block.freeBufs
  simp only [hc, Block.buf_of_lad hl]

theorem Block.freeCount_congr {b' : Block} (hl : b'.lad = b.lad) (hc : b'.poolCount p = b.poolCount p) :
    b'.freeCount p = b.freeCount p := congrArg List.length (Block.freeBufs_congr hl hc)

end Free

/-! ## A unit leaves the Ladle -/

section Leaves

variable (c : Clk) (s n : Nat) (b : Block)

/-- A ring's release moves its TAIL only. -/
theorem ringAdvance_touches {r : Nat} (hr : r < 256) : Block.Touches [0x18] b (ringAdvance r b) := by
  have htail : F.LAD_RING_TAIL_TAIL.at r = 0x18A014 + 0x20 * r := ringTail_at ⟨r, hr⟩
  exact (Block.Touches.refl _ b).put (List.mem_singleton.2 (by omega)) _

theorem ringsAdvance_touches : Block.Touches [0x18] b (ringsAdvance s b) := by
  have hrefl : ∀ b, Block.Touches [0x18] b b := .refl _
  unfold ringsAdvance
  extract_lets b1
  have hA : Block.Touches [0x18] b b1 := .ite (ringAdvance_touches _ (Block.get_lt ..)) (hrefl b)
  exact .ite (hrefl b) (.ite (hA.trans (ringAdvance_touches _ (Block.get_lt ..))) hA)

/-- All that the release of rings changes is registers. -/
theorem ringsAdvance_same {α : Type} (g : Block → α) (hg : ∀ b : Block, ∀ f x i, g (b.put f x i) = g b) :
    g (ringsAdvance s b) = g b := by
  have hring : ∀ r b, g (ringAdvance r b) = g b := fun r b => hg ..
  have hite : ∀ (p : Bool) r b, g (if p then ringAdvance r b else b) = g b := fun p r b =>
    (apply_ite g ..).trans (ite_eq_right_iff.2 fun _ => hring r b)
  unfold ringsAdvance
  refine (apply_ite g ..).trans (ite_eq_left_iff.2 fun _ => ?_)
  exact (hite ..).trans (hite ..)

theorem consumeRings_touches (f : OpenFrame) : Block.Touches [0x18] b (consumeRings s f b) :=
  ((Block.Touches.refl _ b).setSrc s _).trans (ringsAdvance_touches ..)

theorem consumeRings_evq (f : OpenFrame) : (consumeRings s f b).evq = b.evq :=
  ringsAdvance_same _ _ Block.evq fun _ _ _ _ => rfl

theorem consumeUnit_touches : Block.Touches [0x18] b (consumeUnit c s n b) := by
  unfold consumeUnit leaveUnit
  split
  · exact .refl _ b
  · exact (consumeRings_touches ..).setSrc s _

theorem consumeUnit_evq : (consumeUnit c s n b).evq = b.evq := by
  unfold consumeUnit leaveUnit
  split
  · rfl
  · exact consumeRings_evq ..

/-- No unit of that number is left. -/
theorem consumeUnit_frames : ∀ g ∈ ((consumeUnit c s n b).src s).frames, g.number ≠ n := by
  unfold consumeUnit leaveUnit
  split
  case h_1 hnone => exact fun g hg => by simpa using List.find?_eq_none.1 hnone g hg
  case h_2 =>
    rw [Block.src_setSrc_same]
    exact fun g hg => by simpa using (List.mem_filter.1 hg).2

end Leaves

end Sys2Proof.Machine
end

section
/-! The unit that is selected is the eligible one with the smallest deadline, ties going to the lower index (R131). -/

namespace Sys2Proof.Machine

open Sys2Proof

section Select

variable {b : Block} {e k : Nat} {f : OpenFrame}

/-- The best of the contexts so far and one more. -/
def better (b : Block) (e : Nat) (best : Option (Nat × OpenFrame)) (c : Nat) : Option (Nat × OpenFrame) :=
  match eligibleUnit b e c with
  | none => best
  | some f => match best with
    | none => some (c, f)
    | some (c', f') =>
      if unitDeadline b (b.ctx e c).src f < unitDeadline b (b.ctx e c').src f' then some (c, f) else best

/-- The best of the first `n` contexts. -/
def bestBelow (b : Block) (e n : Nat) : Option (Nat × OpenFrame) := (List.range n).foldl (better b e) none

theorem selectUnit_eq : selectUnit b e = bestBelow b e 64 := rfl

theorem bestBelow_succ (n : Nat) : bestBelow b e (n + 1) = better b e (bestBelow b e n) n := by
  rw [bestBelow, List.range_succ, List.foldl_append]
  rfl

theorem better_ineligible {best : Option (Nat × OpenFrame)} {c : Nat} (h : eligibleUnit b e c = none) :
    better b e best c = best := by
  unfold better
  rw [h]

theorem better_first {c : Nat} (h : eligibleUnit b e c = some f) : better b e none c = some (c, f) := by
  unfold better
  rw [h]

theorem better_second {c c' : Nat} {f' : OpenFrame} (h : eligibleUnit b e c = some f) :
    better b e (some (c', f')) c =
      if unitDeadline b (b.ctx e c).src f < unitDeadline b (b.ctx e c').src f' then some (c, f) else some (c', f') := by
  unfold better
  rw [h]

/-- What is best below `n` is an eligible unit of a context below `n`. -/
theorem bestBelow_eligible {n c : Nat} (h : bestBelow b e n = some (c, f)) : c < n ∧ eligibleUnit b e c = some f := by
  induction n with
  | zero => exact absurd h (by simp [bestBelow])
  | succ n ih =>
    rw [bestBelow_succ] at h
    have hold : bestBelow b e n = some (c, f) → c < n + 1 ∧ eligibleUnit b e c = some f := fun h =>
      ⟨Nat.lt_succ_of_lt (ih h).1, (ih h).2⟩
    cases helig : eligibleUnit b e n with
    | none => exact hold ((better_ineligible helig).symm.trans h)
    | some g =>
      have hnew : (n, g) = (c, f) → c < n + 1 ∧ eligibleUnit b e c = some f := fun heq => by
        obtain ⟨rfl, rfl⟩ := Prod.mk.inj heq
        exact ⟨Nat.lt_succ_self _, helig⟩
      cases hbest : bestBelow b e n with
      | none => exact hnew (Option.some.inj (better_first helig ▸ hbest ▸ h))
      | some q =>
        rw [hbest, better_second helig] at h
        split at h
        · exact hnew (Option.some.inj h)
        · exact hold (hbest.trans h)

/-- From the context on that is next, it stays the best. -/
theorem bestBelow_next (h : Claims.nextUnit b e k f) {n : Nat} (hk : k < n) (hn : n ≤ 64) :
    bestBelow b e n = some (k, f) := by
  obtain ⟨-, hel, hmin⟩ := h
  induction n, hk using Nat.le_induction with
  | base =>
    rw [bestBelow_succ]
    cases hbest : bestBelow b e k with
    | none => exact better_first hel
    | some q =>
      obtain ⟨hlt, helig⟩ := bestBelow_eligible hbest
      obtain ⟨hle, htie⟩ := hmin _ _ (by omega) helig
      have hless := lt_of_le_of_ne hle fun heq => absurd (htie heq) (Nat.not_le.2 hlt)
      exact (better_second hel).trans (if_pos hless)
  | succ n _ ih =>
    rw [bestBelow_succ, ih (by omega)]
    cases helig : eligibleUnit b e n with
    | none => exact better_ineligible helig
    | some g => exact (better_second helig).trans (if_neg (Nat.not_lt.2 (hmin n g (by omega) helig).1))

theorem selectUnit_next (h : Claims.nextUnit b e k f) : selectUnit b e = some (k, f) :=
  selectUnit_eq.trans (bestBelow_next h h.1 le_rfl)

theorem selectUnit_none (h : ∀ k, k < 64 → eligibleUnit b e k = none) : selectUnit b e = none := by
  rw [selectUnit_eq, Option.eq_none_iff_forall_not_mem]
  rintro ⟨c, f⟩ hc
  obtain ⟨hlt, helig⟩ := bestBelow_eligible hc
  rw [h c hlt] at helig
  exact Option.some_ne_none f helig.symm

end Select

end Sys2Proof.Machine
end

section
/-! An engine switches to the context it decodes next and begins its unit (R131-R133, R137). -/

namespace Sys2Proof.Machine

open Sys2Proof

/-! ## The switch -/

section Switch

variable (e k : Nat) (b : Block)

/-- The registers of an engine that choosing a context alters. -/
def chosenRegs (e : Nat) : Set Nat := {F.DEC_STAT_RUN.at e, F.DEC_SWITCH_LAST.at e}

theorem stat_mem_chosenRegs : F.DEC_STAT_RUN.at e ∈ chosenRegs e := .inl rfl
theorem switch_mem_chosenRegs : F.DEC_SWITCH_LAST.at e ∈ chosenRegs e := .inr rfl

theorem stat_low : F.DEC_STAT_RUN.at e % 0x10000 < 0x1000 := by
  simp only [Fld.at, F.DEC_STAT_RUN]
  omega

theorem switch_low : F.DEC_SWITCH_LAST.at e % 0x10000 < 0x1000 := by
  simp only [Fld.at, F.DEC_SWITCH_LAST]
  omega

theorem chosenRegs_window {a : Nat} (ha : a ∈ chosenRegs e) : a / 0x10000 = 40 + e := by
  rcases ha with rfl | rfl <;> simp only [Fld.at, F.DEC_STAT_RUN, F.DEC_SWITCH_LAST] <;> omega

/-- A register of a context, or of another block, is none of them. -/
theorem notMem_chosenRegs {a : Nat} (h : a < 0x280000 ∨ 0x1000 ≤ a % 0x10000) : a ∉ chosenRegs e := by
  rintro (rfl | rfl) <;> simp only [Fld.at, F.DEC_STAT_RUN, F.DEC_SWITCH_LAST] at h <;> omega

/-- What choosing a context keeps. -/
structure Block.Chooses (e : Nat) (b b' : Block) : Prop where
  alters : Block.Alters (chosenRegs e) b b'
  newPtp : b'.newPtp = b.newPtp
  evq : b'.evq = b.evq
  lad : b'.lad = b.lad
  ctx : ∀ k, b'.ctx e k = b.ctx e k
  busy : b'.on F.DEC_STAT_BUSY e = b.on F.DEC_STAT_BUSY e

variable {e k b}

namespace Block.Chooses

variable {b' : Block}

theorem refl (e : Nat) (b : Block) : Chooses e b b := ⟨.refl _ b, rfl, rfl, rfl, fun _ => rfl, rfl⟩

/-- A field of these registers whose put leaves BUSY alone. -/
theorem put (h : Chooses e b b') {f : Fld} (hf : f.at e ∈ chosenRegs e) (x : Nat)
    (hb : (b'.put f x e).get F.DEC_STAT_BUSY e = b'.get F.DEC_STAT_BUSY e) : Chooses e b (b'.put f x e) :=
  ⟨h.alters.put hf x, h.newPtp, h.evq, h.lad, h.ctx, (congrArg (· == 1) hb).trans h.busy⟩

theorem trans {b'' : Block} (h : Chooses e b b') (h' : Chooses e b' b'') : Chooses e b b'' :=
  ⟨h.alters.trans h'.alters, h'.newPtp.trans h.newPtp, h'.evq.trans h.evq, h'.lad.trans h.lad,
    fun k => (h'.ctx k).trans (h.ctx k), h'.busy.trans h.busy⟩

theorem fresh (h : Chooses e b b') : Chooses e b b'.fresh.2 :=
  ⟨h.alters.keep rfl rfl rfl rfl, h.newPtp, h.evq, h.lad, h.ctx, h.busy⟩

theorem setEng (h : Chooses e b b') (x : DecEng) : Chooses e b (b'.setEng e x) :=
  ⟨h.alters.keep rfl rfl rfl rfl, h.newPtp, h.evq, h.lad, h.ctx, h.busy⟩

/-- A context's record that is put back as it is. -/
theorem setCtx (h : Chooses e b b') (k : Nat) : Chooses e b (b'.setCtx e k (b'.ctx e k)) := by
  refine ⟨h.alters.keep rfl rfl rfl rfl, h.newPtp, h.evq, h.lad, fun j => ?_, h.busy⟩
  refine Eq.trans (tget_tput ..) ?_
  split
  case isTrue hj =>
    obtain rfl : k = j := by omega
    exact h.ctx k
  case isFalse => exact h.ctx j

end Block.Chooses

/-- The registers of the engine's last and longest switch. -/
def switchShown (e t : Nat) (b : Block) : Block :=
  let b := b.put F.DEC_SWITCH_LAST t e
  b.put F.DEC_SWITCH_MAX (max t (b.get F.DEC_SWITCH_MAX e)) e

theorem switch_ne_stat : F.DEC_SWITCH_LAST.at e ≠ F.DEC_STAT_RUN.at e := by
  simp only [Fld.at, F.DEC_SWITCH_LAST, F.DEC_STAT_RUN]
  omega

theorem switchTo_last (h : (b.eng e).last = some k) : switchTo e k b = (0, b) := if_pos h

/-- A switch to another context takes a free time within its bound. -/
theorem switchTo_other (h : (b.eng e).last ≠ some k) : ∃ t ≤ switchBound b e k,
    switchTo e k b = (t, (switchShown e t b.fresh.2).setEng e { (switchShown e t b.fresh.2).eng e with last := some k }) :=
  ⟨_, Nat.lt_succ_iff.1 (Nat.mod_lt _ (Nat.succ_pos _)), if_neg h⟩

theorem switchShown_last {t : Nat} (ht : t < 2 ^ 16) : (switchShown e t b).get F.DEC_SWITCH_LAST e = t :=
  (Block.get_put_apart _ _ _ (by unfold Fld.fits; decide) (by unfold Fld.apart; decide) ..).trans
    (Block.get_put_self _ _ (by decide) ht ..)

theorem switchTo_chooses : Block.Chooses e b (switchTo e k b).2 := by
  by_cases h : (b.eng e).last = some k
  case pos =>
    rw [switchTo_last h]
    exact .refl e b
  case neg =>
    obtain ⟨t, -, hq⟩ := switchTo_other h
    rw [hq]
    have hlast := (Block.Chooses.refl e b).fresh.put (f := F.DEC_SWITCH_LAST) (switch_mem_chosenRegs e) t
      (Block.get_put_other _ _ _ _ _ _ _ _ _ _ switch_ne_stat)
    have hshown : Block.Chooses e b (switchShown e t b.fresh.2) := hlast.put (f := F.DEC_SWITCH_MAX) (switch_mem_chosenRegs e) _
      (Block.get_put_other _ _ _ _ _ _ _ _ _ _ switch_ne_stat)
    exact hshown.setEng _

/-- The time of a switch that is paid is the engine's last. -/
theorem switchTo_time (h : (b.eng e).last ≠ some k) :
    (switchTo e k b).2.get F.DEC_SWITCH_LAST e = (switchTo e k b).1 ∧ (switchTo e k b).1 ≤ switchBound b e k := by
  obtain ⟨t, ht, hq⟩ := switchTo_other h
  have hmax : switchBound b e k ≤ 20000 := Nat.min_le_left _ _
  rw [hq, Block.get_setEng]
  exact ⟨switchShown_last (by omega), ht⟩

end Switch

/-! ## The context in decode -/

section Chosen

variable (e k : Nat) (b : Block)

/-- An engine has switched to a context, which CUR_CTX names. -/
def contextChosen : Block := (switchTo e k b).2.put F.DEC_STAT_CUR_CTX k e

/-- The context goes on in RUN with what it keeps of its pictures. -/
def contextRuns : Block := (contextChosen e k b).setCtx e k ((contextChosen e k b).ctx e k)

variable {e k b}

theorem contextChosen_chooses : Block.Chooses e b (contextChosen e k b) :=
  switchTo_chooses.put (f := F.DEC_STAT_CUR_CTX) (stat_mem_chosenRegs e) _
    (Block.get_put_apart _ _ _ (by unfold Fld.fits; decide) (by unfold Fld.apart; decide) ..)

theorem contextChosen_cur (hk : k < 64) : (contextChosen e k b).get F.DEC_STAT_CUR_CTX e = k :=
  Block.get_put_self _ _ (by decide) hk ..

theorem contextChosen_last :
    (contextChosen e k b).get F.DEC_SWITCH_LAST e = (switchTo e k b).2.get F.DEC_SWITCH_LAST e :=
  Block.get_put_other _ _ _ _ _ _ _ _ _ _ switch_ne_stat.symm

theorem contextRuns_chooses : Block.Chooses e b (contextRuns e k b) := contextChosen_chooses.setCtx k

variable {b' : Block} (h : Block.Chooses e b b')
include h

theorem Block.Chooses.touches : Block.Touches [40 + e] b b' :=
  h.alters.touches h.newPtp fun _ ha => List.mem_singleton.2 (chosenRegs_window e ha)

theorem Block.Chooses.ctxState (hk : k < 64) : b'.ctxState e k = b.ctxState e k :=
  h.alters.get (notMem_chosenRegs e (by simp only [Fld.at, F.DEC_CTX_STAT_STATE]; omega))

theorem Block.Chooses.poolOf {s : Nat} (hs : s < 384) : b'.poolOf s = b.poolOf s :=
  h.alters.get (notMem_chosenRegs e (by simp only [Fld.at, F.LAD_SRC_CTL_POOL]; omega))

theorem Block.Chooses.poolCount {p : Nat} (hp : p < 2 ^ 7) : b'.poolCount p = b.poolCount p :=
  h.alters.get (notMem_chosenRegs e (by simp only [Fld.at, F.LAD_POOL_GEOM_COUNT]; omega))

end Chosen

/-! ## The unit in decode -/

section Begun

variable (c : Clk) (e k s t i n : Nat) (f : OpenFrame) (h : AuHead) (b : Block)

/-- The context's registers name the buffer and the picture in decode. -/
def unitShown : Block := ((b.put F.DEC_CTX_WM_ROWS 0 e k).put F.DEC_CTX_WM_BUF i e k).put F.DEC_CTX_FRAME_FRAME n e k

/-- The header of the buffer that a unit fills. -/
def unitBuf : PoolBuf :=
  { state := .filling, src := s, ageBase := f.ageBase, arrival := f.arrival, rtpts := f.rtpts.toNat, frame := f.number,
    cls := 0, flags := b2n f.known + 2 * b2n f.repaired + 8, rows := (b.srcHeight s + 15) / 16 }

/-- The picture in decode, begun after a switch of `t` ns. -/
def unitPic : DecPic := { ctx := k, src := s, frame := f.number, buf := i, head := h, start := c.steady + t * nsTick }

/-- The unit's buffer is taken, and its context's registers name it. -/
def unitTaken : Block :=
  unitShown e k i f.number (b.tookFree.setBuf (bufKey (b.poolOf s) i) (unitBuf s f b))

/-- The engine begins a unit in buffer `i` of its source's pool. -/
def unitBegun : Block :=
  ((unitTaken e k s i f b).setEng e { (unitTaken e k s i f b).eng e with pic := some (unitPic c k s t i f h) }).flag
    F.DEC_STAT_BUSY true e

variable {c e k s t i n f h b}

/-- A register of the engine is none of a context's. -/
theorem unitShown_get (hk : k < 64) {g : Fld} (hg : g.at e % 0x10000 < 0x1000) :
    (unitShown e k i n b).get g e = b.get g e := by
  refine (Block.get_put_other _ _ _ _ _ _ _ _ _ _ ?_).trans ((Block.get_put_other _ _ _ _ _ _ _ _ _ _ ?_).trans
    (Block.get_put_other _ _ _ _ _ _ _ _ _ _ ?_)) <;>
  · intro heq
    rw [← heq] at hg
    simp only [Fld.at, F.DEC_CTX_FRAME_FRAME, F.DEC_CTX_WM_BUF, F.DEC_CTX_WM_ROWS] at hg
    omega

theorem frame_ne_wm : F.DEC_CTX_FRAME_FRAME.at e k ≠ F.DEC_CTX_WM_ROWS.at e k := by
  simp only [Fld.at, F.DEC_CTX_FRAME_FRAME, F.DEC_CTX_WM_ROWS]
  omega

theorem wm_ne_stat : F.DEC_CTX_WM_ROWS.at e k ≠ F.DEC_STAT_BUSY.at e := by
  simp only [Fld.at, F.DEC_CTX_WM_ROWS, F.DEC_STAT_BUSY]
  omega

theorem frame_ne_stat : F.DEC_CTX_FRAME_FRAME.at e k ≠ F.DEC_STAT_BUSY.at e := by
  simp only [Fld.at, F.DEC_CTX_FRAME_FRAME, F.DEC_STAT_BUSY]
  omega

theorem unitShown_rows : (unitShown e k i n b).get F.DEC_CTX_WM_ROWS e k = 0 :=
  (Block.get_put_other _ _ _ _ _ _ _ _ _ _ frame_ne_wm).trans
    ((Block.get_put_apart _ _ _ (by unfold Fld.fits; decide) (by unfold Fld.apart; decide) ..).trans
      (Block.get_put_self _ _ (by decide) (by decide) ..))

theorem unitShown_buf (hi : i < 16) : (unitShown e k i n b).get F.DEC_CTX_WM_BUF e k = i :=
  (Block.get_put_other _ _ F.DEC_CTX_WM_BUF _ _ _ _ _ _ _ frame_ne_wm).trans
    (Block.get_put_self _ F.DEC_CTX_WM_BUF (by decide) hi e k 0)

theorem unitShown_frame : (unitShown e k i n b).get F.DEC_CTX_FRAME_FRAME e k = n % 2 ^ 32 :=
  Block.get_put_same _ F.DEC_CTX_FRAME_FRAME (by unfold Fld.fits; decide) n e k 0

theorem unitShown_touches (hk : k < 64) : Block.Touches [40 + e] b (unitShown e k i n b) := by
  refine (((Block.Touches.refl _ b).put (f := F.DEC_CTX_WM_ROWS) ?_ _).put (f := F.DEC_CTX_WM_BUF) ?_ _).put
    (f := F.DEC_CTX_FRAME_FRAME) ?_ _ <;>
  · simp only [List.mem_singleton, Fld.at, F.DEC_CTX_WM_ROWS, F.DEC_CTX_WM_BUF, F.DEC_CTX_FRAME_FRAME]
    omega

theorem unitTaken_touches (hk : k < 64) : Block.Touches [40 + e] b (unitTaken e k s i f b) :=
  ((Block.Touches.refl _ b).tookFree.setBuf _ _).trans (unitShown_touches hk)

/-- The engine's other registers, and its context's, read as the unit was taken. -/
theorem unitBegun_get {g : Fld} {j : Nat} (hg : g.at e j ≠ F.DEC_STAT_BUSY.at e ∨ F.DEC_STAT_BUSY.apart g) :
    (unitBegun c e k s t i f h b).get g e j = (unitTaken e k s i f b).get g e j := by
  unfold unitBegun Block.flag
  rcases hg with hne | hapart
  · rw [Block.get_put_other _ _ _ _ _ _ _ _ _ _ hne.symm, Block.get_setEng]
  · rw [Block.get_put_apart _ _ _ (by unfold Fld.fits; decide) hapart, Block.get_setEng]

theorem unitBegun_rows : (unitBegun c e k s t i f h b).get F.DEC_CTX_WM_ROWS e k = 0 :=
  (unitBegun_get (.inl wm_ne_stat)).trans unitShown_rows

theorem unitBegun_index (hi : i < 16) : (unitBegun c e k s t i f h b).get F.DEC_CTX_WM_BUF e k = i :=
  (unitBegun_get (g := F.DEC_CTX_WM_BUF) (.inl wm_ne_stat)).trans (unitShown_buf hi)

theorem unitBegun_frame : (unitBegun c e k s t i f h b).get F.DEC_CTX_FRAME_FRAME e k = f.number % 2 ^ 32 :=
  (unitBegun_get (.inl frame_ne_stat)).trans unitShown_frame

/-- The engine's registers but BUSY read as before. -/
theorem unitBegun_get_engine (hk : k < 64) (g : Fld) (hreg : g.at e % 0x10000 < 0x1000)
    (hg : g.at e ≠ F.DEC_STAT_BUSY.at e ∨ F.DEC_STAT_BUSY.apart g) : (unitBegun c e k s t i f h b).get g e = b.get g e := by
  rw [unitBegun_get hg, unitTaken, unitShown_get hk hreg, Block.get_setBuf, Block.get_tookFree]

theorem unitBegun_touches (hk : k < 64) : Block.Touches [40 + e] b (unitBegun c e k s t i f h b) := by
  have hstat : F.DEC_STAT_BUSY.at e / 0x10000 ∈ [40 + e] :=
    List.mem_singleton.2 (chosenRegs_window e (stat_mem_chosenRegs e))
  exact ((unitTaken_touches hk).setEng e _).flag hstat true

theorem unitBegun_busy : (unitBegun c e k s t i f h b).on F.DEC_STAT_BUSY e = true :=
  Block.on_flag_same _ _ (by unfold Fld.fits; decide) rfl ..

theorem unitBegun_eng : ((unitBegun c e k s t i f h b).eng e).pic = some (unitPic c k s t i f h) := by
  rw [unitBegun, Block.eng_flag, Block.eng_setEng_same]

theorem unitBegun_buf : (unitBegun c e k s t i f h b).buf (bufKey (b.poolOf s) i) = unitBuf s f b := by
  rw [unitBegun, Block.flag, Block.buf_put, Block.buf_setEng, unitTaken, unitShown, Block.buf_put, Block.buf_put,
    Block.buf_put, Block.buf_setBuf_same]

theorem unitBegun_evq : (unitBegun c e k s t i f h b).evq = b.evq := by
  rw [unitBegun, Block.flag_evq, Block.evq_setEng, unitTaken, unitShown, Block.put_evq, Block.put_evq, Block.put_evq,
    Block.evq_setBuf, Block.evq_tookFree]

end Begun

end Sys2Proof.Machine
end

section
/-! ACCESS_UNIT_SELECT, outcome by outcome (R131-R133, R137, R140). -/

namespace Sys2Proof.Machine

open Sys2Proof

/-! ## What the event comes to -/

section Event

variable {c : Clk} {e k : Nat} {f : OpenFrame} {h : AuHead} {b : Block}

/-- An engine that may not begin a unit, or has none to begin, does nothing. -/
theorem accessUnitSelect_idle (hidle : b.on F.DEC_STAT_RUN e = false ∨ b.on F.DEC_STAT_BUSY e = true ∨
    b.domStopping (10 + e / 2) = true ∨ ∀ k, k < 64 → eligibleUnit b e k = none) : accessUnitSelect c e h b = b := by
  unfold accessUnitSelect
  rcases hidle with hrun | hbusy | hdom | hnone
  · rw [hrun]
    rfl
  · rw [hbusy, Bool.or_true, Bool.true_or]
    rfl
  · rw [hdom, Bool.or_true]
    rfl
  · rw [selectUnit_none hnone]
    exact ite_self b

variable (hrun : b.on F.DEC_STAT_RUN e = true) (hbusy : b.on F.DEC_STAT_BUSY e = false)
  (hdom : b.domStopping (10 + e / 2) = false) (hnext : Claims.nextUnit b e k f)
include hrun hbusy hdom hnext

/-- A unit that is no entry point leaves its source undecoded while its context waits for one. -/
theorem accessUnitSelect_waits (hst : b.ctxState e k = ctxWait) (hent : h.entry = none) :
    accessUnitSelect c e h b = consumeUnit c (b.ctx e k).src f.number (contextChosen e k b) := by
  have hstate : (switchTo e k b).2.ctxState e k = ctxWait := (switchTo_chooses.ctxState hnext.1).trans hst
  have hentry : ∀ b, isEntry b e k h = false := fun b => by rw [isEntry, hent]
  unfold accessUnitSelect contextChosen
  rw [hrun, hbusy, hdom, if_neg (by decide), selectUnit_next hnext]
  simp only [hstate, hentry]
  exact if_pos rfl

/-- A unit of a context in RUN, neither an entry point nor skipped, begins where a buffer is FREE and is dropped otherwise. -/
theorem accessUnitSelect_runs (hst : b.ctxState e k = ctxRun) (hent : h.entry = none) (hrasl : (b.ctx e k).noRasl = false) :
    accessUnitSelect c e h b =
      ((contextRuns e k b).freeBuf ((contextRuns e k b).poolOf (b.ctx e k).src)).elim
        (dropUnit c e k (b.ctx e k).src f.number h.isRef (contextRuns e k b))
        fun i => unitBegun c e k (b.ctx e k).src (switchTo e k b).1 i f h (contextRuns e k b) := by
  have hstate : (switchTo e k b).2.ctxState e k = ctxRun := (switchTo_chooses.ctxState hnext.1).trans hst
  have hkept : (contextChosen e k b).ctx e k = b.ctx e k := contextChosen_chooses.ctx k
  have hwait : (decide (ctxRun = ctxWait) || decide (ctxRun = ctxRefused)) = false := by decide
  have hstarts : startsSequence h false = false := by rw [startsSequence, hent]
  have hskip : ¬((h.rasl && ((contextChosen e k b).ctx e k).noRasl) = true) := by simp [hkept, hrasl]
  unfold accessUnitSelect
  rw [hrun, hbusy, hdom, if_neg (by decide), selectUnit_next hnext]
  simp only [hstate, hent, hwait, hstarts, Bool.false_and, Bool.false_eq_true, if_false, Option.isSome_none, Bool.or_self]
  refine (if_neg hskip).trans ?_
  split
  case h_1 hnone =>
    have hfree : (contextRuns e k b).freeBuf ((contextRuns e k b).poolOf (b.ctx e k).src) = none := hnone
    rw [hfree]
    rfl
  case h_2 i hsome =>
    have hfree : (contextRuns e k b).freeBuf ((contextRuns e k b).poolOf (b.ctx e k).src) = some i := hsome
    rw [hfree]
    rfl

section Runs

variable (hst : b.ctxState e k = ctxRun) (hent : h.entry = none) (hrasl : (b.ctx e k).noRasl = false)
include hst hent hrasl

theorem accessUnitSelect_starves
    (hfree : (contextRuns e k b).freeBuf ((contextRuns e k b).poolOf (b.ctx e k).src) = none) :
    accessUnitSelect c e h b = dropUnit c e k (b.ctx e k).src f.number h.isRef (contextRuns e k b) := by
  rw [accessUnitSelect_runs hrun hbusy hdom hnext hst hent hrasl, hfree]
  rfl

theorem accessUnitSelect_begins {i : Nat}
    (hfree : (contextRuns e k b).freeBuf ((contextRuns e k b).poolOf (b.ctx e k).src) = some i) :
    accessUnitSelect c e h b = unitBegun c e k (b.ctx e k).src (switchTo e k b).1 i f h (contextRuns e k b) := by
  rw [accessUnitSelect_runs hrun hbusy hdom hnext hst hent hrasl, hfree]
  rfl

end Runs

omit hrun hbusy hdom hnext in
/-- A picture that none refers to is dropped for want of a buffer, its context going on. -/
theorem dropUnit_unreferred {s n : Nat} : dropUnit c e k s n false b =
    consumeUnit c s n ((b.evt F.DEC_EVT_STARVE e).record (inst := e) 0x2807 4 s n (b.poolCount (b.poolOf s)) 0) := rfl

end Event

/-! ## The command -/

section Command

theorem State.ends_eng (s : State) (dt : Nat) (b : Block) (e : Nat) : (s.ends dt b).blk.eng e = b.eng e := by
  rw [State.ends_blk]
  rfl

theorem State.found_ctx (s : State) (dt e k : Nat) : (s.found dt).ctx e k = s.blk.ctx e k := rfl

theorem State.found_chooses (s : State) (dt e : Nat) : Block.Chooses e s.blk (s.found dt) :=
  ⟨(Block.Alters.refl _ s.blk).keep rfl rfl rfl rfl, rfl, rfl, rfl, fun _ => rfl, rfl⟩

/-- Where no share is enabled, nothing is sent. -/
theorem shareSync_off {c : Clk} {m : Mem} {b : Block} (h : ∀ i : Fin 64, b.on F.SPR_SH_CFG_EN i.val = false) :
    shareSync c m b = b := by
  have hnone : (List.range 64).filter (b.on F.SPR_SH_CFG_EN ·) = [] :=
    List.filter_eq_nil_iff.2 fun i hi => by simp [h ⟨i, List.mem_range.1 hi⟩]
  unfold shareSync
  rw [hnone]
  rfl

variable {s : State} {dt : Nat} {eng : Eng} {head : AuHead} {k : Nat} {f : OpenFrame} (hh : s.blk.hold = .none)
  (hq : s.blk.quiet = true) (hoff : ∀ i : Fin 64, s.blk.on F.SPR_SH_CFG_EN i.val = false)

include hh hoff in
theorem exec_accessUnitSelect {b : Block} {ws : List Nat}
    (hevent : accessUnitSelect (s.pass dt).clk eng.val head (s.found dt) = b) (ht : Block.Touches ws s.blk b) (hws : 0x4C ∉ ws) :
    exec (.accessUnitSelect dt eng head) s = .next (s.ends dt b) := by
  have hshares : ∀ i : Fin 64, b.on F.SPR_SH_CFG_EN i.val = false := fun i => by
    have hwindow : F.SPR_SH_CFG_EN.at i.val / 0x10000 = 0x4C := by
      simp only [Fld.at, F.SPR_SH_CFG_EN]
      omega
    rw [ht.on _ _ _ _ (by rwa [hwindow])]
    exact hoff i
  calc exec (.accessUnitSelect dt eng head) s
      = s.run dt fun c m b => shareSync c m (accessUnitSelect c eng.val head b) := rfl
    _ = .next (s.ends dt b) := by rw [State.run_eq_ends _ _ _ hh, hevent, shareSync_off hshares]

include hh hq hoff

theorem accessUnitSelect_changes_nothing (hidle : s.blk.on F.DEC_STAT_RUN eng.val = false ∨
      s.blk.on F.DEC_STAT_BUSY eng.val = true ∨ s.blk.domStopping (10 + eng.val / 2) = true ∨
      ∀ k, k < 64 → eligibleUnit s.blk eng.val k = none) :
    ∃ t : State, exec (.accessUnitSelect dt eng head) s = .next t ∧ Claims.only s t dt [] :=
  ⟨_, exec_accessUnitSelect hh hoff (accessUnitSelect_idle (b := s.found dt) hidle) (s.found_touches dt []) List.not_mem_nil,
    ends_found_only dt hq⟩

/-- Where the event is that a unit leaves the Ladle undecoded, the engine's registers and the records are those of before. -/
theorem accessUnitSelect_consumes {src n : Nat} {b : Block}
    (hevent : accessUnitSelect (s.pass dt).clk eng.val head (s.found dt) = consumeUnit (s.pass dt).clk src n b)
    (hb : Block.Touches [40 + eng.val] s.blk b) :
    ∃ t : State, exec (.accessUnitSelect dt eng head) s = .next t ∧ t.clk = (s.pass dt).clk ∧ t.mem = s.mem ∧
      t.blk.evq = b.evq ∧
      (∀ g : Fld, g.at eng.val / 0x10000 = 40 + eng.val → t.blk.get g eng.val = b.get g eng.val) ∧
      ∀ g ∈ (t.blk.src src).frames, g.number ≠ n := by
  have hleft : Block.Touches [0x18] b (consumeUnit (s.pass dt).clk src n b) := consumeUnit_touches ..
  have htouches : Block.Touches [40 + eng.val, 0x18] s.blk (consumeUnit (s.pass dt).clk src n b) :=
    ((Block.Touches.refl _ s.blk).andThen hb (by simp)).andThen hleft (by simp)
  have hlinks : 0x4C ∉ [40 + eng.val, 0x18] := by
    rw [List.mem_cons, List.mem_singleton]
    omega
  obtain ⟨hclk, hmem, -⟩ := State.ends_within (dt := dt) hq htouches
  refine ⟨_, exec_accessUnitSelect hh hoff hevent htouches hlinks, hclk, hmem, ?_, fun g hg => ?_, ?_⟩
  · rw [State.ends_evq, consumeUnit_evq]
  · rw [State.ends_get, hleft.get]
    rw [hg, List.mem_singleton]
    omega
  · rw [State.ends_src]
    exact consumeUnit_frames _ _ _ _

variable (hrun : s.blk.on F.DEC_STAT_RUN eng.val = true) (hbusy : s.blk.on F.DEC_STAT_BUSY eng.val = false)
  (hdom : s.blk.domStopping (10 + eng.val / 2) = false) (hnext : Claims.nextUnit s.blk eng.val k f) (hent : head.entry = none)
include hrun hbusy hdom hnext hent

theorem accessUnitSelect_leaves (hst : s.blk.ctxState eng.val k = ctxWait) :
    ∃ t : State, exec (.accessUnitSelect dt eng head) s = .next t ∧ t.clk = (s.pass dt).clk ∧ t.mem = s.mem ∧
      t.blk.evq = s.blk.evq ∧ t.blk.on F.DEC_STAT_BUSY eng.val = false ∧ t.blk.get F.DEC_STAT_CUR_CTX eng.val = k ∧
      ∀ g ∈ (t.blk.src (s.blk.ctx eng.val k).src).frames, g.number ≠ f.number := by
  have hchosen : Block.Chooses eng.val s.blk (contextChosen eng.val k (s.found dt)) :=
    (s.found_chooses dt _).trans contextChosen_chooses
  have hevent := accessUnitSelect_waits (c := (s.pass dt).clk) (b := s.found dt) hrun hbusy hdom hnext hst hent
  rw [State.found_ctx] at hevent
  have hstat := chosenRegs_window eng.val (stat_mem_chosenRegs _)
  obtain ⟨t, hexec, hclk, hmem, hevq, hget, hframes⟩ := accessUnitSelect_consumes hh hq hoff hevent hchosen.touches
  refine ⟨t, hexec, hclk, hmem, hevq.trans hchosen.evq, ?_, ?_, hframes⟩
  · rw [Block.on, hget F.DEC_STAT_BUSY hstat]
    exact hchosen.busy.trans hbusy
  · rw [hget F.DEC_STAT_CUR_CTX hstat, contextChosen_cur hnext.1]

variable (hsrc : (s.blk.ctx eng.val k).src < 384) (hst : s.blk.ctxState eng.val k = ctxRun)
  (hrasl : (s.blk.ctx eng.val k).noRasl = false)
include hsrc hst hrasl

theorem accessUnitSelect_drops (hfull : s.blk.freeCount (s.blk.poolOf (s.blk.ctx eng.val k).src) = 0)
    (href : head.isRef = false) :
    ∃ t : State, exec (.accessUnitSelect dt eng head) s = .next t ∧ t.clk = (s.pass dt).clk ∧ t.mem = s.mem ∧
      t.blk.on F.DEC_EVT_STARVE eng.val = true ∧ Claims.records s t [0x2807] ∧
      t.blk.on F.DEC_STAT_BUSY eng.val = false ∧
      ∀ g ∈ (t.blk.src (s.blk.ctx eng.val k).src).frames, g.number ≠ f.number := by
  have hchosen : Block.Chooses eng.val s.blk (contextRuns eng.val k (s.found dt)) :=
    (s.found_chooses dt _).trans contextRuns_chooses
  have hnone : (contextRuns eng.val k (s.found dt)).freeBuf
      ((contextRuns eng.val k (s.found dt)).poolOf (s.blk.ctx eng.val k).src) = none := by
    rw [hchosen.poolOf hsrc]
    exact Block.freeBuf_none ((Block.freeCount_congr hchosen.lad (hchosen.poolCount (Block.get_lt ..))).trans hfull)
  have hevent := accessUnitSelect_starves (c := (s.pass dt).clk) (b := s.found dt) hrun hbusy hdom hnext hst hent hrasl hnone
  rw [State.found_ctx, href, dropUnit_unreferred] at hevent
  have hevt : F.DEC_EVT_STARVE.at eng.val / 0x10000 = 40 + eng.val := by
    simp only [Fld.at, F.DEC_EVT_STARVE]
    omega
  have hstat := chosenRegs_window eng.val (stat_mem_chosenRegs _)
  obtain ⟨t, hexec, hclk, hmem, hevq, hget, hframes⟩ := accessUnitSelect_consumes hh hq hoff hevent
    ((hchosen.touches.evt (f := F.DEC_EVT_STARVE) (List.mem_singleton.2 hevt)).record ..)
  refine ⟨t, hexec, hclk, hmem, ?_, ?_, ?_, hframes⟩
  · rw [Block.on, hget F.DEC_EVT_STARVE hevt, Block.get_record]
    exact Block.on_evt _ (by unfold Fld.fits; decide) rfl ..
  · rw [Claims.records, hevq, Block.record_codes, Block.evt_evq, hchosen.evq]
  · rw [Block.on, hget F.DEC_STAT_BUSY hstat, Block.get_record, Block.get_evt, Block.get_put_other]
    · exact hchosen.busy.trans hbusy
    · simp only [Fld.at, F.DEC_EVT_STARVE, F.DEC_STAT_BUSY]
      omega

theorem accessUnitSelect_decodes (hfree : s.blk.freeCount (s.blk.poolOf (s.blk.ctx eng.val k).src) ≠ 0)
    (hcount : s.blk.poolCount (s.blk.poolOf (s.blk.ctx eng.val k).src) ≤ 16) :
    let e := eng.val
    let b := s.blk
    let src := (b.ctx e k).src
    let pool := b.poolOf src
    ∃ (i : Nat) (t : State), exec (.accessUnitSelect dt eng head) s = .next t ∧ i < b.poolCount pool ∧
      (b.buf (bufKey pool i)).state = .free ∧ Claims.only s t dt [40 + e] ∧
      t.blk.on F.DEC_STAT_BUSY e = true ∧ t.blk.get F.DEC_STAT_CUR_CTX e = k ∧
      t.blk.get F.DEC_CTX_WM_ROWS e k = 0 ∧ t.blk.get F.DEC_CTX_WM_BUF e k = i ∧
      t.blk.get F.DEC_CTX_FRAME_FRAME e k = f.number % 2 ^ 32 ∧
      t.blk.buf (bufKey pool i) = unitBuf src f (contextRuns e k (s.found dt)) ∧
      (t.blk.eng e).pic = some (unitPic (s.pass dt).clk k src (switchTo e k (s.found dt)).1 i f head) ∧
      t.blk.get F.DEC_SWITCH_LAST e = (switchTo e k (s.found dt)).2.get F.DEC_SWITCH_LAST e := by
  intro e b src pool
  have hk : k < 64 := hnext.1
  have hchosen : Block.Chooses e b (contextRuns e k (s.found dt)) := (s.found_chooses dt _).trans contextRuns_chooses
  have hpool : (contextRuns e k (s.found dt)).poolOf src = pool := hchosen.poolOf hsrc
  have hcounts : (contextRuns e k (s.found dt)).poolCount pool = b.poolCount pool := hchosen.poolCount (Block.get_lt ..)
  obtain ⟨i, hmem, hi⟩ := Block.freeBuf_some (b := contextRuns e k (s.found dt)) (p := pool)
    (by rwa [Block.freeCount_congr hchosen.lad hcounts])
  rw [Block.freeBufs_congr hchosen.lad hcounts, Block.mem_freeBufs] at hmem
  obtain ⟨hlt, hwas⟩ := hmem
  rw [← hpool] at hi
  have hevent := accessUnitSelect_begins (c := (s.pass dt).clk) (b := s.found dt) hrun hbusy hdom hnext hst hent hrasl hi
  rw [State.found_ctx] at hevent
  have htouches := hchosen.touches.trans (unitBegun_touches (c := (s.pass dt).clk) (s := src)
    (t := (switchTo e k (s.found dt)).1) (i := i) (f := f) (h := head) hk)
  have hlinks : 0x4C ∉ [40 + e] := by
    rw [List.mem_singleton]
    omega
  refine ⟨i, _, exec_accessUnitSelect hh hoff hevent htouches hlinks, hlt, hwas,
    State.ends_only hq htouches (unitBegun_evq.trans hchosen.evq), ?_, ?_, ?_, ?_, ?_, ?_, ?_, ?_⟩
  · rw [State.ends_on]
    exact unitBegun_busy
  · rw [State.ends_get, unitBegun_get_engine hk F.DEC_STAT_CUR_CTX (stat_low e) (.inr (by unfold Fld.apart; decide)),
      contextRuns, Block.get_setCtx, contextChosen_cur hk]
  · rw [State.ends_get]
    exact unitBegun_rows
  · rw [State.ends_get]
    exact unitBegun_index (hlt.trans_le hcount)
  · rw [State.ends_get]
    exact unitBegun_frame
  · rw [State.ends_buf, ← hpool]
    exact unitBegun_buf
  · rw [State.ends_eng]
    exact unitBegun_eng
  · rw [State.ends_get, unitBegun_get_engine hk F.DEC_SWITCH_LAST (switch_low e) (.inl switch_ne_stat), contextRuns,
      Block.get_setCtx, contextChosen_last]

end Command

/-- Settles O16, outcome by outcome: the unit that is next begins, is dropped, or leaves undecoded; or nothing happens. -/
theorem unitsAreSelectedByDeadline : Obligations.UnitsAreSelectedByDeadline := by
  intro dt eng head s hh hq hoff
  refine ⟨fun hrun hbusy hdom k f hnext hrings => ⟨fun hst hent hrasl => ⟨fun hfree hcount => ?_,
    accessUnitSelect_drops hh hq hoff hrun hbusy hdom hnext hent hrings.1 hst hrasl⟩,
    fun hst hent => accessUnitSelect_leaves hh hq hoff hrun hbusy hdom hnext hent hst⟩,
    accessUnitSelect_changes_nothing hh hq hoff⟩
  obtain ⟨i, t, hexec, hlt, hwas, honly, hbusy', hcur, hrows, hbuf, hframe, hfilled, hpic, hlast⟩ :=
    accessUnitSelect_decodes hh hq hoff hrun hbusy hdom hnext hent hrings.1 hst hrasl hfree hcount
  refine ⟨i, t, hexec, hlt, hwas, honly, hbusy', hcur, hrows, hbuf, hframe, ?_, ?_, ?_, _, hpic, rfl, rfl, rfl, rfl, rfl,
    fun hsame => ?_, fun hother => ?_⟩
  · rw [hfilled]
    rfl
  · rw [hfilled]
    rfl
  · rw [hfilled]
    rfl
  · rw [unitPic, switchTo_last (b := s.found dt) hsame, Nat.zero_mul, Nat.add_zero]
  · obtain ⟨htime, hbound⟩ := switchTo_time (b := s.found dt) hother
    rw [hlast, htime]
    exact ⟨rfl, hbound⟩

end Sys2Proof.Machine
end

section
/-! A write of a register of a Crucible that stands still, with nothing waiting in its window (R14, R154, R186). -/

namespace Sys2Proof.Machine

open Sys2Proof

/-! ## Words with a field replaced -/

/-- A word is its bits within a field and those outside. -/
theorem Fld.word_ext {f : Fld} {v v' : Word} (hin : f.of v = f.of v')
    (hout : ∀ i (_ : i < 32), i < f.lsb ∨ f.lsb + f.width ≤ i → v[i] = v'[i]) : v = v' := by
  ext i hi
  by_cases h : i < f.lsb ∨ f.lsb + f.width ≤ i
  case pos => exact hout i hi h
  case neg =>
    have hbit := congrArg (fun n => n.testBit (i - f.lsb)) hin
    simp only [Fld.of, bits, Nat.testBit_mod_two_pow, Nat.testBit_div_two_pow] at hbit
    have hlt : i - f.lsb < f.width := by omega
    have hsum : i - f.lsb + f.lsb = i := by omega
    simpa [hlt, hsum, BitVec.getElem_eq_testBit_toNat] using hbit

section Into

variable {f : Fld} (hf : f.fits)
include hf

/-- Of two values put into a field the last stays. -/
theorem Fld.into_into (v : Word) (x y : Nat) : f.into (f.into v x) y = f.into v y :=
  Fld.word_ext (f := f) (by rw [Fld.of_into _ hf, Fld.of_into _ hf]) fun i hi h => by
    rw [Fld.getElem_into hf _ _ hi h, Fld.getElem_into hf _ _ hi h, Fld.getElem_into hf _ _ hi h]

/-- A field's own value changes nothing. -/
theorem Fld.into_of (v : Word) : f.into v (f.of v) = v :=
  Fld.word_ext (f := f) ((Fld.of_into _ hf _ _).trans (Nat.mod_eq_of_lt (bits_lt ..))) fun _ hi h => Fld.getElem_into hf _ _ hi h

/-- A masked write of a word with a field changed changes the field, which lies within the mask. -/
theorem Fld.merge_into {m : Word} (hm : f.of m = 2 ^ f.width - 1) (v : Word) (x : Nat) :
    merge v m (f.into (v &&& m) x) = f.into v x :=
  Fld.word_ext (f := f) (by rw [Fld.of_merge hf hm, Fld.of_into _ hf, Fld.of_into _ hf]) fun i hi h => by
    rw [getElem_merge, Fld.getElem_into hf _ _ hi h, Fld.getElem_into hf _ _ hi h, BitVec.getElem_and]
    cases m[i] <;> simp

end Into

/-- A field none of whose bits a write takes stays. -/
theorem Fld.of_merge_outside {f : Fld} (hf : f.fits) {m : Word} (hm : f.of m = 0) (v x : Word) :
    f.of (merge v m x) = f.of v := by
  refine Fld.of_congr hf fun i hi hl hu => ?_
  have hbit := congrArg (fun n => n.testBit (i - f.lsb)) hm
  simp only [Fld.of, bits, Nat.testBit_mod_two_pow, Nat.testBit_div_two_pow, Nat.zero_testBit] at hbit
  have hlt : i - f.lsb < f.width := by omega
  have hmi : m[i] = false := by simpa [hlt, Nat.sub_add_cancel hl, BitVec.getElem_eq_testBit_toNat] using hbit
  rw [getElem_merge, hmi]
  rfl

/-- A merge under a mask covers an earlier one under fewer bits. -/
theorem merge_merge {m m' : Word} (hm : m' &&& m = m') (v x : Word) : merge (merge v m' x) m x = merge v m x := by
  ext i hi
  have hbit : (m'[i] && m[i]) = m'[i] := by rw [← BitVec.getElem_and, hm]
  rw [getElem_merge, getElem_merge, getElem_merge]
  cases hi' : m[i]
  · simp_all
  · rfl

/-! ## The write -/

/-- What a row of the Crucibles must be for the write of its register to be its trigger. -/
structure RegRow.TriggersCrucible (r : RegRow) : Prop where
  multi : r.multi = .none
  act : r.act ≠ .plain
  w1c : r.w1c = 0
  f : r.f = 0
  o : r.o = 0
  writable : BitVec.ofNat 32 (r.rw ||| r.wo) ≠ 0
  window : r.addr / 0x10000 = 32
  notMould : r.addr ≠ F.CRU_M_CTL_INPUT.addr
  classes : r.rw = r.l ||| (r.s ||| r.o)

section Write

variable {r : RegRow} (ht : r.TriggersCrucible)
include ht

theorem RegRow.TriggersCrucible.addr_ne {x : Nat} (h : x / 0x10000 ≠ 32) : r.addr ≠ x := fun e => h (e ▸ ht.window)

/-- No value written to such a row is refused. -/
theorem RegRow.TriggersCrucible.fieldRules (ix : List Nat) (a : Nat) (v : Word) (b : Block) : fieldRules r ix a v b = (v, b) := by
  have h1 := ht.addr_ne (x := F.DEC_CTX_CFG_ENTRY.addr) (by decide)
  have h2 := ht.addr_ne (x := F.MEM_CFG_DENSITY.addr) (by decide)
  have h3 := ht.addr_ne (x := F.FET_HEAD_DIM_LEVEL.addr) (by decide)
  simp [Machine.fieldRules, h1, h2, h3, ht.notMould]

theorem RegRow.TriggersCrucible.writeIgnored (v : Word) : writeIgnored r v = false := by
  have h1 := ht.addr_ne (x := F.ENC_S_QP_QI.addr) (by decide)
  have h2 := ht.addr_ne (x := F.PAIR_TOKEN_WAIT_PREF.addr) (by decide)
  simp [Machine.writeIgnored, h1, h2]

/-- Nothing locks such a row's fields while what they belong to stands still. -/
theorem RegRow.TriggersCrucible.lockedBits {b : Block} {ix : List Nat} (hrun : rowRuns b r ix = false) :
    lockedBits b r ix = 0#32 := by
  have h1 := ht.addr_ne (x := Rg.DSK_KMAP.addr) (by decide)
  have h2 := ht.addr_ne (x := Rg.DSK_BL.addr) (by decide)
  simp [Machine.lockedBits, h1, h2, ht.o, hrun]

variable (c : Clk) (m : Mem) (cls : Nat) {p w : Nat} (v : Word) (mr : Option (Byte × Bool)) (b : Block) {ix : List Nat}
  (hw : 32 ≤ w) (hp : p / 0x10000 = w) (hc : ∀ q ∈ b.pendL, q.addr / 0x10000 ≠ w) (hgov : governor b p = none)
include hw hp hc hgov

theorem writeWord_crucible : writeWord c m cls r ix p [] v mr b =
    actWrite c m cls r ix p [] (BitVec.ofNat 32 (r.l ||| (r.s ||| r.o))) v mr
      (b.store32 p (BitVec.ofNat 32 (r.s ||| r.o) &&& storeMask r) v) := by
  have hpanel : isPanelField p = false := by
    simp only [isPanelField, Bool.and_eq_false_iff, decide_eq_false_iff_not]
    omega
  have hmask : fieldMask r = 0 := by simp [fieldMask, ht.multi]
  have hflush : ∀ x, flushFor c m p (b.setReg p x) = b.setReg p x := fun x => by
    simp only [flushFor, hpanel, Bool.false_eq_true, if_false, hp]
    exact takeWindow_calm _ _ _ _ (by omega) hc
  have hact : ∀ x, (decide (r.act = .plain) || (none : Option Nat).isSome || panelHolds (b.setReg p x) p) = false :=
    fun x => by simp [ht.act, panelHolds, hpanel]
  have hzero : ∀ n, ¬(0 &&& n ≠ 0) := fun n => by simp
  unfold writeWord
  simp only [hmask, if_neg (hzero _), Block.store32, if_pos ht.f, hgov, ite_self, hact, Bool.false_eq_true, if_false, hflush]

/-- A write of such a register, none of whose fields is locked, is its trigger. -/
theorem regWrite_crucible (hr : regAt p = some (r, ix)) (hrun : rowRuns b r ix = false) :
    regWrite c m cls p v mr b = actWrite c m cls r ix p [] (BitVec.ofNat 32 (r.l ||| (r.s ||| r.o))) v mr
      (b.store32 p (BitVec.ofNat 32 (r.s ||| r.o) &&& storeMask r) v) := by
  have h6 : decide (p / 0x10000 = 6) = false := decide_eq_false (by omega)
  have hclear : clearBits r p v b = b := by simp [clearBits, ht.w1c]
  have hdef : decide (r.addr = F.ETH_DEF_ACTION.addr) = false := decide_eq_false (ht.addr_ne (by decide))
  have hbad : ∀ x : Word, decide (x &&& 0#32 ≠ 0) = false := fun x => by simp
  have hlows : lowWords b r p = [] := by simp [lowWords, ht.multi]
  have hheld : decide ((0#32 : Word).toNat &&& fieldMask r ≠ 0) = false := by simp
  unfold regWrite
  simp only [h6, Bool.false_and, Bool.false_eq_true, if_false, hr, hclear, if_neg ht.writable, ht.writeIgnored, hdef,
    ht.fieldRules, ht.lockedBits hrun, BitVec.zero_and, hbad, merge_zero, ht.multi, hlows, hheld, Bool.or_self, ite_self]
  rw [← writeWord_crucible ht c m cls v mr b hw hp hc hgov]
  exact congrArg (writeWord c m cls r ix p [] v mr) b.unstaged_nil

end Write

section Commands

variable {s : State} {dt : Nat} {cls : Cls} {r : RegRow} {ix : List Nat} {n : Nat} {f : Fld} {i j : Nat}

/-- The blocks at which a write of a Crucible's field acts: the field changed, the register's other fields as last written. -/
def State.cruStored (s : State) (dt : Nat) (cls : Cls) (r : RegRow) (f : Fld) (x i j : Nat) : Block :=
  (s.opened dt cls.val).ladStored r (f.at i j) (f.into (s.blk.reg (f.at i j) &&& BitVec.ofNat 32 r.rw) x)

/-- A write of a field of a Crucible, let through while what it belongs to stands still, is its register's trigger. -/
theorem writeField_crucible (x : Nat) (hn : n < 4) (hw : Writable s cls (f.at i j)) (hc : Calm s (32 + n))
    (hp : f.at i j / 0x10000 = 32 + n) (h4 : f.at i j % 4 = 0) (hr : regAt (f.at i j) = some (r, ix))
    (ht : r.TriggersCrucible) (hgov : governor (s.opened dt cls.val) (f.at i j) = none)
    (hrun : rowRuns (s.opened dt cls.val) r ix = false) :
    s.writeField dt cls f x i j = .next (s.answers dt (actWrite (s.pass dt).clk s.mem cls r ix (f.at i j) []
      (BitVec.ofNat 32 (r.l ||| (r.s ||| r.o))) (f.into (s.blk.reg (f.at i j) &&& BitVec.ofNat 32 r.rw) x) none
      ((s.opened dt cls.val).store32 (f.at i j) (BitVec.ofNat 32 (r.s ||| r.o) &&& storeMask r)
        (f.into (s.blk.reg (f.at i j) &&& BitVec.ofNat 32 r.rw) x)))) := by
  have ha : windowAssigned (f.at i j / 0x10000) = true := by
    rw [hp]
    exact (by decide : ∀ n : Fin 4, windowAssigned (32 + n.val) = true) ⟨n, hn⟩
  obtain ⟨hL, -, -⟩ := id hc
  rw [s.writeField_open dt cls f x i j hw (by omega) ha h4, State.act_eq_ends, rwWord_found dt hc hp hr]
  refine congrArg (fun b => Host.Outcome.next (s.answers dt b)) ?_
  exact regWrite_crucible ht _ _ _ _ none (s.opened dt cls.val) (by omega) hp hL hgov hr hrun

/-- The blocks at which the write acts: but for the status of the matrix ports, the field alone is changed. -/
theorem cruStored_alters (ht : r.TriggersCrucible) (x : Nat) (hf : f.fits) (hm : f.of (BitVec.ofNat 32 r.rw) = 2 ^ f.width - 1)
    (hg : f.at i j ≠ F.MTX_STAT_GATED.addr) :
    Block.Alters {F.MTX_STAT_GATED.addr} (s.blk.put f x i j) (s.cruStored dt cls r f x i j) := by
  refine ⟨rfl, rfl, rfl, fun a ha => ?_⟩
  have hopen : ∀ a, a ≠ F.MTX_STAT_GATED.addr → (s.opened dt cls.val).reg a = s.blk.reg a :=
    fun _ => portOpen_reg _ _ _ _
  have hmask : storeMask r = BitVec.ofNat 32 r.rw := by simp [storeMask, ht.multi]
  have hall : BitVec.ofNat 32 (r.l ||| (r.s ||| r.o)) &&& storeMask r = BitVec.ofNat 32 r.rw := by
    rw [hmask, ht.classes, BitVec.and_self]
  have hsub : BitVec.ofNat 32 (r.s ||| r.o) &&& storeMask r &&& BitVec.ofNat 32 r.rw =
      BitVec.ofNat 32 (r.s ||| r.o) &&& storeMask r := by rw [hmask, BitVec.and_assoc, BitVec.and_self]
  by_cases hp : f.at i j = a
  case neg =>
    rw [State.cruStored, Block.ladStored, Block.store32, Block.store32, Block.reg_setReg_of_ne _ _ hp,
      Block.reg_setReg_of_ne _ _ hp, hopen a ha, Block.put, Block.reg_setReg_of_ne _ _ hp]
  case pos =>
    subst hp
    rw [State.cruStored, Block.ladStored, Block.store32, Block.store32, Block.reg_setReg_same, Block.reg_setReg_same, hall,
      merge_merge hsub, hopen _ hg, Fld.merge_into hf hm, Block.put, Block.reg_setReg_same]

end Commands

/-! ## The two enables -/

section Enables

variable {s : State} {dt : Nat} {cls : Cls} (cru : Cru) (slot : Fin 16)

theorem headMap_triggers : Rg.CRU_HEAD_MAP.TriggersCrucible :=
  ⟨rfl, by decide, rfl, rfl, rfl, by decide, by decide, by decide, by decide⟩

theorem wbCtl_triggers : Rg.CRU_WB_CTL.TriggersCrucible :=
  ⟨rfl, by decide, rfl, rfl, rfl, by decide, by decide, by decide, by decide⟩

theorem headMap_at : F.CRU_HEAD_MAP_EN.at cru.val slot.val = 0x200100 + 0x10000 * cru.val + 0x10 * slot.val := by
  simp only [Fld.at, F.CRU_HEAD_MAP_EN]
  omega

theorem wbCtl_at : F.CRU_WB_CTL_EN.at cru.val = 0x200600 + 0x10000 * cru.val := by
  simp only [Fld.at, F.CRU_WB_CTL_EN]
  omega

set_option maxRecDepth 8000 in
theorem regAt_headMap : ∀ (cru : Cru) (slot : Fin 16),
    regAt (F.CRU_HEAD_MAP_EN.at cru.val slot.val) = some (Rg.CRU_HEAD_MAP, [cru.val, slot.val]) := by decide

set_option maxRecDepth 8000 in
theorem regAt_wbCtl : ∀ cru : Cru, regAt (F.CRU_WB_CTL_EN.at cru.val) = some (Rg.CRU_WB_CTL, [cru.val]) := by decide

variable {cru slot}

/-- The blocks at which a slot's enable acts. -/
def State.slotStored (s : State) (dt : Nat) (cls : Cls) (cru : Cru) (slot : Fin 16) : Block :=
  s.cruStored dt cls Rg.CRU_HEAD_MAP F.CRU_HEAD_MAP_EN 1 cru.val slot.val

/-- The blocks at which a writeback's enable acts. -/
def State.wbStored (s : State) (dt : Nat) (cls : Cls) (cru : Cru) : Block :=
  s.cruStored dt cls Rg.CRU_WB_CTL F.CRU_WB_CTL_EN 1 cru.val 0

theorem slotStored_alters : Block.Alters {F.MTX_STAT_GATED.addr} (s.blk.put F.CRU_HEAD_MAP_EN 1 cru.val slot.val)
    (s.slotStored dt cls cru slot) :=
  cruStored_alters headMap_triggers 1 (by unfold Fld.fits; decide) (by decide)
    (by rw [headMap_at]; simp only [F.MTX_STAT_GATED]; omega)

theorem wbStored_alters : Block.Alters {F.MTX_STAT_GATED.addr} (s.blk.put F.CRU_WB_CTL_EN 1 cru.val)
    (s.wbStored dt cls cru) :=
  cruStored_alters wbCtl_triggers 1 (by unfold Fld.fits; decide) (by decide)
    (by rw [wbCtl_at]; simp only [F.MTX_STAT_GATED]; omega)

/-- A slot that is disabled is checked at a write of its EN. -/
theorem slotWrite_disabled {n k : Nat} {b0 b : Block} (h0 : b0.on F.CRU_HEAD_MAP_EN n k = false)
    (h : b.on F.CRU_HEAD_MAP_EN n k = true) : slotWrite n k b0 b = slotEnable n k b := by
  unfold slotWrite
  simp only [h0, h, Bool.false_eq_true, if_false, Bool.false_and, Bool.not_false, Bool.and_true, if_true]

theorem slotStored_on : (s.slotStored dt cls cru slot).on F.CRU_HEAD_MAP_EN cru.val slot.val = true := by
  rw [slotStored_alters.on (by rw [Set.mem_singleton_iff, headMap_at]; simp only [F.MTX_STAT_GATED]; omega)]
  exact Block.on_put_one _ F.CRU_HEAD_MAP_EN (by decide) rfl ..

theorem wbStored_on : (s.wbStored dt cls cru).on F.CRU_WB_CTL_EN cru.val = true := by
  rw [wbStored_alters.on (by rw [Set.mem_singleton_iff, wbCtl_at]; simp only [F.MTX_STAT_GATED]; omega)]
  exact Block.on_put_one _ F.CRU_WB_CTL_EN (by decide) rfl ..

/-- An enable of a slot that is not enabled is its check. -/
theorem exec_headSlotEnable (hw : Writable s cls (F.CRU_HEAD_MAP_EN.at cru.val slot.val)) (hc : Calm s (32 + cru.val))
    (hoff : s.blk.on F.CRU_HEAD_MAP_EN cru.val slot.val = false) :
    exec (.headSlotEnable dt cls cru slot) s =
      .next (s.answers dt (slotEnable cru.val slot.val (s.slotStored dt cls cru slot))) := by
  have hctl := headMap_at cru slot
  have hp : F.CRU_HEAD_MAP_EN.at cru.val slot.val / 0x10000 = 32 + cru.val := by omega
  have hopen : ∀ {f : Fld} {i j k : Nat}, f.at i j k ≠ F.MTX_STAT_GATED.addr →
      (s.opened dt cls.val).on f i j k = s.blk.on f i j k := fun h => (s.opened_finds dt cls.val).alters.on h
  have hen : (s.opened dt cls.val).on F.CRU_HEAD_MAP_EN cru.val slot.val = false :=
    (hopen (by rw [hctl]; simp only [F.MTX_STAT_GATED]; omega)).trans hoff
  have hruns : (s.opened dt cls.val).slotRuns cru.val slot.val = false := by simp [Block.slotRuns, hen]
  have hgov : governor (s.opened dt cls.val) (F.CRU_HEAD_MAP_EN.at cru.val slot.val) = none := by
    have h1 : (F.CRU_HEAD_MAP_EN.at cru.val slot.val % 0x10000 - 0x100) / 0x10 = slot.val := by omega
    have h2 : 0x100 ≤ F.CRU_HEAD_MAP_EN.at cru.val slot.val % 0x10000 ∧
        F.CRU_HEAD_MAP_EN.at cru.val slot.val % 0x10000 < 0x200 := by omega
    have h3 : 32 ≤ 32 + cru.val ∧ 32 + cru.val ≤ 35 := by omega
    simp [governor, hp, h1, h2, h3, slotBands, hruns]
  refine (writeField_crucible 1 cru.isLt hw hc hp (by omega) (regAt_headMap cru slot) headMap_triggers hgov hruns).trans ?_
  refine congrArg (fun b => Host.Outcome.next (s.answers dt b)) ?_
  refine slotWrite_disabled (b := s.slotStored dt cls cru slot) ?_ slotStored_on
  calc _ = (F.CRU_HEAD_MAP_EN.of (merge ((s.opened dt cls.val).reg (F.CRU_HEAD_MAP_EN.at cru.val slot.val)) 0x3F
          (F.CRU_HEAD_MAP_EN.into (s.blk.reg (F.CRU_HEAD_MAP_EN.at cru.val slot.val) &&& 0x13F) 1)) == 1) :=
        congrArg (F.CRU_HEAD_MAP_EN.of · == 1) (Block.reg_setReg_same _ _ _)
    _ = (s.opened dt cls.val).on F.CRU_HEAD_MAP_EN cru.val slot.val :=
        congrArg (· == 1) (Fld.of_merge_outside (by unfold Fld.fits; decide) (by decide) _ _)
    _ = false := hen

/-- An enable of a writeback that has stopped is its check. -/
theorem exec_writebackEnable (hw : Writable s cls (F.CRU_WB_CTL_EN.at cru.val)) (hc : Calm s (32 + cru.val))
    (hoff : s.blk.on F.CRU_WB_STAT_RUN cru.val = false) :
    exec (.writebackEnable dt cls cru) s =
      .next (s.answers dt (wbEnable (s.pass dt).clk cru.val (s.wbStored dt cls cru))) := by
  have hctl := wbCtl_at cru
  have hp : F.CRU_WB_CTL_EN.at cru.val / 0x10000 = 32 + cru.val := by omega
  have hrun : (s.opened dt cls.val).on F.CRU_WB_STAT_RUN cru.val = false :=
    ((s.opened_finds dt cls.val).alters.on (by
      simp only [Set.mem_singleton_iff, Fld.at, F.CRU_WB_STAT_RUN, F.MTX_STAT_GATED]; omega)).trans hoff
  have hgov : governor (s.opened dt cls.val) (F.CRU_WB_CTL_EN.at cru.val) = none := by
    have h1 : ¬ F.CRU_WB_CTL_EN.at cru.val % 0x10000 < 0x200 := by omega
    have h2 : ¬ F.CRU_WB_CTL_EN.at cru.val % 0x10000 < 0x500 := by omega
    have h3 : 32 ≤ 32 + cru.val ∧ 32 + cru.val ≤ 35 := by omega
    simp [governor, hp, h1, h2, h3]
  refine (writeField_crucible 1 cru.isLt hw hc hp (by omega) (regAt_wbCtl cru) wbCtl_triggers hgov hrun).trans ?_
  refine congrArg (fun b => Host.Outcome.next (s.answers dt b)) ?_
  calc _ = if (s.wbStored dt cls cru).on F.CRU_WB_CTL_EN cru.val then wbEnable (s.pass dt).clk cru.val (s.wbStored dt cls cru)
        else wbDisable cru.val (s.wbStored dt cls cru) := rfl
    _ = _ := if_pos wbStored_on

end Enables

end Sys2Proof.Machine
end

section
/-! HEAD_SLOT_ENABLE: a slot is enabled, or refused with the first limit that it breaks (R154, R155). -/

namespace Sys2Proof.Machine

open Sys2Proof

/-! ## The frame of an answer -/

section Answers

variable {s : State} {dt : Nat} {b : Block} {ws : List Nat} (hq : s.blk.quiet = true) (h : Block.Touches ws s.blk b)
include hq h

theorem State.answers_within : Claims.within s (s.answers dt b) dt ws := State.ends_within hq (h.resp _)

theorem State.answers_only (he : b.evq = s.blk.evq) : Claims.only s (s.answers dt b) dt ws := State.ends_only hq (h.resp _) he

end Answers

/-! ## The check -/

section Check

variable {b : Block} {n k : Nat}

/-- A slot whose head another drives is refused for that first. -/
theorem slotRefusal_taken (h : (b.slotOf (b.slotHead n k)).isSome = true) : (slotRefusal b n k).1 = 0x10 := by
  obtain ⟨⟨c, j⟩, hq⟩ := Option.isSome_iff_exists.1 h
  simp [slotRefusal, hq]

theorem slotRefusal_free (h : (b.slotOf (b.slotHead n k)).isSome = false) : slotRefusal b n k = slotLimit b n k := by
  have hn : b.slotOf (b.slotHead n k) = none := by simpa using h
  simp [slotRefusal, hn]

theorem slotLimit_width (h : b.slotWidth n k < 16 ∨ 4096 < b.slotWidth n k ∨ b.slotWidth n k % 2 = 1) :
    (slotLimit b n k).1 = 0x15 := by
  unfold slotLimit
  dsimp only
  rw [if_pos (by simpa [or_assoc] using h)]

theorem slotLimit_lead (hw : ¬(b.slotWidth n k < 16 ∨ 4096 < b.slotWidth n k ∨ b.slotWidth n k % 2 = 1))
    (h : b.slotLead n k = 0 ∨ 4 < b.slotLead n k ∨
      (b.fmt (b.slotHead n k)).total - (b.fmt (b.slotHead n k)).act ≤ 16 * b.slotLead n k) :
    (slotLimit b n k).1 = 0x11 := by
  unfold slotLimit
  dsimp only
  rw [if_neg (by simpa [or_assoc] using hw), if_pos (by simpa [or_assoc] using h)]

theorem offSlots_slotRefusal {b' : Block} (ha : Block.Alters offSlots b b') : slotRefusal b' n k = slotRefusal b n k := by
  simp only [slotRefusal, offSlots_slotHead ha, offSlots_slotOf ha, offSlots_slotLimit ha]

end Check

/-- The times since which the slots have been enabled, replaced. -/
def Block.setSlotSince (b : Block) (l : List (Nat × Tick)) : Block := { b with slotSince := l }

theorem Block.get_setSlotSince (b : Block) (l : List (Nat × Tick)) (f : Fld) (i j k : Nat) :
    (b.setSlotSince l).get f i j k = b.get f i j k := rfl

theorem Block.evq_setSlotSince (b : Block) (l : List (Nat × Tick)) : (b.setSlotSince l).evq = b.evq := rfl

theorem Block.Touches.setSlotSince {ws : List Nat} {b b' : Block} (h : Block.Touches ws b b') (l : List (Nat × Tick)) :
    Block.Touches ws b (b'.setSlotSince l) := h.keep rfl rfl rfl rfl rfl

/-- A slot that is accepted: since when it may compose, and no reason. -/
def Block.slotAccepted (n k : Nat) (b : Block) : Block :=
  (b.put F.CRU_HEAD_MAP_REASON 0 n k).setSlotSince (tput 0 b.slotSince (16 * n + k) b.now)

theorem slotAccepted_get (b : Block) (n k : Nat) (f : Fld) :
    (b.slotAccepted n k).get f n k = (b.put F.CRU_HEAD_MAP_REASON 0 n k).get f n k := Block.get_setSlotSince ..

theorem slotAccepted_evq (b : Block) (n k : Nat) : (b.slotAccepted n k).evq = b.evq := by
  rw [Block.slotAccepted, Block.evq_setSlotSince, Block.put_evq]

theorem slotEnable_accepted {b : Block} {n k : Nat} (h : (slotRefusal (b.flag F.CRU_HEAD_MAP_EN false n k) n k).1 = 0) :
    slotEnable n k b = b.slotAccepted n k := if_pos h

theorem slotAccepted_touches {b b' : Block} {n k : Nat} {ws : List Nat} (h : Block.Touches ws b b')
    (hf : F.CRU_HEAD_MAP_REASON.at n k / 0x10000 ∈ ws) : Block.Touches ws b (b'.slotAccepted n k) :=
  (h.put hf 0).setSlotSince _

/-! ## What the command finds -/

section Outcomes

variable {s : State} {dt : Nat} {cls : Cls} {cru : Cru} {slot : Fin 16}

theorem ctlWrite_touches {r : RegRow} {f : Fld} {x i j : Nat} {ws : List Nat} (h2 : 2 ∈ ws)
    (hf : f.at i j / 0x10000 ∈ ws) : Block.Touches ws s.blk (s.cruStored dt cls r f x i j) :=
  ((s.opened_touches dt cls.val h2).setReg hf _).setReg hf _

theorem cruStored_evq {r : RegRow} {f : Fld} {x i j : Nat} : (s.cruStored dt cls r f x i j).evq = s.blk.evq := by
  rw [State.cruStored, Block.ladStored, Block.store32, Block.store32, Block.setReg_evq, Block.setReg_evq, State.opened_evq]

theorem slotStored_touches : Block.Touches [32 + cru.val, 2] s.blk (s.slotStored dt cls cru slot) :=
  ctlWrite_touches (by simp) (by have := headMap_at cru slot; rw [List.mem_cons]; omega)

/-- The fields of HEAD_MAP apart from EN are as they were. -/
theorem slotStored_get {f : Fld} (hf : f.at cru.val slot.val = F.CRU_HEAD_MAP_EN.at cru.val slot.val)
    (hap : F.CRU_HEAD_MAP_EN.apart f) : (s.slotStored dt cls cru slot).get f cru.val slot.val = s.blk.get f cru.val slot.val := by
  rw [slotStored_alters.get (by rw [Set.mem_singleton_iff, hf, headMap_at]; simp only [F.MTX_STAT_GATED]; omega)]
  exact Block.get_put_apart _ F.CRU_HEAD_MAP_EN f (by unfold Fld.fits; decide) hap ..

/-- With EN cleared again the slot reads as before the write. -/
theorem slotStored_cleared (hoff : s.blk.on F.CRU_HEAD_MAP_EN cru.val slot.val = false) :
    Block.Alters {F.MTX_STAT_GATED.addr} s.blk
      ((s.slotStored dt cls cru slot).flag F.CRU_HEAD_MAP_EN false cru.val slot.val) := by
  have hfits : F.CRU_HEAD_MAP_EN.fits := by unfold Fld.fits; decide
  have hput := slotStored_alters (s := s) (dt := dt) (cls := cls) (cru := cru) (slot := slot)
  have hzero : F.CRU_HEAD_MAP_EN.of (s.blk.reg (F.CRU_HEAD_MAP_EN.at cru.val slot.val)) = 0 := by
    have hlt : s.blk.get F.CRU_HEAD_MAP_EN cru.val slot.val < 2 := Block.get_lt ..
    have hne : s.blk.get F.CRU_HEAD_MAP_EN cru.val slot.val ≠ 1 := by simpa [Block.on] using hoff
    have hget : s.blk.get F.CRU_HEAD_MAP_EN cru.val slot.val = 0 := by omega
    exact hget
  refine ⟨?_, ?_, ?_, fun a ha => ?_⟩
  · rw [Block.flag_stores, hput.stores, Block.put_stores]
  · rw [Block.flag_clkReset, hput.clkReset, Block.put_clkReset]
  · rw [Block.flag_out, hput.out, Block.put_out]
  rw [Block.flag, Block.reg_put]
  split
  case isFalse hp => rw [hput.reg a ha, Block.reg_put, if_neg hp]
  case isTrue hp =>
    subst hp
    rw [hput.reg _ ha, Block.reg_put, if_pos rfl, Fld.into_into hfits, show b2n false = F.CRU_HEAD_MAP_EN.of _ from hzero.symm,
      Fld.into_of hfits]

theorem slotStored_refusal (hoff : s.blk.on F.CRU_HEAD_MAP_EN cru.val slot.val = false) :
    slotRefusal ((s.slotStored dt cls cru slot).flag F.CRU_HEAD_MAP_EN false cru.val slot.val) cru.val slot.val =
      slotRefusal s.blk cru.val slot.val :=
  offSlots_slotRefusal ((slotStored_cleared hoff).mono (by
    rintro a rfl
    exact ⟨by decide, by decide, fun ⟨hpage, _, _⟩ => absurd hpage (by decide)⟩))

/-! ## The two outcomes -/

variable (hq : s.blk.quiet = true) (hw : Writable s cls (F.CRU_HEAD_MAP_EN.at cru.val slot.val)) (hc : Calm s (32 + cru.val))
  (hoff : s.blk.on F.CRU_HEAD_MAP_EN cru.val slot.val = false)
include hq hw hc hoff

theorem headSlotEnable_accepts (h : (slotRefusal s.blk cru.val slot.val).1 = 0) :
    ∃ t : State, exec (.headSlotEnable dt cls cru slot) s = .next t ∧ Claims.only s t dt [32 + cru.val, 2] ∧
      t.blk.on F.CRU_HEAD_MAP_EN cru.val slot.val = true ∧ t.blk.get F.CRU_HEAD_MAP_REASON cru.val slot.val = 0 ∧
      t.blk.slotHead cru.val slot.val = s.blk.slotHead cru.val slot.val := by
  have hat := headMap_at cru slot
  have hreason : F.CRU_HEAD_MAP_REASON.at cru.val slot.val / 0x10000 ∈ [32 + cru.val, 2] := by
    rw [show F.CRU_HEAD_MAP_REASON.at cru.val slot.val = F.CRU_HEAD_MAP_EN.at cru.val slot.val from rfl, List.mem_cons]
    omega
  have hfits : F.CRU_HEAD_MAP_REASON.fits := by unfold Fld.fits; decide
  refine ⟨_, exec_headSlotEnable hw hc hoff, ?_⟩
  rw [slotEnable_accepted (by rw [slotStored_refusal hoff]; exact h)]
  refine ⟨State.answers_only hq (slotAccepted_touches slotStored_touches hreason) ((slotAccepted_evq ..).trans cruStored_evq),
    ?_, ?_, ?_⟩
  · rw [State.answers_on, Block.on, slotAccepted_get]
    exact (congrArg (· == 1) (Block.get_put_apart _ F.CRU_HEAD_MAP_REASON F.CRU_HEAD_MAP_EN hfits
      (by unfold Fld.apart; decide) ..)).trans (slotStored_on (s := s) (dt := dt) (cls := cls))
  · rw [State.answers_get, slotAccepted_get]
    exact Block.get_put_self _ F.CRU_HEAD_MAP_REASON hfits (by decide) ..
  · rw [Block.slotHead, State.answers_get, slotAccepted_get]
    exact (Block.get_put_apart _ F.CRU_HEAD_MAP_REASON F.CRU_HEAD_MAP_HEAD hfits (by unfold Fld.apart; decide) ..).trans
      (slotStored_get rfl (by unfold Fld.apart; decide))

theorem headSlotEnable_refuses {r : Nat} (h : (slotRefusal s.blk cru.val slot.val).1 = r) (h0 : r ≠ 0) (hr : r < 32) :
    ∃ t : State, exec (.headSlotEnable dt cls cru slot) s = .next t ∧ Claims.within s t dt [32 + cru.val, 2] ∧
      Claims.records s t [0x2007] ∧ t.blk.on F.CRU_HEAD_MAP_EN cru.val slot.val = false ∧
      t.blk.get F.CRU_HEAD_MAP_REASON cru.val slot.val = r ∧ t.blk.on F.CRU_EVT_CFG_ERR cru.val = true := by
  subst h
  have hat := headMap_at cru slot
  have hmap : F.CRU_HEAD_MAP_EN.at cru.val slot.val / 0x10000 ∈ [32 + cru.val, 2] := by
    rw [List.mem_cons]
    omega
  have hevt : F.CRU_EVT_CFG_ERR.at cru.val = 0x200008 + 0x10000 * cru.val := by simp only [Fld.at, F.CRU_EVT_CFG_ERR]; omega
  have hfits : F.CRU_HEAD_MAP_REASON.fits := by unfold Fld.fits; decide
  have hapart : ∀ (b : Block) {f : Fld}, f.at cru.val slot.val = F.CRU_HEAD_MAP_EN.at cru.val slot.val →
      (b.put F.CRU_EVT_CFG_ERR 1 cru.val).get f cru.val slot.val = b.get f cru.val slot.val := fun b f hf =>
    Block.get_put_other _ F.CRU_EVT_CFG_ERR f _ _ _ _ _ _ _ (by rw [hevt, hf]; omega)
  refine ⟨_, exec_headSlotEnable hw hc hoff, ?_⟩
  rw [slotEnable, slotStored_refusal hoff, if_neg h0]
  generalize slotRefusal s.blk cru.val slot.val = q at hr
  refine ⟨State.answers_within hq
      ((((slotStored_touches.flag hmap false).put (f := F.CRU_HEAD_MAP_REASON) hmap _).evt ?_).record ..),
    ?_, ?_, ?_, ?_⟩
  · rw [hevt, List.mem_cons]
    omega
  · rw [Claims.records, State.answers_evq, slotRefuse_codes, Block.flag_evq, State.slotStored, cruStored_evq]
  · rw [State.answers_on, slotRefuse, Block.on, Block.get_record, Block.get_evt, hapart _ rfl,
      Block.get_put_apart _ F.CRU_HEAD_MAP_REASON F.CRU_HEAD_MAP_EN hfits (by unfold Fld.apart; decide)]
    exact Block.on_flag_same _ F.CRU_HEAD_MAP_EN (by unfold Fld.fits; decide) rfl false ..
  · rw [State.answers_get, slotRefuse, Block.get_record, Block.get_evt, hapart _ (f := F.CRU_HEAD_MAP_REASON) rfl]
    exact Block.get_put_self _ F.CRU_HEAD_MAP_REASON hfits hr ..
  · rw [State.answers_on, slotRefuse, Block.on, Block.get_record]
    exact Block.on_evt _ (by unfold Fld.fits; decide) rfl ..

end Outcomes

end Sys2Proof.Machine
end

section
/-! WRITEBACK_ENABLE: capture begins, or is refused (R186, R187). -/

namespace Sys2Proof.Machine

open Sys2Proof

/-! ## The check -/

theorem any_congr_mem {α : Type} {l : List α} {p q : α → Bool} (h : ∀ a ∈ l, p a = q a) : l.any p = l.any q := by
  rw [Bool.eq_iff_iff, List.any_eq_true, List.any_eq_true]
  exact exists_congr fun a => and_congr_right fun ha => by rw [h a ha]

/-- A captured slot's rectangle stands off the grid, leaves the canvas or meets another. -/
def wbMisplaced (b : Block) (n k : Nat) : Bool :=
  let q := captureRect b n k
  q.1 % 64 ≠ 0 || q.2.1 % 16 ≠ 0 || b.wbW n < q.1 + q.2.2.1 || b.wbH n < q.2.1 + q.2.2.2 ||
    (b.captured n).any fun j => j ≠ k && rectsMeet q (captureRect b n j)

/-- A pool's buffers are too narrow or too small for the canvas with its tags. -/
def wbPoolSmall (b : Block) (n : Nat) : Bool :=
  b.poolPitch (b.wbPool n) < 6 * b.wbW n || b.get F.LAD_POOL_GEOM_BUF_SIZE (b.wbPool n) * 4096 <
    4096 + b.poolPitch (b.wbPool n) * b.wbH n + 16 * (b.wbW n / 64) * (b.wbH n / 16)

theorem wbRefusal_eq (b : Block) (n : Nat) : wbRefusal b n =
    if wbPoolSmall b n then 0x20
    else if (b.captured n).any (wbMisplaced b n) then 0x21
    else if (b.captured n).any fun k => !sameTiming b (b.wbLead n) (b.slotHead n k) then 0x22
    else 0 := rfl

theorem wbRefusal_narrow {b : Block} {n : Nat} (h : b.poolPitch (b.wbPool n) < 6 * b.wbW n) : wbRefusal b n = 0x20 := by
  rw [wbRefusal_eq, if_pos (by simp [wbPoolSmall, h])]

theorem captured_lt {b : Block} {n k : Nat} (h : k ∈ b.captured n) : k < 16 :=
  List.mem_range.1 (List.mem_filter.1 (List.mem_filter.1 h).1).1

section Congr

/-- The registers that a write of a writeback's EN reaches. -/
def wbRegs (n : Nat) : Set Nat := {F.MTX_STAT_GATED.addr, F.CRU_WB_CTL_EN.at n}

theorem wbRegs_iff {n a : Nat} : a ∈ wbRegs n ↔ a = 0x20000 ∨ a = 0x200600 + 0x10000 * n := by
  have : F.CRU_WB_CTL_EN.at n = 0x200600 + 0x10000 * n := by simp only [Fld.at, F.CRU_WB_CTL_EN]; omega
  rw [wbRegs, Set.mem_insert_iff, Set.mem_singleton_iff, this]
  rfl

variable {b b' : Block} {n : Nat} (ha : Block.Alters (wbRegs n) b b') (hl : b'.get F.CRU_WB_CTL_LEAD n = b.get F.CRU_WB_CTL_LEAD n)
  (hp : b'.get F.CRU_WB_CTL_POOL n = b.get F.CRU_WB_CTL_POOL n)
include ha

/-- The fields of a slot are none of a writeback's control. -/
theorem wbRegs_slot {f : Fld} (h0 : 0x200100 ≤ f.addr) (h1 : f.addr < 0x200110) (hi : f.si = 0x10000) (hj : f.sj = 0x10) {k : Nat}
    (hk : k < 16) : b'.get f n k = b.get f n k :=
  ha.get (by rw [wbRegs_iff]; simp only [Fld.at, hi, hj]; omega)

theorem wbRegs_slotHead {k : Nat} (hk : k < 16) : b'.slotHead n k = b.slotHead n k :=
  wbRegs_slot ha (by decide) (by decide) rfl rfl hk

theorem wbRegs_captured : b'.captured n = b.captured n := by
  have hen : b'.enabledSlots n = b.enabledSlots n := List.filter_congr fun k hk =>
    congrArg (· == 1) (wbRegs_slot ha (f := F.CRU_HEAD_MAP_EN) (by decide) (by decide) rfl rfl (List.mem_range.1 hk))
  rw [Block.captured, Block.captured, hen]
  refine List.filter_congr fun k hk => congrArg (· == 1) ?_
  exact wbRegs_slot ha (by decide) (by decide) rfl rfl (List.mem_range.1 (List.mem_filter.1 hk).1)

theorem wbRegs_fmt {h : Nat} (hh : h < 64) : b'.fmt h = b.fmt h :=
  ha.fmt (fun a hm ⟨hpage, _, _⟩ => by rw [wbRegs_iff] at hm; omega) hh

theorem wbRegs_rect {k : Nat} (hk : k < 16) : captureRect b' n k = captureRect b n k := by
  rw [captureRect, captureRect, wbRegs_slotHead ha hk, wbRegs_fmt ha (Block.get_lt ..), Block.slotWidth, Block.slotWidth,
    wbRegs_slot ha (f := F.CRU_HEAD_WB_X) (by decide) (by decide) rfl rfl hk,
    wbRegs_slot ha (f := F.CRU_HEAD_WB_Y) (by decide) (by decide) rfl rfl hk,
    wbRegs_slot ha (f := F.CRU_HEAD_CFG_WIDTH) (by decide) (by decide) rfl rfl hk]

theorem wbRegs_size : b'.wbW n = b.wbW n ∧ b'.wbH n = b.wbH n := by
  refine ⟨ha.get ?_, ha.get ?_⟩ <;> rw [wbRegs_iff] <;> simp only [Fld.at, F.CRU_WB_SIZE_W, F.CRU_WB_SIZE_H] <;> omega

theorem wbRegs_misplaced {k : Nat} (hk : k < 16) : wbMisplaced b' n k = wbMisplaced b n k := by
  obtain ⟨hw, hh⟩ := wbRegs_size ha
  have hmeet : (b'.captured n).any (fun j => j ≠ k && rectsMeet (captureRect b' n k) (captureRect b' n j)) =
      (b.captured n).any fun j => j ≠ k && rectsMeet (captureRect b n k) (captureRect b n j) := by
    rw [wbRegs_captured ha]
    exact any_congr_mem fun j hj => by rw [wbRegs_rect ha hk, wbRegs_rect ha (captured_lt hj)]
  simp only [wbMisplaced, hmeet]
  rw [wbRegs_rect ha hk, hw, hh]

include hp

theorem wbRegs_poolSmall : wbPoolSmall b' n = wbPoolSmall b n := by
  obtain ⟨hw, hh⟩ := wbRegs_size ha
  have hlow : ∀ {f : Fld}, f.addr / 0x10000 = 0x18 → f.si = 0x10 → b'.get f (b.wbPool n) = b.get f (b.wbPool n) := fun hf hi =>
    ha.get (by
      have hlt : b.wbPool n < 128 := Block.get_lt ..
      rw [wbRegs_iff]
      simp only [Fld.at, hi]
      omega)
  have hpool : b'.wbPool n = b.wbPool n := hp
  rw [wbPoolSmall, wbPoolSmall, hpool, hw, hh, Block.poolPitch, Block.poolPitch, hlow (f := F.LAD_POOL_CFG_PITCH) (by decide) rfl,
    hlow (f := F.LAD_POOL_GEOM_BUF_SIZE) (by decide) rfl]

include hl

/-- An enable of a writeback is refused or not for the same reason. -/
theorem wbRegs_refusal : wbRefusal b' n = wbRefusal b n := by
  have hlead : b'.wbLead n = b.wbLead n := by
    rw [Block.wbLead, Block.wbLead, hl]
    exact wbRegs_slotHead ha (Block.get_lt ..)
  have hplace : (b'.captured n).any (wbMisplaced b' n) = (b.captured n).any (wbMisplaced b n) := by
    rw [wbRegs_captured ha]
    exact any_congr_mem fun k hk => wbRegs_misplaced ha (captured_lt hk)
  have htime : (b'.captured n).any (fun k => !sameTiming b' (b'.wbLead n) (b'.slotHead n k)) =
      (b.captured n).any fun k => !sameTiming b (b.wbLead n) (b.slotHead n k) := by
    rw [wbRegs_captured ha, hlead]
    refine any_congr_mem fun k hk => ?_
    rw [wbRegs_slotHead ha (captured_lt hk), sameTiming, sameTiming, wbRegs_fmt ha (Block.get_lt ..),
      wbRegs_fmt ha (Block.get_lt ..)]
  rw [wbRefusal_eq, wbRefusal_eq, wbRegs_poolSmall ha hp, hplace, htime]

end Congr

/-! ## The writeback's record -/

section Records

variable (b : Block) (n : Nat) (x : WbSt)

theorem Block.get_setWb (f : Fld) (i j k : Nat) : (b.setWb n x).get f i j k = b.get f i j k := rfl
theorem Block.on_setWb (f : Fld) (i j k : Nat) : (b.setWb n x).on f i j k = b.on f i j k := rfl
theorem Block.evq_setWb : (b.setWb n x).evq = b.evq := rfl

theorem Block.wb_setWb_same : (b.setWb n x).wb n = x := tget_tput_same ..

theorem Block.Touches.setWb {b b' : Block} {ws : List Nat} (h : Block.Touches ws b b') (n : Nat) (x : WbSt) :
    Block.Touches ws b (b'.setWb n x) := h.keep rfl rfl rfl rfl rfl

theorem State.ends_wb (s : State) (dt : Nat) : (s.ends dt b).blk.wb n = b.wb n := by rw [State.ends_blk]; rfl

theorem State.answers_wb (s : State) (dt : Nat) : (s.answers dt b).blk.wb n = b.wb n := by
  rw [State.answers, State.ends_wb]
  rfl

end Records

/-! ## The two outcomes -/

section Outcomes

/-- Capture refused, for a reason `r`. -/
def wbRefuse (n r : Nat) (b : Block) : Block :=
  ((b.flag F.CRU_WB_CTL_EN false n).evt F.CRU_EVT_CFG_ERR n).record (inst := n) 0x2007 3 0xFF (b.wbLead n) r
    (b.reg (F.CRU_WB_CTL_EN.at n)).toNat

/-- Capture begun, from the lead head's frame `first` on. -/
def wbStarted (n first : Nat) (b : Block) : Block :=
  ((b.flag F.CRU_WB_STAT_RUN true n).put F.CRU_WB_STAT_DROPPED 0 n).setWb n { first := first }

variable {b : Block} {n : Nat} (c : Clk) (hrun : b.on F.CRU_WB_STAT_RUN n = false)
include hrun

theorem wbEnable_refused (h : wbRefusal b n ≠ 0) : wbEnable c n b = wbRefuse n (wbRefusal b n) b := by
  unfold wbEnable
  rw [if_neg (by simp [hrun])]
  exact if_pos h

theorem wbEnable_started (h : wbRefusal b n = 0) : ∃ first, wbEnable c n b = wbStarted n first b := by
  unfold wbEnable
  rw [if_neg (by simp [hrun])]
  exact ⟨_, if_neg (by simp [h])⟩

end Outcomes

section Command

variable {s : State} {dt : Nat} {cls : Cls} {cru : Cru}

theorem wbStored_touches : Block.Touches [32 + cru.val, 2] s.blk (s.wbStored dt cls cru) :=
  ctlWrite_touches (by simp) (by have := wbCtl_at cru; rw [List.mem_cons]; omega)

theorem wbStored_reach : Block.Alters (wbRegs cru.val) s.blk (s.wbStored dt cls cru) := by
  have hput : Block.Alters (wbRegs cru.val) s.blk (s.blk.put F.CRU_WB_CTL_EN 1 cru.val) := (Block.Alters.refl _ _).put (.inr rfl) 1
  exact hput.trans (wbStored_alters.mono fun a h => .inl h)

/-- The fields of WB_CTL apart from EN are as they were. -/
theorem wbStored_get {f : Fld} (hf : f.at cru.val = F.CRU_WB_CTL_EN.at cru.val) (hap : F.CRU_WB_CTL_EN.apart f) :
    (s.wbStored dt cls cru).get f cru.val = s.blk.get f cru.val := by
  rw [wbStored_alters.get (by rw [Set.mem_singleton_iff, hf, wbCtl_at]; simp only [F.MTX_STAT_GATED]; omega)]
  exact Block.get_put_apart _ F.CRU_WB_CTL_EN f (by unfold Fld.fits; decide) hap ..

theorem wbStored_refusal : wbRefusal (s.wbStored dt cls cru) cru.val = wbRefusal s.blk cru.val :=
  wbRegs_refusal wbStored_reach (wbStored_get rfl (by unfold Fld.apart; decide)) (wbStored_get rfl (by unfold Fld.apart; decide))

theorem wbStored_run : (s.wbStored dt cls cru).on F.CRU_WB_STAT_RUN cru.val = s.blk.on F.CRU_WB_STAT_RUN cru.val :=
  wbStored_reach.on (by rw [wbRegs_iff]; simp only [Fld.at, F.CRU_WB_STAT_RUN]; omega)

variable (hq : s.blk.quiet = true) (hw : Writable s cls (F.CRU_WB_CTL_EN.at cru.val)) (hc : Calm s (32 + cru.val))
  (hoff : s.blk.on F.CRU_WB_STAT_RUN cru.val = false)
include hq hw hc hoff

theorem writebackEnable_starts (h : wbRefusal s.blk cru.val = 0) :
    ∃ t : State, exec (.writebackEnable dt cls cru) s = .next t ∧ Claims.only s t dt [32 + cru.val, 2] ∧
      t.blk.on F.CRU_WB_CTL_EN cru.val = true ∧ t.blk.on F.CRU_WB_STAT_RUN cru.val = true ∧
      t.blk.get F.CRU_WB_STAT_DROPPED cru.val = 0 ∧ (t.blk.wb cru.val).frames = [] := by
  have hat := wbCtl_at cru
  have hstat : F.CRU_WB_STAT_RUN.at cru.val = 0x200608 + 0x10000 * cru.val := by simp only [Fld.at, F.CRU_WB_STAT_RUN]; omega
  have hwin : F.CRU_WB_STAT_RUN.at cru.val / 0x10000 ∈ [32 + cru.val, 2] := by rw [List.mem_cons]; omega
  have hfits : F.CRU_WB_STAT_RUN.fits ∧ F.CRU_WB_STAT_DROPPED.fits := by unfold Fld.fits; decide
  have hkeep : ∀ (b : Block) {f : Fld} (x : Nat), f.at cru.val = F.CRU_WB_STAT_RUN.at cru.val →
      (b.put f x cru.val).get F.CRU_WB_CTL_EN cru.val = b.get F.CRU_WB_CTL_EN cru.val := fun b f x hf =>
    Block.get_put_other _ f F.CRU_WB_CTL_EN _ _ _ _ _ _ _ (by rw [hf, hstat, hat]; omega)
  obtain ⟨first, hdone⟩ := wbEnable_started (s.pass dt).clk (wbStored_run.trans hoff)
    ((wbStored_refusal (dt := dt) (cls := cls)).trans h)
  refine ⟨_, exec_writebackEnable hw hc hoff, ?_⟩
  rw [hdone, wbStarted]
  have hen := wbStored_on (s := s) (dt := dt) (cls := cls) (cru := cru)
  have htouch := wbStored_touches (s := s) (dt := dt) (cls := cls) (cru := cru)
  have hevq : (s.wbStored dt cls cru).evq = s.blk.evq := cruStored_evq
  generalize s.wbStored dt cls cru = b at hen htouch hevq
  refine ⟨State.answers_only hq (((htouch.flag hwin true).put (f := F.CRU_WB_STAT_DROPPED) hwin 0).setWb _ _) ?_, ?_, ?_, ?_, ?_⟩
  · rw [Block.evq_setWb, Block.put_evq, Block.flag_evq, hevq]
  · rw [State.answers_on, Block.on_setWb]
    refine (congrArg (· == 1) ?_).trans hen
    exact (hkeep (b.flag F.CRU_WB_STAT_RUN true cru.val) (f := F.CRU_WB_STAT_DROPPED) 0 rfl).trans
      (hkeep b (f := F.CRU_WB_STAT_RUN) 1 rfl)
  · rw [State.answers_on, Block.on_setWb, Block.on, Block.get_put_apart _ F.CRU_WB_STAT_DROPPED F.CRU_WB_STAT_RUN hfits.2
      (by unfold Fld.apart; decide)]
    exact Block.on_flag_same _ F.CRU_WB_STAT_RUN hfits.1 rfl true ..
  · rw [State.answers_get, Block.get_setWb]
    exact Block.get_put_self _ F.CRU_WB_STAT_DROPPED hfits.2 (by decide) ..
  · rw [State.answers_wb, Block.wb_setWb_same]

theorem writebackEnable_refuses (h : s.blk.poolPitch (s.blk.wbPool cru.val) < 6 * s.blk.wbW cru.val) :
    ∃ t : State, exec (.writebackEnable dt cls cru) s = .next t ∧ Claims.within s t dt [32 + cru.val, 2] ∧
      Claims.records s t [0x2007] ∧ t.blk.on F.CRU_WB_CTL_EN cru.val = false ∧ t.blk.on F.CRU_WB_STAT_RUN cru.val = false ∧
      t.blk.on F.CRU_EVT_CFG_ERR cru.val = true ∧ ∃ e ∈ t.blk.evq, e.code = 0x2007 ∧ e.p2 = 0x20 := by
  have hat := wbCtl_at cru
  have hevt : F.CRU_EVT_CFG_ERR.at cru.val = 0x200008 + 0x10000 * cru.val := by simp only [Fld.at, F.CRU_EVT_CFG_ERR]; omega
  have hstat : F.CRU_WB_STAT_RUN.at cru.val = 0x200608 + 0x10000 * cru.val := by simp only [Fld.at, F.CRU_WB_STAT_RUN]; omega
  have hwin : F.CRU_WB_CTL_EN.at cru.val / 0x10000 ∈ [32 + cru.val, 2] := by rw [List.mem_cons]; omega
  have hreason : wbRefusal (s.wbStored dt cls cru) cru.val = 0x20 := wbStored_refusal.trans (wbRefusal_narrow h)
  have hrun := (wbStored_run (s := s) (dt := dt) (cls := cls) (cru := cru)).trans hoff
  refine ⟨_, exec_writebackEnable hw hc hoff, ?_⟩
  rw [wbEnable_refused _ hrun (by rw [hreason]; decide), hreason, wbRefuse]
  have htouch := wbStored_touches (s := s) (dt := dt) (cls := cls) (cru := cru)
  have hevq : (s.wbStored dt cls cru).evq = s.blk.evq := cruStored_evq
  generalize s.wbStored dt cls cru = b at hrun htouch hevq
  refine ⟨State.answers_within hq (((htouch.flag hwin false).evt ?_).record ..), ?_, ?_, ?_, ?_, ?_⟩
  · rw [hevt, List.mem_cons]
    omega
  · rw [Claims.records, State.answers_evq, Block.record_codes, Block.evt_evq, Block.flag_evq, hevq]
  · rw [State.answers_on, Block.on, Block.get_record, Block.get_evt,
      Block.get_put_other _ F.CRU_EVT_CFG_ERR F.CRU_WB_CTL_EN _ _ _ _ _ _ _ (by rw [hevt, hat]; omega)]
    exact Block.on_flag_same _ F.CRU_WB_CTL_EN (by unfold Fld.fits; decide) rfl false ..
  · rw [State.answers_on, ← hrun, Block.on, Block.get_record, Block.get_evt,
      Block.get_put_other _ F.CRU_EVT_CFG_ERR F.CRU_WB_STAT_RUN _ _ _ _ _ _ _ (by rw [hevt, hstat]; omega), Block.flag,
      Block.get_put_other _ F.CRU_WB_CTL_EN F.CRU_WB_STAT_RUN _ _ _ _ _ _ _ (by rw [hat, hstat]; omega), Block.on]
  · rw [State.answers_on, Block.on, Block.get_record]
    exact Block.on_evt _ (by unfold Fld.fits; decide) rfl ..
  · rw [State.answers_evq, Block.record_evq]
    exact ⟨_, List.mem_append_right _ (List.mem_singleton_self _), rfl, rfl⟩

end Command

end Sys2Proof.Machine
end

section
/-! WRITEBACK_FRAME_READY: the oldest frame in capture becomes READY, or is dropped (R190). -/

namespace Sys2Proof.Machine

open Sys2Proof

/-! ## A buffer's header -/

theorem PoolBuf.header_length (x : PoolBuf) : x.header.length = 4096 := by
  simp only [PoolBuf.header, List.length_append, leBytes_length, List.length_replicate]

/-! ## The steps of the command -/

/-- A writeback whose EN is 0 and that has no frame in capture has stopped (R186). -/
def wbSettled (n : Nat) (b : Block) : Block :=
  if !b.on F.CRU_WB_CTL_EN n && (b.wb n).frames.isEmpty then b.flag F.CRU_WB_STAT_RUN false n else b

/-- The oldest frame in capture `f` has become READY, its buffer as `x`, with the tables of the Ladles as `l` before. -/
def wbReadied (n : Nat) (f : WbFrame) (rest : List WbFrame) (x : PoolBuf) (l : Lad) (b : Block) : Block :=
  (((({ b with lad := l } : Block).setBuf (bufKey (b.wbPool n) f.buf) x).store (b.bufAddr (b.wbPool n) f.buf) x.header).put
    F.CRU_WB_STAT_BUF f.buf n).setWb n { b.wb n with frames := rest }

section Steps

variable {b : Block} {n : Nat} {f : WbFrame} {rest : List WbFrame} (c : Clk) (hf : (b.wb n).frames = f :: rest)
include hf

theorem writebackReady_failed : writebackReady c n true b = wbSettled n (wbDrop n f.aidx f.frame 2 b) := by
  unfold writebackReady
  simp only [hf, if_true]
  rfl

/-- A whole frame whose header is stored is READY; the pool's READY buffer before it gives way. -/
theorem writebackReady_whole (hw : wbWhole b n f = true)
    (ha : dramFails b 7 (b.poolPart (b.wbPool n)) (b.bufAddr (b.wbPool n) f.buf) 4096 true = false) :
    ∃ x l, x.state = .ready ∧ x.cls = (if f.notLive then 1 else 0) ∧
      writebackReady c n false b = wbSettled n (wbReadied n f rest x l b) := by
  have haccess : wbAccess c n [(b.bufAddr (b.wbPool n) f.buf, 4096)] b = (none, b) := by
    unfold wbAccess
    simp [ha]
  unfold writebackReady
  simp only [hf, hw, haccess, Bool.false_eq_true, if_false, Bool.not_true]
  cases b.readyBuf (b.wbPool n) with
  | none => exact ⟨_, b.lad, by refine ⟨?_, ?_, rfl⟩ <;> rfl⟩
  | some j =>
    simp only [retireBuf_eq]
    exact ⟨_, _, by refine ⟨?_, ?_, rfl⟩ <;> rfl⟩

end Steps

/-! ## What the steps leave -/

section Settled

variable (b : Block) (n : Nat)

/-- Settling touches the writeback's RUN alone. -/
theorem wbSettled_cases : wbSettled n b = b ∨ wbSettled n b = b.flag F.CRU_WB_STAT_RUN false n := by
  unfold wbSettled
  split
  · exact .inr rfl
  · exact .inl rfl

theorem wbSettled_touches {ws : List Nat} {b' : Block} (h : Block.Touches ws b' b) (hw : F.CRU_WB_STAT_RUN.at n / 0x10000 ∈ ws) :
    Block.Touches ws b' (wbSettled n b) := by
  rcases wbSettled_cases b n with he | he <;> rw [he]
  · exact h
  · exact h.flag hw false

theorem wbSettled_get {g : Fld} (hg : F.CRU_WB_STAT_RUN.apart g) : (wbSettled n b).get g n = b.get g n := by
  rcases wbSettled_cases b n with he | he <;> rw [he]
  exact Block.get_put_apart _ F.CRU_WB_STAT_RUN g (by unfold Fld.fits; decide) hg ..

theorem wbSettled_reg {a : Nat} (ha : F.CRU_WB_STAT_RUN.at n ≠ a) : (wbSettled n b).reg a = b.reg a := by
  rcases wbSettled_cases b n with he | he <;> rw [he]
  exact Block.reg_setReg_of_ne _ _ ha

theorem wbSettled_evq : (wbSettled n b).evq = b.evq := by
  rcases wbSettled_cases b n with he | he <;> rw [he]
  exact Block.flag_evq ..

theorem wbSettled_stores : (wbSettled n b).stores = b.stores := by
  rcases wbSettled_cases b n with he | he <;> rw [he]
  exact Block.flag_stores ..

theorem wbSettled_newPtp : (wbSettled n b).newPtp = b.newPtp := by
  rcases wbSettled_cases b n with he | he <;> rw [he]
  exact Block.flag_newPtp ..

theorem wbSettled_clkReset : (wbSettled n b).clkReset = b.clkReset := by
  rcases wbSettled_cases b n with he | he <;> rw [he]
  exact Block.flag_clkReset ..

theorem wbSettled_lad : (wbSettled n b).lad = b.lad := by
  rcases wbSettled_cases b n with he | he <;> rw [he]
  exact Block.flag_lad ..

theorem wbSettled_wb (k : Nat) : (wbSettled n b).wb k = b.wb k := by
  rcases wbSettled_cases b n with he | he <;> rw [he]
  rw [Block.wb, Block.wb, Block.flag_wbs]

end Settled

section Readied

variable (n : Nat) (f : WbFrame) (rest : List WbFrame) (x : PoolBuf) (l : Lad) (b : Block)

theorem wbReadied_reg {a : Nat} (ha : F.CRU_WB_STAT_BUF.at n ≠ a) : (wbReadied n f rest x l b).reg a = b.reg a :=
  Block.reg_setReg_of_ne _ _ ha

theorem Block.buf_setWb (y : WbSt) (k : Nat) : (b.setWb n y).buf k = b.buf k := rfl
theorem Block.buf_store (a : Nat) (t : List Byte) (k : Nat) : (b.store a t).buf k = b.buf k := rfl

theorem wbReadied_buf : (wbReadied n f rest x l b).buf (bufKey (b.wbPool n) f.buf) = x := by
  rw [wbReadied, Block.buf_setWb, Block.buf_put, Block.buf_store, Block.buf_setBuf_same]

theorem wbReadied_wb : (wbReadied n f rest x l b).wb n = { b.wb n with frames := rest } := Block.wb_setWb_same ..

theorem wbReadied_index (hf : f.buf < 16) : (wbReadied n f rest x l b).get F.CRU_WB_STAT_BUF n = f.buf :=
  Block.get_put_self _ F.CRU_WB_STAT_BUF (by decide) hf ..

theorem wbReadied_evq : (wbReadied n f rest x l b).evq = b.evq := by
  rw [wbReadied, Block.evq_setWb, Block.put_evq, Block.store_evq, Block.evq_setBuf]

theorem Block.stores_setWb (y : WbSt) : (b.setWb n y).stores = b.stores := rfl
theorem Block.newPtp_setWb (y : WbSt) : (b.setWb n y).newPtp = b.newPtp := rfl
theorem Block.clkReset_setWb (y : WbSt) : (b.setWb n y).clkReset = b.clkReset := rfl

theorem wbReadied_stores : (wbReadied n f rest x l b).stores =
    b.stores ++ [{ addr := b.bufAddr (b.wbPool n) f.buf, bytes := x.header }] := by
  rw [wbReadied, Block.stores_setWb, Block.put_stores]
  rfl

theorem wbReadied_newPtp : (wbReadied n f rest x l b).newPtp = b.newPtp := by
  rw [wbReadied, Block.newPtp_setWb, Block.put_newPtp]
  rfl

theorem wbReadied_clkReset : (wbReadied n f rest x l b).clkReset = b.clkReset := by
  rw [wbReadied, Block.clkReset_setWb, Block.put_clkReset]
  rfl

end Readied

/-- The records of the encoders' streams, replaced. -/
def Block.setEncSs (b : Block) (l : List (Nat × EncSt)) : Block := { b with encSs := l }

section Encoders

variable (b : Block) (l : List (Nat × EncSt))

theorem Block.reg_setEncSs (a : Nat) : (b.setEncSs l).reg a = b.reg a := rfl
theorem Block.get_setEncSs (f : Fld) (i j k : Nat) : (b.setEncSs l).get f i j k = b.get f i j k := rfl
theorem Block.evq_setEncSs : (b.setEncSs l).evq = b.evq := rfl
theorem Block.buf_setEncSs (k : Nat) : (b.setEncSs l).buf k = b.buf k := rfl
theorem Block.wb_setEncSs (n : Nat) : (b.setEncSs l).wb n = b.wb n := rfl
theorem Block.stores_setEncSs : (b.setEncSs l).stores = b.stores := rfl
theorem Block.newPtp_setEncSs : (b.setEncSs l).newPtp = b.newPtp := rfl
theorem Block.clkReset_setEncSs : (b.setEncSs l).clkReset = b.clkReset := rfl

end Encoders

/-- The note that the encoders take of a READY capture is in their own records. -/
theorem encNote_eq (cru : Nat) (b : Block) : ∃ l, encNote cru b = b.setEncSs l := by
  unfold encNote
  generalize List.range 16 = t
  induction t generalizing b with
  | nil => exact ⟨b.encSs, rfl⟩
  | cons k t ih =>
    rw [List.foldl_cons]
    dsimp only
    split
    · obtain ⟨l, hl⟩ := ih (b.setEncS (k / 8) (k % 8) _)
      exact ⟨l, hl.trans rfl⟩
    · exact ih b

section Dropped

variable {b : Block} {n : Nat} {f : WbFrame} {rest : List WbFrame}

/-- A frame dropped: its buffer is FREE and its record gone, and the drop is counted, flagged and recorded. -/
theorem wbDrop_found (hf : (b.wb n).frames = f :: rest) (frame cause : Nat) : ∃ (x : WbSt) (p : Nat),
    (∀ g ∈ x.frames, g.aidx ≠ f.aidx) ∧
    wbDrop n f.aidx frame cause b = ((((b.setBuf (bufKey (b.wbPool n) f.buf) {}).setWb n x).inc F.CRU_WB_STAT_DROPPED n).evt
      F.CRU_EVT_WB_DROP n).record (inst := n) 0x2006 3 p frame cause := by
  unfold wbDrop
  have hfind : (b.wb n).frames.find? (·.aidx = f.aidx) = some f := by simp [hf]
  simp only [hfind]
  refine ⟨_, _, fun g hg => ?_, rfl⟩
  simpa using (List.mem_filter.1 hg).2

end Dropped

/-- A frame all of whose captured bands are in is whole. -/
theorem wbWhole_of_bands {b : Block} {n : Nat} {f : WbFrame}
    (h : ∀ k, k < 16 → b.on F.CRU_HEAD_MAP_EN n k = true → b.on F.CRU_HEAD_WB_IN n k = true →
      ∀ band, band < (b.fmt (b.slotHead n k)).bands → (b.slotHead n k, band) ∈ f.bands) : wbWhole b n f = true := by
  refine List.all_eq_true.2 fun k hk => List.all_eq_true.2 fun band hband => List.contains_iff_mem.2 ?_
  obtain ⟨hen, hin⟩ := List.mem_filter.1 hk
  obtain ⟨hlt, hen⟩ := List.mem_filter.1 hen
  exact h k (List.mem_range.1 hlt) hen hin band (List.mem_range.1 hband)

/-! ## The command -/

/-- The encoders' note of a capture whose buffer `k` has become READY. -/
def wbNoted (n k : Nat) (b : Block) : Block := if (b.buf k).state = .ready then encNote n b else b

section Command

variable {s : State} {dt : Nat} {cru : Cru} {f : WbFrame} {rest : List WbFrame} (hh : s.blk.hold = .none)
  (hf : (s.blk.wb cru.val).frames = f :: rest)
include hh hf

theorem exec_writebackFrameReady (failed : Bool) : exec (.writebackFrameReady dt cru failed) s =
    .next (s.ends dt (wbNoted cru.val (bufKey (s.blk.wbPool cru.val) f.buf)
      (writebackReady (s.pass dt).clk cru.val failed (s.found dt)))) := by
  have hfound : ((s.found dt).wb cru.val).frames = f :: rest := hf
  refine (State.run_eq_ends s dt _ hh).trans ?_
  dsimp only
  rw [hfound]
  rfl

variable (hq : s.blk.quiet = true)
include hq

theorem writebackFrameReady_drops :
    ∃ t : State, exec (.writebackFrameReady dt cru true) s = .next t ∧ Claims.within s t dt [32 + cru.val] ∧
      Claims.records s t [0x2006] ∧ (t.blk.buf (bufKey (s.blk.wbPool cru.val) f.buf)).state = .free ∧
      t.blk.get F.CRU_WB_STAT_DROPPED cru.val =
        min (2 ^ F.CRU_WB_STAT_DROPPED.width - 1) (s.blk.get F.CRU_WB_STAT_DROPPED cru.val + 1) ∧
      ∀ g ∈ (t.blk.wb cru.val).frames, g.aidx ≠ f.aidx := by
  have hstat : F.CRU_WB_STAT_DROPPED.at cru.val = 0x200608 + 0x10000 * cru.val := by
    simp only [Fld.at, F.CRU_WB_STAT_DROPPED]; omega
  have hevt : F.CRU_EVT_WB_DROP.at cru.val = 0x200008 + 0x10000 * cru.val := by simp only [Fld.at, F.CRU_EVT_WB_DROP]; omega
  have hwin : F.CRU_WB_STAT_DROPPED.at cru.val / 0x10000 ∈ [32 + cru.val] := by rw [List.mem_singleton]; omega
  have hwin' : F.CRU_EVT_WB_DROP.at cru.val / 0x10000 ∈ [32 + cru.val] := by rw [List.mem_singleton]; omega
  have hfound : ((s.found dt).wb cru.val).frames = f :: rest := hf
  have hpool : (s.found dt).wbPool cru.val = s.blk.wbPool cru.val := rfl
  have hcount : (s.found dt).get F.CRU_WB_STAT_DROPPED cru.val = s.blk.get F.CRU_WB_STAT_DROPPED cru.val := rfl
  have hevq : (s.found dt).evq = s.blk.evq := rfl
  have htouch := s.found_touches dt [32 + cru.val]
  refine ⟨_, exec_writebackFrameReady hh hf true, ?_⟩
  rw [writebackReady_failed _ hfound]
  obtain ⟨x, p, hx, hdrop⟩ := wbDrop_found hfound f.frame 2
  rw [hdrop, hpool]
  generalize s.found dt = b at hcount hevq htouch
  have hbuf : ∀ b' : Block, b'.lad = (b.setBuf (bufKey (s.blk.wbPool cru.val) f.buf) {}).lad →
      (b'.buf (bufKey (s.blk.wbPool cru.val) f.buf)).state = .free := fun b' hb => by
    rw [Block.buf_of_lad hb, Block.buf_setBuf_same]
  have hlad : (wbSettled cru.val (((((b.setBuf (bufKey (s.blk.wbPool cru.val) f.buf) {}).setWb cru.val x).inc
      F.CRU_WB_STAT_DROPPED cru.val).evt F.CRU_EVT_WB_DROP cru.val).record (inst := cru.val) 0x2006 3 p f.frame 2)).lad =
      (b.setBuf (bufKey (s.blk.wbPool cru.val) f.buf) {}).lad := by
    rw [wbSettled_lad, Block.record_lad, Block.evt_lad, Block.inc, Block.put_lad]
    rfl
  rw [wbNoted, if_neg (by rw [hbuf _ hlad]; decide)]
  refine ⟨State.ends_within hq (wbSettled_touches _ _ ((((((htouch.setBuf _ _).setWb _ _).inc hwin 1).evt hwin').record ..)) hwin),
    ?_, ?_, ?_, ?_⟩
  · rw [Claims.records, State.ends_evq, wbSettled_evq, Block.record_codes, Block.evt_evq, Block.inc, Block.put_evq,
      Block.evq_setWb, Block.evq_setBuf, hevq]
  · rw [State.ends_buf, hbuf _ hlad]
  · rw [State.ends_get, wbSettled_get _ _ (by unfold Fld.apart; decide), Block.get_record, Block.get_evt,
      Block.get_put_other _ F.CRU_EVT_WB_DROP F.CRU_WB_STAT_DROPPED _ _ _ _ _ _ _ (by rw [hevt, hstat]; omega),
      Block.get_inc _ (by unfold Fld.fits; decide), Block.get_setWb, Block.get_setBuf, hcount]
  · rw [State.ends_wb, wbSettled_wb, Block.wb, Block.record_wbs, Block.evt_wbs, Block.inc, Block.put_wbs]
    rw [show tget {} ((b.setBuf _ {}).setWb cru.val x).wbs cru.val = x from Block.wb_setWb_same ..]
    exact hx

theorem writebackFrameReady_readies
    (hall : ∀ k, k < 16 → s.blk.on F.CRU_HEAD_MAP_EN cru.val k = true → s.blk.on F.CRU_HEAD_WB_IN cru.val k = true →
      ∀ band, band < (s.blk.fmt (s.blk.slotHead cru.val k)).bands → (s.blk.slotHead cru.val k, band) ∈ f.bands)
    (ha : dramFails s.blk 7 (s.blk.poolPart (s.blk.wbPool cru.val)) (s.blk.bufAddr (s.blk.wbPool cru.val) f.buf) 4096 true = false)
    (hbuf : f.buf < 16) :
    ∃ t : State, exec (.writebackFrameReady dt cru false) s = .next t ∧ t.clk = (s.pass dt).clk ∧ t.blk.evq = s.blk.evq ∧
      (t.blk.wb cru.val).frames = rest ∧ t.blk.get F.CRU_WB_STAT_BUF cru.val = f.buf ∧
      (t.blk.buf (bufKey (s.blk.wbPool cru.val) f.buf)).state = .ready ∧
      (t.blk.buf (bufKey (s.blk.wbPool cru.val) f.buf)).cls = (if f.notLive then 1 else 0) ∧
      (∀ a, a ≠ F.CRU_WB_STAT_BUF.at cru.val → t.blk.reg a = s.blk.reg a) ∧
      ∀ a, ¬ (s.blk.bufAddr (s.blk.wbPool cru.val) f.buf ≤ a ∧ a < s.blk.bufAddr (s.blk.wbPool cru.val) f.buf + 4096) →
        t.mem.byte a = s.mem.byte a := by
  have hfound : ((s.found dt).wb cru.val).frames = f :: rest := hf
  have hpool : (s.found dt).wbPool cru.val = s.blk.wbPool cru.val := rfl
  have haddr : (s.found dt).bufAddr (s.blk.wbPool cru.val) f.buf = s.blk.bufAddr (s.blk.wbPool cru.val) f.buf := rfl
  have hevq : (s.found dt).evq = s.blk.evq := rfl
  have htouch := s.found_touches dt []
  obtain ⟨x, l, hx, hcls, hready⟩ := writebackReady_whole (s.pass dt).clk hfound
    (wbWhole_of_bands (b := s.found dt) hall) ha
  refine ⟨_, exec_writebackFrameReady hh hf false, ?_⟩
  rw [hready]
  have hkey := wbReadied_buf cru.val f rest x l (s.found dt)
  have hstores := wbReadied_stores cru.val f rest x l (s.found dt)
  rw [hpool] at hkey hstores
  rw [haddr] at hstores
  generalize s.found dt = b at hevq htouch hkey hstores
  have hsettled : (wbSettled cru.val (wbReadied cru.val f rest x l b)).buf (bufKey (s.blk.wbPool cru.val) f.buf) = x :=
    (Block.buf_of_lad (wbSettled_lad ..) _).trans hkey
  obtain ⟨e, he⟩ := encNote_eq cru.val (wbSettled cru.val (wbReadied cru.val f rest x l b))
  rw [wbNoted, if_pos (by rw [hsettled, hx]), he]
  obtain ⟨hs, -⟩ := (Block.quiet_iff _).1 hq
  refine ⟨State.ends_clk_kept hq ?_ ?_, ?_, ?_, ?_, ?_, ?_, fun a hne => ?_, fun a hout => ?_⟩
  · rw [Block.newPtp_setEncSs, wbSettled_newPtp, wbReadied_newPtp, htouch.newPtp]
  · rw [Block.clkReset_setEncSs, wbSettled_clkReset, wbReadied_clkReset, htouch.clkReset]
  · rw [State.ends_evq, Block.evq_setEncSs, wbSettled_evq, wbReadied_evq, hevq]
  · rw [State.ends_wb, Block.wb_setEncSs, wbSettled_wb, wbReadied_wb]
  · rw [State.ends_get, Block.get_setEncSs, wbSettled_get _ _ (by unfold Fld.apart; decide), wbReadied_index _ _ _ _ _ _ hbuf]
  · rw [State.ends_buf, Block.buf_setEncSs, hsettled, hx]
  · rw [State.ends_buf, Block.buf_setEncSs, hsettled, hcls]
  · rw [State.ends_reg, Block.reg_setEncSs, wbSettled_reg _ _ (Ne.symm hne), wbReadied_reg _ _ _ _ _ _ (Ne.symm hne),
      htouch.reg a (by simp)]
  · rw [State.ends_mem, Block.stores_setEncSs, wbSettled_stores, hstores, htouch.stores, hs, List.nil_append]
    refine Mem.byte_puts_away _ _ _ fun st hst _ => ?_
    rw [List.mem_singleton.1 hst, PoolBuf.header_length]
    dsimp only
    omega

end Command

/-- Settles O19, command by command. -/
theorem slotsAndWritebacksAreChecked : Obligations.SlotsAndWritebacksAreChecked := by
  intro dt cru s hq
  dsimp only
  refine ⟨fun cls slot hw hc hoff => ⟨headSlotEnable_accepts hq hw hc hoff, fun htaken => ?_, fun hfree hwidth => ?_,
    fun hfree hwidth hlead => ?_⟩,
    fun cls hw hc hoff => ⟨writebackEnable_starts hq hw hc hoff, writebackEnable_refuses hq hw hc hoff⟩,
    fun hh f rest hf hbuf => ⟨fun hall ha => writebackFrameReady_readies hh hf hq hall ha hbuf,
      writebackFrameReady_drops hh hf hq⟩⟩
  · exact headSlotEnable_refuses hq hw hc hoff (slotRefusal_taken htaken) (by decide) (by decide)
  · exact headSlotEnable_refuses hq hw hc hoff ((congrArg Prod.fst (slotRefusal_free hfree)).trans (slotLimit_width hwidth))
      (by decide) (by decide)
  · exact headSlotEnable_refuses hq hw hc hoff ((congrArg Prod.fst (slotRefusal_free hfree)).trans (slotLimit_lead hwidth hlead))
      (by decide) (by decide)

end Sys2Proof.Machine
end

section
/-! What taking a band leaves alone: the bands in composition, the rasters, the clock, and the registers that the band is drawn from
(R157, R158, R177). -/

namespace Sys2Proof.Machine

open Sys2Proof

/-- The block after an event has the bands in composition, the rasters, the clock settings and the registers of `R` that the block
before has. -/
structure Block.Spares (R : Set Nat) (b b' : Block) : Prop where
  reg : ∀ a ∈ R, b'.reg a = b.reg a
  comps : b'.comps = b.comps
  tim : b'.tim = b.tim
  newPtp : b'.newPtp = b.newPtp
  clkReset : b'.clkReset = b.clkReset

namespace Block.Spares

variable {R : Set Nat} {b b' b'' : Block}

theorem refl (R : Set Nat) (b : Block) : Spares R b b := ⟨fun _ _ => rfl, rfl, rfl, rfl, rfl⟩

theorem trans (h : Spares R b b') (h' : Spares R b' b'') : Spares R b b'' :=
  ⟨fun a ha => (h'.reg a ha).trans (h.reg a ha), h'.comps.trans h.comps, h'.tim.trans h.tim, h'.newPtp.trans h.newPtp,
    h'.clkReset.trans h.clkReset⟩

theorem ite {p : Prop} [Decidable p] (h : Spares R b b') (h' : Spares R b b'') : Spares R b (if p then b' else b'') := by
  split
  · exact h
  · exact h'

/-- An update of none of these. -/
theorem keep (h : Spares R b b') (hr : b''.regs = b'.regs) (hk : b''.comps = b'.comps) (ht : b''.tim = b'.tim)
    (hn : b''.newPtp = b'.newPtp) (hc : b''.clkReset = b'.clkReset) : Spares R b b'' :=
  h.trans ⟨fun a _ => by simp [Block.reg, hr], hk, ht, hn, hc⟩

theorem foldl {α : Type} (g : Block → α → Block) (l : List α) (hg : ∀ a b, Spares R b (g b a)) (b : Block) :
    Spares R b (l.foldl g b) := by
  induction l generalizing b with
  | nil => exact .refl R b
  | cons a t ih => exact (hg a b).trans (ih _)

/-- Steps that carry a result with the block. -/
theorem foldlSnd {α β : Type} (g : β × Block → α → β × Block) (l : List α) (hg : ∀ a q, Spares R q.2 (g q a).2) (q : β × Block) :
    Spares R q.2 (l.foldl g q).2 := by
  induction l generalizing q with
  | nil => exact .refl R q.2
  | cons a t ih => exact (hg a q).trans (ih _)

theorem setReg (h : Spares R b b') {a : Nat} (ha : a ∉ R) (v : Word) : Spares R b (b'.setReg a v) :=
  h.trans ⟨fun _ hx => Block.reg_setReg_of_ne _ _ fun e => ha (e ▸ hx), rfl, rfl, rfl, rfl⟩

section Fields

variable {f : Fld} {i j k : Nat}

theorem put (h : Spares R b b') (hf : f.at i j k ∉ R) (x : Nat) : Spares R b (b'.put f x i j k) := h.setReg hf _
theorem flag (h : Spares R b b') (hf : f.at i j k ∉ R) (x : Bool) : Spares R b (b'.flag f x i j k) := h.put hf _
theorem inc (h : Spares R b b') (hf : f.at i j k ∉ R) (n : Nat) : Spares R b (b'.inc f i j k n) := h.put hf _
theorem evt (h : Spares R b b') (hf : f.at i j ∉ R) : Spares R b (b'.evt f i j) := (h.put hf 1).keep rfl rfl rfl rfl rfl

end Fields

theorem record (h : Spares R b b') (code sev p0 p1 p2 p3 inst : Nat) :
    Spares R b (b'.record code sev p0 p1 p2 p3 inst) := h.keep rfl rfl rfl rfl rfl

theorem recordLim (h : Spares R b b') (c : Clk) (key period code sev p0 p1 p2 p3 inst : Nat) :
    Spares R b (b'.recordLim c key period code sev p0 p1 p2 p3 inst) := by
  unfold Block.recordLim
  exact h.trans (.ite ((refl R b').keep rfl rfl rfl rfl rfl) (.refl R b'))

theorem store (h : Spares R b b') (a : Nat) (l : List Byte) : Spares R b (b'.store a l) := h.keep rfl rfl rfl rfl rfl
theorem setBuf (h : Spares R b b') (k : Nat) (x : PoolBuf) : Spares R b (b'.setBuf k x) := h.keep rfl rfl rfl rfl rfl
theorem setWb (h : Spares R b b') (n : Nat) (x : WbSt) : Spares R b (b'.setWb n x) := h.keep rfl rfl rfl rfl rfl
theorem setMould (h : Spares R b b') (n m : Nat) (x : MouldSt) : Spares R b (b'.setMould n m x) := h.keep rfl rfl rfl rfl rfl
theorem tookFree (h : Spares R b b') (n : Nat) : Spares R b { b' with free := n } := h.keep rfl rfl rfl rfl rfl

theorem get (h : Spares R b b') {f : Fld} {i j k : Nat} (hf : f.at i j k ∈ R) : b'.get f i j k = b.get f i j k := by
  rw [Block.get, Block.get, h.reg _ hf]

theorem ras (h : Spares R b b') (n : Nat) : b'.ras n = b.ras n := by rw [Block.ras, Block.ras, h.tim]

end Block.Spares

/-! ## An access to DRAM -/

section Dram

variable (c : Clk) (cls part a len : Nat) (wr : Bool) (port : Nat) (b : Block)

theorem flaskRefuse_spares (imprecise : Bool) (r : Refused) (sup : Nat) :
    Block.Spares ∅ b (flaskRefuse c cls a wr imprecise r sup b) := by
  have hrefl := Block.Spares.refl ∅ b
  have hfree : ∀ x, x ∉ (∅ : Set Nat) := Set.notMem_empty
  have htold : ∀ b' : Block, Block.Spares ∅ b' (if sup < 4 && !bit b'.flkPend sup then
      { b' with flkPend := b'.flkPend + 2 ^ sup } else b') := fun b' =>
    .ite ((Block.Spares.refl ∅ b').keep rfl rfl rfl rfl rfl) (.refl ∅ b')
  unfold flaskRefuse
  refine Block.Spares.recordLim (.trans (.evt ?_ (hfree _)) (htold _)) ..
  split
  · exact hrefl.inc (hfree _) _
  · exact (((((((hrefl.put (hfree _) _).put (hfree _) _).put (hfree _) _).flag (hfree _) _).flag (hfree _) _).put
      (hfree _) _).put (hfree _) _).evt (hfree _)

theorem dramAccess_spares {R : Set Nat} (hR : ∀ x ∈ R, x / 0x10000 ≠ 3 ∧ x / 0x10000 ≠ 9) :
    Block.Spares R b (dramAccess c cls part a len wr port b).2 := by
  obtain ⟨-, hn, hc, -, hreg⟩ := dramAccess_touches c cls part a len wr port b
  have hrest : Block.Spares ∅ b (dramAccess c cls part a len wr port b).2 := by
    unfold dramAccess
    split
    · exact flaskRefuse_spares ..
    · split
      · unfold dramOut
        exact Block.Spares.recordLim (.evt (.refl ∅ b) (Set.notMem_empty _)) ..
      · exact .refl ∅ b
  exact ⟨fun x hx => hreg x (by simp [hR x hx]), hrest.comps, hrest.tim, hn, hc⟩

end Dram

/-! ## A capture begins -/

section Capture

variable (c : Clk) (cru : Nat) (b : Block)

theorem wbDrop_spares (aidx frame cause : Nat) : Block.Spares ∅ b (wbDrop cru aidx frame cause b) := by
  unfold wbDrop
  refine (Block.Spares.evt (.inc (.setWb ?_ ..) (Set.notMem_empty _) 1) (Set.notMem_empty _)).record ..
  split
  · exact (Block.Spares.refl ∅ b).setBuf ..
  · exact .refl ∅ b

theorem wbAccess_spares (ranges : List (Nat × Nat)) : Block.Spares ∅ b (wbAccess c cru ranges b).2 := by
  unfold wbAccess
  dsimp only
  split
  · exact .refl ∅ b
  · exact dramAccess_spares _ _ _ _ _ _ _ _ fun _ hx => absurd hx (Set.notMem_empty _)

theorem wbAccess_leaves {b b' : Block} {ranges : List (Nat × Nat)} {o : Option Nat} (h : wbAccess c cru ranges b = (o, b')) :
    Block.Spares ∅ b b' := by
  have hs := wbAccess_spares c cru b ranges
  rwa [h] at hs

theorem wbBegin_spares (aidx frame : Nat) : Block.Spares ∅ b (wbBegin c cru aidx frame b) := by
  unfold wbBegin
  dsimp only
  split
  · exact wbDrop_spares ..
  · rename_i i _
    have htaken : ∀ (x : PoolBuf) (y : WbSt), Block.Spares ∅ b ((b.tookFree.setBuf (bufKey (b.wbPool cru) i) x).setWb cru y) :=
      fun x y => (((Block.Spares.refl ∅ b).tookFree (b.free + 1)).setBuf _ _).setWb _ _
    split
    · rename_i cause b' hb
      exact ((htaken ..).trans (wbAccess_leaves _ _ hb)).trans (wbDrop_spares ..)
    · rename_i b' hb
      refine ((htaken ..).trans (wbAccess_leaves _ _ hb)).trans (.store ?_ ..)
      exact Block.Spares.foldl _ _ (fun y b => (Block.Spares.refl ∅ b).store ..) b'

theorem wbStart_spares (k aidx : Nat) : Block.Spares ∅ b (wbStart c cru k aidx b) := by
  have hfree : ∀ x, x ∉ (∅ : Set Nat) := Set.notMem_empty
  unfold wbStart
  dsimp only
  split
  · exact .refl ∅ b
  · refine .ite (.refl ∅ b) ?_
    have hdropped := Block.Spares.foldl (R := ∅) (fun b (f : WbFrame) => wbDrop cru f.aidx f.frame 2 b)
      ((b.wb cru).frames.filter fun f => f.aidx < aidx && !wbWhole b cru f) (fun f b => wbDrop_spares ..) b
    exact .ite (hdropped.flag (hfree _) _) (.ite (hdropped.trans (wbBegin_spares ..)) hdropped)

end Capture

end Sys2Proof.Machine
end

section
/-! BAND_COMPOSE_START: which band a Crucible takes, and what it takes with it (R157, R158, R161, R173, R178, R179). -/

namespace Sys2Proof.Machine

open Sys2Proof

/-! ## What a band is drawn from -/

/-- The registers that taking a band leaves alone: all but the reports of the Flask and of the memory controller, and of the
Crucible's its events and what its moulds' status shows. -/
def drawnRegs (cru : Nat) : Set Nat :=
  {a | a / 0x10000 ≠ 3 ∧ a / 0x10000 ≠ 9 ∧ a ≠ 0x200008 + 0x10000 * cru ∧ ∀ m, a ≠ 0x208028 + 0x10000 * cru + 0x40 * m}

theorem mouldStat_not_drawn (cru m : Nat) : F.CRU_M_STAT_FALLBACK.at cru m ∉ drawnRegs cru := by
  rintro ⟨-, -, -, hstat⟩
  exact hstat m (by simp only [Fld.at, F.CRU_M_STAT_FALLBACK]; omega)

theorem cruEvt_not_drawn {f : Fld} (hf : f.addr = 0x200008) (hi : f.si = 0x10000) (cru : Nat) : f.at cru ∉ drawnRegs cru := by
  rintro ⟨-, -, hevt, -⟩
  exact hevt (by simp only [Fld.at, hf, hi]; omega)

section Drawn

variable {b b' : Block} {cru k : Nat} (hs : Block.Spares (drawnRegs cru) b b')
include hs

theorem drawn_slot {f : Fld} (h0 : 0x200100 ≤ f.addr) (h1 : f.addr < 0x200110) (hi : f.si = 0x10000) (hj : f.sj = 0x10)
    (hc : cru < 4) (hk : k < 16) : b'.get f cru k = b.get f cru k :=
  hs.get (by
    simp only [drawnRegs, Set.mem_ofPred_eq, Fld.at, hi, hj]
    refine ⟨?_, ?_, ?_, fun m => ?_⟩ <;> omega)

theorem drawn_mould {f : Fld} (h0 : 0x208018 ≤ f.addr) (h1 : f.addr < 0x208028) (hi : f.si = 0x10000) (hj : f.sj = 0x40)
    (m : Nat) : b'.get f cru m = b.get f cru m :=
  hs.get (by
    simp only [drawnRegs, Set.mem_ofPred_eq, Fld.at, hi, hj]
    refine ⟨?_, ?_, ?_, fun m => ?_⟩ <;> omega)

theorem drawn_head {f : Fld} (h0 : 0x41000 ≤ f.addr) (h1 : f.addr < 0x41040) (hi : f.si = 0x40) {h : Nat} (hh : h < 64) :
    b'.get f h = b.get f h :=
  hs.get (by
    simp only [drawnRegs, Set.mem_ofPred_eq, Fld.at, hi]
    refine ⟨?_, ?_, ?_, fun m => ?_⟩ <;> omega)

theorem drawn_contributes (m x0 x1 y0 y1 : Nat) : b'.contributes cru m x0 x1 y0 y1 = b.contributes cru m x0 x1 y0 y1 := by
  simp only [Block.contributes, Block.geo, Block.geti, drawn_mould hs (f := F.CRU_M_ALPHA_PLANE) (by decide) (by decide) rfl rfl,
    drawn_mould hs (f := F.CRU_M_DST_XY_X) (by decide) (by decide) rfl rfl,
    drawn_mould hs (f := F.CRU_M_DST_XY_Y) (by decide) (by decide) rfl rfl,
    drawn_mould hs (f := F.CRU_M_DST_WH_W) (by decide) (by decide) rfl rfl,
    drawn_mould hs (f := F.CRU_M_DST_WH_H) (by decide) (by decide) rfl rfl]

theorem drawn_fmt {h : Nat} (hh : h < 64) : b'.fmt h = b.fmt h :=
  Block.fmt_congr fun f hf => by
    have hall : ∀ f ∈ fmtFields, 0x41000 ≤ f.addr ∧ f.addr < 0x41040 ∧ f.si = 0x40 := by decide
    obtain ⟨h0, h1, hi⟩ := hall f hf
    exact drawn_head hs h0 h1 hi hh

theorem drawn_frameOf {h : Nat} (hh : h < 64) : b'.frameOf h = b.frameOf h := by
  rw [Block.frameOf, Block.frameOf, Block.get2, Block.get2, drawn_head hs (by decide) (by decide) rfl hh,
    drawn_head hs (by decide) (by decide) rfl hh]

end Drawn

/-! ## The band that a Crucible takes next (R158) -/

section Next

variable {c : Clk} {b : Block} {cru k band : Nat}

/-- A pending band is one of an enabled slot's. -/
theorem bandPending_slot (h : bandPending c b cru k band = true) :
    b.on F.CRU_HEAD_MAP_EN cru k = true ∧ band < (b.fmt (b.slotHead cru k)).bands ∧
      startReached c b (b.slotHead cru k) band (b.slotLead cru k) = true := by
  simp only [bandPending, Block.slotRuns, Bool.and_eq_true, decide_eq_true_eq] at h
  obtain ⟨⟨⟨⟨⟨⟨⟨⟨⟨-, hen⟩, -⟩, -⟩, hband⟩, hstart⟩, -⟩, -⟩, -⟩, -⟩ := h
  exact ⟨hen, hband, hstart⟩

/-- The model's choice among the pending bands is the claim's. -/
theorem takesNext_iff : takesNext c b cru k band = true ↔ Claims.takenNext c b cru k band := by
  simp only [takesNext, Claims.takenNext, Bool.and_eq_true, List.all_eq_true, List.mem_range, Bool.or_eq_true,
    Bool.not_eq_true', decide_eq_true_eq, beq_iff_eq, Block.enabledSlots, List.mem_filter]
  refine and_congr_right fun _ => ⟨fun h j n hj hp => ?_, fun h j hj n _ => ?_⟩
  · obtain ⟨hen, hn, -⟩ := bandPending_slot hp
    rcases h j ⟨hj, hen⟩ n hn with (hnot | hlt) | heq
    · exact absurd hp (by simp [hnot])
    · exact .inl hlt
    · exact .inr heq
  · cases hp : bandPending c b cru j n with
    | false => exact .inl (.inl rfl)
    | true => exact (h j n hj.1 hp).elim (fun hlt => .inl (.inr hlt)) .inr

end Next

/-! ## What the band takes with it -/

section Taken

variable (c : Clk) (b : Block) (cru : Nat)

theorem layerRead_mould (m frame y0 y1 : Nat) : (layerRead b cru m frame y0 y1).1.mould = m := by
  unfold layerRead
  dsimp only
  split
  · rfl
  · split
    · rfl
    · split
      · rfl
      · exact (apply_ite LayerRead.mould ..).trans (ite_self _)

/-- The moulds that contribute to a band, in blend order. -/
def bandMoulds (k y0 y1 : Nat) : List Nat := (b.drawing cru k).filter fun m => b.contributes cru m 0 (b.slotWidth cru k - 1) y0 y1

theorem bandReads_moulds (k frame y0 y1 : Nat) :
    ((bandReads b cru k frame y0 y1).map (·.1)).map (·.mould) = bandMoulds b cru k y0 y1 := by
  rw [bandReads, List.map_map, List.map_map]
  exact (List.map_congr_left fun m _ => layerRead_mould ..).trans (List.map_id _)

/-- A tile's tag counts the layers that contribute to the tile. -/
theorem tileTag_count (w y0 y1 col : Nat) (layers : List LayerRead) (failed : List (Nat × Nat × Nat)) (unstated : Nat) :
    (tileTag c b cru w y0 y1 col layers failed unstated).1.n =
      ((layers.map (·.mould)).filter fun m => b.contributes cru m (tileX w col).1 (tileX w col).2 y0 y1).length := by
  rw [List.filter_map, List.length_map]
  unfold tileTag
  rfl

end Taken

/-! ## The steps of a start -/

section Steps

variable (c : Clk) (b : Block) (cru : Nat)

theorem noteFall_spares (frame band : Nat) (r : LayerRead) :
    Block.Spares (drawnRegs cru) b (noteFall c cru frame band r b) :=
  (Block.Spares.evt (.flag (.setMould (.refl _ b) ..) (mouldStat_not_drawn cru _) true)
    (cruEvt_not_drawn (f := F.CRU_EVT_FALLBACK) rfl rfl cru)).recordLim ..

theorem fetchFailed_spares (band mould col addr kind : Nat) (q : List (Nat × Nat × Nat) × Block) :
    Block.Spares (drawnRegs cru) q.2 (fetchFailed cru band mould col addr kind q).2 :=
  (((Block.Spares.refl _ q.2).evt (cruEvt_not_drawn (f := F.CRU_EVT_FETCH) rfl rfl cru)).record ..).tookFree _

theorem checkFetch_spares (band : Nat) (r : LayerRead) (col : Nat) (ranges : List (Nat × Nat))
    (q : List (Nat × Nat × Nat) × Block) : Block.Spares (drawnRegs cru) q.2 (checkFetch c cru band r col ranges q).2 := by
  unfold checkFetch
  split
  · exact .refl _ q.2
  · split
    · exact .refl _ q.2
    · exact (dramAccess_spares (R := drawnRegs cru) _ _ _ _ _ _ _ _ fun x ⟨h3, h9, _⟩ => ⟨h3, h9⟩).trans
        (fetchFailed_spares cru band r.mould col _ _ (q.1, _))

/-- One band more in composition. -/
def Block.addComp (b : Block) (q : CompBand) : Block := { b with comps := b.comps ++ [q] }

/-- What a start leaves before the capture of the frame begins, and the band that it takes. -/
theorem composeStart_taken {h band k : Nat} (errors : List (Fin 96 × Fin 64 × BitVec 40)) (hslot : b.slotOf h = some (cru, k))
    (hnext : takesNext c b cru k band = true) :
    ∃ b' aidx layers failed unstated, Block.Spares (drawnRegs cru) b b' ∧
      layers.map (·.mould) = bandMoulds b cru k (16 * band) (16 * band + bandLines (b.fmt h).act band - 1) ∧
      composeStart c h band errors b =
        (wbStart c cru k aidx b').addComp (bandTaken c b' cru k band layers failed unstated) := by
  unfold composeStart
  rw [hslot]
  dsimp only
  rw [if_neg (by simp [hnext])]
  refine ⟨_, _, _, _, _, ?_, bandReads_moulds .., rfl⟩
  refine Block.Spares.tookFree (.trans (.trans (.trans (.foldl _ _ (fun r b => ?_) b) (.foldl _ _ (fun r b => ?_) _))
    (.foldlSnd _ _ (fun e q => ?_) ([], _))) (.foldlSnd _ _ (fun col q => ?_) _)) _
  · exact .ite (.refl _ b) ((Block.Spares.refl _ b).flag (mouldStat_not_drawn cru _) false)
  · exact .ite (noteFall_spares ..) (.refl _ b)
  · split
    · exact fetchFailed_spares ..
    · exact .refl _ q.2
  · refine .foldlSnd _ _ (fun r q => ?_) q
    split
    · exact checkFetch_spares ..
    · exact .refl _ q.2

end Steps

/-! ## The band taken -/

theorem slotOf_head {b : Block} {h cru k : Nat} (hq : b.slotOf h = some (cru, k)) : b.slotHead cru k = h := by
  have hfound := List.find?_some hq
  simp only [Bool.and_eq_true, decide_eq_true_eq] at hfound
  exact hfound.2

section Band

variable (c : Clk) {b b' : Block} {cru k h band : Nat} (hs : Block.Spares (drawnRegs cru) b b')
  (hslot : b.slotOf h = some (cru, k)) (layers : List LayerRead) (failed : List (Nat × Nat × Nat)) (unstated : Nat)
include hs hslot

/-- The band's place: its head, its slot's width and background, and the tags of its tiles. -/
theorem bandTaken_place : let q := bandTaken c b' cru k band layers failed unstated
    q.head = h ∧ q.band = band ∧ q.start = c.steady ∧ q.width = b.slotWidth cru k ∧ q.bg = background b cru k ∧
      q.layers = layers ∧ q.tags = (List.range (tileCols (b.slotWidth cru k))).map fun col =>
        (tileTag c b' cru (b.slotWidth cru k) (16 * band) (16 * band + bandLines (b.fmt h).act band - 1) col layers failed
          unstated).1 := by
  obtain ⟨hc, hk⟩ := slotOf_bounds hslot
  have hhead := slotOf_head hslot
  have hlt : h < 64 := hhead ▸ Block.get_lt ..
  have hhead' : b'.slotHead cru k = h := (drawn_slot hs (by decide) (by decide) rfl rfl hc hk).trans hhead
  have hwidth : b'.slotWidth cru k = b.slotWidth cru k := drawn_slot hs (by decide) (by decide) rfl rfl hc hk
  have hbg : background b' cru k = background b cru k := by
    rw [background, background, drawn_slot hs (f := F.CRU_HEAD_BG_BG) (by decide) (by decide) rfl rfl hc hk]
  refine ⟨hhead', rfl, rfl, hwidth, hbg, rfl, ?_⟩
  calc (bandTaken c b' cru k band layers failed unstated).tags
      = ((List.range (tileCols (b'.slotWidth cru k))).map fun col => tileTag c b' cru (b'.slotWidth cru k) (16 * band)
          (16 * band + bandLines (b'.fmt (b'.slotHead cru k)).act band - 1) col layers failed unstated).map (·.1) := rfl
    _ = _ := by rw [List.map_map, hwidth, hhead', drawn_fmt hs hlt]; rfl

/-- A band that starts in its own frame carries that frame's count. -/
theorem bandTaken_frame (hlead : b.slotLead cru k ≤ band) (hrun : (b.ras h).phase = .running) :
    (bandTaken c b' cru k band layers failed unstated).frame = b.frameOf h := by
  obtain ⟨hc, hk⟩ := slotOf_bounds hslot
  have hhead := slotOf_head hslot
  have hlt : h < 64 := hhead ▸ Block.get_lt ..
  have hhead' : b'.slotHead cru k = h := (drawn_slot hs (by decide) (by decide) rfl rfl hc hk).trans hhead
  have hlead' : b'.slotLead cru k = b.slotLead cru k := drawn_slot hs (by decide) (by decide) rfl rfl hc hk
  calc _ = (bandFrame b' (b'.slotHead cru k) (band < b'.slotLead cru k)).1 := rfl
    _ = b'.frameOf h := by
      rw [hhead', hlead', bandFrame]
      simp [hs.ras, hrun, Nat.not_lt.2 hlead]
    _ = b.frameOf h := drawn_frameOf hs hlt

end Band

section Command

variable {s : State} {dt : Nat} {h : Head} {band : Fin 135} {cru k : Nat} (hh : s.blk.hold = .none) (hq : s.blk.quiet = true)
  (hslot : s.blk.slotOf h.val = some (cru, k)) (errors : List (Fin 96 × Fin 64 × BitVec 40))
include hh hq hslot

theorem bandComposeStart_takes (hnext : Claims.takenNext (s.pass dt).clk s.blk cru k band.val)
    (hlead : s.blk.slotLead cru k ≤ band.val) :
    let w := s.blk.slotWidth cru k
    let y0 := 16 * band.val
    let y1 := y0 + bandLines (s.blk.fmt h.val).act band.val - 1
    ∃ (t : State) (q : CompBand), exec (.bandComposeStart dt h band errors) s = .next t ∧ t.clk = (s.pass dt).clk ∧
      t.blk.comps = s.blk.comps ++ [q] ∧
      q.head = h.val ∧ q.band = band.val ∧ q.frame = s.blk.frameOf h.val ∧ q.start = (s.pass dt).clk.steady ∧
      q.width = w ∧ q.bg = background s.blk cru k ∧
      q.layers.map (·.mould) = (s.blk.drawing cru k).filter (fun m => s.blk.contributes cru m 0 (w - 1) y0 y1) ∧
      q.tags.length = tileCols w ∧
      ∀ col, col < tileCols w → ∀ g, q.tags[col]? = some g →
        g.n = (((s.blk.drawing cru k).filter fun m => s.blk.contributes cru m 0 (w - 1) y0 y1).filter fun m =>
          s.blk.contributes cru m (tileX w col).1 (tileX w col).2 y0 y1).length := by
  intro w y0 y1
  have hnext' : takesNext (s.pass dt).clk (s.found dt) cru k band.val = true := takesNext_iff.2 hnext
  have hrun : ((s.found dt).ras h.val).phase = .running := by
    obtain ⟨-, -, hstart⟩ := bandPending_slot hnext.1
    rw [slotOf_head hslot, startReached, if_pos hlead, Bool.and_eq_true, beq_iff_eq] at hstart
    exact hstart.1
  obtain ⟨b', aidx, layers, failed, unstated, hs, hlayers, hstart⟩ := composeStart_taken (s.pass dt).clk (s.found dt) cru errors
    (h := h.val) hslot hnext'
  have hcapture := wbStart_spares (s.pass dt).clk cru b' k aidx
  obtain ⟨hhead, hband, htime, hwidth, hbg, hlay, htags⟩ :=
    bandTaken_place (s.pass dt).clk (band := band.val) hs hslot layers failed unstated
  have hframe := bandTaken_frame (s.pass dt).clk (band := band.val) hs hslot layers failed unstated hlead hrun
  refine ⟨_, _, (State.run_eq_ends s dt _ hh).trans (congrArg (fun b => Host.Outcome.next (s.ends dt b)) hstart), ?_, ?_,
    hhead, hband, hframe, htime, hwidth, hbg, ?_, ?_, fun col hcol g hg => ?_⟩
  · exact State.ends_clk_kept hq (hcapture.newPtp.trans hs.newPtp) (hcapture.clkReset.trans hs.clkReset)
  · rw [State.ends_blk]
    exact congrArg (· ++ _) (hcapture.comps.trans hs.comps)
  · rw [hlay]
    exact hlayers
  · rw [htags, List.length_map, List.length_range]
    rfl
  · have hcol' : col < tileCols ((s.found dt).slotWidth cru k) := hcol
    rw [htags, List.getElem?_map, List.getElem?_range hcol'] at hg
    rw [← Option.some.inj hg, tileTag_count, hlayers]
    exact congrArg List.length (List.filter_congr fun m _ => drawn_contributes hs m ..)

/-- A band that its Crucible does not take next stays. -/
theorem bandComposeStart_keeps (hnext : ¬ Claims.takenNext (s.pass dt).clk s.blk cru k band.val) :
    ∃ t : State, exec (.bandComposeStart dt h band errors) s = .next t ∧ Claims.only s t dt [] ∧ t.blk.comps = s.blk.comps := by
  have hslot' : (s.found dt).slotOf h.val = some (cru, k) := hslot
  have hnot : takesNext (s.pass dt).clk (s.found dt) cru k band.val = false :=
    Bool.eq_false_iff.2 fun ht => hnext (takesNext_iff.1 ht)
  have hstay : composeStart (s.pass dt).clk h.val band.val errors (s.found dt) = s.found dt := by
    unfold composeStart
    rw [hslot']
    exact if_pos (by simp [hnot])
  refine ⟨_, (State.run_eq_ends s dt _ hh).trans (congrArg (fun b => Host.Outcome.next (s.ends dt b)) hstay),
    State.ends_only hq (s.found_touches dt []) rfl, ?_⟩
  rw [State.ends_blk]
  rfl

end Command

end Sys2Proof.Machine
end

section
/-! BAND_COMPOSE_DONE: a band composed is handed over (R157, R158). -/

namespace Sys2Proof.Machine

open Sys2Proof

section Done

variable {c : Clk} {m : Mem} {h band : Nat} {b : Block} {q : CompBand}

/-- The band as it is handed over. -/
def handedBand (m : Mem) (b : Block) (q : CompBand) (h band : Nat) : BandIn :=
  { head := h, band := band, frame := q.frame, tags := q.tags, lists := q.lists, pixels := composedBand m b q }

/-- A band handed over leaves composition, and nothing else changes without a frame in capture. -/
def Block.afterHandover (b : Block) (q : CompBand) (x : BandIn) : Block :=
  { b with
    comps := b.comps.filter fun z => !(z.head = q.head && z.band = q.band && z.frame = q.frame)
    handed := b.handed ++ [x] }

theorem afterHandover_regs (x : BandIn) : (b.afterHandover q x).regs = b.regs := rfl
theorem afterHandover_evq (x : BandIn) : (b.afterHandover q x).evq = b.evq := rfl
theorem afterHandover_out (x : BandIn) : (b.afterHandover q x).out = b.out := rfl
theorem afterHandover_newPtp (x : BandIn) : (b.afterHandover q x).newPtp = b.newPtp := rfl
theorem afterHandover_clkReset (x : BandIn) : (b.afterHandover q x).clkReset = b.clkReset := rfl

theorem composeDone_late (hl : ∀ z ∈ b.comps, z.head = h → z.band = band → compLate c b z = true) :
    composeDone c m h band b = b := by
  have hnone : b.comps.find? (fun q => q.head = h && q.band = band && !compLate c b q) = none := by
    refine List.find?_eq_none.2 fun z hz => ?_
    simp only [Bool.and_eq_true, decide_eq_true_eq, Bool.not_eq_true', not_and]
    intro ⟨hhead, hband⟩
    simp [hl z hz hhead hband]
  unfold composeDone
  rw [hnone]

theorem composeDone_first (hfind : b.comps.find? (fun z => z.head = h && z.band = band && !compLate c b z) = some q)
    (hfirst : b.comps.find? (fun z => z.cru = q.cru && !compLate c b z) = some q) (hw : (b.wb q.cru).frames = []) :
    composeDone c m h band b = b.afterHandover q (handedBand m b q h band) := by
  unfold composeDone
  rw [hfind]
  dsimp only
  rw [if_neg (by simp [hfirst])]
  have hnone : ((b.afterHandover q (handedBand m b q h band)).wb q.cru).frames = [] := hw
  change wbBand c q.cru q.slot q.aidx _ (b.afterHandover q (handedBand m b q h band)) = _
  unfold wbBand
  rw [hnone]
  rfl

end Done

section Pixels

variable (m : Mem) (b : Block) (q : CompBand)

theorem composedBand_length : (composedBand m b q).length = bandLines (b.fmt q.head).act q.band := by
  rw [composedBand, List.length_map, List.length_range]

theorem composedBand_width : ∀ l ∈ composedBand m b q, l.length = q.width := by
  intro l hl
  obtain ⟨y, -, rfl⟩ := List.mem_map.1 hl
  rw [List.length_map, List.length_range]

/-- Where no layer draws, a pixel is the background. -/
theorem composedBand_background (hq : q.layers = []) : ∀ l ∈ composedBand m b q, ∀ p ∈ l, p = q.bg := by
  intro l hl p hp
  obtain ⟨y, -, rfl⟩ := List.mem_map.1 hl
  obtain ⟨x, -, rfl⟩ := List.mem_map.1 hp
  rw [composedPixel, hq, List.foldl_nil]

end Pixels

section Command

variable {s : State} {dt : Nat} {h : Head} {band : Fin 135} (hh : s.blk.hold = .none) (hq : s.blk.quiet = true)
include hh hq

theorem bandComposeDone_late
    (hl : ∀ z ∈ s.blk.comps, z.head = h.val → z.band = band.val → compLate (s.pass dt).clk s.blk z = true) :
    ∃ t : State, exec (.bandComposeDone dt h band) s = .next t ∧ Claims.only s t dt [] ∧ t.blk.handed = s.blk.handed := by
  have hstay : composeDone (s.pass dt).clk s.mem h.val band.val (s.found dt) = s.found dt := composeDone_late hl
  refine ⟨_, (State.run_eq_ends s dt _ hh).trans (congrArg (fun b => Host.Outcome.next (s.ends dt b)) hstay),
    State.ends_only hq (s.found_touches dt []) rfl, ?_⟩
  rw [State.ends_blk]
  rfl

theorem bandComposeDone_hands {q : CompBand}
    (hfind : s.blk.comps.find? (fun z => z.head = h.val && z.band = band.val && !compLate (s.pass dt).clk s.blk z) = some q)
    (hfirst : s.blk.comps.find? (fun z => z.cru = q.cru && !compLate (s.pass dt).clk s.blk z) = some q)
    (hw : (s.blk.wb q.cru).frames = []) :
    ∃ (t : State) (x : BandIn), exec (.bandComposeDone dt h band) s = .next t ∧ t.clk = (s.pass dt).clk ∧
      t.blk.regs = s.blk.regs ∧ t.blk.evq = s.blk.evq ∧ t.blk.out = s.blk.out ∧ t.blk.handed = s.blk.handed ++ [x] ∧ x.head = h.val ∧
      x.band = band.val ∧ x.frame = q.frame ∧ x.tags = q.tags ∧ x.lists = q.lists ∧
      x.pixels.length = bandLines (s.blk.fmt q.head).act q.band ∧
      (∀ l ∈ x.pixels, l.length = q.width) ∧
      (q.layers = [] → ∀ l ∈ x.pixels, ∀ p ∈ l, p = q.bg) ∧
      ∀ z ∈ t.blk.comps, ¬ (z.head = q.head ∧ z.band = q.band ∧ z.frame = q.frame) := by
  have hdone := composeDone_first (m := s.mem) (b := s.found dt) hfind hfirst hw
  refine ⟨_, handedBand s.mem (s.found dt) q h.val band.val,
    (State.run_eq_ends s dt _ hh).trans (congrArg (fun b => Host.Outcome.next (s.ends dt b)) hdone),
    State.ends_clk_kept hq (afterHandover_newPtp _) (afterHandover_clkReset _), ?_, ?_, ?_, ?_, rfl, rfl, rfl, rfl, rfl,
    composedBand_length .., composedBand_width _ _ _, composedBand_background _ _ _, fun z hz => ?_⟩
  · rw [State.ends_blk]
    exact afterHandover_regs (b := s.found dt) (q := q) (handedBand s.mem (s.found dt) q h.val band.val)
  · rw [State.ends_evq, afterHandover_evq]
    rfl
  · rw [State.ends_out, afterHandover_out]
    rfl
  · rw [State.ends_blk]
    rfl
  · rw [State.ends_blk] at hz
    have hkeep := (List.mem_filter.1 hz).2
    rintro ⟨hhead, hband, hframe⟩
    simp [hhead, hband, hframe] at hkeep

end Command

end Sys2Proof.Machine
end

section
/-! What a commit shows of moulds none of which is enabled (R173, R181, R183, R184): status registers, and the release of
buffers. -/

namespace Sys2Proof.Machine

open Sys2Proof

/-! ## Status -/

/-- The registers in which the moulds of a Crucible show their status. -/
def mouldStatus (cru : Nat) : Set Nat :=
  {a | ∃ m < 96, a = F.CRU_M_STAT_BUF.at cru m ∨ a = F.CRU_M_HSTEP_STEP.at cru m ∨ a = F.CRU_M_VSTEP_STEP.at cru m}

theorem mouldStatus_stat {f : Fld} (hf : f.addr = 0x208028) (hi : f.si = 0x10000) (hj : f.sj = 0x40) (cru : Nat) {m : Nat}
    (hm : m < 96) : f.at cru m ∈ mouldStatus cru := ⟨m, hm, .inl (by simp only [Fld.at, hf, hi, hj, F.CRU_M_STAT_BUF]; omega)⟩

theorem mouldStatus_mem {cru a : Nat} (ha : a ∈ mouldStatus cru) : ∃ m < 96, a = 0x208028 + 0x10000 * cru + 0x40 * m ∨
    a = 0x20802C + 0x10000 * cru + 0x40 * m ∨ a = 0x208030 + 0x10000 * cru + 0x40 * m := by
  obtain ⟨m, hm, h⟩ := ha
  refine ⟨m, hm, ?_⟩
  simp only [Fld.at, F.CRU_M_STAT_BUF, F.CRU_M_HSTEP_STEP, F.CRU_M_VSTEP_STEP] at h
  omega

/-- The block after an event shows other status of a Crucible's moulds, and has the waiting writes, the records, the rasters and
all other registers that the block before has. -/
structure Block.Shows (cru : Nat) (b b' : Block) : Prop where
  alters : Block.Alters (mouldStatus cru) b b'
  pendF : b'.pendF = b.pendF
  evq : b'.evq = b.evq
  tim : b'.tim = b.tim
  newPtp : b'.newPtp = b.newPtp
  now : b'.now = b.now

namespace Block.Shows

variable {cru : Nat} {b b' b'' : Block}

theorem refl (cru : Nat) (b : Block) : Shows cru b b := ⟨.refl _ b, rfl, rfl, rfl, rfl, rfl⟩

theorem trans (h : Shows cru b b') (h' : Shows cru b' b'') : Shows cru b b'' :=
  ⟨h.alters.trans h'.alters, h'.pendF.trans h.pendF, h'.evq.trans h.evq, h'.tim.trans h.tim, h'.newPtp.trans h.newPtp,
    h'.now.trans h.now⟩

theorem ite {p : Prop} [Decidable p] (h : Shows cru b b') (h' : Shows cru b b'') : Shows cru b (if p then b' else b'') := by
  split
  · exact h
  · exact h'

theorem put (h : Shows cru b b') {f : Fld} {m : Nat} (hf : f.at cru m ∈ mouldStatus cru) (x : Nat) :
    Shows cru b (b'.put f x cru m) := ⟨h.alters.put hf x, h.pendF, h.evq, h.tim, h.newPtp, h.now⟩

theorem flag (h : Shows cru b b') {f : Fld} {m : Nat} (hf : f.at cru m ∈ mouldStatus cru) (x : Bool) :
    Shows cru b (b'.flag f x cru m) := h.put hf _

/-- An update of the tables of moulds and buffers. -/
theorem keep (h : Shows cru b b') (l : Lad) (t : List (Nat × MouldSt)) : Shows cru b { b' with lad := l, moulds := t } :=
  ⟨h.alters.keep rfl rfl rfl rfl, h.pendF, h.evq, h.tim, h.newPtp, h.now⟩

theorem foldl {α : Type} (g : Block → α → Block) (l : List α) (hg : ∀ a ∈ l, ∀ b, Shows cru b (g b a)) (b : Block) :
    Shows cru b (l.foldl g b) := by
  induction l generalizing b with
  | nil => exact .refl cru b
  | cons a t ih => exact (hg a (by simp) b).trans (ih (fun x hx => hg x (List.mem_cons_of_mem _ hx)) _)

/-- A field of no status register reads as before. -/
theorem get (h : Shows cru b b') {f : Fld} {i j k : Nat} (hf : f.at i j k ∉ mouldStatus cru) : b'.get f i j k = b.get f i j k :=
  h.alters.get hf

/-- The control of the moulds reads as before. -/
theorem mouldCtl (h : Shows cru b b') {f : Fld} (hf : f.addr = 0x208000) (hi : f.si = 0x10000) (hj : f.sj = 0x40) (m : Nat) :
    b'.get f cru m = b.get f cru m :=
  h.get fun hm => by
    obtain ⟨n, -, h⟩ := mouldStatus_mem hm
    simp only [Fld.at, hf, hi, hj] at h
    omega

theorem mouldOn (h : Shows cru b b') (m : Nat) : b'.on F.CRU_M_CTL_EN cru m = b.on F.CRU_M_CTL_EN cru m :=
  congrArg (· == 1) (h.mouldCtl rfl rfl rfl m)

end Block.Shows

/-! ## The steps of a commit -/

section Steps

variable (c : Clk) (cru : Nat) {m : Nat} (b : Block)

theorem groupMoulds_lt {b : Block} {g : Nat} (hm : m ∈ groupMoulds b cru g) : m < 96 :=
  List.mem_range.1 (List.mem_filter.1 hm).1

section Shown

variable (hm : m < 96)
include hm

theorem mouldScaler_shows : Block.Shows cru b (mouldScaler cru m b) := by
  have hstat : ∀ {f : Fld}, f.addr = 0x208028 → f.si = 0x10000 → f.sj = 0x40 → f.at cru m ∈ mouldStatus cru :=
    fun hf hi hj => mouldStatus_stat hf hi hj cru hm
  exact ((((Block.Shows.refl cru b).put (f := F.CRU_M_STAT_NDEC) (hstat rfl rfl rfl) _).put (f := F.CRU_M_STAT_MDEC)
    (hstat rfl rfl rfl) _).put (f := F.CRU_M_HSTEP_STEP) ⟨m, hm, .inr (.inl rfl)⟩ _).put (f := F.CRU_M_VSTEP_STEP)
      ⟨m, hm, .inr (.inr rfl)⟩ _

theorem mouldReport_shows : Block.Shows cru b (mouldReport cru m b) := by
  have hstat : ∀ {f : Fld}, f.addr = 0x208028 → f.si = 0x10000 → f.sj = 0x40 → f.at cru m ∈ mouldStatus cru :=
    fun hf hi hj => mouldStatus_stat hf hi hj cru hm
  exact (((Block.Shows.refl cru b).put (f := F.CRU_M_STAT_BUF) (hstat rfl rfl rfl) _).flag (f := F.CRU_M_STAT_EH)
    (hstat rfl rfl rfl) _).flag (f := F.CRU_M_STAT_NOBUF) (hstat rfl rfl rfl) _

end Shown

theorem releaseBuf_shows (k : Nat) : Block.Shows cru b (releaseBuf k b) := by
  unfold releaseBuf
  exact .ite ((Block.Shows.refl cru b).keep _ b.moulds) ((Block.Shows.refl cru b).keep _ b.moulds)

/-- A mould that takes nothing releases what it held. -/
theorem mouldHold_shows (m : Nat) : Block.Shows cru b (mouldHold cru m {} b) := by
  have hset : Block.Shows cru b (b.setMould cru m {}) := (Block.Shows.refl cru b).keep b.lad _
  unfold mouldHold
  dsimp only
  split
  · split
    · exact (hset.trans (releaseBuf_shows ..)).trans (releaseBuf_shows ..)
    · exact hset.trans (releaseBuf_shows ..)
  · split
    · exact hset.trans (releaseBuf_shows ..)
    · exact hset

theorem mouldDrop_shows (hm : m < 96) : Block.Shows cru b (mouldDrop cru m b) :=
  (Block.Shows.ite (mouldHold_shows ..) (.refl cru b)).trans (mouldReport_shows _ _ hm)

end Steps

section Disabled

variable (c : Clk) {cru : Nat} {b : Block} (hoff : ∀ i : Fin 96, b.on F.CRU_M_CTL_EN cru i.val = false)
include hoff

/-- Moulds that are not enabled take no buffer. -/
theorem takeBuffers_shows (lead g : Nat) (keep : List Nat) : Block.Shows cru b (takeBuffers c lead cru g keep b) := by
  have hmem : ∀ m ∈ groupMoulds b cru g, m < 96 := fun m hm => groupMoulds_lt cru hm
  unfold takeBuffers
  generalize groupMoulds b cru g = l at hmem
  induction l generalizing b with
  | nil => exact .refl cru b
  | cons m t ih =>
    have hm : b.on F.CRU_M_CTL_EN cru m = false := hoff ⟨m, hmem m (by simp)⟩
    rw [List.foldl_cons, if_pos (by simp [hm])]
    have hdrop := mouldDrop_shows cru b (hmem m (by simp))
    exact hdrop.trans (ih (fun i => (hdrop.mouldOn i.val).trans (hoff i)) fun x hx => hmem x (List.mem_cons_of_mem _ hx))

theorem drawing_disabled (k : Nat) : b.drawing cru k = [] := by
  have hnone : (List.range 96).filter (fun m => b.on F.CRU_M_CTL_EN cru m && b.get F.CRU_M_CTL_SLOT cru m = k) = [] :=
    List.filter_eq_nil_iff.2 fun m hm => by simp [hoff ⟨m, List.mem_range.1 hm⟩]
  rw [Block.drawing, hnone]
  rfl

theorem groupMoulds_disabled (g : Nat) (p : Nat → Bool) :
    (groupMoulds b cru g).filter (fun m => b.on F.CRU_M_CTL_EN cru m && p m) = [] :=
  List.filter_eq_nil_iff.2 fun m hm => by
    simp [hoff ⟨m, groupMoulds_lt cru hm⟩]

/-- Without an enabled mould there is nothing that a commit's checks could fail. -/
theorem commitBad_disabled {b0 : Block} (hoff0 : ∀ i : Fin 96, b0.on F.CRU_M_CTL_EN cru i.val = false) (g lead : Nat) :
    commitBad b0 b cru g lead = none := by
  have hl : (groupMoulds b cru g).filter (fun m => b.on F.CRU_M_CTL_EN cru m) = [] := by
    simpa using groupMoulds_disabled hoff g fun _ => true
  have hcrowd : ∀ k, tilesCrowded b cru k = false := fun k => by simp [tilesCrowded, drawing_disabled hoff]
  unfold commitBad
  simp only [hl, List.find?_nil]
  simp [hcrowd, drawing_disabled hoff, drawing_disabled hoff0]

/-- Nor a layer that could be late. -/
theorem lateMoulds_disabled (b0 : Block) (g lead : Nat) : lateMoulds c b0 b cru g lead = [] := by
  unfold lateMoulds
  rw [groupMoulds_disabled hoff g fun m => b.sourced cru m]
  rfl

end Disabled

end Sys2Proof.Machine
end

section
/-! COMMIT_INSTANT: a group's instant puts its pending writes into effect (R17, R78, R181). -/

namespace Sys2Proof.Machine

open Sys2Proof

/-! ## The waiting write -/

/-- The one F field's write that waits is in effect. -/
def Block.writeDone (b : Block) (p : Pend) : Block :=
  ({ b with pendF := [] } : Block).setReg p.addr (merge (b.reg p.addr) p.mask p.val)

section Done

variable {b : Block} {p : Pend}

theorem writeDone_pendF : (b.writeDone p).pendF = [] := rfl
theorem writeDone_reg {a : Nat} (h : p.addr ≠ a) : (b.writeDone p).reg a = b.reg a := Block.reg_setReg_of_ne _ _ h
theorem writeDone_evq : (b.writeDone p).evq = b.evq := by rw [Block.writeDone, Block.setReg_evq]
theorem writeDone_tim : (b.writeDone p).tim = b.tim := by rw [Block.writeDone, Block.setReg_tim]

end Done

section Write

variable {b : Block} {cru g m : Nat} {p : Pend} (hp : b.pendF = [p]) (hripe : b.ripe p = true)
  (hfield : isGroupField b cru g p.addr = true)
include hp hripe hfield

theorem groupApply_one : groupApply cru g b =
    (groupMoulds (b.writeDone p) cru g).foldl (fun b m => mouldScaler cru m b) (b.writeDone p) := by
  have htaken : b.pendF.filter (fun q => isGroupField b cru g q.addr && b.ripe q) = [p] := by simp [hp, hripe, hfield]
  have hleft : b.pendF.filter (fun q => !(isGroupField b cru g q.addr && b.ripe q)) = [] := by simp [hp, hripe, hfield]
  have htake : b.takeF (fun q => isGroupField b cru g q.addr) = b.writeDone p := by
    rw [Block.takeF, htaken, hleft]
    rfl
  unfold groupApply
  simp only [htake]
  rw [if_neg (by simp [hp, hripe, hfield])]

end Write

theorem isGroupField_dst {b : Block} {cru g m : Nat} (hm : m < 96) (hg : b.get F.CRU_M_CTL_GROUP cru m = g) :
    isGroupField b cru g (F.CRU_M_DST_XY_X.at cru m) = true := by
  refine List.any_eq_true.2 ⟨m, List.mem_filter.2 ⟨List.mem_range.2 hm, by simp [hg]⟩, ?_⟩
  simp only [isMouldField, Bool.and_eq_true, decide_eq_true_eq]
  simp only [Fld.at, F.CRU_M_CTL_EN, F.CRU_M_DST_XY_X]
  omega

/-! ## The steps of an instant -/

section Instant

variable {b : Block} {cru g : Nat} {p : Pend}

theorem windowsApply_none (lead : Nat) (hp : b.pendF = []) : windowsApply cru g lead b = b := by
  unfold windowsApply
  refine List.foldl_fixed' (fun w => ?_) _
  dsimp only
  rw [if_pos (by simp [hp])]

theorem anchoredApply_none (c : Clk) (hp : b.pendF = []) : anchoredApply c cru g b = b := by
  unfold anchoredApply
  refine List.foldl_fixed' (fun n => ?_) _
  split
  · unfold srcFieldsTake
    exact if_pos (by simp [hp])
  · rfl

theorem reportLate_none : Block.Shows cru ((b.put F.CRU_GRP_STAT_LATE 0 cru g).put F.CRU_GRP_STAT_FIRST_LATE 0 cru g)
    (reportLate cru g [] b) :=
  .foldl _ _ (fun _ hm b => (Block.Shows.refl cru b).flag (mouldStatus_stat rfl rfl rfl cru (groupMoulds_lt cru hm)) _) _

theorem groupApply_shows (hp : b.pendF = [p]) (hripe : b.ripe p = true) (hfield : isGroupField b cru g p.addr = true) :
    Block.Shows cru (b.writeDone p) (groupApply cru g b) := by
  rw [groupApply_one hp hripe hfield]
  exact .foldl _ _ (fun _ hm b => mouldScaler_shows cru b (groupMoulds_lt cru hm)) _

/-- The group's moulds take their buffers, none of them late, and their excuses end. -/
def commitShown (c : Clk) (cru g lead : Nat) (hold : Bool) (b : Block) : Block :=
  (groupMoulds b cru g).foldl (fun d m =>
    if ([] : List Nat).contains m then d.flag F.CRU_M_STAT_EXCUSED hold cru m
    else if ((groupMoulds b cru g).filter fun m => hasNewer c b lead cru m).contains m then
      d.flag F.CRU_M_STAT_EXCUSED false cru m
    else d) (takeBuffers c lead cru g [] b)

theorem commitShown_shows (c : Clk) (hoff : ∀ i : Fin 96, b.on F.CRU_M_CTL_EN cru i.val = false) (lead : Nat) (hold : Bool) :
    Block.Shows cru b (commitShown c cru g lead hold b) := by
  refine (takeBuffers_shows c hoff lead g []).trans (.foldl _ _ (fun m hm b => ?_) _)
  have hflag : ∀ x, Block.Shows cru b (b.flag F.CRU_M_STAT_EXCUSED x cru m) := fun x =>
    (Block.Shows.refl cru b).flag (mouldStatus_stat rfl rfl rfl cru (groupMoulds_lt cru hm)) x
  exact .ite (hflag hold) (.ite (hflag false) (.refl cru b))

/-- Without an enabled mould a commit that applies puts the write into effect, shows the moulds' status and reports. -/
theorem commitApply_shows (c : Clk) (hp : b.pendF = [p]) (hripe : b.ripe p = true) (hfield : isGroupField b cru g p.addr = true)
    (hoff : ∀ i : Fin 96, (b.writeDone p).on F.CRU_M_CTL_EN cru i.val = false) (lead frame : Nat) (hold : Bool) :
    ∃ b', Block.Shows cru (b.writeDone p) b' ∧ commitApply c cru g lead frame [] hold false true b =
      (b'.put F.CRU_GRP_STAT_HELD 0 cru g).put F.CRU_GRP_FRAME_FRAME frame cru g := by
  have hdone := groupApply_shows hp hripe hfield
  have hshown := hdone.trans (commitShown_shows (g := g) c (fun i => (hdone.mouldOn i.val).trans (hoff i)) lead hold)
  refine ⟨_, hshown, ?_⟩
  calc commitApply c cru g lead frame [] hold false true b
      = ((windowsApply cru g lead (commitShown c cru g lead hold (groupApply cru g b))).put F.CRU_GRP_STAT_HELD 0 cru g).put
          F.CRU_GRP_FRAME_FRAME frame cru g := rfl
    _ = _ := by rw [windowsApply_none lead (hshown.pendF.trans writeDone_pendF)]

end Instant

/-! ## The instant -/

section Due

variable (c : Clk) {b : Block} {cru g m : Nat} {p : Pend}

/-- An instant that is not due changes nothing. -/
theorem commitInstant_early {h : Nat} (hlead : b.slotHead cru (b.get F.CRU_GRP_CFG_LEAD cru g) = h)
    (hwait : commitDue c b h cru g = false) : commitInstant c cru g b = b := by
  unfold commitInstant
  exact if_pos (by simp [hlead, hwait])

/-- A head's frame has had the instant of the group numbered `n`. -/
def Block.markCommit (b : Block) (h n : Nat) : Block := b.setRas h { b.ras h with commits := (b.ras h).commits ++ [n] }

/-- The blocks at which the writes of a group take effect: its instant of the frame has been, and no layer of it is late. -/
def Block.instant (b : Block) (h cru g : Nat) : Block := reportLate cru g [] (b.markCommit h (16 * cru + g))

/-- The group's status register is no control of a mould. -/
theorem groupStat_ctl (b : Block) (x y : Nat) {f : Fld} (hf : f.addr = 0x208000) (hi : f.si = 0x10000) (hj : f.sj = 0x40)
    (n : Nat) : ((b.put F.CRU_GRP_STAT_LATE x cru g).put F.CRU_GRP_STAT_FIRST_LATE y cru g).get f cru n = b.get f cru n := by
  have hne : F.CRU_GRP_STAT_LATE.at cru g ≠ f.at cru n := by
    simp only [Fld.at, F.CRU_GRP_STAT_LATE, hf, hi, hj]
    omega
  exact (Block.get_put_other _ F.CRU_GRP_STAT_FIRST_LATE f _ _ _ _ _ _ _ hne).trans
    (Block.get_put_other _ F.CRU_GRP_STAT_LATE f _ _ _ _ _ _ _ hne)

/-- The waiting write of a placement is no control of a mould. -/
theorem writeDone_ctl (b : Block) (hp : p.addr = F.CRU_M_DST_XY_X.at cru m) {f : Fld} (hf : f.addr = 0x208000)
    (hi : f.si = 0x10000) (hj : f.sj = 0x40) (n : Nat) : (b.writeDone p).get f cru n = b.get f cru n := by
  have hne : p.addr ≠ f.at cru n := by
    rw [hp]
    simp only [Fld.at, F.CRU_M_DST_XY_X, hf, hi, hj]
    omega
  rw [Block.get, writeDone_reg hne, Block.get]

theorem instant_shows (b : Block) (h : Nat) : Block.Shows cru
    (((b.markCommit h (16 * cru + g)).put F.CRU_GRP_STAT_LATE 0 cru g).put F.CRU_GRP_STAT_FIRST_LATE 0 cru g)
    (b.instant h cru g) := reportLate_none

theorem instant_ctl (b : Block) (h : Nat) {f : Fld} (hf : f.addr = 0x208000) (hi : f.si = 0x10000) (hj : f.sj = 0x40)
    (n : Nat) : (b.instant h cru g).get f cru n = b.get f cru n :=
  ((instant_shows b h).mouldCtl hf hi hj n).trans (groupStat_ctl _ 0 0 hf hi hj n)

theorem instant_pendF (b : Block) (h : Nat) : (b.instant h cru g).pendF = b.pendF :=
  (instant_shows b h).pendF.trans (by rw [Block.put_pendF, Block.put_pendF]; rfl)

theorem instant_ripe (b : Block) (h : Nat) (p : Pend) : (b.instant h cru g).ripe p = b.ripe p := by
  rw [Block.ripe, Block.ripe, (instant_shows b h).now, Block.put_now, Block.put_now]
  rfl

variable {h : Nat} (hlead : b.slotHead cru (b.get F.CRU_GRP_CFG_LEAD cru g) = h) (hdue : commitDue c b h cru g = true)
  (hrelock : (b.ras h).relock = false)
  (hoff : ∀ i : Fin 96, b.on F.CRU_M_CTL_EN cru i.val = false) (hm : m < 96)
  (hgroup : b.get F.CRU_M_CTL_GROUP cru m = g) (hp : b.pendF = [p]) (haddr : p.addr = F.CRU_M_DST_XY_X.at cru m)
  (hripe : b.ripe p = true) (hrej : b.on F.CRU_GRP_STAT_REJ cru g = false)
include hlead hdue hrelock hoff hm hgroup hp haddr hripe hrej

theorem commitInstant_applies : ∃ b', Block.Shows cru ((b.instant h cru g).writeDone p) b' ∧ commitInstant c cru g b =
    (b'.put F.CRU_GRP_STAT_HELD 0 cru g).put F.CRU_GRP_FRAME_FRAME (b.frameOf h) cru g := by
  have hfield : isGroupField b cru g p.addr = true := haddr ▸ isGroupField_dst hm hgroup
  have hinst : (b.instant h cru g).pendF = [p] := (instant_pendF b h).trans hp
  have hinstRipe : (b.instant h cru g).ripe p = true := (instant_ripe b h p).trans hripe
  have hinstField : isGroupField (b.instant h cru g) cru g p.addr = true :=
    haddr ▸ isGroupField_dst hm ((instant_ctl b h rfl rfl rfl m).trans hgroup)
  have hinstOff : ∀ i : Fin 96, ((b.instant h cru g).writeDone p).on F.CRU_M_CTL_EN cru i.val = false := fun i =>
    (congrArg (· == 1) ((writeDone_ctl _ haddr rfl rfl rfl i.val).trans (instant_ctl b h rfl rfl rfl i.val))).trans (hoff i)
  obtain ⟨b', hshows, happly⟩ := commitApply_shows c hinst hinstRipe hinstField hinstOff h (b.frameOf h)
    ((b.instant h cru g).on F.CRU_GRP_CFG_POLICY cru g)
  refine ⟨b', hshows, ?_⟩
  have hnone : anchoredApply c cru g ((b'.put F.CRU_GRP_STAT_HELD 0 cru g).put F.CRU_GRP_FRAME_FRAME (b.frameOf h) cru g) = _ :=
    anchoredApply_none c (by rw [Block.put_pendF, Block.put_pendF, hshows.pendF, writeDone_pendF])
  rw [← hnone, ← happly]
  have hmark : b.setRas h { b.ras h with commits := (b.ras h).commits ++ [16 * cru + g] } = b.markCommit h (16 * cru + g) := rfl
  unfold commitInstant Block.instant
  dsimp only
  rw [hlead, if_neg (by simp [hdue]), hmark]
  have hframe : (b.markCommit h (16 * cru + g)).frameOf h = b.frameOf h := rfl
  have hset : (b.markCommit h (16 * cru + g)).pendF = [p] := hp
  have hsetRipe : (b.markCommit h (16 * cru + g)).ripe p = true := hripe
  have hsetRej : (b.markCommit h (16 * cru + g)).on F.CRU_GRP_STAT_REJ cru g = false := hrej
  have hsetField : isGroupField (b.markCommit h (16 * cru + g)) cru g p.addr = true :=
    hfield
  have hsetOff : ∀ i : Fin 96, (b.markCommit h (16 * cru + g)).on F.CRU_M_CTL_EN cru i.val =
    false := hoff
  generalize b.markCommit h (16 * cru + g) = b0 at *
  have hdone := groupApply_shows hset hsetRipe hsetField
  have hdoneOff : ∀ i : Fin 96, (groupApply cru g b0).on F.CRU_M_CTL_EN cru i.val = false := fun i =>
    (hdone.mouldOn i.val).trans ((congrArg (· == 1) (writeDone_ctl b0 haddr rfl rfl rfl i.val)).trans (hsetOff i))
  have hpend : (b0.pendF.any fun q => isGroupField b0 cru g q.addr && b0.ripe q) = true := by
    simp [hset, hsetRipe, hsetField]
  simp only [hsetRej, Bool.not_false, Bool.true_and, hpend, if_true, commitBad_disabled hdoneOff hsetOff,
    lateMoulds_disabled c hdoneOff, hrelock, Bool.false_eq_true, if_false, List.isEmpty_nil, Bool.not_true, Bool.false_and, hframe]

end Due

/-! ## The command -/

section Touched

variable {b b' : Block} {cru g m h : Nat} {p : Pend}

/-- The status of a Crucible's moulds lies in the Crucible's window. -/
theorem Block.Shows.touches (hs : Block.Shows cru b b') : Block.Touches [32 + cru] b b' :=
  hs.alters.touches hs.newPtp fun a ha => by
    obtain ⟨n, hn, hat⟩ := mouldStatus_mem ha
    rw [List.mem_singleton]
    omega

theorem instant_touches (hg : g < 16) : Block.Touches [32 + cru] b (b.instant h cru g) := by
  have hwin : F.CRU_GRP_STAT_LATE.at cru g / 0x10000 ∈ [32 + cru] := by
    simp only [Fld.at, F.CRU_GRP_STAT_LATE, List.mem_singleton]
    omega
  have hmark : Block.Touches [32 + cru] b (b.markCommit h (16 * cru + g)) := (Block.Touches.refl _ b).keep rfl rfl rfl rfl rfl
  exact ((hmark.put hwin 0).put (f := F.CRU_GRP_STAT_FIRST_LATE) hwin 0).trans (instant_shows b h).touches

theorem writeDone_touches (hm : m < 96) (hp : p.addr = F.CRU_M_DST_XY_X.at cru m) :
    Block.Touches [32 + cru] b (b.writeDone p) := by
  have hkeep : Block.Touches [32 + cru] b { b with pendF := [] } := (Block.Touches.refl _ b).keep rfl rfl rfl rfl rfl
  refine hkeep.setReg ?_ _
  rw [hp, List.mem_singleton]
  simp only [Fld.at, F.CRU_M_DST_XY_X]
  omega

theorem instant_evq : (b.instant h cru g).evq = b.evq := by
  rw [(instant_shows b h).evq, Block.put_evq, Block.put_evq]
  rfl

theorem instant_ras : (b.instant h cru g).ras h = { b.ras h with commits := (b.ras h).commits ++ [16 * cru + g] } := by
  rw [Block.ras_of_tim h (instant_shows b h).tim, Block.ras, Block.put_tim, Block.put_tim]
  exact Block.setRas_ras ..

theorem instant_late : (b.instant h cru g).get F.CRU_GRP_STAT_LATE cru g = 0 := by
  rw [(instant_shows b h).get (fun hm => by
      obtain ⟨n, -, hat⟩ := mouldStatus_mem hm
      simp only [Fld.at, F.CRU_GRP_STAT_LATE] at hat
      omega),
    Block.get_put_apart _ F.CRU_GRP_STAT_FIRST_LATE F.CRU_GRP_STAT_LATE (by unfold Fld.fits; decide)
      (by unfold Fld.apart; decide)]
  exact Block.get_put_self _ F.CRU_GRP_STAT_LATE (by decide) (by decide) ..

/-- A placement is none of the registers that an instant reports in. -/
theorem instant_dst (m : Nat) : (b.instant h cru g).reg (F.CRU_M_DST_XY_X.at cru m) = b.reg (F.CRU_M_DST_XY_X.at cru m) := by
  have hne : F.CRU_GRP_STAT_LATE.at cru g ≠ F.CRU_M_DST_XY_X.at cru m := by
    simp only [Fld.at, F.CRU_GRP_STAT_LATE, F.CRU_M_DST_XY_X]
    omega
  rw [(instant_shows b h).alters.reg _ (fun hm => by
    obtain ⟨n, -, hat⟩ := mouldStatus_mem hm
    simp only [Fld.at, F.CRU_M_DST_XY_X] at hat
    omega)]
  exact (Block.reg_setReg_of_ne _ _ hne).trans (Block.reg_setReg_of_ne _ _ hne)

end Touched

theorem State.ends_pendF (s : State) (dt : Nat) (b : Block) : (s.ends dt b).blk.pendF = b.pendF := by rw [State.ends_blk]

section Command

variable {s : State} {dt : Nat} {cru : Cru} {grp : Fin 16} (hh : s.blk.hold = .none) (hq : s.blk.quiet = true)
include hh hq

theorem commitInstant_waits {h : Nat} (hlead : s.blk.slotHead cru.val (s.blk.get F.CRU_GRP_CFG_LEAD cru.val grp.val) = h)
    (hwait : (s.blk.ras h).phase ≠ .running ∨
      lineReached (s.blk.fmt h) (s.blk.ras h) (s.pass dt).clk.steady (s.blk.fmt h).act = false ∨ 16 * cru.val + grp.val ∈ (s.blk.ras h).commits ∨ commitsBefore s.blk h (16 * cru.val + grp.val) = false) :
    ∃ t : State, exec (.commitInstant dt cru grp) s = .next t ∧ Claims.only s t dt [] ∧ t.blk.pendF = s.blk.pendF := by
  have hearly : commitDue (s.pass dt).clk (s.found dt) h cru.val grp.val = false := by
    have hdue : commitDue (s.pass dt).clk s.blk h cru.val grp.val = false := by
      rcases hwait with hphase | hline | hdone | hbefore
      · simp [commitDue, hphase]
      · simp [commitDue, hline]
      · simp [commitDue, hdone]
      · simp [commitDue, hbefore]
    exact hdue
  have hstay := commitInstant_early (s.pass dt).clk (b := s.found dt) (cru := cru.val) (g := grp.val) hlead hearly
  refine ⟨_, (State.run_eq_ends s dt _ hh).trans (congrArg (fun b => Host.Outcome.next (s.ends dt b)) hstay),
    State.ends_only hq (s.found_touches dt []) rfl, State.ends_pendF ..⟩

theorem commitInstant_commits {h : Nat} (hlead : s.blk.slotHead cru.val (s.blk.get F.CRU_GRP_CFG_LEAD cru.val grp.val) = h)
    {m : Fin 96} {p : Pend} (hphase : (s.blk.ras h).phase = .running) (hrelock : (s.blk.ras h).relock = false)
    (hline : lineReached (s.blk.fmt h) (s.blk.ras h) (s.pass dt).clk.steady (s.blk.fmt h).act = true)
    (hfirst : 16 * cru.val + grp.val ∉ (s.blk.ras h).commits) (hbefore : commitsBefore s.blk h (16 * cru.val + grp.val) = true)
    (hripe : p.since ≠ some (s.pass dt).clk.steady) (hoff : ∀ i : Fin 96, s.blk.on F.CRU_M_CTL_EN cru.val i.val = false)
    (hgroup : s.blk.get F.CRU_M_CTL_GROUP cru.val m.val = grp.val) (hp : s.blk.pendF = [p])
    (haddr : p.addr = F.CRU_M_DST_XY_X.at cru.val m.val) (hrej : s.blk.on F.CRU_GRP_STAT_REJ cru.val grp.val = false) :
    ∃ t : State, exec (.commitInstant dt cru grp) s = .next t ∧ Claims.only s t dt [32 + cru.val] ∧ t.blk.pendF = [] ∧
      t.blk.reg p.addr = merge (s.blk.reg p.addr) p.mask p.val ∧
      t.blk.get F.CRU_GRP_FRAME_FRAME cru.val grp.val = s.blk.frameOf h % 2 ^ 32 ∧
      t.blk.get F.CRU_GRP_STAT_HELD cru.val grp.val = 0 ∧ t.blk.get F.CRU_GRP_STAT_LATE cru.val grp.val = 0 ∧
      (t.blk.ras h).commits = (s.blk.ras h).commits ++ [16 * cru.val + grp.val] := by
  have hdue : commitDue (s.pass dt).clk s.blk h cru.val grp.val = true := by simp [commitDue, hphase, hline, hfirst, hbefore]
  have hfound := s.found_touches dt [32 + cru.val]
  have hevq : (s.found dt).evq = s.blk.evq := rfl
  have hreg : ∀ a, (s.found dt).reg a = s.blk.reg a := fun _ => rfl
  have hras : (s.found dt).ras h = s.blk.ras h := rfl
  have hframe : (s.found dt).frameOf h = s.blk.frameOf h := rfl
  obtain ⟨b', hshows, hdone⟩ := commitInstant_applies (s.pass dt).clk (b := s.found dt) hlead hdue hrelock hoff m.isLt hgroup
    hp haddr (decide_eq_true hripe) hrej
  refine ⟨_, (State.run_eq_ends s dt _ hh).trans (congrArg (fun b => Host.Outcome.next (s.ends dt b)) hdone), ?_⟩
  rw [hframe]
  generalize s.found dt = b at *
  have hheld : F.CRU_GRP_STAT_HELD.at cru.val grp.val = 0x200404 + 0x10000 * cru.val + 0x10 * grp.val := by
    simp only [Fld.at, F.CRU_GRP_STAT_HELD]; omega
  have hcount : F.CRU_GRP_FRAME_FRAME.at cru.val grp.val = 0x200408 + 0x10000 * cru.val + 0x10 * grp.val := by
    simp only [Fld.at, F.CRU_GRP_FRAME_FRAME]; omega
  have hdst : F.CRU_M_DST_XY_X.at cru.val m.val = 0x20801C + 0x10000 * cru.val + 0x40 * m.val := by
    simp only [Fld.at, F.CRU_M_DST_XY_X]; omega
  have hlate : F.CRU_GRP_STAT_LATE.at cru.val grp.val = F.CRU_GRP_STAT_HELD.at cru.val grp.val := rfl
  have hwin : ∀ {a : Nat}, a = F.CRU_GRP_STAT_HELD.at cru.val grp.val ∨ a = F.CRU_GRP_FRAME_FRAME.at cru.val grp.val →
      a / 0x10000 ∈ [32 + cru.val] := fun ha => by
    rw [List.mem_singleton]
    omega
  have htouch := ((hfound.trans (instant_touches (h := h) grp.isLt)).trans (writeDone_touches m.isLt haddr)).trans hshows.touches
  refine ⟨State.ends_only hq ((htouch.put (hwin (.inl rfl)) 0).put (hwin (.inr rfl)) _) ?_, ?_, ?_, ?_, ?_, ?_, ?_⟩
  · rw [Block.put_evq, Block.put_evq, hshows.evq, writeDone_evq, instant_evq, hevq]
  · rw [State.ends_pendF, Block.put_pendF, Block.put_pendF, hshows.pendF, writeDone_pendF]
  · rw [State.ends_reg, Block.put, Block.reg_setReg_of_ne _ _ (by rw [hcount, haddr, hdst]; omega), Block.put,
      Block.reg_setReg_of_ne _ _ (by rw [hheld, haddr, hdst]; omega), hshows.alters.reg _ (fun hm => by
        obtain ⟨n, -, hat⟩ := mouldStatus_mem hm
        omega), Block.writeDone, Block.reg_setReg_same, haddr, instant_dst, hreg]
  · rw [State.ends_get]
    exact Block.get_put_same _ F.CRU_GRP_FRAME_FRAME (by unfold Fld.fits; decide) ..
  · rw [State.ends_get, Block.get_put_other _ F.CRU_GRP_FRAME_FRAME F.CRU_GRP_STAT_HELD _ _ _ _ _ _ _
      (by rw [hcount, hheld]; omega)]
    exact Block.get_put_self _ F.CRU_GRP_STAT_HELD (by decide) (by decide) ..
  · rw [State.ends_get, Block.get_put_other _ F.CRU_GRP_FRAME_FRAME F.CRU_GRP_STAT_LATE _ _ _ _ _ _ _
        (by rw [hcount, hlate, hheld]; omega),
      Block.get_put_apart _ F.CRU_GRP_STAT_HELD F.CRU_GRP_STAT_LATE (by unfold Fld.fits; decide) (by unfold Fld.apart; decide),
      hshows.get (fun hm => by
        obtain ⟨n, -, hat⟩ := mouldStatus_mem hm
        omega)]
    rw [Block.get, writeDone_reg (by rw [haddr, hdst, hlate, hheld]; omega)]
    exact instant_late
  · have htim : ∀ x y, ((b'.put F.CRU_GRP_STAT_HELD x cru.val grp.val).put F.CRU_GRP_FRAME_FRAME y cru.val grp.val).tim =
        (b.instant h cru.val grp.val).tim := fun x y => by
      rw [Block.put_tim, Block.put_tim, hshows.tim, writeDone_tim]
    rw [State.ends_ras, Block.ras_of_tim h (htim ..), instant_ras, hras]

end Command

end Sys2Proof.Machine
end

section
/-! Bands, commits and their instants as the claim states them (R157, R158, R161, R178, R181). -/

namespace Sys2Proof.Machine

open Sys2Proof

/-- Settles O18, command by command. -/
theorem bandsComposeAndCommitsApply : Obligations.BandsComposeAndCommitsApply := by
  intro dt s hh hq
  dsimp only
  refine ⟨fun h band cru k hslot => ⟨fun errors hnext hlead => bandComposeStart_takes hh hq hslot errors hnext hlead,
    fun errors hnext => bandComposeStart_keeps hh hq hslot errors hnext, bandComposeDone_late hh hq,
    fun q hfind hfirst hw => bandComposeDone_hands hh hq hfind hfirst hw⟩, fun cru grp => ⟨?_, commitInstant_waits hh hq rfl⟩⟩
  intro m p hphase hrelock hline hfirst hbefore hripe hoff hgroup hp haddr hrej
  exact commitInstant_commits hh hq rfl hphase hrelock hline hfirst hbefore hripe hoff hgroup hp haddr hrej

end Sys2Proof.Machine
end

section
/-! The rules about the Fettler's records: what a head's record reads after an update, and the report of a checked band, which lies
in the Fettler's own event flags and records (R193, R218, R228). -/

namespace Sys2Proof.Machine

open Sys2Proof

/-! ## The record of a head -/

section Heads

variable (b : Block) (h : Nat) (x : FetHead)

@[simp] theorem Block.fet_setFet_same : (b.setFet h x).fet h = x := tget_tput_same ..
@[simp] theorem Block.get_setFet (f : Fld) (i j k : Nat) : (b.setFet h x).get f i j k = b.get f i j k := rfl
@[simp] theorem Block.on_setFet (f : Fld) (i j k : Nat) : (b.setFet h x).on f i j k = b.on f i j k := rfl
@[simp] theorem Block.evq_setFet : (b.setFet h x).evq = b.evq := rfl
@[simp] theorem Block.fet_put (f : Fld) (v i j k n : Nat) : (b.put f v i j k).fet n = b.fet n := rfl
@[simp] theorem Block.fet_flag (f : Fld) (v : Bool) (i j k n : Nat) : (b.flag f v i j k).fet n = b.fet n := rfl

@[simp] theorem Block.fet_recordLim (c : Clk) (key period code sev p0 p1 p2 p3 inst n : Nat) :
    (b.recordLim c key period code sev p0 p1 p2 p3 inst).fet n = b.fet n := by
  unfold Block.recordLim
  split <;> rfl

theorem Block.Touches.setFet {ws : List Nat} {b b' : Block} (ht : Block.Touches ws b b') (n : Nat) (y : FetHead) :
    Block.Touches ws b (b'.setFet n y) := ht.keep rfl rfl rfl rfl rfl

end Heads

/-! ## Records under a rate limit -/

/-- A record under a rate limit drops none of the records before it. -/
theorem Block.evq_prefix_recordLim (b : Block) (c : Clk) (key period code sev p0 p1 p2 p3 inst : Nat) :
    b.evq <+: (b.recordLim c key period code sev p0 p1 p2 p3 inst).evq := by
  unfold Block.recordLim
  split
  · exact List.prefix_append ..
  · exact List.prefix_refl _

/-- The first record under a limit is made. -/
theorem Block.recordLim_first {b : Block} {key : Nat} (hl : b.limits.lookup key = none) (c : Clk)
    (period code sev p0 p1 p2 p3 inst : Nat) :
    b.recordLim c key period code sev p0 p1 p2 p3 inst =
      Block.record { b with limits := sparseInsert key c.steady b.limits } code sev p0 p1 p2 p3 inst := by
  have hok : b.limitOk c key period = true := by simp [Block.limitOk, hl]
  rw [Block.recordLim, if_pos hok]

/-! ## The report of a checked band -/

/-- The block after the report of a band of head `h`: the flag HATCH and records have been added, and nothing else of what the
Fettler shows of the band has changed. -/
structure Block.Reports (h : Nat) (b b' : Block) : Prop where
  touches : Block.Touches [36] b b'
  get : ∀ f : Fld, F.FET_EVT_HATCH.apart f → ∀ i j k, b'.get f i j k = b.get f i j k
  bands : (b'.fet h).bands = (b.fet h).bands
  evq : b.evq <+: b'.evq

namespace Block.Reports

variable {h : Nat} {b b' b'' : Block}

theorem refl (h : Nat) (b : Block) : Reports h b b := ⟨.refl _ b, fun _ _ _ _ _ => rfl, rfl, List.prefix_refl _⟩

theorem trans (hr : Reports h b b') (hr' : Reports h b' b'') : Reports h b b'' :=
  ⟨hr.touches.trans hr'.touches, fun f hf i j k => (hr'.get f hf i j k).trans (hr.get f hf i j k), hr'.bands.trans hr.bands,
    hr.evq.trans hr'.evq⟩

theorem ite {p : Prop} [Decidable p] (hr : Reports h b b') (hr' : Reports h b b'') : Reports h b (if p then b' else b'') := by
  split
  · exact hr
  · exact hr'

theorem recordLim (hr : Reports h b b') (c : Clk) (key period code sev p0 p1 p2 p3 inst : Nat) :
    Reports h b (b'.recordLim c key period code sev p0 p1 p2 p3 inst) :=
  hr.trans ⟨(Block.Touches.refl _ b').recordLim .., fun f _ i j k => Block.get_recordLim .., by simp, Block.evq_prefix_recordLim ..⟩

/-- The head is noted as hatching or not. -/
theorem hatching (hr : Reports h b b') (v : Bool) : Reports h b (b'.setFet h { b'.fet h with hatching := v }) :=
  hr.trans ⟨(Block.Touches.refl _ b').setFet .., fun _ _ _ _ _ => rfl, by simp, List.prefix_refl _⟩

theorem hatch (hr : Reports h b b') : Reports h b (b'.evt F.FET_EVT_HATCH) :=
  hr.trans ⟨(Block.Touches.refl _ b').evt (by decide),
    fun f hf i j k => Block.get_put_apart b' F.FET_EVT_HATCH f (by unfold Fld.fits; decide) hf .., rfl, List.prefix_refl _⟩

theorem foldl {α : Type} (g : Block → α → Block) (hg : ∀ b a, Reports h b (g b a)) (l : List α) (b : Block) :
    Reports h b (l.foldl g b) := by
  induction l generalizing b with
  | nil => exact refl h b
  | cons a t ih => exact (hg b a).trans (ih _)

theorem on (hr : Reports h b b') {f : Fld} (hf : F.FET_EVT_HATCH.apart f) (i j k : Nat) : b'.on f i j k = b.on f i j k :=
  congrArg (· == 1) (hr.get f hf i j k)

end Block.Reports

section Report

variable (c : Clk) (h : Nat) (x : CheckedBand) (worst : List Nat) (b : Block)

theorem hatchStop_reports (index : Nat) : Block.Reports h b (hatchStop c h index b) :=
  ((Block.Reports.refl h b).hatching false).recordLim ..

theorem noteHatch_reports : Block.Reports h b (noteHatch c h x worst b) := by
  unfold noteHatch
  dsimp only
  have hstop : Block.Reports h b (if 0 < x.hatched && x.band = 0 && (b.fet h).hatching && 0 < x.frame && cleanFrame b h (x.frame - 1)
      then hatchStop c h (b.fidx h) b else b) := .ite (hatchStop_reports ..) (.refl h b)
  exact .ite hstop ((hstop.hatching true).hatch.recordLim ..)

theorem signBand_reports : Block.Reports h b (signBand h x b) := by
  refine Block.Reports.foldl _ (fun b w => ?_) _ b
  dsimp only
  exact .ite (.refl h b) ⟨(Block.Touches.refl _ b).keep rfl rfl rfl rfl rfl, fun _ _ _ _ _ => rfl, rfl, List.prefix_refl _⟩

/-- A band is kept: it is listed last, BAND names it, and it is reported. -/
def Block.listBand (h : Nat) (x : CheckedBand) (b : Block) : Block :=
  (b.setFet h { b.fet h with bands := (b.fet h).bands ++ [x] }).put F.FET_HEAD_STAT_BAND x.band h

theorem keepBand_reports : Block.Reports h (b.listBand h x) (keepBand c h x worst b) :=
  Block.Reports.ite (noteHatch_reports ..) ((noteHatch_reports ..).trans (signBand_reports ..))

theorem keepBand_bands : ((keepBand c h x worst b).fet h).bands = (b.fet h).bands ++ [x] := by
  rw [(keepBand_reports c h x worst b).bands, Block.listBand, Block.fet_put, Block.fet_setFet_same]

theorem keepBand_evq : b.evq <+: (keepBand c h x worst b).evq := (keepBand_reports c h x worst b).evq

variable {h}

theorem fetHeadStat_window (hh : h < 64) : F.FET_HEAD_STAT_BAND.at h / 0x10000 = 36 := by
  simp only [Fld.at, F.FET_HEAD_STAT_BAND]
  omega

theorem keepBand_touches (hh : h < 64) : Block.Touches [36] b (keepBand c h x worst b) :=
  (((Block.Touches.refl [36] b).setFet ..).put (by simp [fetHeadStat_window hh]) _).trans (keepBand_reports c h x worst b).touches

theorem keepBand_band (hx : x.band < 256) : (keepBand c h x worst b).get F.FET_HEAD_STAT_BAND h = x.band := by
  rw [(keepBand_reports c h x worst b).get _ (by unfold Fld.apart; decide)]
  exact Block.get_put_self _ F.FET_HEAD_STAT_BAND (by decide) hx ..

/-- A flag other than HATCH and outside the field BAND stays. -/
theorem keepBand_on {f : Fld} (hf : F.FET_EVT_HATCH.apart f) (hb : F.FET_HEAD_STAT_BAND.apart f) (i j k : Nat) :
    (keepBand c h x worst b).on f i j k = b.on f i j k :=
  ((keepBand_reports c h x worst b).on hf i j k).trans
    (congrArg (· == 1) (Block.get_put_apart _ F.FET_HEAD_STAT_BAND f (by unfold Fld.fits; decide) hb ..))

end Report

end Sys2Proof.Machine
end

section
/-! The verdicts of a band (R193, R197), and BAND_CHECK of a band above 0 as one of its outcomes (R159, R197, R198, R225). -/

namespace Sys2Proof.Machine

open Sys2Proof

/-! ## Verdicts -/

section Verdicts

variable (c : Clk) (b : Block)

/-- The least of some numbers and a bound lies below `n` where the bound does or one of the numbers does. -/
theorem foldl_min_lt {α : Type} (f : α → Nat) (n : Nat) (l : List α) (d : Nat) :
    l.foldl (fun d a => min d (f a)) d < n ↔ d < n ∨ ∃ a ∈ l, f a < n := by
  induction l generalizing d with
  | nil => simp
  | cons a t ih => simp [ih, or_assoc]

/-- A tile's verdict is the table's: an age saturates at what MAXAGE can hold, so that a tile without a source is never stale. -/
theorem tileVerdict_eq_verdict (g : Tag) (l : List Nat) : tileVerdict c b g l = Claims.verdict c b g l := by
  have hcap : ¬65535 < ageMs c.ns64 g.oldest := by simp [ageMs]
  have hstale : (!l.isEmpty && decide (l.foldl (fun d s => min d (b.get F.LAD_SRC_MAXAGE_MAXAGE s)) 65535 < ageMs c.ns64 g.oldest)) =
      decide (∃ s ∈ l, b.get F.LAD_SRC_MAXAGE_MAXAGE s < ageMs c.ns64 g.oldest) := by
    simp only [foldl_min_lt, hcap, false_or]
    cases l with
    | nil => simp
    | cons a t => simp
  unfold tileVerdict Claims.verdict
  dsimp only
  rw [hstale]
  by_cases h3 : g.cls = 3
  · rw [if_pos h3, if_pos h3]
  by_cases h2 : g.cls = 2 ∨ ∃ s ∈ l, b.get F.LAD_SRC_MAXAGE_MAXAGE s < ageMs c.ns64 g.oldest
  · rw [if_neg h3, if_neg h3, if_pos h2, if_pos (by simpa using h2)]
  rw [if_neg h3, if_neg h3, if_neg h2, if_neg (by simpa using h2)]
  by_cases h1 : g.cls = 1
  · cases hs : g.dslag <;> simp [h1]
  · simp [h1]

/-- The verdict looks at registers only. -/
theorem verdict_of_regs {b b' : Block} (hr : b'.regs = b.regs) (g : Tag) (l : List Nat) :
    Claims.verdict c b' g l = Claims.verdict c b g l := by
  have hget : @Block.get b' = @Block.get b := by
    funext f i j k
    rw [Block.get, Block.get, Block.reg, Block.reg, hr]
  rw [Claims.verdict, hget, ← Claims.verdict]

theorem tileVerdict_absent {g : Tag} (hg : g.cls = 3) (l : List Nat) : tileVerdict c b g l = 3 := if_pos hg

variable {b} {h : Nat} {x : BandIn}

/-- A band above 0 with no window slagged in its frame takes the verdicts of its tiles. -/
theorem judgeBand_verdicts (hs : (b.fet h).shown = []) (hx : x.band ≠ 0) (w : Nat) :
    (judgeBand c b h w x).verdicts = (x.tags.zip x.lists).map fun q => tileVerdict c b q.1 q.2 := by
  unfold judgeBand
  simp only [hs, if_neg hx, List.filter_nil, List.any_nil, Bool.false_eq_true, if_false]
  exact List.zipIdx_map_fst 0 _

/-- A band all of whose tiles are ABSENT has verdict 3 throughout. -/
theorem judgeBand_absent (hs : (b.fet h).shown = []) (hx : x.band ≠ 0) (hl : x.lists.length = x.tags.length)
    (ha : ∀ g ∈ x.tags, g.cls = 3) (w : Nat) : (judgeBand c b h w x).verdicts = List.replicate x.tags.length 3 := by
  rw [judgeBand_verdicts c hs hx, List.eq_replicate_iff]
  refine ⟨by simp [hl], fun v hv => ?_⟩
  obtain ⟨q, hq, rfl⟩ := List.mem_map.1 hv
  exact tileVerdict_absent c b (ha _ (List.of_mem_zip hq).1) _

end Verdicts

/-! ## The check -/

/-- A band above 0 of a running head that is processed is due for its check. -/
structure CheckDue (c : Clk) (b : Block) (h band : Nat) : Prop where
  above : 0 < band
  inFrame : band < (b.fmt h).bands
  phase : (b.ras h).phase = .running
  reached : lineReached (b.fmt h) (b.ras h) c.steady (16 * band - 1) = true
  first : ∀ x ∈ (b.fet h).bands, x.band = band → x.frame ≠ b.frameOf h
  runs : b.fetRuns h = true

/-- A band's composition, and what has been handed over of it, are given up. -/
def Block.dropBand (h band : Nat) (b : Block) : Block :=
  { b with
    comps := b.comps.filter fun q => !(q.head = h && q.band = band)
    handed := b.handed.filter fun x => !(x.head = h && x.band = band) }

/-- The Fettler takes what has been handed over of a band. -/
def Block.takeBand (h band : Nat) (b : Block) : Block :=
  { b with handed := b.handed.filter fun x => !(x.head = h && x.band = band) }

theorem dropBand_touches (ws : List Nat) (h band : Nat) (b : Block) : Block.Touches ws b (b.dropBand h band) :=
  (Block.Touches.refl ws b).keep rfl rfl rfl rfl rfl

theorem takeBand_touches (ws : List Nat) (h band : Nat) (b : Block) : Block.Touches ws b (b.takeBand h band) :=
  (Block.Touches.refl ws b).keep rfl rfl rfl rfl rfl

theorem takeBand_fet (h band n : Nat) (b : Block) : (b.takeBand h band).fet n = b.fet n := rfl

/-- A band that was not delivered: NODELIV is set, and recorded where it was not set (R198). -/
def noteUndelivered (c : Clk) (h band : Nat) (b : Block) : Block :=
  let b' := b.flag F.FET_HEAD_STAT_NODELIV true h
  if !b.on F.FET_HEAD_STAT_NODELIV h then
    b'.recordLim c (0x240B0000 + h) sTick 0x240B 5 h band (bandIndex b' h band) (undeliveredCause b' h)
  else b'

/-- The Fettler judges what it was given of a band (R193, R197, R198). -/
def settleBand (c : Clk) (h band w frame : Nat) (got : Option BandIn) (b : Block) : Block :=
  match got with
  | some x => keepBand c h (judgeBand c b h w x) (x.tags.map (·.worst)) (b.flag F.FET_HEAD_STAT_NODELIV false h)
  | none => keepBand c h (fullSlag (noteUndelivered c h band b) h w band frame false) [] (noteUndelivered c h band b)

theorem settleBand_some (c : Clk) (h band w frame : Nat) (x : BandIn) (b : Block) :
    settleBand c h band w frame (some x) b =
      keepBand c h (judgeBand c b h w x) (x.tags.map (·.worst)) (b.flag F.FET_HEAD_STAT_NODELIV false h) := by
  rw [settleBand]

theorem settleBand_none (c : Clk) (h band w frame : Nat) (b : Block) :
    settleBand c h band w frame none b =
      keepBand c h (fullSlag (noteUndelivered c h band b) h w band frame false) [] (noteUndelivered c h band b) := by
  rw [settleBand]

section Check

variable {c : Clk} {m : Mem} {h band : Nat} {complete : List Nat} {b : Block}

/-- The frame under way is the one that a band above 0 belongs to. -/
theorem CheckDue.frame (hd : CheckDue c b h band) : (bandFrame b h (decide (band = 0))).1 = b.frameOf h := by
  simp [bandFrame, hd.phase, Nat.ne_of_gt hd.above]

/-- A band that is due is not left unchecked. -/
theorem CheckDue.not_skipped (hd : CheckDue c b h band) :
    ((b.fmt h).bands ≤ band || !checkReached c b h band ||
      (b.fet h).bands.any fun x => x.band = band && x.frame = b.frameOf h) = false := by
  obtain ⟨habove, hin, hphase, hline, hfirst, -⟩ := hd
  simpa [checkReached, habove, hphase, hline] using ⟨hin, hfirst⟩

/-- In slag frames every tile of a band is slag (R225). -/
theorem bandCheck_slag (hd : CheckDue c b h band) (hs : b.slagHead h = true) :
    bandCheck c m h band complete b =
      keepBand c h (fullSlag (b.dropBand h band) h (b.headWidth h) band (b.frameOf h) true) [] (b.dropBand h band) := by
  have hzero : (decide (band = 0) && decide ((b.fet h).rel = 1)) = false := by simp [Nat.ne_of_gt hd.above]
  unfold bandCheck
  simp only [hd.frame, hd.not_skipped, hzero, hd.runs, hs, Bool.false_eq_true, if_false, Bool.and_self, if_true]
  rfl

/-- Out of slag frames the Fettler judges what has been handed over of the band by its check line. -/
theorem bandCheck_settles (hd : CheckDue c b h band) (hs : b.slagHead h = false) {b' : Block}
    (hm : missBand c m h band (b.frameOf h) complete b = b') (hr : b'.fetRuns h = true)
    {got : Option BandIn} (hg : (b'.handed.find? fun x => (x.head = h && x.band = band) && x.frame = b.frameOf h) = got) :
    bandCheck c m h band complete b =
      settleBand c h band (b.headWidth h) (b.frameOf h) got (b'.takeBand h band) := by
  have hzero : (decide (band = 0) && decide ((b.fet h).rel = 1)) = false := by simp [Nat.ne_of_gt hd.above]
  have hr' : ¬(!(b'.takeBand h band).fetRuns h) = true := by
    rw [show (b'.takeBand h band).fetRuns h = true from hr]
    decide
  subst hm hg
  unfold bandCheck settleBand
  simp only [hd.frame, hd.not_skipped, hzero, hs, Bool.false_eq_true, if_false, Bool.and_false]
  exact if_neg hr'

end Check

/-! ## What is handed over by the check line -/

section Miss

variable {c : Clk} {m : Mem} {h band frame : Nat} {b : Block}

/-- Nothing is missed of a band that is not in composition where it was handed over or its head has no slot that runs. -/
theorem missBand_none (hc : ∀ q ∈ b.comps, q.head = h → q.band ≠ band)
    (hh : (∀ q, b.slotOf h = some q → b.slotRuns q.1 q.2 = false) ∨
      (b.handed.any fun x => (x.head = h && x.band = band) && x.frame = frame) = true) (complete : List Nat) :
    missBand c m h band frame complete b = b := by
  have hnone : b.comps.find? (fun q => (q.head = h && q.band = band) && q.frame = frame) = none :=
    List.find?_eq_none.2 fun q hq => by
      simp only [Bool.and_eq_true, decide_eq_true_eq, not_and]
      exact fun ⟨hhead, hband⟩ => absurd hband (hc q hq hhead)
  have hlate : lateBand c h band frame b = (none, b) := by
    unfold lateBand
    rw [hnone]
    dsimp only
    split
    · rfl
    · next cru k hslot =>
      refine if_pos ?_
      rcases hh with hstill | hgiven
      · simp [hstill _ hslot]
      · rw [hgiven, Bool.or_true]
  unfold missBand
  rw [hlate]

/-- A band none of whose tiles is complete, as it is handed over at its check line (R159). -/
def missedBand (m : Mem) (b : Block) (q : CompBand) (h band : Nat) : BandIn :=
  { head := h, band := band, frame := q.frame, tags := q.tags.zipIdx.map fun t => missTag t.1, lists := q.lists,
    pixels := (composedBand m b q).map fun l => l.zipIdx.map fun _ => (2048, 2048, 2048) }

/-- The miss of a band is counted, flagged and recorded (R159, code 0x2004). -/
def noteMiss (c : Clk) (h band : Nat) (q : CompBand) (b : Block) : Block :=
  ((b.noteEvent c 0 1).evt F.CRU_EVT_MISSED q.cru).record (inst := q.cru) 0x2004 5 h band q.frame q.tags.length

/-- A band in composition with no tile complete is handed over with all of them missed. -/
theorem missBand_missed {q : CompBand}
    (hfind : b.comps.find? (fun z => (z.head = h && z.band = band) && z.frame = frame) = some q)
    (hw : (b.wb q.cru).frames = []) (ht : 0 < q.tags.length) :
    missBand c m h band frame [] b = (noteMiss c h band q b).afterHandover q (missedBand m b q h band) := by
  have hlate : lateBand c h band frame b = (some q, b) := by
    unfold lateBand
    rw [hfind]
  have hn : ((List.range q.tags.length).filter fun _ => true).length = q.tags.length := by simp
  have hframes : (((noteMiss c h band q b).afterHandover q (missedBand m b q h band)).wb q.cru).frames = [] := hw
  unfold missBand
  rw [hlate]
  simp only [ite_self, List.contains_nil, Bool.not_false, hn, if_neg (Nat.ne_of_gt ht), Bool.false_eq_true, if_false]
  change wbBand c q.cru q.slot q.aidx _ ((noteMiss c h band q b).afterHandover q (missedBand m b q h band)) = _
  unfold wbBand
  rw [hframes]
  rfl

end Miss

end Sys2Proof.Machine
end

section
/-! BAND_CHECK of a band above 0, as the claim states it (R159, R193, R197, R198, R225). -/

namespace Sys2Proof.Machine

open Sys2Proof

section Settle

variable {c : Clk} {h band w frame : Nat} {b : Block}

theorem fetHeadStat_nodeliv (hh : h < 64) : F.FET_HEAD_STAT_NODELIV.at h / 0x10000 ∈ [36] := by
  rw [show F.FET_HEAD_STAT_NODELIV.at h = F.FET_HEAD_STAT_BAND.at h from rfl, fetHeadStat_window hh]
  decide

theorem noteUndelivered_touches (hh : h < 64) : Block.Touches [36] b (noteUndelivered c h band b) := by
  unfold noteUndelivered
  have hflag := (Block.Touches.refl [36] b).flag (fetHeadStat_nodeliv hh) true
  exact .ite (hflag.recordLim ..) hflag

theorem noteUndelivered_fet (n : Nat) : (noteUndelivered c h band b).fet n = b.fet n := by
  unfold noteUndelivered
  dsimp only
  split
  · rw [Block.fet_recordLim, Block.fet_flag]
  · rw [Block.fet_flag]

theorem noteUndelivered_on : (noteUndelivered c h band b).on F.FET_HEAD_STAT_NODELIV h = true := by
  have hflag : (b.flag F.FET_HEAD_STAT_NODELIV true h).on F.FET_HEAD_STAT_NODELIV h = true :=
    Block.on_flag_same b F.FET_HEAD_STAT_NODELIV (by unfold Fld.fits; decide) rfl true ..
  unfold noteUndelivered
  dsimp only
  split
  · rw [Block.on, Block.get_recordLim]
    exact hflag
  · exact hflag

/-- The first band that is not delivered is recorded. -/
theorem noteUndelivered_records (hoff : b.on F.FET_HEAD_STAT_NODELIV h = false) (hl : b.limits.lookup (0x240B0000 + h) = none) :
    ∃ e ∈ (noteUndelivered c h band b).evq, e.code = 0x240B ∧ e.p0 = BitVec.ofNat 32 h ∧ e.p1 = BitVec.ofNat 32 band := by
  have hlim : (b.flag F.FET_HEAD_STAT_NODELIV true h).limits.lookup (0x240B0000 + h) = none := by
    rwa [Block.flag_limits]
  unfold noteUndelivered
  dsimp only
  rw [if_pos (by simp [hoff]), Block.recordLim_first hlim]
  exact ⟨_, List.mem_append_right _ (List.mem_singleton_self _), rfl, rfl, rfl⟩

end Settle

section Command

variable {s : State} {dt : Nat} {h : Head} {band : Fin 135} {complete : List (Fin 64)}

theorem exec_bandCheck (hh : s.blk.hold = .none) : exec (.bandCheck dt h band complete) s =
    .next (s.ends dt (bandCheck (s.pass dt).clk s.mem h.val band.val (complete.map (·.val)) (s.found dt))) :=
  State.run_eq_ends s dt _ hh

variable (hh : s.blk.hold = .none) (hq : s.blk.quiet = true) (hd : CheckDue (s.pass dt).clk (s.found dt) h.val band.val)

/-- The outcome of a check that the claim states: one band is kept, with verdicts `v`. -/
def Checked (s : State) (dt : Nat) (h : Head) (band : Fin 135) (complete : List (Fin 64)) (v : List Nat) (slag : Bool) : Prop :=
  ∃ t x, exec (.bandCheck dt h band complete) s = .next t ∧ Claims.within s t dt [36] ∧
    (t.blk.fet h.val).bands = (s.blk.fet h.val).bands ++ [x] ∧ x.band = band.val ∧ x.frame = s.blk.frameOf h.val ∧
    x.verdicts = v ∧ x.slag = slag ∧ t.blk.get F.FET_HEAD_STAT_BAND h.val = band.val ∧
    (slag = false → t.blk.on F.FET_HEAD_STAT_NODELIV h.val =
      !s.blk.handed.any fun y => (y.head = h.val && y.band = band.val) && y.frame = s.blk.frameOf h.val) ∧
    (slag = false → (∀ y ∈ s.blk.handed, y.head = h.val → y.band ≠ band.val) →
      s.blk.on F.FET_HEAD_STAT_NODELIV h.val = false → s.blk.limits.lookup (0x240B0000 + h.val) = none →
      ∃ e ∈ t.blk.evq, e.code = 0x240B ∧ e.p0 = BitVec.ofNat 32 h.val ∧ e.p1 = BitVec.ofNat 32 band.val)

include hh hq

/-- A check that keeps the band `x` on blocks `b` that differ from those it found in the Fettler's window only. -/
theorem checked_of_keeps {b : Block} {x : CheckedBand} {worst : List Nat} {v : List Nat} {slag : Bool}
    (hexec : bandCheck (s.pass dt).clk s.mem h.val band.val (complete.map (·.val)) (s.found dt) =
      keepBand (s.pass dt).clk h.val x worst b)
    (ht : Block.Touches [36] s.blk b) (hf : (b.fet h.val).bands = (s.blk.fet h.val).bands) (hx : x.band = band.val)
    (hxf : x.frame = s.blk.frameOf h.val) (hv : x.verdicts = v) (hs : x.slag = slag)
    (hn : slag = false → b.on F.FET_HEAD_STAT_NODELIV h.val =
      !s.blk.handed.any fun y => (y.head = h.val && y.band = band.val) && y.frame = s.blk.frameOf h.val)
    (he : slag = false → (∀ y ∈ s.blk.handed, y.head = h.val → y.band ≠ band.val) →
      s.blk.on F.FET_HEAD_STAT_NODELIV h.val = false → s.blk.limits.lookup (0x240B0000 + h.val) = none →
      ∃ e ∈ b.evq, e.code = 0x240B ∧ e.p0 = BitVec.ofNat 32 h.val ∧ e.p1 = BitVec.ofNat 32 band.val) :
    Checked s dt h band complete v slag := by
  have hband := band.isLt
  refine ⟨_, x, (exec_bandCheck hh).trans (congrArg (fun b => Host.Outcome.next (s.ends dt b)) hexec), ?_, ?_, hx, hxf, hv, hs, ?_,
    fun hns => ?_, fun hns hnone hoff hl => ?_⟩
  · exact State.ends_within hq (ht.trans (keepBand_touches _ _ _ _ h.isLt))
  · rw [State.ends_fet, keepBand_bands, hf]
  · rw [State.ends_get, keepBand_band _ _ _ _ (by omega), hx]
  · rw [State.ends_on, keepBand_on _ _ _ _ (by unfold Fld.apart; decide) (by unfold Fld.apart; decide), hn hns]
  · obtain ⟨e, hmem, hcode⟩ := he hns hnone hoff hl
    exact ⟨e, by rw [State.ends_evq]; exact (keepBand_evq ..).subset hmem, hcode⟩

include hd

theorem bandCheck_slagFrame (hs : s.blk.slagHead h.val = true) :
    Checked s dt h band complete (List.replicate (tileCols (s.blk.headWidth h.val)) 3) true :=
  checked_of_keeps hh hq (bandCheck_slag hd hs)
    ((s.found_touches dt [36]).trans (dropBand_touches [36] h.val band.val (s.found dt))) rfl rfl rfl rfl rfl
    (fun hns => absurd hns (by decide)) (fun hns => absurd hns (by decide))

variable (hs : s.blk.slagHead h.val = false) (hcomps : ∀ q ∈ s.blk.comps, q.head = h.val → q.band ≠ band.val)
include hs hcomps

/-- A delivered band takes the table's verdicts. -/
theorem bandCheck_delivers (hshown : (s.blk.fet h.val).shown = []) {y : BandIn}
    (hy : s.blk.handed.find? (fun y => (y.head = h.val && y.band = band.val) && y.frame = s.blk.frameOf h.val) = some y) :
    Checked s dt h band complete ((y.tags.zip y.lists).map fun q => Claims.verdict (s.pass dt).clk s.blk q.1 q.2) false := by
  have hfound := List.find?_some hy
  simp only [Bool.and_eq_true, decide_eq_true_eq] at hfound
  obtain ⟨⟨hyhead, hyband⟩, hyframe⟩ := hfound
  have hymem := List.mem_of_find?_eq_some hy
  have hany : (s.blk.handed.any fun y => (y.head = h.val && y.band = band.val) && y.frame = s.blk.frameOf h.val) = true :=
    List.any_eq_true.2 ⟨y, hymem, by simp [hyhead, hyband, hyframe]⟩
  have hmiss : missBand (s.pass dt).clk s.mem h.val band.val ((s.found dt).frameOf h.val) (complete.map (·.val)) (s.found dt) =
      s.found dt := missBand_none (b := s.found dt) hcomps (.inr hany) _
  have hexec := bandCheck_settles hd hs hmiss hd.runs hy
  rw [settleBand_some] at hexec
  have hkept := (s.found_touches dt [36]).trans (takeBand_touches [36] h.val band.val (s.found dt))
  refine checked_of_keeps hh hq hexec (hkept.flag (fetHeadStat_nodeliv h.isLt) false)
    (by rw [Block.fet_flag, takeBand_fet]; rfl) hyband hyframe ?_ rfl (fun _ => ?_) (fun _ hnone => absurd hyband (hnone y hymem hyhead))
  · rw [judgeBand_verdicts _ (b := (s.found dt).takeBand h.val band.val) hshown (by rw [hyband]; exact Nat.ne_of_gt hd.above)]
    simp only [tileVerdict_eq_verdict, verdict_of_regs _ (b := s.blk) (b' := (s.found dt).takeBand h.val band.val) rfl]
  · rw [hany]
    exact Block.on_flag_same _ F.FET_HEAD_STAT_NODELIV (by unfold Fld.fits; decide) rfl false ..

/-- A band that its head's slot does not deliver is slag. -/
theorem bandCheck_undelivered (hnone : ∀ y ∈ s.blk.handed, y.head = h.val → y.band ≠ band.val)
    (hslot : ∀ q, s.blk.slotOf h.val = some q → s.blk.slotRuns q.1 q.2 = false) :
    Checked s dt h band complete (List.replicate (tileCols (s.blk.headWidth h.val)) 3) false := by
  have hfar : ∀ y ∈ s.blk.handed,
      ¬((y.head = h.val && y.band = band.val) && y.frame = s.blk.frameOf h.val) = true := fun y hy => by
    simp only [Bool.and_eq_true, decide_eq_true_eq, not_and]
    exact fun ⟨hhead, hband⟩ => absurd hband (hnone y hy hhead)
  have hmiss : missBand (s.pass dt).clk s.mem h.val band.val ((s.found dt).frameOf h.val) (complete.map (·.val)) (s.found dt) =
      s.found dt := missBand_none (b := s.found dt) hcomps (.inl hslot) _
  have hexec := bandCheck_settles hd hs hmiss hd.runs (List.find?_eq_none.2 hfar)
  rw [settleBand_none] at hexec
  have hany : (s.blk.handed.any fun y => (y.head = h.val && y.band = band.val) && y.frame = s.blk.frameOf h.val) = false :=
    List.any_eq_false.2 hfar
  have hkept := (s.found_touches dt [36]).trans (takeBand_touches [36] h.val band.val (s.found dt))
  refine checked_of_keeps hh hq hexec (hkept.trans (noteUndelivered_touches h.isLt)) ?_ rfl rfl rfl rfl (fun _ => ?_)
    (fun _ _ hoff hl => noteUndelivered_records hoff hl)
  · rw [noteUndelivered_fet]
    rfl
  · rw [hany]
    exact noteUndelivered_on

end Command

/-! ## A band missed -/

section Missed

variable (c : Clk) (n m : Nat) (q : CompBand) (b : Block)

theorem cruEvtMissed_at (cru : Nat) : F.CRU_EVT_MISSED.at cru = 0x200008 + 0x10000 * cru := by
  simp only [Fld.at, F.CRU_EVT_MISSED]
  omega

theorem noteMiss_touches : Block.Touches [32 + q.cru] b (noteMiss c n m q b) := by
  have hat : F.CRU_EVT_MISSED.at q.cru / 0x10000 ∈ [32 + q.cru] := by
    rw [cruEvtMissed_at, List.mem_singleton]
    omega
  have hnoted : Block.Touches [32 + q.cru] b (b.noteEvent c 0 1) := (Block.Touches.refl _ b).keep rfl rfl rfl rfl rfl
  exact (hnoted.evt hat).record ..

/-- A flag in no event register of a Crucible stays. -/
theorem noteMiss_on {f : Fld} {i j k : Nat} (hf : f.at i j k % 0x10000 ≠ 8) : (noteMiss c n m q b).on f i j k = b.on f i j k :=
  congrArg (· == 1) (Block.get_put_other (b.noteEvent c 0 1) F.CRU_EVT_MISSED f 1 _ _ _ _ _ _ (by
    rw [cruEvtMissed_at]
    omega))

theorem noteMiss_flags : (noteMiss c n m q b).on F.CRU_EVT_MISSED q.cru = true :=
  Block.on_evt (b.noteEvent c 0 1) (by unfold Fld.fits; decide) rfl ..

theorem noteMiss_records : ∃ e ∈ (noteMiss c n m q b).evq, e.code = 0x2004 ∧ e.p0 = BitVec.ofNat 32 n ∧ e.p1 = BitVec.ofNat 32 m :=
  ⟨_, List.mem_append_right _ (List.mem_singleton_self _), rfl, rfl, rfl⟩

/-- A missed band leaves its head processed. -/
theorem noteMiss_fetRuns (h : Nat) : (noteMiss c n m q b).fetRuns h = b.fetRuns h := by
  have hdom : (noteMiss c n m q b).domOn 9 = b.domOn 9 :=
    congrArg (bit · 9) (Block.get_put_other (b.noteEvent c 0 1) F.CRU_EVT_MISSED F.PWR_DOM_STAT_ON 1 _ _ _ _ _ _ (by
      rw [cruEvtMissed_at]
      simp only [Fld.at_zero, F.PWR_DOM_STAT_ON]
      omega))
  rw [Block.fetRuns, Block.fetRuns, hdom, noteMiss_on _ _ _ _ _ (f := F.FET_CTL_EN) (by decide),
    noteMiss_on _ _ _ _ _ (f := F.FET_HEAD_CTL_EN) (by simp only [Fld.at, F.FET_HEAD_CTL_EN]; omega),
    noteMiss_on _ _ _ _ _ (f := F.TIM_HEAD_STAT_RUN) (by simp only [Fld.at, F.TIM_HEAD_STAT_RUN]; omega)]

variable {s : State} {dt : Nat} {h : Head} {band : Fin 135} {q}

/-- A band that is in composition with no tile complete is judged as it is handed over: ABSENT throughout. -/
theorem bandCheck_misses (hh : s.blk.hold = .none) (hq : s.blk.quiet = true)
    (hd : CheckDue (s.pass dt).clk (s.found dt) h.val band.val) (hs : s.blk.slagHead h.val = false)
    (hshown : (s.blk.fet h.val).shown = [])
    (hfind : s.blk.comps.find? (fun z => (z.head = h.val && z.band = band.val) && z.frame = s.blk.frameOf h.val) = some q)
    (hw : (s.blk.wb q.cru).frames = []) (ht : 0 < q.tags.length) (hl : q.lists.length = q.tags.length)
    (hnone : ∀ y ∈ s.blk.handed, y.head = h.val → y.band ≠ band.val) :
    ∃ t x, exec (.bandCheck dt h band []) s = .next t ∧ Claims.within s t dt [36, 32 + q.cru] ∧
      (t.blk.fet h.val).bands = (s.blk.fet h.val).bands ++ [x] ∧ x.band = band.val ∧
      x.verdicts = List.replicate q.tags.length 3 ∧ t.blk.on F.CRU_EVT_MISSED q.cru = true ∧
      ∃ e ∈ t.blk.evq, e.code = 0x2004 ∧ e.p0 = BitVec.ofNat 32 h.val ∧ e.p1 = BitVec.ofNat 32 band.val := by
  have hframe : q.frame = (s.found dt).frameOf h.val := by
    have hfound := List.find?_some hfind
    simp only [Bool.and_eq_true, decide_eq_true_eq] at hfound
    exact hfound.2
  let c := (s.pass dt).clk
  let x := missedBand s.mem (s.found dt) q h.val band.val
  let b := noteMiss c h.val band.val q (s.found dt)
  have hgot : ((b.afterHandover q x).handed.find? fun x =>
      (x.head = h.val && x.band = band.val) && x.frame = (s.found dt).frameOf h.val) = some x := by
    refine (List.find?_append ..).trans ?_
    rw [List.find?_eq_none.2 fun y hy => ?_, Option.none_or, List.find?_singleton, if_pos]
    · simpa [x, missedBand] using hframe
    · simp only [Bool.and_eq_true, decide_eq_true_eq, not_and]
      exact fun ⟨hhead, hband⟩ => absurd hband (hnone y hy hhead)
  have hruns : (b.afterHandover q x).fetRuns h.val = true := (noteMiss_fetRuns c h.val band.val q (s.found dt) h.val).trans hd.runs
  have hexec := bandCheck_settles hd hs (missBand_missed (c := c) (m := s.mem) (b := s.found dt) hfind hw ht) hruns hgot
  rw [settleBand_some] at hexec
  have hgiven : Block.Touches [36, 32 + q.cru] s.blk (b.afterHandover q x) :=
    ((s.found_touches dt _).andThen (noteMiss_touches c h.val band.val q _) (by simp)).keep rfl rfl rfl rfl rfl
  have hnodeliv : F.FET_HEAD_STAT_NODELIV.at h.val / 0x10000 ∈ [36, 32 + q.cru] :=
    List.mem_cons.2 (.inl (List.mem_singleton.1 (fetHeadStat_nodeliv h.isLt)))
  have hflagged := (hgiven.trans (takeBand_touches _ h.val band.val _)).flag hnodeliv false
  have hwithin := hflagged.andThen (keepBand_touches c (judgeBand c ((b.afterHandover q x).takeBand h.val band.val) h.val
      ((s.found dt).headWidth h.val) x) (x.tags.map (·.worst)) _ h.isLt)
    fun w hw => List.mem_cons.2 (.inl (List.mem_singleton.1 hw))
  refine ⟨_, judgeBand c ((b.afterHandover q x).takeBand h.val band.val) h.val ((s.found dt).headWidth h.val) x,
    (exec_bandCheck hh).trans (congrArg (fun b => Host.Outcome.next (s.ends dt b)) hexec), State.ends_within hq hwithin,
    ?_, ?_, ?_, ?_, ?_⟩
  · rw [State.ends_fet, keepBand_bands, Block.fet_flag, takeBand_fet]
    rfl
  · rfl
  · rw [judgeBand_absent _ (b := (b.afterHandover q x).takeBand h.val band.val) hshown (Nat.ne_of_gt hd.above)]
    · simp [x, missedBand]
    · simp [x, missedBand, hl]
    · intro g hg
      obtain ⟨y, -, rfl⟩ := List.mem_map.1 hg
      rfl
  · rw [State.ends_on]
    refine (keepBand_on _ _ _ _ (by unfold Fld.apart; decide) (by unfold Fld.apart; decide) ..).trans ?_
    exact (congrArg (· == 1) (Block.get_put_apart _ F.FET_HEAD_STAT_NODELIV F.CRU_EVT_MISSED (by unfold Fld.fits; decide)
      (by unfold Fld.apart; decide) ..)).trans (noteMiss_flags c h.val band.val q (s.found dt))
  · obtain ⟨e, hmem, hcode⟩ := noteMiss_records c h.val band.val q (s.found dt)
    exact ⟨e, by rw [State.ends_evq]; exact (keepBand_evq ..).subset hmem, hcode⟩

end Missed

end Sys2Proof.Machine
end

section
/-! REGION_SIGNATURE_COMPARE (R219): what a window shows after its last line. -/

namespace Sys2Proof.Machine

open Sys2Proof

/-- A window shows the signature of its last frame and whether it is the one expected (R219). -/
def Block.showSignature (w sig : Nat) (ok : Bool) (b : Block) : Block :=
  ((b.put F.FET_RSW_LAST_LAST sig w).flag F.FET_RSW_STAT_MATCH ok w).flag F.FET_RSW_STAT_SLAGGED (!ok) w

/-- A window's signature begins anew, after `n` slagged frames. -/
def Block.restartSignature (w n : Nat) (b : Block) : Block :=
  { b with rsws := tput {} b.rsws w { frame := 0, bad := n } }

section Show

variable (w sig : Nat) (ok : Bool) (b : Block)

theorem fetRswStat_window (hw : w < 512) : F.FET_RSW_STAT_MISS.at w / 0x10000 ∈ [36] := by
  rw [List.mem_singleton]
  simp only [Fld.at, F.FET_RSW_STAT_MISS]
  omega

theorem fetRswLast_window (hw : w < 512) : F.FET_RSW_LAST_LAST.at w / 0x10000 ∈ [36] := by
  rw [List.mem_singleton]
  simp only [Fld.at, F.FET_RSW_LAST_LAST]
  omega

theorem showSignature_touches (hw : w < 512) : Block.Touches [36] b (b.showSignature w sig ok) :=
  (((Block.Touches.refl [36] b).put (fetRswLast_window w hw) sig).flag (f := F.FET_RSW_STAT_MATCH) (fetRswStat_window w hw) ok).flag
    (f := F.FET_RSW_STAT_SLAGGED) (fetRswStat_window w hw) (!ok)

/-- The signature's register lies apart from the window's status. -/
theorem fetRswLast_ne_stat : F.FET_RSW_STAT_MISS.at w ≠ F.FET_RSW_LAST_LAST.at w := by
  simp only [Fld.at, F.FET_RSW_STAT_MISS, F.FET_RSW_LAST_LAST]
  omega

theorem showSignature_last (hs : sig < 2 ^ 32) : (b.showSignature w sig ok).get F.FET_RSW_LAST_LAST w = sig := by
  have hne := fetRswLast_ne_stat w
  unfold Block.showSignature
  rw [Block.flag, Block.get_put_other _ F.FET_RSW_STAT_SLAGGED _ _ _ _ _ _ _ _ hne, Block.flag,
    Block.get_put_other _ F.FET_RSW_STAT_MATCH _ _ _ _ _ _ _ _ hne]
  exact Block.get_put_self b F.FET_RSW_LAST_LAST (by decide) hs ..

theorem showSignature_match : (b.showSignature w sig ok).on F.FET_RSW_STAT_MATCH w = ok :=
  (congrArg (· == 1) (Block.get_put_apart _ F.FET_RSW_STAT_SLAGGED F.FET_RSW_STAT_MATCH (by unfold Fld.fits; decide)
    (by unfold Fld.apart; decide) ..)).trans (Block.on_flag_same _ F.FET_RSW_STAT_MATCH (by unfold Fld.fits; decide) rfl ok ..)

theorem showSignature_slagged : (b.showSignature w sig ok).on F.FET_RSW_STAT_SLAGGED w = !ok :=
  Block.on_flag_same _ F.FET_RSW_STAT_SLAGGED (by unfold Fld.fits; decide) rfl (!ok) ..

theorem showSignature_miss : (b.showSignature w sig ok).get F.FET_RSW_STAT_MISS w = b.get F.FET_RSW_STAT_MISS w := by
  unfold Block.showSignature
  rw [Block.flag, Block.get_put_apart _ _ _ (by unfold Fld.fits; decide) (by unfold Fld.apart; decide), Block.flag,
    Block.get_put_apart _ _ _ (by unfold Fld.fits; decide) (by unfold Fld.apart; decide)]
  exact Block.get_put_other b F.FET_RSW_LAST_LAST F.FET_RSW_STAT_MISS sig _ _ _ _ _ _ (fetRswLast_ne_stat w).symm

end Show

/-- A window whose signature is right: a record where it was slagged. -/
def signatureRight (w h bad sig : Nat) (was : Bool) (b : Block) : Block :=
  let b' := b.showSignature w sig true
  (if was then b'.record 0x2406 3 w h bad else b').restartSignature w 0

/-- A window whose signature is wrong: the miss is counted and flagged, and recorded where the window was not slagged yet. -/
def signatureWrong (c : Clk) (w h bad sig : Nat) (was : Bool) (b : Block) : Block :=
  let b' := ((b.showSignature w sig false).inc F.FET_RSW_STAT_MISS w).evt F.FET_EVT_RSW
  (if was then b'
    else b'.recordLim c (0x24050000 + w) sTick 0x2405 5 w h (b'.get F.FET_RSW_EXP_EXP w) sig).restartSignature w
    (if was then bad + 1 else 1)

section Outcomes

variable (w h bad sig : Nat) (was : Bool) (b : Block)

theorem restartSignature_touches {b' : Block} (ws : List Nat) (n : Nat) (ht : Block.Touches ws b b') :
    Block.Touches ws b (b'.restartSignature w n) := ht.keep rfl rfl rfl rfl rfl

theorem restartSignature_get (n : Nat) (f : Fld) (i j k : Nat) : (b.restartSignature w n).get f i j k = b.get f i j k := rfl

theorem signatureRight_touches (hw : w < 512) : Block.Touches [36] b (signatureRight w h bad sig was b) :=
  restartSignature_touches w b _ _ (.ite ((showSignature_touches w sig true b hw).record ..) (showSignature_touches w sig true b hw))

theorem signatureRight_get (f : Fld) (i j k : Nat) :
    (signatureRight w h bad sig was b).get f i j k = (b.showSignature w sig true).get f i j k := by
  rw [signatureRight, restartSignature_get]
  split
  · exact Block.get_record ..
  · rfl

theorem signatureRight_records : (signatureRight w h bad sig true b).evq.map (·.code) = b.evq.map (·.code) ++ [0x2406] :=
  Block.record_codes ..

theorem signatureWrong_touches (c : Clk) (hw : w < 512) : Block.Touches [36] b (signatureWrong c w h bad sig was b) := by
  have hnoted := ((showSignature_touches w sig false b hw).inc (fetRswStat_window w hw) 1).evt (f := F.FET_EVT_RSW) (i := 0) (j := 0)
    (by decide)
  exact restartSignature_touches w b _ _ (.ite hnoted (hnoted.recordLim ..))

theorem signatureWrong_get (c : Clk) (f : Fld) (i j k : Nat) :
    (signatureWrong c w h bad sig was b).get f i j k =
      (((b.showSignature w sig false).inc F.FET_RSW_STAT_MISS w).evt F.FET_EVT_RSW).get f i j k := by
  rw [signatureWrong, restartSignature_get]
  split
  · rfl
  · exact Block.get_recordLim ..

/-- Beside the events and the count of misses, a wrong window shows what a right one does. -/
theorem signatureWrong_get_apart (c : Clk) {f : Fld} (he : F.FET_EVT_RSW.apart f) (hm : F.FET_RSW_STAT_MISS.apart f) (i j k : Nat) :
    (signatureWrong c w h bad sig was b).get f i j k = (b.showSignature w sig false).get f i j k := by
  rw [signatureWrong_get, Block.get_evt, Block.get_put_apart _ _ _ (by unfold Fld.fits; decide) he]
  exact Block.get_put_apart _ F.FET_RSW_STAT_MISS _ (by unfold Fld.fits; decide) hm ..

end Outcomes

section Compare

variable {c : Clk} {w : Nat} {b : Block}

/-- A window's signature is compared once its last line has passed and all its lines have been taken. -/
structure CompareDue (c : Clk) (w : Nat) (b : Block) : Prop where
  enabled : b.on F.FET_RSW_CFG_EN w = true
  phase : (b.ras (b.get F.FET_RSW_CFG_HEAD w)).phase = .running
  frame : (tget {} b.rsws w).frame = b.frameOf (b.get F.FET_RSW_CFG_HEAD w) + 1
  lines : (tget {} b.rsws w).lines = b.get F.FET_RSW_WH_H w
  reached : lineReached (b.fmt (b.get F.FET_RSW_CFG_HEAD w)) (b.ras (b.get F.FET_RSW_CFG_HEAD w)) c.steady
    (b.get F.FET_RSW_XY_Y w + b.get F.FET_RSW_WH_H w) = true

theorem signatureCompare_off (hoff : b.on F.FET_RSW_CFG_EN w = false) : signatureCompare c w b = b := by
  unfold signatureCompare
  exact if_pos (by simp [hoff])

theorem signatureCompare_of_eq (hd : CompareDue c w b) (hok : (~~~ (tget {} b.rsws w).crc).toNat = b.get F.FET_RSW_EXP_EXP w) :
    signatureCompare c w b = signatureRight w (b.get F.FET_RSW_CFG_HEAD w) (tget {} b.rsws w).bad
      (~~~ (tget {} b.rsws w).crc).toNat (b.on F.FET_RSW_STAT_SLAGGED w) b := by
  obtain ⟨hen, hphase, hframe, hlines, hline⟩ := hd
  unfold signatureCompare
  simp only [hen, hphase, hframe, hlines, hline, beq_self_eq_true, Bool.and_self, decide_true, Bool.not_true, Bool.or_self, ne_eq,
    not_true_eq_false, decide_false, Bool.false_eq_true, if_false, if_pos hok, decide_eq_true hok]
  rfl

theorem signatureCompare_of_ne (hd : CompareDue c w b) (hok : (~~~ (tget {} b.rsws w).crc).toNat ≠ b.get F.FET_RSW_EXP_EXP w) :
    signatureCompare c w b = signatureWrong c w (b.get F.FET_RSW_CFG_HEAD w) (tget {} b.rsws w).bad
      (~~~ (tget {} b.rsws w).crc).toNat (b.on F.FET_RSW_STAT_SLAGGED w) b := by
  obtain ⟨hen, hphase, hframe, hlines, hline⟩ := hd
  unfold signatureCompare
  simp only [hen, hphase, hframe, hlines, hline, beq_self_eq_true, Bool.and_self, decide_true, Bool.not_true, Bool.or_self, ne_eq,
    not_true_eq_false, decide_false, Bool.false_eq_true, if_false, if_neg hok, decide_eq_false hok]
  rfl

end Compare

section Command

variable {s : State} {dt : Nat} {win : Fin 512}

theorem exec_signatureCompare (hh : s.blk.hold = .none) : exec (.regionSignatureCompare dt win) s =
    .next (s.ends dt (signatureCompare (s.pass dt).clk win.val (s.found dt))) :=
  State.run_eq_ends s dt _ hh

variable (hh : s.blk.hold = .none) (hq : s.blk.quiet = true)
include hh hq

/-- A window that is not enabled is not compared. -/
theorem signatureCompare_idle (hoff : s.blk.on F.FET_RSW_CFG_EN win.val = false) :
    ∃ t : State, exec (.regionSignatureCompare dt win) s = .next t ∧ Claims.only s t dt [] := by
  refine ⟨_, exec_signatureCompare hh, State.ends_only hq ?_ ?_⟩
  · rw [signatureCompare_off (b := s.found dt) hoff]
    exact s.found_touches dt []
  · rw [signatureCompare_off (b := s.found dt) hoff]
    rfl

variable (hd : CompareDue (s.pass dt).clk win.val (s.found dt))
include hd

/-- The signature that was expected: the window reads so, and leaves its slag with a record. -/
theorem signatureCompare_right
    (hok : (~~~ (tget {} s.blk.rsws win.val).crc).toNat = s.blk.get F.FET_RSW_EXP_EXP win.val) :
    ∃ t : State, exec (.regionSignatureCompare dt win) s = .next t ∧ Claims.within s t dt [36] ∧
      t.blk.get F.FET_RSW_LAST_LAST win.val = (~~~ (tget {} s.blk.rsws win.val).crc).toNat ∧
      t.blk.on F.FET_RSW_STAT_MATCH win.val = true ∧ t.blk.on F.FET_RSW_STAT_SLAGGED win.val = false ∧
      (s.blk.on F.FET_RSW_STAT_SLAGGED win.val = true → Claims.records s t [0x2406]) := by
  have hexec := exec_signatureCompare (win := win) (dt := dt) hh
  rw [signatureCompare_of_eq hd hok] at hexec
  refine ⟨_, hexec, State.ends_within hq ((s.found_touches dt _).trans (signatureRight_touches _ _ _ _ _ _ win.isLt)), ?_, ?_, ?_,
    fun hwas => ?_⟩
  · rw [State.ends_get, signatureRight_get]
    exact showSignature_last _ _ _ _ (BitVec.isLt _)
  · rw [State.ends_on, Block.on, signatureRight_get]
    exact showSignature_match ..
  · rw [State.ends_on, Block.on, signatureRight_get]
    exact showSignature_slagged ..
  · rw [Claims.records, State.ends_evq, show (s.found dt).on F.FET_RSW_STAT_SLAGGED win.val = true from hwas]
    exact signatureRight_records ..

/-- Another signature than the one expected: the window slags, and the miss is counted and flagged. -/
theorem signatureCompare_wrong
    (hok : (~~~ (tget {} s.blk.rsws win.val).crc).toNat ≠ s.blk.get F.FET_RSW_EXP_EXP win.val) :
    ∃ t : State, exec (.regionSignatureCompare dt win) s = .next t ∧ Claims.within s t dt [36] ∧
      t.blk.get F.FET_RSW_LAST_LAST win.val = (~~~ (tget {} s.blk.rsws win.val).crc).toNat ∧
      t.blk.on F.FET_RSW_STAT_MATCH win.val = false ∧ t.blk.on F.FET_RSW_STAT_SLAGGED win.val = true ∧
      t.blk.on F.FET_EVT_RSW = true ∧ t.blk.get F.FET_RSW_STAT_MISS win.val =
        min (2 ^ F.FET_RSW_STAT_MISS.width - 1) (s.blk.get F.FET_RSW_STAT_MISS win.val + 1) := by
  have hexec := exec_signatureCompare (win := win) (dt := dt) hh
  rw [signatureCompare_of_ne hd hok] at hexec
  refine ⟨_, hexec, State.ends_within hq ((s.found_touches dt _).trans (signatureWrong_touches _ _ _ _ _ _ _ win.isLt)), ?_, ?_, ?_,
    ?_, ?_⟩
  · rw [State.ends_get, signatureWrong_get, Block.get_evt, Block.get_put_other _ F.FET_EVT_RSW]
    · refine (Block.get_put_other _ F.FET_RSW_STAT_MISS F.FET_RSW_LAST_LAST _ _ _ _ _ _ _ (fetRswLast_ne_stat _)).trans ?_
      exact showSignature_last _ _ _ _ (BitVec.isLt _)
    · simp only [Fld.at, F.FET_EVT_RSW, F.FET_RSW_LAST_LAST]
      omega
  · rw [State.ends_on, Block.on, signatureWrong_get_apart _ _ _ _ _ _ _ (by unfold Fld.apart; decide) (by unfold Fld.apart; decide)]
    exact showSignature_match ..
  · rw [State.ends_on, Block.on, signatureWrong_get_apart _ _ _ _ _ _ _ (by unfold Fld.apart; decide) (by unfold Fld.apart; decide)]
    exact showSignature_slagged ..
  · rw [State.ends_on, Block.on, signatureWrong_get]
    exact Block.on_evt _ (by unfold Fld.fits; decide) rfl ..
  · rw [State.ends_get, signatureWrong_get, Block.get_evt, Block.get_put_other _ F.FET_EVT_RSW]
    · rw [Block.get_inc _ (by unfold Fld.fits; decide), showSignature_miss]
      rfl
    · simp only [Fld.at, F.FET_EVT_RSW, F.FET_RSW_STAT_MISS]
      omega

end Command

end Sys2Proof.Machine
end

section
/-! FREEZE_TICK (R213, R214): what a tracked source shows after it, source by source. -/

namespace Sys2Proof.Machine

open Sys2Proof

/-! ## What the evaluation of one source leaves of another -/

/-- What freeze detection holds and shows of source `s` stays, and so does the event FROZEN once it is set. -/
structure Block.LeavesFrz (s : Nat) (b b' : Block) : Prop where
  touches : Block.Touches [36] b b'
  stat : b'.reg (F.FET_FRZ_STAT_FROZEN.at s) = b.reg (F.FET_FRZ_STAT_FROZEN.at s)
  frz : b'.frzOf s = b.frzOf s
  event : b.on F.FET_EVT_FROZEN = true → b'.on F.FET_EVT_FROZEN = true

namespace Block.LeavesFrz

variable {s : Nat} {b b' b'' : Block}

theorem refl (s : Nat) (b : Block) : LeavesFrz s b b := ⟨.refl _ b, rfl, rfl, id⟩

theorem trans (h : LeavesFrz s b b') (h' : LeavesFrz s b' b'') : LeavesFrz s b b'' :=
  ⟨h.touches.trans h'.touches, h'.stat.trans h.stat, h'.frz.trans h.frz, h'.event ∘ h.event⟩

theorem ite {p : Prop} [Decidable p] (h : LeavesFrz s b b') (h' : LeavesFrz s b b'') : LeavesFrz s b (if p then b' else b'') := by
  split
  · exact h
  · exact h'

theorem foldl (g : Block → Nat → Block) (l : List Nat) (hg : ∀ n ∈ l, ∀ b, LeavesFrz s b (g b n)) (b : Block) :
    LeavesFrz s b (l.foldl g b) := by
  induction l generalizing b with
  | nil => exact .refl s b
  | cons n t ih => exact (hg n (by simp) b).trans (ih (fun x hx => hg x (List.mem_cons_of_mem _ hx)) _)

theorem setFrz (h : LeavesFrz s b b') {n : Nat} (hn : n ≠ s) (x : Frz) : LeavesFrz s b (b'.setFrz n x) :=
  h.trans ⟨(Block.Touches.refl _ b').keep rfl rfl rfl rfl rfl, rfl, (tget_tput ..).trans (if_neg hn), id⟩

/-- A flag of another source's status. -/
theorem flag (h : LeavesFrz s b b') {f : Fld} (ha : f.addr = 0x242000) (hi : f.si = 8) {n : Nat} (hn : n ≠ s) (hl : n < 384)
    (x : Bool) : LeavesFrz s b (b'.flag f x n) := by
  have hat : f.at n = 0x242000 + 8 * n := by
    simp only [Fld.at, ha, hi]
    omega
  have hevt : f.at n ≠ F.FET_EVT_FROZEN.at 0 := by
    simp only [Fld.at, F.FET_EVT_FROZEN]
    omega
  refine h.trans ⟨(Block.Touches.refl [36] b').flag (by rw [hat, List.mem_singleton]; omega) x, ?_, rfl, fun he => ?_⟩
  · rw [Block.flag, Block.reg_put, if_neg]
    rw [hat]
    simp only [Fld.at, F.FET_FRZ_STAT_FROZEN]
    omega
  · rwa [Block.on, Block.flag, Block.get_put_other _ _ _ _ _ _ _ _ _ _ hevt]

theorem event_set (h : LeavesFrz s b b') : LeavesFrz s b (b'.evt F.FET_EVT_FROZEN) := by
  refine h.trans ⟨(Block.Touches.refl [36] b').evt (by decide), ?_, rfl, fun _ => Block.on_evt _ (by unfold Fld.fits; decide) rfl ..⟩
  rw [Block.reg_evt, Block.reg_put, if_neg]
  simp only [Fld.at, F.FET_EVT_FROZEN, F.FET_FRZ_STAT_FROZEN]
  omega

theorem record (h : LeavesFrz s b b') (code sev p0 p1 p2 p3 inst : Nat) :
    LeavesFrz s b (b'.record code sev p0 p1 p2 p3 inst) :=
  h.trans ⟨(Block.Touches.refl _ b').record .., rfl, rfl, id⟩

/-- The flags of the source's status read as before. -/
theorem on (h : LeavesFrz s b b') {f : Fld} (ha : f.addr = 0x242000) (hi : f.si = 8) : b'.on f s = b.on f s := by
  have hat : f.at s = F.FET_FRZ_STAT_FROZEN.at s := by
    simp [Fld.at, ha, hi, F.FET_FRZ_STAT_FROZEN]
  rw [Block.on, Block.on, Block.get, Block.get, hat, h.stat]

/-- The source's own registers read as before. -/
theorem lad (h : LeavesFrz s b b') {f : Fld} (ha : 0x184000 ≤ f.addr ∧ f.addr < 0x184040) (hi : f.si = 0x40) (hs : s < 384) :
    b'.get f s = b.get f s := by
  refine h.touches.get f s 0 0 ?_
  simp only [Fld.at, hi, List.mem_singleton]
  omega

end Block.LeavesFrz

/-! ## The evaluation of a source -/

section Eval

variable (c : Clk) (t s : Nat) (b : Block)

@[simp] theorem frzOf_setFrz (x : Frz) : (b.setFrz s x).frzOf s = x := tget_tput_same ..
@[simp] theorem frzOf_flag (f : Fld) (v : Bool) (i j k : Nat) : (b.flag f v i j k).frzOf s = b.frzOf s := rfl
@[simp] theorem get_setFrz (x : Frz) (f : Fld) (i j k : Nat) : (b.setFrz s x).get f i j k = b.get f i j k := rfl

/-- A source is evaluated at `t`: SLOW is shown (R214). -/
def showSlow : Block :=
  (b.setFrz s { b.frzOf s with seen := t }).flag F.FET_FRZ_STAT_SLOW
    (b.get F.LAD_SRC_CHANGE_CHG_INT s ≠ 0 && pastMs t (b.frzOf s).tchg (b.get F.LAD_SRC_CHANGE_CHG_INT s)) s

/-- A source freezes at `t` (R213, code 0x2401). -/
def freezeAt (lim : Nat) : Block :=
  let f := b.frzOf s
  let b := b.setFrz s { f with frozenAt := t }
  ((b.flag F.FET_FRZ_STAT_FROZEN true s).evt F.FET_EVT_FROZEN).record 0x2401 4 s lim (b.get F.FET_FRZ_FP_FP s) f.readies

variable {n : Nat}

theorem showSlow_leaves (hn : n ≠ s) (hl : n < 384) : Block.LeavesFrz s b (showSlow t n b) :=
  ((Block.LeavesFrz.refl s b).setFrz hn _).flag rfl rfl hn hl _

theorem freezeAt_leaves (hn : n ≠ s) (hl : n < 384) (lim : Nat) : Block.LeavesFrz s b (freezeAt t n b lim) :=
  ((((Block.LeavesFrz.refl s b).setFrz hn _).flag rfl rfl hn hl true).event_set).record ..

theorem showSlow_frozen : (showSlow t s b).on F.FET_FRZ_STAT_FROZEN s = b.on F.FET_FRZ_STAT_FROZEN s :=
  congrArg (· == 1) (Block.get_put_apart (b.setFrz s _) F.FET_FRZ_STAT_SLOW F.FET_FRZ_STAT_FROZEN (by unfold Fld.fits; decide)
    (by unfold Fld.apart; decide) ..)

theorem showSlow_slow : (showSlow t s b).on F.FET_FRZ_STAT_SLOW s = (b.get F.LAD_SRC_CHANGE_CHG_INT s ≠ 0 &&
    pastMs t (b.frzOf s).tchg (b.get F.LAD_SRC_CHANGE_CHG_INT s)) :=
  Block.on_flag_same _ F.FET_FRZ_STAT_SLOW (by unfold Fld.fits; decide) rfl ..

theorem freezeAt_event (lim : Nat) : (freezeAt t s b lim).on F.FET_EVT_FROZEN = true :=
  Block.on_evt _ (by unfold Fld.fits; decide) rfl ..

/-- The event's register lies apart from every source's status. -/
theorem fetEvt_ne_frzStat : F.FET_EVT_FROZEN.at 0 ≠ F.FET_FRZ_STAT_FROZEN.at s := by
  simp only [Fld.at, F.FET_EVT_FROZEN, F.FET_FRZ_STAT_FROZEN]
  omega

theorem freezeAt_frozen (lim : Nat) : (freezeAt t s b lim).on F.FET_FRZ_STAT_FROZEN s = true :=
  (congrArg (· == 1) (Block.get_put_other _ F.FET_EVT_FROZEN F.FET_FRZ_STAT_FROZEN 1 _ _ _ _ _ _ (fetEvt_ne_frzStat s))).trans
    (Block.on_flag_same _ F.FET_FRZ_STAT_FROZEN (by unfold Fld.fits; decide) rfl ..)

theorem freezeAt_slow (lim : Nat) : (freezeAt t s b lim).on F.FET_FRZ_STAT_SLOW s = b.on F.FET_FRZ_STAT_SLOW s :=
  congrArg (· == 1) ((Block.get_put_other _ F.FET_EVT_FROZEN F.FET_FRZ_STAT_SLOW 1 _ _ _ _ _ _ (fetEvt_ne_frzStat s)).trans
    (Block.get_put_apart _ F.FET_FRZ_STAT_FROZEN F.FET_FRZ_STAT_SLOW (by unfold Fld.fits; decide) (by unfold Fld.apart; decide) ..))

theorem freezeEval_eq : freezeEval t s b =
    if pastMs t (b.frzOf s).tchg (b.get F.LAD_SRC_CHANGE_FREEZE s) && !b.on F.FET_FRZ_STAT_FROZEN s then
      freezeAt t s (showSlow t s b) (b.get F.LAD_SRC_CHANGE_FREEZE s)
    else showSlow t s b := by
  rw [← showSlow_frozen t s b]
  unfold freezeEval showSlow freezeAt
  simp only [frzOf_setFrz, frzOf_flag, get_setFrz]
  exact if_congr Iff.rfl rfl rfl

theorem freezeEval_leaves (hn : n ≠ s) (hl : n < 384) : Block.LeavesFrz s b (freezeEval t n b) := by
  have hshown := showSlow_leaves t s b hn hl
  rw [freezeEval_eq]
  exact .ite (hshown.trans (freezeAt_leaves _ _ _ hn hl _)) hshown

/-- FROZEN is set once FREEZE has passed since the last change, and never cleared by an evaluation (R213). -/
theorem freezeEval_frozen : (freezeEval t s b).on F.FET_FRZ_STAT_FROZEN s =
    (b.on F.FET_FRZ_STAT_FROZEN s || pastMs t (b.frzOf s).tchg (b.get F.LAD_SRC_CHANGE_FREEZE s)) := by
  rw [freezeEval_eq]
  split
  · next hpast =>
    rw [Bool.and_eq_true] at hpast
    rw [freezeAt_frozen, hpast.1, Bool.or_true]
  · next hpast =>
    rw [showSlow_frozen]
    revert hpast
    cases b.on F.FET_FRZ_STAT_FROZEN s <;> simp

theorem freezeEval_slow : (freezeEval t s b).on F.FET_FRZ_STAT_SLOW s = (b.get F.LAD_SRC_CHANGE_CHG_INT s ≠ 0 &&
    pastMs t (b.frzOf s).tchg (b.get F.LAD_SRC_CHANGE_CHG_INT s)) := by
  rw [freezeEval_eq]
  split
  · rw [freezeAt_slow, showSlow_slow]
  · rw [showSlow_slow]

theorem freezeEval_event (hoff : b.on F.FET_FRZ_STAT_FROZEN s = false)
    (hpast : pastMs t (b.frzOf s).tchg (b.get F.LAD_SRC_CHANGE_FREEZE s) = true) :
    (freezeEval t s b).on F.FET_EVT_FROZEN = true := by
  rw [freezeEval_eq, if_pos (by rw [hoff, hpast]; rfl), freezeAt_event]

/-! ## The end of a source's tracking -/

theorem freezeClear_leaves (hn : n ≠ s) (hl : n < 384) (fp : Word) : Block.LeavesFrz s b (freezeClear c n fp b) :=
  .ite (((Block.LeavesFrz.refl s b).flag rfl rfl hn hl false).record ..) (.refl s b)

theorem freezeStop_leaves (hn : n ≠ s) (hl : n < 384) : Block.LeavesFrz s b (freezeStop c n b) :=
  (((freezeClear_leaves c s b hn hl _).flag rfl rfl hn hl false).flag rfl rfl hn hl false).setFrz hn _

theorem freezeClear_frozen (fp : Word) : (freezeClear c s fp b).on F.FET_FRZ_STAT_FROZEN s = false := by
  unfold freezeClear
  split
  · exact Block.on_flag_same b F.FET_FRZ_STAT_FROZEN (by unfold Fld.fits; decide) rfl false ..
  · next hoff => exact Bool.eq_false_iff.2 hoff

theorem freezeStop_frozen : (freezeStop c s b).on F.FET_FRZ_STAT_FROZEN s = false :=
  (congrArg (· == 1) ((Block.get_put_apart _ F.FET_FRZ_STAT_SLOW F.FET_FRZ_STAT_FROZEN (by unfold Fld.fits; decide)
    (by unfold Fld.apart; decide) ..).trans (Block.get_put_apart _ F.FET_FRZ_STAT_TRACK F.FET_FRZ_STAT_FROZEN
      (by unfold Fld.fits; decide) (by unfold Fld.apart; decide) ..))).trans (freezeClear_frozen ..)

theorem freezeStop_track : (freezeStop c s b).on F.FET_FRZ_STAT_TRACK s = false :=
  (congrArg (· == 1) (Block.get_put_apart _ F.FET_FRZ_STAT_SLOW F.FET_FRZ_STAT_TRACK (by unfold Fld.fits; decide)
    (by unfold Fld.apart; decide) ..)).trans
    (Block.on_flag_same _ F.FET_FRZ_STAT_TRACK (by unfold Fld.fits; decide) rfl false ..)

theorem freezeStop_slow : (freezeStop c s b).on F.FET_FRZ_STAT_SLOW s = false :=
  Block.on_flag_same _ F.FET_FRZ_STAT_SLOW (by unfold Fld.fits; decide) rfl false ..

/-! ## All sources -/

/-- One source at a whole ms of steady time (R213, R214). -/
def freezeStep (b : Block) (n : Nat) : Block :=
  if b.on F.LAD_SRC_STAT_RUN n && b.on F.FET_FRZ_STAT_TRACK n then
    (if b.get F.LAD_SRC_CHANGE_FREEZE n = 0 then freezeStop c n b
     else if (b.frzOf n).seen ≤ c.ns64 / 1000000 * 1000000 then freezeEval (c.ns64 / 1000000 * 1000000) n b else b)
  else b

theorem freezeTick_eq : freezeTick c b = (List.range 384).foldl (freezeStep c) b := rfl

theorem freezeStep_leaves (hn : n ≠ s) (hl : n < 384) : Block.LeavesFrz s b (freezeStep c b n) :=
  .ite (.ite (freezeStop_leaves c s b hn hl) (.ite (freezeEval_leaves _ s b hn hl) (.refl s b))) (.refl s b)

/-- A source that there is not has nothing to change: the tick lies in the Fettler's window. -/
theorem freezeTick_touches : Block.Touches [36] b (freezeTick c b) := by
  rw [freezeTick_eq]
  exact (Block.LeavesFrz.foldl (s := 384) (freezeStep c) _
    (fun n hn b => freezeStep_leaves c _ b (Nat.ne_of_lt (List.mem_range.1 hn)) (List.mem_range.1 hn)) b).touches

/-- Of each source the tick shows what its own step does, on a block where the others' steps have left it alone. -/
theorem freezeTick_at (hs : s < 384) :
    ∃ b', Block.LeavesFrz s b b' ∧ Block.LeavesFrz s (freezeStep c b' s) (freezeTick c b) := by
  obtain ⟨l, r, hlr⟩ := List.append_of_mem (List.mem_range.2 hs)
  have hnodup : (l ++ s :: r).Nodup := hlr ▸ List.nodup_range
  have hlt : ∀ n ∈ l ++ s :: r, n < 384 := fun n hn => List.mem_range.1 (hlr ▸ hn)
  obtain ⟨-, hsr, hdisj⟩ := List.nodup_append.1 hnodup
  refine ⟨l.foldl (freezeStep c) b, .foldl _ _ (fun n hn b => ?_) b, ?_⟩
  · exact freezeStep_leaves c s b (hdisj n hn s (by simp)) (hlt n (by simp [hn]))
  · rw [freezeTick_eq, hlr, List.foldl_append, List.foldl_cons]
    refine .foldl _ _ (fun n hn b => freezeStep_leaves c s b ?_ (hlt n (by simp [hn]))) _
    rintro rfl
    exact (List.nodup_cons.1 hsr).1 hn

end Eval

section Tracked

variable {c : Clk} {s : Nat} {b b' : Block}

/-- A source that runs and is tracked. -/
structure Tracked (s : Nat) (b : Block) : Prop where
  runs : b.on F.LAD_SRC_STAT_RUN s = true
  track : b.on F.FET_FRZ_STAT_TRACK s = true

theorem Tracked.of_leaves (ht : Tracked s b) (hs : s < 384) (h : Block.LeavesFrz s b b') : Tracked s b' :=
  ⟨(congrArg (· == 1) (h.lad (by decide) rfl hs)).trans ht.runs, (h.on rfl rfl).trans ht.track⟩

variable (ht : Tracked s b)
include ht

theorem freezeStep_stops (hz : b.get F.LAD_SRC_CHANGE_FREEZE s = 0) : freezeStep c b s = freezeStop c s b := by
  rw [freezeStep, if_pos (by rw [ht.runs, ht.track]; rfl), if_pos hz]

theorem freezeStep_evals (hz : b.get F.LAD_SRC_CHANGE_FREEZE s ≠ 0) (hseen : (b.frzOf s).seen ≤ c.ns64 / 1000000 * 1000000) :
    freezeStep c b s = freezeEval (c.ns64 / 1000000 * 1000000) s b := by
  rw [freezeStep, if_pos (by rw [ht.runs, ht.track]; rfl), if_neg hz, if_pos hseen]

theorem freezeStep_waits (hz : b.get F.LAD_SRC_CHANGE_FREEZE s ≠ 0) (hseen : c.ns64 / 1000000 * 1000000 < (b.frzOf s).seen) :
    freezeStep c b s = b := by
  rw [freezeStep, if_pos (by rw [ht.runs, ht.track]; rfl), if_neg hz, if_neg (Nat.not_le.2 hseen)]

variable (hs : s < 384)
include hs

/-- A source that a READY frame was evaluated for since keeps its flags. -/
theorem freezeTick_waits (hz : b.get F.LAD_SRC_CHANGE_FREEZE s ≠ 0) (hseen : c.ns64 / 1000000 * 1000000 < (b.frzOf s).seen) :
    (freezeTick c b).on F.FET_FRZ_STAT_FROZEN s = b.on F.FET_FRZ_STAT_FROZEN s ∧
      (freezeTick c b).on F.FET_FRZ_STAT_SLOW s = b.on F.FET_FRZ_STAT_SLOW s := by
  obtain ⟨b', hbefore, hafter⟩ := freezeTick_at c s b hs
  rw [freezeStep_waits (ht.of_leaves hs hbefore) (by rwa [hbefore.lad (by decide) rfl hs]) (by rwa [hbefore.frz])] at hafter
  have hkept := hbefore.trans hafter
  exact ⟨hkept.on rfl rfl, hkept.on rfl rfl⟩

/-- Another tracked source freezes once FREEZE has passed since its last change, and is slow once CHG_INT has. -/
theorem freezeTick_evals (hz : b.get F.LAD_SRC_CHANGE_FREEZE s ≠ 0) (hseen : (b.frzOf s).seen ≤ c.ns64 / 1000000 * 1000000) :
    (freezeTick c b).on F.FET_FRZ_STAT_FROZEN s = (b.on F.FET_FRZ_STAT_FROZEN s ||
        pastMs (c.ns64 / 1000000 * 1000000) (b.frzOf s).tchg (b.get F.LAD_SRC_CHANGE_FREEZE s)) ∧
      (freezeTick c b).on F.FET_FRZ_STAT_SLOW s = (decide (b.get F.LAD_SRC_CHANGE_CHG_INT s ≠ 0) &&
        pastMs (c.ns64 / 1000000 * 1000000) (b.frzOf s).tchg (b.get F.LAD_SRC_CHANGE_CHG_INT s)) ∧
      (b.on F.FET_FRZ_STAT_FROZEN s = false →
        pastMs (c.ns64 / 1000000 * 1000000) (b.frzOf s).tchg (b.get F.LAD_SRC_CHANGE_FREEZE s) = true →
        (freezeTick c b).on F.FET_EVT_FROZEN = true) := by
  obtain ⟨b', hbefore, hafter⟩ := freezeTick_at c s b hs
  have hfreeze : b'.get F.LAD_SRC_CHANGE_FREEZE s = b.get F.LAD_SRC_CHANGE_FREEZE s := hbefore.lad (by decide) rfl hs
  rw [freezeStep_evals (ht.of_leaves hs hbefore) (by rwa [hfreeze]) (by rwa [hbefore.frz])] at hafter
  refine ⟨?_, ?_, fun hoff hpast => hafter.event (freezeEval_event _ _ _ ?_ ?_)⟩
  · rw [hafter.on rfl rfl, freezeEval_frozen, hbefore.on rfl rfl, hbefore.frz, hfreeze]
  · rw [hafter.on rfl rfl, freezeEval_slow, hbefore.frz, hbefore.lad (by decide) rfl hs]
  · rwa [hbefore.on rfl rfl]
  · rwa [hbefore.frz, hfreeze]

/-- FREEZE 0 ends the tracking (R213). -/
theorem freezeTick_stops (hz : b.get F.LAD_SRC_CHANGE_FREEZE s = 0) :
    (freezeTick c b).on F.FET_FRZ_STAT_TRACK s = false ∧ (freezeTick c b).on F.FET_FRZ_STAT_FROZEN s = false ∧
      (freezeTick c b).on F.FET_FRZ_STAT_SLOW s = false := by
  obtain ⟨b', hbefore, hafter⟩ := freezeTick_at c s b hs
  rw [freezeStep_stops (ht.of_leaves hs hbefore) (by rwa [hbefore.lad (by decide) rfl hs])] at hafter
  exact ⟨(hafter.on rfl rfl).trans (freezeStop_track ..), (hafter.on rfl rfl).trans (freezeStop_frozen ..),
    (hafter.on rfl rfl).trans (freezeStop_slow ..)⟩

end Tracked

end Sys2Proof.Machine
end

section
/-! Freshness and the Fettler's verdicts, as the claim states them: the bands' checks, the windows' signatures and frozen sources. -/

namespace Sys2Proof.Machine

open Sys2Proof

theorem pastMs_iff {t ms : Nat} {tchg : Int} : pastMs t tchg ms = true ↔ tchg + (ms * 1000000 : Nat) < t := decide_eq_true_iff

section Command

variable {s : State} {dt : Nat}

theorem exec_freezeTick (hh : s.blk.hold = .none) :
    exec (.freezeTick dt) s = .next (s.ends dt (freezeTick (s.pass dt).clk (s.found dt))) := State.run_eq_ends s dt _ hh

/-- A band that the claim speaks of is due for its check when the command acts. -/
theorem checkDue_found {h : Head} {band : Fin 135} (h0 : 0 < band.val) (hin : band.val < (s.blk.fmt h.val).bands)
    (hphase : (s.blk.ras h.val).phase = .running)
    (hline : lineReached (s.blk.fmt h.val) (s.blk.ras h.val) (s.pass dt).clk.steady (16 * band.val - 1) = true)
    (hfirst : ∀ x ∈ (s.blk.fet h.val).bands, x.band = band.val → x.frame ≠ s.blk.frameOf h.val)
    (hruns : s.blk.fetRuns h.val = true) : CheckDue (s.pass dt).clk (s.found dt) h.val band.val :=
  ⟨h0, hin, hphase, hline, hfirst, hruns⟩

end Command

/-- Settles O20, command by command. -/
theorem verdictsFollowTheTable : Obligations.VerdictsFollowTheTable := by
  intro dt s hh hq
  dsimp only
  refine ⟨fun h band complete h0 hin hphase hline hfirst hshown hruns => ?_, fun win => ⟨fun hen hpassed => ?_,
    signatureCompare_idle hh hq⟩, _, exec_freezeTick hh, State.ends_within hq ((s.found_touches dt _).trans (freezeTick_touches ..)),
    fun src hrun htrack => ?_⟩
  · have hd := checkDue_found h0 hin hphase hline hfirst hruns
    refine ⟨fun q hfind hs hcomplete hw ht hl hnone => ?_, fun hcomps => ⟨fun hs => ⟨fun y hy _ => ?_, fun hnone hslot => ?_⟩,
      bandCheck_slagFrame hh hq hd⟩⟩
    · subst hcomplete
      exact bandCheck_misses hh hq hd hs hshown hfind hw ht hl hnone
    · exact bandCheck_delivers hh hq hd hs hcomps hshown hy
    · exact bandCheck_undelivered hh hq hd hs hcomps hnone hslot
  · obtain ⟨hphase, hframe, hlines, hline⟩ := hpassed
    have hd : CompareDue (s.pass dt).clk win.val (s.found dt) := ⟨hen, hphase, hframe, hlines, hline⟩
    by_cases hok : (~~~ (tget {} s.blk.rsws win.val).crc).toNat = s.blk.get F.FET_RSW_EXP_EXP win.val
    · obtain ⟨t, ht, hwithin, hlast, hmatch, hslagged, hrec⟩ := signatureCompare_right hh hq hd hok
      exact ⟨t, ht, hwithin, hlast, by rw [hmatch, decide_eq_true hok], by rw [hslagged, decide_eq_true hok]; rfl,
        fun hbad => absurd hok hbad, fun _ => hrec⟩
    · obtain ⟨t, ht, hwithin, hlast, hmatch, hslagged, hevt, hmiss⟩ := signatureCompare_wrong hh hq hd hok
      exact ⟨t, ht, hwithin, hlast, by rw [hmatch, decide_eq_false hok], by rw [hslagged, decide_eq_false hok]; rfl,
        fun _ => ⟨hevt, hmiss⟩, fun hbad => absurd hbad hok⟩
  · have ht : Tracked src.val (s.found dt) := ⟨hrun, htrack⟩
    simp only [State.ends_on]
    refine ⟨fun hz hseen => freezeTick_waits ht src.isLt hz hseen, fun hz hseen => ?_, fun hz => freezeTick_stops ht src.isLt hz⟩
    obtain ⟨hfrozen, hslow, hevt⟩ := freezeTick_evals (c := (s.pass dt).clk) ht src.isLt hz hseen
    exact ⟨hfrozen, hslow, fun hoff hpast => hevt hoff (pastMs_iff.2 hpast)⟩

end Sys2Proof.Machine
end

section
/-! A write of a register of a head that starts no bands, with nothing waiting in the Fettler's window (R14, R18, R194, R204, R210). -/

namespace Sys2Proof.Machine

open Sys2Proof

/-! ## Words with a field replaced -/

/-- Where a field holds no bit of a mask, the mask's bits lie outside the field. -/
theorem Fld.outside_of_zero {f : Fld} {m : Word} (hm : f.of m = 0) {i : Nat} (hi : i < 32) (hb : m[i] = true) :
    i < f.lsb ∨ f.lsb + f.width ≤ i := by
  by_contra hin
  have hbit := congrArg (fun n => n.testBit (i - f.lsb)) hm
  simp only [Fld.of, bits, Nat.testBit_mod_two_pow, Nat.testBit_div_two_pow, Nat.zero_testBit] at hbit
  have hlt : i - f.lsb < f.width := by omega
  have hsum : i - f.lsb + f.lsb = i := by omega
  rw [hsum, decide_eq_true hlt, Bool.true_and, ← BitVec.getElem_eq_testBit_toNat _ _ hi] at hbit
  exact absurd hb (by simp [hbit])

/-- A field that holds no bit of a mask reads 0 under it. -/
theorem Fld.of_and_zero {f : Fld} (hf : f.fits) {m : Word} (hm : f.of m = 0) (v : Word) : f.of (v &&& m) = 0 := by
  have hzero : merge 0#32 m v = v &&& m := by simp [merge]
  rw [← hzero, Fld.of_merge_outside hf hm]
  simp [Fld.of, bits]

section Into

variable {f : Fld} (hf : f.fits)
include hf

/-- A masked write of a word with a field changed that lies outside the mask changes nothing. -/
theorem Fld.merge_into_outside {m : Word} (hm : f.of m = 0) (v : Word) (x : Nat) : merge v m (f.into (v &&& m) x) = v := by
  ext i hi
  rw [getElem_merge]
  cases hb : m[i]
  · rfl
  · rw [Fld.getElem_into hf _ _ hi (Fld.outside_of_zero hm hi hb), BitVec.getElem_and, hb, Bool.and_true]
    rfl

/-- A word with a field changed agrees with the word in the bits outside the field. -/
theorem Fld.into_agrees {l : Word} (hl : f.of l = 0) (v : Word) (x : Nat) : (f.into v x ^^^ v) &&& l = 0#32 := by
  ext i hi
  rw [BitVec.getElem_and, BitVec.getElem_xor]
  cases hb : l[i]
  · simp
  · rw [Fld.getElem_into hf _ _ hi (Fld.outside_of_zero hl hi hb)]
    simp

end Into

/-! ## The write -/

/-- What a row of the Fettler must be for the write of its register to be its trigger. -/
structure RegRow.TriggersFettler (r : RegRow) : Prop where
  multi : r.multi = .none
  act : r.act ≠ .plain
  w1c : r.w1c = 0
  f : r.f = 0
  o : r.o = 0
  writable : BitVec.ofNat 32 (r.rw ||| r.wo) ≠ 0
  window : r.addr / 0x10000 = 36
  classes : BitVec.ofNat 32 (r.l ||| (r.s ||| r.o)) &&& BitVec.ofNat 32 r.rw = BitVec.ofNat 32 r.rw

section Write

variable {r : RegRow} (ht : r.TriggersFettler)
include ht

theorem RegRow.TriggersFettler.addr_ne {x : Nat} (h : x / 0x10000 ≠ 36) : r.addr ≠ x := fun e => h (e ▸ ht.window)

theorem RegRow.TriggersFettler.storeMask : storeMask r = BitVec.ofNat 32 r.rw := by simp [Machine.storeMask, ht.multi]

theorem RegRow.TriggersFettler.writeIgnored (v : Word) : writeIgnored r v = false := by
  have h1 := ht.addr_ne (x := F.ENC_S_QP_QI.addr) (by decide)
  have h2 := ht.addr_ne (x := F.PAIR_TOKEN_WAIT_PREF.addr) (by decide)
  simp [Machine.writeIgnored, h1, h2]

/-- Such a row's class S fields are all that is ever locked. -/
theorem RegRow.TriggersFettler.lockedBits (b : Block) (ix : List Nat) :
    lockedBits b r ix = 0#32 ∨ lockedBits b r ix = BitVec.ofNat 32 r.s := by
  have h1 := ht.addr_ne (x := Rg.DSK_KMAP.addr) (by decide)
  have h2 := ht.addr_ne (x := Rg.DSK_BL.addr) (by decide)
  unfold Machine.lockedBits
  rw [if_neg h1, if_neg h2, ht.o]
  split
  · simp
  · simp

/-- The blocks at which the trigger acts hold the word under the mask of its stored bits. -/
theorem RegRow.TriggersFettler.stored_reg (p : Nat) (v : Word) (b : Block) (a : Nat) :
    (b.ladStored r p v).reg a = if p = a then merge (b.reg p) (BitVec.ofNat 32 r.rw) v else b.reg a := by
  have hall : BitVec.ofNat 32 (r.l ||| (r.s ||| r.o)) &&& Machine.storeMask r = BitVec.ofNat 32 r.rw := by
    rw [ht.storeMask, ht.classes]
  have hsub : BitVec.ofNat 32 (r.s ||| r.o) &&& Machine.storeMask r &&& BitVec.ofNat 32 r.rw =
      BitVec.ofNat 32 (r.s ||| r.o) &&& Machine.storeMask r := by rw [ht.storeMask, BitVec.and_assoc, BitVec.and_self]
  unfold Block.ladStored Block.store32
  rw [hall, Block.reg_setReg, Block.reg_setReg, Block.reg_setReg, if_pos rfl, merge_merge hsub]
  split
  · rfl
  · rfl

variable (c : Clk) (m : Mem) (cls : Nat) {p : Nat} (v : Word) (mr : Option (Byte × Bool)) {b b' : Block} {ix : List Nat}
  (hp : p / 0x10000 = 36) (hc : ∀ q ∈ b'.pendL, q.addr / 0x10000 ≠ 36) (hgov : governor b' p = none)
include hp hc hgov

theorem writeWord_fettler : writeWord c m cls r ix p [] v mr b' =
    actWrite c m cls r ix p [] (BitVec.ofNat 32 (r.l ||| (r.s ||| r.o))) v mr
      (b'.store32 p (BitVec.ofNat 32 (r.s ||| r.o) &&& storeMask r) v) := by
  have hpanel : isPanelField p = false := by
    simp only [isPanelField, Bool.and_eq_false_iff, decide_eq_false_iff_not]
    omega
  have hmask : fieldMask r = 0 := by simp [fieldMask, ht.multi]
  have hflush : ∀ x, flushFor c m p (b'.setReg p x) = b'.setReg p x := fun x => by
    simp only [flushFor, hpanel, Bool.false_eq_true, if_false, hp]
    exact takeWindow_calm _ _ _ _ (by decide) hc
  have hact : ∀ x, (decide (r.act = .plain) || (none : Option Nat).isSome || panelHolds (b'.setReg p x) p) = false :=
    fun x => by simp [ht.act, panelHolds, hpanel]
  have hzero : ∀ n, ¬(0 &&& n ≠ 0) := fun n => by simp
  unfold writeWord
  simp only [hmask, if_neg (hzero _), Block.store32, if_pos ht.f, hgov, ite_self, hact, Bool.false_eq_true, if_false, hflush]

/-- A write of such a register, whose locked fields it does not change, is its trigger. -/
theorem regWrite_fettler (hr : regAt p = some (r, ix)) (hrules : fieldRules r ix p v b = (v, b'))
    (hv : (v ^^^ (b'.reg p &&& storeMask r)) &&& BitVec.ofNat 32 r.s = 0#32) :
    regWrite c m cls p v mr b = actWrite c m cls r ix p [] (BitVec.ofNat 32 (r.l ||| (r.s ||| r.o))) v mr
      (b'.store32 p (BitVec.ofNat 32 (r.s ||| r.o) &&& storeMask r) v) := by
  have h6 : decide (p / 0x10000 = 6) = false := by simp [hp]
  have hclear : clearBits r p v b = b := by simp [clearBits, ht.w1c]
  have hdef : decide (r.addr = F.ETH_DEF_ACTION.addr) = false := decide_eq_false (ht.addr_ne (by decide))
  have hagree : ∀ x, (v ^^^ (b'.reg p &&& storeMask r)) &&& (Machine.lockedBits b' r ix &&& x) = 0#32 := fun x => by
    rw [← BitVec.and_assoc]
    rcases ht.lockedBits b' ix with h | h
    · rw [h, BitVec.and_zero, BitVec.zero_and]
    · rw [h, hv, BitVec.zero_and]
  have hlows : lowWords b' r p = [] := by simp [lowWords, ht.multi]
  have hmask : fieldMask r = 0 := by simp [fieldMask, ht.multi]
  have hheld : ∀ n : Nat, ¬(n &&& 0 ≠ 0) := fun n => by simp
  have hbad : decide ((0#32 : Word) ≠ 0) = false := by decide
  unfold regWrite
  simp only [h6, Bool.false_and, Bool.false_eq_true, if_false, hr, hclear, if_neg ht.writable, ht.writeIgnored, hdef,
    hrules, hagree, merge_agreeing (hagree _), ht.multi, hlows, hmask, hbad, decide_eq_false (hheld _), Bool.or_self, ite_self]
  rw [← writeWord_fettler ht c m cls v mr hp hc hgov]
  exact congrArg (writeWord c m cls r ix p [] v mr) b'.unstaged_nil

end Write

end Sys2Proof.Machine
end

section
/-! What a write in the Fettler's window finds: the block as it was, but for registers of the Fettler and of the matrix. -/

namespace Sys2Proof.Machine

open Sys2Proof

/-! ## What the Fettler's and the matrix's registers do not decide -/

section Kept

variable {b b' : Block} (ht : Block.Touches [36, 2] b b')
include ht

/-- A field of a Crucible reads as before. -/
theorem Block.Touches.cruGet {f : Fld} {cru k : Nat} (hf : f.at cru k / 0x10000 = 32 + cru) (hc : cru < 4) :
    b'.get f cru k = b.get f cru k :=
  ht.get f cru k 0 (by
    rw [hf, List.mem_cons, List.mem_singleton]
    omega)

theorem Block.Touches.cruOn {f : Fld} {cru k : Nat} (hf : f.at cru k / 0x10000 = 32 + cru) (hc : cru < 4) :
    b'.on f cru k = b.on f cru k := congrArg (· == 1) (ht.cruGet hf hc)

theorem Block.Touches.slotOf (h : Nat) : b'.slotOf h = b.slotOf h := by
  refine List.find?_congr fun q hq => ?_
  simp only [List.mem_flatMap, List.mem_map, List.mem_range] at hq
  obtain ⟨cru, hcru, k, hk, rfl⟩ := hq
  have hen : F.CRU_HEAD_MAP_EN.at cru k / 0x10000 = 32 + cru := by
    simp only [Fld.at, F.CRU_HEAD_MAP_EN]
    omega
  rw [ht.cruOn hen hcru, ht.cruGet (f := F.CRU_HEAD_MAP_HEAD) hen hcru]

theorem Block.Touches.headWidth (hf : b'.fets = b.fets) (h : Nat) : b'.headWidth h = b.headWidth h := by
  unfold Block.headWidth
  rw [ht.slotOf]
  cases hq : b.slotOf h
  case none =>
    change (tget {} b'.fets h).width = _
    rw [hf]
    rfl
  case some q =>
    obtain ⟨hcru, hk⟩ := slotOf_bounds hq
    refine ht.cruGet ?_ hcru
    simp only [Fld.at, F.CRU_HEAD_CFG_WIDTH]
    omega

theorem Block.Touches.slotRuns {cru k : Nat} (hcru : cru < 4) (hk : k < 16) : b'.slotRuns cru k = b.slotRuns cru k := by
  have hmap : F.CRU_HEAD_MAP_EN.at cru k / 0x10000 = 32 + cru := by
    simp only [Fld.at, F.CRU_HEAD_MAP_EN]
    omega
  have hctl : F.CRU_CTL_EN.at cru 0 / 0x10000 = 32 + cru := by
    simp only [Fld.at, F.CRU_CTL_EN]
    omega
  have hhead : b.slotHead cru k < 64 := Block.get_lt ..
  have hrun : F.TIM_HEAD_STAT_RUN.at (b.slotHead cru k) / 0x10000 = 4 := by
    simp only [Fld.at, F.TIM_HEAD_STAT_RUN]
    omega
  have hslot : b'.slotHead cru k = b.slotHead cru k := ht.cruGet hmap hcru
  unfold Block.slotRuns
  rw [hslot, Block.domOn, Block.domOn, ht.get F.PWR_DOM_STAT_ON 0 0 0 (by decide),
    ht.on F.TIM_HEAD_STAT_RUN _ 0 0 (by rw [hrun]; decide), ht.cruOn hmap hcru, ht.cruOn hctl hcru]

theorem Block.Touches.headBands (htim : b'.tim = b.tim) (h : Nat) : headBands b' h = headBands b h := by
  unfold Machine.headBands
  rw [ht.slotOf]
  cases hq : b.slotOf h
  case none => rfl
  case some q =>
    obtain ⟨hcru, hk⟩ := slotOf_bounds hq
    have hmap : F.CRU_HEAD_MAP_HEAD.at q.1 q.2 / 0x10000 = 32 + q.1 := by
      simp only [Fld.at, F.CRU_HEAD_MAP_HEAD]
      omega
    change (b'.slotRuns q.1 q.2 && (b'.ras (b'.slotHead q.1 q.2)).phase == .running) =
      (b.slotRuns q.1 q.2 && (b.ras (b.slotHead q.1 q.2)).phase == .running)
    rw [ht.slotRuns hcru hk, Block.ras_of_tim _ htim, Block.slotHead, Block.slotHead, ht.cruGet hmap hcru]

theorem Block.Touches.fmt {h : Nat} (hh : h < 64) : b'.fmt h = b.fmt h :=
  Block.fmt_congr fun f hf => ht.get f h 0 0 (by
    obtain ⟨hbase, -, -⟩ := fmtFields_regs hf hh
    simp only [List.mem_cons, List.mem_nil_iff, or_false]
    omega)

end Kept

/-! ## What the write finds -/

theorem Block.wign_fettler (b : Block) {a : Nat} (ha : 0x240000 ≤ a ∧ a < 0x248000) : b.wign a = b.evt F.FET_EVT_WIGN := by
  have hwin : a / 0x10000 = 36 := by omega
  have hlow : a % 0x10000 < 0x8000 := by omega
  simp [Block.wign, hwin, hlow]

/-- The blocks after registers of the Fettler and the matrix alone have changed. -/
structure State.FindsFettler (s : State) (b : Block) : Prop where
  touches : Block.Touches [36, 2] s.blk b
  tim : b.tim = s.blk.tim
  evq : b.evq = s.blk.evq
  fets : b.fets = s.blk.fets
  pendL : b.pendL = s.blk.pendL

namespace State.FindsFettler

variable {s : State} {b : Block}

theorem opened (s : State) (dt cls : Nat) : s.FindsFettler (s.opened dt cls) :=
  ⟨s.opened_touches dt cls (by decide), rfl, rfl, rfl, rfl⟩

theorem setReg (hb : s.FindsFettler b) {a : Nat} (ha : a / 0x10000 = 36) (v : Word) : s.FindsFettler (b.setReg a v) :=
  ⟨hb.touches.setReg (by simp [ha]) v, hb.tim, hb.evq, hb.fets, hb.pendL⟩

theorem stored (hb : s.FindsFettler b) (r : RegRow) {p : Nat} (hp : p / 0x10000 = 36) (v : Word) :
    s.FindsFettler (b.ladStored r p v) := (hb.setReg hp _).setReg hp _

theorem wign (hb : s.FindsFettler b) {a : Nat} (ha : 0x240000 ≤ a ∧ a < 0x248000) : s.FindsFettler (b.wign a) := by
  rw [b.wign_fettler ha]
  exact ⟨hb.touches.evt (by decide), hb.tim, hb.evq, hb.fets, hb.pendL⟩

theorem fet (hb : s.FindsFettler b) (h : Nat) : b.fet h = s.blk.fet h := by rw [Block.fet, Block.fet, hb.fets]

theorem calm (hb : s.FindsFettler b) (hc : Calm s 36) : ∀ q ∈ b.pendL, q.addr / 0x10000 ≠ 36 := hb.pendL ▸ hc.1

end State.FindsFettler

/-! ## The registers of a head -/

/-- A head that starts no bands governs none of its registers. -/
theorem governor_fetHead {b : Block} {h p : Nat} (hp : 0x241000 + 0x20 * h ≤ p ∧ p < 0x241020 + 0x20 * h) (hh : h < 64)
    (hb : headBands b h = false) : governor b p = none := by
  have h1 : p / 0x10000 = 36 := by omega
  have h2 : 0x1000 ≤ p % 0x10000 ∧ p % 0x10000 < 0x1800 := by omega
  have h3 : (p % 0x10000 - 0x1000) / 0x20 = h := by omega
  simp [governor, h1, h2, h3, hb]

section Field

variable {s : State} {dt : Nat} {cls : Cls} {r : RegRow} {f : Fld} {h : Head}

/-- The word that a write of a field of a head writes: the field changed, the register's other fields as they stand. -/
def fetWord (s : State) (r : RegRow) (f : Fld) (x : Nat) (h : Head) : Word :=
  f.into (s.blk.reg (f.at h.val) &&& BitVec.ofNat 32 r.rw) x

/-- A write of a field of a head that starts no bands, let through, is its register's trigger. -/
theorem writeField_fettler (x : Nat) (hw : Writable s cls (f.at h.val)) (hc : Calm s 36) (hn : headBands s.blk h.val = false)
    (hp : 0x241000 + 0x20 * h.val ≤ f.at h.val ∧ f.at h.val < 0x241020 + 0x20 * h.val) (h4 : f.at h.val % 4 = 0)
    (hr : regAt (f.at h.val) = some (r, [h.val])) (ht : r.TriggersFettler) (hf : f.fits) (hs : f.of (BitVec.ofNat 32 r.s) = 0)
    {b : Block} (hb : s.FindsFettler b) (hreg : b.reg (f.at h.val) = s.blk.reg (f.at h.val))
    (hrules : fieldRules r [h.val] (f.at h.val) (fetWord s r f x h) (s.opened dt cls.val) = (fetWord s r f x h, b)) :
    s.writeField dt cls f x h.val = .next (s.answers dt (actWrite (s.pass dt).clk s.mem cls r [h.val] (f.at h.val) []
      (BitVec.ofNat 32 (r.l ||| (r.s ||| r.o))) (fetWord s r f x h) none
      (b.store32 (f.at h.val) (BitVec.ofNat 32 (r.s ||| r.o) &&& storeMask r) (fetWord s r f x h)))) := by
  have hwin : f.at h.val / 0x10000 = 36 := by omega
  have ha : windowAssigned (f.at h.val / 0x10000) = true := by rw [hwin]; decide
  rw [s.writeField_open dt cls f x h.val 0 hw (by omega) ha h4, State.act_eq_ends, rwWord_found dt hc hwin hr]
  refine congrArg (fun b => Host.Outcome.next (s.answers dt b)) ?_
  refine regWrite_fettler ht _ _ _ _ none hwin (hb.calm hc) (governor_fetHead hp h.isLt ((hb.touches.headBands hb.tim _).trans hn)) hr
    hrules ?_
  rw [hreg, ht.storeMask]
  exact Fld.into_agrees hf hs _ _

end Field

end Sys2Proof.Machine
end

section
/-! FETTLER_HEAD_ENABLE and REARM: writes of a head's control register (R194, R210). -/

namespace Sys2Proof.Machine

open Sys2Proof

/-! ## A write of the control register -/

theorem fetHeadCtl_triggers : Rg.FET_HEAD_CTL.TriggersFettler :=
  ⟨rfl, by decide, rfl, rfl, rfl, by decide, by decide, by decide⟩

set_option maxRecDepth 8000 in
theorem regAt_fetHeadCtl : ∀ h : Head, regAt (F.FET_HEAD_CTL_EN.at h.val) = some (Rg.FET_HEAD_CTL, [h.val]) := by decide

theorem fetHeadCtl_at (h : Nat) : F.FET_HEAD_CTL_EN.at h = 0x241000 + 0x20 * h := by
  simp only [Fld.at, F.FET_HEAD_CTL_EN]
  omega

/-- What a write of a head's control register sets off: `was` says whether the head was enabled, `rearms` whether REARM was
written 1. -/
def headCtlActs (c : Clk) (h : Nat) (was rearms : Bool) (b : Block) : Block :=
  let b' := if b.on F.FET_HEAD_CTL_EN h && !was then fetEnable c h b else b
  if rearms then rearm h b' else b'

/-- A write that leaves EN as it is and writes REARM 1 is a re-arm. -/
theorem headCtlActs_rearms (c : Clk) (h : Nat) (b : Block) :
    headCtlActs c h (b.on F.FET_HEAD_CTL_EN h) true b = rearm h b := by
  unfold headCtlActs
  rw [Bool.and_not_self]
  rfl

section Control

variable {s : State} {dt : Nat} {cls : Cls} {h : Head}

/-- The blocks at which a write of a field of a head's control register acts. -/
def State.headCtlStored (s : State) (dt : Nat) (cls : Cls) (f : Fld) (x : Nat) (h : Head) : Block :=
  (s.opened dt cls.val).ladStored Rg.FET_HEAD_CTL (F.FET_HEAD_CTL_EN.at h.val) (fetWord s Rg.FET_HEAD_CTL f x h)

theorem headCtlStored_finds (f : Fld) (x : Nat) : s.FindsFettler (s.headCtlStored dt cls f x h) :=
  (State.FindsFettler.opened s dt cls.val).stored _ (by rw [fetHeadCtl_at]; omega) _

/-- The matrix's status lies in no register of the Fettler. -/
theorem opened_reg {a : Nat} (ha : a / 0x10000 = 36) : (s.opened dt cls.val).reg a = s.blk.reg a :=
  portOpen_reg _ _ _ _ fun e => absurd ha (by rw [e]; decide)

theorem headCtlStored_reg (f : Fld) (x a : Nat) : (s.headCtlStored dt cls f x h).reg a =
    if F.FET_HEAD_CTL_EN.at h.val = a then
      merge (s.blk.reg (F.FET_HEAD_CTL_EN.at h.val)) (BitVec.ofNat 32 Rg.FET_HEAD_CTL.rw) (fetWord s Rg.FET_HEAD_CTL f x h)
    else (s.opened dt cls.val).reg a := by
  rw [State.headCtlStored, fetHeadCtl_triggers.stored_reg, opened_reg (by rw [fetHeadCtl_at]; omega)]

/-- The trigger of a head's control register, read field by field. -/
theorem actWrite_headCtl (c : Clk) (m : Mem) (k : Nat) (v : Word) (b : Block) (h : Nat) :
    actWrite c m k Rg.FET_HEAD_CTL [h] (F.FET_HEAD_CTL_EN.at h) [] (BitVec.ofNat 32 0x10F) v none b =
      headCtlActs c h (b.on F.FET_HEAD_CTL_EN h) (F.FET_HEAD_CTL_REARM.of v == 1)
        (b.store32 (F.FET_HEAD_CTL_EN.at h) (BitVec.ofNat 32 0x10F &&& storeMask Rg.FET_HEAD_CTL) v) := by
  have hmask : F.FET_HEAD_CTL_REARM.of (v &&& BitVec.ofNat 32 0x10F) = F.FET_HEAD_CTL_REARM.of v :=
    Fld.of_and (by unfold Fld.fits; decide) (by decide) v
  rw [← hmask]
  rfl

theorem writeField_headCtl {f : Fld} (x : Nat) (hat : f.at h.val = F.FET_HEAD_CTL_EN.at h.val) (hf : f.fits)
    (hs : f.of (BitVec.ofNat 32 Rg.FET_HEAD_CTL.s) = 0) (hw : Writable s cls (F.FET_HEAD_CTL_EN.at h.val)) (hc : Calm s 36)
    (hn : headBands s.blk h.val = false) : s.writeField dt cls f x h.val =
      .next (s.answers dt (headCtlActs (s.pass dt).clk h.val (s.blk.on F.FET_HEAD_CTL_EN h.val)
        (F.FET_HEAD_CTL_REARM.of (fetWord s Rg.FET_HEAD_CTL f x h) == 1) (s.headCtlStored dt cls f x h))) := by
  have hctl := fetHeadCtl_at h.val
  have hreg : (s.opened dt cls.val).reg (f.at h.val) = s.blk.reg (f.at h.val) := opened_reg (by rw [hat, hctl]; omega)
  rw [writeField_fettler x (hat ▸ hw) hc hn (by omega) (by omega) (hat ▸ regAt_fetHeadCtl h) fetHeadCtl_triggers hf hs
    (.opened s dt cls.val) hreg rfl, hat]
  refine congrArg (fun b => Host.Outcome.next (s.answers dt b)) ?_
  refine (actWrite_headCtl ..).trans ?_
  have hwas : ((s.opened dt cls.val).store32 (F.FET_HEAD_CTL_EN.at h.val)
      (BitVec.ofNat 32 (Rg.FET_HEAD_CTL.s ||| Rg.FET_HEAD_CTL.o) &&& storeMask Rg.FET_HEAD_CTL)
      (fetWord s Rg.FET_HEAD_CTL f x h)).on F.FET_HEAD_CTL_EN h.val = s.blk.on F.FET_HEAD_CTL_EN h.val := by
    rw [Block.on, Block.get, Block.store32, Block.reg_setReg_same, Fld.of_merge_outside (by unfold Fld.fits; decide) (by decide),
      opened_reg (by rw [hctl]; omega)]
    rfl
  rw [hwas]
  rfl

end Control

/-! ## The enable -/

/-- Why an enable is refused depends on the head's slot, its format and its mark's place alone. -/
theorem fetRefusal_kept {b b' : Block} {h : Nat} (ht : Block.Touches [36, 2] b b') (hf : b'.fets = b.fets) (hh : h < 64)
    (hx : b'.get F.FET_HEAD_MARK_INSET_X h = b.get F.FET_HEAD_MARK_INSET_X h)
    (hb : b'.get F.FET_HEAD_MARK_INSET_B h = b.get F.FET_HEAD_MARK_INSET_B h)
    (hc : b'.get F.FET_HEAD_CTL_CORNER h = b.get F.FET_HEAD_CTL_CORNER h) : fetRefusal b' h = fetRefusal b h := by
  have hplace : markPlace b' h = markPlace b h := by
    unfold markPlace
    rw [ht.headWidth hf, ht.fmt hh, hx, hb, hc]
  unfold fetRefusal markOk
  rw [hplace, ht.slotOf, ht.headWidth hf, ht.fmt hh]

theorem fetEnable_ok {c : Clk} {h : Nat} {b : Block} (hr : fetRefusal b h = 0) : fetEnable c h b = fetResume c h b := if_pos hr

theorem fetEnable_refused {c : Clk} {h : Nat} {b : Block} (hr : fetRefusal b h ≠ 0) : fetEnable c h b =
    ((b.flag F.FET_HEAD_CTL_EN false h).evt F.FET_EVT_CFG_ERR).record 0x2409 3 (fetOffset h 0)
      (b.reg (F.FET_HEAD_CTL_EN.at h)).toNat (fetRefusal b h) := if_neg hr

theorem State.answers_fet (s : State) (dt : Nat) (b : Block) (h : Nat) : (s.answers dt b).blk.fet h = b.fet h := s.ends_fet dt _ h

section Enable

variable {s : State} {dt : Nat} {cls : Cls} {h : Head}

/-- The blocks at which a head's enable acts. -/
def State.headEnStored (s : State) (dt : Nat) (cls : Cls) (h : Head) : Block := s.headCtlStored dt cls F.FET_HEAD_CTL_EN 1 h

theorem headEnStored_finds : s.FindsFettler (s.headEnStored dt cls h) := headCtlStored_finds ..

/-- The enable changes EN alone of the control register. -/
theorem headEnStored_ctl : (s.headEnStored dt cls h).reg (F.FET_HEAD_CTL_EN.at h.val) =
    F.FET_HEAD_CTL_EN.into (s.blk.reg (F.FET_HEAD_CTL_EN.at h.val)) 1 := by
  rw [State.headEnStored, headCtlStored_reg, if_pos rfl]
  exact Fld.merge_into (by unfold Fld.fits; decide) (by decide) _ _

theorem headEnStored_on : (s.headEnStored dt cls h).on F.FET_HEAD_CTL_EN h.val = true := by
  rw [Block.on, Block.get, headEnStored_ctl, Fld.of_into _ (by unfold Fld.fits; decide)]
  rfl

theorem headEnStored_refusal : fetRefusal (s.headEnStored dt cls h) h.val = fetRefusal s.blk h.val := by
  have hmark : ∀ f : Fld, f.at h.val = 0x241004 + 0x20 * h.val →
      (s.headEnStored dt cls h).get f h.val = s.blk.get f h.val := fun f hf => by
    have hctl := fetHeadCtl_at h.val
    rw [Block.get, Block.get, State.headEnStored, headCtlStored_reg, if_neg (by omega), opened_reg (by omega)]
  have hcorner : (s.headEnStored dt cls h).get F.FET_HEAD_CTL_CORNER h.val = s.blk.get F.FET_HEAD_CTL_CORNER h.val :=
    (congrArg F.FET_HEAD_CTL_CORNER.of headEnStored_ctl).trans
      (Fld.of_into_apart F.FET_HEAD_CTL_EN F.FET_HEAD_CTL_CORNER (by unfold Fld.fits; decide) (by unfold Fld.apart; decide) _ _)
  refine fetRefusal_kept headEnStored_finds.touches headEnStored_finds.fets h.isLt (hmark _ ?_) (hmark _ ?_) hcorner
  · simp only [Fld.at, F.FET_HEAD_MARK_INSET_X]
    omega
  · simp only [Fld.at, F.FET_HEAD_MARK_INSET_B]
    omega

variable (hw : Writable s cls (F.FET_HEAD_CTL_EN.at h.val)) (hc : Calm s 36) (hn : headBands s.blk h.val = false)
include hw hc hn

/-- An enable of a head that is not enabled is its check. -/
theorem exec_fettlerHeadEnable (hoff : s.blk.on F.FET_HEAD_CTL_EN h.val = false) : exec (.fettlerHeadEnable dt cls h) s =
    .next (s.answers dt (fetEnable (s.pass dt).clk h.val (s.headEnStored dt cls h))) := by
  have hword : F.FET_HEAD_CTL_REARM.of (fetWord s Rg.FET_HEAD_CTL F.FET_HEAD_CTL_EN 1 h) = 0 :=
    (Fld.of_into_apart F.FET_HEAD_CTL_EN F.FET_HEAD_CTL_REARM (by unfold Fld.fits; decide) (by unfold Fld.apart; decide) _ _).trans
      (Fld.of_and_zero (by unfold Fld.fits; decide) (by decide) _)
  refine (writeField_headCtl 1 rfl (by unfold Fld.fits; decide) (by decide) hw hc hn).trans ?_
  rw [hword, hoff]
  refine congrArg (fun b => Host.Outcome.next (s.answers dt b)) ?_
  exact if_pos (by rw [← State.headEnStored, headEnStored_on]; rfl)

variable (hq : s.blk.quiet = true) (hoff : s.blk.on F.FET_HEAD_CTL_EN h.val = false)
include hq hoff

/-- A head that no limit forbids is enabled, with no band checked yet. -/
theorem fettlerHeadEnable_accepts (hr : fetRefusal s.blk h.val = 0) :
    ∃ t : State, exec (.fettlerHeadEnable dt cls h) s = .next t ∧ Claims.only s t dt [36, 2] ∧
      t.blk.on F.FET_HEAD_CTL_EN h.val = true ∧ (t.blk.fet h.val).bands = [] := by
  have hfound : s.FindsFettler (s.headEnStored dt cls h) := headEnStored_finds
  refine ⟨_, exec_fettlerHeadEnable hw hc hn hoff, ?_, ?_, ?_⟩ <;> rw [fetEnable_ok (headEnStored_refusal.trans hr)]
  · exact State.answers_only hq (hfound.touches.setFet ..) hfound.evq
  · rw [State.answers_on, fetResume, Block.on_setFet, headEnStored_on]
  · rw [State.answers_fet, fetResume, Block.fet_setFet_same]

/-- A head without an enabled slot is refused. -/
theorem fettlerHeadEnable_refuses (hslot : s.blk.slotOf h.val = none) :
    ∃ t : State, exec (.fettlerHeadEnable dt cls h) s = .next t ∧ Claims.within s t dt [36, 2] ∧
      Claims.records s t [0x2409] ∧ t.blk.on F.FET_HEAD_CTL_EN h.val = false ∧ t.blk.on F.FET_EVT_CFG_ERR = true := by
  have hfound : s.FindsFettler (s.headEnStored dt cls h) := headEnStored_finds
  have href : fetRefusal (s.headEnStored dt cls h) h.val = 1 := by
    rw [headEnStored_refusal, fetRefusal, hslot]
    rfl
  have hctl := fetHeadCtl_at h.val
  refine ⟨_, exec_fettlerHeadEnable hw hc hn hoff, ?_, ?_, ?_, ?_⟩ <;> rw [fetEnable_refused (by rw [href]; decide)]
  · exact State.answers_within hq (((hfound.touches.flag (by rw [hctl, List.mem_cons]; omega) _).evt (by decide)).record ..)
  · rw [Claims.records, State.answers_evq, Block.record_codes]
    exact congrArg (fun l => l.map (·.code) ++ _) hfound.evq
  · rw [State.answers_on, Block.on_record]
    refine (congrArg (· == 1) (Block.get_put_other _ F.FET_EVT_CFG_ERR F.FET_HEAD_CTL_EN 1 _ _ _ _ _ _ ?_)).trans
      (Block.on_flag_same _ F.FET_HEAD_CTL_EN (by unfold Fld.fits; decide) rfl false ..)
    rw [hctl]
    simp only [Fld.at, F.FET_EVT_CFG_ERR]
    omega
  · rw [State.answers_on, Block.on_record]
    exact Block.on_evt _ (by unfold Fld.fits; decide) rfl ..

end Enable

/-! ## The re-arm -/

section Rearm

variable {s : State} {dt : Nat} {cls : Cls} {h : Head}

/-- The blocks at which a re-arm acts. -/
def State.rearmStored (s : State) (dt : Nat) (cls : Cls) (h : Head) : Block := s.headCtlStored dt cls F.FET_HEAD_CTL_REARM 1 h

/-- No register of the part but the matrix's status has changed then. -/
theorem rearmStored_reg (a : Nat) : (s.rearmStored dt cls h).reg a = (s.opened dt cls.val).reg a := by
  rw [State.rearmStored, headCtlStored_reg]
  split
  · next ha =>
    subst ha
    rw [opened_reg (by rw [fetHeadCtl_at]; omega)]
    exact Fld.merge_into_outside (f := F.FET_HEAD_CTL_REARM) (by unfold Fld.fits; decide) (by decide) _ _
  · rfl

theorem rearmStored_touches : Block.Touches [2] s.blk (s.rearmStored dt cls h) :=
  (s.opened_touches dt cls.val (List.mem_singleton_self 2)).trans ⟨rfl, rfl, rfl, rfl, fun a _ => rearmStored_reg a⟩

theorem rearmStored_on {f : Fld} (i : Nat) (hf : f.at i / 0x10000 ≠ 2) : (s.rearmStored dt cls h).on f i = s.blk.on f i :=
  rearmStored_touches.on f i 0 0 (by rwa [List.mem_singleton])

variable (hw : Writable s cls (F.FET_HEAD_CTL_EN.at h.val)) (hc : Calm s 36) (hn : headBands s.blk h.val = false)
  (hq : s.blk.quiet = true)
include hw hc hn

theorem exec_rearm : exec (.rearm dt cls h) s = .next (s.answers dt (rearm h.val (s.rearmStored dt cls h))) := by
  have hword : F.FET_HEAD_CTL_REARM.of (fetWord s Rg.FET_HEAD_CTL F.FET_HEAD_CTL_REARM 1 h) = 1 :=
    Fld.of_into _ (by unfold Fld.fits; decide) ..
  have hen : (s.rearmStored dt cls h).on F.FET_HEAD_CTL_EN h.val = s.blk.on F.FET_HEAD_CTL_EN h.val :=
    rearmStored_on _ (by rw [fetHeadCtl_at]; omega)
  refine (writeField_headCtl (f := F.FET_HEAD_CTL_REARM) 1 rfl (by unfold Fld.fits; decide) (by decide) hw hc hn).trans ?_
  rw [hword, ← hen]
  exact congrArg (fun b => Host.Outcome.next (s.answers dt b)) (headCtlActs_rearms ..)

include hq

/-- A head that was stopped is re-armed. -/
theorem rearm_stopped (hst : s.blk.on F.FET_HEAD_STAT_STOPPED h.val = true) :
    ∃ t : State, exec (.rearm dt cls h) s = .next t ∧ Claims.within s t dt [36, 2] ∧ Claims.records s t [0x2408] ∧
      t.blk.on F.FET_HEAD_STAT_STOPPED h.val = false ∧ t.blk.on F.FET_HEAD_CTL_EN h.val = s.blk.on F.FET_HEAD_CTL_EN h.val := by
  have hwin : F.FET_HEAD_STAT_STOPPED.at h.val / 0x10000 = 36 := fetHeadStat_window h.isLt
  have hold : (s.rearmStored dt cls h).on F.FET_HEAD_STAT_STOPPED h.val = true :=
    (rearmStored_on _ (by rw [hwin]; decide)).trans hst
  have hstored : s.FindsFettler (s.rearmStored dt cls h) := headCtlStored_finds ..
  refine ⟨_, exec_rearm hw hc hn, ?_, ?_, ?_, ?_⟩ <;> rw [rearm, if_pos hold]
  · exact State.answers_within hq ((hstored.touches.flag (by rw [hwin]; decide) false).record ..)
  · rw [Claims.records, State.answers_evq, Block.record_codes]
    exact congrArg (fun l => l.map (·.code) ++ _) hstored.evq
  · rw [State.answers_on, Block.on_record]
    exact Block.on_flag_same _ F.FET_HEAD_STAT_STOPPED (by unfold Fld.fits; decide) rfl false ..
  · rw [State.answers_on, Block.on_record]
    refine (congrArg (· == 1) (Block.get_put_other _ F.FET_HEAD_STAT_STOPPED F.FET_HEAD_CTL_EN _ _ _ _ _ _ _ ?_)).trans
      (rearmStored_on _ (by rw [fetHeadCtl_at]; omega))
    simp only [Fld.at, F.FET_HEAD_STAT_STOPPED, F.FET_HEAD_CTL_EN]
    omega

/-- A head that was not stopped stays as it is. -/
theorem rearm_running (hst : s.blk.on F.FET_HEAD_STAT_STOPPED h.val = false) :
    ∃ t : State, exec (.rearm dt cls h) s = .next t ∧ Claims.only s t dt [2] := by
  have hwin : F.FET_HEAD_STAT_STOPPED.at h.val / 0x10000 = 36 := fetHeadStat_window h.isLt
  have hold : (s.rearmStored dt cls h).on F.FET_HEAD_STAT_STOPPED h.val = false :=
    (rearmStored_on _ (by rw [hwin]; decide)).trans hst
  refine ⟨_, exec_rearm hw hc hn, ?_⟩
  rw [rearm, if_neg (by simp [hold])]
  exact State.answers_only hq rearmStored_touches rfl

end Rearm

end Sys2Proof.Machine
end

section
/-! DIM_REQUEST: a write of REQ of a head's dimming register (R204). -/

namespace Sys2Proof.Machine

open Sys2Proof

theorem fetDim_triggers : Rg.FET_HEAD_DIM.TriggersFettler :=
  ⟨rfl, by decide, rfl, rfl, rfl, by decide, by decide, by decide⟩

set_option maxRecDepth 8000 in
theorem regAt_fetDim : ∀ h : Head, regAt (F.FET_HEAD_DIM_REQ.at h.val) = some (Rg.FET_HEAD_DIM, [h.val]) := by decide

theorem fetDim_at (h : Nat) : F.FET_HEAD_DIM_REQ.at h = 0x241008 + 0x20 * h := by
  simp only [Fld.at, F.FET_HEAD_DIM_REQ]
  omega

/-- The registers that a write of REQ may change: the matrix's status, and the Fettler's events where LEVEL holds a reserved value. -/
def dimRegs : Set Nat := {F.MTX_STAT_GATED.addr, F.FET_EVT_WIGN.addr}

theorem not_mem_dimRegs {a : Nat} (h2 : a / 0x10000 ≠ 2) (h8 : a ≠ 0x240008) : a ∉ dimRegs := by
  simp only [dimRegs, Set.mem_insert_iff, Set.mem_singleton_iff, F.MTX_STAT_GATED, F.FET_EVT_WIGN]
  omega

/-- A reserved LEVEL stays as last written, with WIGN (R18). -/
theorem fieldRules_fetDim (ix : List Nat) (a : Nat) (v : Word) (b : Block) : fieldRules Rg.FET_HEAD_DIM ix a v b =
    if F.FET_HEAD_DIM_LEVEL.of v < 32 || 256 < F.FET_HEAD_DIM_LEVEL.of v then
      (F.FET_HEAD_DIM_LEVEL.into v (F.FET_HEAD_DIM_LEVEL.of (b.written a)), b.wign a)
    else (v, b) := rfl

/-- The trigger of a head's dimming register, read field by field. -/
theorem actWrite_fetDim (c : Clk) (m : Mem) (k : Nat) (v : Word) (b : Block) (h : Nat) :
    actWrite c m k Rg.FET_HEAD_DIM [h] (F.FET_HEAD_DIM_REQ.at h) [] (BitVec.ofNat 32 0x371FF) v none b =
      dimWrite h (F.FET_HEAD_DIM_REQ.of v)
        (b.store32 (F.FET_HEAD_DIM_REQ.at h) (BitVec.ofNat 32 0x371FF &&& storeMask Rg.FET_HEAD_DIM) v) := by
  have hmask : F.FET_HEAD_DIM_REQ.of (v &&& BitVec.ofNat 32 0x371FF) = F.FET_HEAD_DIM_REQ.of v :=
    Fld.of_and (by unfold Fld.fits; decide) (by decide) v
  rw [← hmask]
  rfl

/-- Nothing waits for a register of a calm window. -/
theorem State.opened_written {s : State} {dt cls w p : Nat} (hc : Calm s w) (hp : p / 0x10000 = w) :
    (s.opened dt cls).written p = (s.opened dt cls).reg p := by
  obtain ⟨hL, hF, -⟩ := hc
  refine foldl_skip _ _ _ fun q hq v => if_neg fun e => ?_
  rcases List.mem_append.1 hq with hm | hm
  · exact hL q hm (e ▸ hp)
  · exact hF q hm (e ▸ hp)

section Request

variable {s : State} {dt : Nat} {cls : Cls} {h : Head} {req : Fin 4}

/-- The write keeps its word, and finds what it finds but for WIGN. -/
theorem fetDim_rules (x : Nat) (hc : Calm s 36) : ∃ b, s.FindsFettler b ∧ Block.Alters dimRegs s.blk b ∧
    fieldRules Rg.FET_HEAD_DIM [h.val] (F.FET_HEAD_DIM_REQ.at h.val) (fetWord s Rg.FET_HEAD_DIM F.FET_HEAD_DIM_REQ x h)
      (s.opened dt cls.val) = (fetWord s Rg.FET_HEAD_DIM F.FET_HEAD_DIM_REQ x h, b) := by
  have hat := fetDim_at h.val
  have hopen : Block.Alters dimRegs s.blk (s.opened dt cls.val) :=
    (s.opened_finds dt cls.val).alters.mono (Set.singleton_subset_iff.2 (Set.mem_insert ..))
  rw [fieldRules_fetDim]
  split
  · have hlevel : F.FET_HEAD_DIM_LEVEL.of ((s.opened dt cls.val).written (F.FET_HEAD_DIM_REQ.at h.val)) =
        F.FET_HEAD_DIM_LEVEL.of (fetWord s Rg.FET_HEAD_DIM F.FET_HEAD_DIM_REQ x h) := by
      rw [State.opened_written hc (by omega), opened_reg (by omega), fetWord,
        Fld.of_into_apart F.FET_HEAD_DIM_REQ F.FET_HEAD_DIM_LEVEL (by unfold Fld.fits; decide) (by unfold Fld.apart; decide),
        Fld.of_and (by unfold Fld.fits; decide) (by decide)]
    have hwign : (s.opened dt cls.val).wign (F.FET_HEAD_DIM_REQ.at h.val) = (s.opened dt cls.val).evt F.FET_EVT_WIGN :=
      Block.wign_fettler _ (by omega)
    refine ⟨(s.opened dt cls.val).wign (F.FET_HEAD_DIM_REQ.at h.val), (State.FindsFettler.opened s dt cls.val).wign (by omega), ?_, ?_⟩
    · rw [hwign]
      exact hopen.evt (Set.mem_insert_of_mem _ rfl)
    · rw [hlevel, Fld.into_of (by unfold Fld.fits; decide)]
  · exact ⟨_, .opened s dt cls.val, hopen, rfl⟩

/-- A write of REQ, let through, is the request on blocks whose other registers are those it finds. -/
theorem exec_dimRequest (hw : Writable s cls (F.FET_HEAD_DIM_REQ.at h.val)) (hc : Calm s 36) (hn : headBands s.blk h.val = false) :
    ∃ b, s.FindsFettler b ∧ Block.Alters dimRegs s.blk b ∧
      exec (.dimRequest dt cls h req) s = .next (s.answers dt (dimWrite h.val req.val b)) := by
  have hat := fetDim_at h.val
  obtain ⟨b, hb, halters, hrules⟩ := fetDim_rules (dt := dt) (cls := cls) (h := h) req.val hc
  have hreg : b.reg (F.FET_HEAD_DIM_REQ.at h.val) = s.blk.reg (F.FET_HEAD_DIM_REQ.at h.val) :=
    halters.reg _ (not_mem_dimRegs (by omega) (by omega))
  have hword : F.FET_HEAD_DIM_REQ.of (fetWord s Rg.FET_HEAD_DIM F.FET_HEAD_DIM_REQ req.val h) = req.val :=
    (Fld.of_into _ (by unfold Fld.fits; decide) ..).trans (Nat.mod_eq_of_lt req.isLt)
  refine ⟨b.ladStored Rg.FET_HEAD_DIM (F.FET_HEAD_DIM_REQ.at h.val) (fetWord s Rg.FET_HEAD_DIM F.FET_HEAD_DIM_REQ req.val h),
    hb.stored _ (by omega) _, halters.trans ⟨rfl, rfl, rfl, fun a _ => ?_⟩, ?_⟩
  · rw [fetDim_triggers.stored_reg]
    split
    · next ha =>
      subst ha
      rw [hreg]
      exact Fld.merge_into_outside (f := F.FET_HEAD_DIM_REQ) (by unfold Fld.fits; decide) (by decide) _ _
    · rfl
  · refine (writeField_fettler (f := F.FET_HEAD_DIM_REQ) req.val hw hc hn (by omega) (by omega) (regAt_fetDim h) fetDim_triggers
      (by unfold Fld.fits; decide) (by decide) hb hreg hrules).trans ?_
    refine congrArg (fun b => Host.Outcome.next (s.answers dt b)) ((actWrite_fetDim ..).trans ?_)
    rw [hword]
    rfl

/-- The request that REQ asks for, none for 0 and 3 (R204). -/
def dimAsked (b : Block) (h : Nat) (req : Fin 4) : List DimReq :=
  if req = 1 ∨ req = 2 then
    [{ lit := decide (req = 1), target := (b.fidx h + b.get F.FET_DIM_CFG_AHEAD) % 2 ^ 48, late := false }]
  else []

/-- In a unit that does not forward, a request is kept and no more. -/
theorem dimRequest_keeps {b : Block} {n : Nat} (hf : b.forwards = false) (lit : Bool) : dimRequest n lit b =
    b.setFet n { b.fet n with dims := (b.fet n).dims ++
      [{ lit := lit, target := (b.fidx n + b.get F.FET_DIM_CFG_AHEAD) % 2 ^ 48, late := false }] } := by
  unfold dimRequest
  exact if_neg (by rw [show (b.setFet n _).forwards = b.forwards from rfl, hf]; decide)

/-- Such a unit's write of REQ keeps what it asks for, and changes no register, record or output. -/
theorem dimWrite_keeps {b : Block} {n : Nat} (hf : b.forwards = false) :
    Block.Touches [36, 2] b (dimWrite n req.val b) ∧ (dimWrite n req.val b).evq = b.evq ∧
      ((dimWrite n req.val b).fet n).dims = (b.fet n).dims ++ dimAsked b n req := by
  unfold dimWrite dimAsked
  have h1v : req.val = 1 ↔ req = 1 := (Fin.ext_iff (a := req) (b := 1)).symm
  have h2v : req.val = 2 ↔ req = 2 := (Fin.ext_iff (a := req) (b := 2)).symm
  simp only [h1v, h2v]
  by_cases h1 : req = 1
  · rw [if_pos h1, if_pos (.inl h1), dimRequest_keeps hf, Block.fet_setFet_same, decide_eq_true h1]
    exact ⟨(Block.Touches.refl _ b).setFet .., rfl, rfl⟩
  by_cases h2 : req = 2
  · rw [if_neg h1, if_pos h2, if_pos (.inr h2), dimRequest_keeps hf, Block.fet_setFet_same, decide_eq_false h1]
    exact ⟨(Block.Touches.refl _ b).setFet .., rfl, rfl⟩
  rw [if_neg h1, if_neg h2, if_neg (not_or.2 ⟨h1, h2⟩), List.append_nil]
  exact ⟨.refl _ b, rfl, rfl⟩

theorem dimRequest_asks (hw : Writable s cls (F.FET_HEAD_DIM_REQ.at h.val)) (hc : Calm s 36) (hn : headBands s.blk h.val = false)
    (hq : s.blk.quiet = true) (hf : s.blk.forwards = false) :
    ∃ t : State, exec (.dimRequest dt cls h req) s = .next t ∧ Claims.only s t dt [36, 2] ∧
      (t.blk.fet h.val).dims = (s.blk.fet h.val).dims ++ dimAsked s.blk h.val req := by
  obtain ⟨b, hb, halters, hexec⟩ := exec_dimRequest (dt := dt) (req := req) hw hc hn
  have hget : ∀ f : Fld, f.at h.val / 0x10000 ≠ 2 → f.at h.val ≠ 0x240008 → b.get f h.val = s.blk.get f h.val :=
    fun f h2 h8 => halters.get (not_mem_dimRegs h2 h8)
  have hforwards : b.forwards = false := by
    have hpair : ∀ f : Fld, f.at 0 / 0x10000 = 5 → b.get f = s.blk.get f := fun f hf =>
      halters.get (not_mem_dimRegs (by omega) (by omega))
    rw [← hf, Block.forwards, Block.forwards, Block.paired, Block.paired, Block.on, Block.on, Block.on, Block.on,
      hpair F.PAIR_CFG_MODE (by decide), hpair F.PAIR_STAT_LINK (by decide), hpair F.PAIR_STAT_ROLE (by decide)]
  have hasked : dimAsked b h.val req = dimAsked s.blk h.val req := by
    have hidx : b.fidx h.val = s.blk.fidx h.val := by
      rw [Block.fidx, Block.fidx, Block.get2, Block.get2, hget F.FET_PKT_FIDX_LO_F_LO, hget F.FET_PKT_FIDX_HI_F_HI] <;>
        simp only [Fld.at, F.FET_PKT_FIDX_LO_F_LO, F.FET_PKT_FIDX_HI_F_HI] <;> omega
    have hahead : b.get F.FET_DIM_CFG_AHEAD = s.blk.get F.FET_DIM_CFG_AHEAD :=
      halters.get (not_mem_dimRegs (by decide) (by decide))
    rw [dimAsked, dimAsked, hidx, hahead]
  obtain ⟨ht, hevq, hdims⟩ := dimWrite_keeps (req := req) (n := h.val) hforwards
  refine ⟨_, hexec, State.answers_only hq (hb.touches.trans ht) (hevq.trans hb.evq), ?_⟩
  rw [State.answers_fet, hdims, hasked, hb.fet]

end Request

end Sys2Proof.Machine
end

section
/-! MARK_READBACK: the pour mark read back, once in a frame (R208, R209). -/

namespace Sys2Proof.Machine

open Sys2Proof

/-- The mark's eight lines read as they were to be drawn. -/
def markReads (b : Block) (h : Nat) (lines : List (List Nat)) : Prop :=
  lines.length = 8 ∧ ∀ cell, cell < 6 →
    cellReads lines cell (flatSamples b h (markColour b (cellSet (b.get F.FET_HEAD_STAT_GRAY h) cell))) = true

/-- A readback is shown: the Gray count expected, the one read where it is valid, and whether the mark matched. -/
def Block.showMark (h g readG : Nat) (valid ok : Bool) (b : Block) : Block :=
  (((b.put F.FET_HEAD_RB_EXP_G g h).put F.FET_HEAD_RB_READ_G readG h).flag F.FET_HEAD_RB_VALID valid h).flag F.FET_HEAD_RB_MATCH ok h

/-- A mark that does not match: the mismatch is counted, flagged and recorded as `code` (R209). -/
def noteMismatch (h g code : Nat) (b : Block) : Block :=
  let b := (b.inc F.FET_HEAD_RB_MISMATCH h).evt F.FET_EVT_READBACK
  b.record 0x2407 6 h (b.fidx h) g code

/-- A head stops, and its stream with it: what it sends last belongs to the mark's band (R209, R223). -/
def haltStream (h band : Nat) (b : Block) : Block :=
  let stop := if b.get F.FET_PKT_STAT_STATE h = 2 then some (16 * band + 18) else none
  let b := b.flag F.FET_HEAD_STAT_STOPPED true h
  (b.put F.FET_PKT_STAT_STATE 4 h).setFet h { b.fet h with lastLive := stop }

/-- A mark that does not match stops its head. -/
def stopHead (h band g code : Nat) (b : Block) : Block := haltStream h band (noteMismatch h g code b)

/-- Whether each of the mark's four data cells reads as set, and as not set. -/
def markData (b : Block) (h : Nat) (lines : List (List Nat)) : List (Bool × Bool) :=
  [1, 2, 3, 4].map fun i =>
    (cellReads lines i (flatSamples b h (markColour b true)), cellReads lines i (flatSamples b h (markColour b false)))

/-- The Gray count that the data cells read as, and whether each of them reads as a colour of the mark. -/
def readGray (b : Block) (h : Nat) (lines : List (List Nat)) : Nat := (markData b h lines).foldl (fun v d => 2 * v + b2n d.1) 0
def readValid (b : Block) (h : Nat) (lines : List (List Nat)) : Bool := (markData b h lines).all fun d => d.1 || d.2

/-- Whether the mark's lines read as they were to be drawn, cell by cell. -/
def readsRight (b : Block) (h : Nat) (lines : List (List Nat)) : Bool :=
  lines.length = 8 && (List.range 6).all fun i => cellReads lines i
    (if cellSet (b.get F.FET_HEAD_STAT_GRAY h) i then flatSamples b h (markColour b true) else flatSamples b h (markColour b false))

/-- The blocks at which a readback is shown: its frame has been read. -/
def Block.readOnce (h : Nat) (b : Block) : Block := b.setFet h { b.fet h with readFrame := b.frameOf h + 1 }

/-- What is read back of a mark is shown. -/
def Block.showRead (h : Nat) (lines : List (List Nat)) (ok : Bool) (b : Block) : Block :=
  (b.readOnce h).showMark h (b.get F.FET_HEAD_STAT_GRAY h) (readGray b h lines) (readValid b h lines) ok

section Read

variable {b : Block} {h : Nat} {lines : List (List Nat)} {q : CheckedBand}

/-- The readback of a head that is due for one. -/
structure ReadDue (b : Block) (h : Nat) (q : CheckedBand) : Prop where
  band : b.bandOfRow h (16 * (markPlace b h).2.toNat) = some q
  runs : b.fetRuns h = true
  fits : markOk b h = true
  formed : markFormed b h (markPlace b h).2.toNat = true
  first : (b.fet h).readFrame ≠ b.frameOf h + 1

theorem readsRight_iff : readsRight b h lines = true ↔ markReads b h lines := by
  have hcell : ∀ i, flatSamples b h (markColour b (cellSet (b.get F.FET_HEAD_STAT_GRAY h) i)) =
      if cellSet (b.get F.FET_HEAD_STAT_GRAY h) i then flatSamples b h (markColour b true)
      else flatSamples b h (markColour b false) := fun i => by
    cases cellSet (b.get F.FET_HEAD_STAT_GRAY h) i <;> rfl
  simp only [readsRight, markReads, hcell, Bool.and_eq_true, decide_eq_true_eq, List.all_eq_true, List.mem_range]

/-- A readback that is due shows what it read, and stops the head where the mark does not match. -/
theorem markReadback_due (hd : ReadDue b h q) : markReadback h (some lines) b =
    if readsRight b h lines then b.showRead h lines (readsRight b h lines)
    else stopHead h (markPlace b h).2.toNat (b.get F.FET_HEAD_STAT_GRAY h)
      (if readValid b h lines then readGray b h lines else readGray b h lines + 16)
      (b.showRead h lines (readsRight b h lines)) := by
  obtain ⟨hband, hruns, hfits, hformed, hfirst⟩ := hd
  unfold markReadback
  simp only [hband, hruns, hfits, hformed, hfirst, Bool.not_true, Bool.or_self, decide_false, Bool.false_eq_true, if_false]
  rfl

end Read

/-! ## What a readback shows -/

section Shown

variable (b : Block) (h : Nat) (lines : List (List Nat)) (ok : Bool)

theorem fetHeadRb_at : F.FET_HEAD_RB_EXP_G.at h = 0x24101C + 0x20 * h := by
  simp only [Fld.at, F.FET_HEAD_RB_EXP_G]
  omega

theorem fetPktState_at : F.FET_PKT_STAT_STATE.at h = 0x249014 + 0x80 * h := by
  simp only [Fld.at, F.FET_PKT_STAT_STATE]
  omega

theorem fetHeadStat_at : F.FET_HEAD_STAT_STOPPED.at h = 0x24100C + 0x20 * h := by
  simp only [Fld.at, F.FET_HEAD_STAT_STOPPED]
  omega

variable {h} in
theorem showRead_touches (hh : h < 64) : Block.Touches [36] b (b.showRead h lines ok) := by
  have hrb : F.FET_HEAD_RB_EXP_G.at h / 0x10000 ∈ [36] := by
    rw [fetHeadRb_at, List.mem_singleton]
    omega
  exact (((((Block.Touches.refl [36] b).setFet ..).put hrb _).put (f := F.FET_HEAD_RB_READ_G) hrb _).flag
    (f := F.FET_HEAD_RB_VALID) hrb _).flag (f := F.FET_HEAD_RB_MATCH) hrb ok

theorem showRead_evq : (b.showRead h lines ok).evq = b.evq := by
  unfold Block.showRead Block.showMark Block.readOnce Block.flag
  rw [Block.put_evq, Block.put_evq, Block.put_evq, Block.put_evq, Block.evq_setFet]

theorem showRead_exp : (b.showRead h lines ok).get F.FET_HEAD_RB_EXP_G h = b.get F.FET_HEAD_STAT_GRAY h := by
  unfold Block.showRead Block.showMark
  rw [Block.flag, Block.get_put_apart _ _ _ (by unfold Fld.fits; decide) (by unfold Fld.apart; decide), Block.flag,
    Block.get_put_apart _ _ _ (by unfold Fld.fits; decide) (by unfold Fld.apart; decide),
    Block.get_put_apart _ _ _ (by unfold Fld.fits; decide) (by unfold Fld.apart; decide)]
  exact Block.get_put_self _ F.FET_HEAD_RB_EXP_G (by decide) (Block.get_lt b F.FET_HEAD_STAT_GRAY ..) ..

theorem showRead_match : (b.showRead h lines ok).on F.FET_HEAD_RB_MATCH h = ok :=
  Block.on_flag_same _ F.FET_HEAD_RB_MATCH (by unfold Fld.fits; decide) rfl ok ..

theorem showRead_mismatch : (b.showRead h lines ok).get F.FET_HEAD_RB_MISMATCH h = b.get F.FET_HEAD_RB_MISMATCH h := by
  unfold Block.showRead Block.showMark
  rw [Block.flag, Block.get_put_apart _ _ _ (by unfold Fld.fits; decide) (by unfold Fld.apart; decide), Block.flag,
    Block.get_put_apart _ _ _ (by unfold Fld.fits; decide) (by unfold Fld.apart; decide),
    Block.get_put_apart _ _ _ (by unfold Fld.fits; decide) (by unfold Fld.apart; decide),
    Block.get_put_apart _ _ _ (by unfold Fld.fits; decide) (by unfold Fld.apart; decide)]
  rfl

end Shown

section Stop

variable (b : Block) (h band g code : Nat)

theorem noteMismatch_get (f : Fld) (i : Nat) : (noteMismatch h g code b).get f i =
    ((b.inc F.FET_HEAD_RB_MISMATCH h).put F.FET_EVT_READBACK 1).get f i := by
  rw [noteMismatch, Block.get_record, Block.get_evt]

theorem noteMismatch_codes : (noteMismatch h g code b).evq.map (·.code) = b.evq.map (·.code) ++ [0x2407] := Block.record_codes ..

theorem haltStream_get (f : Fld) (i : Nat) : (haltStream h band b).get f i =
    ((b.flag F.FET_HEAD_STAT_STOPPED true h).put F.FET_PKT_STAT_STATE 4 h).get f i := by
  rw [haltStream, Block.get_setFet]

theorem haltStream_evq : (haltStream h band b).evq = b.evq := by
  rw [haltStream, Block.evq_setFet]
  rfl

/-- Another register than those of the head's status and its stream's state stays. -/
theorem haltStream_get_other {f : Fld} {i : Nat} (h1 : F.FET_PKT_STAT_STATE.at h ≠ f.at i)
    (h2 : F.FET_HEAD_STAT_STOPPED.at h ≠ f.at i) : (haltStream h band b).get f i = b.get f i := by
  rw [haltStream_get, Block.get_put_other _ _ _ _ _ _ _ _ _ _ h1, Block.flag, Block.get_put_other _ _ _ _ _ _ _ _ _ _ h2]

theorem haltStream_state : (haltStream h band b).get F.FET_PKT_STAT_STATE h = 4 := by
  rw [haltStream_get, Block.get_put_self _ _ (by decide) (by decide)]

theorem haltStream_stopped : (haltStream h band b).on F.FET_HEAD_STAT_STOPPED h = true := by
  rw [Block.on, haltStream_get, Block.get_put_other, ← Block.on, Block.on_flag_same _ _ (by unfold Fld.fits; decide) rfl]
  rw [fetPktState_at, fetHeadStat_at]
  omega

variable {h}

theorem haltStream_touches (hh : h < 64) : Block.Touches [36] b (haltStream h band b) := by
  have hstate : F.FET_PKT_STAT_STATE.at h / 0x10000 ∈ [36] := by
    rw [fetPktState_at, List.mem_singleton]
    omega
  exact (((Block.Touches.refl [36] b).flag (f := F.FET_HEAD_STAT_STOPPED) (List.mem_singleton.2 (fetHeadStat_window hh)) true).put
    hstate 4).setFet ..

theorem noteMismatch_touches (hh : h < 64) : Block.Touches [36] b (noteMismatch h g code b) := by
  have hrb : F.FET_HEAD_RB_MISMATCH.at h / 0x10000 ∈ [36] := by
    rw [show F.FET_HEAD_RB_MISMATCH.at h = F.FET_HEAD_RB_EXP_G.at h from rfl, fetHeadRb_at, List.mem_singleton]
    omega
  exact (((Block.Touches.refl [36] b).inc hrb 1).evt (by decide)).record ..

variable (h)

theorem stopHead_flags : (stopHead h band g code b).on F.FET_EVT_READBACK = true := by
  have hevt : F.FET_EVT_READBACK.at 0 = 0x240008 := rfl
  rw [stopHead, Block.on, haltStream_get_other, noteMismatch_get, ← Block.on, Block.on_put_one _ _ (by decide) rfl]
  · rw [fetPktState_at, hevt]
    omega
  · rw [fetHeadStat_at, hevt]
    omega

/-- The register of the readback changes in its count of mismatches alone. -/
theorem stopHead_get {f : Fld} (hf : f.at h = 0x24101C + 0x20 * h) :
    (stopHead h band g code b).get f h = (b.inc F.FET_HEAD_RB_MISMATCH h).get f h := by
  rw [stopHead, haltStream_get_other, noteMismatch_get, Block.get_put_other]
  · rw [show F.FET_EVT_READBACK.at 0 = 0x240008 from rfl, hf]
    omega
  · rw [fetPktState_at, hf]
    omega
  · rw [fetHeadStat_at, hf]
    omega

/-- Beside that count it stays as it was shown. -/
theorem stopHead_get_apart {f : Fld} (hf : f.at h = 0x24101C + 0x20 * h) (ha : F.FET_HEAD_RB_MISMATCH.apart f) :
    (stopHead h band g code b).get f h = b.get f h := by
  rw [stopHead_get _ _ _ _ _ hf, Block.inc, Block.get_put_apart _ _ _ (by unfold Fld.fits; decide) ha]

end Stop

section Command

variable {s : State} {dt : Nat} {h : Head} {lines : List (List Nat)} {q : CheckedBand} (hh : s.blk.hold = .none)
  (hq : s.blk.quiet = true) (hd : ReadDue (s.found dt) h.val q)
include hh

theorem exec_markReadback : exec (.markReadback dt h (some lines)) s =
    .next (s.ends dt (markReadback h.val (some lines) (s.found dt))) := State.run_eq_ends s dt _ hh

include hq hd

/-- A mark that reads as it was to be drawn. -/
theorem markReadback_matches (hok : markReads s.blk h.val lines) :
    ∃ t : State, exec (.markReadback dt h (some lines)) s = .next t ∧ Claims.only s t dt [36] ∧
      t.blk.get F.FET_HEAD_RB_EXP_G h.val = s.blk.get F.FET_HEAD_STAT_GRAY h.val ∧ t.blk.on F.FET_HEAD_RB_MATCH h.val = true := by
  have hright : readsRight (s.found dt) h.val lines = true := readsRight_iff.2 hok
  have hexec := exec_markReadback (dt := dt) (h := h) (lines := lines) hh
  rw [markReadback_due hd, if_pos hright, hright] at hexec
  refine ⟨_, hexec, State.ends_only hq ((s.found_touches dt _).trans (showRead_touches _ _ _ h.isLt)) (showRead_evq ..), ?_, ?_⟩
  · rw [State.ends_get, showRead_exp]
    rfl
  · rw [State.ends_on, showRead_match]

/-- A mark that does not stops its head. -/
theorem markReadback_stops (hok : ¬ markReads s.blk h.val lines) :
    ∃ t : State, exec (.markReadback dt h (some lines)) s = .next t ∧ Claims.within s t dt [36] ∧ Claims.records s t [0x2407] ∧
      t.blk.get F.FET_HEAD_RB_EXP_G h.val = s.blk.get F.FET_HEAD_STAT_GRAY h.val ∧ t.blk.on F.FET_HEAD_RB_MATCH h.val = false ∧
      t.blk.get F.FET_HEAD_RB_MISMATCH h.val =
        min (2 ^ F.FET_HEAD_RB_MISMATCH.width - 1) (s.blk.get F.FET_HEAD_RB_MISMATCH h.val + 1) ∧
      t.blk.on F.FET_HEAD_STAT_STOPPED h.val = true ∧ t.blk.on F.FET_EVT_READBACK = true ∧
      t.blk.get F.FET_PKT_STAT_STATE h.val = 4 := by
  have hwrong : readsRight (s.found dt) h.val lines = false := Bool.eq_false_iff.2 fun hr => hok (readsRight_iff.1 hr)
  have hexec := exec_markReadback (dt := dt) (h := h) (lines := lines) hh
  rw [markReadback_due hd, if_neg (by rw [hwrong]; decide), hwrong] at hexec
  have hrb := fetHeadRb_at h.val
  refine ⟨_, hexec, State.ends_within hq (((s.found_touches dt _).trans (showRead_touches _ lines false h.isLt)).trans
    ((noteMismatch_touches _ _ _ h.isLt).trans (haltStream_touches _ _ h.isLt))), ?_, ?_, ?_, ?_, ?_, ?_, ?_⟩
  · rw [Claims.records, State.ends_evq, stopHead, haltStream_evq, noteMismatch_codes]
    rfl
  · rw [State.ends_get, stopHead_get_apart _ _ _ _ _ hrb (by unfold Fld.apart; decide), showRead_exp]
    rfl
  · rw [State.ends_on, Block.on, stopHead_get_apart _ _ _ _ _ (f := F.FET_HEAD_RB_MATCH) hrb (by unfold Fld.apart; decide)]
    exact showRead_match ..
  · rw [State.ends_get, stopHead_get _ _ _ _ _ (f := F.FET_HEAD_RB_MISMATCH) hrb, Block.get_inc _ (by unfold Fld.fits; decide),
      showRead_mismatch]
    rfl
  · rw [State.ends_on, stopHead, haltStream_stopped]
  · rw [State.ends_on, stopHead_flags]
  · rw [State.ends_get, stopHead, haltStream_state]

end Command

/-- Settles O21, command by command. -/
theorem headsAreReadBackAndDimmed : Obligations.HeadsAreReadBackAndDimmed := by
  intro dt h s hq
  refine ⟨fun cls hc hn => ⟨fun hw => ⟨fun hoff => ⟨fettlerHeadEnable_accepts hw hc hn hq hoff,
    fettlerHeadEnable_refuses hw hc hn hq hoff⟩, rearm_stopped hw hc hn hq, rearm_running hw hc hn hq⟩,
    fun hw hf req => dimRequest_asks hw hc hn hq hf⟩, fun hh lines q hband hruns hfits hformed hfirst => ?_⟩
  have hd : ReadDue (s.found dt) h.val q := ⟨hband, hruns, hfits, hformed, hfirst⟩
  exact ⟨markReadback_matches hh hq hd, markReadback_stops hh hq hd⟩

end Sys2Proof.Machine
end
